-- ==== Sys2Proof/Word.lean ====
section
/-! DEFINITION. The word types of the Decden and their plainest views (02 R26, 03 R56, 00 R5). -/

namespace Sys2Proof

/-- A byte of memory (02 R26). -/
abbrev Byte := BitVec 8

/-- A 32-bit lane, limb, mask or instruction word (03 R56). -/
abbrev Word := BitVec 32

/-- A 64-bit scalar register value or address (03 R56). -/
abbrev DWord := BitVec 64

/-- The 32 lanes of one vector register, lane 0 first (03 R56, 00 R5). -/
abbrev Lanes := Vector Word 32

/-- The lanes with every lane 0 (03 R56, the value at warp start). -/
def Lanes.zero : Lanes := Vector.replicate 32 0#32

/-- The bits high..low of a word, both included (00 R6), as a number. -/
def bits {n : Nat} (x : BitVec n) (hi lo : Nat) : Nat := (x.toNat >>> lo) % 2 ^ (hi - lo + 1)

/-- One flag as a number. -/
def b2n (b : Bool) : Nat := if b then 1 else 0

end Sys2Proof
end

