-- ==== Sys2Proof/Syntax.lean ====
section
/-! DEFINITION. The instructions of the Decden: every row of the opcode table is one constructor (04 R90, 95).
The first 213 are instruction words; the rest are the device's events and the host's commands, which have no word. The events that the
default order of the machine names stand before the others, because compiled Lean can build no constructor with fields beyond the 245th. -/

namespace Sys2Proof

/-- A 7-bit operand field as 03 R53 decodes it. -/
inductive Opnd where
  /-- codes 0 to 79, v0 to v79 -/
  | v (i : Fin 80)
  /-- codes 80 to 111, s0 to s31 -/
  | s (i : Fin 32)
  /-- codes 112 to 119, m0 to m7 -/
  | m (i : Fin 8)
  /-- code 120, the constant 0 -/
  | zero
  /-- code 121, the constant 1 -/
  | one
  /-- code 122, the constant minus one -/
  | mone
  /-- code 123, the lane index -/
  | lane
  /-- codes 124 and 125, v[x0] and v[x1] (R55) -/
  | vx (k : Fin 2)
  /-- code 126, s[x2] (R55) -/
  | sx2
  /-- code 127, reserved -/
  | reserved
  deriving DecidableEq, Repr

/-- What an inbound request from a Geten peer asks for (18 R424). -/
inductive InboundKind where
  /-- read `size` bytes -/
  | read
  /-- write the data -/
  | write
  /-- an atomic add of the data, one indivisible step -/
  | atomicAdd
  /-- an atomic of 14 R326 under a MODE: its operation code 0 add, 1 min, 2 max, 3 and, 4 or, 5 xor, 6 swap, 7 compare and swap, whose data are the
  value compared with and the new value -/
  | atomic (op : Fin 8) (mode : BitVec 23)
  /-- a store of one element that is a part of a byte: its first bit, and the MODE whose ETYPE it has (14 R323) -/
  | part (bit : Fin 8) (mode : BitVec 23)
  /-- data of a CPYX for a context, at a virtual address -/
  | cpyx
  /-- the completion flag of a CPYX: an add of 1 at the context's CB + 8 x index -/
  | flag
  /-- the signal add of a QSIG (06 R117, R127) -/
  | signal
  /-- the probe of an ACQR: reads `size` bytes (18 R407) -/
  | probe
  deriving DecidableEq, Repr

/-- An inbound access as it arrives at the module (18 R424). -/
structure InboundReq where
  /-- initiator node -/
  node : BitVec 8
  /-- what is asked -/
  kind : InboundKind
  /-- local physical address, or the virtual address of a CPYX, or the flag index -/
  addr : Nat
  /-- bytes read -/
  size : Nat
  /-- bytes written -/
  data : List (BitVec 8)
  /-- target context of a CPYX -/
  ctx : Fin 64
  /-- TAG of the request, which its answer carries (18 R407) -/
  tag : BitVec 32 := 0
  /-- SRC of the request below its node, to which the answer goes (18 R407) -/
  place : BitVec 24 := 0
  /-- class of the request: 0 spark, 1 ember, 2 log -/
  cls : Fin 3 := 1
  deriving DecidableEq, Repr

/-- A unit whose health the Frado controller counts (19 R436, 20 R443). -/
inductive HealthUnit where
  /-- physical core c of quadrant q of die d -/
  | core (d : Fin 4) (q : Fin 4) (c : Fin 18)
  /-- L2 slice s of die d -/
  | slice (d : Fin 4) (s : Fin 64)
  /-- HBM channel ch of a stack -/
  | channel (stack : Fin 8) (ch : Fin 32)
  /-- capacity-tier controller k of die d -/
  | capctl (d : Fin 4) (k : Fin 4)
  /-- lane of link i (0 to 5 die-to-die, 6 + p Geten) -/
  | lane (i : Fin 18) (l : Fin 16)
  deriving DecidableEq, Repr

/-- The windows of 19 R436. -/
inductive HealthKind where
  /-- 24 h: cores and slices -/
  | day
  /-- 1 h: channels and capacity controllers -/
  | hour
  /-- 1 s: link lanes -/
  | second
  deriving DecidableEq, Repr

/-- A firmware image as the check of 20 R441 sees it: its version, its SHA-384 and whether each signature verifies. -/
structure FirmwareImage where
  /-- security version -/
  version : Nat
  /-- SHA-384 of the image -/
  digest : BitVec 384
  /-- the RSASSA-PSS signature verifies -/
  rsaOk : Bool
  /-- the SLH-DSA signature verifies -/
  slhOk : Bool
  deriving DecidableEq, Repr

/-- The instructions and events of the opcode table. An operand field is an `Opnd`; a field of a fixed kind
(03 R54), a type code or an immediate keeps its bits, and the meaning checks it at issue (04 R92). -/
inductive Instr where
  /-- NOP (R167) -/
  | nop
  /-- SETMODE (R168) -/
  | setmode (imm : BitVec 23)
  /-- RET (R176) -/
  | ret
  /-- RCV (R169) -/
  | rcv (arm : Bool) (tok : BitVec 22)
  /-- WAITC (R170) -/
  | waitc (rem : Bool) (copy : Bool) (n : BitVec 8)
  /-- YIELD (R167) -/
  | yield
  /-- EXIT (R171) -/
  | exit
  /-- ELECT (R172) -/
  | elect (k : BitVec 3)
  /-- LDL (R173) -/
  | ldl (d : Opnd) (off : BitVec 16)
  /-- LDL2 (R173) -/
  | ldl2 (d : Opnd) (off : BitVec 16)
  /-- LDLN (R173) -/
  | ldln (d : Opnd) (off : BitVec 16)
  /-- TRAP (R174) -/
  | trap (imm : BitVec 23)
  /-- BKPT (R174) -/
  | bkpt (imm : BitVec 23)
  /-- JMPS (R175) -/
  | jmps (k : BitVec 5)
  /-- SALU_MOV (R184) -/
  | saluMov (d : Opnd) (a : Opnd) (wa : Bool)
  /-- SALU_ADD (R184) -/
  | saluAdd (d : Opnd) (a : Opnd) (b : Opnd) (wa : Bool) (wb : Bool)
  /-- SALU_SUB (R184) -/
  | saluSub (d : Opnd) (a : Opnd) (b : Opnd) (wa : Bool) (wb : Bool)
  /-- SALU_MUL (R184) -/
  | saluMul (d : Opnd) (a : Opnd) (b : Opnd) (wa : Bool) (wb : Bool)
  /-- SALU_MULH (R184) -/
  | saluMulh (d : Opnd) (a : Opnd) (b : Opnd) (wa : Bool) (wb : Bool)
  /-- SALU_MAD (R184) -/
  | saluMad (d : Opnd) (a : Opnd) (b : Opnd) (wa : Bool) (wb : Bool)
  /-- SALU_MIN (R184) -/
  | saluMin (d : Opnd) (a : Opnd) (b : Opnd) (wa : Bool) (wb : Bool)
  /-- SALU_MAX (R184) -/
  | saluMax (d : Opnd) (a : Opnd) (b : Opnd) (wa : Bool) (wb : Bool)
  /-- SALU_ABS (R184) -/
  | saluAbs (d : Opnd) (a : Opnd) (wa : Bool)
  /-- SALU_NEG (R184) -/
  | saluNeg (d : Opnd) (a : Opnd) (wa : Bool)
  /-- SALU_AND (R184) -/
  | saluAnd (d : Opnd) (a : Opnd) (b : Opnd) (wa : Bool) (wb : Bool)
  /-- SALU_OR (R184) -/
  | saluOr (d : Opnd) (a : Opnd) (b : Opnd) (wa : Bool) (wb : Bool)
  /-- SALU_XOR (R184) -/
  | saluXor (d : Opnd) (a : Opnd) (b : Opnd) (wa : Bool) (wb : Bool)
  /-- SALU_SHL (R185) -/
  | saluShl (d : Opnd) (a : Opnd) (b : Opnd) (wa : Bool) (wb : Bool)
  /-- SALU_SHR (R185) -/
  | saluShr (d : Opnd) (a : Opnd) (b : Opnd) (wa : Bool) (wb : Bool)
  /-- SALU_SAR (R185) -/
  | saluSar (d : Opnd) (a : Opnd) (b : Opnd) (wa : Bool) (wb : Bool)
  /-- SALU_CMPEQ (R186) -/
  | saluCmpeq (d : Opnd) (a : Opnd) (b : Opnd) (wa : Bool) (wb : Bool)
  /-- SALU_CMPLT (R186) -/
  | saluCmplt (d : Opnd) (a : Opnd) (b : Opnd) (wa : Bool) (wb : Bool)
  /-- SALU_CMPLE (R186) -/
  | saluCmple (d : Opnd) (a : Opnd) (b : Opnd) (wa : Bool) (wb : Bool)
  /-- SALU_CMPNE (R186) -/
  | saluCmpne (d : Opnd) (a : Opnd) (b : Opnd) (wa : Bool) (wb : Bool)
  /-- SALU_SEL (R184) -/
  | saluSel (d : Opnd) (a : Opnd) (b : Opnd) (wa : Bool) (wb : Bool)
  /-- SALU_CVT (R187) -/
  | saluCvt (d : Opnd) (a : Opnd) (ty : BitVec 7) (wa : Bool)
  /-- ADDC (R186) -/
  | addc (d : Opnd) (a : Opnd) (b : Opnd) (wa : Bool) (wb : Bool)
  /-- SUBB (R186) -/
  | subb (d : Opnd) (a : Opnd) (b : Opnd) (wa : Bool) (wb : Bool)
  /-- ROT (R184) -/
  | rot (d : Opnd) (a : Opnd) (b : Opnd) (wa : Bool) (wb : Bool)
  /-- RDLANE (R188) -/
  | rdlane (d : Opnd) (a : Opnd) (b : Opnd) (wa : Bool) (wb : Bool)
  /-- MAND (R189) -/
  | mand (d : Opnd) (a : Opnd) (b : Opnd) (wa : Bool) (wb : Bool)
  /-- MOR (R189) -/
  | mor (d : Opnd) (a : Opnd) (b : Opnd) (wa : Bool) (wb : Bool)
  /-- SALU_CLZ (R184) -/
  | saluClz (d : Opnd) (a : Opnd) (wa : Bool)
  /-- SALU_POPC (R184) -/
  | saluPopc (d : Opnd) (a : Opnd) (wa : Bool)
  /-- MXOR (R189) -/
  | mxor (d : Opnd) (a : Opnd) (b : Opnd) (wa : Bool) (wb : Bool)
  /-- IDXSET (R189) -/
  | idxset (xk : BitVec 7) (a : Opnd) (wa : Bool)
  /-- VALU_MOV (R190) -/
  | valuMov (d : Opnd) (a : Opnd) (wa : Bool)
  /-- VALU_ADD (R190) -/
  | valuAdd (d : Opnd) (a : Opnd) (b : Opnd) (wa : Bool) (wb : Bool)
  /-- VALU_SUB (R190) -/
  | valuSub (d : Opnd) (a : Opnd) (b : Opnd) (wa : Bool) (wb : Bool)
  /-- VALU_MUL (R190) -/
  | valuMul (d : Opnd) (a : Opnd) (b : Opnd) (wa : Bool) (wb : Bool)
  /-- VALU_MULH (R190) -/
  | valuMulh (d : Opnd) (a : Opnd) (b : Opnd) (wa : Bool) (wb : Bool)
  /-- VALU_FMA (R190) -/
  | valuFma (d : Opnd) (a : Opnd) (b : Opnd) (wa : Bool) (wb : Bool)
  /-- VALU_MIN (R190) -/
  | valuMin (d : Opnd) (a : Opnd) (b : Opnd) (wa : Bool) (wb : Bool)
  /-- VALU_MAX (R190) -/
  | valuMax (d : Opnd) (a : Opnd) (b : Opnd) (wa : Bool) (wb : Bool)
  /-- VALU_ABS (R190) -/
  | valuAbs (d : Opnd) (a : Opnd) (wa : Bool)
  /-- VALU_NEG (R190) -/
  | valuNeg (d : Opnd) (a : Opnd) (wa : Bool)
  /-- VALU_AND (R190) -/
  | valuAnd (d : Opnd) (a : Opnd) (b : Opnd) (wa : Bool) (wb : Bool)
  /-- VALU_OR (R190) -/
  | valuOr (d : Opnd) (a : Opnd) (b : Opnd) (wa : Bool) (wb : Bool)
  /-- VALU_XOR (R190) -/
  | valuXor (d : Opnd) (a : Opnd) (b : Opnd) (wa : Bool) (wb : Bool)
  /-- VALU_SHL (R190) -/
  | valuShl (d : Opnd) (a : Opnd) (b : Opnd) (wa : Bool) (wb : Bool)
  /-- VALU_SHR (R190) -/
  | valuShr (d : Opnd) (a : Opnd) (b : Opnd) (wa : Bool) (wb : Bool)
  /-- VALU_SAR (R190) -/
  | valuSar (d : Opnd) (a : Opnd) (b : Opnd) (wa : Bool) (wb : Bool)
  /-- VALU_CMPEQ (R192) -/
  | valuCmpeq (d : Opnd) (a : Opnd) (b : Opnd) (wa : Bool) (wb : Bool)
  /-- VALU_CMPLT (R192) -/
  | valuCmplt (d : Opnd) (a : Opnd) (b : Opnd) (wa : Bool) (wb : Bool)
  /-- VALU_CMPLE (R192) -/
  | valuCmple (d : Opnd) (a : Opnd) (b : Opnd) (wa : Bool) (wb : Bool)
  /-- VALU_CMPNE (R192) -/
  | valuCmpne (d : Opnd) (a : Opnd) (b : Opnd) (wa : Bool) (wb : Bool)
  /-- VALU_SEL (R193) -/
  | valuSel (d : Opnd) (a : Opnd) (b : Opnd) (wa : Bool) (wb : Bool)
  /-- VALU_CVT (R194) -/
  | valuCvt (d : Opnd) (a : Opnd) (ty : BitVec 7) (wa : Bool)
  /-- RCP (R195) -/
  | rcp (d : Opnd) (a : Opnd) (wa : Bool)
  /-- RSQ (R195) -/
  | rsq (d : Opnd) (a : Opnd) (wa : Bool)
  /-- SQRT (R195) -/
  | sqrt (d : Opnd) (a : Opnd) (wa : Bool)
  /-- EXP2 (R195) -/
  | exp2 (d : Opnd) (a : Opnd) (wa : Bool)
  /-- LOG2 (R195) -/
  | log2 (d : Opnd) (a : Opnd) (wa : Bool)
  /-- CLASS (R196) -/
  | vclass (d : Opnd) (a : Opnd) (wa : Bool)
  /-- VALU_CLZ (R190) -/
  | valuClz (d : Opnd) (a : Opnd) (wa : Bool)
  /-- VALU_POPC (R190) -/
  | valuPopc (d : Opnd) (a : Opnd) (wa : Bool)
  /-- DIV (R197) -/
  | div (d : Opnd) (a : Opnd) (b : Opnd) (wa : Bool) (wb : Bool)
  /-- BMM8 (R199) -/
  | bmm8 (d : Opnd) (a : Opnd) (b : Opnd) (wa : Bool) (wb : Bool)
  /-- BDEP (R200) -/
  | bdep (d : Opnd) (a : Opnd) (b : Opnd) (wa : Bool) (wb : Bool)
  /-- BEXT (R200) -/
  | bext (d : Opnd) (a : Opnd) (b : Opnd) (wa : Bool) (wb : Bool)
  /-- BPERM (R201) -/
  | bperm (d : Opnd) (a : Opnd) (b : Opnd) (wa : Bool) (wb : Bool)
  /-- BREV (R201) -/
  | brev (d : Opnd) (a : Opnd) (wa : Bool)
  /-- SHFL (R208) -/
  | shfl (d : Opnd) (a : Opnd) (b : Opnd) (wa : Bool) (wb : Bool)
  /-- SHFLX (R208) -/
  | shflx (d : Opnd) (a : Opnd) (b : Opnd) (wa : Bool) (wb : Bool)
  /-- SHFLUP (R208) -/
  | shflup (d : Opnd) (a : Opnd) (b : Opnd) (wa : Bool) (wb : Bool)
  /-- SHFLDN (R208) -/
  | shfldn (d : Opnd) (a : Opnd) (b : Opnd) (wa : Bool) (wb : Bool)
  /-- VALL (R209) -/
  | vall (d : Opnd) (a : Opnd) (wa : Bool)
  /-- VANY (R209) -/
  | vany (d : Opnd) (a : Opnd) (wa : Bool)
  /-- VBAL (R209) -/
  | vbal (d : Opnd) (a : Opnd) (wa : Bool)
  /-- QXCH (R208) -/
  | qxch (d : Opnd) (a : Opnd) (b : Opnd) (wa : Bool) (wb : Bool)
  /-- QBCST (R208) -/
  | qbcst (d : Opnd) (a : Opnd) (b : Opnd) (wa : Bool) (wb : Bool)
  /-- MATCH (R210) -/
  | matchv (d : Opnd) (a : Opnd) (wa : Bool)
  /-- WRED (R212) -/
  | wred (d : Opnd) (a : Opnd) (op : BitVec 7) (wa : Bool)
  /-- WSCAN (R213) -/
  | wscan (d : Opnd) (a : Opnd) (op : BitVec 7) (wa : Bool)
  /-- WRLANE (R214) -/
  | wrlane (d : Opnd) (a : Opnd) (b : Opnd) (wa : Bool) (wb : Bool)
  /-- PTLOAD (R214) -/
  | ptload (d : Opnd) (b : Opnd) (wb : Bool)
  /-- MOVX (R214) -/
  | movx (d : Opnd) (a : Opnd) (wa : Bool)
  /-- EXPR (R203) -/
  | expr (d : Opnd) (a : Opnd) (b : Opnd) (c : Opnd)
  /-- NSET (R237) -/
  | nset (nd : BitVec 7) (a : Opnd) (b : Opnd) (wa : Bool) (wb : Bool)
  /-- NGET (R238) -/
  | nget (d : Opnd) (na : BitVec 7) (b : Opnd) (wa : Bool) (wb : Bool)
  /-- NMOV (R233) -/
  | nmov (nd : BitVec 7) (na : BitVec 7) (wa : Bool)
  /-- NADD (R233) -/
  | nadd (nd : BitVec 7) (na : BitVec 7) (nb : BitVec 7) (wa : Bool) (wb : Bool)
  /-- NSUB (R233) -/
  | nsub (nd : BitVec 7) (na : BitVec 7) (nb : BitVec 7) (wa : Bool) (wb : Bool)
  /-- NNEG (R233) -/
  | nneg (nd : BitVec 7) (na : BitVec 7) (wa : Bool)
  /-- NCMP (R234) -/
  | ncmp (d : Opnd) (na : BitVec 7) (nb : BitVec 7) (wa : Bool) (wb : Bool)
  /-- NSHL (R233) -/
  | nshl (nd : BitVec 7) (na : BitVec 7) (b : Opnd) (wa : Bool) (wb : Bool)
  /-- NSHR (R233) -/
  | nshr (nd : BitVec 7) (na : BitVec 7) (b : Opnd) (wa : Bool) (wb : Bool)
  /-- NMUL (R235) -/
  | nmul (nd : BitVec 7) (na : BitVec 7) (nb : BitVec 7) (wa : Bool) (wb : Bool)
  /-- NSQR (R235) -/
  | nsqr (nd : BitVec 7) (na : BitVec 7) (wa : Bool)
  /-- NDIV (R233) -/
  | ndiv (nd : BitVec 7) (na : BitVec 7) (nb : BitVec 7) (wa : Bool) (wb : Bool)
  /-- NREM (R233) -/
  | nrem (nd : BitVec 7) (na : BitVec 7) (nb : BitVec 7) (wa : Bool) (wb : Bool)
  /-- NMMUL (R233) -/
  | nmmul (nd : BitVec 7) (na : BitVec 7) (nb : BitVec 7) (wa : Bool) (wb : Bool)
  /-- NLD (R239) -/
  | nld (nd : BitVec 7) (a : Opnd) (wa : Bool)
  /-- NST (R239) -/
  | nst (nd : BitVec 7) (a : Opnd) (wa : Bool)
  /-- NALLOC (R240) -/
  | nalloc (nd : BitVec 7) (a : Opnd) (b : Opnd) (wa : Bool) (wb : Bool)
  /-- NFREE (R240) -/
  | nfree (nd : BitVec 7)
  /-- NNORM (R233) -/
  | nnorm (nd : BitVec 7) (na : BitVec 7) (wa : Bool)
  /-- NTTF (R243) -/
  | nttf (nd : BitVec 7) (na : BitVec 7) (b : Opnd) (wa : Bool) (wb : Bool)
  /-- NTTI (R243) -/
  | ntti (nd : BitVec 7) (na : BitVec 7) (b : Opnd) (wa : Bool) (wb : Bool)
  /-- NPMUL (R243) -/
  | npmul (nd : BitVec 7) (na : BitVec 7) (nb : BitVec 7) (wa : Bool) (wb : Bool)
  /-- NCRT (R246) -/
  | ncrt (nd : BitVec 7) (na : BitVec 7) (b : Opnd) (wa : Bool) (wb : Bool)
  /-- NRED (R245) -/
  | nred (d : Opnd) (na : BitVec 7) (wa : Bool)
  /-- AOPEN (R264) -/
  | aopen (t : BitVec 7) (a : Opnd) (wa : Bool)
  /-- ACLOSE (R253) -/
  | aclose (t : BitVec 7)
  /-- AZERO (R264) -/
  | azero (t : BitVec 7)
  /-- MMA (R265) -/
  | mma (t : BitVec 7) (fa : BitVec 7) (fb : BitVec 7)
  /-- LMMA (R265) -/
  | lmma (t : BitVec 7) (fa : BitVec 7) (fb : BitVec 7)
  /-- ARD (R266) -/
  | ard (d : Opnd) (t : BitVec 7) (b : Opnd) (wb : Bool)
  /-- AWR (R266) -/
  | awr (t : BitVec 7) (a : Opnd) (b : Opnd) (wa : Bool) (wb : Bool)
  /-- CRES (R267) -/
  | cres (nd : BitVec 7) (t : BitVec 7) (b : Opnd) (wb : Bool)
  /-- ADRAIN (R268) -/
  | adrain (t : BitVec 7) (a : Opnd) (wa : Bool)
  /-- ASTAT (R270) -/
  | astat (d : Opnd) (t : BitVec 7) (b : Opnd)
  /-- FQRY (R271) -/
  | fqry (d : Opnd) (f : BitVec 7)
  /-- FDISC (R271) -/
  | fdisc (f : BitVec 7)
  /-- QBLK (R272) -/
  | qblk (d : Opnd) (a : Opnd) (ty : BitVec 7) (wa : Bool)
  /-- DQBLK (R272) -/
  | dqblk (d : Opnd) (a : Opnd) (ty : BitVec 7) (wa : Bool)
  /-- CPY (R287) -/
  | cpy (d : Opnd) (a : Opnd) (wa : Bool)
  /-- CPYT (R288) -/
  | cpyt (d : Opnd) (a : Opnd) (wa : Bool)
  /-- CPYF (R290) -/
  | cpyf (d : Opnd) (a : Opnd) (f : BitVec 7) (wa : Bool)
  /-- CPYQ (R289) -/
  | cpyq (d : Opnd) (a : Opnd) (wa : Bool)
  /-- CPYX (R291) -/
  | cpyx (d : Opnd) (a : Opnd) (wa : Bool)
  /-- CSTAT (R296) -/
  | cstat (d : Opnd) (a : Opnd) (wa : Bool)
  /-- CCAN (R297) -/
  | ccan (a : Opnd) (wa : Bool)
  /-- BINIT (R302) -/
  | binit (a : Opnd) (b : Opnd) (wa : Bool) (wb : Bool)
  /-- BEXP (R302) -/
  | bexp (a : Opnd) (b : Opnd) (wa : Bool) (wb : Bool)
  /-- BARR (R302) -/
  | barr (d : Opnd) (a : Opnd) (wa : Bool)
  /-- BWAIT (R302) -/
  | bwait (a : Opnd) (b : Opnd) (wa : Bool) (wb : Bool)
  /-- BTEST (R302) -/
  | btest (d : Opnd) (a : Opnd) (b : Opnd) (wa : Bool) (wb : Bool)
  /-- GSYNC (R304) -/
  | gsync
  /-- CSYNC (R305) -/
  | csync
  /-- XST (R307) -/
  | xst (a : Opnd) (b : Opnd) (wa : Bool) (wb : Bool)
  /-- MCST (R307) -/
  | mcst (a : Opnd) (b : Opnd) (wa : Bool) (wb : Bool)
  /-- CRED (R309) -/
  | cred (d : Opnd) (a : Opnd) (b : Opnd) (wa : Bool) (wb : Bool)
  /-- RDTIM (R310) -/
  | rdtim (d : Opnd)
  /-- RDCYC (R311) -/
  | rdcyc (d : Opnd)
  /-- LD (R321) -/
  | ld (scope : BitVec 3) (order : BitVec 2) (d : Opnd) (a : Opnd) (base : BitVec 3) (wd : Bool) (wa : Bool)
  /-- ST (R321) -/
  | st (scope : BitVec 3) (order : BitVec 2) (d : Opnd) (a : Opnd) (base : BitVec 3) (wd : Bool) (wa : Bool)
  /-- LDC (R322) -/
  | ldc (scope : BitVec 3) (order : BitVec 2) (d : Opnd) (a : Opnd) (base : BitVec 3) (wd : Bool) (wa : Bool)
  /-- ATADD (R326) -/
  | atadd (scope : BitVec 3) (order : BitVec 2) (d : Opnd) (a : Opnd) (base : BitVec 3) (wd : Bool) (wa : Bool)
  /-- ATMIN (R326) -/
  | atmin (scope : BitVec 3) (order : BitVec 2) (d : Opnd) (a : Opnd) (base : BitVec 3) (wd : Bool) (wa : Bool)
  /-- ATMAX (R326) -/
  | atmax (scope : BitVec 3) (order : BitVec 2) (d : Opnd) (a : Opnd) (base : BitVec 3) (wd : Bool) (wa : Bool)
  /-- ATAND (R326) -/
  | atand (scope : BitVec 3) (order : BitVec 2) (d : Opnd) (a : Opnd) (base : BitVec 3) (wd : Bool) (wa : Bool)
  /-- ATOR (R326) -/
  | ator (scope : BitVec 3) (order : BitVec 2) (d : Opnd) (a : Opnd) (base : BitVec 3) (wd : Bool) (wa : Bool)
  /-- ATXOR (R326) -/
  | atxor (scope : BitVec 3) (order : BitVec 2) (d : Opnd) (a : Opnd) (base : BitVec 3) (wd : Bool) (wa : Bool)
  /-- ATSWP (R326) -/
  | atswp (scope : BitVec 3) (order : BitVec 2) (d : Opnd) (a : Opnd) (base : BitVec 3) (wd : Bool) (wa : Bool)
  /-- ATCAS (R327) -/
  | atcas (scope : BitVec 3) (order : BitVec 2) (d : Opnd) (a : Opnd) (base : BitVec 3) (wd : Bool) (wa : Bool)
  /-- FENCE (R329) -/
  | fence (scope : BitVec 3) (order : BitVec 2)
  /-- ACQR (R330) -/
  | acqr (scope : BitVec 3) (order : BitVec 2) (d : Opnd) (a : Opnd) (base : BitVec 3) (wd : Bool) (wa : Bool)
  /-- SPK (R325) -/
  | spk (scope : BitVec 3) (order : BitVec 2) (d : Opnd) (a : Opnd) (base : BitVec 3) (wd : Bool) (wa : Bool)
  /-- PREF (R324) -/
  | pref (scope : BitVec 3) (order : BitVec 2) (a : Opnd) (base : BitVec 3) (wa : Bool)
  /-- LDS (R331) -/
  | lds (scope : BitVec 3) (order : BitVec 2) (d : Opnd) (a : Opnd) (base : BitVec 3) (wd : Bool) (wa : Bool)
  /-- STS (R331) -/
  | sts (scope : BitVec 3) (order : BitVec 2) (d : Opnd) (a : Opnd) (base : BitVec 3) (wd : Bool) (wa : Bool)
  /-- ATSADD (R326) -/
  | atsadd (scope : BitVec 3) (order : BitVec 2) (d : Opnd) (a : Opnd) (base : BitVec 3) (wd : Bool) (wa : Bool)
  /-- ATSMIN (R326) -/
  | atsmin (scope : BitVec 3) (order : BitVec 2) (d : Opnd) (a : Opnd) (base : BitVec 3) (wd : Bool) (wa : Bool)
  /-- ATSMAX (R326) -/
  | atsmax (scope : BitVec 3) (order : BitVec 2) (d : Opnd) (a : Opnd) (base : BitVec 3) (wd : Bool) (wa : Bool)
  /-- ATSCAS (R327) -/
  | atscas (scope : BitVec 3) (order : BitVec 2) (d : Opnd) (a : Opnd) (base : BitVec 3) (wd : Bool) (wa : Bool)
  /-- QPUSH (R125) -/
  | qpush (d : Opnd) (a : Opnd) (b : Opnd) (wa : Bool) (wb : Bool)
  /-- QMAP (R126) -/
  | qmap (d : Opnd) (a : Opnd) (wa : Bool)
  /-- QUNMAP (R126) -/
  | qunmap (d : Opnd)
  /-- QSIG (R127) -/
  | qsig (a : Opnd) (b : Opnd) (wa : Bool) (wb : Bool)
  /-- QWAIT (R128) -/
  | qwait (a : Opnd) (b : Opnd) (wa : Bool) (wb : Bool)
  /-- QATTACH (R129) -/
  | qattach (a : Opnd) (wa : Bool)
  /-- QDETACH (R129) -/
  | qdetach (a : Opnd) (wa : Bool)
  /-- QWR (R130) -/
  | qwr (a : Opnd) (b : Opnd) (wa : Bool) (wb : Bool)
  /-- RINJ (R399) -/
  | rinj (d : Opnd) (a : Opnd) (b : Opnd) (wa : Bool) (wb : Bool)
  /-- RTAKE (R400) -/
  | rtake (d : Opnd) (a : Opnd) (b : Opnd) (wa : Bool) (wb : Bool)
  /-- RPASS (R401) -/
  | rpass
  /-- RDROP (R401) -/
  | rdrop
  /-- REFF (R402) -/
  | reff (sz : BitVec 7) (a : Opnd) (b : Opnd) (wa : Bool) (wb : Bool)
  /-- RSTAT (R403) -/
  | rstat (d : Opnd) (a : Opnd) (b : Opnd) (wa : Bool) (wb : Bool)
  /-- RDSYS (R110) -/
  | rdsys (d : Opnd) (k : BitVec 7)
  /-- WRSYS (R110) -/
  | wrsys (k : BitVec 7) (a : Opnd) (wa : Bool)
  /-- TRET_FIX (R432) -/
  | tretFix
  /-- TRET_SKIP (R432) -/
  | tretSkip
  /-- TRET_RETRY (R432) -/
  | tretRetry
  /-- TRET_KILLW (R432) -/
  | tretKillw
  /-- TRET_KILLG (R432) -/
  | tretKillg
  /-- TRET_KILLC (R432) -/
  | tretKillc
  /-- BSET (R367) -/
  | bset (bk : BitVec 7) (a : Opnd) (b : Opnd) (wa : Bool) (wb : Bool)
  /-- BINV (R367) -/
  | binv (bk : BitVec 7)
  /-- TAGLD (R368) -/
  | tagld (d : Opnd) (bk : BitVec 7) (b : Opnd) (wb : Bool)
  /-- TAGST (R368) -/
  | tagst (bk : BitVec 7) (a : Opnd) (b : Opnd) (wa : Bool) (wb : Bool)
  /-- TLBINV (R369) -/
  | tlbinv (a : Opnd) (b : Opnd) (wa : Bool) (wb : Bool)
  /-- PGQRY (R370) -/
  | pgqry (d : Opnd) (a : Opnd) (wa : Bool)
  /-- HALT (R111) -/
  | halt
  /-- BRA (R177) -/
  | bra (off : BitVec 24)
  /-- BRZ (R177) -/
  | brz (off : BitVec 24)
  /-- BRNZ (R177) -/
  | brnz (off : BitVec 24)
  /-- BRNEG (R177) -/
  | brneg (off : BitVec 24)
  /-- BRCY (R177) -/
  | brcy (off : BitVec 24)
  /-- BREOS (R177) -/
  | breos (off : BitVec 24)
  /-- CALL (R179) -/
  | call (off : BitVec 24)
  /-- BRV (R178) -/
  | brv (k : BitVec 3) (off : BitVec 24)
  /-- event MEMORY_ACCESS_COMPLETE (R319) -/
  | memoryAccessComplete (id : Nat)
  /-- event PRODUCER_WRITEBACK (R62) -/
  | producerWriteback (id : Nat)
  /-- event STREAM_OPERATION_COMPLETE (R227) -/
  | streamOperationComplete (id : Nat)
  /-- event HOD_ALLOCATION (R228) -/
  | hodAllocation (id : Nat)
  /-- event TILE_OPERATION_RETIRE (R256) -/
  | tileOperationRetire (g : Nat) (id : Nat)
  /-- event COPY_LAND (R285) -/
  | copyLand (id : Nat) (n : Nat)
  /-- event COPY_DONE (R284) -/
  | copyDone (id : Nat)
  /-- event COPY_FAIL (R292) -/
  | copyFail (id : Nat)
  /-- event EXCHANGE_STORE_LAND (R307) -/
  | exchangeStoreLand (id : Nat)
  /-- event REDUCTION_RESULT (R309) -/
  | reductionResult (id : Nat)
  /-- event RECORD_ASSIGNMENT (R397) -/
  | recordAssignment (id : Nat)
  /-- event WINDOW_CLOSE (R394) -/
  | windowClose (id : Nat)
  /-- event RECORD_COMMIT (R392) -/
  | recordCommit (id : Nat) (slot : Nat)
  /-- event MIGRATION_LOCK (R358) -/
  | migrationLock (id : Nat)
  /-- event MIGRATION_MOVE (R358) -/
  | migrationMove (id : Nat)
  /-- event MIGRATION_PUBLISH (R358) -/
  | migrationPublish (id : Nat)
  /-- event MIGRATING_LEAF_RECHECK (R359) -/
  | migratingLeafRecheck (id : Nat)
  /-- event RETRY_RESUME (R432) -/
  | retryResume (g : Nat) (w : Nat)
  /-- event WARP_ACTIVATE (R150) -/
  | warpActivate (core : Nat)
  /-- event GROUP_SAVED (R152) -/
  | groupSaved (g : Nat)
  /-- event GROUP_RESTORED (R163) -/
  | groupRestored (g : Nat) (ok : Bool)
  /-- event ROW_BLOCK_PREEMPTION (R251) -/
  | rowBlockPreemption (g : Nat)
  /-- event PHASE_DRAINED (R139) -/
  | phaseDrained (l : Nat)
  /-- event PHASE_SELECTION (R136) -/
  | phaseSelection (l : Nat)
  /-- event KERNEL_LOAD (R131) -/
  | kernelLoad (q : Fin 256)
  /-- event CONTEXT_DEAD (R101) -/
  | contextDead (c : Fin 64)
  /-- event PACKET_DELIVER (R411) -/
  | packetDeliver (dir : Nat)
  /-- event FLIT_RECEIVE (R414) -/
  | flitReceive (dir : Nat) (noise : BitVec 512)
  /-- event REPLAY_REQUEST (R414) -/
  | replayRequest (dir : Nat)
  /-- event FLIT_SLOT (R412) -/
  | flitSlot (dir : Nat)
  /-- event RESERVED_ENCODING (R92) -/
  | reservedEncoding (w : BitVec 32)
  /-- event QUIESCE_COMPLETE (R420) -/
  | quiesceComplete (link : Nat)
  /-- event CREATE (R101) -/
  | create (c : Fin 64)
  /-- event COMMIT (R99) -/
  | commit (c : Fin 64)
  /-- event SUSPEND (R103) -/
  | suspend (c : Fin 64)
  /-- event RESUME (R101) -/
  | resume (c : Fin 64)
  /-- event DESTROY (R101) -/
  | destroy (c : Fin 64)
  /-- event RELEASE (R101) -/
  | release (c : Fin 64)
  /-- event CTXCMD_BADCMD (R98) -/
  | ctxcmdBadcmd (c : Fin 64) (cmd : BitVec 3)
  /-- event REGISTER_WRITE (R438) -/
  | registerWrite (off : Nat) (size : Nat) (val : Nat)
  /-- event SAVEPOOL_WRITE (R100) -/
  | savepoolWrite (v : BitVec 64)
  /-- event DOORBELL (R114) -/
  | doorbell (q : Fin 256) (t : BitVec 64)
  /-- event BIND (R113) -/
  | bind (q : Fin 256) (c : Fin 64)
  /-- event UNBIND (R120) -/
  | unbind (q : Fin 256)
  /-- event PAUSE (R120) -/
  | pause (q : Fin 256)
  /-- event UNPAUSE (R120) -/
  | unpause (q : Fin 256)
  /-- event RESET (R120) -/
  | reset (q : Fin 256)
  /-- event QCTL_BADCMD (R113) -/
  | qctlBadcmd (q : Fin 256) (cmd : BitVec 3)
  /-- event LAUNCH_ADMISSION (R118) -/
  | launchAdmission
  /-- event SIGNAL_RECHECK (R116) -/
  | signalRecheck
  /-- event PRIORITY_AGEING (R119) -/
  | priorityAgeing (head : Bool) (id : Nat)
  /-- event GROUP_PLACEMENT (R144) -/
  | groupPlacement
  /-- event PREEMPTION_START (R151) -/
  | preemptionStart
  /-- event MIGRATE (R361) -/
  | migrate
  /-- event PIN (R360) -/
  | pin
  /-- event UNPIN (R360) -/
  | unpin
  /-- event MCMD_TLBINV (R369) -/
  | mcmdTlbinv
  /-- event FRAMEIN_WRITE (R363) -/
  | frameinWrite (p : Fin 8) (pn : BitVec 64)
  /-- event ROW_ALERT (R379) -/
  | rowAlert (ch : Nat) (row : Nat) (sat : Bool) (corrupt : Bool)
  /-- event DAMPER_EPISODE (R380) -/
  | damperEpisode (ch : Nat)
  /-- event LANE_LOSS (R415) -/
  | laneLoss (link : Nat) (lane : Fin 16)
  /-- event REPLAY_STORM (R415) -/
  | replayStorm (link : Nat)
  /-- event RETRAIN_COMPLETE (R415) -/
  | retrainComplete (link : Nat)
  /-- event RETRAIN_TIMEOUT (R416) -/
  | retrainTimeout (link : Nat)
  /-- event LINK_QUIESCE (R420) -/
  | linkQuiesce (link : Nat)
  /-- event INBOUND_ACCESS (R424) -/
  | inboundAccess (r : InboundReq)
  /-- event INBOUND_TIMEOUT (R425) -/
  | inboundTimeout (id : Nat)
  /-- event ERROR_RESPONSE (R426) -/
  | errorResponse (tag : Nat) (timeout : Bool)
  /-- event REMOTE_TIMEOUT (R426) -/
  | remoteTimeout (tag : Nat)
  /-- event HOST_MEMORY_ACCESS (R344) -/
  | hostMemoryAccess (addr : Nat) (data : List (BitVec 8))
  /-- event QWAIT_RECHECK (R128) -/
  | qwaitRecheck (g : Nat) (w : Nat) (slot : Bool)
  /-- event POWER_GOOD (R440) -/
  | powerGood
  /-- event ROM_CHECK_COMPLETE (R441) -/
  | romCheckComplete
  /-- event BRINGUP_COMPLETE (R444) -/
  | bringupComplete
  /-- event POWER_LOSS (R440) -/
  | powerLoss
  /-- event THERMAL_TRIP (R450) -/
  | thermalTrip (die : Fin 4)
  /-- event FUNCTION_LEVEL_RESET (R439) -/
  | functionLevelReset
  /-- event STEP_CHANGE (R449) -/
  | stepChange (die : Fin 4) (up : Bool)
  /-- event CLOCK_PAUSE_END (R312) -/
  | clockPauseEnd (die : Fin 4)
  /-- event STEPCAP_WRITE (R449) -/
  | stepcapWrite (v : BitVec 2)
  /-- event MGMTCAUSE_CLEAR (R439) -/
  | mgmtcauseClear (v : BitVec 32)
  /-- event REPORT (R442) -/
  | report
  /-- event CERTS (R442) -/
  | certs
  /-- event NODESET (R442) -/
  | nodeset
  /-- event ATTESTATION_COMPLETE (R442) -/
  | attestationComplete
  /-- event HEALTH_THRESHOLD (R436) -/
  | healthThreshold (u : HealthUnit)
  /-- event HEALTH_WINDOW_END (R436) -/
  | healthWindowEnd (k : HealthKind)
  /-- event PATROL_READ (R436) -/
  | patrolRead (addr : Nat) (corrected : Bool)
  /-- event SPILL_COMPLETE (R160) -/
  | spillComplete (g : Nat) (w : Nat) (win : Nat)
  /-- event THERMAL_WARNING (R439) -/
  | thermalWarning (die : Fin 4)
  /-- event CORE_RESTART (R111) -/
  | coreRestart (core : Nat)
  /-- event FIRMWARE_IMAGE_LOAD (R441) -/
  | firmwareImageLoad (k : Fin 4) (img : FirmwareImage)
  deriving DecidableEq, Repr

end Sys2Proof
end

