-- ==== Sys2Proof/Decode.lean ====
section
/-! DEFINITION. From words to instructions and back (03 R50 to R55, 04 R90 to R92). The decoder is total: it refuses a word
that is not an instruction by name. The encoder is written from the same formats. -/

namespace Sys2Proof

/-- Why a word is not an instruction (04 R92). -/
inductive Reject where
  /-- major 0xE or 0xF, a function header word among them (03 R73) -/
  | reservedMajor
  /-- a minor, op or kind marked reserved in 04 R90 -/
  | reservedMinor
  /-- a TRET whose a field names no action (19 R432) -/
  | tretAction
  deriving DecidableEq, Repr

/-- 03 R53: the operand a 7-bit code names. -/
def Opnd.ofCode (c : BitVec 7) : Opnd :=
  let n := c.toNat
  if h : n < 80 then .v ⟨n, h⟩
  else if n < 112 then .s (Fin.ofNat 32 (n - 80))
  else if n < 120 then .m (Fin.ofNat 8 (n - 112))
  else if n = 120 then .zero
  else if n = 121 then .one
  else if n = 122 then .mone
  else if n = 123 then .lane
  else if n = 124 then .vx 0
  else if n = 125 then .vx 1
  else if n = 126 then .sx2
  else .reserved

/-- 03 R53: the 7-bit code of an operand. -/
def Opnd.toCode : Opnd → BitVec 7
  | .v i => BitVec.ofNat 7 i.val
  | .s i => BitVec.ofNat 7 (80 + i.val)
  | .m i => BitVec.ofNat 7 (112 + i.val)
  | .zero => 120#7
  | .one => 121#7
  | .mone => 122#7
  | .lane => 123#7
  | .vx k => BitVec.ofNat 7 (124 + k.val)
  | .sx2 => 126#7
  | .reserved => 127#7

/-- 04 R90: the words of major 0x0 (CTRL). -/
def decodeCtrl (w : Word) : Except Reject Instr :=
  match (w.extractLsb' 23 5).toNat with
  | 0 => .ok .nop
  | 1 => .ok (.setmode (w.extractLsb' 0 23))
  | 2 => .ok .ret
  | 3 => .ok (.rcv (w.getLsbD 22) (w.extractLsb' 0 22))
  | 4 => .ok (.waitc (w.getLsbD 9) (w.getLsbD 8) (w.extractLsb' 0 8))
  | 5 => .ok .yield
  | 6 => .ok .exit
  | 7 => .ok (.elect (w.extractLsb' 0 3))
  | 8 => .ok (.ldl (Opnd.ofCode (w.extractLsb' 16 7)) (w.extractLsb' 0 16))
  | 9 => .ok (.ldl2 (Opnd.ofCode (w.extractLsb' 16 7)) (w.extractLsb' 0 16))
  | 10 => .ok (.ldln (Opnd.ofCode (w.extractLsb' 16 7)) (w.extractLsb' 0 16))
  | 11 => .ok (.trap (w.extractLsb' 0 23))
  | 12 => .ok (.bkpt (w.extractLsb' 0 23))
  | 13 => .ok (.jmps (w.extractLsb' 0 5))
  | _ => .error .reservedMinor

/-- 04 R90: the words of major 0x1 (SALU). -/
def decodeSalu (w : Word) : Except Reject Instr :=
  match (w.extractLsb' 23 5).toNat with
  | 0 => .ok (.saluMov (Opnd.ofCode (w.extractLsb' 16 7)) (Opnd.ofCode (w.extractLsb' 9 7)) (w.getLsbD 1))
  | 1 => .ok (.saluAdd (Opnd.ofCode (w.extractLsb' 16 7)) (Opnd.ofCode (w.extractLsb' 9 7)) (Opnd.ofCode (w.extractLsb' 2 7)) (w.getLsbD 1) (w.getLsbD 0))
  | 2 => .ok (.saluSub (Opnd.ofCode (w.extractLsb' 16 7)) (Opnd.ofCode (w.extractLsb' 9 7)) (Opnd.ofCode (w.extractLsb' 2 7)) (w.getLsbD 1) (w.getLsbD 0))
  | 3 => .ok (.saluMul (Opnd.ofCode (w.extractLsb' 16 7)) (Opnd.ofCode (w.extractLsb' 9 7)) (Opnd.ofCode (w.extractLsb' 2 7)) (w.getLsbD 1) (w.getLsbD 0))
  | 4 => .ok (.saluMulh (Opnd.ofCode (w.extractLsb' 16 7)) (Opnd.ofCode (w.extractLsb' 9 7)) (Opnd.ofCode (w.extractLsb' 2 7)) (w.getLsbD 1) (w.getLsbD 0))
  | 5 => .ok (.saluMad (Opnd.ofCode (w.extractLsb' 16 7)) (Opnd.ofCode (w.extractLsb' 9 7)) (Opnd.ofCode (w.extractLsb' 2 7)) (w.getLsbD 1) (w.getLsbD 0))
  | 6 => .ok (.saluMin (Opnd.ofCode (w.extractLsb' 16 7)) (Opnd.ofCode (w.extractLsb' 9 7)) (Opnd.ofCode (w.extractLsb' 2 7)) (w.getLsbD 1) (w.getLsbD 0))
  | 7 => .ok (.saluMax (Opnd.ofCode (w.extractLsb' 16 7)) (Opnd.ofCode (w.extractLsb' 9 7)) (Opnd.ofCode (w.extractLsb' 2 7)) (w.getLsbD 1) (w.getLsbD 0))
  | 8 => .ok (.saluAbs (Opnd.ofCode (w.extractLsb' 16 7)) (Opnd.ofCode (w.extractLsb' 9 7)) (w.getLsbD 1))
  | 9 => .ok (.saluNeg (Opnd.ofCode (w.extractLsb' 16 7)) (Opnd.ofCode (w.extractLsb' 9 7)) (w.getLsbD 1))
  | 10 => .ok (.saluAnd (Opnd.ofCode (w.extractLsb' 16 7)) (Opnd.ofCode (w.extractLsb' 9 7)) (Opnd.ofCode (w.extractLsb' 2 7)) (w.getLsbD 1) (w.getLsbD 0))
  | 11 => .ok (.saluOr (Opnd.ofCode (w.extractLsb' 16 7)) (Opnd.ofCode (w.extractLsb' 9 7)) (Opnd.ofCode (w.extractLsb' 2 7)) (w.getLsbD 1) (w.getLsbD 0))
  | 12 => .ok (.saluXor (Opnd.ofCode (w.extractLsb' 16 7)) (Opnd.ofCode (w.extractLsb' 9 7)) (Opnd.ofCode (w.extractLsb' 2 7)) (w.getLsbD 1) (w.getLsbD 0))
  | 13 => .ok (.saluShl (Opnd.ofCode (w.extractLsb' 16 7)) (Opnd.ofCode (w.extractLsb' 9 7)) (Opnd.ofCode (w.extractLsb' 2 7)) (w.getLsbD 1) (w.getLsbD 0))
  | 14 => .ok (.saluShr (Opnd.ofCode (w.extractLsb' 16 7)) (Opnd.ofCode (w.extractLsb' 9 7)) (Opnd.ofCode (w.extractLsb' 2 7)) (w.getLsbD 1) (w.getLsbD 0))
  | 15 => .ok (.saluSar (Opnd.ofCode (w.extractLsb' 16 7)) (Opnd.ofCode (w.extractLsb' 9 7)) (Opnd.ofCode (w.extractLsb' 2 7)) (w.getLsbD 1) (w.getLsbD 0))
  | 16 => .ok (.saluCmpeq (Opnd.ofCode (w.extractLsb' 16 7)) (Opnd.ofCode (w.extractLsb' 9 7)) (Opnd.ofCode (w.extractLsb' 2 7)) (w.getLsbD 1) (w.getLsbD 0))
  | 17 => .ok (.saluCmplt (Opnd.ofCode (w.extractLsb' 16 7)) (Opnd.ofCode (w.extractLsb' 9 7)) (Opnd.ofCode (w.extractLsb' 2 7)) (w.getLsbD 1) (w.getLsbD 0))
  | 18 => .ok (.saluCmple (Opnd.ofCode (w.extractLsb' 16 7)) (Opnd.ofCode (w.extractLsb' 9 7)) (Opnd.ofCode (w.extractLsb' 2 7)) (w.getLsbD 1) (w.getLsbD 0))
  | 19 => .ok (.saluCmpne (Opnd.ofCode (w.extractLsb' 16 7)) (Opnd.ofCode (w.extractLsb' 9 7)) (Opnd.ofCode (w.extractLsb' 2 7)) (w.getLsbD 1) (w.getLsbD 0))
  | 20 => .ok (.saluSel (Opnd.ofCode (w.extractLsb' 16 7)) (Opnd.ofCode (w.extractLsb' 9 7)) (Opnd.ofCode (w.extractLsb' 2 7)) (w.getLsbD 1) (w.getLsbD 0))
  | 21 => .ok (.saluCvt (Opnd.ofCode (w.extractLsb' 16 7)) (Opnd.ofCode (w.extractLsb' 9 7)) (w.extractLsb' 2 7) (w.getLsbD 1))
  | 22 => .ok (.addc (Opnd.ofCode (w.extractLsb' 16 7)) (Opnd.ofCode (w.extractLsb' 9 7)) (Opnd.ofCode (w.extractLsb' 2 7)) (w.getLsbD 1) (w.getLsbD 0))
  | 23 => .ok (.subb (Opnd.ofCode (w.extractLsb' 16 7)) (Opnd.ofCode (w.extractLsb' 9 7)) (Opnd.ofCode (w.extractLsb' 2 7)) (w.getLsbD 1) (w.getLsbD 0))
  | 24 => .ok (.rot (Opnd.ofCode (w.extractLsb' 16 7)) (Opnd.ofCode (w.extractLsb' 9 7)) (Opnd.ofCode (w.extractLsb' 2 7)) (w.getLsbD 1) (w.getLsbD 0))
  | 25 => .ok (.rdlane (Opnd.ofCode (w.extractLsb' 16 7)) (Opnd.ofCode (w.extractLsb' 9 7)) (Opnd.ofCode (w.extractLsb' 2 7)) (w.getLsbD 1) (w.getLsbD 0))
  | 26 => .ok (.mand (Opnd.ofCode (w.extractLsb' 16 7)) (Opnd.ofCode (w.extractLsb' 9 7)) (Opnd.ofCode (w.extractLsb' 2 7)) (w.getLsbD 1) (w.getLsbD 0))
  | 27 => .ok (.mor (Opnd.ofCode (w.extractLsb' 16 7)) (Opnd.ofCode (w.extractLsb' 9 7)) (Opnd.ofCode (w.extractLsb' 2 7)) (w.getLsbD 1) (w.getLsbD 0))
  | 28 => .ok (.saluClz (Opnd.ofCode (w.extractLsb' 16 7)) (Opnd.ofCode (w.extractLsb' 9 7)) (w.getLsbD 1))
  | 29 => .ok (.saluPopc (Opnd.ofCode (w.extractLsb' 16 7)) (Opnd.ofCode (w.extractLsb' 9 7)) (w.getLsbD 1))
  | 30 => .ok (.mxor (Opnd.ofCode (w.extractLsb' 16 7)) (Opnd.ofCode (w.extractLsb' 9 7)) (Opnd.ofCode (w.extractLsb' 2 7)) (w.getLsbD 1) (w.getLsbD 0))
  | 31 => .ok (.idxset (w.extractLsb' 16 7) (Opnd.ofCode (w.extractLsb' 9 7)) (w.getLsbD 1))
  | _ => .error .reservedMinor

/-- 04 R90: the words of major 0x2 (VALU). -/
def decodeValu (w : Word) : Except Reject Instr :=
  match (w.extractLsb' 23 5).toNat with
  | 0 => .ok (.valuMov (Opnd.ofCode (w.extractLsb' 16 7)) (Opnd.ofCode (w.extractLsb' 9 7)) (w.getLsbD 1))
  | 1 => .ok (.valuAdd (Opnd.ofCode (w.extractLsb' 16 7)) (Opnd.ofCode (w.extractLsb' 9 7)) (Opnd.ofCode (w.extractLsb' 2 7)) (w.getLsbD 1) (w.getLsbD 0))
  | 2 => .ok (.valuSub (Opnd.ofCode (w.extractLsb' 16 7)) (Opnd.ofCode (w.extractLsb' 9 7)) (Opnd.ofCode (w.extractLsb' 2 7)) (w.getLsbD 1) (w.getLsbD 0))
  | 3 => .ok (.valuMul (Opnd.ofCode (w.extractLsb' 16 7)) (Opnd.ofCode (w.extractLsb' 9 7)) (Opnd.ofCode (w.extractLsb' 2 7)) (w.getLsbD 1) (w.getLsbD 0))
  | 4 => .ok (.valuMulh (Opnd.ofCode (w.extractLsb' 16 7)) (Opnd.ofCode (w.extractLsb' 9 7)) (Opnd.ofCode (w.extractLsb' 2 7)) (w.getLsbD 1) (w.getLsbD 0))
  | 5 => .ok (.valuFma (Opnd.ofCode (w.extractLsb' 16 7)) (Opnd.ofCode (w.extractLsb' 9 7)) (Opnd.ofCode (w.extractLsb' 2 7)) (w.getLsbD 1) (w.getLsbD 0))
  | 6 => .ok (.valuMin (Opnd.ofCode (w.extractLsb' 16 7)) (Opnd.ofCode (w.extractLsb' 9 7)) (Opnd.ofCode (w.extractLsb' 2 7)) (w.getLsbD 1) (w.getLsbD 0))
  | 7 => .ok (.valuMax (Opnd.ofCode (w.extractLsb' 16 7)) (Opnd.ofCode (w.extractLsb' 9 7)) (Opnd.ofCode (w.extractLsb' 2 7)) (w.getLsbD 1) (w.getLsbD 0))
  | 8 => .ok (.valuAbs (Opnd.ofCode (w.extractLsb' 16 7)) (Opnd.ofCode (w.extractLsb' 9 7)) (w.getLsbD 1))
  | 9 => .ok (.valuNeg (Opnd.ofCode (w.extractLsb' 16 7)) (Opnd.ofCode (w.extractLsb' 9 7)) (w.getLsbD 1))
  | 10 => .ok (.valuAnd (Opnd.ofCode (w.extractLsb' 16 7)) (Opnd.ofCode (w.extractLsb' 9 7)) (Opnd.ofCode (w.extractLsb' 2 7)) (w.getLsbD 1) (w.getLsbD 0))
  | 11 => .ok (.valuOr (Opnd.ofCode (w.extractLsb' 16 7)) (Opnd.ofCode (w.extractLsb' 9 7)) (Opnd.ofCode (w.extractLsb' 2 7)) (w.getLsbD 1) (w.getLsbD 0))
  | 12 => .ok (.valuXor (Opnd.ofCode (w.extractLsb' 16 7)) (Opnd.ofCode (w.extractLsb' 9 7)) (Opnd.ofCode (w.extractLsb' 2 7)) (w.getLsbD 1) (w.getLsbD 0))
  | 13 => .ok (.valuShl (Opnd.ofCode (w.extractLsb' 16 7)) (Opnd.ofCode (w.extractLsb' 9 7)) (Opnd.ofCode (w.extractLsb' 2 7)) (w.getLsbD 1) (w.getLsbD 0))
  | 14 => .ok (.valuShr (Opnd.ofCode (w.extractLsb' 16 7)) (Opnd.ofCode (w.extractLsb' 9 7)) (Opnd.ofCode (w.extractLsb' 2 7)) (w.getLsbD 1) (w.getLsbD 0))
  | 15 => .ok (.valuSar (Opnd.ofCode (w.extractLsb' 16 7)) (Opnd.ofCode (w.extractLsb' 9 7)) (Opnd.ofCode (w.extractLsb' 2 7)) (w.getLsbD 1) (w.getLsbD 0))
  | 16 => .ok (.valuCmpeq (Opnd.ofCode (w.extractLsb' 16 7)) (Opnd.ofCode (w.extractLsb' 9 7)) (Opnd.ofCode (w.extractLsb' 2 7)) (w.getLsbD 1) (w.getLsbD 0))
  | 17 => .ok (.valuCmplt (Opnd.ofCode (w.extractLsb' 16 7)) (Opnd.ofCode (w.extractLsb' 9 7)) (Opnd.ofCode (w.extractLsb' 2 7)) (w.getLsbD 1) (w.getLsbD 0))
  | 18 => .ok (.valuCmple (Opnd.ofCode (w.extractLsb' 16 7)) (Opnd.ofCode (w.extractLsb' 9 7)) (Opnd.ofCode (w.extractLsb' 2 7)) (w.getLsbD 1) (w.getLsbD 0))
  | 19 => .ok (.valuCmpne (Opnd.ofCode (w.extractLsb' 16 7)) (Opnd.ofCode (w.extractLsb' 9 7)) (Opnd.ofCode (w.extractLsb' 2 7)) (w.getLsbD 1) (w.getLsbD 0))
  | 20 => .ok (.valuSel (Opnd.ofCode (w.extractLsb' 16 7)) (Opnd.ofCode (w.extractLsb' 9 7)) (Opnd.ofCode (w.extractLsb' 2 7)) (w.getLsbD 1) (w.getLsbD 0))
  | 21 => .ok (.valuCvt (Opnd.ofCode (w.extractLsb' 16 7)) (Opnd.ofCode (w.extractLsb' 9 7)) (w.extractLsb' 2 7) (w.getLsbD 1))
  | 22 => .ok (.rcp (Opnd.ofCode (w.extractLsb' 16 7)) (Opnd.ofCode (w.extractLsb' 9 7)) (w.getLsbD 1))
  | 23 => .ok (.rsq (Opnd.ofCode (w.extractLsb' 16 7)) (Opnd.ofCode (w.extractLsb' 9 7)) (w.getLsbD 1))
  | 24 => .ok (.sqrt (Opnd.ofCode (w.extractLsb' 16 7)) (Opnd.ofCode (w.extractLsb' 9 7)) (w.getLsbD 1))
  | 25 => .ok (.exp2 (Opnd.ofCode (w.extractLsb' 16 7)) (Opnd.ofCode (w.extractLsb' 9 7)) (w.getLsbD 1))
  | 26 => .ok (.log2 (Opnd.ofCode (w.extractLsb' 16 7)) (Opnd.ofCode (w.extractLsb' 9 7)) (w.getLsbD 1))
  | 27 => .ok (.vclass (Opnd.ofCode (w.extractLsb' 16 7)) (Opnd.ofCode (w.extractLsb' 9 7)) (w.getLsbD 1))
  | 28 => .ok (.valuClz (Opnd.ofCode (w.extractLsb' 16 7)) (Opnd.ofCode (w.extractLsb' 9 7)) (w.getLsbD 1))
  | 29 => .ok (.valuPopc (Opnd.ofCode (w.extractLsb' 16 7)) (Opnd.ofCode (w.extractLsb' 9 7)) (w.getLsbD 1))
  | 30 => .ok (.div (Opnd.ofCode (w.extractLsb' 16 7)) (Opnd.ofCode (w.extractLsb' 9 7)) (Opnd.ofCode (w.extractLsb' 2 7)) (w.getLsbD 1) (w.getLsbD 0))
  | _ => .error .reservedMinor

/-- 04 R90: the words of major 0x3 (BITX). -/
def decodeBitx (w : Word) : Except Reject Instr :=
  match (w.extractLsb' 23 5).toNat with
  | 0 => .ok (.bmm8 (Opnd.ofCode (w.extractLsb' 16 7)) (Opnd.ofCode (w.extractLsb' 9 7)) (Opnd.ofCode (w.extractLsb' 2 7)) (w.getLsbD 1) (w.getLsbD 0))
  | 1 => .ok (.bdep (Opnd.ofCode (w.extractLsb' 16 7)) (Opnd.ofCode (w.extractLsb' 9 7)) (Opnd.ofCode (w.extractLsb' 2 7)) (w.getLsbD 1) (w.getLsbD 0))
  | 2 => .ok (.bext (Opnd.ofCode (w.extractLsb' 16 7)) (Opnd.ofCode (w.extractLsb' 9 7)) (Opnd.ofCode (w.extractLsb' 2 7)) (w.getLsbD 1) (w.getLsbD 0))
  | 3 => .ok (.bperm (Opnd.ofCode (w.extractLsb' 16 7)) (Opnd.ofCode (w.extractLsb' 9 7)) (Opnd.ofCode (w.extractLsb' 2 7)) (w.getLsbD 1) (w.getLsbD 0))
  | 4 => .ok (.brev (Opnd.ofCode (w.extractLsb' 16 7)) (Opnd.ofCode (w.extractLsb' 9 7)) (w.getLsbD 1))
  | 5 => .ok (.shfl (Opnd.ofCode (w.extractLsb' 16 7)) (Opnd.ofCode (w.extractLsb' 9 7)) (Opnd.ofCode (w.extractLsb' 2 7)) (w.getLsbD 1) (w.getLsbD 0))
  | 6 => .ok (.shflx (Opnd.ofCode (w.extractLsb' 16 7)) (Opnd.ofCode (w.extractLsb' 9 7)) (Opnd.ofCode (w.extractLsb' 2 7)) (w.getLsbD 1) (w.getLsbD 0))
  | 7 => .ok (.shflup (Opnd.ofCode (w.extractLsb' 16 7)) (Opnd.ofCode (w.extractLsb' 9 7)) (Opnd.ofCode (w.extractLsb' 2 7)) (w.getLsbD 1) (w.getLsbD 0))
  | 8 => .ok (.shfldn (Opnd.ofCode (w.extractLsb' 16 7)) (Opnd.ofCode (w.extractLsb' 9 7)) (Opnd.ofCode (w.extractLsb' 2 7)) (w.getLsbD 1) (w.getLsbD 0))
  | 9 => .ok (.vall (Opnd.ofCode (w.extractLsb' 16 7)) (Opnd.ofCode (w.extractLsb' 9 7)) (w.getLsbD 1))
  | 10 => .ok (.vany (Opnd.ofCode (w.extractLsb' 16 7)) (Opnd.ofCode (w.extractLsb' 9 7)) (w.getLsbD 1))
  | 11 => .ok (.vbal (Opnd.ofCode (w.extractLsb' 16 7)) (Opnd.ofCode (w.extractLsb' 9 7)) (w.getLsbD 1))
  | 12 => .ok (.qxch (Opnd.ofCode (w.extractLsb' 16 7)) (Opnd.ofCode (w.extractLsb' 9 7)) (Opnd.ofCode (w.extractLsb' 2 7)) (w.getLsbD 1) (w.getLsbD 0))
  | 13 => .ok (.qbcst (Opnd.ofCode (w.extractLsb' 16 7)) (Opnd.ofCode (w.extractLsb' 9 7)) (Opnd.ofCode (w.extractLsb' 2 7)) (w.getLsbD 1) (w.getLsbD 0))
  | 14 => .ok (.matchv (Opnd.ofCode (w.extractLsb' 16 7)) (Opnd.ofCode (w.extractLsb' 9 7)) (w.getLsbD 1))
  | 15 => .ok (.wred (Opnd.ofCode (w.extractLsb' 16 7)) (Opnd.ofCode (w.extractLsb' 9 7)) (w.extractLsb' 2 7) (w.getLsbD 1))
  | 16 => .ok (.wscan (Opnd.ofCode (w.extractLsb' 16 7)) (Opnd.ofCode (w.extractLsb' 9 7)) (w.extractLsb' 2 7) (w.getLsbD 1))
  | 17 => .ok (.wrlane (Opnd.ofCode (w.extractLsb' 16 7)) (Opnd.ofCode (w.extractLsb' 9 7)) (Opnd.ofCode (w.extractLsb' 2 7)) (w.getLsbD 1) (w.getLsbD 0))
  | 18 => .ok (.ptload (Opnd.ofCode (w.extractLsb' 16 7)) (Opnd.ofCode (w.extractLsb' 2 7)) (w.getLsbD 0))
  | 19 => .ok (.movx (Opnd.ofCode (w.extractLsb' 16 7)) (Opnd.ofCode (w.extractLsb' 9 7)) (w.getLsbD 1))
  | _ => .error .reservedMinor

/-- 04 R90: the words of major 0x5 (NUM). -/
def decodeNum (w : Word) : Except Reject Instr :=
  match (w.extractLsb' 23 5).toNat with
  | 0 => .ok (.nset (w.extractLsb' 16 7) (Opnd.ofCode (w.extractLsb' 9 7)) (Opnd.ofCode (w.extractLsb' 2 7)) (w.getLsbD 1) (w.getLsbD 0))
  | 1 => .ok (.nget (Opnd.ofCode (w.extractLsb' 16 7)) (w.extractLsb' 9 7) (Opnd.ofCode (w.extractLsb' 2 7)) (w.getLsbD 1) (w.getLsbD 0))
  | 2 => .ok (.nmov (w.extractLsb' 16 7) (w.extractLsb' 9 7) (w.getLsbD 1))
  | 3 => .ok (.nadd (w.extractLsb' 16 7) (w.extractLsb' 9 7) (w.extractLsb' 2 7) (w.getLsbD 1) (w.getLsbD 0))
  | 4 => .ok (.nsub (w.extractLsb' 16 7) (w.extractLsb' 9 7) (w.extractLsb' 2 7) (w.getLsbD 1) (w.getLsbD 0))
  | 5 => .ok (.nneg (w.extractLsb' 16 7) (w.extractLsb' 9 7) (w.getLsbD 1))
  | 6 => .ok (.ncmp (Opnd.ofCode (w.extractLsb' 16 7)) (w.extractLsb' 9 7) (w.extractLsb' 2 7) (w.getLsbD 1) (w.getLsbD 0))
  | 7 => .ok (.nshl (w.extractLsb' 16 7) (w.extractLsb' 9 7) (Opnd.ofCode (w.extractLsb' 2 7)) (w.getLsbD 1) (w.getLsbD 0))
  | 8 => .ok (.nshr (w.extractLsb' 16 7) (w.extractLsb' 9 7) (Opnd.ofCode (w.extractLsb' 2 7)) (w.getLsbD 1) (w.getLsbD 0))
  | 9 => .ok (.nmul (w.extractLsb' 16 7) (w.extractLsb' 9 7) (w.extractLsb' 2 7) (w.getLsbD 1) (w.getLsbD 0))
  | 10 => .ok (.nsqr (w.extractLsb' 16 7) (w.extractLsb' 9 7) (w.getLsbD 1))
  | 11 => .ok (.ndiv (w.extractLsb' 16 7) (w.extractLsb' 9 7) (w.extractLsb' 2 7) (w.getLsbD 1) (w.getLsbD 0))
  | 12 => .ok (.nrem (w.extractLsb' 16 7) (w.extractLsb' 9 7) (w.extractLsb' 2 7) (w.getLsbD 1) (w.getLsbD 0))
  | 13 => .ok (.nmmul (w.extractLsb' 16 7) (w.extractLsb' 9 7) (w.extractLsb' 2 7) (w.getLsbD 1) (w.getLsbD 0))
  | 14 => .ok (.nld (w.extractLsb' 16 7) (Opnd.ofCode (w.extractLsb' 9 7)) (w.getLsbD 1))
  | 15 => .ok (.nst (w.extractLsb' 16 7) (Opnd.ofCode (w.extractLsb' 9 7)) (w.getLsbD 1))
  | 16 => .ok (.nalloc (w.extractLsb' 16 7) (Opnd.ofCode (w.extractLsb' 9 7)) (Opnd.ofCode (w.extractLsb' 2 7)) (w.getLsbD 1) (w.getLsbD 0))
  | 17 => .ok (.nfree (w.extractLsb' 16 7))
  | 18 => .ok (.nnorm (w.extractLsb' 16 7) (w.extractLsb' 9 7) (w.getLsbD 1))
  | 19 => .ok (.nttf (w.extractLsb' 16 7) (w.extractLsb' 9 7) (Opnd.ofCode (w.extractLsb' 2 7)) (w.getLsbD 1) (w.getLsbD 0))
  | 20 => .ok (.ntti (w.extractLsb' 16 7) (w.extractLsb' 9 7) (Opnd.ofCode (w.extractLsb' 2 7)) (w.getLsbD 1) (w.getLsbD 0))
  | 21 => .ok (.npmul (w.extractLsb' 16 7) (w.extractLsb' 9 7) (w.extractLsb' 2 7) (w.getLsbD 1) (w.getLsbD 0))
  | 22 => .ok (.ncrt (w.extractLsb' 16 7) (w.extractLsb' 9 7) (Opnd.ofCode (w.extractLsb' 2 7)) (w.getLsbD 1) (w.getLsbD 0))
  | 23 => .ok (.nred (Opnd.ofCode (w.extractLsb' 16 7)) (w.extractLsb' 9 7) (w.getLsbD 1))
  | _ => .error .reservedMinor

/-- 04 R90: the words of major 0x6 (TILE). -/
def decodeTile (w : Word) : Except Reject Instr :=
  match (w.extractLsb' 23 5).toNat with
  | 0 => .ok (.aopen (w.extractLsb' 16 7) (Opnd.ofCode (w.extractLsb' 9 7)) (w.getLsbD 1))
  | 1 => .ok (.aclose (w.extractLsb' 16 7))
  | 2 => .ok (.azero (w.extractLsb' 16 7))
  | 3 => .ok (.mma (w.extractLsb' 16 7) (w.extractLsb' 9 7) (w.extractLsb' 2 7))
  | 4 => .ok (.lmma (w.extractLsb' 16 7) (w.extractLsb' 9 7) (w.extractLsb' 2 7))
  | 5 => .ok (.ard (Opnd.ofCode (w.extractLsb' 16 7)) (w.extractLsb' 9 7) (Opnd.ofCode (w.extractLsb' 2 7)) (w.getLsbD 0))
  | 6 => .ok (.awr (w.extractLsb' 16 7) (Opnd.ofCode (w.extractLsb' 9 7)) (Opnd.ofCode (w.extractLsb' 2 7)) (w.getLsbD 1) (w.getLsbD 0))
  | 7 => .ok (.cres (w.extractLsb' 16 7) (w.extractLsb' 9 7) (Opnd.ofCode (w.extractLsb' 2 7)) (w.getLsbD 0))
  | 8 => .ok (.adrain (w.extractLsb' 16 7) (Opnd.ofCode (w.extractLsb' 9 7)) (w.getLsbD 1))
  | 9 => .ok (.astat (Opnd.ofCode (w.extractLsb' 16 7)) (w.extractLsb' 9 7) (Opnd.ofCode (w.extractLsb' 2 7)))
  | 10 => .ok (.fqry (Opnd.ofCode (w.extractLsb' 16 7)) (w.extractLsb' 9 7))
  | 11 => .ok (.fdisc (w.extractLsb' 9 7))
  | 12 => .ok (.qblk (Opnd.ofCode (w.extractLsb' 16 7)) (Opnd.ofCode (w.extractLsb' 9 7)) (w.extractLsb' 2 7) (w.getLsbD 1))
  | 13 => .ok (.dqblk (Opnd.ofCode (w.extractLsb' 16 7)) (Opnd.ofCode (w.extractLsb' 9 7)) (w.extractLsb' 2 7) (w.getLsbD 1))
  | _ => .error .reservedMinor

/-- 04 R90: the words of major 0x7 (COPY). -/
def decodeCopy (w : Word) : Except Reject Instr :=
  match (w.extractLsb' 23 5).toNat with
  | 0 => .ok (.cpy (Opnd.ofCode (w.extractLsb' 16 7)) (Opnd.ofCode (w.extractLsb' 9 7)) (w.getLsbD 1))
  | 1 => .ok (.cpyt (Opnd.ofCode (w.extractLsb' 16 7)) (Opnd.ofCode (w.extractLsb' 9 7)) (w.getLsbD 1))
  | 2 => .ok (.cpyf (Opnd.ofCode (w.extractLsb' 16 7)) (Opnd.ofCode (w.extractLsb' 9 7)) (w.extractLsb' 2 7) (w.getLsbD 1))
  | 3 => .ok (.cpyq (Opnd.ofCode (w.extractLsb' 16 7)) (Opnd.ofCode (w.extractLsb' 9 7)) (w.getLsbD 1))
  | 4 => .ok (.cpyx (Opnd.ofCode (w.extractLsb' 16 7)) (Opnd.ofCode (w.extractLsb' 9 7)) (w.getLsbD 1))
  | 5 => .ok (.cstat (Opnd.ofCode (w.extractLsb' 16 7)) (Opnd.ofCode (w.extractLsb' 9 7)) (w.getLsbD 1))
  | 6 => .ok (.ccan (Opnd.ofCode (w.extractLsb' 9 7)) (w.getLsbD 1))
  | _ => .error .reservedMinor

/-- 04 R90: the words of major 0x8 (SYNC). -/
def decodeSync (w : Word) : Except Reject Instr :=
  match (w.extractLsb' 23 5).toNat with
  | 0 => .ok (.binit (Opnd.ofCode (w.extractLsb' 9 7)) (Opnd.ofCode (w.extractLsb' 2 7)) (w.getLsbD 1) (w.getLsbD 0))
  | 1 => .ok (.bexp (Opnd.ofCode (w.extractLsb' 9 7)) (Opnd.ofCode (w.extractLsb' 2 7)) (w.getLsbD 1) (w.getLsbD 0))
  | 2 => .ok (.barr (Opnd.ofCode (w.extractLsb' 16 7)) (Opnd.ofCode (w.extractLsb' 9 7)) (w.getLsbD 1))
  | 3 => .ok (.bwait (Opnd.ofCode (w.extractLsb' 9 7)) (Opnd.ofCode (w.extractLsb' 2 7)) (w.getLsbD 1) (w.getLsbD 0))
  | 4 => .ok (.btest (Opnd.ofCode (w.extractLsb' 16 7)) (Opnd.ofCode (w.extractLsb' 9 7)) (Opnd.ofCode (w.extractLsb' 2 7)) (w.getLsbD 1) (w.getLsbD 0))
  | 5 => .ok .gsync
  | 6 => .ok .csync
  | 7 => .ok (.xst (Opnd.ofCode (w.extractLsb' 9 7)) (Opnd.ofCode (w.extractLsb' 2 7)) (w.getLsbD 1) (w.getLsbD 0))
  | 8 => .ok (.mcst (Opnd.ofCode (w.extractLsb' 9 7)) (Opnd.ofCode (w.extractLsb' 2 7)) (w.getLsbD 1) (w.getLsbD 0))
  | 9 => .ok (.cred (Opnd.ofCode (w.extractLsb' 16 7)) (Opnd.ofCode (w.extractLsb' 9 7)) (Opnd.ofCode (w.extractLsb' 2 7)) (w.getLsbD 1) (w.getLsbD 0))
  | 10 => .ok (.rdtim (Opnd.ofCode (w.extractLsb' 16 7)))
  | 11 => .ok (.rdcyc (Opnd.ofCode (w.extractLsb' 16 7)))
  | _ => .error .reservedMinor

/-- 04 R90: the words of major 0x9 (MEM). -/
def decodeMem (w : Word) : Except Reject Instr :=
  match (w.extractLsb' 24 4).toNat with
  | 0 => .ok (.ld (w.extractLsb' 21 3) (w.extractLsb' 19 2) (Opnd.ofCode (w.extractLsb' 12 7)) (Opnd.ofCode (w.extractLsb' 5 7)) (w.extractLsb' 2 3) (w.getLsbD 1) (w.getLsbD 0))
  | 1 => .ok (.st (w.extractLsb' 21 3) (w.extractLsb' 19 2) (Opnd.ofCode (w.extractLsb' 12 7)) (Opnd.ofCode (w.extractLsb' 5 7)) (w.extractLsb' 2 3) (w.getLsbD 1) (w.getLsbD 0))
  | 2 => .ok (.ldc (w.extractLsb' 21 3) (w.extractLsb' 19 2) (Opnd.ofCode (w.extractLsb' 12 7)) (Opnd.ofCode (w.extractLsb' 5 7)) (w.extractLsb' 2 3) (w.getLsbD 1) (w.getLsbD 0))
  | 3 => .ok (.atadd (w.extractLsb' 21 3) (w.extractLsb' 19 2) (Opnd.ofCode (w.extractLsb' 12 7)) (Opnd.ofCode (w.extractLsb' 5 7)) (w.extractLsb' 2 3) (w.getLsbD 1) (w.getLsbD 0))
  | 4 => .ok (.atmin (w.extractLsb' 21 3) (w.extractLsb' 19 2) (Opnd.ofCode (w.extractLsb' 12 7)) (Opnd.ofCode (w.extractLsb' 5 7)) (w.extractLsb' 2 3) (w.getLsbD 1) (w.getLsbD 0))
  | 5 => .ok (.atmax (w.extractLsb' 21 3) (w.extractLsb' 19 2) (Opnd.ofCode (w.extractLsb' 12 7)) (Opnd.ofCode (w.extractLsb' 5 7)) (w.extractLsb' 2 3) (w.getLsbD 1) (w.getLsbD 0))
  | 6 => .ok (.atand (w.extractLsb' 21 3) (w.extractLsb' 19 2) (Opnd.ofCode (w.extractLsb' 12 7)) (Opnd.ofCode (w.extractLsb' 5 7)) (w.extractLsb' 2 3) (w.getLsbD 1) (w.getLsbD 0))
  | 7 => .ok (.ator (w.extractLsb' 21 3) (w.extractLsb' 19 2) (Opnd.ofCode (w.extractLsb' 12 7)) (Opnd.ofCode (w.extractLsb' 5 7)) (w.extractLsb' 2 3) (w.getLsbD 1) (w.getLsbD 0))
  | 8 => .ok (.atxor (w.extractLsb' 21 3) (w.extractLsb' 19 2) (Opnd.ofCode (w.extractLsb' 12 7)) (Opnd.ofCode (w.extractLsb' 5 7)) (w.extractLsb' 2 3) (w.getLsbD 1) (w.getLsbD 0))
  | 9 => .ok (.atswp (w.extractLsb' 21 3) (w.extractLsb' 19 2) (Opnd.ofCode (w.extractLsb' 12 7)) (Opnd.ofCode (w.extractLsb' 5 7)) (w.extractLsb' 2 3) (w.getLsbD 1) (w.getLsbD 0))
  | 10 => .ok (.atcas (w.extractLsb' 21 3) (w.extractLsb' 19 2) (Opnd.ofCode (w.extractLsb' 12 7)) (Opnd.ofCode (w.extractLsb' 5 7)) (w.extractLsb' 2 3) (w.getLsbD 1) (w.getLsbD 0))
  | 11 => .ok (.fence (w.extractLsb' 21 3) (w.extractLsb' 19 2))
  | 12 => .ok (.acqr (w.extractLsb' 21 3) (w.extractLsb' 19 2) (Opnd.ofCode (w.extractLsb' 12 7)) (Opnd.ofCode (w.extractLsb' 5 7)) (w.extractLsb' 2 3) (w.getLsbD 1) (w.getLsbD 0))
  | 13 => .ok (.spk (w.extractLsb' 21 3) (w.extractLsb' 19 2) (Opnd.ofCode (w.extractLsb' 12 7)) (Opnd.ofCode (w.extractLsb' 5 7)) (w.extractLsb' 2 3) (w.getLsbD 1) (w.getLsbD 0))
  | 14 => .ok (.pref (w.extractLsb' 21 3) (w.extractLsb' 19 2) (Opnd.ofCode (w.extractLsb' 5 7)) (w.extractLsb' 2 3) (w.getLsbD 0))
  | _ => .error .reservedMinor

/-- 04 R90: the words of major 0xA (SPAD). -/
def decodeSpad (w : Word) : Except Reject Instr :=
  match (w.extractLsb' 24 4).toNat with
  | 0 => .ok (.lds (w.extractLsb' 21 3) (w.extractLsb' 19 2) (Opnd.ofCode (w.extractLsb' 12 7)) (Opnd.ofCode (w.extractLsb' 5 7)) (w.extractLsb' 2 3) (w.getLsbD 1) (w.getLsbD 0))
  | 1 => .ok (.sts (w.extractLsb' 21 3) (w.extractLsb' 19 2) (Opnd.ofCode (w.extractLsb' 12 7)) (Opnd.ofCode (w.extractLsb' 5 7)) (w.extractLsb' 2 3) (w.getLsbD 1) (w.getLsbD 0))
  | 2 => .ok (.atsadd (w.extractLsb' 21 3) (w.extractLsb' 19 2) (Opnd.ofCode (w.extractLsb' 12 7)) (Opnd.ofCode (w.extractLsb' 5 7)) (w.extractLsb' 2 3) (w.getLsbD 1) (w.getLsbD 0))
  | 3 => .ok (.atsmin (w.extractLsb' 21 3) (w.extractLsb' 19 2) (Opnd.ofCode (w.extractLsb' 12 7)) (Opnd.ofCode (w.extractLsb' 5 7)) (w.extractLsb' 2 3) (w.getLsbD 1) (w.getLsbD 0))
  | 4 => .ok (.atsmax (w.extractLsb' 21 3) (w.extractLsb' 19 2) (Opnd.ofCode (w.extractLsb' 12 7)) (Opnd.ofCode (w.extractLsb' 5 7)) (w.extractLsb' 2 3) (w.getLsbD 1) (w.getLsbD 0))
  | 5 => .ok (.atscas (w.extractLsb' 21 3) (w.extractLsb' 19 2) (Opnd.ofCode (w.extractLsb' 12 7)) (Opnd.ofCode (w.extractLsb' 5 7)) (w.extractLsb' 2 3) (w.getLsbD 1) (w.getLsbD 0))
  | _ => .error .reservedMinor

/-- 04 R90: the words of major 0xB (QREC). -/
def decodeQrec (w : Word) : Except Reject Instr :=
  match (w.extractLsb' 23 5).toNat with
  | 0 => .ok (.qpush (Opnd.ofCode (w.extractLsb' 16 7)) (Opnd.ofCode (w.extractLsb' 9 7)) (Opnd.ofCode (w.extractLsb' 2 7)) (w.getLsbD 1) (w.getLsbD 0))
  | 1 => .ok (.qmap (Opnd.ofCode (w.extractLsb' 16 7)) (Opnd.ofCode (w.extractLsb' 9 7)) (w.getLsbD 1))
  | 2 => .ok (.qunmap (Opnd.ofCode (w.extractLsb' 16 7)))
  | 3 => .ok (.qsig (Opnd.ofCode (w.extractLsb' 9 7)) (Opnd.ofCode (w.extractLsb' 2 7)) (w.getLsbD 1) (w.getLsbD 0))
  | 4 => .ok (.qwait (Opnd.ofCode (w.extractLsb' 9 7)) (Opnd.ofCode (w.extractLsb' 2 7)) (w.getLsbD 1) (w.getLsbD 0))
  | 5 => .ok (.qattach (Opnd.ofCode (w.extractLsb' 9 7)) (w.getLsbD 1))
  | 6 => .ok (.qdetach (Opnd.ofCode (w.extractLsb' 9 7)) (w.getLsbD 1))
  | 7 => .ok (.qwr (Opnd.ofCode (w.extractLsb' 9 7)) (Opnd.ofCode (w.extractLsb' 2 7)) (w.getLsbD 1) (w.getLsbD 0))
  | 8 => .ok (.rinj (Opnd.ofCode (w.extractLsb' 16 7)) (Opnd.ofCode (w.extractLsb' 9 7)) (Opnd.ofCode (w.extractLsb' 2 7)) (w.getLsbD 1) (w.getLsbD 0))
  | 9 => .ok (.rtake (Opnd.ofCode (w.extractLsb' 16 7)) (Opnd.ofCode (w.extractLsb' 9 7)) (Opnd.ofCode (w.extractLsb' 2 7)) (w.getLsbD 1) (w.getLsbD 0))
  | 10 => .ok .rpass
  | 11 => .ok .rdrop
  | 12 => .ok (.reff (w.extractLsb' 16 7) (Opnd.ofCode (w.extractLsb' 9 7)) (Opnd.ofCode (w.extractLsb' 2 7)) (w.getLsbD 1) (w.getLsbD 0))
  | 13 => .ok (.rstat (Opnd.ofCode (w.extractLsb' 16 7)) (Opnd.ofCode (w.extractLsb' 9 7)) (Opnd.ofCode (w.extractLsb' 2 7)) (w.getLsbD 1) (w.getLsbD 0))
  | _ => .error .reservedMinor

/-- 19 R432: the action of a TRET word is its whole a field. -/
def decodeTret (w : Word) : Except Reject Instr :=
  match (w.extractLsb' 9 7).toNat with
  | 0 => .ok .tretFix
  | 1 => .ok .tretSkip
  | 2 => .ok .tretRetry
  | 3 => .ok .tretKillw
  | 4 => .ok .tretKillg
  | 5 => .ok .tretKillc
  | _ => .error .tretAction

/-- 04 R90: the words of major 0xC (SYS). -/
def decodeSys (w : Word) : Except Reject Instr :=
  match (w.extractLsb' 23 5).toNat with
  | 0 => .ok (.rdsys (Opnd.ofCode (w.extractLsb' 16 7)) (w.extractLsb' 9 7))
  | 1 => .ok (.wrsys (w.extractLsb' 16 7) (Opnd.ofCode (w.extractLsb' 9 7)) (w.getLsbD 1))
  | 2 => decodeTret w
  | 3 => .ok (.bset (w.extractLsb' 16 7) (Opnd.ofCode (w.extractLsb' 9 7)) (Opnd.ofCode (w.extractLsb' 2 7)) (w.getLsbD 1) (w.getLsbD 0))
  | 4 => .ok (.binv (w.extractLsb' 16 7))
  | 5 => .ok (.tagld (Opnd.ofCode (w.extractLsb' 16 7)) (w.extractLsb' 9 7) (Opnd.ofCode (w.extractLsb' 2 7)) (w.getLsbD 0))
  | 6 => .ok (.tagst (w.extractLsb' 16 7) (Opnd.ofCode (w.extractLsb' 9 7)) (Opnd.ofCode (w.extractLsb' 2 7)) (w.getLsbD 1) (w.getLsbD 0))
  | 7 => .ok (.tlbinv (Opnd.ofCode (w.extractLsb' 9 7)) (Opnd.ofCode (w.extractLsb' 2 7)) (w.getLsbD 1) (w.getLsbD 0))
  | 8 => .ok (.pgqry (Opnd.ofCode (w.extractLsb' 16 7)) (Opnd.ofCode (w.extractLsb' 9 7)) (w.getLsbD 1))
  | 9 => .ok .halt
  | _ => .error .reservedMinor

/-- 04 R90: the words of major 0xD (BRANCH). -/
def decodeBranch (w : Word) : Except Reject Instr :=
  match (w.extractLsb' 24 4).toNat with
  | 0 => .ok (.bra (w.extractLsb' 0 24))
  | 1 => .ok (.brz (w.extractLsb' 0 24))
  | 2 => .ok (.brnz (w.extractLsb' 0 24))
  | 3 => .ok (.brneg (w.extractLsb' 0 24))
  | 4 => .ok (.brcy (w.extractLsb' 0 24))
  | 5 => .ok (.breos (w.extractLsb' 0 24))
  | 6 => .ok (.call (w.extractLsb' 0 24))
  | 7 => .error .reservedMinor
  | _ => .ok (.brv (w.extractLsb' 24 3) (w.extractLsb' 0 24))

/-- 04 R90: the instruction a word is, or why it is none. -/
def decodeWord (w : Word) : Except Reject Instr :=
  match (w.extractLsb' 28 4).toNat with
  | 0 => decodeCtrl w
  | 1 => decodeSalu w
  | 2 => decodeValu w
  | 3 => decodeBitx w
  | 4 => .ok (.expr (Opnd.ofCode (w.extractLsb' 21 7)) (Opnd.ofCode (w.extractLsb' 14 7)) (Opnd.ofCode (w.extractLsb' 7 7)) (Opnd.ofCode (w.extractLsb' 0 7)))
  | 5 => decodeNum w
  | 6 => decodeTile w
  | 7 => decodeCopy w
  | 8 => decodeSync w
  | 9 => decodeMem w
  | 10 => decodeSpad w
  | 11 => decodeQrec w
  | 12 => decodeSys w
  | 13 => decodeBranch w
  | _ => .error .reservedMajor

/-- 03 R48: the word that four bytes in address order hold, little-endian. -/
def wordOfBytes (b0 b1 b2 b3 : Byte) : Word := b3 ++ b2 ++ b1 ++ b0

/-- Decoding a list of bytes: the first instruction and the bytes after it; fewer than four bytes are no word (03 R48). -/
def decodeBytes : List Byte → Option (Except Reject Instr × List Byte)
  | b0 :: b1 :: b2 :: b3 :: rest => some (decodeWord (wordOfBytes b0 b1 b2 b3), rest)
  | _ => none

/-- The instruction the decoder reads from a word numbered as the opcode table numbers it: `nbits` of them, every bit above 0. -/
def decodeTableWord (nbits w : Nat) : Option Instr :=
  let v : Word := BitVec.ofNat 32 (w % 2 ^ nbits)
  match decodeBytes [v.extractLsb' 0 8, v.extractLsb' 8 8, v.extractLsb' 16 8, v.extractLsb' 24 8] with
  | some (.ok i, _) => some i
  | _ => none

/-- 03 R50, format A: major, minor, d, a, b, wa, wb. -/
def formatA (maj : BitVec 4) (minor : BitVec 5) (d a b : BitVec 7) (wa wb : Bool) : Word :=
  maj ++ minor ++ d ++ a ++ b ++ BitVec.ofBool wa ++ BitVec.ofBool wb

/-- 03 R50, format C: major 0, minor, imm23. -/
def formatC (minor : BitVec 5) (imm : BitVec 23) : Word := 0#4 ++ minor ++ imm

/-- 03 R50, format C of LDL, LDL2 and LDLN: d in bits 22..16, the word offset in 15..0. -/
def formatL (minor : BitVec 5) (d : BitVec 7) (off : BitVec 16) : Word := 0#4 ++ minor ++ d ++ off

/-- 03 R50, format E. -/
def formatE (d a b c : BitVec 7) : Word := 4#4 ++ d ++ a ++ b ++ c

/-- 03 R50, format M. -/
def formatM (maj op : BitVec 4) (scope : BitVec 3) (order : BitVec 2) (d a : BitVec 7) (base : BitVec 3) (wd wa : Bool) : Word :=
  maj ++ op ++ scope ++ order ++ d ++ a ++ base ++ BitVec.ofBool wd ++ BitVec.ofBool wa

/-- 03 R50, format B. -/
def formatB (kind : BitVec 4) (off : BitVec 24) : Word := 13#4 ++ kind ++ off

/-- The word of an instruction, every field the operation does not use 0 (03 R52); an event has none. -/
def encode : Instr → Option Word
  | .nop => some (formatC 0 0)
  | .setmode imm => some (formatC 1 imm)
  | .ret => some (formatC 2 0)
  | .rcv arm tok => some (formatC 3 (BitVec.ofBool arm ++ tok))
  | .waitc rem copy n => some (formatC 4 (0#13 ++ BitVec.ofBool rem ++ BitVec.ofBool copy ++ n))
  | .yield => some (formatC 5 0)
  | .exit => some (formatC 6 0)
  | .elect k => some (formatC 7 (0#20 ++ k))
  | .ldl d off => some (formatL 8 d.toCode off)
  | .ldl2 d off => some (formatL 9 d.toCode off)
  | .ldln d off => some (formatL 10 d.toCode off)
  | .trap imm => some (formatC 11 imm)
  | .bkpt imm => some (formatC 12 imm)
  | .jmps k => some (formatC 13 (0#18 ++ k))
  | .saluMov d a wa => some (formatA 1 0 d.toCode a.toCode 0 wa false)
  | .saluAdd d a b wa wb => some (formatA 1 1 d.toCode a.toCode b.toCode wa wb)
  | .saluSub d a b wa wb => some (formatA 1 2 d.toCode a.toCode b.toCode wa wb)
  | .saluMul d a b wa wb => some (formatA 1 3 d.toCode a.toCode b.toCode wa wb)
  | .saluMulh d a b wa wb => some (formatA 1 4 d.toCode a.toCode b.toCode wa wb)
  | .saluMad d a b wa wb => some (formatA 1 5 d.toCode a.toCode b.toCode wa wb)
  | .saluMin d a b wa wb => some (formatA 1 6 d.toCode a.toCode b.toCode wa wb)
  | .saluMax d a b wa wb => some (formatA 1 7 d.toCode a.toCode b.toCode wa wb)
  | .saluAbs d a wa => some (formatA 1 8 d.toCode a.toCode 0 wa false)
  | .saluNeg d a wa => some (formatA 1 9 d.toCode a.toCode 0 wa false)
  | .saluAnd d a b wa wb => some (formatA 1 10 d.toCode a.toCode b.toCode wa wb)
  | .saluOr d a b wa wb => some (formatA 1 11 d.toCode a.toCode b.toCode wa wb)
  | .saluXor d a b wa wb => some (formatA 1 12 d.toCode a.toCode b.toCode wa wb)
  | .saluShl d a b wa wb => some (formatA 1 13 d.toCode a.toCode b.toCode wa wb)
  | .saluShr d a b wa wb => some (formatA 1 14 d.toCode a.toCode b.toCode wa wb)
  | .saluSar d a b wa wb => some (formatA 1 15 d.toCode a.toCode b.toCode wa wb)
  | .saluCmpeq d a b wa wb => some (formatA 1 16 d.toCode a.toCode b.toCode wa wb)
  | .saluCmplt d a b wa wb => some (formatA 1 17 d.toCode a.toCode b.toCode wa wb)
  | .saluCmple d a b wa wb => some (formatA 1 18 d.toCode a.toCode b.toCode wa wb)
  | .saluCmpne d a b wa wb => some (formatA 1 19 d.toCode a.toCode b.toCode wa wb)
  | .saluSel d a b wa wb => some (formatA 1 20 d.toCode a.toCode b.toCode wa wb)
  | .saluCvt d a ty wa => some (formatA 1 21 d.toCode a.toCode ty wa false)
  | .addc d a b wa wb => some (formatA 1 22 d.toCode a.toCode b.toCode wa wb)
  | .subb d a b wa wb => some (formatA 1 23 d.toCode a.toCode b.toCode wa wb)
  | .rot d a b wa wb => some (formatA 1 24 d.toCode a.toCode b.toCode wa wb)
  | .rdlane d a b wa wb => some (formatA 1 25 d.toCode a.toCode b.toCode wa wb)
  | .mand d a b wa wb => some (formatA 1 26 d.toCode a.toCode b.toCode wa wb)
  | .mor d a b wa wb => some (formatA 1 27 d.toCode a.toCode b.toCode wa wb)
  | .saluClz d a wa => some (formatA 1 28 d.toCode a.toCode 0 wa false)
  | .saluPopc d a wa => some (formatA 1 29 d.toCode a.toCode 0 wa false)
  | .mxor d a b wa wb => some (formatA 1 30 d.toCode a.toCode b.toCode wa wb)
  | .idxset xk a wa => some (formatA 1 31 xk a.toCode 0 wa false)
  | .valuMov d a wa => some (formatA 2 0 d.toCode a.toCode 0 wa false)
  | .valuAdd d a b wa wb => some (formatA 2 1 d.toCode a.toCode b.toCode wa wb)
  | .valuSub d a b wa wb => some (formatA 2 2 d.toCode a.toCode b.toCode wa wb)
  | .valuMul d a b wa wb => some (formatA 2 3 d.toCode a.toCode b.toCode wa wb)
  | .valuMulh d a b wa wb => some (formatA 2 4 d.toCode a.toCode b.toCode wa wb)
  | .valuFma d a b wa wb => some (formatA 2 5 d.toCode a.toCode b.toCode wa wb)
  | .valuMin d a b wa wb => some (formatA 2 6 d.toCode a.toCode b.toCode wa wb)
  | .valuMax d a b wa wb => some (formatA 2 7 d.toCode a.toCode b.toCode wa wb)
  | .valuAbs d a wa => some (formatA 2 8 d.toCode a.toCode 0 wa false)
  | .valuNeg d a wa => some (formatA 2 9 d.toCode a.toCode 0 wa false)
  | .valuAnd d a b wa wb => some (formatA 2 10 d.toCode a.toCode b.toCode wa wb)
  | .valuOr d a b wa wb => some (formatA 2 11 d.toCode a.toCode b.toCode wa wb)
  | .valuXor d a b wa wb => some (formatA 2 12 d.toCode a.toCode b.toCode wa wb)
  | .valuShl d a b wa wb => some (formatA 2 13 d.toCode a.toCode b.toCode wa wb)
  | .valuShr d a b wa wb => some (formatA 2 14 d.toCode a.toCode b.toCode wa wb)
  | .valuSar d a b wa wb => some (formatA 2 15 d.toCode a.toCode b.toCode wa wb)
  | .valuCmpeq d a b wa wb => some (formatA 2 16 d.toCode a.toCode b.toCode wa wb)
  | .valuCmplt d a b wa wb => some (formatA 2 17 d.toCode a.toCode b.toCode wa wb)
  | .valuCmple d a b wa wb => some (formatA 2 18 d.toCode a.toCode b.toCode wa wb)
  | .valuCmpne d a b wa wb => some (formatA 2 19 d.toCode a.toCode b.toCode wa wb)
  | .valuSel d a b wa wb => some (formatA 2 20 d.toCode a.toCode b.toCode wa wb)
  | .valuCvt d a ty wa => some (formatA 2 21 d.toCode a.toCode ty wa false)
  | .rcp d a wa => some (formatA 2 22 d.toCode a.toCode 0 wa false)
  | .rsq d a wa => some (formatA 2 23 d.toCode a.toCode 0 wa false)
  | .sqrt d a wa => some (formatA 2 24 d.toCode a.toCode 0 wa false)
  | .exp2 d a wa => some (formatA 2 25 d.toCode a.toCode 0 wa false)
  | .log2 d a wa => some (formatA 2 26 d.toCode a.toCode 0 wa false)
  | .vclass d a wa => some (formatA 2 27 d.toCode a.toCode 0 wa false)
  | .valuClz d a wa => some (formatA 2 28 d.toCode a.toCode 0 wa false)
  | .valuPopc d a wa => some (formatA 2 29 d.toCode a.toCode 0 wa false)
  | .div d a b wa wb => some (formatA 2 30 d.toCode a.toCode b.toCode wa wb)
  | .bmm8 d a b wa wb => some (formatA 3 0 d.toCode a.toCode b.toCode wa wb)
  | .bdep d a b wa wb => some (formatA 3 1 d.toCode a.toCode b.toCode wa wb)
  | .bext d a b wa wb => some (formatA 3 2 d.toCode a.toCode b.toCode wa wb)
  | .bperm d a b wa wb => some (formatA 3 3 d.toCode a.toCode b.toCode wa wb)
  | .brev d a wa => some (formatA 3 4 d.toCode a.toCode 0 wa false)
  | .shfl d a b wa wb => some (formatA 3 5 d.toCode a.toCode b.toCode wa wb)
  | .shflx d a b wa wb => some (formatA 3 6 d.toCode a.toCode b.toCode wa wb)
  | .shflup d a b wa wb => some (formatA 3 7 d.toCode a.toCode b.toCode wa wb)
  | .shfldn d a b wa wb => some (formatA 3 8 d.toCode a.toCode b.toCode wa wb)
  | .vall d a wa => some (formatA 3 9 d.toCode a.toCode 0 wa false)
  | .vany d a wa => some (formatA 3 10 d.toCode a.toCode 0 wa false)
  | .vbal d a wa => some (formatA 3 11 d.toCode a.toCode 0 wa false)
  | .qxch d a b wa wb => some (formatA 3 12 d.toCode a.toCode b.toCode wa wb)
  | .qbcst d a b wa wb => some (formatA 3 13 d.toCode a.toCode b.toCode wa wb)
  | .matchv d a wa => some (formatA 3 14 d.toCode a.toCode 0 wa false)
  | .wred d a op wa => some (formatA 3 15 d.toCode a.toCode op wa false)
  | .wscan d a op wa => some (formatA 3 16 d.toCode a.toCode op wa false)
  | .wrlane d a b wa wb => some (formatA 3 17 d.toCode a.toCode b.toCode wa wb)
  | .ptload d b wb => some (formatA 3 18 d.toCode 0 b.toCode false wb)
  | .movx d a wa => some (formatA 3 19 d.toCode a.toCode 0 wa false)
  | .expr d a b c => some (formatE d.toCode a.toCode b.toCode c.toCode)
  | .nset nd a b wa wb => some (formatA 5 0 nd a.toCode b.toCode wa wb)
  | .nget d na b wa wb => some (formatA 5 1 d.toCode na b.toCode wa wb)
  | .nmov nd na wa => some (formatA 5 2 nd na 0 wa false)
  | .nadd nd na nb wa wb => some (formatA 5 3 nd na nb wa wb)
  | .nsub nd na nb wa wb => some (formatA 5 4 nd na nb wa wb)
  | .nneg nd na wa => some (formatA 5 5 nd na 0 wa false)
  | .ncmp d na nb wa wb => some (formatA 5 6 d.toCode na nb wa wb)
  | .nshl nd na b wa wb => some (formatA 5 7 nd na b.toCode wa wb)
  | .nshr nd na b wa wb => some (formatA 5 8 nd na b.toCode wa wb)
  | .nmul nd na nb wa wb => some (formatA 5 9 nd na nb wa wb)
  | .nsqr nd na wa => some (formatA 5 10 nd na 0 wa false)
  | .ndiv nd na nb wa wb => some (formatA 5 11 nd na nb wa wb)
  | .nrem nd na nb wa wb => some (formatA 5 12 nd na nb wa wb)
  | .nmmul nd na nb wa wb => some (formatA 5 13 nd na nb wa wb)
  | .nld nd a wa => some (formatA 5 14 nd a.toCode 0 wa false)
  | .nst nd a wa => some (formatA 5 15 nd a.toCode 0 wa false)
  | .nalloc nd a b wa wb => some (formatA 5 16 nd a.toCode b.toCode wa wb)
  | .nfree nd => some (formatA 5 17 nd 0 0 false false)
  | .nnorm nd na wa => some (formatA 5 18 nd na 0 wa false)
  | .nttf nd na b wa wb => some (formatA 5 19 nd na b.toCode wa wb)
  | .ntti nd na b wa wb => some (formatA 5 20 nd na b.toCode wa wb)
  | .npmul nd na nb wa wb => some (formatA 5 21 nd na nb wa wb)
  | .ncrt nd na b wa wb => some (formatA 5 22 nd na b.toCode wa wb)
  | .nred d na wa => some (formatA 5 23 d.toCode na 0 wa false)
  | .aopen t a wa => some (formatA 6 0 t a.toCode 0 wa false)
  | .aclose t => some (formatA 6 1 t 0 0 false false)
  | .azero t => some (formatA 6 2 t 0 0 false false)
  | .mma t fa fb => some (formatA 6 3 t fa fb false false)
  | .lmma t fa fb => some (formatA 6 4 t fa fb false false)
  | .ard d t b wb => some (formatA 6 5 d.toCode t b.toCode false wb)
  | .awr t a b wa wb => some (formatA 6 6 t a.toCode b.toCode wa wb)
  | .cres nd t b wb => some (formatA 6 7 nd t b.toCode false wb)
  | .adrain t a wa => some (formatA 6 8 t a.toCode 0 wa false)
  | .astat d t b => some (formatA 6 9 d.toCode t b.toCode false false)
  | .fqry d f => some (formatA 6 10 d.toCode f 0 false false)
  | .fdisc f => some (formatA 6 11 0 f 0 false false)
  | .qblk d a ty wa => some (formatA 6 12 d.toCode a.toCode ty wa false)
  | .dqblk d a ty wa => some (formatA 6 13 d.toCode a.toCode ty wa false)
  | .cpy d a wa => some (formatA 7 0 d.toCode a.toCode 0 wa false)
  | .cpyt d a wa => some (formatA 7 1 d.toCode a.toCode 0 wa false)
  | .cpyf d a f wa => some (formatA 7 2 d.toCode a.toCode f wa false)
  | .cpyq d a wa => some (formatA 7 3 d.toCode a.toCode 0 wa false)
  | .cpyx d a wa => some (formatA 7 4 d.toCode a.toCode 0 wa false)
  | .cstat d a wa => some (formatA 7 5 d.toCode a.toCode 0 wa false)
  | .ccan a wa => some (formatA 7 6 0 a.toCode 0 wa false)
  | .binit a b wa wb => some (formatA 8 0 0 a.toCode b.toCode wa wb)
  | .bexp a b wa wb => some (formatA 8 1 0 a.toCode b.toCode wa wb)
  | .barr d a wa => some (formatA 8 2 d.toCode a.toCode 0 wa false)
  | .bwait a b wa wb => some (formatA 8 3 0 a.toCode b.toCode wa wb)
  | .btest d a b wa wb => some (formatA 8 4 d.toCode a.toCode b.toCode wa wb)
  | .gsync => some (formatA 8 5 0 0 0 false false)
  | .csync => some (formatA 8 6 0 0 0 false false)
  | .xst a b wa wb => some (formatA 8 7 0 a.toCode b.toCode wa wb)
  | .mcst a b wa wb => some (formatA 8 8 0 a.toCode b.toCode wa wb)
  | .cred d a b wa wb => some (formatA 8 9 d.toCode a.toCode b.toCode wa wb)
  | .rdtim d => some (formatA 8 10 d.toCode 0 0 false false)
  | .rdcyc d => some (formatA 8 11 d.toCode 0 0 false false)
  | .ld scope order d a base wd wa => some (formatM 9 0 scope order d.toCode a.toCode base wd wa)
  | .st scope order d a base wd wa => some (formatM 9 1 scope order d.toCode a.toCode base wd wa)
  | .ldc scope order d a base wd wa => some (formatM 9 2 scope order d.toCode a.toCode base wd wa)
  | .atadd scope order d a base wd wa => some (formatM 9 3 scope order d.toCode a.toCode base wd wa)
  | .atmin scope order d a base wd wa => some (formatM 9 4 scope order d.toCode a.toCode base wd wa)
  | .atmax scope order d a base wd wa => some (formatM 9 5 scope order d.toCode a.toCode base wd wa)
  | .atand scope order d a base wd wa => some (formatM 9 6 scope order d.toCode a.toCode base wd wa)
  | .ator scope order d a base wd wa => some (formatM 9 7 scope order d.toCode a.toCode base wd wa)
  | .atxor scope order d a base wd wa => some (formatM 9 8 scope order d.toCode a.toCode base wd wa)
  | .atswp scope order d a base wd wa => some (formatM 9 9 scope order d.toCode a.toCode base wd wa)
  | .atcas scope order d a base wd wa => some (formatM 9 10 scope order d.toCode a.toCode base wd wa)
  | .fence scope order => some (formatM 9 11 scope order 0 0 0 false false)
  | .acqr scope order d a base wd wa => some (formatM 9 12 scope order d.toCode a.toCode base wd wa)
  | .spk scope order d a base wd wa => some (formatM 9 13 scope order d.toCode a.toCode base wd wa)
  | .pref scope order a base wa => some (formatM 9 14 scope order 0 a.toCode base false wa)
  | .lds scope order d a base wd wa => some (formatM 10 0 scope order d.toCode a.toCode base wd wa)
  | .sts scope order d a base wd wa => some (formatM 10 1 scope order d.toCode a.toCode base wd wa)
  | .atsadd scope order d a base wd wa => some (formatM 10 2 scope order d.toCode a.toCode base wd wa)
  | .atsmin scope order d a base wd wa => some (formatM 10 3 scope order d.toCode a.toCode base wd wa)
  | .atsmax scope order d a base wd wa => some (formatM 10 4 scope order d.toCode a.toCode base wd wa)
  | .atscas scope order d a base wd wa => some (formatM 10 5 scope order d.toCode a.toCode base wd wa)
  | .qpush d a b wa wb => some (formatA 11 0 d.toCode a.toCode b.toCode wa wb)
  | .qmap d a wa => some (formatA 11 1 d.toCode a.toCode 0 wa false)
  | .qunmap d => some (formatA 11 2 d.toCode 0 0 false false)
  | .qsig a b wa wb => some (formatA 11 3 0 a.toCode b.toCode wa wb)
  | .qwait a b wa wb => some (formatA 11 4 0 a.toCode b.toCode wa wb)
  | .qattach a wa => some (formatA 11 5 0 a.toCode 0 wa false)
  | .qdetach a wa => some (formatA 11 6 0 a.toCode 0 wa false)
  | .qwr a b wa wb => some (formatA 11 7 0 a.toCode b.toCode wa wb)
  | .rinj d a b wa wb => some (formatA 11 8 d.toCode a.toCode b.toCode wa wb)
  | .rtake d a b wa wb => some (formatA 11 9 d.toCode a.toCode b.toCode wa wb)
  | .rpass => some (formatA 11 10 0 0 0 false false)
  | .rdrop => some (formatA 11 11 0 0 0 false false)
  | .reff sz a b wa wb => some (formatA 11 12 sz a.toCode b.toCode wa wb)
  | .rstat d a b wa wb => some (formatA 11 13 d.toCode a.toCode b.toCode wa wb)
  | .rdsys d k => some (formatA 12 0 d.toCode k 0 false false)
  | .wrsys k a wa => some (formatA 12 1 k a.toCode 0 wa false)
  | .tretFix => some (formatA 12 2 0 0 0 false false)
  | .tretSkip => some (formatA 12 2 0 1 0 false false)
  | .tretRetry => some (formatA 12 2 0 2 0 false false)
  | .tretKillw => some (formatA 12 2 0 3 0 false false)
  | .tretKillg => some (formatA 12 2 0 4 0 false false)
  | .tretKillc => some (formatA 12 2 0 5 0 false false)
  | .bset bk a b wa wb => some (formatA 12 3 bk a.toCode b.toCode wa wb)
  | .binv bk => some (formatA 12 4 bk 0 0 false false)
  | .tagld d bk b wb => some (formatA 12 5 d.toCode bk b.toCode false wb)
  | .tagst bk a b wa wb => some (formatA 12 6 bk a.toCode b.toCode wa wb)
  | .tlbinv a b wa wb => some (formatA 12 7 0 a.toCode b.toCode wa wb)
  | .pgqry d a wa => some (formatA 12 8 d.toCode a.toCode 0 wa false)
  | .halt => some (formatA 12 9 0 0 0 false false)
  | .bra off => some (formatB 0 off)
  | .brz off => some (formatB 1 off)
  | .brnz off => some (formatB 2 off)
  | .brneg off => some (formatB 3 off)
  | .brcy off => some (formatB 4 off)
  | .breos off => some (formatB 5 off)
  | .call off => some (formatB 6 off)
  | .brv k off => some (formatB (1#1 ++ k) off)
  | .create _ => none
  | .commit _ => none
  | .suspend _ => none
  | .resume _ => none
  | .destroy _ => none
  | .release _ => none
  | .ctxcmdBadcmd _ _ => none
  | .contextDead _ => none
  | .registerWrite _ _ _ => none
  | .savepoolWrite _ => none
  | .doorbell _ _ => none
  | .bind _ _ => none
  | .unbind _ => none
  | .pause _ => none
  | .unpause _ => none
  | .reset _ => none
  | .qctlBadcmd _ _ => none
  | .kernelLoad _ => none
  | .launchAdmission => none
  | .signalRecheck => none
  | .priorityAgeing _ _ => none
  | .phaseDrained _ => none
  | .phaseSelection _ => none
  | .groupPlacement => none
  | .groupRestored _ _ => none
  | .preemptionStart => none
  | .rowBlockPreemption _ => none
  | .groupSaved _ => none
  | .warpActivate _ => none
  | .producerWriteback _ => none
  | .memoryAccessComplete _ => none
  | .retryResume _ _ => none
  | .migrationLock _ => none
  | .migrationMove _ => none
  | .migrationPublish _ => none
  | .migratingLeafRecheck _ => none
  | .migrate => none
  | .pin => none
  | .unpin => none
  | .mcmdTlbinv => none
  | .frameinWrite _ _ => none
  | .copyLand _ _ => none
  | .copyDone _ => none
  | .copyFail _ => none
  | .exchangeStoreLand _ => none
  | .reductionResult _ => none
  | .streamOperationComplete _ => none
  | .hodAllocation _ => none
  | .tileOperationRetire _ _ => none
  | .recordAssignment _ => none
  | .windowClose _ => none
  | .recordCommit _ _ => none
  | .rowAlert _ _ _ _ => none
  | .damperEpisode _ => none
  | .flitReceive _ _ => none
  | .replayRequest _ => none
  | .packetDeliver _ => none
  | .laneLoss _ _ => none
  | .replayStorm _ => none
  | .retrainComplete _ => none
  | .retrainTimeout _ => none
  | .linkQuiesce _ => none
  | .quiesceComplete _ => none
  | .inboundAccess _ => none
  | .inboundTimeout _ => none
  | .errorResponse _ _ => none
  | .remoteTimeout _ => none
  | .hostMemoryAccess _ _ => none
  | .qwaitRecheck _ _ _ => none
  | .powerGood => none
  | .romCheckComplete => none
  | .bringupComplete => none
  | .powerLoss => none
  | .thermalTrip _ => none
  | .functionLevelReset => none
  | .stepChange _ _ => none
  | .clockPauseEnd _ => none
  | .stepcapWrite _ => none
  | .mgmtcauseClear _ => none
  | .report => none
  | .certs => none
  | .nodeset => none
  | .attestationComplete => none
  | .healthThreshold _ => none
  | .healthWindowEnd _ => none
  | .patrolRead _ _ => none
  | .reservedEncoding _ => none
  | .flitSlot _ => none
  | .spillComplete _ _ _ => none
  | .thermalWarning _ => none
  | .coreRestart _ => none
  | .firmwareImageLoad _ _ => none

end Sys2Proof
end

