-- ==== Sys2Proof/Config.lean ====
section
/-! DEFINITION. What the module fixes and the free values: constants without a body, applied to the plain counter `State.tick`
or to the operands, wherever the spec leaves a value open (log entries 2, 20, 21, 25, 26, 40, 41, 48, 52, 59). -/

namespace Sys2Proof.Config

/-- Nanoseconds of the reference timer that pass in the step numbered by its argument (13 R310; log entry 2). -/
opaque elapsed : Nat → Nat

/-- The byte the attestation writes at an offset of a signature or a certificate chain, for the n-th attestation (20 R442; log entry 20). -/
opaque attestByte : Nat → Nat → Byte

/-- Module power in W at the step numbered by the argument (20 R439, POWER; log entry 52). -/
opaque power : Nat → Nat

/-- The hottest junction of a die in degrees Celsius at a step (20 R439, TEMP; log entry 52). -/
opaque temp : Nat → Nat → Nat

/-- Contents that the spec leaves unspecified, a byte for each use and offset (12 R292, 10 R227; log entries 21, 26, 41). -/
opaque freeByte : Nat → Nat → Byte

/-- A choice that the spec leaves open, for the step numbered by the argument (10 R228, 13 R309; log entries 25, 40). -/
opaque freeNat : Nat → Nat

/-- The row of an HBM4E channel that holds a line: row placement is private to the controller (16 R377; log entry 48). -/
opaque row : Nat → Nat → Nat

end Sys2Proof.Config
end

