-- ==== Sys2Proof/Machine/State.lean ====
section
/-! DEFINITION. The state of the whole module as plain data, the reasons a step can stop, and the state at reset. Each field
cites the rule that names it; INVENTORY.md lists them with their reset values. -/

namespace Sys2Proof.Machine

/-- Memory: (address, byte) pairs, addresses strictly rising, no entry 0, because an unlisted address reads 0 (log entry 3). -/
abbrev Memory := List Host.Cell

/-- A table keyed by number; a key that is not listed is absent. -/
abbrev Tab (α : Type) := List (Nat × α)

/-! ## Registers of a warp (03 R56, R62) -/

/-- The recorded cause of an orphaned register (03 R62). -/
inductive Orphan where
  /-- the producer faulted or was killed -/
  | orphan
  /-- a remote access failed -/
  | rfault
  /-- a remote access timed out -/
  | rtimeout
  deriving DecidableEq, Repr

/-- The state of a vector, scalar or number register (03 R62). -/
inductive Fill where
  /-- FULL -/
  | full
  /-- EMPTY: a producer is in flight -/
  | empty
  /-- ORPHANED with its cause -/
  | orphaned (c : Orphan)
  deriving DecidableEq, Repr

/-- A physical vector register (03 R56). -/
structure VReg where
  /-- the 32 lanes -/
  lanes : Lanes
  /-- full/empty state -/
  fill : Fill
  deriving DecidableEq, Repr

/-- A scalar register (03 R56). -/
structure SReg where
  /-- the 64 bits -/
  val : DWord
  /-- full/empty state -/
  fill : Fill
  deriving DecidableEq, Repr

/-- A number register with its HOME and OWN (02 R45, 10 R216). -/
structure NReg where
  /-- the 128-bit descriptor -/
  desc : BitVec 128
  /-- HOME, none for 127 -/
  home : Option (Fin 80)
  /-- OWN: address and capacity in limbs -/
  own : Option (Nat × Nat)
  /-- full/empty state -/
  fill : Fill
  deriving DecidableEq, Repr

/-- A base register, field by field (15 R354). -/
structure BaseReg where
  /-- the base's virtual address -/
  va : BitVec 56
  /-- local page number of the base's page -/
  frame : BitVec 28
  /-- pages after it that the fast path covers -/
  lpg : BitVec 14
  /-- the fast path is valid -/
  fp : Bool
  /-- the register is valid -/
  valid : Bool
  /-- copied from the leaf -/
  w : Bool
  /-- copied from the leaf -/
  u : Bool
  /-- copied from the leaf -/
  te : Bool
  /-- pointer bits 59..56 -/
  tag : BitVec 4
  /-- the E2M1 extra value (02 R32) -/
  extra : BitVec 16
  deriving DecidableEq, Repr

/-- A register window (08 R159): which physical registers v0.. name. -/
structure Window where
  /-- its name within the warp -/
  id : Nat
  /-- window depth, 0 for the entry window -/
  depth : Nat
  /-- physical registers of v0, v1, ...; its length is W -/
  regs : List Nat
  /-- registers it opened, WIN - OVL, the entry window all (08 R162) -/
  opened : Nat
  /-- the link's return address (08 R179) -/
  ret : DWord
  /-- the caller's window, none for an entry window -/
  caller : Option Nat
  /-- moved out by the spill engine (08 R160) -/
  spilled : Bool
  /-- the step at which it was opened, for its age (08 R160) -/
  born : Nat
  /-- what the spill engine stored for it: each register's tag code and stored bytes (08 R161); none while it is in the register file -/
  packed : List (Nat × List Byte)
  deriving DecidableEq, Repr

/-- Where a fragment that has arrived at a meeting waits (13 R306). -/
inductive Arrival where
  /-- GSYNC with its count -/
  | gsync (k : Nat)
  /-- CSYNC with its count -/
  | csync (k : Nat)
  /-- CRED: the reduction and whether it has contributed -/
  | cred (id : Nat)
  /-- ASTAT with its tile operation (11 R255) -/
  | tile (id : Nat)
  /-- QPUSH or an RPASS that commits: an answer is due (06 R125, 17 R401) -/
  | answer (id : Nat)
  /-- BWAIT on the object at an offset with a token (13 R302) -/
  | bwait (off tok : Nat)
  /-- BWAIT whose phase is over -/
  | bwaitOver
  /-- BWAIT whose object has been broken, at its offset (13 R300) -/
  | bwaitBroken (off : Nat)
  deriving DecidableEq, Repr

/-- The status of a fragment in a slot (08 R165). -/
inductive FragStatus where
  /-- READY -/
  | ready
  /-- BLOCKED; `parks` when the wait is one of the events of 08 R150 -/
  | blocked (parks : Bool)
  deriving DecidableEq, Repr

/-- A replay that a TRET FIX or RETRY of a lane trap orders (19 R432). -/
structure Replay where
  /-- the instruction that replays, FPC -/
  pc : DWord
  /-- the lanes that replay -/
  lanes : Word
  deriving DecidableEq, Repr

/-- The cause at which one lane failed, kept for RETRY (19 R432). -/
structure LaneCause where
  /-- the lane -/
  lane : Nat
  /-- its cause code (19 R433) -/
  code : Nat
  /-- the address it met -/
  addr : Nat
  /-- the access was a write -/
  write : Bool
  deriving DecidableEq, Repr

/-- A fragment (08 R155). -/
structure Frag where
  /-- next instruction -/
  pc : DWord
  /-- lanes of the fragment -/
  mask : Word
  /-- join-table entry, none for 31 -/
  join : Option (Fin 16)
  /-- its window -/
  win : Nat
  /-- READY or BLOCKED -/
  status : FragStatus
  /-- replays due before `pc`, next first -/
  replays : List Replay
  /-- causes whose conditions a RETRY waits for (19 R432) -/
  retry : List LaneCause
  /-- an arrival that stands (13 R306) -/
  arrived : Option Arrival
  /-- the operand code whose source its next instruction reads as with wait bit 0 (19 R432, RETRY of EMPTY) -/
  nowait : Option Nat
  deriving DecidableEq, Repr

/-- A join-table entry (08 R156). -/
structure JoinEntry where
  /-- entry in use -/
  valid : Bool
  /-- join link to restore at the merge -/
  outer : Option (Fin 16)
  /-- window of the arming fragment; WIN is its depth -/
  win : Nat
  /-- token E -/
  token : BitVec 22
  /-- lanes still to arrive, or already arrived -/
  expect : Word
  /-- lanes that have arrived -/
  arrived : Word
  /-- where the merged fragment goes on: PC + 4 of the RCV that arrived last -/
  pc : DWord
  deriving DecidableEq, Repr

/-- The trap registers (19 R429). -/
structure TrapRegs where
  /-- CAUSE -/
  cause : Word
  /-- FPC -/
  fpc : DWord
  /-- FADDR -/
  faddr : DWord
  /-- FMASK -/
  fmask : Word
  deriving DecidableEq, Repr

/-- KIND of a trap (19 R429). -/
inductive TrapKind where
  /-- 0: the instruction had no effect -/
  | issue
  /-- 1: some lanes finished -/
  | lane
  /-- 2: TRAP or BKPT -/
  | software
  deriving DecidableEq, Repr

/-- A trap that is due (19 R427, R430). -/
structure Due where
  /-- cause code -/
  code : Nat
  /-- kind -/
  kind : TrapKind
  /-- address of the trapping instruction -/
  fpc : DWord
  /-- FADDR -/
  faddr : DWord
  /-- FMASK -/
  fmask : Word
  /-- the lanes that name the fragment which takes it -/
  lanes : Word
  /-- per-lane causes -/
  causes : List LaneCause
  deriving DecidableEq, Repr

/-- What trap entry keeps of the interrupted fragment (19 R427). -/
structure Kept where
  /-- the fragment as it stood -/
  frag : Frag
  /-- its slot -/
  slot : Bool
  /-- the handler's entry window -/
  hwin : Nat
  /-- kind of the trap taken -/
  kind : TrapKind
  /-- the other slot held a fragment, which is stopped -/
  other : Bool
  /-- stack entries at entry, which are stopped -/
  below : Nat
  deriving DecidableEq, Repr

/-- Scheduling state of a warp (08 R164); INTRAP is `Warp.intrap`. -/
inductive Sched where
  /-- PENDING -/
  | pending
  /-- ACTIVE -/
  | active
  /-- PARKED -/
  | parked
  /-- EXITED -/
  | exited
  deriving DecidableEq, Repr

/-- The record a warp holds (17 R390). -/
structure Held where
  /-- the binding -/
  bind : Nat
  /-- the record's slot -/
  slot : Nat
  deriving DecidableEq, Repr

/-- An RDLANE that issued ahead of an EMPTY source (09 R188). -/
structure LaneRead where
  /-- names the read -/
  id : Nat
  /-- physical registers read, the high one of a pair second -/
  regs : List Nat
  /-- the lane -/
  lane : Nat
  /-- the scalar destination -/
  dst : Fin 32
  /-- ETYPE at issue -/
  etype : Nat
  deriving DecidableEq, Repr

/-- A warp (03 R56, 08 R147, R164). -/
structure Warp where
  /-- s0 to s31 -/
  s : Vector SReg 32
  /-- m0 to m7 -/
  m : Vector Word 8
  /-- b0 to b7 -/
  b : Vector BaseReg 8
  /-- n0 to n7 -/
  n : Vector NReg 8
  /-- x0 to x3 -/
  x : Vector Byte 4
  /-- MODE (03 R57) -/
  mode : BitVec 23
  /-- FLAGS (03 R61) -/
  flags : Byte
  /-- physical vector registers -/
  phys : Tab VReg
  /-- next physical register name -/
  nextPhys : Nat
  /-- register windows (08 R159) -/
  wins : List Window
  /-- next window name -/
  nextWin : Nat
  /-- fragment slot 0 (08 R155) -/
  slot0 : Option Frag
  /-- fragment slot 1 -/
  slot1 : Option Frag
  /-- fragment stack, top first -/
  stack : List Frag
  /-- join table (08 R156) -/
  joins : Vector JoinEntry 16
  /-- helper lanes (08 R146) -/
  helper : Word
  /-- word queues that s28 to s31 are mapped onto (06 R126) -/
  qmap : Vector (Option DWord) 4
  /-- what s28 to s31 hold as ordinary scalars while they are mapped: the last word popped into each (03 R67) -/
  popped : Vector DWord 4
  /-- attachment table (06 R122) -/
  attach : List DWord
  /-- WAITC counter COPY (08 R170) -/
  copyN : Nat
  /-- WAITC counter REM -/
  remN : Nat
  /-- WAITC error count ECOPY -/
  ecopy : Nat
  /-- WAITC error count EREM -/
  erem : Nat
  /-- GSYNC count (13 R304) -/
  gsyncN : Nat
  /-- CSYNC count (13 R305) -/
  csyncN : Nat
  /-- PLVL (05 R106) -/
  plvl : BitVec 2
  /-- NTHR (05 R108) -/
  nthr : BitVec 25
  /-- CAUSE, FPC, FADDR, FMASK -/
  trap : TrapRegs
  /-- per-lane causes of the trap taken (19 R432) -/
  causes : List LaneCause
  /-- the interrupted fragment -/
  kept : Option Kept
  /-- pending traps, first due first (19 R430) -/
  due : List Due
  /-- held record (17 R390) -/
  held : Option Held
  /-- PENDING, ACTIVE, PARKED or EXITED -/
  sched : Sched
  /-- INTRAP -/
  intrap : Bool
  /-- order stamp of the last change of `sched` (08 R150) -/
  since : Nat
  /-- warp slot on its core (05 R109) -/
  slotNo : Nat
  /-- the slot that issued last is slot 1 (08 R149) -/
  last1 : Bool
  /-- RDLANE reads in flight -/
  laneReads : List LaneRead
  deriving DecidableEq, Repr

/-! ## Tiles and FIFOs (11) -/

/-- An accumulator element (02 R39). -/
structure TileElem where
  /-- the 96-bit integer -/
  acc : BitVec 96
  /-- the NaN bit -/
  nan : Bool
  deriving DecidableEq, Repr

/-- STATE of a tile (11 R250). -/
inductive TileState where
  /-- 0 CLOSED -/
  | closed
  /-- 1 OPEN -/
  | opened
  /-- 2 CLOSING -/
  | closing
  deriving DecidableEq, Repr

/-- A tile (11 R250); its PEND is the number of its operations in the tile order. -/
structure Tile where
  /-- STATE -/
  st : TileState
  /-- limb tile -/
  limb : Bool
  /-- ERR -/
  err : Bool
  /-- OVF -/
  ovf : Bool
  /-- LOSS -/
  loss : Bool
  /-- ROWS -/
  rows : Nat
  /-- anchor exponent -/
  x : Int
  /-- elements by 128 x row + column; an unlisted element is 0 without NaN -/
  elems : Tab TileElem
  deriving DecidableEq, Repr

/-- The element selector of ARD and AWR (11 R266). -/
structure TileSel where
  /-- WORD -/
  word : Nat
  /-- COL0 -/
  col0 : Nat
  /-- ROW -/
  row : Nat
  deriving DecidableEq, Repr

/-- What a pending tile operation does at its turn (11 R254 to R269). -/
inductive TileOpKind where
  /-- AZERO -/
  | azero
  /-- MMA with the slabs it claimed: (FIFO, slab) of the A side and of the B side -/
  | mma (fa sa fb sb : Nat)
  /-- LMMA with the slabs it claimed -/
  | lmma (fa sa fb sb : Nat)
  /-- ARD into a physical register of a warp -/
  | ard (w reg : Nat) (sel : TileSel)
  /-- AWR with the lanes read at issue -/
  | awr (lanes : Lanes) (sel : TileSel)
  /-- CRES of a row into a number register of a warp, issued at PL0 or not; the OWN block that it replaces -/
  | cres (w : Nat) (n : Fin 8) (row : Nat) (user : Bool) (old : Option (Nat × Nat))
  /-- ASTAT with wait selector 1 of a fragment, to a scalar register -/
  | astat (w : Nat) (slot : Bool) (dst : Option (Fin 32))
  /-- ADRAIN: the copy that writes the snapshot -/
  | adrain (copy : Nat)
  deriving DecidableEq, Repr

/-- A pending tile operation (11 R254). -/
structure TileOp where
  /-- its name -/
  id : Nat
  /-- tile a0 to a7 -/
  tile : Fin 8
  /-- what it does -/
  kind : TileOpKind
  deriving DecidableEq, Repr

/-- An AOPEN that waits for row blocks (11 R251). -/
structure RowWait where
  /-- warp -/
  w : Nat
  /-- slot of the fragment -/
  slot : Bool
  /-- start of the wait, ns -/
  since : Nat
  /-- free row blocks that it needs -/
  need : Nat
  deriving DecidableEq, Repr

/-- A slab of an operand FIFO (11 R259, R260). -/
structure Slab where
  /-- its name within the FIFO -/
  id : Nat
  /-- the CPYF that carries it -/
  copy : Nat
  /-- bytes it takes -/
  size : Nat
  /-- bytes landed, in order -/
  bytes : List Byte
  /-- claimed by an operation -/
  claimed : Bool
  /-- its CPYF ended FAILED or CANCELLED first -/
  failed : Bool
  deriving DecidableEq, Repr

/-- An operand FIFO as its owning group holds it (11 R258). -/
structure Fifo where
  /-- slabs, oldest first -/
  slabs : List Slab
  /-- BROKEN -/
  broken : Bool
  /-- next slab name -/
  next : Nat
  deriving DecidableEq, Repr

/-! ## Kernels, launches and groups (03, 06, 07, 08) -/

/-- A schedule entry (03 R72). -/
structure Schedule where
  /-- LIMIT -/
  limit : Nat
  /-- ENTRY -/
  entry : Nat
  /-- GROUPS -/
  groups : Nat
  /-- GDIV -/
  gdiv : Nat
  /-- WARPS -/
  warps : Nat
  /-- NUMAREA -/
  numarea : Nat
  /-- SPAD -/
  spad : Nat
  /-- EXCH -/
  exch : Nat
  /-- WIN of the function header word before ENTRY (03 R73) -/
  win : Nat
  deriving DecidableEq, Repr

/-- A patch entry (03 R71). -/
structure Patch where
  /-- code word offset -/
  code : Nat
  /-- word offset in the parameter block -/
  param : Nat
  /-- word count -/
  count : Nat
  deriving DecidableEq, Repr

/-- A loaded kernel: header, tables, parameters and the packet, latched (07 R131, R132). -/
structure Kernel where
  /-- owning context -/
  ctx : Nat
  /-- virtual address of the container -/
  addr : Nat
  /-- CODE_OFF -/
  codeOff : Nat
  /-- CODE_SIZE -/
  codeSize : Nat
  /-- pools: first word and word count -/
  pools : List (Nat × Nat)
  /-- the pool words as loading read them, by the pool's first word (03 R68) -/
  lits : Tab (List Word)
  /-- patch list -/
  patches : List Patch
  /-- schedules -/
  scheds : List Schedule
  /-- expression programs -/
  exprs : List DWord
  /-- permutation entries, 64 values each -/
  perms : List (List Nat)
  /-- stage sets: entry byte offset and cost hint of each stage -/
  stagesets : List (List (Nat × Nat))
  /-- parameter words -/
  params : List Word
  /-- virtual address of the size words -/
  sizesVa : Nat
  /-- PHASES -/
  phases : Nat
  /-- completion signal, none for 0xFFFF_FFFF -/
  done : Option Nat
  /-- PRIO -/
  prio : Nat
  /-- the phase-0 size word -/
  size0 : Nat
  deriving DecidableEq, Repr

/-- States of an admitted launch (07 R141). -/
inductive LaunchState where
  /-- LAUNCHED -/
  | launched
  /-- RUNNING -/
  | running
  /-- DRAINING -/
  | draining
  /-- SELECTING -/
  | selecting
  /-- DONE -/
  | done
  /-- ABORTED -/
  | aborted
  deriving DecidableEq, Repr

/-- An admitted launch (07 R141). -/
structure Launch where
  /-- the kernel -/
  k : Kernel
  /-- state -/
  st : LaunchState
  /-- current phase -/
  phase : Nat
  /-- size word of the phase -/
  size : Nat
  /-- group count of the phase -/
  count : Nat
  /-- a KILLG has been taken (07 R140) -/
  killed : Bool
  /-- effective priority (06 R119) -/
  prio : Nat
  /-- admission order -/
  order : Nat
  deriving DecidableEq, Repr

/-- States of a group (08 R163). -/
inductive GroupState where
  /-- WAITING -/
  | waiting
  /-- PLACING -/
  | placing
  /-- RESIDENT -/
  | resident
  /-- PREEMPTING -/
  | preempting
  /-- SAVED -/
  | saved
  /-- RESTORING -/
  | restoring
  /-- EXITED -/
  | exited
  /-- KILLED -/
  | killed
  deriving DecidableEq, Repr

/-- A group (08 R143 to R153). -/
structure Group where
  /-- its launch -/
  launch : Nat
  /-- phase of the launch -/
  phase : Nat
  /-- group number in the phase -/
  num : Nat
  /-- context -/
  ctx : Nat
  /-- the schedule of the phase -/
  sched : Schedule
  /-- window size of the entry -/
  win : Nat
  /-- state -/
  st : GroupState
  /-- its warps -/
  warps : List Warp
  /-- group scratchpad region (window 0) -/
  spad : Memory
  /-- number areas: warp w's byte o is at w x NUMAREA x 1024 + o (window 2) -/
  numa : Memory
  /-- exchange bank 0 (13 R303) -/
  bank0 : Memory
  /-- exchange bank 1 -/
  bank1 : Memory
  /-- bank 1 is live -/
  live1 : Bool
  /-- highest GSYNC count whose swap is done -/
  gswaps : Nat
  /-- highest CSYNC count whose swap is done (13 R305) -/
  cswaps : Nat
  /-- presence counts of scratchpad lines, unlisted 0 (12 R285) -/
  absent : Tab Nat
  /-- tiles a0 to a7 -/
  tiles : Vector Tile 8
  /-- tile order, oldest first (11 R254) -/
  tops : List TileOp
  /-- operand FIFOs the group owns: fa0, fa1, fb0, fb1 -/
  fifos : Vector (Option Fifo) 4
  /-- core it is resident on -/
  core : Option Nat
  /-- quadrant of its last residence (13 R305) -/
  lastQuad : Option Nat
  /-- start of the residence clock, ns (08 R151) -/
  resSince : Nat
  /-- its save image is reserved (08 R147) -/
  imaged : Bool
  /-- where its image lies in the save area: virtual addresses and bytes (08 R147, 05 R99) -/
  imgAt : List (Nat × Nat)
  /-- the bytes that the last save wrote into the image, its check code among them (08 R147, R152) -/
  image : List Byte
  /-- effective priority it has aged to (06 R119) -/
  prio : Nat
  /-- its AOPENs that wait for row blocks (11 R251) -/
  aopens : List RowWait
  /-- since when its wait for a place counts towards its ageing, ns (06 R119) -/
  waitSince : Nat
  /-- words of its windows whose data is uncorrectable: window code (0 group region, 1 and 2 the banks, 3 number areas) and byte offset / 4
  (19 R434) -/
  badWords : List (Nat × Nat)
  deriving DecidableEq, Repr

/-! ## Work in flight -/

/-- An atomic operation (14 R326). -/
inductive AtOp where
  /-- add -/
  | add
  /-- minimum -/
  | min
  /-- maximum -/
  | max
  /-- bitwise and -/
  | and
  /-- bitwise or -/
  | or
  /-- bitwise exclusive or -/
  | xor
  /-- swap -/
  | swp
  /-- compare and swap -/
  | cas
  deriving DecidableEq, Repr

/-- What a memory instruction does (14 R314, 15 R368). -/
inductive MemKind where
  /-- LD, LDS -/
  | load
  /-- LDC with its count -/
  | ldc (count : Nat)
  /-- ACQR -/
  | acqr
  /-- ST, STS -/
  | store
  /-- SPK -/
  | spk
  /-- MEM and SPAD atomics -/
  | atomic (op : AtOp)
  /-- TAGLD -/
  | tagld
  /-- TAGST -/
  | tagst
  deriving DecidableEq, Repr

/-- How one lane of a memory instruction stands (14 R319). -/
inductive LaneState where
  /-- not yet performed -/
  | todo
  /-- performed; the value read -/
  | done (v : DWord)
  /-- waits for a migration of its page -/
  | parked
  /-- sent to another node, waits for its answer under a tag (14 R341) -/
  | remote (tag : Nat)
  /-- failed with a cause code -/
  | failed (code : Nat)
  /-- failed at another node (18 R426) -/
  | orphaned (c : Orphan)
  deriving DecidableEq, Repr

/-- One lane's access (14 R316). -/
structure LaneAcc where
  /-- the lane; 0 for a scalar access -/
  lane : Nat
  /-- byte address, virtual or within the window -/
  addr : Nat
  /-- bit offset of the element in that byte -/
  bit : Nat
  /-- data of a store or atomic -/
  data : DWord
  /-- the new value of a compare and swap -/
  new : DWord
  /-- how it stands -/
  st : LaneState
  deriving DecidableEq, Repr

/-- Where a load or atomic writes (14 R321). -/
inductive Dest where
  /-- nowhere -/
  | none
  /-- a scalar -/
  | s (i : Fin 32)
  /-- lanes of one physical register, or of a pair -/
  | v (regs : List Nat)
  deriving DecidableEq, Repr

/-- The space a memory instruction reaches (03 R51). -/
inductive Space where
  /-- memory through a base register as it stood at issue -/
  | mem (b : BaseReg)
  /-- group region -/
  | spad
  /-- live exchange bank -/
  | xlive
  /-- number area -/
  | numa
  deriving DecidableEq, Repr

/-- A memory instruction in flight (14 R345). -/
structure MemOp where
  /-- group, warp and lanes of the issuing fragment -/
  g : Nat
  /-- warp -/
  w : Nat
  /-- lanes of the issuing fragment -/
  mask : Word
  /-- its address, for the trap registers -/
  pc : DWord
  /-- what it does -/
  kind : MemKind
  /-- where -/
  space : Space
  /-- MODE at issue -/
  mode : BitVec 23
  /-- ran at PL0 -/
  user : Bool
  /-- scope code -/
  scope : Nat
  /-- acquires -/
  acq : Bool
  /-- releases, and has not done so yet -/
  rel : Bool
  /-- the lanes -/
  lanes : List LaneAcc
  /-- a scalar access -/
  scalar : Bool
  /-- destination -/
  dst : Dest
  /-- earlier instructions of the fragment still in flight at issue (14 R332) -/
  deps : List Nat
  /-- every lane has ended without failure: the destination is due (03 R62) -/
  landed : Bool
  /-- some lanes have failed; those of `mask` still hold the destination until their TRET (14 R319) -/
  failed : Bool
  deriving DecidableEq, Repr

/-- A source of a stream-path NUM operation (10 R222): a snapshot, or heap limbs still to be read. -/
inductive NumArg where
  /-- the value -/
  | val (v : Int)
  /-- limbs in heap: sign, length, address -/
  | heap (neg : Bool) (len addr : Nat)
  deriving DecidableEq, Repr

/-- What a stream-path operation computes (10 R233 to R246, 11 R267). -/
inductive NumFn where
  /-- the argument (NMOV, NNORM, NLD, NALLOC, CRES) -/
  | copy
  /-- minus the argument -/
  | neg
  /-- sum -/
  | add
  /-- difference -/
  | sub
  /-- shift left -/
  | shl (c : Nat)
  /-- shift right of the magnitude -/
  | shr (c : Nat)
  /-- product -/
  | mul
  /-- quotient -/
  | div
  /-- remainder -/
  | rem
  /-- product modulo the third argument -/
  | mmul
  /-- forward transform: modulus, generator, negacyclic, log2 N -/
  | nttf (q g : Nat) (neg : Bool) (k : Nat)
  /-- inverse transform -/
  | ntti (q g : Nat) (neg : Bool) (k : Nat)
  /-- pointwise product -/
  | pmul (q : Nat)
  /-- Garner step with residue, modulus, constant -/
  | crt (y q inv : Nat)
  /-- residue -/
  | red (q : Nat)
  /-- the low limbs of the argument (NGET) -/
  | get
  deriving DecidableEq, Repr

/-- Where a stream-path operation writes. -/
inductive NumDest where
  /-- a number register -/
  | n (k : Fin 8)
  /-- a scalar -/
  | s (i : Fin 32)
  /-- a physical vector register -/
  | v (reg : Nat)
  /-- nowhere -/
  | none
  deriving DecidableEq, Repr

/-- A stream-path NUM operation in flight (10 R222, R227). -/
structure NumOp where
  /-- group -/
  g : Nat
  /-- warp -/
  w : Nat
  /-- function -/
  fn : NumFn
  /-- arguments -/
  args : List NumArg
  /-- number registers read, while it runs (10 R222) -/
  srcs : List (Fin 8)
  /-- destination -/
  dst : NumDest
  /-- an OWN block to free when it has completed (10 R228) -/
  freeOld : Option (Nat × Nat)
  /-- it occupies the quadrant's Bellows (10 R242) -/
  bellows : Bool
  /-- its matrix-engine queue entry, for band passes (11 R257) -/
  band : Bool
  /-- issued at PL0 -/
  user : Bool
  deriving DecidableEq, Repr

/-- A fragment that waits on an empty word queue (06 R123). -/
structure PopWait where
  /-- context -/
  ctx : Nat
  /-- header address -/
  hdr : DWord
  /-- group -/
  g : Nat
  /-- warp -/
  w : Nat
  /-- lanes of the fragment -/
  mask : Word
  /-- the instruction that waits -/
  pc : DWord
  deriving DecidableEq, Repr

/-- A request of a NUM instruction that waits at issue for a heap block (10 R222, R228). -/
structure HodReq where
  /-- group -/
  g : Nat
  /-- warp -/
  w : Nat
  /-- slot of the fragment -/
  slot : Bool
  /-- limbs asked for -/
  limbs : Nat
  /-- the answer: not yet, HEAPFULL, or a block with its capacity in limbs -/
  answer : Option (Option (Nat × Nat))
  deriving DecidableEq, Repr

/-- The form of a copy (12 R276, 11 R268). -/
inductive CopyKind where
  /-- CPY -/
  | cpy
  /-- CPYT -/
  | cpyt
  /-- CPYF into a FIFO, slab number -/
  | cpyf (fifo : Fin 4) (slab : Nat)
  /-- CPYQ -/
  | cpyq
  /-- CPYX -/
  | cpyx
  /-- ADRAIN -/
  | adrain
  deriving DecidableEq, Repr

/-- States of a copy (12 R292). -/
inductive CopyState where
  /-- RUNNING -/
  | running
  /-- PARKED -/
  | parked
  /-- DONE -/
  | done
  /-- FAILED -/
  | failed
  /-- CANCELLED -/
  | cancelled
  deriving DecidableEq, Repr

/-- A range lock (12 R282). -/
structure Lock where
  /-- context of the addresses -/
  ctx : Nat
  /-- die whose table holds it -/
  die : Nat
  /-- first line -/
  lo : Nat
  /-- last line -/
  hi : Nat
  /-- a write lock -/
  write : Bool
  deriving DecidableEq, Repr

/-- How the destination bytes of a copy lie: rows of cells, a cell being what lands at once. -/
structure Layout where
  /-- rows -/
  rows : Nat
  /-- cells of a row -/
  per : Nat
  /-- bytes of a cell; the last of a row may be shorter -/
  cell : Nat
  /-- bytes from one row's start to the next -/
  pitch : Nat
  /-- bytes of a row -/
  len : Nat
  /-- the last cell of a row is the low nibble of its byte alone -/
  half : Bool
  deriving DecidableEq, Repr

/-- A copy (12 R276 to R296). -/
structure Copy where
  /-- identifier (R295) -/
  ident : DWord
  /-- form -/
  kind : CopyKind
  /-- issuing context -/
  ctx : Nat
  /-- issuing group and warp -/
  g : Nat
  /-- warp -/
  w : Nat
  /-- issued at PL0 -/
  user : Bool
  /-- parameter words as read at issue -/
  p0 : DWord
  /-- second parameter -/
  p1 : DWord
  /-- third parameter -/
  p2 : DWord
  /-- fourth parameter -/
  p3 : DWord
  /-- MODE at issue -/
  mode : BitVec 23
  /-- E2M1 extra value of b[XB] -/
  extra : BitVec 16
  /-- how its destination lies -/
  lay : Layout
  /-- cells landed -/
  units : Nat
  /-- LANDED, bytes written so far -/
  landed : Nat
  /-- destination bytes N_D -/
  size : Nat
  /-- state -/
  st : CopyState
  /-- cause code of a FAILED copy -/
  cause : Nat
  /-- barrier offset that counts the bytes -/
  bar : Option Nat
  /-- counted bytes still to be subtracted from the barrier (R286) -/
  barLeft : Nat
  /-- scratchpad lines whose presence count it holds (R285) -/
  lines : List Nat
  /-- range locks (R282) -/
  locks : List Lock
  /-- die-to-die links (0 to 5) and Geten port (6 + p) on which it holds a credit (R280) -/
  route : List Nat
  /-- snapshot of an ADRAIN: elements row by row (11 R269), none before its turn -/
  snap : Option (List TileElem)
  /-- anchor of the snapshot -/
  snapX : Int
  /-- tile of an ADRAIN -/
  tile : Nat
  /-- the engine that holds it is free again -/
  released : Bool
  /-- the page of a context that a PARKED copy waits for (R292) -/
  waits : Option (Nat × Nat)
  /-- how it ends, with a cause and an address, once the bytes that it has sent to another node are answered (R284) -/
  stop : Option (CopyState × Nat × Nat)
  deriving DecidableEq, Repr

/-- An exchange store in flight (13 R307, R308). -/
structure ExchStore where
  /-- sender -/
  g : Nat
  /-- sending warp -/
  w : Nat
  /-- receivers not yet served -/
  tgts : List Nat
  /-- bank offset -/
  off : Nat
  /-- written lanes -/
  mask : Word
  /-- values -/
  lanes : Lanes
  /-- receiver's barrier offset -/
  bar : Option Nat
  deriving DecidableEq, Repr

/-- A CRED reduction (13 R309). -/
structure Reduction where
  /-- launch -/
  launch : Nat
  /-- phase -/
  phase : Nat
  /-- TAG -/
  tag : Nat
  /-- COUNT -/
  count : Nat
  /-- OP -/
  op : Nat
  /-- MIN and MAX are signed -/
  signed : Bool
  /-- contributions: quadrant, value -/
  parts : List (Nat × DWord)
  /-- contributions differ in OP or in signedness -/
  mixed : Bool
  /-- participants that wait: group, warp, slot, destination -/
  waiters : List (Nat × Nat × Bool × Option (Fin 32))
  /-- COUNT contributions have arrived -/
  closed : Bool
  deriving DecidableEq, Repr

/-- A remote request in flight (14 R341, 18 R426). -/
structure Remote where
  /-- the memory instruction -/
  op : Nat
  /-- its lane -/
  lane : Nat
  /-- group and warp -/
  g : Nat
  /-- warp -/
  w : Nat
  /-- a store or SPK, counted in REM -/
  store : Bool
  /-- a CPYX to another node -/
  copy : Option Nat
  /-- system physical address -/
  addr : Nat
  /-- bytes sent -/
  data : List Byte
  /-- time of acceptance, ns -/
  at_ : Nat
  /-- for an access to another die of this module, which crosses the links too (01 R10): the instruction with the lane that is sent -/
  inside : Option MemOp
  deriving DecidableEq, Repr

/-- Steps of a migration (15 R358). -/
inductive MigStep where
  /-- the fault waits for its unit -/
  | waiting
  /-- locked, split and shot down -/
  | locked
  /-- moved to the new frame -/
  | moved
  deriving DecidableEq, Repr

/-- A migration, or a fault that calls for one (15 R358, R361). -/
structure Migration where
  /-- context -/
  ctx : Nat
  /-- virtual page number -/
  page : Nat
  /-- fault unit -/
  die : Nat
  /-- host command target: none for a device fault -/
  host : Option Nat
  /-- step -/
  step : MigStep
  /-- leaf before the lock -/
  oldLeaf : Nat
  /-- leaf as locked -/
  lockLeaf : Nat
  /-- new frame as a system page number -/
  frame : Nat
  /-- destination STATE -/
  dest : Nat
  /-- a software lock is waited for (15 R359) -/
  soft : Bool
  deriving DecidableEq, Repr

/-! ## Stage sets (17) -/

/-- States of a record (17 R386). -/
inductive RecState where
  /-- FREE -/
  | free
  /-- QUEUED -/
  | queued
  /-- INSTAGE -/
  | instage
  /-- PASSED -/
  | passed
  /-- DROPPED -/
  | dropped
  /-- COMMITTING -/
  | committing
  /-- DONE -/
  | done
  deriving DecidableEq, Repr

/-- An effect entry (17 R387). -/
structure Effect where
  /-- pointer -/
  addr : DWord
  /-- data -/
  data : BitVec 128
  /-- bytes stored -/
  size : Nat
  /-- stage that staged it -/
  stage : Nat
  deriving DecidableEq, Repr

/-- A record as the Draught holds it (17 R386). -/
structure Rec where
  /-- STATE -/
  st : RecState
  /-- PASS -/
  pass : Bool
  /-- RETRY -/
  retry : Nat
  /-- CUR, none while no stage is chosen (R395) -/
  cur : Option Nat
  /-- CAUSE -/
  cause : Nat
  /-- DONE bits -/
  done : Byte
  /-- effect entries -/
  effects : List Effect
  /-- drawn order under REPRO -/
  order : List Nat
  /-- SEQ -/
  seq : Nat
  /-- HOLDER: HWLOC of the warp that last took it -/
  holder : Word
  /-- holding group and warp -/
  by_ : Option (Nat × Nat)
  /-- time of its assignment, ns -/
  since : Nat
  /-- the warp's fragment waits for its commit: group, warp, slot -/
  waiter : Option (Nat × Nat × Bool)
  /-- its slot cannot be written (17 R388) -/
  lost : Bool
  deriving DecidableEq, Repr

/-- Counters of one stage in one window (17 R394). -/
structure StageStat where
  /-- RUNS -/
  runs : Nat
  /-- DROPS -/
  drops : Nat
  /-- CYC -/
  cyc : Nat
  deriving DecidableEq, Repr

/-- A waiting RTAKE (17 R397). -/
structure Taker where
  /-- group -/
  g : Nat
  /-- warp -/
  w : Nat
  /-- slot -/
  slot : Bool
  /-- address of the RTAKE -/
  pc : DWord
  /-- stage, none for any -/
  stage : Option Nat
  /-- destination -/
  dst : Option (Fin 32)
  deriving DecidableEq, Repr

/-- A bound stage set (17 R384). -/
structure Binding where
  /-- launch -/
  launch : Nat
  /-- context -/
  ctx : Nat
  /-- set index -/
  set : Nat
  /-- home quadrant 4 x die + quadrant -/
  home : Nat
  /-- POOL -/
  pool : Nat
  /-- SLOTS -/
  slots : Nat
  /-- PSIZE -/
  psize : Nat
  /-- WIN -/
  win : Nat
  /-- REPRO -/
  repro : Bool
  /-- KEEP -/
  keep : Bool
  /-- NODEPTH -/
  nodepth : Bool
  /-- lottery register L -/
  l : BitVec 16
  /-- sequence counter -/
  seq : Nat
  /-- windows closed so far -/
  window : Nat
  /-- stages: entry byte offset and hint -/
  stages : List (Nat × Nat)
  /-- counters by window x 8 + stage; outside REPRO window is the current one -/
  stats : Tab StageStat
  /-- rate of each stage -/
  rate : List Nat
  /-- weights of each closed window, the binding's first -/
  weights : List (List Nat)
  /-- records ended since the last close, or by window under REPRO -/
  ended : Tab Nat
  /-- closed to further RINJ -/
  closed : Bool
  /-- records by slot; an unlisted slot is FREE -/
  recs : Tab Rec
  /-- records DONE and DROPPED so far -/
  nDone : Nat
  /-- records DROPPED so far -/
  nDropped : Nat
  /-- waiting RTAKEs, oldest first -/
  takers : List Taker
  deriving DecidableEq, Repr

/-! ## Contexts and queues (05, 06) -/

/-- STATE of a context (05 R98). -/
inductive CtxState where
  /-- 0 FREE -/
  | free
  /-- 1 BUILDING -/
  | building
  /-- 2 READY -/
  | ready
  /-- 3 RUNNING -/
  | running
  /-- 4 SUSPENDED -/
  | suspended
  /-- 5 FAULTED -/
  | faulted
  /-- 6 DRAINING -/
  | draining
  /-- 7 DEAD -/
  | dead
  deriving DecidableEq, Repr

/-- A write of the device to a context's memory that is due and has not been performed (05 R104, 06 R117, R122). -/
inductive Owed where
  /-- a fault-log entry -/
  | log (bytes : List Byte)
  /-- a signal add at a virtual address -/
  | signal (addr v : Nat)
  /-- a QDETACH of a word queue for a warp of a group, after the warp's accepted writes (06 R122, R129) -/
  | detach (hdr g w : Nat)
  /-- bytes of a record slot that the Draught writes: virtual address, bytes, binding and slot (17 R388) -/
  | slot (addr : Nat) (bytes : List Byte) (bind slot : Nat)
  deriving DecidableEq, Repr

/-- A context: its state and its latched descriptor (05 R97, R98). The bytes the host writes are in `State.bar0`. -/
structure Ctx where
  /-- STATE -/
  st : CtxState
  /-- ERR -/
  err : Nat
  /-- PTROOT -/
  ptroot : Nat
  /-- CB -/
  cb : Nat
  /-- CBLIMIT -/
  cblimit : Nat
  /-- TVEC -/
  tvec : Nat
  /-- SAVE -/
  save : Nat
  /-- SAVESIZE -/
  savesize : Nat
  /-- HEAP -/
  heap : Nat
  /-- HEAPSIZE -/
  heapsize : Nat
  /-- MODTAB -/
  modtab : Nat
  /-- FLOG -/
  flog : Nat
  /-- FLOGCOUNT -/
  flogcount : Nat
  /-- QUANTUM as written -/
  quantum : Nat
  /-- STAGETAB -/
  stagetab : Nat
  /-- NOTIFY -/
  notify : Nat
  /-- HEAPMETA -/
  heapmeta : Nat
  /-- FLOGHEAD -/
  floghead : DWord
  /-- FLOGTAIL -/
  flogtail : DWord
  /-- FLOGLOST -/
  floglost : Nat
  /-- count of notification writes -/
  notifyN : BitVec 32
  /-- a suspension is under way -/
  suspending : Bool
  /-- heap blocks handed out: address, bytes (10 R228) -/
  blocks : List (Nat × Nat)
  /-- heap blocks given back that the Hod has still to mark free at HEAPMETA (05 R97, 10 R228) -/
  heapDue : List (Nat × Nat)
  /-- save space reserved by images, bytes (08 R147) -/
  imaged : Nat
  /-- DRAINS (16 R375) -/
  drains : Nat
  /-- writes of the device that are due, first due first -/
  owed : List Owed
  deriving DecidableEq, Repr

/-- QSTATE (06 R113). -/
inductive QState where
  /-- 0 UNBOUND -/
  | unbound
  /-- 1 IDLE -/
  | idle
  /-- 2 ACTIVE -/
  | active
  /-- 3 BLOCKED -/
  | blocked
  /-- 4 PAUSED -/
  | paused
  /-- 5 ERROR -/
  | error
  deriving DecidableEq, Repr

/-- A launch queue (06 R112, R113). -/
structure Queue where
  /-- QBASE -/
  base : DWord
  /-- QSIZE -/
  size : Nat
  /-- CTXID -/
  ctx : Nat
  /-- QERR -/
  err : Nat
  /-- QSTATE -/
  st : QState
  /-- HEAD -/
  head : DWord
  /-- TAIL -/
  tail : DWord
  /-- the loaded kernel of the head (07 R131) -/
  loaded : Option Kernel
  /-- effective-priority steps the head has aged (06 R119) -/
  aged : Nat
  /-- since when the head's wait with its waits met counts towards its next step, ns (06 R119) -/
  readySince : Nat
  deriving DecidableEq, Repr

/-! ## Caches and memory devices (15, 16) -/

/-- An L1 line (16 R371, 14 R322). -/
structure L1Line where
  /-- physical address of its first byte -/
  addr : Nat
  /-- way 0 to 7 -/
  way : Nat
  /-- the 128 bytes as filled -/
  data : List Byte
  /-- expected read count, none for an ordinary line -/
  count : Option Nat
  deriving DecidableEq, Repr

/-- A cached translation: a whole run (15 R353, R355). -/
structure TlbEnt where
  /-- context -/
  ctx : Nat
  /-- first virtual page of the run -/
  page : Nat
  /-- pages of the run -/
  pages : Nat
  /-- the leaf it was derived from, for its own page -/
  leaf : Nat
  /-- the page that was walked -/
  walked : Nat
  deriving DecidableEq, Repr

/-- An entry of a core's matrix-engine queue (11 R257). -/
inductive EngineEntry where
  /-- a tile operation of a group -/
  | tile (g id : Nat)
  /-- a number-band pass -/
  | band (numop : Nat)
  deriving DecidableEq, Repr

/-- A core (01 R19). -/
structure Core where
  /-- issue stopped by HALT at PL2 -/
  halted : Bool
  /-- the warp slots that last won the vector, the memory and the scalar issue slot (08 R148) -/
  won : Vector Nat 3
  /-- L1 lines -/
  l1 : List L1Line
  /-- round-robin pointer of each set, unlisted 0 -/
  rr : Tab Nat
  /-- TLB -/
  tlb : List TlbEnt
  /-- engine queue, oldest first -/
  engine : List EngineEntry
  deriving DecidableEq, Repr

/-- An L2 line (16 R374). -/
structure L2Line where
  /-- local physical address of the line -/
  addr : Nat
  /-- valid sectors -/
  valid : BitVec 4
  /-- dirty sectors -/
  dirty : BitVec 4
  /-- marked evict-first (R376) -/
  evictFirst : Bool
  /-- fill order -/
  order : Nat
  deriving DecidableEq, Repr

/-- A channel's Damper (16 R380, R382). -/
structure Channel where
  /-- EPISODES -/
  episodes : BitVec 32
  /-- CORRUPT -/
  corrupt : Nat
  /-- SATURATED -/
  saturated : Nat
  /-- neighbour-refresh list, head first: row, counter saturated, counter corrupt -/
  list : List (Nat × Bool × Bool)
  /-- alerts that stay asserted at the stack while the list is full -/
  asserted : List (Nat × Bool × Bool)
  /-- activation counters of rows (R379), unlisted 0 -/
  counters : Tab Nat
  /-- rows whose counter fails its 2-bit check (R379, R381) -/
  corruptRows : List Nat
  /-- the row that is open (R378) -/
  openRow : Option Nat
  /-- an alert is due for an episode, so no new batch starts (R380) -/
  alerted : Bool
  /-- requests wait for a batch to start, and the episodes that have run since the first of them did (R380) -/
  waiting : Option Nat
  /-- time of the last episode, ns (R380) -/
  episodeAt : Option Nat
  deriving DecidableEq, Repr

/-- A frame pool (15 R363). -/
structure Pool where
  /-- free frames (local page numbers), oldest first -/
  frames : List Nat
  /-- DROPS -/
  drops : Nat
  deriving DecidableEq, Repr

/-! ## Links (18) -/

/-- Link classes (18 R406). -/
inductive LinkClass where
  /-- 0 spark -/
  | spark
  /-- 1 ember -/
  | ember
  /-- 2 log -/
  | log
  deriving DecidableEq, Repr

/-- A packet (18 R407). -/
structure Packet where
  /-- class -/
  cls : LinkClass
  /-- DST -/
  dst : Word
  /-- SRC -/
  src : Word
  /-- PSEQ -/
  pseq : BitVec 16
  /-- TYPE -/
  type : Byte
  /-- external hops taken -/
  hops : Nat
  /-- TAG -/
  tag : Word
  /-- data bytes -/
  data : List Byte
  deriving DecidableEq, Repr

/-- A link flit as its fields (18 R406). -/
structure Flit where
  /-- CTL, bytes 0 to 3 -/
  ctl : Word
  /-- DATA, bytes 4 to 59 -/
  data : List Byte
  /-- FCRC, bytes 60 to 63 -/
  fcrc : Word
  deriving DecidableEq, Repr

/-- One direction of a link (18 R409 to R417). -/
structure LinkDir where
  /-- packets accepted and not begun, oldest first -/
  queue : List Packet
  /-- packets that wait while the link is QUIESCING and accepts none (R420) -/
  held : List Packet
  /-- flits left of the packet in progress in each class: spark, ember, log -/
  spark : List Flit
  /-- flits left of the ember packet in progress -/
  ember : List Flit
  /-- flits left of the log packet in progress -/
  log : List Flit
  /-- spark allowance in quarters (R412) -/
  tok : Nat
  /-- ember_wait -/
  emberWait : Nat
  /-- log_wait -/
  logWait : Nat
  /-- next FSEQ -/
  fseq : BitVec 14
  /-- flits sent and not covered by an ACKSEQ, oldest first (retry buffer) -/
  retry : List Flit
  /-- flits on the wire -/
  wire : List Flit
  /-- packets begun and not acknowledged, in order, each with the FSEQ of its LAST flit once that is sent (R417) -/
  unacked : List (Packet × Option (BitVec 14))
  /-- FSEQ the receiver expects -/
  expect : BitVec 14
  /-- a flit has been received intact since the link trained; until then ACKSEQ is 0 and covers nothing (18 R420) -/
  got : Bool
  /-- the receiver waits for a replay from this FSEQ -/
  wantReplay : Bool
  /-- partial packets at the receiver: class code and flits -/
  partials : Tab (List Flit)
  /-- complete packets at the receiver, not yet delivered -/
  arrived : List Packet
  /-- flits in the receiver's input buffers, by class code -/
  buffered : Tab Nat
  deriving DecidableEq, Repr

/-- States of a link (18 R421). -/
inductive LinkState where
  /-- 0 DOWN -/
  | down
  /-- 1 TRAINING -/
  | training
  /-- 2 UP -/
  | up
  /-- 3 DEGRADED -/
  | degraded
  /-- 4 QUIESCING -/
  | quiescing
  /-- 5 FAILED -/
  | failed
  /-- 6 RETIRED -/
  | retired
  deriving DecidableEq, Repr

/-- A die-to-die link or Geten port (18 R420, R421). -/
structure Link where
  /-- STATE -/
  st : LinkState
  /-- width in lanes; 0 when none -/
  width : Nat
  /-- OUTLANES -/
  outlanes : BitVec 16
  /-- RETRAINS -/
  retrains : Nat
  /-- REPLAYS -/
  replays : BitVec 32
  /-- FAILOVERS -/
  failovers : Nat
  /-- DUPS -/
  dups : Nat
  /-- time of the last retrain that ended at width 4, ns (R416) -/
  last4 : Option Nat
  /-- a retrain is under way while it is QUIESCING -/
  quiesce : Bool
  /-- failed at the last bring-up (R420) -/
  failedBefore : Bool
  /-- times of its latest replays, at most 16, ns (R415) -/
  replayAt : List Nat
  /-- direction from the lower die, or out of the module -/
  out : LinkDir
  /-- direction to the lower die, or into the module -/
  inn : LinkDir
  deriving DecidableEq, Repr

/-- An inbound access admitted and not yet performed (18 R425). -/
structure Inbound where
  /-- the request -/
  req : InboundReq
  /-- context it is served for -/
  ctx : Nat
  /-- time of arrival, ns -/
  at_ : Nat
  deriving DecidableEq, Repr

/-! ## Device life (20) -/

/-- DEVSTAT (20 R439). -/
inductive DevStat where
  /-- 0 OFF -/
  | off
  /-- 1 ROMCHECK -/
  | romcheck
  /-- 2 BRINGUP -/
  | bringup
  /-- 3 READY -/
  | ready
  /-- 4 RECOVERY -/
  | recovery
  /-- 5 UNSUPPORTED -/
  | unsupported
  deriving DecidableEq, Repr

/-- The configuration of one die (20 R446). -/
structure DieConf where
  /-- CMAP: live physical cores of each quadrant, ascending -/
  cores : List (List Nat)
  /-- SLT: live slices ascending; D is its length -/
  slt : List Nat
  /-- CLT: live channels ascending; C is its length -/
  clt : List Nat
  /-- CAPK -/
  capk : Bool
  deriving DecidableEq, Repr

/-- Persistent tables and what survives power (20 R443, R441, R442). -/
structure Persist where
  /-- dead cores: 72 x die + 18 x quadrant + core -/
  deadCores : List Nat
  /-- retired slices: 64 x die + slice -/
  slices : List Nat
  /-- retired channels: 32 x stack + channel -/
  channels : List Nat
  /-- retired capacity controllers: 4 x die + k -/
  capctls : List Nat
  /-- retired lanes: 16 x link + lane -/
  lanes : List Nat
  /-- links RETIRED or FAILED twice -/
  links : List Nat
  /-- lost connections -/
  lost : Nat
  /-- event log: time, unit kind, unit index, reason -/
  log : List (Nat × Nat × Nat × Nat)
  /-- NODEID for the next bring-up -/
  nodeid : BitVec 8
  /-- the four firmware images that the next ROM check reads -/
  images : List FirmwareImage
  /-- ATH that the Frado controller sets at bring-up (16 R379) -/
  ath : Nat
  /-- the first of the two copies of the tables passes its check (20 R443) -/
  good0 : Bool
  /-- the second copy passes its check -/
  good1 : Bool
  /-- fused minimum security version -/
  minVersion : Nat
  /-- module serial number -/
  serial : DWord
  deriving DecidableEq, Repr

/-- Identity, control and time (20 R439, 13 R310 to R312). -/
structure Life where
  /-- DEVSTAT -/
  stat : DevStat
  /-- STEP codes of the dies -/
  step : Vector (BitVec 2) 4
  /-- the pause of a step switch is on (13 R312) -/
  paused : Vector Bool 4
  /-- time of each die's last step change, ns -/
  stepAt : Vector (Option Nat) 4
  /-- STEPCAP -/
  stepcap : BitVec 2
  /-- MGMTCAUSE -/
  mgmt : BitVec 4
  /-- ATTSTAT -/
  attstat : Nat
  /-- attestation command under way: 1 REPORT, 2 CERTS, 3 NODESET -/
  attcmd : Nat
  /-- attestations done -/
  attests : Nat
  /-- SAVEPOOL -/
  savepool : Nat
  /-- NODEID in force -/
  nodeid : BitVec 8
  /-- reference timer, ns (13 R310) -/
  timer : DWord
  /-- cycle counters in tenths (13 R311) -/
  cyc : Vector Nat 4
  /-- the firmware images that passed the ROM check and run (20 R441, R442) -/
  running : List FirmwareImage
  /-- configuration of each die -/
  dies : List DieConf
  /-- WIDTH of the configuration table: lanes of each link as bring-up found them (20 R446) -/
  widths : List Nat
  /-- corrected-event counts of the current window, by address of 20 R443 -/
  health : Tab Nat
  /-- times of uncorrectable events by unit (19 R436) -/
  uncorr : Tab Nat
  /-- MSI-X pending bits raised: vectors (20 R438) -/
  irqs : List Nat
  /-- inbound-refusal count (18 R425) -/
  refusals : Nat
  deriving DecidableEq, Repr

/-! ## The state -/

/-- Which fragment issues: group, warp, slot 1 or 0. -/
structure Ref where
  /-- group name -/
  g : Nat
  /-- warp index -/
  w : Nat
  /-- slot 1 -/
  slot : Bool
  deriving DecidableEq, Repr

/-- Which agent moves next: a fragment, an event or host command, or an error of the hardware (log entries 1, 9). -/
inductive Turn where
  /-- this fragment issues -/
  | issue (r : Ref)
  /-- this event happens -/
  | event (i : Instr)
  /-- this fragment issues, and the register of an operand code fails its parity check as the instruction reads it (19 R434) -/
  | upset (r : Ref) (code : BitVec 7)
  /-- the data of a memory line, by local address / 128, becomes uncorrectable (19 R434, R435) -/
  | decay (line : Nat)
  /-- a word of a window of a group's scratchpad becomes uncorrectable: window code and byte offset / 4 (19 R434) -/
  | decaySpad (g window word : Nat)
  /-- the words of a tile or of a FIFO become uncorrectable (19 R434): tile a0 to a7, or 8 + FIFO -/
  | decayTile (g k : Nat)
  /-- a sector of an L1 line fails its parity: core, line address (19 R434, R435) -/
  | parity (core line : Nat)
  /-- a unit's check corrects an error (19 R434, R436) -/
  | correct (u : HealthUnit)
  /-- a packet moves on from the buffer of a flue or gate station (01 R16, R17): station key, class code -/
  | station (key cls : Nat)
  /-- the packet check of the oldest packet of a class in a station's buffer fails (19 R434) -/
  | spoil (key cls : Nat)
  /-- the Damper of a channel runs an episode, as in the event DAMPER_EPISODE (16 R380) -/
  | episode (ch : Nat)
  /-- the Frado controller takes a warp to PL2, or lets it go (05 R106) -/
  | frado (g w : Nat) (enter : Bool)
  /-- one of the two copies of the persistent tables comes to fail its check, the second or the first (20 R443) -/
  | tableCopy (second : Bool)
  deriving DecidableEq, Repr

end Sys2Proof.Machine

namespace Sys2Proof.Machine

/-- The state of the module. -/
structure State where
  /-- device life, identity, time -/
  life : Life
  /-- what survives power -/
  persist : Persist
  /-- memory by local physical address (15 R347) -/
  mem : Memory
  /-- lines whose data is uncorrectable (19 R435), by address / 128 -/
  bad : List Nat
  /-- BAR 0 registers that hold what the host writes, by offset (20 R438) -/
  bar0 : Memory
  /-- contexts -/
  ctxs : Vector Ctx 64
  /-- launch queues -/
  queues : Vector Queue 256
  /-- QID the admission pointer stands at (06 R119) -/
  qptr : Nat
  /-- admitted launches -/
  launches : Tab Launch
  /-- groups -/
  groups : Tab Group
  /-- cores by 72 x die + 18 x quadrant + physical core; an unlisted core is idle and empty -/
  cores : Tab Core
  /-- memory instructions in flight -/
  memops : Tab MemOp
  /-- NUM operations in flight -/
  numops : Tab NumOp
  /-- fragments that wait on empty word queues, oldest first -/
  popWaits : List PopWait
  /-- requests to the Hods -/
  hods : Tab HodReq
  /-- copies -/
  copies : Tab Copy
  /-- copies accepted by each engine, by 16 x quadrant + engine (12 R295) -/
  engines : Tab Nat
  /-- exchange stores in flight -/
  exchs : Tab ExchStore
  /-- highest CSYNC count completed by cluster: launch, phase, quadrant, count (13 R305) -/
  clusters : List (Nat × Nat × Nat × Nat)
  /-- reductions -/
  reds : Tab Reduction
  /-- remote requests by TAG -/
  remotes : Tab Remote
  /-- migrations and faults that wait -/
  migs : Tab Migration
  /-- pin tables: die, context, page, time (15 R358), oldest first -/
  pins : List (Nat × Nat × Nat × Nat)
  /-- frame pools, by 2 x die + tier -/
  pools : Vector Pool 8
  /-- MSTAT (15 R361) -/
  mstat : Nat
  /-- the migration that a host command waits for -/
  mcmd : Option Nat
  /-- stage-set bindings -/
  binds : Tab Binding
  /-- L2 lines of the whole module -/
  l2 : List L2Line
  /-- fills so far, for the fill order -/
  l2fills : Nat
  /-- slices that pass through: 64 x die + slice (16 R373) -/
  through : List Nat
  /-- channels by 32 x stack + channel, unlisted idle -/
  channels : Tab Channel
  /-- ATH (16 R379) -/
  ath : Nat
  /-- die-to-die links 0 to 5 and Geten ports 6 + p -/
  links : Vector Link 18
  /-- next PSEQ of each triple, by 4 x (4 x (256 x source die + destination node) + destination die) + class (18 R407) -/
  psend : Tab Nat
  /-- next PSEQ that a die expects, by 4 x (4 x (256 x die + source node) + source die) + class (18 R417) -/
  pexpect : Tab Nat
  /-- packets in the buffers of the flue and gate stations, oldest first, by 10 x (4 x die + quadrant) + 5 x direction + station: flue 0 to 3,
  gate 4; direction 0 away from the cores, 1 towards them (01 R16) -/
  stations : Tab (List Packet)
  /-- inbound accesses not yet performed -/
  inbound : Tab Inbound
  /-- the fragments that are ready to issue, each with the step since which it has been (08 R148) -/
  ready : List (Ref × Nat)
  /-- the context and the page whose move has just been aborted, until what waits for the page has failed (15 R358) -/
  lostPage : Option (Nat × Nat)
  /-- the fragment that issues in this step (log entry 1) -/
  cur : Option Ref
  /-- which agents move next (log entry 1) -/
  agenda : List Turn
  /-- steps so far, the counter of the free values (log entry 2) -/
  tick : Nat
  /-- next object name -/
  uid : Nat
  deriving DecidableEq, Repr

/-- Why the machine stops. -/
inductive Fault where
  /-- raised by `exec` alone, for an instruction word when `State.cur` names no fragment: there is nothing to issue it. `step` never raises it. Safe. -/
  | noFragment
  deriving DecidableEq, Repr

/-- Why an instruction has no meaning. -/
inductive Refusal where
  /-- raised by a dispatch arm that has no meaning yet. Safe. -/
  | notModelled (mnemonic : String)
  deriving DecidableEq, Repr

/-! ## Reset -/

/-- A scalar register at 0, full. -/
def SReg.zero : SReg := { val := 0, fill := .full }

/-- A vector register at 0, full (03 R56). -/
def VReg.zero : VReg := { lanes := Lanes.zero, fill := .full }

/-- A number register at warp start (02 R45, 10 R216). -/
def NReg.zero : NReg := { desc := 0, home := none, own := none, fill := .full }

/-- An invalid base register (15 R354). -/
def BaseReg.invalid : BaseReg :=
  { va := 0, frame := 0, lpg := 0, fp := false, valid := false, w := false, u := false, te := false, tag := 0, extra := 0x8000 }

/-- A free join entry (08 R156). -/
def JoinEntry.free : JoinEntry := { valid := false, outer := none, win := 0, token := 0, expect := 0, arrived := 0, pc := 0 }

/-- A CLOSED tile (11 R250). -/
def Tile.closed : Tile :=
  { st := .closed, limb := false, err := false, ovf := false, loss := false, rows := 0, x := 0, elems := [] }

/-- A FREE context (05 R98). -/
def Ctx.free : Ctx :=
  { st := .free, err := 0, ptroot := 0, cb := 0, cblimit := 0, tvec := 0, save := 0, savesize := 0, heap := 0, heapsize := 0,
    modtab := 0, flog := 0, flogcount := 0, quantum := 0, stagetab := 0, notify := 0, heapmeta := 0, floghead := 0, flogtail := 0,
    floglost := 0, notifyN := 0, suspending := false, blocks := [], heapDue := [], imaged := 0, drains := 0, owed := [] }

/-- An UNBOUND queue (06 R113). -/
def Queue.unbound : Queue :=
  { base := 0, size := 0, ctx := 0, err := 0, st := .unbound, head := 0, tail := 0, loaded := none, aged := 0, readySince := 0 }

/-- An idle core. -/
def Core.idle : Core := { halted := false, won := Vector.replicate 3 31, l1 := [], rr := [], tlb := [], engine := [] }

/-- A channel whose Damper has nothing to do (16 R382). -/
def Channel.idle : Channel :=
  { episodes := 0, corrupt := 0, saturated := 0, list := [], asserted := [], counters := [], corruptRows := [], openRow := none, alerted := false,
    waiting := none, episodeAt := none }

/-- A link direction with nothing in it; the spark allowance is 2 (18 R412). -/
def LinkDir.idle : LinkDir :=
  { queue := [], spark := [], ember := [], log := [], tok := 8, emberWait := 0, logWait := 0, fseq := 0, retry := [], wire := [],
    held := [], unacked := [], expect := 0, got := false, wantReplay := false, partials := [], arrived := [], buffered := [] }

/-- A link that is DOWN (18 R421). -/
def Link.down : Link :=
  { st := .down, width := 0, outlanes := 0, retrains := 0, replays := 0, failovers := 0, dups := 0, last4 := none, quiesce := false,
    failedBefore := false, replayAt := [], out := .idle, inn := .idle }

/-- A firmware image of a module as it leaves the factory (log entry 6). -/
def factoryImage : FirmwareImage := { version := 0, digest := 0, rsaOk := true, slhOk := true }

/-- The persistent tables of a module as shipped: 64 live cores on each die, 16 in each quadrant (00 R3; log entry 6). -/
def Persist.factory : Persist :=
  { deadCores := (List.range 16).flatMap (fun q => [18 * q + 16, 18 * q + 17]), slices := [], channels := [], capctls := [], lanes := [], links := [], lost := 0, log := [], nodeid := 0,
    images := List.replicate 4 factoryImage, ath := 1024, good0 := true, good1 := true, minVersion := 0, serial := 0 }

/-- Identity and control without power (20 R440). -/
def Life.off : Life :=
  { stat := .off, step := Vector.replicate 4 0, paused := Vector.replicate 4 false, stepAt := Vector.replicate 4 none, stepcap := 0,
    mgmt := 0, attstat := 0, attcmd := 0, attests := 0, savepool := 0, nodeid := 0, timer := 0, cyc := Vector.replicate 4 0, running := [], dies := [], widths := [],
    health := [], uncorr := [], irqs := [], refusals := 0 }

/-- The module without power (20 R440, OFF), memory with nothing listed. The one BAR 0 register with a reset value
other than 0 that holds what the host writes is PINWIN, 50 (15 R361), at 0x0030_101C. -/
def State.reset : State :=
  { life := .off, persist := .factory, mem := [], bad := [], bar0 := [(0x30101C, 50#8)], ctxs := Vector.replicate 64 .free,
    queues := Vector.replicate 256 .unbound, qptr := 0, launches := [], groups := [], cores := [], memops := [], numops := [], popWaits := [], hods := [],
    copies := [], engines := [], exchs := [], clusters := [], reds := [], remotes := [], migs := [], pins := [],
    pools := Vector.replicate 8 { frames := [], drops := 0 }, mstat := 0, mcmd := none, binds := [], l2 := [], l2fills := 0,
    through := [], channels := [], ath := 1024, links := Vector.replicate 18 .down, psend := [], pexpect := [], stations := [], inbound := [], ready := [], lostPage := none, cur := none, agenda := [],
    tick := 0, uid := 0 }

end Sys2Proof.Machine
end

