-- ==== Sys2Proof/Machine/Mem.lean ====
section
/-! DEFINITION. Tables, memory in its canonical form, and the local physical address map (15 R347, R348). -/

namespace Sys2Proof.Machine

/-! ## Tables keyed by number -/

/-- The entry of a key. -/
def tget {α : Type} : Tab α → Nat → Option α
  | [], _ => none
  | (j, v) :: r, k => if j = k then some v else tget r k

/-- Replaces the entry of a key, or adds it at the end. -/
def tput {α : Type} : Tab α → Nat → α → Tab α
  | [], k, v => [(k, v)]
  | (j, x) :: r, k, v => if j = k then (j, v) :: r else (j, x) :: tput r k v

/-- Removes a key. -/
def tdel {α : Type} (t : Tab α) (k : Nat) : Tab α := t.filter (fun e => e.1 != k)

/-- Changes the entry of a key, if it is there. -/
def tmod {α : Type} (t : Tab α) (k : Nat) (f : α → α) : Tab α :=
  t.map (fun e => if e.1 = k then (e.1, f e.2) else e)

/-- The entry of a key, or a value for an unlisted key. -/
def tgetD {α : Type} (t : Tab α) (k : Nat) (x : α) : α := (tget t k).getD x

/-! ## Memory -/

/-- The byte at an address; an unlisted address reads 0 (log entry 3). -/
def Memory.get : Memory → Nat → Byte
  | [], _ => 0
  | (k, b) :: r, a => if k = a then b else if a < k then 0 else Memory.get r a

/-- Writes one byte and keeps the canonical form: a zero is not listed. -/
def Memory.put : Memory → Nat → Byte → Memory
  | [], a, b => if b = 0 then [] else [(a, b)]
  | (k, x) :: r, a, b =>
    if a < k then (if b = 0 then (k, x) :: r else (a, b) :: (k, x) :: r)
    else if a = k then (if b = 0 then r else (a, b) :: r)
    else (k, x) :: Memory.put r a b

/-- Every address of the memory lies above a bound, the addresses rise strictly and no byte is 0. -/
def Memory.wfFrom : Nat → Memory → Bool
  | _, [] => true
  | lo, (k, b) :: r => decide (lo ≤ k) && decide (b ≠ 0) && Memory.wfFrom (k + 1) r

/-- The canonical form of a memory. -/
def Memory.wf (m : Memory) : Bool := Memory.wfFrom 0 m

/-- The n bytes from an address, little-endian (02 R26). -/
def Memory.rd (m : Memory) : Nat → Nat → Nat
  | _, 0 => 0
  | a, n + 1 => (Memory.get m a).toNat + 256 * Memory.rd m (a + 1) n

/-- Writes the low n bytes of a value, little-endian (02 R26). -/
def Memory.wr : Memory → Nat → Nat → Nat → Memory
  | m, _, 0, _ => m
  | m, a, n + 1, v => Memory.wr (Memory.put m a (BitVec.ofNat 8 v)) (a + 1) n (v / 256)

/-- The n bytes from an address. -/
def Memory.bytes (m : Memory) (a n : Nat) : List Byte := (List.range n).map (fun i => Memory.get m (a + i))

/-- Writes a list of bytes from an address. -/
def Memory.putBytes : Memory → Nat → List Byte → Memory
  | m, _, [] => m
  | m, a, b :: r => Memory.putBytes (Memory.put m a b) (a + 1) r

/-- Clears n bytes to 0. -/
def Memory.clear (m : Memory) (a n : Nat) : Memory := m.filter (fun c => decide (c.1 < a) || decide (a + n ≤ c.1))

/-- Copies n bytes from one range to another. -/
def Memory.move (m : Memory) (src dst n : Nat) : Memory :=
  (m.filter (fun c => decide (src ≤ c.1) && decide (c.1 < src + n))).foldl
    (fun acc c => Memory.put acc (dst + (c.1 - src)) c.2) (Memory.clear m dst n)

/-- The bytes of a number, little-endian. -/
def leBytes : Nat → Nat → List Byte
  | 0, _ => []
  | n + 1, v => BitVec.ofNat 8 v :: leBytes n (v / 256)

/-- The number some bytes form, little-endian. -/
def leNat : List Byte → Nat
  | [] => 0
  | b :: r => b.toNat + 256 * leNat r

/-! ## Configuration and the local address map -/

/-- The configuration of a die; an empty one before bring-up (20 R446). -/
def State.die (s : State) (d : Nat) : DieConf :=
  (s.life.dies[d]?).getD { cores := [], slt := [], clt := [], capk := false }

/-- The module's node number (18 R422). -/
def State.node (s : State) : Nat := s.life.nodeid.toNat

/-- The first local address of a die's fast tier (15 R347). -/
def fastBase (d : Nat) : Nat := d * 0x2000000000

/-- The first local address of a die's capacity tier (15 R347). -/
def capBase (d : Nat) : Nat := 0x10000000000 + d * 0x8000000000

/-- The first local address of host memory (15 R347). -/
def hostBase : Nat := 0x800000000000

/-- The live bytes of a die's fast tier (16 R377). -/
def State.fastLive (s : State) (d : Nat) : Nat := (s.die d).clt.length * 0x80000000

/-- The live bytes of a die's capacity tier (20 R446, R447). -/
def State.capLive (s : State) (d : Nat) : Nat := if (s.die d).capk then 0x8000000000 else 0

/-- What lies at a local physical address (15 R347, R348; 16 R377). -/
inductive Region where
  /-- fast tier of a die -/
  | fast (d : Nat)
  /-- capacity tier of a die -/
  | cap (d : Nat)
  /-- a tag carve-out -/
  | carve
  /-- host memory -/
  | host
  /-- unmapped -/
  | hole
  deriving DecidableEq, Repr

/-- 15 R347, R348: the region of a local physical address. -/
def State.region (s : State) (p : Nat) : Region :=
  if p < 0x8000000000 then
    let d := p / 0x2000000000
    let o := p - fastBase d
    let l := s.fastLive d
    if o < l - l / 64 then .fast d else if o < l then .carve else .hole
  else if hostBase ≤ p ∧ p < 0x1000000000000 then .host
  else if 0x10000000000 ≤ p ∧ p < 0x30000000000 then
    let d := (p - 0x10000000000) / 0x8000000000
    let o := p - capBase d
    let l := s.capLive d
    if o < l - l / 64 then .cap d else if o < l then .carve else .hole
  else .hole

/-- The home die of a local address (01 R10); host memory is reached through die 0 (01 R9). -/
def homeDie (p : Nat) : Nat :=
  if p < 0x8000000000 then p / 0x2000000000
  else if 0x10000000000 ≤ p ∧ p < 0x30000000000 then (p - 0x10000000000) / 0x8000000000
  else 0

/-- 15 R348: where the tag of the granule at a device address is: carve-out byte and whether it is the high nibble. -/
def State.tagPlace (s : State) (p : Nat) : Option (Nat × Bool) :=
  match s.region p with
  | .fast d =>
    let l := s.fastLive d
    let o := p - fastBase d
    some (fastBase d + (l - l / 64) + o / 64, decide (o / 32 % 2 = 1))
  | .cap d =>
    let l := s.capLive d
    let o := p - capBase d
    some (capBase d + (l - l / 64) + o / 64, decide (o / 32 % 2 = 1))
  | _ => none

/-- 15 R348: the tag of the granule at a device address. -/
def State.tag (s : State) (p : Nat) : Nat :=
  match s.tagPlace p with
  | some (a, hi) => let b := (Memory.get s.mem a).toNat; if hi then b / 16 else b % 16
  | none => 0

/-- 15 R348: memory with the tag of a granule written. -/
def State.setTag (s : State) (p t : Nat) : State :=
  match s.tagPlace p with
  | some (a, hi) =>
    let b := (Memory.get s.mem a).toNat
    let v := if hi then (t % 16) * 16 + b % 16 else b / 16 * 16 + t % 16
    { s with mem := Memory.put s.mem a (BitVec.ofNat 8 v) }
  | none => s

/-- 19 R435: some line of n bytes from an address holds uncorrectable data. -/
def State.poisoned (s : State) (p n : Nat) : Bool :=
  s.bad.any (fun l => decide (p / 128 ≤ l) && decide (l ≤ (p + n - 1) / 128))

/-- Reads n bytes of the module's or the host's memory. -/
def State.rd (s : State) (p n : Nat) : Nat := Memory.rd s.mem p n

/-- Writes n bytes of the module's or the host's memory. -/
def State.wr (s : State) (p n v : Nat) : State := { s with mem := Memory.wr s.mem p n v }

/-- A field of BAR 0 that holds what the host writes (20 R438). -/
def State.bar (s : State) (off n : Nat) : Nat := Memory.rd s.bar0 off n

/-- Writes a field of BAR 0. -/
def State.setBar (s : State) (off n v : Nat) : State := { s with bar0 := Memory.wr s.bar0 off n v }

/-- 13 R310, R311: ns pass: the reference timer counts them, and each die's cycle counter adds 36 tenths for each while the device is READY. -/
def State.lapse (s : State) (ns : Nat) : State :=
  if s.life.stat = .off then s
  else
    let cyc := if s.life.stat = .ready then s.life.cyc.map (fun c => c + 36 * ns) else s.life.cyc
    { s with life := { s.life with timer := s.life.timer + BitVec.ofNat 64 ns, cyc := cyc } }

/-- Now, in ns of the reference timer (13 R310). -/
def State.now (s : State) : Nat := s.life.timer.toNat

end Sys2Proof.Machine
end

