-- ==== Sys2Proof/Machine/Page.lean ====
section
/-! DEFINITION. Translation: table walks, leaves, the TLB, shootdown and the faults that call for a migration
(15 R349 to R359, R363). -/

namespace Sys2Proof.Machine

/-- The fields of a leaf entry (15 R351). -/
structure Leaf where
  /-- RUN -/
  run : Nat
  /-- TE -/
  te : Bool
  /-- DEST -/
  dest : Nat
  /-- DIE -/
  die : Nat
  /-- STATE -/
  state : Nat
  /-- FRAME, a system page number -/
  frame : Nat
  /-- W -/
  w : Bool
  /-- U -/
  u : Bool
  /-- VALID with every reserved field at zero -/
  ok : Bool
  deriving DecidableEq, Repr

/-- 15 R351: the fields of a leaf entry. -/
def leafOf (e : Nat) : Leaf :=
  let x := BitVec.ofNat 64 e
  { run := bits x 63 60, te := x.getLsbD 59, dest := bits x 58 57, die := bits x 56 55, state := bits x 54 52, frame := bits x 47 6,
    w := x.getLsbD 5, u := x.getLsbD 4, ok := x.getLsbD 0 && decide (bits x 51 48 = 0) && decide (bits x 3 1 = 0) }

/-- STATE codes of a leaf (15 R351). -/
def stAbsent : Nat := 0
/-- FAST -/
def stFast : Nat := 1
/-- CAPACITY -/
def stCap : Nat := 2
/-- HOST -/
def stHost : Nat := 3
/-- MIGRATING -/
def stMigrating : Nat := 4
/-- PINNED -/
def stPinned : Nat := 5
/-- RETIRED -/
def stRetired : Nat := 6

/-- 15 R351: a leaf entry with another STATE. -/
def leafSetState (e st : Nat) : Nat := e / 2 ^ 55 * 2 ^ 55 + st * 2 ^ 52 + e % 2 ^ 52

/-- 15 R351: a leaf entry with another FRAME. -/
def leafSetFrame (e f : Nat) : Nat := e / 2 ^ 48 * 2 ^ 48 + (f % 2 ^ 42) * 64 + e % 64

/-- 15 R351: a leaf entry with RUN 0. -/
def leafSplit (e : Nat) : Nat := e % 2 ^ 60

/-- What a table walk meets (15 R349). -/
inductive Walk where
  /-- an invalid entry, or one that breaks its map -/
  | bad
  /-- uncorrectable data in a table (19 R435) -/
  | uncorr
  /-- the leaf: its local address and its value -/
  | leaf (addr entry : Nat)
  deriving DecidableEq, Repr

/-- 15 R350: NEXT of a valid entry of levels 3 to 1. -/
def tableNext (e : Nat) : Option Nat :=
  if e % 2 = 1 ∧ e / 2 % 2 ^ 13 = 0 ∧ e / 2 ^ 42 = 0 then some (e / 2 ^ 14 * 2 ^ 14) else none

/-- 15 R349: a table lies in device memory of the module. -/
def State.tableOk (s : State) (p : Nat) : Bool :=
  match s.region p with
  | .fast _ => true
  | .cap _ => true
  | _ => false

/-- 15 R349: the entry of one level of a table. -/
def State.entry (s : State) (table idx : Nat) : Except Walk Nat :=
  if s.tableOk table then
    if s.poisoned (table + 8 * idx) 8 then .error .uncorr else .ok (s.rd (table + 8 * idx) 8)
  else .error .bad

/-- 15 R349: one level down from a table. -/
def State.down (s : State) (table idx : Nat) : Except Walk Nat := do
  let e ← s.entry table idx
  match tableNext e with
  | some t => .ok t
  | none => .error .bad

/-- 15 R349: the walk of the four levels. A root table that lies outside device memory stops it as uncorrectable tables do: the context faults
(05 R99). -/
def State.walk (s : State) (ptroot va : Nat) : Walk :=
  if !s.tableOk ptroot then .uncorr else
  let r : Except Walk Walk := do
    let t2 ← s.down ptroot (va / 2 ^ 47 % 512)
    let t1 ← s.down t2 (va / 2 ^ 36 % 2048)
    let t0 ← s.down t1 (va / 2 ^ 25 % 2048)
    let i := va / 2 ^ 14 % 2048
    let e ← s.entry t0 i
    .ok (.leaf (t0 + 8 * i) e)
  match r with
  | .ok w => w
  | .error w => w

/-- What translation answers for one access. -/
inductive Xlat where
  /-- served at this system physical address, with the leaf entry -/
  | ok (pa entry : Nat)
  /-- fails with a cause code (19 R433) -/
  | fail (code : Nat)
  /-- parks: a migration is called for, or the leaf is MIGRATING -/
  | park
  /-- a table holds uncorrectable data, or PTROOT names none: the context faults (05 R99, R101) -/
  | uncorr
  deriving DecidableEq, Repr

/-- PGABSENT (19 R433). -/
def cPGABSENT : Nat := 0x07
/-- PGPROT (19 R433). -/
def cPGPROT : Nat := 0x08
/-- TAGMIS (19 R433). -/
def cTAGMIS : Nat := 0x09
/-- RLOCKED (19 R433). -/
def cRLOCKED : Nat := 0x0A
/-- UNCORR (19 R433). -/
def cUNCORR : Nat := 0x17

/-- PINWIN in µs (15 R361). -/
def State.pinwin (s : State) : Nat := s.bar 0x30101C 4

/-- 15 R362: the page's pin-table entry is younger than PINWIN. -/
def State.pinned (s : State) (ctx page : Nat) : Bool :=
  s.pins.any (fun e => match e with
    | (_, c, p, t) => decide (c = ctx) && decide (p = page) && decide (s.now - t < 1000 * s.pinwin))

/-- The frame pool of a die and tier, tier 1 fast, 2 capacity (15 R363). -/
def State.pool (s : State) (die dest : Nat) : Pool := s.pools[Fin.ofNat 8 (2 * die + (if dest = 1 then 0 else 1))]

/-- 15 R357: the pool of a die and tier has no frame. -/
def State.poolEmpty (s : State) (die dest : Nat) : Bool := (s.pool die dest).frames.isEmpty

/-- 15 R347: the node of a system page number. -/
def frameNode (f : Nat) : Nat := f / 2 ^ 34

/-- 15 R347: the local page address of a system page number. -/
def frameLocal (f : Nat) : Nat := f % 2 ^ 34 * 2 ^ 14

/-- 15 R351: a leaf entry keeps its map: its reserved fields are zero, and STATE and DEST hold no code that fails. -/
def Leaf.mapped (l : Leaf) : Bool := l.ok && decide (l.state ≠ 7) && decide (l.dest ≠ 3)

/-- 15 R347, R348: a local address of another node lies in a tag carve-out there, or above every address that is mapped there, however many
channels that node has. -/
def farCarve (p : Nat) : Bool :=
  (decide (p < 0x8000000000) && decide (0x2000000000 - 0x2000000000 / 64 ≤ p % 0x2000000000)) ||
  (decide (0x10000000000 ≤ p) && decide (p < 0x30000000000) && decide (0x8000000000 - 0x8000000000 / 64 ≤ p % 0x8000000000))

/-- 15 R351, R352, R348: the leaf passes the checks on FRAME and STATE. -/
def State.leafFits (s : State) (l : Leaf) : Bool :=
  let own := decide (frameNode l.frame = s.node)
  let p := frameLocal l.frame
  let r := s.region p
  l.mapped && !(if own then decide (r = .carve) else farCarve p) && (own || decide (l.state = stPinned)) &&
  !(l.te && (!own || decide (r = .host))) &&
  (if l.state = stFast then (match r with | .fast _ => true | _ => false)
   else if l.state = stCap then (match r with | .cap _ => true | _ => false)
   else if l.state = stRetired then (match r with | .fast _ => true | .cap _ => true | _ => false)
   else if l.state = stHost then decide (r = .host)
   else if l.state = stPinned then !own || (match r with | .fast _ => true | .cap _ => true | .host => true | _ => false)
   else true)

/-- 15 R352: the permissions of an access. -/
def Leaf.permits (l : Leaf) (write user : Bool) : Bool := (!write || l.w) && (!user || l.u)

/-- 15 R357, R358: an access that has to wait for a page fails when the page's move has just been aborted. -/
def State.parked (s : State) (ctx page : Nat) : Xlat := if s.lostPage = some (ctx, page) then .fail cUNCORR else .park

/-- 15 R357: how an access to a page is handled by its leaf; `page` names it for the pin table. -/
def State.judge (s : State) (ctx page off entry : Nat) (write user : Bool) : Xlat :=
  let l := leafOf entry
  let here : Xlat := .ok (l.frame * 2 ^ 14 + off) entry
  if !s.leafFits l || !l.permits write user then .fail cPGPROT
  else if l.state = stAbsent then
    if l.dest = 0 ∨ s.poolEmpty l.die l.dest then .fail cPGABSENT else s.parked ctx page
  else if l.state = stMigrating then s.parked ctx page
  else if l.state = stCap ∧ l.dest = 1 then
    if s.pinned ctx page || s.poolEmpty (homeDie (frameLocal l.frame)) 1 then here else s.parked ctx page
  else if l.state = stHost ∧ l.dest ≠ 0 then
    if s.pinned ctx page || s.poolEmpty l.die l.dest then here else s.parked ctx page
  else if l.state = stRetired then
    let p := frameLocal l.frame
    let tier := match s.region p with | .fast _ => 1 | _ => 2
    if s.pinned ctx page then here else if s.poolEmpty (homeDie p) tier then .fail cPGABSENT else s.parked ctx page
  else here

/-- The page number of a virtual address (15 R349). -/
def vpage (va : Nat) : Nat := va / 2 ^ 14

/-- 15 R349, R357: translates without a TLB, as engines and the device do. -/
def State.xlate (s : State) (ctx : Fin 64) (va : Nat) (write user : Bool) : Xlat :=
  if va < 2 ^ 56 then
    match s.walk s.ctxs[ctx].ptroot va with
    | .bad => .fail cPGPROT
    | .uncorr => .uncorr
    | .leaf _ e => s.judge ctx (vpage va) (va % 2 ^ 14) e write user
  else .fail cPGPROT

/-- 15 R353: a leaf as another page of its run sees it. -/
def leafShift (entry walked page : Nat) : Nat :=
  leafSetFrame entry ((leafOf entry).frame + page - walked)

/-- 15 R355: the TLB of a core. -/
def State.tlb (s : State) (core : Nat) : List TlbEnt := (tgetD s.cores core .idle).tlb

/-- 15 R355: the entry of a core's TLB that holds a page. -/
def State.tlbHit (s : State) (core ctx page : Nat) : Option Nat :=
  ((s.tlb core).find? (fun e => decide (e.ctx = ctx) && decide (e.page ≤ page) && decide (page < e.page + e.pages))).map
    (fun e => leafShift e.leaf e.walked page)

/-- 15 R355: translates for an access of a core: its TLB first, then a walk. -/
def State.xlateCore (s : State) (core : Nat) (ctx : Fin 64) (va : Nat) (write user : Bool) : Xlat :=
  if va < 2 ^ 56 then
    match s.tlbHit core ctx (vpage va) with
    | some e => s.judge ctx (vpage va) (va % 2 ^ 14) e write user
    | none => s.xlate ctx va write user
  else .fail cPGPROT

/-- 15 R355: the pages that the fast path of a base register covers meet a range. -/
def BaseReg.meets (b : BaseReg) (page n : Nat) : Bool :=
  b.valid && b.fp && decide (vpage b.va.toNat < page + n) && decide (page ≤ vpage b.va.toNat + b.lpg.toNat)

/-- 15 R355: clears the fast path of every base register of a warp that covers a page of a range. -/
def Warp.dropFast (w : Warp) (page n : Nat) : Warp :=
  { w with b := w.b.map (fun b => if b.meets page n then { b with fp := false } else b) }

/-- 15 R355: the same for the base register that a memory instruction in flight was issued with. -/
def MemOp.dropFast (m : MemOp) (page n : Nat) : MemOp :=
  match m.space with
  | .mem b => if b.meets page n then { m with space := .mem { b with fp := false } } else m
  | _ => m

/-- 15 R355, R358 step 3: shoots down the translations of n pages of a context in every core, walker and base register,
saved images included. -/
def State.shootdown (s : State) (ctx page n : Nat) : State :=
  { s with
    cores := s.cores.map (fun e => (e.1,
      { e.2 with tlb := e.2.tlb.filter (fun t =>
          !(decide (t.ctx = ctx) && decide (t.page < page + n) && decide (page < t.page + t.pages))) })),
    groups := s.groups.map (fun e => (e.1, if e.2.ctx = ctx then { e.2 with warps := e.2.warps.map (·.dropFast page n) } else e.2)),
    memops := s.memops.map (fun e => (e.1, if (tget s.groups e.2.g).map (·.ctx) = some ctx then e.2.dropFast page n else e.2)) }

/-- 15 R358: a fault unit takes a fault for a page, unless it is already listed. A leaf that is MIGRATING although no fault
unit holds the page is software's own lock (R359). -/
def State.addFault (s : State) (ctx page die : Nat) (host : Option Nat) : State :=
  if s.migs.any (fun e => decide (e.2.ctx = ctx) && decide (e.2.page = page) && decide (e.2.host.isSome = host.isSome)) then s
  else
    let m : Migration :=
      { ctx := ctx, page := page, die := die, host := host, step := .waiting, oldLeaf := 0, lockLeaf := 0, frame := 0, dest := 0,
        soft := false }
    { s with migs := s.migs ++ [(s.uid, m)], uid := s.uid + 1 }

/-- 15 R363: a frame goes into a pool, if the frame lies in the pool's tier and die and the ring has room. -/
def State.poolHas (s : State) (p : Fin 8) (pn : Nat) : Bool :=
  let l := frameLocal pn
  decide (pn < 2 ^ 34) &&
  (match s.region l with
   | .fast d => decide (p.val = 2 * d)
   | .cap d => decide (p.val = 2 * d + 1)
   | _ => false)

/-- SIZE of a frame pool (15 R363). -/
def State.poolSize (s : State) (p : Fin 8) : Nat := s.bar (0x300008 + 32 * p.val) 4

/-- 19 R436, 15 R360: a local address lies on memory that health retirement has taken out. -/
def State.retiredMem (s : State) (p : Nat) : Bool :=
  match s.region p with
  | .fast d =>
    let clt := (s.die d).clt
    match clt[(p - fastBase d) / 1024 % clt.length]? with
    | some c => s.persist.channels.contains (64 * d + c)
    | none => false
  | .cap d => s.persist.capctls.contains (4 * d + (p - capBase d) / 1024 % 4)
  | _ => false

/-- 15 R363, 16 R377: some part of a frame lies on retired memory; a channel holds 1 KiB in turn. -/
def State.retiredFrame (s : State) (p : Nat) : Bool := (List.range 16).any (fun i => s.retiredMem (p + 1024 * i))

/-- 15 R363: a freed frame goes back to its pool, or counts in DROPS; one on retired memory never returns. -/
def State.frameReturn (s : State) (f : Nat) : State :=
  let l := frameLocal f
  let k : Option (Fin 8) := match s.region l with
    | .fast d => some (Fin.ofNat 8 (2 * d))
    | .cap d => some (Fin.ofNat 8 (2 * d + 1))
    | _ => none
  match k with
  | none => s
  | some p =>
    if s.retiredFrame l then s
    else
      let q := s.pools[p]
      if q.frames.length < s.poolSize p then { s with pools := s.pools.set p { q with frames := q.frames ++ [f % 2 ^ 34] } }
      else { s with pools := s.pools.set p { q with drops := min (q.drops + 1) (2 ^ 32 - 1) } }

end Sys2Proof.Machine
end

