-- ==== Sys2Proof/Machine/Slices.lean ====
section
/-! DEFINITION. The lines that the L2 slices hold and which they give up (16 R372 to R376). An L2 line needs no bytes, because the home slice
is the one meeting point of its memory. -/

namespace Sys2Proof.Machine

/-- A system physical address names this module's own node (15 R347). -/
def State.isLocal (s : State) (pa : Nat) : Bool := decide (pa / 2 ^ 48 = s.node)

/-- The local part of a system physical address. -/
def localPart (pa : Nat) : Nat := pa % 2 ^ 48

/-! ## L2 (16 R372 to R376) -/

/-- The tier a local address lies in is device memory. -/
def State.isDevice (s : State) (p : Nat) : Bool := match s.region p with
  | .fast _ => true
  | .cap _ => true
  | .carve => true
  | _ => false

/-- 16 R372: the live-slice divisor of a die. -/
def State.slices (s : State) (d : Nat) : Nat := max 1 (s.die d).slt.length

/-- 16 R372: the physical slice of a local address, 64 x die + slice. -/
def State.sliceOf (s : State) (p : Nat) : Nat :=
  let d := homeDie p
  64 * d + ((s.die d).slt.getD (p / 128 % s.slices d) 0)

/-- 16 R374: the set of a local address in its slice. -/
def State.l2Set (s : State) (p : Nat) : Nat := p / 128 / s.slices (homeDie p) % 2048

/-- 16 R375: an eviction schedule entry. -/
structure Evict where
  /-- DUE -/
  due : Nat
  /-- CTXID -/
  ctx : Nat
  /-- VALID -/
  valid : Bool
  /-- LINES -/
  lines : Nat
  /-- BASE as a local address -/
  base : Nat
  /-- no reserved bit is set -/
  clean : Bool
  deriving DecidableEq, Repr

/-- 16 R375: entry i of a die's schedule. -/
def State.evict (s : State) (d i : Nat) : Evict :=
  let x := s.bar (0x310000 + 0x4000 * d + 16 * i) 16
  { due := x / 2 ^ 96 % 2 ^ 32, ctx := x / 2 ^ 90 % 64, valid := decide (x / 2 ^ 89 % 2 = 1), lines := x / 2 ^ 64 % 2 ^ 25,
    base := x / 128 % 2 ^ 41 * 128, clean := decide (x / 2 ^ 48 % 2 ^ 16 = 0) && decide (x % 128 = 0) }

/-- 16 R375: the entry is live and covers a line of its die. -/
def Evict.covers (e : Evict) (d p : Nat) : Bool :=
  e.valid && e.clean && decide (1 ≤ e.lines) && decide (e.lines ≤ 2 ^ 24) && decide (homeDie p = d) && decide (e.base ≤ p) &&
    decide (p < e.base + 128 * e.lines)

/-- 16 R375: the indices of a die's schedule that hold something. -/
def State.evictUsed (s : State) (d : Nat) : List Nat :=
  let lo := 0x310000 + 0x4000 * d
  ((s.bar0.filter (fun c => decide (lo ≤ c.1) && decide (c.1 < lo + 0x4000))).map (fun c => (c.1 - lo) / 16)).eraseDups

/-- 16 R376: the largest DUE of the valid entries that cover a line. -/
def State.coverDue (s : State) (p : Nat) : Option Nat :=
  let d := homeDie p
  ((((s.evictUsed d).map (s.evict d)).filter (fun e => e.covers d p)).map (·.due)).max?

/-- The line that comes first in fill order. -/
def firstFilled : List L2Line → Option L2Line
  | [] => none
  | l :: r => match firstFilled r with
    | none => some l
    | some m => if l.order ≤ m.order then some l else some m

/-- 16 R376: the victim among the lines of a full set. -/
def State.l2Victim (s : State) (ls : List L2Line) : Option L2Line :=
  match firstFilled (ls.filter (·.evictFirst)) with
  | some l => some l
  | none =>
    match firstFilled (ls.filter (fun l => (s.coverDue l.addr).isNone)) with
    | some l => some l
    | none =>
      let top := ((ls.filterMap (fun l => s.coverDue l.addr)).max?).getD 0
      firstFilled (ls.filter (fun l => s.coverDue l.addr = some top))

/-- The sector bits of n bytes from an address, within its line. -/
def sectors (p n : Nat) : BitVec 4 :=
  BitVec.ofNat 4 (((List.range 4).filter (fun i =>
    decide (p % 128 < 32 * i + 32) && decide (32 * i < p % 128 + n))).foldl (fun a i => a + 2 ^ i) 0)

/-! ## Channels, rows and alerts (16 R377 to R381) -/

/-- A channel of the module, by 32 x stack + channel. -/
def State.channel (s : State) (ch : Nat) : Channel := tgetD s.channels ch .idle

/-- 16 R377: the channel of a local address, by 32 x stack + channel; none for what is not in an HBM4E stack. -/
def State.channelOf (s : State) (p : Nat) : Option Nat :=
  let fast := fun (d : Nat) =>
    let clt := (s.die d).clt
    (clt[(p - fastBase d) / 1024 % clt.length]?).map (fun c => 64 * d + c)
  match s.region p with
  | .fast d => fast d
  | .carve => if p < capBase 0 then fast (homeDie p) else none
  | _ => none

/-- 16 R381: a saturated row stands before every row that is not. -/
def listRow (r : Nat × Bool × Bool) (l : List (Nat × Bool × Bool)) : List (Nat × Bool × Bool) :=
  if r.2.1 then l.takeWhile (fun e => e.2.1) ++ r :: l.dropWhile (fun e => e.2.1) else l ++ [r]

/-- 16 R381: a row that is listed as it is, or that was listed as saturated before. -/
def Channel.lists (c : Channel) (r : Nat × Bool × Bool) : Bool :=
  c.list.any (fun e => decide (e.1 = r.1) && (e.2.1 || !r.2.1) && (e.2.2 || !r.2.2))

/-- 16 R380, R381, R382: a row enters the neighbour-refresh list; a row that is listed and turns out saturated or corrupt moves ahead. -/
def Channel.add (c : Channel) (r : Nat × Bool × Bool) : Channel :=
  if c.lists r then c
  else
    { c with list := listRow r (c.list.filter (fun e => e.1 != r.1)), saturated := if r.2.1 && !r.2.2 then min 255 (c.saturated + 1) else c.saturated,
             corrupt := if r.2.2 then min 65535 (c.corrupt + 1) else c.corrupt }

/-- 16 R380: an alert: its row is listed, or it stays asserted while the list is full, and no new batch starts before an episode. -/
def Channel.alert (c : Channel) (r : Nat × Bool × Bool) : Channel :=
  let room := decide (c.list.length < 16) || c.list.any (fun e => e.1 == r.1)
  { (if room then c.add r else { c with asserted := c.asserted ++ [r] }) with alerted := true }

/-- 16 R378, R379: a channel reads or writes in a row. A row that is not open is activated: its counter rises, to at most 4,095, and the stack alerts
when the counter reaches ATH or saturates. -/
def Channel.use (c : Channel) (ath row : Nat) : Channel :=
  if c.openRow = some row then c
  else
    let n := min 4095 (tgetD c.counters row 0 + 1)
    let c1 : Channel := { c with openRow := some row, counters := tput c.counters row n }
    if n = ath ∨ n = 4095 then c1.alert (row, decide (n = 4095), false) else c1

/-- 16 R374, R379: the channel of a local line serves a fetch or a write-back; the capacity tier has no such rows. -/
def State.useRow (s : State) (p : Nat) : State :=
  { s with channels := match s.channelOf p with
      | some ch => tput s.channels ch ((s.channel ch).use s.ath (Config.row ch (p / 128)))
      | none => s.channels }

/-! ## The home slice (16 R372 to R374) -/

/-- 16 R372 to R374: the home slice of a local line reads or writes some bytes of it: sectors that a read misses are fetched, and those that are dirty
are written back when their line is evicted. A slice that passes through keeps nothing (R373). -/
def State.l2Touch (s : State) (p n : Nat) (write : Bool) : State :=
  let a := p / 128 * 128
  if !s.isDevice p then s
  else if s.through.contains (s.sliceOf p) then s.useRow a
  else
    let sec := sectors p n
    let up := fun (l : L2Line) => { l with valid := l.valid ||| sec, dirty := if write then l.dirty ||| sec else l.dirty }
    match s.l2.find? (fun l => l.addr == a) with
    | some x =>
      let s1 : State := { s with l2 := s.l2.map (fun l => if l.addr = a then up l else l) }
      if write || decide (x.valid &&& sec = sec) then s1 else s1.useRow a
    | none =>
      let mates := s.l2.filter (fun l => decide (s.sliceOf l.addr = s.sliceOf p) && decide (s.l2Set l.addr = s.l2Set p))
      let out := if mates.length < 16 then none else s.l2Victim mates
      let rest := match out with
        | some v => s.l2.filter (fun l => l.addr != v.addr)
        | none => s.l2
      let s1 : State :=
        { s with l2 := rest ++ [up { addr := a, valid := 0, dirty := 0, evictFirst := false, order := s.l2fills }], l2fills := s.l2fills + 1 }
      let s2 := match out with
        | some v => if v.dirty = 0 then s1 else s1.useRow v.addr
        | none => s1
      if write then s2 else s2.useRow a

/-- An access of n bytes at a system physical address reaches the home slices of its lines. -/
def State.l2Access (s : State) (pa n : Nat) (write : Bool) : State :=
  if s.isLocal pa then
    let p := localPart pa
    (List.range ((p % 128 + n + 127) / 128)).foldl (fun t i =>
      let a := if i = 0 then p else p / 128 * 128 + 128 * i
      t.l2Touch a (min (p + n) (p / 128 * 128 + 128 * i + 128) - a) write) s
  else s

/-- 15 R349: the addresses of the entries that a walk which finds a leaf reads. -/
def State.walkPlaces (s : State) (ptroot va : Nat) : List Nat :=
  let next := fun (a : Nat) => s.rd a 8 / 2 ^ 14 * 2 ^ 14
  let a3 := ptroot + 8 * (va / 2 ^ 47 % 512)
  let a2 := next a3 + 8 * (va / 2 ^ 36 % 2048)
  let a1 := next a2 + 8 * (va / 2 ^ 25 % 2048)
  [a3, a2, a1, next a1 + 8 * (va / 2 ^ 14 % 2048)]

/-- 15 R353, R355: a core's TLB takes the run of a page that translated; a miss has walked, and the walk reads its entries at their home slices
(16 R374). -/
def State.tlbFill (s : State) (core ctx va entry : Nat) : State :=
  match s.tlbHit core ctx (vpage va) with
  | some _ => s
  | none =>
    let c := tgetD s.cores core .idle
    let n := 2 ^ (leafOf entry).run
    let e : TlbEnt := { ctx := ctx, page := vpage va / n * n, pages := n, leaf := entry, walked := vpage va }
    (s.walkPlaces s.ctxs[Fin.ofNat 64 ctx].ptroot va).foldl (fun t a => t.l2Touch a 8 false)
      ({ s with cores := tput s.cores core { c with tlb := c.tlb ++ [e] } } : State)

end Sys2Proof.Machine
end

