-- ==== Sys2Proof/Machine/Draught.lean ====
section
/-! DEFINITION. What the Draught does with records: control words, the lottery, windows, returns and ends (17 R386 to R396). -/

namespace Sys2Proof.Machine

/-- A context number as an index. -/
def cfin (c : Nat) : Fin 64 := Fin.ofNat 64 c

/-- Changes one context. -/
def State.modCtx (s : State) (c : Fin 64) (f : Ctx → Ctx) : State := { s with ctxs := s.ctxs.set c (f s.ctxs[c]) }

/-- Adds a write of the device that is due to a context. -/
def State.owe (s : State) (c : Fin 64) (o : Owed) : State := s.modCtx c (fun x => { x with owed := x.owed ++ [o] })

/-- The bytes of a fault-log entry (05 R104). -/
def logBytes (time cause source node unit addr ref mask : Nat) : List Byte :=
  leBytes 8 time ++ leBytes 1 cause ++ leBytes 1 source ++ leBytes 1 node ++ leBytes 1 0 ++ leBytes 4 unit ++ leBytes 8 addr ++
    leBytes 8 ref ++ leBytes 4 mask ++ leBytes 28 0

/-- 05 R104: a fault-log entry of a context falls due. -/
def State.log (s : State) (c : Fin 64) (cause source node unit addr ref mask : Nat) : State :=
  s.owe c (.log (logBytes s.now cause source node unit addr ref mask))

/-- STATE code of a record (17 R386). -/
def RecState.code : RecState → Nat
  | .free => 0
  | .queued => 1
  | .instage => 2
  | .passed => 3
  | .dropped => 4
  | .committing => 5
  | .done => 6

/-- ORDER of a record (17 R386). -/
def orderBits : List Nat → Nat
  | [] => 0
  | k :: r => k % 8 + 8 * orderBits r

/-- 17 R386: the control word of a record. -/
def Rec.ctl (r : Rec) : Nat :=
  r.st.code * 2 ^ 125 + b2n r.pass * 2 ^ 124 + r.retry % 4 * 2 ^ 122 + r.cur.getD 0 % 8 * 2 ^ 119 + r.cause % 256 * 2 ^ 111 +
    r.done.toNat * 2 ^ 103 + r.effects.length % 16 * 2 ^ 99 + orderBits r.order % 2 ^ 24 * 2 ^ 75 + r.seq % 2 ^ 64

/-- 17 R386: where a slot starts. -/
def Binding.slotAddr (b : Binding) (i : Nat) : Nat := b.pool + i * (384 + 64 * b.psize)

/-- 17 R386: the payload of a held record: where it starts and its bytes. -/
def State.payload (s : State) (h : Held) : Nat × Nat :=
  match tget s.binds h.bind with
  | some b => (b.slotAddr h.slot + 384, 64 * b.psize)
  | none => (0, 0)

/-- 17 R387: the bytes of an effect entry. -/
def Effect.bytes (e : Effect) : List Byte :=
  leBytes 8 e.addr.toNat ++ leBytes 16 e.data.toNat ++ leBytes 1 e.size ++ leBytes 1 e.stage ++ leBytes 6 0

/-- 17 R386: stores a record and writes its control word and its effect entries; of a record whose slot cannot be written, nothing is. -/
def State.putRec (s : State) (id slot : Nat) (r : Rec) : State :=
  match tget s.binds id with
  | none => s
  | some b =>
    let s1 : State := { s with binds := tput s.binds id { b with recs := tput b.recs slot r } }
    if r.lost then s1 else
    let s2 := s1.owe (cfin b.ctx) (.slot (b.slotAddr slot) (leBytes 16 r.ctl) id slot)
    let eff := (r.effects.map Effect.bytes).flatten
    if eff.isEmpty then s2 else s2.owe (cfin b.ctx) (.slot (b.slotAddr slot + 128) eff id slot)

/-- 17 R395: one step of the lottery register. -/
def lotteryStep (l : BitVec 16) : BitVec 16 := if l.getLsbD 0 then (l >>> 1) ^^^ 0xB400#16 else l >>> 1

/-- 17 R395 step 4: the candidate whose running sum of weights first exceeds u. -/
def pickStage : List (Nat × Nat) → Nat → Nat
  | [], _ => 0
  | [(k, _)], _ => k
  | (k, w) :: r, u => if u < w then k else pickStage r (u - w)

/-- 17 R395: one draw among candidates with their weights. -/
def draw (l : BitVec 16) (c : List (Nat × Nat)) : Nat × BitVec 16 :=
  match c with
  | [] => (0, l)
  | [(k, _)] => (k, l)
  | c =>
    let l1 := lotteryStep l
    let t := c.foldl (fun a e => a + e.2) 0
    (pickStage c (l1.toNat % t), l1)

/-- 17 R395: draws a whole order, `n` stages to go. -/
def drawOrder : Nat → BitVec 16 → List (Nat × Nat) → List Nat × BitVec 16
  | 0, l, _ => ([], l)
  | n + 1, l, c =>
    match c with
    | [] => ([], l)
    | c =>
      let (k, l1) := draw l c
      let (o, l2) := drawOrder n l1 (c.filter (fun e => e.1 != k))
      (k :: o, l2)

/-- 17 R395: QD_k, the records QUEUED for a stage. -/
def Binding.qd (b : Binding) (k : Nat) : Nat := (b.recs.filter (fun e => decide (e.2.st = .queued) && decide (e.2.cur = some k))).length

/-- The stages a record has not passed. -/
def Binding.left (b : Binding) (r : Rec) : List Nat := (List.range b.stages.length).filter (fun k => !r.done.getLsbD k)

/-- 17 R395: the window of a record. -/
def Binding.windowOf (b : Binding) (r : Rec) : Nat := r.seq / (max b.win 1)

/-- 17 R395: the weights that a record under REPRO is drawn with, none while their window has not closed. -/
def Binding.reproWeights (b : Binding) (r : Rec) : Option (List Nat) :=
  let m := b.windowOf r
  if m < 2 then b.weights[0]? else b.weights[m - 1]?

/-- 17 R395: chooses the next stage of a record that becomes QUEUED. -/
def Binding.route (b : Binding) (r : Rec) : Binding × Rec :=
  if b.repro then
    match r.order with
    | [] =>
      match b.reproWeights r with
      | none => (b, { r with cur := none })
      | some w =>
        let (o, l) := drawOrder b.stages.length b.l ((List.range b.stages.length).map (fun k => (k, w.getD k 1)))
        ({ b with l := l }, { r with order := o, cur := o.head? })
    | o => (b, { r with cur := o[b.stages.length - (b.left r).length]? })
  else
    let w := b.weights.getLastD []
    let c := (b.left r).map (fun k =>
      (k, if b.nodepth then w.getD k 1 else max 1 (w.getD k 1 * 16 / (16 + b.qd k))))
    let (k, l) := draw b.l c
    ({ b with l := l }, { r with cur := some k })

/-- 17 R394: the cost of a stage when its window closes. -/
def Binding.cost (b : Binding) (k : Nat) (st : StageStat) : Nat :=
  let h := (b.stages.getD k (0, 0)).2
  if h ≠ 0 then h else if b.repro then 1 else max 1 (min 65535 (st.cyc / max 1 st.runs / 64))

/-- 17 R394: closes the current window: rates, weights and counters. -/
def Binding.close (b : Binding) : Binding :=
  let st := fun k => tgetD b.stats (8 * b.window + k) { runs := 0, drops := 0, cyc := 0 }
  let n := b.stages.length
  let rate := (List.range n).map (fun k =>
    if (st k).runs > 0 then (st k).drops * 65536 / (st k).runs else b.rate.getD k 32768)
  let w := (List.range n).map (fun k => 1 + min 1023 (rate.getD k 0 / b.cost k (st k)))
  let key := if b.repro then b.window else 0
  { b with rate := rate, weights := b.weights ++ [w], window := b.window + 1,
           ended := tput b.ended key (if b.repro then 0 else tgetD b.ended 0 0 - b.win) }

/-- 17 R394: the window may close. -/
def Binding.closable (b : Binding) : Bool :=
  if b.repro then decide (b.win ≤ tgetD b.ended b.window 0) else decide (b.win ≤ tgetD b.ended 0 0)

/-- 17 R394: the event of a stage: RPASS or RDROP. -/
def Binding.count (b : Binding) (r : Rec) (drop : Bool) (now : Nat) : Binding :=
  let k := r.cur.getD 0
  let m := if b.repro then b.windowOf r else b.window
  let st := tgetD b.stats (8 * m + k) { runs := 0, drops := 0, cyc := 0 }
  let sat := 2 ^ 32 - 1
  let st' : StageStat :=
    { runs := min sat (st.runs + 1), drops := min sat (st.drops + b2n drop), cyc := min sat (st.cyc + (now - r.since) * 36 / 10) }
  { b with stats := tput b.stats (8 * m + k) st' }

/-- 17 R389: the record is DONE or DROPPED. -/
def Rec.over (r : Rec) : Bool := decide (r.st = .done) || decide (r.st = .dropped)

/-- 17 R394: the counts of a binding when a record has become DONE or DROPPED. -/
def Binding.tally (b : Binding) (r : Rec) : Binding :=
  let key := if b.repro then b.windowOf r else 0
  { b with ended := tput b.ended key (tgetD b.ended key 0 + 1), nDone := b.nDone + b2n (r.st = .done),
           nDropped := b.nDropped + b2n (r.st = .dropped) }

/-- 17 R389, R394: a record has become DONE or DROPPED: it is written and counted. With KEEP = 0 it is freed once that has been written. -/
def State.endRec (s : State) (id slot : Nat) (r : Rec) : State :=
  let s1 := s.putRec id slot r
  { s1 with binds := tmod s1.binds id (fun b => b.tally r) }

/-- HWLOC of a binding's Draught (05 R109). -/
def Binding.unit (b : Binding) : Nat := (b.home / 4) * 2 ^ 21 + (b.home % 4) * 2 ^ 19

/-- 17 R388, R389: a record is dropped with a cause that was met at an address, and a fault-log entry is written. -/
def State.dropRec (s : State) (id slot cause addr : Nat) (logged : Bool) : State :=
  match tget s.binds id with
  | none => s
  | some b =>
    match tget b.recs slot with
    | none => s
    | some r =>
      let s1 := s.endRec id slot { r with st := .dropped, cause := cause, by_ := none }
      if logged then s1.log (cfin b.ctx) cause 6 0 b.unit addr slot 0 else s1

/-- 17 R388: a write of the Draught to a slot has met a fatal fault or uncorrectable data at an address: the record is DROPPED with the cause,
even one that has ended, its other writes to the slot are given up, and one fault-log entry is written. -/
def State.failRec (s : State) (c : Fin 64) (id slot cause addr : Nat) : State :=
  let s0 := s.modCtx c (fun x => { x with owed := x.owed.filter (fun o => match o with
    | .slot _ _ i n => !(decide (i = id) && decide (n = slot))
    | _ => true) })
  match tget s0.binds id with
  | none => s0.log c cause 6 0 0 addr slot 0
  | some b =>
    let t := s0.log c cause 6 0 b.unit addr slot 0
    match tget b.recs slot with
    | none => t
    | some r =>
      let r1 : Rec := { r with st := .dropped, cause := cause, by_ := none, lost := true }
      let b1 := if r.st = .done then { b with nDone := b.nDone - 1, nDropped := b.nDropped + 1 } else if r.st = .dropped then b else b.tally r1
      { t with binds := tput t.binds id { b1 with recs := tput b1.recs slot r1 } }

/-- A slot of a binding has writes that are due. -/
def State.slotDue (s : State) (c : Fin 64) (id slot : Nat) : Bool := s.ctxs[c].owed.any (fun o => match o with
  | .slot _ _ i n => decide (i = id) && decide (n = slot)
  | _ => false)

/-- 17 R389: a record that has ended, been written and been counted is FREE. -/
def State.freeRec (s : State) (id slot : Nat) : State :=
  match tget s.binds id with
  | none => s
  | some b =>
    match tget b.recs slot with
    | none => s
    | some r =>
      let s1 : State := { s with binds := tput s.binds id { b with recs := tdel b.recs slot } }
      if r.lost then s1 else s1.owe (cfin b.ctx) (.slot (b.slotAddr slot) (leBytes 16 ({ r with st := .free } : Rec).ctl) id slot)

/-- 17 R389: a holder exits or is killed without ending its stage; `abort` when its launch or context ended. -/
def State.returnRec (s : State) (h : Held) (cause : Nat) (abort : Bool) : State :=
  match tget s.binds h.bind with
  | none => s
  | some b =>
    match tget b.recs h.slot with
    | none => s
    | some r =>
      if r.st ≠ .instage then s
      else if abort then s.putRec h.bind h.slot { r with st := .queued, by_ := none }
      else if r.retry < 3 then
        s.putRec h.bind h.slot
          { r with st := .queued, retry := r.retry + 1, cause := cause, by_ := none,
                   effects := r.effects.filter (fun e => decide (some e.stage ≠ r.cur)) }
      else s.dropRec h.bind h.slot cause 0 true

/-- 17 R384, R389: the binding of a launch ends. -/
def State.endBind (s : State) (id : Nat) : State :=
  match tget s.binds id with
  | none => s
  | some b =>
    let s1 := b.recs.foldl (fun t e => if e.2.over then t else t.dropRec id e.1 0x80 0 false) s
    let s2 := b.recs.foldl (fun t e => t.freeRec id e.1) s1
    { s2 with binds := tdel s2.binds id }

/-- 17 R384: every binding of a launch ends. -/
def State.endBinds (s : State) (launch : Nat) : State :=
  s.binds.foldl (fun t e => if e.2.launch = launch then t.endBind e.1 else t) s

end Sys2Proof.Machine
end

