-- ==== Sys2Proof/Machine/Device.lean ====
section
/-! DEFINITION. What the device does on its own account: places and locations, notification, the writes it owes to a context,
launch packets and their signals, barrier objects, and the end of a copy (05 R104, R105; 06 R115 to R117; 12 R284; 13 R299). -/

namespace Sys2Proof.Machine

/-! ## Places -/

/-- Die of a core key (72 x die + 18 x quadrant + physical core). -/
def coreDie (c : Nat) : Nat := c / 72
/-- Quadrant of a core key, 0 to 15 over the module. -/
def coreQuad (c : Nat) : Nat := c / 18

/-- 20 R445: the logical number of a core within its die. -/
def State.logical (s : State) (c : Nat) : Nat :=
  let qs := (s.die (coreDie c)).cores
  let q := coreQuad c % 4
  ((qs.take q).map List.length).sum + ((qs.getD q []).findIdx (fun x => x == c % 18))

/-- 20 R446: the core keys of the live cores, in the order of their logical numbers. -/
def State.liveCores (s : State) : List Nat :=
  (s.life.dies.zipIdx.map (fun (d, i) =>
    (d.cores.zipIdx.map (fun (q, j) => q.map (fun c => 72 * i + 18 * j + c))).flatten)).flatten

/-- 05 R109: HWLOC of a warp slot of a core. -/
def State.hwloc (s : State) (core slot : Nat) : Nat :=
  coreDie core * 2 ^ 21 + coreQuad core % 4 * 2 ^ 19 + s.logical core % 128 * 2 ^ 12 + slot % 32 * 2 ^ 5

/-- 05 R109: HWLOC of an engine of a quadrant (0 to 15 over the module). -/
def quadLoc (q : Nat) : Nat := q / 4 * 2 ^ 21 + q % 4 * 2 ^ 19

/-- The group of a name. -/
def State.group (s : State) (g : Nat) : Option Group := tget s.groups g

/-- Changes one group. -/
def State.modGroup (s : State) (g : Nat) (f : Group → Group) : State := { s with groups := tmod s.groups g f }

/-- Changes one warp of a group. -/
def Group.modWarp (g : Group) (w : Nat) (f : Warp → Warp) : Group := { g with warps := g.warps.modify w f }

/-- Changes one warp. -/
def State.modWarp (s : State) (g w : Nat) (f : Warp → Warp) : State := s.modGroup g (·.modWarp w f)

/-- The warp of a group. -/
def State.warp (s : State) (g w : Nat) : Option Warp := (s.group g).bind (fun x => x.warps[w]?)

/-! ## Interrupts and notification (05 R105, 20 R439) -/

/-- Raises an MSI-X vector. -/
def State.irq (s : State) (v : Nat) : State :=
  if s.life.irqs.contains v then s else { s with life := { s.life with irqs := s.life.irqs ++ [v] } }

/-- 20 R439: sets a MGMTCAUSE bit and raises vector 64. -/
def State.manage (s : State) (bit : Nat) : State :=
  let s1 : State := { s with life := { s.life with mgmt := s.life.mgmt ||| BitVec.ofNat 4 (2 ^ bit) } }
  s1.irq 64

/-- STATE code of a context (05 R98). -/
def CtxState.code : CtxState → Nat
  | .free => 0
  | .building => 1
  | .ready => 2
  | .running => 3
  | .suspended => 4
  | .faulted => 5
  | .draining => 6
  | .dead => 7

/-- 05 R99: NOTIFY is a host physical address, which the host window of 15 R347 must hold. -/
def notifyOk (a : Nat) : Bool := decide (a + 8 ≤ hostBase)

/-- 05 R105: writes the notification word and raises the context's interrupt; at a NOTIFY that faults nothing is written. -/
def State.notify (s : State) (c : Fin 64) : State :=
  let x := s.ctxs[c]
  let n := x.notifyN + 1
  let s1 := s.modCtx c (fun y => { y with notifyN := n })
  let s2 := if notifyOk x.notify then s1.wr (hostBase + x.notify) 8 (n.toNat * 2 ^ 32 + x.st.code) else s1
  s2.irq c

/-- 05 R101, R105: a change of STATE with its notification. -/
def State.setCtx (s : State) (c : Fin 64) (st : CtxState) : State := (s.modCtx c (fun y => { y with st := st })).notify c

/-! ## Reads and writes at system physical addresses -/

/-- A byte that an engine reads at a system physical address; another node's memory is no state of this module, so the
byte is free (log entry 21). -/
def State.engByte (s : State) (pa : Nat) : Byte :=
  if s.isLocal pa then Memory.get s.mem (localPart pa) else Config.freeByte s.tick pa

/-- An engine's write of one byte; a write to another node leaves this module (log entry 21). -/
def State.engPut (s : State) (pa : Nat) (b : Byte) : State :=
  if s.isLocal pa then { s with mem := Memory.put s.mem (localPart pa) b } else s

/-- An engine's read of n bytes. -/
def State.engRd (s : State) : Nat → Nat → Nat
  | _, 0 => 0
  | pa, n + 1 => (s.engByte pa).toNat + 256 * s.engRd (pa + 1) n

/-- An engine's write of some bytes, in memory. -/
def State.engStore (s : State) : Nat → List Byte → State
  | _, [] => s
  | pa, b :: r => (s.engPut pa b).engStore (pa + 1) r

/-- An engine's write of some bytes, which reaches the home slices of their lines (16 R374). -/
def State.engPutBytes (s : State) (pa : Nat) (b : List Byte) : State := (s.engStore pa b).l2Access pa b.length true

/-- 19 R435: local data at a system physical address is uncorrectable. -/
def State.engBad (s : State) (pa n : Nat) : Bool := s.isLocal pa && s.poisoned (localPart pa) n

/-! ## Launch packets and signals -/

/-- A launch packet's fields (06 R115). -/
structure Packet0 where
  /-- KERNEL -/
  kernel : Nat
  /-- PARAMS -/
  params : Nat
  /-- THRESH and SIGIDX of the waits that are read -/
  waits : List (Nat × Nat)
  /-- DONE -/
  done : Option Nat
  /-- PHASES -/
  phases : Nat
  /-- PRIO -/
  prio : Nat
  deriving DecidableEq, Repr

/-- What reading something of a context's memory for the launch unit answers. -/
inductive Fetch (α : Type) where
  /-- the value -/
  | got (v : α)
  /-- a page migrates first -/
  | park (page : Nat)
  /-- a fatal fault or uncorrectable data, with its cause -/
  | bad (cause : Nat)
  /-- uncorrectable data in the page tables -/
  | tables

/-- 06 R115, 07 R131: reads one aligned item of n bytes of a context's memory, not across a page. -/
def State.fetchMem (s : State) (c : Fin 64) (va n : Nat) : Fetch Nat :=
  match s.xlate c va false false with
  | .ok pa _ => if s.engBad pa n then .bad cUNCORR else .got (s.engRd pa n)
  | .fail k => .bad k
  | .park => .park (vpage va)
  | .uncorr => .tables

/-- 07 R131: reads n bytes of a context's memory, page by page. -/
def State.fetchBytes (s : State) (c : Fin 64) : Nat → Nat → Nat → Fetch (List Byte)
  | 0, _, _ => .got []
  | fuel + 1, va, n =>
    if n = 0 then .got []
    else
      let k := min n (2 ^ 14 - va % 2 ^ 14)
      match s.fetchMem c va k with
      | .got x => (match s.fetchBytes c fuel (va + k) (n - k) with
        | .got r => .got (leBytes k x ++ r)
        | y => y)
      | .bad e => .bad e
      | .park p => .park p
      | .tables => .tables

/-- Reads a range of a context's memory. -/
def State.fetchRange (s : State) (c : Fin 64) (va n : Nat) : Fetch (List Byte) := s.fetchBytes c (n / 2 ^ 14 + 2) va n

/-- 06 R115: the fields of a packet, none when it breaks the layout. -/
def packetOf (x : Nat) : Option Packet0 :=
  let f := fun (off n : Nat) => x / 2 ^ (8 * off) % 2 ^ (8 * n)
  let ctl := f 0x36 1
  let nwait := ctl / 16 % 8
  if f 0 8 % 128 = 0 ∧ f 8 8 % 8 = 0 ∧ 1 ≤ f 0x34 2 ∧ f 0x34 2 ≤ 256 ∧ ctl / 128 = 0 ∧ ctl / 4 % 4 = 0 ∧ nwait ≤ 4 ∧ f 0x37 9 = 0 then
    some { kernel := f 0 8, params := f 8 8, waits := (List.range nwait).map (fun i => (f (0x14 + 8 * i) 4, f (0x10 + 8 * i) 4)),
           done := if f 0x30 4 = 0xFFFFFFFF then none else some (f 0x30 4), phases := f 0x34 2, prio := ctl % 4 }
  else none

/-- How the waits of a head stand (06 R116). -/
inductive Waits where
  /-- every wait is met -/
  | met
  /-- a wait is not met -/
  | unmet
  /-- the queue goes to ERROR with this QERR: 4 BADPKT, 5 BADSIG, 6 POISON -/
  | error (q : Nat)
  /-- a page of the context migrates first -/
  | park (page : Nat)
  /-- uncorrectable data in the page tables -/
  | tables
  deriving DecidableEq, Repr

/-- 06 R116: one wait. -/
def State.waitOf (s : State) (c : Fin 64) (w : Nat × Nat) : Waits :=
  let x := s.ctxs[c]
  if x.cblimit < 8 * w.2 + 8 then .error 5
  else
    match s.fetchMem c (x.cb + 8 * w.2) 8 with
    | .bad _ => .error 5
    | .park p => .park p
    | .tables => .tables
    | .got v => if v / 2 ^ 63 % 2 = 1 then .error 6 else if w.1 ≤ v then .met else .unmet

/-- 06 R116: the waits of a packet, in order. -/
def State.waitsOf (s : State) (c : Fin 64) : List (Nat × Nat) → Waits
  | [] => .met
  | w :: r =>
    match s.waitOf c w with
    | .met => s.waitsOf c r
    | .unmet =>
      match s.waitsOf c r with
      | .met => .unmet
      | x => x
    | x => x

/-- The address of a queue's head packet (06 R114). -/
def Queue.headVa (q : Queue) : Nat := q.base.toNat + 64 * (q.head.toNat % max q.size 1)

/-- 06 R115, R116: the head packet of a queue and how its waits stand. -/
def State.headOf (s : State) (q : Queue) : Option Packet0 × Waits :=
  let c := cfin q.ctx
  match s.fetchMem c q.headVa 64 with
  | .bad _ => (none, .error 4)
  | .park p => (none, .park p)
  | .tables => (none, .tables)
  | .got x =>
    match packetOf x with
    | none => (none, .error 4)
    | some p => (some p, s.waitsOf c p.waits)

/-- 06 R120: a queue goes to ERROR with a cause; its LOADED kernel is discarded (07 R133). -/
def Queue.fail (q : Queue) (e : Nat) : Queue := { q with st := .error, err := e, loaded := none, aged := 0 }

/-- 06 R116, R120: the launch unit reads the signals of a BLOCKED head again. -/
def State.recheckQueue (s : State) (q : Queue) : Queue :=
  if q.st = .blocked then
    match (s.headOf q).2 with
    | .met => { q with st := .active }
    | .error e => q.fail e
    | _ => q
  else q

/-- 06 R116: the launch unit reads the signals of every BLOCKED head again. -/
def State.recheckSignals (s : State) : State := { s with queues := s.queues.map s.recheckQueue }

/-- 06 R117: a signal add. -/
def signalAdd (ctr v : Nat) : Nat :=
  let c := (ctr % 2 ^ 63 + v % 2 ^ 63) % 2 ^ 63
  if ctr / 2 ^ 63 % 2 = 1 ∨ v / 2 ^ 63 % 2 = 1 then 2 ^ 63 + c else c

/-! ## Writes that are due (05 R104, 06 R117, R122; 17 R388) -/

/-- Why a write of the device faults its context (05 R99, R101). -/
structure PayFault where
  /-- cause -/
  cause : Nat
  /-- the agent that met it -/
  source : Nat
  /-- UNIT -/
  unit : Nat
  /-- ADDR -/
  addr : Nat
  /-- REF -/
  ref : Nat
  deriving DecidableEq, Repr

/-- What the first due write of a context comes to: a new state, and why the context faults. -/
inductive Pay where
  /-- performed or dropped -/
  | done (s : State)
  /-- waits for a page -/
  | park (s : State)
  /-- the context faults -/
  | fault (s : State) (why : PayFault)

/-- What storing bytes at a virtual address of a context comes to. -/
inductive Stored where
  /-- stored -/
  | ok (s : State)
  /-- a page migrates first -/
  | park (page : Nat)
  /-- a fatal fault or uncorrectable data, and its address -/
  | fail (cause addr : Nat)
  /-- a page table holds uncorrectable data -/
  | tables (addr : Nat)

/-- Some bytes from a virtual address, cut at the page boundaries. -/
def pageCut : Nat → Nat → List Byte → List (Nat × List Byte)
  | 0, _, _ => []
  | n + 1, va, b => if b.isEmpty then [] else
    let k := 2 ^ 14 - va % 2 ^ 14
    (va, b.take k) :: pageCut n (va + k) (b.drop k)

/-- Stores the pieces of some bytes, each at its own page. -/
def State.putPieces (s : State) (c : Fin 64) : List (Nat × List Byte) → Stored
  | [] => .ok s
  | (va, b) :: r => match s.xlate c va true false with
    | .ok pa _ =>
      if s.engBad pa b.length then .fail cUNCORR va
      else match s.putPieces c r with
        | .ok t => .ok (t.engPutBytes pa b)
        | x => x
    | .fail k => .fail k va
    | .park => .park (vpage va)
    | .uncorr => .tables va

/-- 17 R388: the device stores bytes at a virtual address of a context, page by page, all of them or none. -/
def State.putVa (s : State) (c : Fin 64) (va : Nat) (b : List Byte) : Stored := s.putPieces c (pageCut (b.length / 2 ^ 14 + 2) va b)

/-- 06 R122, R129: the accepted writes of a warp that have still to be performed. -/
def State.writesOpen (s : State) (g w : Nat) : Bool := s.memops.any (fun e => decide (e.2.g = g) && decide (e.2.w = w) && (match e.2.kind with
  | .store => true
  | .spk => true
  | .tagst => true
  | .atomic _ => true
  | _ => false))

/-- The first due write that may be performed, and the rest: a detach waits for its warp's accepted writes and holds nothing else back. -/
def State.nextOwed (s : State) : List Owed → Option (Owed × List Owed)
  | [] => none
  | o :: r =>
    let waits := match o with
      | .detach _ g w => s.writesOpen g w
      | _ => false
    if waits then (s.nextOwed r).map (fun e => (e.1, o :: e.2)) else some (o, r)

/-- 05 R104: FLOGLOST rises by 1 and saturates. -/
def State.loseLog (s : State) (c : Fin 64) : State := s.modCtx c (fun y => { y with floglost := min (y.floglost + 1) (2 ^ 32 - 1) })

/-- Performs one due write of a context. A detach of an ended warp that meets a fatal fault or uncorrectable data is dropped: the spec says nothing
of it (DESIGN CHOICE, log entry 58). -/
def State.pay (s : State) (c : Fin 64) (o : Owed) : Pay :=
  let x := s.ctxs[c]
  match o with
  | .log b =>
    if (x.floghead - x.flogtail).toNat = x.flogcount then .done (s.loseLog c)
    else
      let va := x.flog + 64 * (x.floghead.toNat % max x.flogcount 1)
      let lost := fun (k : Nat) => Pay.fault ((s.loseLog c).notify c) { cause := k, source := 7, unit := 0, addr := va, ref := 0 }
      match s.putVa c va b with
      | .ok t => .done ((t.modCtx c (fun y => { y with floghead := y.floghead + 1 })).notify c)
      | .fail k _ => lost k
      | .park p => .park (s.addFault c p 0 none)
      | .tables _ => lost cUNCORR
  | .signal a v =>
    match s.xlate c a true false with
    | .ok pa _ =>
      if s.engBad pa 8 then .done (s.log c cUNCORR 7 0 0 a 0 0)
      else .done ((s.engPutBytes pa (leBytes 8 (signalAdd (s.engRd pa 8) v))).recheckSignals)
    | .fail k => .done (s.log c k 7 0 0 a 0 0)
    | .park => .park (s.addFault c (vpage a) 0 none)
    | .uncorr => .done (s.log c cUNCORR 7 0 0 a 0 0)
  | .detach q _ _ =>
    match s.xlate c (q % 2 ^ 56) true false with
    | .ok pa _ =>
      if s.engBad (pa + 0x14) 4 then .done s else .done (s.engPutBytes (pa + 0x14) (leBytes 4 (s.engRd (pa + 0x14) 4 + 2 ^ 32 - 1)))
    | .park => .park (s.addFault c (vpage (q % 2 ^ 56)) 0 none)
    | .fail _ => .done s
    | .uncorr => .fault s { cause := cUNCORR, source := 0, unit := 0, addr := q % 2 ^ 56, ref := 0 }
  | .slot a b id slot =>
    match s.putVa c a b with
    | .ok t => .done t
    | .fail k va => .done (s.failRec c id slot k va)
    | .park p => .park (s.addFault c p 0 none)
    | .tables va =>
      .fault s { cause := cUNCORR, source := 6, unit := ((tget s.binds id).map Binding.unit).getD 0, addr := va, ref := slot }

/-- Performs the due writes of a context in order, until one waits or faults the context. -/
def State.payAll : Nat → State → Fin 64 → State × Option PayFault
  | 0, s, _ => (s, none)
  | n + 1, s, c =>
    match s.nextOwed s.ctxs[c].owed with
    | none => (s, none)
    | some (o, r) =>
      match (s.modCtx c (fun y => { y with owed := r })).pay c o with
      | .done t => State.payAll n t c
      | .park t => (t.modCtx c (fun y => { y with owed := o :: y.owed }), none)
      | .fault t k => (t, some k)

/-! ## Barrier objects (13 R298 to R300) -/

/-- A barrier object. -/
structure Bar where
  /-- PENDB modulo 2^64, or the identifier of the copy that broke it -/
  pendb : Nat
  /-- PHASE -/
  phase : Bool
  /-- BROKEN -/
  broken : Bool
  /-- EXPECT -/
  expect : Nat
  /-- PENDA -/
  penda : Nat
  deriving DecidableEq, Repr

/-- 13 R298: a barrier object from its 16 bytes. -/
def barOf (x : Nat) : Bar :=
  { pendb := x / 2 ^ 64 % 2 ^ 64, phase := decide (x / 2 ^ 63 % 2 = 1), broken := decide (x / 2 ^ 62 % 2 = 1),
    expect := x / 2 ^ 32 % 2 ^ 16, penda := x % 2 ^ 16 }

/-- 13 R298: the 16 bytes of a barrier object. -/
def Bar.val (b : Bar) : Nat :=
  b.pendb % 2 ^ 64 * 2 ^ 64 + b2n b.phase * 2 ^ 63 + b2n b.broken * 2 ^ 62 + b.expect % 2 ^ 16 * 2 ^ 32 + b.penda % 2 ^ 16

/-- 13 R299: barrier_complete. -/
def Bar.complete (b : Bar) : Bar :=
  if !b.broken && decide (b.penda = 0) && decide (b.pendb = 0) then { b with phase := !b.phase, penda := b.expect } else b

/-- 13 R298: the object at an offset of a group's region. -/
def Group.bar (g : Group) (off : Nat) : Bar := barOf (Memory.rd g.spad off 16)

/-- 13 R300, R302: what a new value of the object at an offset is to a fragment that waits in BWAIT on it: its wait is over when PHASE differs from
its token, and it traps when the object is BROKEN. What becomes of the object after that no longer matters to it. -/
def Frag.tell (off : Nat) (b : Bar) (f : Frag) : Frag := match f.arrived with
  | some (.bwait o t) =>
    if o = off then
      if b.broken then { f with arrived := some (.bwaitBroken o) }
      else if b2n b.phase ≠ t then { f with arrived := some .bwaitOver } else f
    else f
  | _ => f

/-- 13 R300: the fragments of a warp that wait in BWAIT on an object learn of its new value. -/
def Warp.tell (off : Nat) (b : Bar) (y : Warp) : Warp :=
  { y with slot0 := y.slot0.map (Frag.tell off b), slot1 := y.slot1.map (Frag.tell off b),
           kept := y.kept.map (fun k => { k with frag := k.frag.tell off b }) }

/-- 13 R299, R300: the device writes the object at an offset of a group's region. -/
def Group.setBar (g : Group) (off : Nat) (b : Bar) : Group :=
  { g with spad := Memory.wr g.spad off 16 b.val, warps := g.warps.map (Warp.tell off b) }

/-- 12 R286, 13 R299: counted bytes are added to an object; a negative number is given modulo 2^64. -/
def Group.barAdd (g : Group) (off n : Nat) : Group :=
  let b := g.bar off
  if b.broken then g else g.setBar off { b with pendb := (b.pendb + n) % 2 ^ 64 }.complete

/-- 12 R286: n counted bytes have landed. -/
def Group.barLand (g : Group) (off n : Nat) : Group := g.barAdd off (2 ^ 64 - n % 2 ^ 64)

/-- 13 R300: a counting copy ends FAILED or CANCELLED. -/
def Group.barBreak (g : Group) (off ident : Nat) : Group :=
  let b := g.bar off
  if b.broken then g else g.setBar off { b with broken := true, pendb := ident }

/-! ## The end of a copy (12 R284, R292) -/

/-- 12 R285: one copy fewer has bytes to land in a scratchpad line. -/
def Group.present (g : Group) (line : Nat) : Group :=
  { g with absent := (tput g.absent line (tgetD g.absent line 0 - 1)).filter (fun e => e.2 != 0) }

/-- 12 R295: quadrant of an engine key (16 x quadrant + engine). -/
def identQuad (i : DWord) : Nat := bits i 57 54

/-- 12 R284: bytes that a copy has sent to another node are not yet answered. -/
def State.copySends (s : State) (id : Nat) : Bool := s.remotes.any (fun e => decide (e.2.copy = some id))

/-- 12 R284, R292: a copy ends in a state; a FAILED one with its cause and the address it met. One that has sent bytes to another node stops, and ends
when those are answered. -/
def State.endCopy (s : State) (id : Nat) (st : CopyState) (cause addr : Nat) : State :=
  match tget s.copies id with
  | none => s
  | some c =>
    if (c.st = .running ∨ c.st = .parked) ∧ s.copySends id then
      { s with copies := tput s.copies id { c with stop := some (c.stop.getD (st, cause, addr)) } }
    else if c.st = .running ∨ c.st = .parked then
      let ok := decide (st = .done)
      let f := fun (g : Group) =>
        let g1 := c.lines.foldl Group.present g
        let g2 := match c.bar with
          | none => g1
          | some b => if ok then g1.barLand b c.barLeft else g1.barBreak b c.ident.toNat
        match c.kind with
        | .cpyf k n =>
          { g2 with fifos := g2.fifos.set k (g2.fifos[k].map (fun q =>
              { q with slabs := q.slabs.map (fun x => if x.id = n then { x with failed := !ok } else x) })) }
        | _ => g2
      let s1 := s.modGroup c.g f
      let s2 := s1.modWarp c.g c.w (fun w =>
        { w with copyN := w.copyN - 1, ecopy := if st = .failed then w.ecopy + 1 else w.ecopy })
      let c' : Copy :=
        { c with st := st, cause := if st = .failed then cause else 0, lines := [], locks := [], route := [], barLeft := 0, released := true }
      let s3 : State := { s2 with copies := tput s2.copies id c' }
      if st = .failed then s3.log (cfin c.ctx) cause 1 0 (quadLoc (identQuad c.ident)) addr c.ident.toNat 0 else s3
    else s

/-- 12 R284: a copy that has stopped ends when the last of its bytes is answered. -/
def State.copyAnswered (s : State) (id : Nat) : State :=
  match (tget s.copies id).bind (·.stop) with
  | some (st, cause, addr) => s.endCopy id st cause addr
  | none => s

/-- Cancels every copy that meets a condition (12 R292). -/
def State.cancelCopies (s : State) (p : Copy → Bool) : State :=
  s.copies.foldl (fun t e => if p e.2 then t.endCopy e.1 .cancelled 0 0 else t) s

end Sys2Proof.Machine
end

