-- ==== Sys2Proof/Machine/Cache.lean ====
section
/-! DEFINITION. Pointers with their tags, and the lines that the L1 of a core holds and gives up (15 R347, R356; 14 R322, R323, R340; 16 R371).
An L1 line holds the bytes it was filled with. -/

namespace Sys2Proof.Machine

/-! ## Pointers (15 R347, R356) -/

/-- 15 R356: some granule that n bytes touch has another tag. -/
def State.tagMiss (s : State) (pa n : Nat) (tag : Nat) : Bool :=
  (List.range ((pa + n - 1) / 32 - pa / 32 + 1)).any (fun i => s.tag (localPart pa / 32 * 32 + 32 * i) != tag)

/-- 15 R347, R356, 19 R435: where n bytes at a pointer lie, its tag checked on a page with TE; what is read must be good data. -/
def State.ptrTo (s : State) (core : Nat) (c : Fin 64) (user : Bool) (p n : Nat) (write : Bool) : Xlat :=
  if 2 ^ 60 ≤ p then .fail cPGPROT
  else match s.xlateCore core c (p % 2 ^ 56) write user with
    | .ok pa e =>
      if (leafOf e).te && s.tagMiss pa n (p / 2 ^ 56) then .fail cTAGMIS else if !write && s.engBad pa n then .fail cUNCORR else .ok pa e
    | x => x

/-! ## L1 (16 R371, 14 R322) -/

/-- The core of a key. -/
def State.coreAt (s : State) (c : Nat) : Core := tgetD s.cores c .idle

/-- Changes a core. -/
def State.modCore (s : State) (c : Nat) (f : Core → Core) : State := { s with cores := tput s.cores c (f (s.coreAt c)) }

/-- 16 R371: the set of a line. -/
def l1Set (a : Nat) : Nat := a / 128 % 128

/-- The L1 line that holds an address. -/
def Core.l1Find (c : Core) (pa : Nat) : Option L1Line := c.l1.find? (fun l => l.addr == pa / 128 * 128)

/-- Drops the L1 lines that hold some of n bytes. -/
def Core.l1Drop (c : Core) (pa n : Nat) : Core :=
  { c with l1 := c.l1.filter (fun l => !(decide (l.addr < pa + n) && decide (pa < l.addr + 128))) }

/-- The counted line with the smallest count, lowest way first. -/
def leastCounted : List L1Line → Option L1Line
  | [] => none
  | l :: r => match leastCounted r with
    | none => if l.count.isSome then some l else none
    | some m => match l.count with
      | none => some m
      | some k => if k < m.count.getD 0 ∨ (k = m.count.getD 0 ∧ l.way < m.way) then some l else some m

/-- 16 R371: the way a new line takes and the round-robin pointer after it. -/
def Core.l1Way (c : Core) (set : Nat) : Nat × Nat :=
  let ls := c.l1.filter (fun l => l1Set l.addr == set)
  let ptr := tgetD c.rr set 0
  match (List.range 8).find? (fun w => !ls.any (fun l => l.way == w)) with
  | some w => (w, ptr)
  | none => match leastCounted ls with
    | some l => (l.way, ptr)
    | none => (ptr % 8, (ptr + 1) % 8)

/-- 16 R371: fills a line. -/
def Core.l1Fill (c : Core) (a : Nat) (data : List Byte) (count : Option Nat) : Core :=
  let (w, ptr) := c.l1Way (l1Set a)
  { c with l1 := c.l1.filter (fun l => !(l1Set l.addr == l1Set a && l.way == w)) ++ [{ addr := a, way := w, data := data, count := count }],
           rr := if ptr = 0 then tdel c.rr (l1Set a) else tput c.rr (l1Set a) ptr }

/-- 14 R322: a served read of a line counts once; a line whose count reaches 0 invalidates itself. -/
def Core.l1Count (c : Core) (a : Nat) : Core :=
  { c with l1 := c.l1.filterMap (fun l =>
      if l.addr = a then match l.count with
        | some 1 => none
        | some k => some { l with count := some (k - 1) }
        | none => some l
      else some l) }

/-- 16 R371, 14 R323: a store updates the L1 copy it hits and clears its count, or a sub-byte store drops it. -/
def Core.l1Store (c : Core) (pa : Nat) (bytes : List Byte) (sub : Bool) : Core :=
  if sub then c.l1Drop pa bytes.length
  else
    { c with l1 := c.l1.map (fun l =>
        if l.addr ≤ pa ∧ pa < l.addr + 128 then
          { l with count := none,
                   data := l.data.zipIdx.map (fun (b, i) =>
                     if pa - l.addr ≤ i ∧ i < pa - l.addr + bytes.length then bytes.getD (i - (pa - l.addr)) b else b) }
        else l) }

/-- 01 R23, 14 R340: an acquire wider than CORE discards a core's L1. -/
def State.acquire (s : State) (core scope : Nat) : State :=
  if 3 ≤ scope ∧ !(s.coreAt core).l1.isEmpty then s.modCore core (fun c => { c with l1 := [] }) else s

/-- Writes bytes at their home for an instruction of a core, whose own L1 copy goes. -/
def State.homeWrite (s : State) (core pa : Nat) (b : List Byte) : State :=
  let s1 := s.engPutBytes pa b
  if (s1.coreAt core).l1.isEmpty then s1 else s1.modCore core (fun c => c.l1Drop pa b.length)

/-- Bytes that an engine or another core writes leave stale copies where R340 allows them; those of the module's own L1s named
by a rule are dropped with this. -/
def State.l1DropAll (s : State) (cores : Nat → Bool) (pa n : Nat) : State :=
  { s with cores := s.cores.map (fun e => if cores e.1 then (e.1, e.2.l1Drop pa n) else e) }

end Sys2Proof.Machine
end

