-- ==== Sys2Proof/Machine/Ends.lean ====
section
/-! DEFINITION. Barriers of groups and clusters settling, and the ends of warps, groups, launches and contexts
(13 R304, R305; 08 R163, R164; 07 R140 to R142; 05 R101). -/

namespace Sys2Proof.Machine

/-! ## GSYNC and CSYNC (13 R303 to R305) -/

/-- The warps of a group that have not exited. -/
def Group.alive (g : Group) : List Warp := g.warps.filter (fun w => decide (w.sched ≠ .exited))

/-- The least of some counts, none for no counts. -/
def leastOf : List Nat → Option Nat
  | [] => none
  | x :: r => match leastOf r with
    | none => some x
    | some y => some (min x y)

/-- 13 R304: the GSYNC count that every warp of the group has reached. -/
def Group.gsyncLeast (g : Group) : Option Nat := leastOf (g.alive.map (·.gsyncN))

/-- 13 R305: the group's CSYNC count. -/
def Group.csyncLeast (g : Group) : Option Nat := leastOf (g.alive.map (·.csyncN))

/-- 13 R304: swaps the banks once for each count that every warp has now reached. -/
def Group.gsyncSettle (g : Group) : Group :=
  match g.gsyncLeast with
  | none => g
  | some k => if g.gswaps < k then { g with live1 := xor g.live1 (decide ((k - g.gswaps) % 2 = 1)), gswaps := k } else g

/-- The group holds a place on its core. -/
def Group.onCore (g : Group) : Bool :=
  decide (g.st = .placing) || decide (g.st = .resident) || decide (g.st = .preempting) || decide (g.st = .restoring)

/-- 13 R305: the group is a member of the cluster of a quadrant (0 to 15). -/
def Group.inCluster (g : Group) (launch phase q : Nat) : Bool :=
  decide (g.launch = launch) && decide (g.phase = phase) &&
  (if g.onCore then decide (g.core.map coreQuad = some q)
   else decide (g.st = .saved) && decide (g.lastQuad = some q))

/-- 13 R305: the highest count a cluster has completed. -/
def State.clusterDone (s : State) (launch phase q : Nat) : Nat :=
  match s.clusters.find? (fun e => decide (e.1 = launch) && decide (e.2.1 = phase) && decide (e.2.2.1 = q)) with
  | some e => e.2.2.2
  | none => 0

/-- 13 R305: a group's banks swap for a count, unless they have already. -/
def Group.csyncSwap (k : Nat) (g : Group) : Group := if g.cswaps < k then { g with live1 := !g.live1, cswaps := k } else g

/-- 13 R305: completes the counts of a cluster that every member has reached. -/
def State.clusterStep (s : State) (launch phase q : Nat) : State :=
  let ms := s.groups.filter (fun e => e.2.inCluster launch phase q)
  let k := s.clusterDone launch phase q + 1
  match leastOf (ms.filterMap (fun e => e.2.csyncLeast)) with
  | none => s
  | some m =>
    if k ≤ m then
      let swaps := fun (g : Group) => (List.range (m + 1 - k)).foldl (fun g i => g.csyncSwap (k + i)) g
      { s with groups := s.groups.map (fun e => (e.1, if e.2.inCluster launch phase q then swaps e.2 else e.2)),
               clusters := s.clusters.filter (fun e => !(decide (e.1 = launch) && decide (e.2.1 = phase) && decide (e.2.2.1 = q))) ++
                 [(launch, phase, q, m)] }
    else s

/-- 13 R305: a group's banks swap once for each count up to one that they have not swapped for. -/
def Group.csyncUpTo (m : Nat) (g : Group) : Group := (List.range (m - g.cswaps)).foldl (fun h i => h.csyncSwap (g.cswaps + 1 + i)) g

/-- 13 R305: a group that has reached counts which its cluster has already completed is released at each of them and swaps once for each. -/
def State.joinSettle (s : State) (g : Nat) : State :=
  match s.group g with
  | none => s
  | some x =>
    match x.csyncLeast, x.core.map coreQuad with
    | some k, some q => s.modGroup g (Group.csyncUpTo (min k (s.clusterDone x.launch x.phase q)))
    | _, _ => s

/-- 13 R304, R305: what the counts of a group, changed by an arrival, an exit or a move, complete. -/
def State.settleSync (s : State) (g : Nat) : State :=
  let s1 := s.modGroup g Group.gsyncSettle
  match s1.group g with
  | none => s1
  | some x =>
    let s2 := s1.joinSettle g
    match (if x.onCore then x.core.map coreQuad else x.lastQuad) with
    | none => s2
    | some q => s2.clusterStep x.launch x.phase q

/-! ## The end of a warp (08 R158, R164; 06 R122; 10 R229; 17 R389) -/

/-- 10 R228: blocks at some addresses are given back; the Hod marks them free at HEAPMETA when it serves its next request. -/
def Ctx.takeBack (c : Ctx) (l : List Nat) : Ctx :=
  { c with blocks := c.blocks.filter (fun b => !l.contains b.1), heapDue := c.heapDue ++ c.blocks.filter (fun b => l.contains b.1) }

/-- 10 R229: the Hod frees the blocks that a warp's number registers own. -/
def Ctx.freeBlocks (c : Ctx) (w : Warp) : Ctx := c.takeBack (w.n.toList.filterMap (fun r => r.own.map (·.1)))

/-- The Hod takes blocks back. -/
def Ctx.giveBack (c : Ctx) (l : List (Nat × Nat)) : Ctx := if l.isEmpty then c else c.takeBack (l.map (·.1))

/-- 10 R228, R231: blocks that no number register owns and that go with some warps: those the Hod has answered with, and those that wait for the
end of a replacing instruction. -/
def State.looseBlocks (s : State) (mine : Nat → Nat → Bool) : List (Nat × Nat) :=
  s.hods.filterMap (fun e => if mine e.2.g e.2.w then e.2.answer.bind id else none) ++
  s.numops.filterMap (fun e => if mine e.2.g e.2.w then e.2.freeOld else none) ++
  (s.groups.map (fun e => e.2.tops.filterMap (fun o => match o.kind with
    | .cres w _ _ _ old => if mine e.1 w then old else none
    | _ => none))).flatten

/-- A memory instruction of a killed warp: what was accepted to be written is still written, on its way to another die too; what is parked and
the destination are gone (03 R65, 07 R142). -/
def MemOp.orphan (m : MemOp) (sent : Nat → Bool) : Option MemOp :=
  if m.failed || m.landed then none
  else match m.kind with
  | .store | .spk | .tagst | .atomic _ =>
    let l := m.lanes.filter (fun l => match l.st with
      | .todo => true
      | .remote tag => sent tag
      | _ => false)
    if l.isEmpty then none else some { m with dst := .none, lanes := l }
  | _ => none

/-- 03 R65, 10 R231: the producers of a warp are discarded. -/
def State.discard (s : State) (g w : Nat) : State :=
  let mine := fun (a b : Nat) => decide (a = g) && decide (b = w)
  let sent := fun (tag : Nat) => (tget s.remotes tag).any (fun r => r.inside.isSome)
  { s with memops := s.memops.filterMap (fun e => if mine e.2.g e.2.w then (e.2.orphan sent).map (fun m => (e.1, m)) else some e),
           numops := s.numops.filter (fun e => !mine e.2.g e.2.w),
           hods := s.hods.filter (fun e => !mine e.2.g e.2.w),
           binds := s.binds.map (fun e => (e.1, { e.2 with takers := e.2.takers.filter (fun t => !mine t.g t.w) })),
           reds := s.reds.map (fun e => (e.1, { e.2 with waiters := e.2.waiters.filter (fun t => !mine t.1 t.2.1) })) }

/-- A warp that has exited (08 R164); its registers keep their last values and count for nothing. -/
def Warp.ended (w : Warp) : Warp :=
  { w with slot0 := none, slot1 := none, stack := [], joins := Vector.replicate 16 .free, attach := [],
           qmap := Vector.replicate 4 none, n := w.n.map (fun r => { r with own := none }), sched := .exited, intrap := false,
           plvl := 0, kept := none, due := [], held := none, laneReads := [] }

/-- Removes the engine-queue entries of operations that are no longer pending (11 R257). -/
def State.trimEngine (s : State) : State :=
  let keep := fun (e : EngineEntry) => match e with
    | .tile g id => (match s.group g with
      | some x => x.tops.any (fun o => decide (o.id = id))
      | none => false)
    | .band id => (tget s.numops id).isSome
  { s with cores := s.cores.map (fun e => (e.1, { e.2 with engine := e.2.engine.filter keep })) }

/-- 08 R164: a warp exits or is killed; `cause` goes to its record, `abort` when its launch or context ended. -/
def State.endWarp (s : State) (g w cause : Nat) (abort : Bool) : State :=
  match s.group g, s.warp g w with
  | some x, some y =>
    if y.sched = .exited then s
    else
      let c := cfin x.ctx
      let s1 := match y.held with
        | some h => s.returnRec h cause abort
        | none => s
      let s2 := y.attach.foldl (fun t q => t.owe c (.detach q.toNat g w)) s1
      let loose := s2.looseBlocks (fun a b => decide (a = g) && decide (b = w))
      let s3 := (s2.modCtx c (fun k => (k.freeBlocks y).giveBack loose)).discard g w
      ((s3.modWarp g w Warp.ended).modGroup g (fun z => { z with aopens := z.aopens.filter (fun r => r.w != w) })).trimEngine.settleSync g
  | _, _ => s

/-! ## The end of a group (08 R163, 11 R274) -/

/-- 03 R72: the scratchpad footprint of a schedule. -/
def Schedule.footprint (x : Schedule) : Nat := x.spad + 2 * x.exch + x.warps * x.numarea * 1024

/-- 08 R147: the bytes of a save image. -/
def Schedule.img (x : Schedule) : Nat := 8192 + x.warps * 98304 + x.footprint + 458752

/-- The operation is an ADRAIN. -/
def TileOp.isDrain (o : TileOp) : Bool := match o.kind with
  | .adrain _ => true
  | _ => false

/-- 11 R274: what stands before the last ADRAIN of a tile order, the ADRAIN included. -/
def keepDrains : List TileOp → List TileOp
  | [] => []
  | o :: r => if o.isDrain || r.any TileOp.isDrain then o :: keepDrains r else []

/-- 11 R274: the tiles and FIFOs of a group that has ended are given up. -/
def Group.dropTiles (g : Group) : Group :=
  { g with tiles := Vector.replicate 8 .closed, tops := [], fifos := Vector.replicate 4 none, aopens := [], core := none }

/-- 08 R147, R163: the image of a group is free again. -/
def State.freeImage (s : State) (g : Nat) : State :=
  match s.group g with
  | none => s
  | some x =>
    if x.imaged then
      (s.modGroup g (fun y => { y with imaged := false, imgAt := [], image := [] })).modCtx (cfin x.ctx) (fun c => { c with imaged := c.imaged - x.sched.img })
    else s

/-- 07 R141: a RUNNING launch whose groups have all ended is DRAINING. -/
def State.drainCheck (s : State) (l : Nat) : State :=
  match tget s.launches l with
  | none => s
  | some x =>
    let allOver := s.groups.all (fun e =>
      !(decide (e.2.launch = l) && decide (e.2.phase = x.phase)) || decide (e.2.st = .exited) || decide (e.2.st = .killed))
    if x.st = .running ∧ allOver then { s with launches := tput s.launches l { x with st := .draining } } else s

/-- 08 R163: a group whose last warp has exited is EXITED (11 R274). -/
def State.exitGroup (s : State) (g : Nat) : State :=
  match s.group g with
  | none => s
  | some x =>
    if x.alive.isEmpty ∧ (x.st = .resident ∨ x.st = .preempting) then
      let s1 := (s.freeImage g).modGroup g (fun y =>
        let z : Group := { y with st := .exited, lastQuad := y.core.map coreQuad, tops := keepDrains y.tops }
        if z.tops.isEmpty then z.dropTiles else z)
      let s2 := s1.trimEngine
      let s3 := match x.core.map coreQuad with
        | some q => s2.clusterStep x.launch x.phase q
        | none => s2
      s3.drainCheck x.launch
    else s

/-- 12 R278: an end of a copy lies in the issuing group's scratchpad. -/
def Copy.touchesGroup (c : Copy) : Bool :=
  c.p0.getLsbD 63 || (match c.kind with
    | .cpyf _ _ => true
    | .adrain => true
    | _ => c.p1.getLsbD 63) || c.bar.isSome

/-- 08 R163: a group is KILLED: its warps end, its producers are discarded, its copies with an end in it are cancelled. -/
def State.killGroup (s : State) (g cause : Nat) (abort : Bool) : State :=
  match s.group g with
  | none => s
  | some x =>
    if x.st = .exited ∨ x.st = .killed then s
    else
      let s1 := s.cancelCopies (fun c => decide (c.g = g) && c.touchesGroup)
      let s2 := (List.range x.warps.length).foldl (fun t w => t.endWarp g w cause abort) s1
      let s3 := (s2.freeImage g).modGroup g (fun y => { (y.dropTiles) with st := .killed, lastQuad := none })
      let s4 := s3.trimEngine
      let s5 := match (if x.onCore then x.core.map coreQuad else x.lastQuad) with
        | some q => s4.clusterStep x.launch x.phase q
        | none => s4
      s5.drainCheck x.launch

/-! ## The end of a launch and of a context (07 R141, R142; 05 R101) -/

/-- The launch is admitted and has not ended. -/
def Launch.live (l : Launch) : Bool := decide (l.st ≠ .done) && decide (l.st ≠ .aborted)

/-- 05 R101: a RUNNING context with nothing resident, waiting or saved and no admitted launch is READY. -/
def State.idleCheck (s : State) (c : Fin 64) : State :=
  if s.ctxs[c].st = .running ∧
     s.groups.all (fun e => !(decide (cfin e.2.ctx = c)) || decide (e.2.st = .exited) || decide (e.2.st = .killed)) ∧
     s.launches.all (fun e => !(decide (cfin e.2.k.ctx = c)) || !e.2.live) then s.setCtx c .ready
  else s

/-- 06 R117: the completion signal of a launch, or the fault-log entry for a signal beyond the CB region. -/
def State.complete (s : State) (k : Kernel) (v : Nat) : State :=
  match k.done with
  | none => s
  | some i =>
    let c := cfin k.ctx
    let x := s.ctxs[c]
    if x.cblimit < 8 * i + 8 then s.log c cPGPROT 7 0 0 (x.cb + 8 * i) 0 0 else s.owe c (.signal (x.cb + 8 * i) v)

/-- 07 R141: a launch ends in a state, with its completion add; bindings end and open reductions are discarded. -/
def State.endLaunch (s : State) (l : Nat) (st : LaunchState) (signal : Bool) : State :=
  match tget s.launches l with
  | none => s
  | some x =>
    let s1 := s.endBinds l
    let s2 : State :=
      { s1 with launches := tput s1.launches l { x with st := st }, reds := s1.reds.filter (fun e => decide (e.2.launch ≠ l)) }
    if signal then s2.complete x.k (if st = .done then 1 else 2 ^ 63 + 1) else s2

/-- The launch of a copy's issuing group. -/
def State.copyLaunch (s : State) (c : Copy) : Option Nat := (s.group c.g).map (·.launch)

/-- A group belongs to a launch. -/
def State.inLaunch (s : State) (l g : Nat) : Bool := decide ((s.group g).map (·.launch) = some l)

/-- 06 R117, 07 R141: writes of a launch's groups that memory has accepted have still to be performed: stores of this module, requests to other
nodes, exchange stores, a copy's bytes, and the Draught's and the detaches that are due. -/
def State.writesDue (s : State) (l : Nat) (c : Fin 64) : Bool :=
  s.memops.any (fun e => s.inLaunch l e.2.g && (match e.2.kind with
    | .store => true
    | .spk => true
    | .tagst => true
    | .atomic _ => true
    | _ => false)) ||
  s.remotes.any (fun e => s.inLaunch l e.2.g) || s.exchs.any (fun e => s.inLaunch l e.2.g) ||
  s.ctxs[c].owed.any (fun o => match o with
    | .slot _ _ _ _ => true
    | .detach _ g _ => s.inLaunch l g
    | _ => false)

/-- 07 R142: a launch is aborted by its context: groups killed, copies cancelled; DESTROY writes no completion. Its completion waits, the launch
DRAINING, for the writes that memory has accepted (06 R117). -/
def State.abortLaunch (s : State) (l : Nat) (signal : Bool) : State :=
  match tget s.launches l with
  | none => s
  | some x =>
    if x.live then
      let s1 := s.groups.foldl (fun t e => if e.2.launch = l then t.killGroup e.1 0 true else t) s
      let s2 := s1.cancelCopies (fun c => decide (s1.copyLaunch c = some l))
      if signal && s2.writesDue l (cfin x.k.ctx) then
        { (s2.endBinds l) with launches := tput (s2.endBinds l).launches l { x with st := .draining, killed := true } }
      else s2.endLaunch l .aborted signal
    else s

/-- 07 R133: LOADED kernels of a context's queues are discarded. -/
def State.discardLoaded (s : State) (c : Fin 64) : State :=
  { s with queues := s.queues.map (fun q => if cfin q.ctx = c ∧ q.st ≠ .unbound then { q with loaded := none } else q) }

/-- 05 R102: the Draught, the copies, the Hod and the Bellows of a context run. -/
def CtxState.works (st : CtxState) : Bool := decide (st = .ready) || decide (st = .running)

/-- 05 R101: an action of a context that its state admits. -/
def CtxState.runs (st : CtxState) : Bool := decide (st = .ready) || decide (st = .running) || decide (st = .suspended)

/-- The writes that are due are performed, whatever becomes of the log. -/
def State.paid (s : State) (c : Fin 64) : State := (State.payAll (4 * s.ctxs[c].owed.length + 16) s c).1

/-- 06 R120: a context that faults puts its queues in ERROR; one that is in ERROR keeps its cause. -/
def Queue.ctxFault (q : Queue) : Queue := if q.st = .unbound ∨ q.st = .error then q else q.fail 8

/-- 05 R101, R104: the context becomes FAULTED with a cause that a request of a node has met, or 0: launches end, copies are cancelled, queues go to
ERROR, and the entry and the notification word are written. A walk for which PTROOT names no table in device memory has faulted on the
descriptor: PGPROT, SOURCE 7 (R99). -/
def State.faultFrom (s : State) (node : Nat) (c : Fin 64) (cause source unit addr ref mask : Nat) : State :=
  if s.ctxs[c].st.runs then
    let root := decide (cause = cUNCORR) && !s.tableOk s.ctxs[c].ptroot
    let s1 := (s.modCtx c (fun y => { y with suspending := false })).setCtx c .faulted
    let s2 := s1.launches.foldl (fun t e => if cfin e.2.k.ctx = c then t.abortLaunch e.1 true else t) s1
    let s3 := s2.cancelCopies (fun x => decide (cfin x.ctx = c))
    let s4 : State := { s3 with queues := s3.queues.map (fun q => if cfin q.ctx = c then q.ctxFault else q) }
    (s4.log c (if root then cPGPROT else cause) (if root then 7 else source) (if root then 0 else node) unit addr ref mask).paid c
  else s

/-- 05 R101: the context becomes FAULTED with a cause that no other node has to do with. -/
def State.faultContext (s : State) (c : Fin 64) (cause source unit addr ref mask : Nat) : State := s.faultFrom 0 c cause source unit addr ref mask

/-- 05 R99, R101, R104: performs the writes that are due to a context; a fatal fault of the log, and uncorrectable page tables, move the context to
FAULTED. -/
def State.flush (s : State) (c : Fin 64) : State :=
  match State.payAll (4 * s.ctxs[c].owed.length + 16) s c with
  | (t, none) => t
  | (t, some k) => (t.faultContext c k.cause k.source k.unit k.addr k.ref 0).paid c

/-- 05 R103: a context whose groups are all saved becomes SUSPENDED. -/
def State.suspendCheck (s : State) (c : Fin 64) : State :=
  if s.ctxs[c].suspending ∧
     s.groups.all (fun e => !(decide (cfin e.2.ctx = c)) || !e.2.onCore) then
    (s.modCtx c (fun y => { y with suspending := false })).setCtx c .suspended
  else s

end Sys2Proof.Machine
end

