-- ==== Sys2Proof/Machine/Pack.lean ====
section
/-! DEFINITION. How the spill engine and a save store a vector register: the tags, the stored bytes, and the way back (08 R161). -/

namespace Sys2Proof.Machine

/-- The n low bytes of a word, lowest first. -/
def wordBytes (n : Nat) (w : Word) : List Byte := (List.range n).map (fun i => BitVec.ofNat 8 (w.toNat / 256 ^ i))

/-- The word that some bytes, lowest first, stand for. -/
def bytesWord (l : List Byte) : Word := BitVec.ofNat 32 (l.zipIdx.foldl (fun n e => n + e.1.toNat * 256 ^ e.2) 0)

/-- A lane sign-extends from its n low bits. -/
def narrowTo (n : Nat) (w : Word) : Bool := decide ((w.setWidth n).signExtend 32 = w)

/-- 08 R161: the tags in the order in which they are tried; the code of each is its number there. -/
inductive RegTag where
  /-- 1: every lane equal -/
  | uniform
  /-- 2: lane i = base + i x stride -/
  | affine
  /-- 3: every lane sign-extends from 8 bits -/
  | narrow8
  /-- 4: every lane sign-extends from 16 bits -/
  | narrow16
  /-- 0: otherwise -/
  | full
  deriving DecidableEq, Repr

/-- 08 R161: the code of a tag. -/
def RegTag.code : RegTag → Nat
  | .uniform => 1
  | .affine => 2
  | .narrow8 => 3
  | .narrow16 => 4
  | .full => 0

/-- 08 R161: the bytes stored under a tag. -/
def RegTag.size : RegTag → Nat
  | .uniform => 4
  | .affine => 8
  | .narrow8 => 32
  | .narrow16 => 64
  | .full => 128

/-- 08 R161: the lanes of a tag's form fit it. -/
def RegTag.fits (t : RegTag) (l : Lanes) : Bool := match t with
  | .uniform => (List.finRange 32).all (fun i => decide (l[i] = l[0]))
  | .affine => (List.finRange 32).all (fun i => decide (l[i] = l[0] + BitVec.ofNat 32 i.val * (l[1] - l[0])))
  | .narrow8 => (List.finRange 32).all (fun i => narrowTo 8 l[i])
  | .narrow16 => (List.finRange 32).all (fun i => narrowTo 16 l[i])
  | .full => true

/-- 08 R161: the first tag in order that fits all lanes. -/
def tagOf (l : Lanes) : RegTag := ([RegTag.uniform, .affine, .narrow8, .narrow16].find? (fun t => t.fits l)).getD .full

/-- 08 R161: the bytes that a tag stores of a register. -/
def RegTag.store (t : RegTag) (l : Lanes) : List Byte := match t with
  | .uniform => wordBytes 4 l[0]
  | .affine => wordBytes 4 l[0] ++ wordBytes 4 (l[1] - l[0])
  | .narrow8 => (l.toList.map (wordBytes 1)).flatten
  | .narrow16 => (l.toList.map (wordBytes 2)).flatten
  | .full => (l.toList.map (wordBytes 4)).flatten

/-- 08 R161: the lanes that a restore writes back from the bytes stored under a tag. -/
def RegTag.load (t : RegTag) (b : List Byte) : Lanes :=
  let at_ := fun (o n : Nat) => bytesWord ((b.drop o).take n)
  Vector.ofFn (fun i => match t with
    | .uniform => at_ 0 4
    | .affine => at_ 0 4 + BitVec.ofNat 32 i.val * at_ 4 4
    | .narrow8 => ((at_ i.val 1).setWidth 8).signExtend 32
    | .narrow16 => ((at_ (2 * i.val) 2).setWidth 16).signExtend 32
    | .full => at_ (4 * i.val) 4)

/-- 08 R161: a register as the spill engine packs it: the code of its tag and the bytes stored. -/
def packReg (l : Lanes) : Nat × List Byte := ((tagOf l).code, (tagOf l).store l)

end Sys2Proof.Machine
end

