-- ==== Sys2Proof/Machine/Ops.lean ====
section
/-! DEFINITION. The shared operations over a warp: fragments, windows and the spill engine (08 R155 to R162), taking a trap and
returning from one (19 R427 to R432), and the issue of one instruction (08 R148 to R150, 03 R63). -/

namespace Sys2Proof.Machine

/-! ## Cause codes (19 R433) -/

/-- ILLOP -/
def cILLOP : Nat := 0x01
/-- ILLOPND -/
def cILLOPND : Nat := 0x02
/-- ILLTYPE -/
def cILLTYPE : Nat := 0x03
/-- IDXBOUND -/
def cIDXBOUND : Nat := 0x04
/-- EMPTY -/
def cEMPTY : Nat := 0x05
/-- ORPHAN -/
def cORPHAN : Nat := 0x06
/-- ALIGN -/
def cALIGN : Nat := 0x0B
/-- DIVZERO -/
def cDIVZERO : Nat := 0x0C
/-- HEAPFULL -/
def cHEAPFULL : Nat := 0x0D
/-- BBROKEN -/
def cBBROKEN : Nat := 0x0E
/-- BADCOUNT -/
def cBADCOUNT : Nat := 0x0F
/-- RFAULT -/
def cRFAULT : Nat := 0x10
/-- RTIMEOUT -/
def cRTIMEOUT : Nat := 0x11
/-- XDEAD -/
def cXDEAD : Nat := 0x12
/-- XMISS -/
def cXMISS : Nat := 0x13
/-- FSTACK -/
def cFSTACK : Nat := 0x14
/-- STAGEFX -/
def cSTAGEFX : Nat := 0x15
/-- QDRY -/
def cQDRY : Nat := 0x16
/-- ILLEXPR -/
def cILLEXPR : Nat := 0x18
/-- PRIV -/
def cPRIV : Nat := 0x19
/-- SWTRAP -/
def cSWTRAP : Nat := 0x1A
/-- BKPT -/
def cBKPT : Nat := 0x1B
/-- WINFULL -/
def cWINFULL : Nat := 0x1C
/-- LIMBOVF -/
def cLIMBOVF : Nat := 0x1D
/-- FIFOERR -/
def cFIFOERR : Nat := 0x1E

/-! ## Function header words (03 R73) -/

/-- WIN of a header word. -/
def hdrWin (w : Nat) : Nat := w / 2 ^ 21 % 128
/-- OVL of a header word. -/
def hdrOvl (w : Nat) : Nat := w / 2 ^ 16 % 32
/-- 03 R73: the word is a valid function header word. -/
def hdrOk (w : Nat) : Bool :=
  decide (w / 2 ^ 28 = 0xF) && decide (1 ≤ hdrWin w) && decide (hdrWin w ≤ 80) && decide (hdrOvl w ≤ 16) &&
    decide (hdrOvl w ≤ hdrWin w) && decide (w % 2 ^ 16 = 0)

/-! ## Slots, stack and windows of a warp -/

/-- The fragment in a slot (08 R155). -/
def Warp.slot (y : Warp) (b : Bool) : Option Frag := if b then y.slot1 else y.slot0

/-- Puts a fragment, or none, into a slot. -/
def Warp.setSlot (y : Warp) (b : Bool) (f : Option Frag) : Warp := if b then { y with slot1 := f } else { y with slot0 := f }

/-- The slot fragments. -/
def Warp.slots (y : Warp) : List Frag := y.slot0.toList ++ y.slot1.toList

/-- Fragments on the stack that may move into a slot: in a trap, those of the handler alone (19 R427). -/
def Warp.stacked (y : Warp) : Nat := match y.kept with
  | some k => y.stack.length - k.below
  | .none => y.stack.length

/-- 08 R155: the fragment on top of the stack moves into a free slot. -/
def Warp.refill (y : Warp) : Warp :=
  let go := fun (y : Warp) (b : Bool) => match y.slot b, y.stack with
    | .none, f :: r => if 0 < y.stacked then { (y.setSlot b (some f)) with stack := r } else y
    | _, _ => y
  go (go y false) true

/-- The window of a name. -/
def Warp.window (y : Warp) (id : Nat) : Option Window := y.wins.find? (fun w => w.id == id)

/-- A window of no register, for a name that is not there. -/
def Window.none : Window := { id := 0, depth := 0, regs := [], opened := 0, ret := 0, caller := .none, spilled := false, born := 0, packed := [] }

/-- A physical vector register; one that is not there reads as at warp start. -/
def Warp.vreg (y : Warp) (n : Nat) : VReg := tgetD y.phys n .zero

/-- Windows that a set of windows refers to through its links, itself included. -/
def Warp.reach (y : Warp) : Nat → List Nat → List Nat
  | 0, l => l
  | n + 1, l => y.reach n (l ++ (l.filterMap (fun i => (y.window i).bind (·.caller))).filter (fun i => !l.contains i))

/-- 08 R159: frees the windows to which no slot, stack entry, join entry or trap state refers. A register that an RDLANE in flight
reads stays until it has been read. -/
def Warp.freeWins (y : Warp) : Warp :=
  let kept := match y.kept with
    | some k => [k.frag.win, k.hwin]
    | .none => []
  let roots := (y.slots ++ y.stack).map (·.win) ++ ((y.joins.toList.filter (·.valid)).map (·.win)) ++ kept
  let live := y.reach y.wins.length roots
  let ws := y.wins.filter (fun w => live.contains w.id)
  let regs := (ws.map (·.regs)).flatten ++ (y.laneReads.map (·.regs)).flatten
  { y with wins := ws, phys := y.phys.filter (fun e => regs.contains e.1) }

/-- 08 R162: registers of the warp's windows. -/
def Warp.winRegs (y : Warp) : Nat := (y.wins.map (·.opened)).sum

/-- 08 R162: a window of `n` more registers keeps within the spill area. -/
def Warp.winFits (y : Warp) (n : Nat) : Bool := decide ((y.winRegs + n) * 128 + 16 * (y.wins.length + 1) ≤ 81920)

/-- 08 R159: opens, at a step, a window of `win` registers whose first `ovl` are the last of another window. Its depth may exceed 1023, the most
that the 10-bit WIN field of R155 holds: with OVL = WIN a CALL opens no register, R162 lets more windows stand, and the spec says nothing of what
WIN then holds (DESIGN CHOICE, log entry 58). -/
def Warp.openWin (y : Warp) (win ovl : Nat) (from_ : Option Window) (depth : Nat) (ret : DWord) (caller : Option Nat) (born : Nat) : Warp × Nat :=
  let shared := match from_ with
    | some c => c.regs.drop (c.regs.length - ovl)
    | .none => []
  let fresh := (List.range (win - ovl)).map (fun i => y.nextPhys + i)
  let w : Window :=
    { id := y.nextWin, depth := depth, regs := shared ++ fresh, opened := win - ovl, ret := ret, caller := caller, spilled := false, born := born,
      packed := [] }
  ({ y with wins := y.wins ++ [w], nextWin := y.nextWin + 1, nextPhys := y.nextPhys + (win - ovl),
            phys := y.phys ++ fresh.map (fun n => (n, VReg.zero)) }, y.nextWin)

/-! ## The register pool and the spill engine (08 R143, R160) -/

/-- Physical registers that a warp's windows hold. A register that a caller shares with its callee counts with the caller's window, which opened
it, and so not at all while that window is moved out: the spec does not say how it counts then (DESIGN CHOICE, log entry 58). -/
def Warp.regsHeld (y : Warp) : Nat :=
  if y.sched = .exited then 0 else ((y.wins.filter (fun w => !w.spilled)).map (·.opened)).sum

/-- The groups that hold a place on a core. -/
def State.onCore (s : State) (core : Nat) : List (Nat × Group) :=
  s.groups.filter (fun e => e.2.onCore && decide (e.2.core = some core))

/-- Physical registers in use on a core. -/
def State.regsUsed (s : State) (core : Nat) : Nat :=
  ((s.onCore core).map (fun e => (e.2.warps.map Warp.regsHeld).sum)).sum

/-- 08 R160: a window in the register file that no slot uses. -/
def Warp.movable (y : Warp) (w : Window) : Bool := !w.spilled && !(y.slots.any (fun f => f.win == w.id)) && decide (y.sched ≠ .exited)

/-- 08 R160: the registers of a window are all FULL or ORPHANED. -/
def Warp.winFilled (y : Warp) (w : Window) : Bool := w.regs.all (fun r => (y.vreg r).fill != .empty)

/-- 08 R160: a window that the spill engine may move now: no slot uses it and none of its registers is EMPTY. -/
def Warp.canSpill (y : Warp) (w : Window) : Bool := y.movable w && y.winFilled w

/-- 08 R160, R161: a window moved out, with the registers it opened packed, or brought back. Restoring writes back what was packed, and that is
what the registers hold. -/
def Warp.markWin (y : Warp) (id : Nat) (b : Bool) : Warp :=
  { y with wins := y.wins.map (fun w =>
      if w.id = id then
        { w with spilled := b,
                 packed := if b then (w.regs.drop (w.regs.length - w.opened)).map (fun r => packReg (y.vreg r).lanes) else [] }
      else w) }

/-- A window of a warp of a group that may be moved. -/
structure Movable where
  /-- the step at which it was opened -/
  born : Nat
  /-- group -/
  g : Nat
  /-- warp -/
  w : Nat
  /-- window -/
  id : Nat
  /-- registers that it gives back -/
  regs : Nat
  /-- none of its registers is EMPTY -/
  filled : Bool
  deriving DecidableEq, Repr

/-- Puts a window into a list that runs from old to young. -/
def insertOld (x : Movable) : List Movable → List Movable
  | [] => [x]
  | e :: r => if x.born < e.born then x :: e :: r else e :: insertOld x r

/-- Windows, oldest first. -/
def oldestFirst (l : List Movable) : List Movable := l.foldl (fun r x => insertOld x r) []

/-- The windows of a warp that may be moved. -/
def Warp.movables (y : Warp) (g w : Nat) : List Movable :=
  (y.wins.filter y.movable).map (fun q => { born := q.born, g := g, w := w, id := q.id, regs := q.opened, filled := y.winFilled q })

/-- 08 R160: what is moved to make room for a warp: its own windows, oldest first, then those of PENDING and PARKED warps, oldest first. -/
def State.spillList (s : State) (core g w : Nat) : List Movable :=
  let own := match s.warp g w with
    | some y => y.movables g w
    | .none => []
  let others := ((s.onCore core).map (fun e => (e.2.warps.zipIdx.map (fun (y, i) =>
    if (e.1 = g ∧ i = w) ∨ y.sched = .active ∨ y.sched = .exited then [] else y.movables e.1 i)).flatten)).flatten
  oldestFirst own ++ oldestFirst others

/-- 08 R160: moves windows out in their order until a number of registers is free; none when nothing more can be moved, or while the next
window has an EMPTY register. -/
def State.spillUntil (s : State) (core need : Nat) : List Movable → Option State
  | [] => if s.regsUsed core + need ≤ 1536 then some s else .none
  | e :: r =>
    if s.regsUsed core + need ≤ 1536 then some s
    else if e.filled then (s.modWarp e.g e.w (·.markWin e.id true)).spillUntil core need r else .none

/-- 08 R160: makes room for `need` registers of a warp. -/
def State.makeRoom (s : State) (core g w need : Nat) : Option State := s.spillUntil core need (s.spillList core g w)

/-! ## Scheduling states (08 R164) -/

/-- Changes the scheduling state of a warp and stamps it. -/
def State.setSched (s : State) (g w : Nat) (x : Sched) : State :=
  { (s.modWarp g w (fun y => if y.sched = x then y else { y with sched := x, since := s.uid })) with uid := s.uid + 1 }

/-- The fragment waits on one of the events of 08 R150. -/
def Frag.parks (f : Frag) : Bool := match f.status with
  | .blocked p => p
  | .ready => false

/-- The slot fragments that may issue: in a trap, those of the handler alone (19 R427). -/
def Warp.running (y : Warp) : List Frag := match y.kept with
  | some k => if k.other then (y.slot k.slot).toList else y.slots
  | .none => y.slots

/-- 08 R150, R164: an ACTIVE or INTRAP warp whose running fragments all wait on long-latency events is PARKED. -/
def State.parkCheck (s : State) (g w : Nat) : State :=
  match s.warp g w with
  | some y => if y.sched = .active ∧ !y.running.isEmpty ∧ y.running.all Frag.parks then s.setSched g w .parked else s
  | .none => s

/-- 03 R62, 14 R319: registers that a memory instruction's failed lanes hold become FULL, unless another instruction claims them. -/
def State.release (s : State) (g w : Nat) (d : Dest) : State :=
  let claimed := s.memops.any (fun e => decide (e.2.g = g) && decide (e.2.w = w) && decide (e.2.dst = d))
  if claimed then s
  else match d with
    | .none => s
    | .s i => s.modWarp g w (fun y => { y with s := y.s.set i { y.s[i] with fill := .full } })
    | .v l => s.modWarp g w (fun y => { y with phys := l.foldl (fun p n => tmod p n (fun r => { r with fill := .full })) y.phys })

/-- 19 R432, 03 R65: a fragment's share of the failed lanes of the instruction at an address gives up its claim. -/
def State.dropFailed (s : State) (g w : Nat) (pc : DWord) (lanes : Word) : State :=
  let mine := fun (m : MemOp) => m.failed && decide (m.g = g) && decide (m.w = w) && decide (m.pc = pc) && decide (m.mask &&& lanes ≠ 0)
  let dsts := (s.memops.filter (fun e => mine e.2)).map (fun e => e.2.dst)
  let s1 : State := { s with memops := s.memops.filterMap (fun e =>
    if mine e.2 then
      if e.2.mask &&& ~~~lanes = 0 then .none else some (e.1, { e.2 with mask := e.2.mask &&& ~~~lanes })
    else some e) }
  dsts.foldl (fun t d => t.release g w d) s1

/-! ## Taking a trap (19 R427 to R430) -/

/-- The context of a group. -/
def State.ctxOf (s : State) (g : Nat) : Fin 64 := match s.group g with
  | some x => cfin x.ctx
  | .none => 0

/-- 05 R109: HWLOC of a warp. -/
def State.hwlocOf (s : State) (g w : Nat) : Nat :=
  match s.group g, s.warp g w with
  | some x, some y => s.hwloc (x.core.getD 0) y.slotNo
  | _, _ => 0

/-- KIND code (19 R429). -/
def TrapKind.code : TrapKind → Nat
  | .issue => 0
  | .lane => 1
  | .software => 2

/-- 19 R430: the first pending trap whose fragment is in a slot, with its place in the list and the slot. -/
def Warp.takeable (y : Warp) : Option (Nat × Due × Bool × Frag) :=
  (y.due.zipIdx.filterMap (fun (d, i) =>
    match y.slot0.filter (fun f => decide (f.mask &&& d.lanes ≠ 0)), y.slot1.filter (fun f => decide (f.mask &&& d.lanes ≠ 0)) with
    | some f, _ => some (i, d, false, f)
    | .none, some f => some (i, d, true, f)
    | .none, .none => .none)).head?

/-- 14 R319: the least cause code among some lanes, and the lowest address that met it. -/
def leastCause : List LaneCause → Nat × Nat
  | [] => (0, 0)
  | [c] => (c.code, c.addr)
  | c :: r =>
    let (k, a) := leastCause r
    if c.code < k then (c.code, c.addr) else if c.code = k then (k, min c.addr a) else (k, a)

/-- 19 R427, R429, R430: the trap registers and the entry of a warp whose handler window has `win` registers. A warp at PL2 stays there (05 R106). -/
def Warp.enter (y : Warp) (i : Nat) (d : Due) (slot : Bool) (f : Frag) (win : Nat) (tvec born : Nat) : Warp :=
  let share := d.causes.filter (fun c => f.mask.getLsbD c.lane)
  let lane := decide (d.kind = .lane)
  let (code, addr) := if lane then leastCause share else (d.code, d.faddr.toNat)
  let fm := if lane then d.fmask &&& f.mask else d.fmask
  let rest : Due :=
    { d with fmask := d.fmask &&& ~~~f.mask, lanes := d.lanes &&& ~~~f.mask, causes := d.causes.filter (fun c => !f.mask.getLsbD c.lane) }
  let due := if lane ∧ rest.lanes ≠ 0 then y.due.set i rest else y.due.eraseIdx i
  let depth := ((y.window f.win).map (·.depth)).getD 0
  let (y1, id) := y.openWin win 0 .none (depth + 1) 0 .none born
  let h : Frag :=
    { pc := BitVec.ofNat 64 tvec, mask := f.mask, join := .none, win := id, status := .ready, replays := [], retry := [],
      arrived := .none, nowait := .none }
  { (y1.setSlot slot (some h)) with
    trap := { cause := BitVec.ofNat 32 (b2n slot * 2 ^ 16 + d.kind.code * 2 ^ 8 + code % 256), fpc := d.fpc,
              faddr := BitVec.ofNat 64 addr, fmask := fm },
    causes := if lane then share else [{ lane := 0, code := code, addr := addr, write := true }],
    kept := some { frag := f, slot := slot, hwin := id, kind := d.kind, other := (y.slot (!slot)).isSome, below := y.stack.length },
    due := due, intrap := true, plvl := if y.plvl = 2 then 2 else 1 }

/-- 19 R427, R430, 05 R99: takes the first pending trap of an ACTIVE warp that is in none: reads the header word before TVEC, finds room
for the handler's window and enters. While the header's page migrates or no register is free, the trap stays pending. For a PARKED warp the
trap ends its wait: it is PENDING, and takes the trap once it is ACTIVE (08 R164). -/
def State.takeDue (s : State) (g w : Nat) : State :=
  match s.group g, s.warp g w with
  | some x, some y =>
    if y.intrap ∨ y.sched = .exited ∨ y.sched = .pending then s
    else
      match y.takeable with
      | .none => s
      | some (i, d, slot, f) =>
        if y.sched = .parked then s.setSched g w .pending else
        let c := cfin x.ctx
        let core := x.core.getD 0
        let tvec := s.ctxs[c].tvec
        let unit := s.hwlocOf g w
        match s.xlateCore core c (tvec - 4) false false with
        | .park => s.addFault c (vpage (tvec - 4)) (coreDie core) .none
        | .uncorr => s.faultContext c cUNCORR 0 unit (tvec - 4) d.fpc.toNat d.fmask.toNat
        | .fail k => s.faultContext c k 7 unit (tvec - 4) d.fpc.toNat d.fmask.toNat
        | .ok pa _ =>
          if s.engBad pa 4 then s.faultContext c cUNCORR 7 unit (tvec - 4) d.fpc.toNat d.fmask.toNat
          else
            let h := s.engRd pa 4
            if !hdrOk h ∨ hdrOvl h ≠ 0 then s.faultContext c cILLOP 0 unit (tvec - 4) d.fpc.toNat d.fmask.toNat
            else if !y.winFits (hdrWin h) then s.faultContext c cWINFULL 0 unit 0 d.fpc.toNat d.fmask.toNat
            else
              match s.makeRoom core g w (hdrWin h) with
              | .none => s
              | some s1 =>
                s1.modWarp g w (fun y1 => y1.enter i d slot f (hdrWin h) tvec s.tick)
  | _, _ => s

/-- 19 R430: a cause met by the handler's fragment: the context goes to FAULTED. -/
def State.handlerFault (s : State) (g w code addr : Nat) (pc : DWord) (mask : Word) : State :=
  s.faultContext (s.ctxOf g) code 0 (s.hwlocOf g w) addr pc.toNat mask.toNat

/-- 19 R427: a trap falls due and is taken if the warp can take one. -/
def State.raise (s : State) (g w : Nat) (d : Due) : State := (s.modWarp g w (fun y => { y with due := y.due ++ [d] })).takeDue g w

/-! ## Exits and merges (08 R158, R169) -/

/-- A fragment as a merge or a split makes it. -/
def Frag.fresh (pc : DWord) (mask : Word) (join : Option (Fin 16)) (win : Nat) : Frag :=
  { pc := pc, mask := mask, join := join, win := win, status := .ready, replays := [], retry := [], arrived := .none, nowait := .none }

/-- 08 R169: the fragment into which a complete join entry merges. -/
def JoinEntry.merged (e : JoinEntry) : Frag := .fresh e.pc e.expect e.outer e.win

/-- Puts a fragment into a preferred slot, else a free slot, else on the stack (08 R158). -/
def Warp.place (y : Warp) (pref : Bool) (f : Frag) : Warp :=
  match y.slot pref, y.slot (!pref) with
  | .none, _ => y.setSlot pref (some f)
  | _, .none => y.setSlot (!pref) (some f)
  | _, _ => { y with stack := f :: y.stack }

/-- The window was opened by the handler of the trap that the warp is in. -/
def Warp.handlerWin (y : Warp) (id : Nat) : Bool := match y.kept with
  | some k => (y.reach y.wins.length [id]).contains k.hwin
  | .none => false

/-- 08 R158: merges the complete entries of the join table, lowest first; in a trap, those of the handler alone. -/
def Warp.mergeAll (y : Warp) (pref : Bool) : Warp :=
  (List.range 16).foldl (fun y j =>
    let j : Fin 16 := Fin.ofNat 16 j
    let e := y.joins[j]
    if e.valid && decide (e.expect ≠ 0) && decide (e.arrived = e.expect) && (!y.intrap || y.handlerWin e.win) then
      ({ y with joins := y.joins.set j .free }).place pref e.merged
    else y) y

/-- Lanes of the warp that have not exited: in slots, on the stack, arrived, or stopped by a trap. -/
def Warp.lanesLeft (y : Warp) : Word :=
  let fs := (y.slots ++ y.stack).foldl (fun m f => m ||| f.mask) 0#32
  y.joins.toList.foldl (fun m e => if e.valid then m ||| e.arrived else m) fs

/-- The lanes of quad q. -/
def quadMask (q : Nat) : Word := BitVec.ofNat 32 (15 * 16 ^ q)

/-- 08 R146: the helper lanes that exit because no live lane of their quad is left among some lanes. -/
def helperExit (left helper : Word) : Word :=
  (List.range 8).foldl (fun m q => if left &&& ~~~helper &&& quadMask q = 0 then m ||| (left &&& helper &&& quadMask q) else m) 0#32

/-- 08 R158: removes lanes from every fragment and join entry. -/
def Warp.removeLanes (y : Warp) (l : Word) : Warp :=
  let cut := fun (f : Frag) => { f with mask := f.mask &&& ~~~l }
  let keep := fun (f : Option Frag) => (f.map cut).filter (fun f => decide (f.mask ≠ 0))
  { y with
    slot0 := keep y.slot0, slot1 := keep y.slot1, stack := (y.stack.map cut).filter (fun f => decide (f.mask ≠ 0)),
    kept := y.kept.map (fun k => { k with frag := cut k.frag }),
    joins := y.joins.map (fun e =>
      if e.valid then
        let e' := { e with expect := e.expect &&& ~~~l, arrived := e.arrived &&& ~~~l }
        if e'.expect = 0 then .free else e'
      else e) }

/-- 19 R432: what the handler leaves behind goes: its fragments, and the join entries armed in its windows. Only the Frado controller takes a warp out
of PL2 (05 R106). -/
def Warp.dropHandler (y : Warp) (k : Kept) : Warp :=
  let y1 := (y.setSlot k.slot .none)
  let y2 := if k.other then y1 else y1.setSlot (!k.slot) .none
  { y2 with stack := y2.stack.drop (y2.stack.length - k.below), joins := y2.joins.map (fun e => if e.valid && y.handlerWin e.win then .free else e),
            kept := .none, intrap := false, plvl := if y.plvl = 2 then 2 else 0 }

/-- The trap of a warp ends with the last lane of the fragment that it interrupted (log entry 32). -/
def Warp.trapGone (y : Warp) : Warp := match y.kept with
  | some k => if k.frag.mask = 0 then y.dropHandler k else y
  | .none => y

/-- 08 R158, R146: the lanes of the fragment in a slot exit. -/
def Warp.exitLanes (y : Warp) (slot : Bool) : Warp :=
  let l := match y.slot slot with
    | some f => f.mask
    | .none => 0#32
  let left := y.lanesLeft &&& ~~~l
  ((((y.removeLanes (l ||| helperExit left y.helper)).trapGone).mergeAll slot).refill).freeWins

/-! ## The issue of one instruction -/

/-- What an instruction sees when it issues. `s` and `y` have its fragment moved past it. -/
structure View where
  /-- the state as before the issue -/
  base : State
  /-- the state with the fragment moved past the instruction -/
  s : State
  /-- group, warp and slot -/
  r : Ref
  /-- the group -/
  x : Group
  /-- the warp, with the fragment moved past the instruction -/
  y : Warp
  /-- the fragment as before the issue -/
  f : Frag
  /-- address of the instruction -/
  pc : DWord
  /-- lanes for which it executes: the fragment's, or those of a replay -/
  lanes : Word
  /-- the fragment's window -/
  win : Window

/-- How an instruction that does not complete ends. -/
inductive Stop where
  /-- it has not issued: the fragment waits in this state -/
  | wait (s : State) (parks : Bool)
  /-- it traps with no effect -/
  | trap (code : Nat) (kind : TrapKind) (faddr : Nat) (mask : Word)
  /-- it traps at issue in a state that it has changed -/
  | late (s : State) (code : Nat) (faddr : Nat)
  /-- a page table it needed holds uncorrectable data (05 R101) -/
  | tables

/-- The fragment past the instruction it issues. -/
def Frag.advance (f : Frag) : Frag := match f.replays with
  | [] => { f with pc := f.pc + 4, status := .ready, nowait := .none }
  | _ :: r => { f with replays := r, status := .ready, nowait := .none }

/-- Address of the instruction that a fragment issues next. -/
def Frag.next (f : Frag) : DWord := match f.replays with
  | [] => f.pc
  | p :: _ => p.pc

/-- Lanes for which a fragment issues next. -/
def Frag.issueLanes (f : Frag) : Word := match f.replays with
  | [] => f.mask
  | p :: _ => p.lanes &&& f.mask

/-- 19 R432: before a replay issues, the failed share it replays gives up its claim. -/
def State.beforeReplay (s : State) (r : Ref) (f : Frag) : State := match f.replays with
  | [] => s
  | p :: _ => s.dropFailed r.g r.w p.pc p.lanes

/-- The view of the instruction that a fragment issues, none when there is no such fragment. -/
def State.viewOf (s : State) (r : Ref) : Option View :=
  match s.group r.g with
  | .none => .none
  | some x =>
    match x.warps[r.w]? with
    | .none => .none
    | some y =>
      match y.slot r.slot with
      | .none => .none
      | some f =>
        let s1 := (s.beforeReplay r f).modWarp r.g r.w (fun y => y.setSlot r.slot (some f.advance))
        let y1 := (s1.warp r.g r.w).getD y
        some { base := s, s := s1, r := r, x := x, y := y1, f := f, pc := f.next, lanes := f.issueLanes,
               win := (y.window f.win).getD .none }

/-- Puts the warp of a view back into a state. -/
def View.put (v : View) (y : Warp) : State := v.s.modWarp v.r.g v.r.w (fun _ => y)

/-- The context of a view. -/
def View.c (v : View) : Fin 64 := cfin v.x.ctx

/-- The core of a view. -/
def View.core (v : View) : Nat := v.x.core.getD 0

/-- The launch of a view's group. -/
def View.launch (v : View) : Option Launch := tget v.base.launches v.x.launch

/-- A trap of KIND 0 with FADDR. -/
def View.trap (v : View) (code : Nat) (faddr : Nat := 0) : Stop := .trap code .issue faddr v.f.mask

/-- The instruction waits on an event of 08 R150. -/
def View.park (v : View) : Stop := .wait v.base true

/-- The instruction waits at issue without parking. -/
def View.hold (v : View) : Stop := .wait v.base false

/-- The instruction waits for the migration of a page (15 R357). -/
def View.parkPage (v : View) (va : Nat) : Stop := .wait (v.base.addFault v.c (vpage va) (coreDie v.core) .none) true

/-- 19 R430: lanes of an instruction of a fragment have failed. `pl0` when it ran at PL0; at PL1 the handler met the cause. -/
def State.laneFail (s : State) (g w : Nat) (pl0 : Bool) (pc : DWord) (lanes : Word) (causes : List LaneCause) : State :=
  if pl0 then
    s.modWarp g w (fun y => { y with due := y.due ++
      [{ code := 0, kind := .lane, fpc := pc, faddr := 0, fmask := lanes, lanes := lanes, causes := causes }] })
  else
    let (k, a) := leastCause causes
    s.handlerFault g w k a pc lanes

/-- Sets the status of the fragment in a slot. -/
def State.setStatus (s : State) (r : Ref) (st : FragStatus) : State :=
  s.modWarp r.g r.w (fun y => y.setSlot r.slot ((y.slot r.slot).map (fun f => { f with status := st })))

/-- 19 R427, R430: an instruction traps in a state in which its fragment stands before it. -/
def View.trapIn (v : View) (s : State) (code : Nat) (kind : TrapKind) (faddr : Nat) (mask : Word) : State :=
  if v.y.intrap then s.handlerFault v.r.g v.r.w code faddr v.pc mask
  else
    (s.setStatus v.r .ready).raise v.r.g v.r.w
      { code := code, kind := kind, fpc := v.pc, faddr := BitVec.ofNat 64 faddr, fmask := mask, lanes := v.f.mask, causes := [] }

/-- 03 R63, 08 R150, 19 R427, R430: what becomes of the state when an instruction has completed, waits or traps. -/
def View.finish (v : View) (a : Except Stop State) : State :=
  match a with
  | .ok s => (s.modWarp v.r.g v.r.w (fun y => { y with last1 := v.r.slot })).takeDue v.r.g v.r.w
  | .error (.wait s p) => (s.setStatus v.r (.blocked p)).parkCheck v.r.g v.r.w
  | .error (.trap code kind faddr mask) => v.trapIn v.base code kind faddr mask
  | .error (.late s code faddr) => v.trapIn s code .issue faddr v.f.mask
  | .error .tables => v.base.faultContext v.c cUNCORR 0 (v.base.hwlocOf v.r.g v.r.w) 0 v.pc.toNat v.f.mask.toNat

/-- 08 R160: the fragment's window is brought back before the fragment issues, or the fragment waits. -/
def View.unspill (v : View) : Except Stop View :=
  if v.win.spilled then
    match v.s.makeRoom v.core v.r.g v.r.w v.win.opened with
    | .none => .error v.hold
    | some s1 =>
      let s2 := s1.modWarp v.r.g v.r.w (·.markWin v.win.id false)
      .ok { v with s := s2, y := (s2.warp v.r.g v.r.w).getD v.y, win := { v.win with spilled := false } }
  else .ok v

/-- 04 R92: the stop is the trap of a word that is not an instruction: ILLOP, ILLOPND, ILLTYPE or ILLEXPR at issue. -/
def Stop.malformed : Stop → Bool
  | .trap code .issue _ _ => decide (code = cILLOP) || decide (code = cILLOPND) || decide (code = cILLTYPE) || decide (code = cILLEXPR)
  | _ => false

/-- 04 R92: what the checks of an instruction's word see: index registers that name register 0, and sources that are all EMPTY, so that no check which
reads a register's value is reached. -/
def View.blank (v : View) : View :=
  { v with y := { v.y with x := (((v.y.x.set 0 0).set 1 0).set 2 0), s := v.y.s.map (fun r => { r with fill := .empty }),
                           phys := v.y.phys.map (fun e => (e.1, { e.2 with fill := .empty })), n := v.y.n.map (fun r => { r with fill := .empty }),
                           qmap := Vector.replicate 4 .none } }

/-- 04 R92: what an instruction comes to, its checks ordered: a word that is not an instruction traps for that, whatever the value of an index
register that one of its fields names. -/
def View.ordered (v : View) (k : View → Except Stop State) : Except Stop State :=
  match k v with
  | .error (.trap code kind a m) =>
    if code = cIDXBOUND ∧ kind = .issue then
      match k v.blank with
      | .error t => if t.malformed then .error t else .error (.trap code kind a m)
      | .ok _ => .error (.trap code kind a m)
    else .error (.trap code kind a m)
  | r => r

/-- Issues an instruction word: the fragment that `State.cur` names executes it. -/
def issue (s : State) (k : View → Except Stop State) : Host.Outcome State Fault Refusal :=
  match s.cur.bind s.viewOf with
  | .none => .fault .noFragment
  | some v => .next (v.finish (v.unspill >>= fun v => v.ordered k))

/-! ## Returning from a trap (19 R432) -/

/-- 19 R432: TRET FIX, SKIP and RETRY: the interrupted fragment as it goes on. -/
def Kept.resume (k : Kept) (t : TrapRegs) (causes : List LaneCause) (skip retry : Bool) : Frag :=
  let f := { k.frag with status := .ready }
  let wait := if retry then f.retry ++ causes else f.retry
  if skip then
    match k.kind with
    | .lane => f
    | _ => match f.replays with
      | [] => { f with pc := t.fpc + 4, arrived := .none }
      | _ :: r => { f with replays := r, arrived := .none }
  else
    match k.kind with
    | .lane => { f with replays := { pc := t.fpc, lanes := t.fmask } :: f.replays, retry := wait }
    | _ => { f with retry := wait, nowait := if retry ∧ t.cause.toNat % 256 = cEMPTY then some t.faddr.toNat else .none }

/-- 19 R432: TRET FIX, SKIP or RETRY of a warp in a trap. -/
def State.tretResume (s : State) (g w : Nat) (skip retry : Bool) : State :=
  match s.warp g w with
  | .none => s
  | some y =>
    match y.kept with
    | .none => s
    | some k =>
      let f := k.resume y.trap y.causes skip retry
      let s1 :=
        if skip then
          if k.kind = .lane then s.dropFailed g w y.trap.fpc y.trap.fmask
          else match k.frag.replays with
            | [] => s
            | p :: _ => s.dropFailed g w p.pc p.lanes
        else s
      let s2 := s1.modWarp g w (fun z =>
        ((((z.dropHandler k).setSlot k.slot (some f)).mergeAll (!k.slot)).refill).freeWins)
      let s3 := s2.takeDue g w
      match s3.warp g w with
      | .none => s3
      | some z => if !z.intrap ∧ z.slots.any (fun f => !f.retry.isEmpty) then s3.setSched g w .parked else s3

end Sys2Proof.Machine
end

