-- ==== Sys2Proof/Machine/Flags.lean ====
section
/-! DEFINITION. FLAGS and MODE of a warp: the fields, and every way an instruction sets flags (03 R57, R58, R61; 09 R186, R189). -/

namespace Sys2Proof.Machine

/-! ## MODE (03 R57) -/

/-- GUARD.EN -/
def mGuardEn (m : BitVec 23) : Bool := m.getLsbD 22
/-- GUARD.INV -/
def mGuardInv (m : BitVec 23) : Bool := m.getLsbD 21
/-- GUARD.IDX -/
def mGuardIdx (m : BitVec 23) : Fin 8 := Fin.ofNat 8 (bits m 20 18)
/-- RND -/
def mRnd (m : BitVec 23) : Nat := bits m 17 15
/-- ETYPE -/
def mEtype (m : BitVec 23) : Nat := bits m 14 10
/-- SAT -/
def mSat (m : BitVec 23) : Bool := m.getLsbD 9
/-- FTZ -/
def mFtz (m : BitVec 23) : Bool := m.getLsbD 8
/-- XTRAP -/
def mXtrap (m : BitVec 23) : Bool := m.getLsbD 7
/-- XPROG -/
def mXprog (m : BitVec 23) : Nat := bits m 6 1

/-- 03 R58: the cause with which a new MODE value traps, if it does. -/
def modeCause (m : BitVec 23) : Option Nat :=
  if 5 ≤ mRnd m ∨ m.getLsbD 0 then some cILLOP else if 24 ≤ mEtype m then some cILLTYPE else none

/-- 03 R59: the lanes that the guard of a warp lets through. -/
def Warp.guard (y : Warp) : Word :=
  if mGuardEn y.mode then (if mGuardInv y.mode then ~~~y.m[mGuardIdx y.mode] else y.m[mGuardIdx y.mode]) else BitVec.allOnes 32

/-! ## FLAGS (03 R61) -/

/-- Z -/
def fZ (f : Byte) : Bool := f.getLsbD 0
/-- N -/
def fN (f : Byte) : Bool := f.getLsbD 1
/-- C -/
def fC (f : Byte) : Bool := f.getLsbD 2
/-- EOS -/
def fEos (f : Byte) : Bool := f.getLsbD 4

/-- Writes Z, N, C and V and leaves the other bits. -/
def setZNCV (f : Byte) (z n c v : Bool) : Byte :=
  (f &&& 0xF0#8) ||| BitVec.ofNat 8 (b2n z + 2 * b2n n + 4 * b2n c + 8 * b2n v)

/-- Writes Z and leaves the other bits. -/
def setZ (f : Byte) (z : Bool) : Byte := (f &&& 0xFE#8) ||| BitVec.ofNat 8 (b2n z)

/-- Sets EOS. -/
def setEos (f : Byte) : Byte := f ||| 0x10#8
/-- Sets XMISS. -/
def setXmiss (f : Byte) : Byte := f ||| 0x20#8
/-- Sets XDEAD. -/
def setXdead (f : Byte) : Byte := f ||| 0x40#8

/-- The sum of two integers lies outside the range of 64-bit two's complement. -/
def over64 (x : Int) : Bool := decide (x < -(2 ^ 63)) || decide (2 ^ 63 ≤ x)

/-- 09 R186: the flags of a scalar compare with result t; `sg` when it is signed. -/
def cmpFlags (f : Byte) (sg t : Bool) (a b : DWord) : Byte :=
  setZNCV f (!t) (if sg then decide (a.toInt < b.toInt) else decide (a.toNat < b.toNat)) (decide (b.toNat ≤ a.toNat))
    (over64 (a.toInt - b.toInt))

/-- 09 R186: ADDC, the result and the flags. -/
def addcOf (f : Byte) (a b : DWord) : DWord × Byte :=
  let x := a.toNat + b.toNat + b2n (fC f)
  let d := BitVec.ofNat 64 x
  (d, setZNCV f (decide (d = 0)) (d.getLsbD 63) (decide (2 ^ 64 ≤ x)) (over64 (a.toInt + b.toInt + b2n (fC f))))

/-- 09 R186: SUBB, the result and the flags. -/
def subbOf (f : Byte) (a b : DWord) : DWord × Byte :=
  let x : Int := (a.toNat : Int) - b.toNat - (1 - b2n (fC f) : Nat)
  let d := BitVec.ofInt 64 x
  (d, setZNCV f (decide (d = 0)) (d.getLsbD 63) (decide (0 ≤ x)) (over64 (a.toInt - b.toInt - (1 - b2n (fC f) : Nat))))

end Sys2Proof.Machine
end

