-- ==== Sys2Proof/Machine/Float.lean ====
section
/-! DEFINITION. Element types and their exact values: integers with wrapping and saturation, IEEE formats, the 8-bit and 4-bit
types, rounding and conversion, block floating point (02 R25 to R38; 09 R191, R195, R196). A value that is not a dyadic number
is carried with a set bit below every bit that rounding can reach. -/

namespace Sys2Proof.Machine

/-! ## Element types (02 R25, R26) -/

/-- Width in bits of the type of a code, block types giving their mantissa width. -/
def tyWidth (t : Nat) : Nat :=
  match t with
  | 0 | 4 | 12 | 13 => 8
  | 1 | 5 | 8 | 9 => 16
  | 2 | 6 | 10 => 32
  | 3 | 7 | 11 => 64
  | 14 | 15 | 16 => 4
  | n => n - 15

/-- The type is a signed integer, I8 to I64 or I4. -/
def tySigned (t : Nat) : Bool := decide (t < 4) || decide (t = 15)
/-- The type is F16, B16, F32 or F64. -/
def tyFloat (t : Nat) : Bool := decide (8 ≤ t) && decide (t ≤ 11)
/-- The type is an integer, C4 and I4 included. -/
def tyInt (t : Nat) : Bool := decide (t < 8) || decide (t = 15) || decide (t = 16)
/-- The type is BFP2 to BFP8. -/
def tyBfp (t : Nat) : Bool := decide (17 ≤ t) && decide (t ≤ 23)
/-- 03 R60: the type is one of E4M3, E5M2, E2M1, I4, C4 and BFP2 to BFP8. -/
def tyNarrow (t : Nat) : Bool := decide (12 ≤ t)
/-- The type takes a pair of vector registers. -/
def tyWide (t : Nat) : Bool := decide (tyWidth t = 64)

/-- The low w bits of a number as a two's-complement integer. -/
def toSigned (w x : Nat) : Int :=
  let y := x % 2 ^ w
  if 2 * y < 2 ^ w then y else (y : Int) - 2 ^ w

/-- The w-bit pattern of an integer. -/
def ofInt (w : Nat) (v : Int) : Nat := (v % 2 ^ w).toNat

/-- An integer read with a signedness from its low w bits. -/
def intVal (signed : Bool) (w x : Nat) : Int := if signed then toSigned w x else (x % 2 ^ w : Nat)

/-- 02 R27: the bounds of an integer type. -/
def loBound (signed : Bool) (w : Nat) : Int := if signed then -(2 ^ (w - 1)) else 0
/-- 02 R27: the upper bound of an integer type. -/
def hiBound (signed : Bool) (w : Nat) : Int := if signed then 2 ^ (w - 1) - 1 else 2 ^ w - 1

/-- 02 R27: an integer result fitted to its type, as a pattern. -/
def intFit (signed sat : Bool) (w : Nat) (v : Int) : Nat :=
  if sat then ofInt w (max (loBound signed w) (min (hiBound signed w) v)) else ofInt w v

/-- 02 R26: the value of a pattern of a type extended to 32 bits, as a lane holds it. -/
def extend32 (t x : Nat) : Nat :=
  let w := tyWidth t
  if w ≥ 32 then x % 2 ^ 32 else if tySigned t || tyBfp t then ofInt 32 (toSigned w x) else x % 2 ^ w

/-- 02 R26: a pattern of a type extended to 64 bits, as a scalar register holds it. -/
def extend64 (t x : Nat) : Nat :=
  let w := tyWidth t
  if w ≥ 64 then x % 2 ^ 64 else if tySigned t || tyBfp t then ofInt 64 (toSigned w x) else x % 2 ^ w

/-! ## Exact values -/

/-- A decoded value. -/
inductive FV where
  /-- not a number -/
  | nan
  /-- an infinity -/
  | inf (neg : Bool)
  /-- ± m × 2^e; m = 0 is a signed zero -/
  | fin (neg : Bool) (m : Nat) (e : Int)
  deriving DecidableEq, Repr

/-- Exponent bits, fraction bits and bias of a floating-point type (02 R25, R31, R32). -/
structure Fmt where
  /-- exponent bits -/
  eb : Nat
  /-- fraction bits -/
  fb : Nat
  /-- bias -/
  bias : Nat
  deriving DecidableEq, Repr

/-- The format of a floating-point type code. -/
def fmtOf (t : Nat) : Fmt :=
  match t with
  | 8 => { eb := 5, fb := 10, bias := 15 }
  | 9 => { eb := 8, fb := 7, bias := 127 }
  | 10 => { eb := 8, fb := 23, bias := 127 }
  | 11 => { eb := 11, fb := 52, bias := 1023 }
  | 12 => { eb := 4, fb := 3, bias := 7 }
  | 13 => { eb := 5, fb := 2, bias := 15 }
  | _ => { eb := 2, fb := 1, bias := 1 }

/-- 02 R28: the canonical NaN of a type. -/
def canonNan (t : Nat) : Nat :=
  match t with
  | 8 => 0x7E00
  | 9 => 0x7FC0
  | 10 => 0x7FC00000
  | 11 => 0x7FF8000000000000
  | 12 => 0x7F
  | 13 => 0x7E
  | _ => 0

/-- Decodes a pattern of a format with IEEE infinities and NaNs when `ieee`. -/
def decodeFmt (f : Fmt) (ieee ftz : Bool) (x : Nat) : FV :=
  let neg := decide (x / 2 ^ (f.eb + f.fb) % 2 = 1)
  let ex := x / 2 ^ f.fb % 2 ^ f.eb
  let fr := x % 2 ^ f.fb
  if ieee ∧ ex = 2 ^ f.eb - 1 then (if fr = 0 then .inf neg else .nan)
  else if ex = 0 then .fin neg (if ftz then 0 else fr) (1 - (f.bias : Int) - f.fb)
  else .fin neg (2 ^ f.fb + fr) ((ex : Int) - f.bias - f.fb)

/-- 02 R26, R29, R31, R32, R35: the exact value of a pattern of any type; `extra` is the E2M1 extra value. -/
def decodeVal (t : Nat) (ftz : Bool) (extra x : Nat) : FV :=
  if tyFloat t then decodeFmt (fmtOf t) true ftz x
  else if t = 12 then (if x % 128 = 127 then .nan else decodeFmt (fmtOf 12) false false x)
  else if t = 13 then decodeFmt (fmtOf 13) true false x
  else if t = 14 then (if x % 16 = 8 then decodeFmt (fmtOf 8) true false extra else decodeFmt (fmtOf 14) false false x)
  else
    let v := intVal (tySigned t || tyBfp t) (tyWidth t) x
    .fin (decide (v < 0)) v.natAbs 0

/-! ## Rounding (02 R34) -/

/-- Bits of a number up to its highest one. -/
def bitLen (m : Nat) : Nat := if m = 0 then 0 else m.log2 + 1

/-- 02 R34: rounds m / 2^sh to an integer magnitude. -/
def roundShift (rnd : Nat) (neg : Bool) (m sh : Nat) : Nat :=
  let q := m >>> sh
  let r := m % 2 ^ sh
  let half := 2 ^ (sh - 1)
  let up :=
    if r = 0 then false
    else match rnd with
      | 0 => decide (half < r) || (decide (r = half) && decide (q % 2 = 1))
      | 1 => false
      | 2 => !neg
      | 3 => neg
      | _ => decide (half ≤ r)
  if up then q + 1 else q

/-- 02 R34: rounds m × 2^e to an integer magnitude. -/
def roundNat (rnd : Nat) (neg : Bool) (m : Nat) (e : Int) : Nat :=
  if 0 ≤ e then m * 2 ^ e.toNat else roundShift rnd neg m (-e).toNat

/-- An integer from a sign and a magnitude. -/
def signed (neg : Bool) (m : Nat) : Int := if neg then -(m : Int) else m

/-- 02 R28, R34: an overflow of this sign delivers the largest finite value. -/
def overMax (rnd : Nat) (neg : Bool) : Bool :=
  decide (rnd = 1) || (decide (rnd = 2) && neg) || (decide (rnd = 3) && !neg)

/-- The magnitude pattern of m × 2^e rounded once onto the grid of a format with an unbounded exponent. -/
def roundEnc (f : Fmt) (rnd : Nat) (neg : Bool) (m : Nat) (e : Int) : Nat :=
  if m = 0 then 0
  else
    let qmin : Int := 1 - (f.bias : Int) - f.fb
    let q := max qmin (e + bitLen m - 1 - f.fb)
    let mant := if q ≤ e then m * 2 ^ (e - q).toNat else roundShift rnd neg m (q - e).toNat
    (q - qmin).toNat * 2 ^ f.fb + mant

/-- 02 R35: encodes a value into F16, B16, F32, F64, E5M2 or E4M3. -/
def encodeFloat (t rnd : Nat) (ftz sat : Bool) (v : FV) : Nat :=
  let f := fmtOf t
  let top := 2 ^ (f.eb + f.fb)
  let infp := (2 ^ f.eb - 1) * 2 ^ f.fb
  match v with
  | .nan => canonNan t
  | .inf neg => if t = 12 then (if sat then b2n neg * top + 0x7E else 0x7F) else b2n neg * top + infp
  | .fin neg m e =>
    let s := b2n neg * top
    let p := roundEnc f rnd neg m e
    if t = 12 then
      if p ≤ 0x7E then s + p else if sat || overMax rnd neg then s + 0x7E else 0x7F
    else if infp ≤ p then (if overMax rnd neg then s + (infp - 1) else s + infp)
    else if ftz ∧ tyFloat t ∧ p < 2 ^ f.fb then s
    else s + p

/-- 02 R33: the F16 pattern that holds a value exactly. -/
def exactF16 (v : FV) : Option Nat :=
  match v with
  | .nan => none
  | .inf neg => some (b2n neg * 0x8000 + 0x7C00)
  | .fin neg m e =>
    let lo := roundEnc (fmtOf 8) 1 false m e
    let hi := roundEnc (fmtOf 8) 2 false m e
    if lo = hi ∧ lo < 0x7C00 then some (b2n neg * 0x8000 + lo) else none

/-- 02 R33: encodes into E2M1. -/
def encodeE2M1 (rnd extra : Nat) (v : FV) : Nat :=
  let x := extra % 0x10000
  let xnan := decide (x / 0x400 % 32 = 31) && decide (x % 0x400 ≠ 0)
  match v with
  | .nan => if xnan then 8 else 0
  | .inf neg => if exactF16 v = some x then 8 else b2n neg * 8 + 7
  | .fin neg m e =>
    if exactF16 v = some x then 8
    else
      let p := min 7 (roundEnc (fmtOf 14) rnd neg m e)
      if p = 0 then 0 else b2n neg * 8 + p

/-- 02 R35: rounds a value to an integer and clamps it to bounds; a NaN gives 0. -/
def clampInt (rnd : Nat) (lo hi : Int) (v : FV) : Int :=
  match v with
  | .nan => 0
  | .inf neg => if neg then lo else hi
  | .fin neg m e => max lo (min hi (signed neg (roundNat rnd neg m e)))

/-- 02 R35: converts a value to a type. `fromInt` when the source is an integer, a bare mantissa included. -/
def encodeVal (t rnd : Nat) (ftz sat : Bool) (extra : Nat) (fromInt : Bool) (v : FV) : Nat :=
  let w := tyWidth t
  if tyFloat t || decide (t = 12) || decide (t = 13) then encodeFloat t rnd ftz sat v
  else if t = 14 then encodeE2M1 rnd extra v
  else if tyBfp t then
    let lim : Int := 2 ^ (w - 1) - 1
    ofInt w (clampInt rnd (-lim) lim v)
  else if fromInt then
    match v with
    | .fin neg m e => intFit (tySigned t) sat w (signed neg (roundNat rnd neg m e))
    | _ => 0
  else ofInt w (clampInt rnd (loBound (tySigned t) w) (hiBound (tySigned t) w) v)

/-- 02 R35: the conversion of a pattern of one type to another. -/
def convert (src dst rnd : Nat) (ftz sat : Bool) (extra x : Nat) : Nat :=
  encodeVal dst rnd ftz sat extra (tyInt src || tyBfp src) (decodeVal src ftz extra x)

/-! ## Arithmetic on exact values (02 R28; 09 R191) -/

/-- The sign of a value. -/
def FV.isNeg : FV → Bool
  | .nan => false
  | .inf n => n
  | .fin n _ _ => n

/-- The value with its sign inverted. -/
def FV.negate : FV → FV
  | .nan => .nan
  | .inf n => .inf (!n)
  | .fin n m e => .fin (!n) m e

/-- The exact sum; an exact zero sum of opposite signs is +0, or −0 when rounding down. -/
def FV.add (rnd : Nat) : FV → FV → FV
  | .nan, _ => .nan
  | _, .nan => .nan
  | .inf a, .inf b => if a = b then .inf a else .nan
  | .inf a, _ => .inf a
  | _, .inf b => .inf b
  | .fin a m e, .fin b n g =>
    let q := min e g
    let s := signed a (m * 2 ^ (e - q).toNat) + signed b (n * 2 ^ (g - q).toNat)
    if s = 0 then .fin (if a = b then a else decide (rnd = 3)) 0 0 else .fin (decide (s < 0)) s.natAbs q

/-- The exact product. -/
def FV.mul : FV → FV → FV
  | .nan, _ => .nan
  | _, .nan => .nan
  | .inf a, .inf b => .inf (xor a b)
  | .inf a, .fin b m _ => if m = 0 then .nan else .inf (xor a b)
  | .fin a m _, .inf b => if m = 0 then .nan else .inf (xor a b)
  | .fin a m e, .fin b n g => .fin (xor a b) (m * n) (e + g)

/-- A quotient or root as far as it is known, with a set bit below when something is left over. -/
def stuck (q : Nat) (rest : Bool) (e : Int) : Nat × Int := if rest then (2 * q + 1, e - 1) else (q, e)

/-- The quotient, to 64 bits beyond what rounding needs. -/
def FV.div : FV → FV → FV
  | .nan, _ => .nan
  | _, .nan => .nan
  | .inf _, .inf _ => .nan
  | .inf a, .fin b _ _ => .inf (xor a b)
  | .fin a _ _, .inf b => .fin (xor a b) 0 0
  | .fin a m e, .fin b n g =>
    if n = 0 then (if m = 0 then .nan else .inf (xor a b))
    else
      let k := 128 + bitLen n
      let (q, x) := stuck (m * 2 ^ k / n) (decide (m * 2 ^ k % n ≠ 0)) (e - g - k)
      .fin (xor a b) q x

/-- The integer square root of a number below 4^n, bit by bit from the top. -/
def isqrt (x : Nat) : Nat → Nat → Nat
  | 0, r => r
  | n + 1, r => isqrt x n (if (r + 2 ^ n) * (r + 2 ^ n) ≤ x then r + 2 ^ n else r)

/-- m and e with e made even. -/
def evenExp (m : Nat) (e : Int) : Nat × Int := if e % 2 = 0 then (m, e) else (2 * m, e - 1)

/-- 09 R195: the square root. -/
def FV.sqrt : FV → FV
  | .nan => .nan
  | .inf n => if n then .nan else .inf false
  | .fin n m e =>
    if m = 0 then .fin n 0 0
    else if n then .nan
    else
      let (m, e) := evenExp m e
      let x := m * 4 ^ 128
      let r := isqrt x (bitLen x / 2 + 1) 0
      let (q, g) := stuck r (decide (r * r ≠ x)) (e / 2 - 128)
      .fin false q g

/-- 09 R195: one over the square root. -/
def FV.rsq : FV → FV
  | .nan => .nan
  | .inf n => if n then .nan else .fin false 0 0
  | .fin n m e =>
    if m = 0 then .inf n
    else if n then .nan
    else
      let (m, e) := evenExp m e
      let k := 128 + bitLen m
      let x := 4 ^ k / m
      let r := isqrt x (bitLen x / 2 + 1) 0
      let (q, g) := stuck r (decide (r * r * m ≠ 4 ^ k)) (-(e / 2) - k)
      .fin false q g

/-! ### EXP2 and LOG2 (09 R195): fixed point with 384 bits below the point -/

/-- Bits below the point. -/
def fixBits : Nat := 384

/-- ln 2 in fixed point, from below: the sum of 1 / (k × 2^k). -/
def ln2Sum : Nat → Nat
  | 0 => 0
  | k + 1 => ln2Sum k + 2 ^ fixBits / ((k + 1) * 2 ^ (k + 1))

/-- ln 2 in fixed point. -/
def ln2Fix : Nat := ln2Sum fixBits

/-- The exponential series of y in fixed point, n terms from the k-th on. -/
def expSum (y : Nat) : Nat → Nat → Nat → Nat
  | 0, _, _ => 0
  | n + 1, k, term => term + expSum y n (k + 1) (term * y / 2 ^ fixBits / (k + 1))

/-- 2^x for a value; exact for an integer, otherwise to about 350 bits with a set bit below. -/
def FV.exp2 : FV → FV
  | .nan => .nan
  | .inf n => if n then .fin false 0 0 else .inf false
  | .fin n m e =>
    if m = 0 then .fin false 1 0
    else if 12 ≤ e + bitLen m then (if n then .fin false 1 (-4000) else .fin false 1 4000)
    else if 0 ≤ e then .fin false 1 (signed n (m * 2 ^ e.toNat))
    else
      let d := (-e).toNat
      if m % 2 ^ d = 0 then .fin false 1 (signed n (m / 2 ^ d))
      else if e + bitLen m < -200 then
        (if n then .fin false (2 ^ 202 - 1) (-202) else .fin false (2 ^ 202 + 1) (-202))
      else
        let z := signed n m
        let fl := z / 2 ^ d
        let f := (z - fl * 2 ^ d).toNat
        let y := f * ln2Fix / 2 ^ d
        let v := expSum y 120 0 (2 ^ fixBits)
        .fin false (2 * (v / 2 ^ 32) + 1) (fl - (fixBits : Int) + 31)

/-- The series of the inverse hyperbolic tangent in fixed point: n terms of z^(2k+1) / (2k+1). -/
def atanhSum (z2 : Nat) : Nat → Nat → Nat → Nat
  | 0, _, _ => 0
  | n + 1, k, pow => pow / (2 * k + 1) + atanhSum z2 n (k + 1) (pow * z2 / 2 ^ fixBits)

/-- log2 of a value; exact for a power of two, otherwise to about 350 bits with a set bit below. -/
def FV.log2 : FV → FV
  | .nan => .nan
  | .inf n => if n then .nan else .inf false
  | .fin n m e =>
    if m = 0 then .inf true
    else if n then .nan
    else
      let k := bitLen m - 1
      let x : Int := e + k
      if m = 2 ^ k then .fin (decide (x < 0)) x.natAbs 0
      else
        let z := (m - 2 ^ k) * 2 ^ fixBits / (m + 2 ^ k)
        let l := 2 * atanhSum (z * z / 2 ^ fixBits) 160 0 z * 2 ^ fixBits / ln2Fix
        let r : Int := x * 2 ^ fixBits + l
        if 0 ≤ r then .fin false (2 * (r.toNat / 2 ^ 32) + 1) (31 - (fixBits : Int))
        else .fin true (2 * (((-r).toNat) / 2 ^ 32) + 1) (31 - (fixBits : Int))

/-! ### Comparison (02 R30; 09 R192) -/

/-- Compares two values that are not NaN: −1, 0 or 1; zeros compare equal. -/
def FV.cmp : FV → FV → Int
  | .inf a, .inf b => if a = b then 0 else if a then -1 else 1
  | .inf a, _ => if a then -1 else 1
  | _, .inf b => if b then 1 else -1
  | .fin a m e, .fin b n g =>
    let q := min e g
    let d := signed a (m * 2 ^ (e - q).toNat) - signed b (n * 2 ^ (g - q).toNat)
    if d < 0 then -1 else if d = 0 then 0 else 1
  | _, _ => 0

/-- The value is not a number. -/
def FV.isNan : FV → Bool
  | .nan => true
  | _ => false

/-- The value is a zero. -/
def FV.isZero : FV → Bool
  | .fin _ m _ => decide (m = 0)
  | _ => false

/-- 02 R30: minimumNumber or maximumNumber of two patterns of a type. -/
def floatMinMax (mx : Bool) (t : Nat) (ftz : Bool) (a b : Nat) : Nat :=
  let x := decodeVal t ftz 0 a
  let y := decodeVal t ftz 0 b
  let out := fun v => encodeFloat t 0 ftz false v
  if x.isNan then (if y.isNan then canonNan t else out y)
  else if y.isNan then out x
  else
    let c := x.cmp y
    let less := if c = 0 then x.isNeg && !y.isNeg else decide (c < 0)
    if c = 0 ∧ x.isNeg = y.isNeg then out x
    else if less = mx then out y else out x

/-- 09 R196: the class of a pattern, one bit of ten. -/
def classBits (t x : Nat) : Nat :=
  let f := fmtOf t
  let neg := decide (x / 2 ^ (f.eb + f.fb) % 2 = 1)
  let ex := x / 2 ^ f.fb % 2 ^ f.eb
  let fr := x % 2 ^ f.fb
  let bit :=
    if ex = 2 ^ f.eb - 1 then
      (if fr = 0 then (if neg then 2 else 9) else if fr / 2 ^ (f.fb - 1) = 1 then 1 else 0)
    else if ex = 0 then
      (if fr = 0 then (if neg then 5 else 6) else if neg then 4 else 7)
    else if neg then 3 else 8
  2 ^ bit

/-- 03 R53, 02 R35: the pattern of a small integer in a type; exact wherever the type holds it. -/
def constOf (t rnd : Nat) (sat : Bool) (extra : Nat) (v : Int) : Nat :=
  encodeVal t rnd false sat extra true (.fin (decide (v < 0)) v.natAbs 0)

/-! ## Block floating point (02 R36 to R38) -/

/-- 02 R37: the least exponent from E on, within n steps, at which the largest magnitude fits. -/
def fitExp (lim m : Nat) (e : Int) : Nat → Nat → Nat
  | 0, x => x
  | n + 1, x => if x < 0xFE ∧ lim < roundNat 0 false m (e - ((x : Int) - 127)) then fitExp lim m e n (x + 1) else x

/-- The larger magnitude of two values. -/
def maxMag : Nat × Int → FV → Nat × Int
  | (m, e), .fin _ n g => if (FV.fin false m e).cmp (.fin false n g) < 0 then (n, g) else (m, e)
  | x, _ => x

/-- 02 R37: quantises values, subnormals already flushed: the exponent and the mantissas. -/
def quantise (m rnd : Nat) (xs : List FV) : Nat × List Int :=
  if xs.any (fun v => match v with | .fin _ _ _ => false | _ => true) then (0xFF, xs.map (fun _ => 0))
  else
    let (bm, be) := xs.foldl maxMag (0, 0)
    let lim := 2 ^ (m - 1) - 1
    let e := fitExp lim bm be 254 0
    (e, xs.map (fun v => match v with
      | .fin n a g => max (-(lim : Int)) (min lim (signed n (roundNat rnd n a (g - ((e : Int) - 127)))))
      | _ => 0))

/-- 02 R36: the bytes of a block. -/
def blockBits (m : Nat) (ms : List Int) : Nat := ms.foldr (fun v acc => ofInt m v + 2 ^ m * acc) 0

/-- 02 R36: the value of element i of a block with exponent e and mantissa field f. -/
def blockElem (m e f i : Nat) : FV :=
  if e = 0xFF then .nan
  else
    let v := toSigned m (f / 2 ^ (m * i))
    .fin (decide (v < 0)) v.natAbs ((e : Int) - 127)

end Sys2Proof.Machine
end

