-- ==== Sys2Proof/Machine/Operands.lean ====
section
/-! DEFINITION. Operands: what a field names, whether it is ready, queue-mapped scalars, and reading and writing registers
(03 R53 to R55, R62 to R67; 06 R123; 19 R428). -/

namespace Sys2Proof.Machine

/-! ## What a field names (03 R53 to R55) -/

/-- The kinds of operand that a field accepts; s[x2] and v[x0], v[x1] only where its description lists them (log entry 30). -/
structure Kinds where
  /-- v registers -/
  v : Bool
  /-- v[x0], v[x1] -/
  vx : Bool
  /-- s registers -/
  s : Bool
  /-- s[x2] -/
  sx : Bool
  /-- mask registers -/
  m : Bool
  /-- zero -/
  zero : Bool
  /-- one -/
  one : Bool
  /-- minus one -/
  mone : Bool
  /-- the lane index -/
  lane : Bool

/-- No operand. -/
def kNone : Kinds :=
  { v := false, vx := false, s := false, sx := false, m := false, zero := false, one := false, mone := false, lane := false }
/-- Any source code of R53. -/
def kAny : Kinds :=
  { v := true, vx := true, s := true, sx := true, m := true, zero := true, one := true, mone := true, lane := true }
/-- 09 R184: the sources of a scalar instruction. -/
def kScalar : Kinds :=
  { v := false, vx := false, s := true, sx := true, m := true, zero := true, one := true, mone := true, lane := false }
/-- 09 R184: the destinations of a scalar instruction. -/
def kScalarD : Kinds :=
  { v := false, vx := false, s := true, sx := true, m := true, zero := true, one := false, mone := false, lane := false }
/-- A scalar register, s[x2] or a constant. -/
def kSxC : Kinds :=
  { v := false, vx := false, s := true, sx := true, m := false, zero := true, one := true, mone := true, lane := false }
/-- A scalar register, s[x2], zero or one. -/
def kSxZ1 : Kinds :=
  { v := false, vx := false, s := true, sx := true, m := false, zero := true, one := true, mone := false, lane := false }
/-- A scalar register, s[x2] or zero. -/
def kSxZ : Kinds :=
  { v := false, vx := false, s := true, sx := true, m := false, zero := true, one := false, mone := false, lane := false }
/-- A scalar register or a constant. -/
def kSC : Kinds :=
  { v := false, vx := false, s := true, sx := false, m := false, zero := true, one := true, mone := true, lane := false }
/-- A scalar register. -/
def kS : Kinds :=
  { v := false, vx := false, s := true, sx := false, m := false, zero := false, one := false, mone := false, lane := false }
/-- A scalar register or zero. -/
def kSZ : Kinds :=
  { v := false, vx := false, s := true, sx := false, m := false, zero := true, one := false, mone := false, lane := false }
/-- A scalar register, a mask register or zero. -/
def kSMZ : Kinds :=
  { v := false, vx := false, s := true, sx := false, m := true, zero := true, one := false, mone := false, lane := false }
/-- A mask register or zero. -/
def kMZ : Kinds :=
  { v := false, vx := false, s := false, sx := false, m := true, zero := true, one := false, mone := false, lane := false }
/-- A vector register. -/
def kV : Kinds :=
  { v := true, vx := true, s := false, sx := false, m := false, zero := false, one := false, mone := false, lane := false }
/-- A vector register or zero. -/
def kVZ : Kinds :=
  { v := true, vx := true, s := false, sx := false, m := false, zero := true, one := false, mone := false, lane := false }
/-- A vector or a scalar register. -/
def kVS : Kinds :=
  { v := true, vx := true, s := true, sx := true, m := false, zero := false, one := false, mone := false, lane := false }
/-- A vector register, a scalar register or zero. -/
def kVSZ : Kinds :=
  { v := true, vx := true, s := true, sx := true, m := false, zero := true, one := false, mone := false, lane := false }
/-- A vector register named outright. -/
def kVO : Kinds :=
  { v := true, vx := false, s := false, sx := false, m := false, zero := false, one := false, mone := false, lane := false }

/-- What an accepted operand names. -/
inductive Loc where
  /-- physical vector registers, the high one of a pair second -/
  | vec (names : List Nat)
  /-- a scalar register -/
  | sca (i : Fin 32)
  /-- a mask register -/
  | msk (i : Fin 8)
  /-- a number register -/
  | num (k : Fin 8)
  /-- 0 -/
  | zero
  /-- 1 -/
  | one
  /-- minus 1 -/
  | mone
  /-- the lane number -/
  | lane
  deriving DecidableEq, Repr

/-- 02 R26: register i of a window, or the pair at i, none when the pair is odd or leaves the window. -/
def Window.name (w : Window) (wide : Bool) (i : Nat) : Option (List Nat) :=
  if wide then
    match w.regs[i]?, w.regs[i + 1]? with
    | some a, some b => if i % 2 = 0 then some [a, b] else .none
    | _, _ => .none
  else (w.regs[i]?).map (fun a => [a])

/-- 19 R428: the window that v[x0] or v[x1] indexes: in a handler, v[x1] the window of the interrupted fragment. -/
def View.vxWin (v : View) (k : Fin 2) : Window :=
  if k = 1 then
    match v.y.kept with
    | some q => (v.y.window q.frag.win).getD .none
    | .none => v.win
  else v.win

/-- 03 R53 to R55: what an operand names, as a field of these kinds; `wide` when a vector is a pair. -/
def View.resolve (v : View) (k : Kinds) (wide : Bool) (o : Opnd) : Except Stop Loc :=
  let bad : Except Stop Loc := .error (v.trap cILLOPND)
  let ok := fun (b : Bool) (l : Loc) => if b then .ok l else bad
  match o with
  | .v i => if k.v then (match v.win.name wide i with
    | some l => .ok (.vec l)
    | .none => bad) else bad
  | .vx j =>
    if k.vx then
      let i := (v.y.x[if j = 0 then (0 : Fin 4) else 1]).toNat
      let w := v.vxWin j
      if w.regs.length ≤ i then .error (v.trap cIDXBOUND i)
      else match w.name wide i with
        | some l => .ok (.vec l)
        | .none => bad
    else bad
  | .s i => ok k.s (.sca i)
  | .sx2 =>
    if k.sx then
      let i := (v.y.x[(2 : Fin 4)]).toNat
      if i < 32 then .ok (.sca (Fin.ofNat 32 i)) else .error (v.trap cIDXBOUND i)
    else bad
  | .m i => ok k.m (.msk i)
  | .zero => ok k.zero .zero
  | .one => ok k.one .one
  | .mone => ok k.mone .mone
  | .lane => ok k.lane .lane
  | .reserved => bad

/-- 03 R67: the word queue that a scalar register is mapped onto. -/
def Warp.mapped (y : Warp) (i : Fin 32) : Option DWord := if 28 ≤ i.val then y.qmap[Fin.ofNat 4 (i.val - 28)] else .none

/-- A destination: as a source, but a queue-mapped register traps with ILLOPND (03 R67). -/
def View.resolveDst (v : View) (k : Kinds) (wide : Bool) (o : Opnd) : Except Stop Loc := do
  let l ← v.resolve { k with one := false, mone := false, lane := false } wide o
  match l with
  | .sca i => if (v.y.mapped i).isSome then .error (v.trap cILLOPND) else .ok l
  | _ => .ok l

/-! ## Word queues (06 R121 to R123) -/

/-- What a pop of a word queue answers. -/
inductive Pop where
  /-- a word, and the state with HEAD advanced -/
  | got (s : State) (w : DWord)
  /-- HEAD = TAIL and PROD = 0 -/
  | dry
  /-- no word yet -/
  | empty
  /-- a page migrates first -/
  | park (va : Nat)
  /-- a fatal fault or uncorrectable data -/
  | fail (code addr : Nat)
  /-- uncorrectable data in the page tables -/
  | tables

/-- The header of a word queue as read (06 R121). -/
structure QHdr where
  /-- HEAD -/
  head : Nat
  /-- TAIL -/
  tail : Nat
  /-- CAP -/
  cap : Nat
  /-- PROD -/
  prod : Nat
  deriving DecidableEq, Repr

/-- Reads a header at a system physical address. -/
def State.qHdr (s : State) (pa : Nat) : QHdr :=
  { head := s.engRd pa 8, tail := s.engRd (pa + 8) 8, cap := s.engRd (pa + 16) 4, prod := s.engRd (pa + 20) 4 }

/-- The virtual address of the ring word of a count. -/
def QHdr.slot (h : QHdr) (hdr n : Nat) : Nat := hdr + 128 + 8 * (n % max h.cap 1)

/-- 06 R123: pops one word of the queue at a header. -/
def State.popQueue (s : State) (core : Nat) (c : Fin 64) (user : Bool) (hdr : Nat) : Pop :=
  match s.ptrTo core c user hdr 128 true with
  | .park => .park (hdr % 2 ^ 56)
  | .fail k => .fail k hdr
  | .uncorr => .tables
  | .ok pa e =>
    let h := s.qHdr pa
    if s.engBad pa 128 then .fail cUNCORR hdr
    else if h.head = h.tail then (if h.prod = 0 then .dry else .empty)
    else
      let va := h.slot hdr h.head
      match s.ptrTo core c user va 8 false with
      | .park => .park (va % 2 ^ 56)
      | .fail k => .fail k va
      | .uncorr => .tables
      | .ok pw e2 =>
        let w := s.engRd pw 8
        let s1 := ((s.tlbFill core c (hdr % 2 ^ 56) e).tlbFill core c (va % 2 ^ 56) e2).l2Access pw 8 false
        .got ((s1.homeWrite core pa (leBytes 8 (h.head + 1))).acquire core 5) (BitVec.ofNat 64 w)

/-- 06 R123: a pop of a fragment is the next to be served: no older pop of the queue that is still to be made waits. An older pop waits until it
is made, also once its fragment has been woken; one whose fragment is gone, goes on elsewhere, has been split or merged, has its register unmapped,
or is stopped by a trap, waits no longer. -/
def State.popTurn (s : State) (c : Fin 64) (hdr : DWord) (g w : Nat) (mask : Word) : Bool :=
  let live := fun (p : PopWait) =>
    match s.warp p.g p.w with
    | some y => y.running.any (fun f => decide (f.mask = p.mask) && decide (f.next = p.pc)) && y.qmap.toList.contains (some p.hdr)
    | .none => false
  match s.popWaits.find? (fun p => decide (p.ctx = c.val) && decide (p.hdr = hdr) && live p) with
  | some p => decide (p.g = g) && decide (p.w = w) && decide (p.mask = mask)
  | .none => true

/-- 06 R123: a fragment takes its place among those that wait for a word. -/
def State.addPopWait (s : State) (p : PopWait) : State := if s.popWaits.contains p then s else { s with popWaits := s.popWaits ++ [p] }

/-- A fragment that has its word waits no longer. -/
def State.delPopWait (s : State) (p : PopWait) : State := { s with popWaits := s.popWaits.filter (fun q => q != p) }

/-! ## Readiness (03 R62, R63, R66, R67) -/

/-- A source to be read: what it names, its wait bit, its operand code. -/
structure Rd where
  /-- what it names -/
  loc : Loc
  /-- its wait bit -/
  wait : Bool
  /-- its 7-bit operand code -/
  code : Nat

/-- 10 R219: the warp's entry window. -/
def Warp.entryWin (y : Warp) : Option Window := y.wins.find? (fun w => w.depth == 0)

/-- 02 R47, 10 R219: the physical register in which a number lives. -/
def Warp.numReg (y : Warp) (k : Fin 8) : Option Nat :=
  let d := y.n[k].desc.toNat
  if d / 2 ^ 126 = 1 then y.entryWin.bind (fun w => w.regs[d % 128]?) else .none

/-- The states of the registers a location names; a number in a register shares that register's (02 R47). -/
def Warp.fills (y : Warp) : Loc → List Fill
  | .vec l => l.map (fun n => (y.vreg n).fill)
  | .sca i => [y.s[i].fill]
  | .num k => y.n[k].fill :: (y.numReg k).toList.map (fun p => (y.vreg p).fill)
  | _ => []

/-- The cause code of an orphan (19 R433). -/
def Orphan.code : Orphan → Nat
  | .orphan => cORPHAN
  | .rfault => cRFAULT
  | .rtimeout => cRTIMEOUT

/-- How the sources looked at so far stand. -/
structure Ready where
  /-- the view with the words popped so far -/
  v : View
  /-- the trap met first -/
  trap : Option Stop
  /-- a source blocks -/
  block : Bool
  /-- the state in which the fragment waits if it does -/
  waits : State
  /-- mapped registers that have been looked at, and whether the queue of each was found empty -/
  seen : List (Fin 32 × Bool)

/-- 03 R63, 19 R432: a source is read as with wait bit 1: its wait bit is 1, and no RETRY of EMPTY holds for its operand code. -/
def Frag.strict (f : Frag) (wait : Bool) (code : Nat) : Bool := wait && decide (f.nowait ≠ some code)

/-- 03 R67: the register of a mapped scalar after a pop: the word, which is also what it holds as an ordinary scalar. -/
def Warp.popWord (y : Warp) (i : Fin 32) (w : DWord) : Warp :=
  { y with s := y.s.set i { val := w, fill := .full }, popped := y.popped.set (Fin.ofNat 4 (i.val - 28)) w }

/-- 03 R67: a read of a dry queue: it returns 0 and sets EOS, and pops nothing. -/
def Warp.popDry (y : Warp) (i : Fin 32) : Warp :=
  { y with s := y.s.set i { val := 0, fill := .full }, flags := setEos y.flags }

/-- 03 R67: a read of a queue-mapped register. -/
def Ready.popReg (r : Ready) (i : Fin 32) (hdr : DWord) (wait : Bool) (code : Nat) : Ready :=
  let v := r.v
  let me : PopWait := { ctx := v.c, hdr := hdr, g := v.r.g, w := v.r.w, mask := v.f.mask, pc := v.pc }
  let stop := fun (t : Stop) => { r with trap := r.trap <|> some t, seen := (i, false) :: r.seen }
  let empty : Ready := if v.f.strict wait code then { stop (v.trap cEMPTY code) with seen := (i, true) :: r.seen }
    else { r with block := true, waits := r.waits.addPopWait me, seen := (i, true) :: r.seen }
  let put := fun (s : State) (y : Warp) =>
    let s1 := s.delPopWait me
    { r with v := { v with s := s1.modWarp v.r.g v.r.w (fun _ => y), y := y }, seen := (i, false) :: r.seen }
  match v.s.popQueue v.core v.c (decide (v.y.plvl = 0)) hdr.toNat with
  | .got s w => if v.s.popTurn v.c hdr v.r.g v.r.w v.f.mask then put s (v.y.popWord i w) else empty
  | .dry => if mXtrap v.y.mode then stop (v.trap cQDRY) else put v.s (v.y.popDry i)
  | .empty => empty
  | .park va => { r with block := true, waits := r.waits.addFault v.c (vpage va) (coreDie v.core) .none, seen := (i, false) :: r.seen }
  | .fail k a => stop (v.trap k a)
  | .tables => stop .tables

/-- 03 R63: one source. -/
def Ready.look (r : Ready) (d : Rd) : Ready :=
  let plain : Ready :=
    (r.v.y.fills d.loc).foldl (fun r f =>
      match f with
      | .full => r
      | .orphaned o => { r with trap := r.trap <|> some (r.v.trap o.code d.code) }
      | .empty => if r.v.f.strict d.wait d.code then { r with trap := r.trap <|> some (r.v.trap cEMPTY d.code) } else { r with block := true }) r
  match d.loc with
  | .sca i => match r.v.y.mapped i with
    | some h => match r.seen.find? (fun e => e.1 = i) with
      | some (_, dry) => if dry && r.v.f.strict d.wait d.code then { r with trap := r.trap <|> some (r.v.trap cEMPTY d.code) } else r
      | .none => r.popReg i h d.wait d.code
    | .none => plain
  | _ => plain

/-- 03 R63, R67: the sources of an instruction are checked together; the view answered holds the words popped. -/
def View.sources (v : View) (rds : List Rd) : Except Stop View :=
  let r := rds.foldl Ready.look { v := v, trap := .none, block := false, waits := v.base, seen := [] }
  match r.trap with
  | some t => .error t
  | .none => if r.block then .error (.wait r.waits true) else .ok r.v

/-- 03 R64: an instruction whose destination is EMPTY does not issue. -/
def View.destReady (v : View) (l : Loc) : Except Stop Unit :=
  if (v.y.fills l).contains .empty then .error v.hold else .ok ()

/-! ## Reading -/

/-- The scalar value of a location: registers whole, masks zero-extended, constants in 64 bits. -/
def Warp.scalarVal (y : Warp) : Loc → DWord
  | .sca i => y.s[i].val
  | .msk i => (y.m[i]).setWidth 64
  | .one => 1
  | .mone => BitVec.allOnes 64
  | _ => 0

/-- The 32 lanes of one register, or of a pair as 64-bit values. -/
def Warp.lanesOf (y : Warp) : List Nat → Vector Nat 32
  | [a] => (y.vreg a).lanes.map BitVec.toNat
  | a :: b :: _ =>
    let lo := (y.vreg a).lanes
    let hi := (y.vreg b).lanes
    Vector.ofFn (fun (i : Fin 32) => lo[i].toNat + 2 ^ 32 * hi[i].toNat)
  | [] => Vector.replicate 32 0

/-- 03 R53, R54: the value of a source in each lane, as the low w bits of a pattern of type t. -/
def View.laneVals (v : View) (t : Nat) (l : Loc) : Vector Nat 32 :=
  let w := tyWidth t
  let md := v.y.mode
  let const := fun (k : Int) => constOf t (mRnd md) (mSat md) 0x8000 k
  match l with
  | .vec names => (v.y.lanesOf names).map (fun x => x % 2 ^ w)
  | .sca i => Vector.replicate 32 (v.y.s[i].val.toNat % 2 ^ w)
  | .msk i => Vector.replicate 32 ((v.y.m[i]).toNat % 2 ^ w)
  | .zero | .num _ => Vector.replicate 32 0
  | .one => Vector.replicate 32 (const 1)
  | .mone => Vector.replicate 32 (if (4 ≤ t ∧ t ≤ 7) ∨ t = 16 then 2 ^ w - 1 else const (-1))
  | .lane => Vector.ofFn (fun (i : Fin 32) => const i.val)

/-- 09 R180: the active lanes: the fragment's, narrowed by the guard. -/
def View.active (v : View) : Word := v.lanes &&& v.y.guard

/-! ## Writing -/

/-- Writes a scalar register FULL. -/
def Warp.setS (y : Warp) (i : Fin 32) (x : DWord) : Warp := { y with s := y.s.set i { val := x, fill := .full } }

/-- Writes a mask register. -/
def Warp.setM (y : Warp) (i : Fin 8) (x : Word) : Warp := { y with m := y.m.set i x }

/-- Writes the lanes of a physical register that a mask names, and leaves it FULL. -/
def Warp.setV (y : Warp) (n : Nat) (mask : Word) (f : Fin 32 → Word) : Warp :=
  { y with phys := tmod y.phys n (fun r =>
      { lanes := Vector.ofFn (fun i => if mask.getLsbD i then f i else r.lanes[i]), fill := .full }) }

/-- Writes lane values of a type to a register or a pair: the pattern extended to 32 bits (02 R26), or the two halves. -/
def Warp.setLanes (y : Warp) (names : List Nat) (mask : Word) (t : Nat) (x : Vector Nat 32) : Warp :=
  match names with
  | [a] => y.setV a mask (fun i => BitVec.ofNat 32 (extend32 t x[i]))
  | a :: b :: _ => (y.setV a mask (fun i => BitVec.ofNat 32 x[i])).setV b mask (fun i => BitVec.ofNat 32 (x[i] / 2 ^ 32))
  | [] => y

/-- 09 R184: writes a scalar result: a scalar register, the low bits to a mask register, or nowhere. -/
def Warp.setScalar (y : Warp) (l : Loc) (x : DWord) : Warp :=
  match l with
  | .sca i => y.setS i x
  | .msk i => y.setM i (x.setWidth 32)
  | _ => y

/-- Marks the registers of a location EMPTY (03 R62). -/
def Warp.setEmpty (y : Warp) (l : Loc) : Warp :=
  match l with
  | .vec names => { y with phys := names.foldl (fun p n => tmod p n (fun r => { r with fill := .empty })) y.phys }
  | .sca i => { y with s := y.s.set i { y.s[i] with fill := .empty } }
  | _ => y

/-- 03 R54: a fixed-kind field names one of eight. -/
def View.idx8 (v : View) (x : BitVec 7) : Except Stop (Fin 8) :=
  if x.toNat < 8 then .ok (Fin.ofNat 8 x.toNat) else .error (v.trap cILLOPND)

/-- 03 R54: a fixed-kind field names one of four. -/
def View.idx4 (v : View) (x : BitVec 7) : Except Stop (Fin 4) :=
  if x.toNat < 4 then .ok (Fin.ofNat 4 x.toNat) else .error (v.trap cILLOPND)

/-- The source a field names, to be read with a wait bit. -/
def View.rd (v : View) (k : Kinds) (wide : Bool) (o : Opnd) (wait : Bool) : Except Stop Rd := do
  let l ← v.resolve k wide o
  .ok { loc := l, wait := wait, code := o.toCode.toNat }

/-- The mask of the lanes that meet a condition. -/
def maskOf (p : Fin 32 → Bool) : Word :=
  BitVec.ofNat 32 ((List.finRange 32).foldl (fun n i => n + (if p i then 2 ^ i.val else 0)) 0)

/-- The lanes of a mask, lowest first. -/
def lanesIn (m : Word) : List Nat := (List.range 32).filter (fun i => m.getLsbD i)

/-- ETYPE in force. -/
def View.et (v : View) : Nat := mEtype v.y.mode

/-- 03 R60: the instruction takes none of the narrow and block types. -/
def View.plainType (v : View) : Except Stop Unit := if tyNarrow v.et then .error (v.trap cILLTYPE) else .ok ()

end Sys2Proof.Machine
end

