-- ==== Sys2Proof/Machine/Fetch.lean ====
section
/-! DEFINITION. Code words: the code section of a launch with its patches, literal pools, and the fetch of an instruction
(03 R48, R68, R69). -/

namespace Sys2Proof.Machine

/-- The address of code word 0 of a kernel. -/
def Kernel.code (k : Kernel) : Nat := k.addr + k.codeOff

/-- 03 R68: the pool that holds a code word. -/
def Kernel.pool (k : Kernel) (wi : Nat) : Option (Nat × Nat) := k.pools.find? (fun p => decide (p.1 ≤ wi) && decide (wi < p.1 + p.2))

/-- 03 R69: the parameter word that overlays a code word. -/
def Kernel.patched (k : Kernel) (wi : Nat) : Option Word :=
  (k.patches.find? (fun p => decide (p.code ≤ wi) && decide (wi < p.code + p.count))).map (fun p => k.params.getD (p.param + (wi - p.code)) 0)

/-- Reads four bytes of a context's memory through a core. -/
def State.fetchCore (s : State) (core : Nat) (c : Fin 64) (va : Nat) (user : Bool) : Fetch Nat :=
  match s.xlateCore core c va false user with
  | .ok pa _ => if s.engBad pa 4 then .bad cUNCORR else .got (s.engRd pa 4)
  | .fail k => .bad k
  | .park => .park (vpage va)
  | .uncorr => .tables

/-- A word of a kernel's code section as its launch sees it (03 R69). The model holds no instruction cache: a fetch of a line that has been rewritten
while the launch runs gets the new words, of the two that 07 R132 lets it get (DESIGN CHOICE, log entry 58). -/
def State.codeWord (s : State) (core : Nat) (c : Fin 64) (k : Kernel) (wi : Nat) (user : Bool) : Fetch Nat :=
  match k.patched wi with
  | some w => .got w.toNat
  | none => s.fetchCore core c (k.code + 4 * wi) user

/-- What fetching an instruction answers. -/
inductive Fetched where
  /-- the word -/
  | word (w : Word)
  /-- the fetch traps with a cause and FADDR -/
  | trap (code addr : Nat)
  /-- a page migrates first -/
  | park (va : Nat)
  /-- uncorrectable data in the page tables -/
  | tables
  deriving DecidableEq, Repr

/-- A fetch of memory as the fetch of an instruction. -/
def Fetched.of (f : Fetch Nat) (va : Nat) : Fetched :=
  match f with
  | .got w => .word (BitVec.ofNat 32 w)
  | .bad k => .trap k va
  | .park _ => .park va
  | .tables => .tables

/-- 03 R48: the word at an address for a warp: at PL0 a word of the code section that no pool holds, else ILLOP; at PL1 and PL2 any
word of the context. -/
def State.fetchAt (s : State) (core : Nat) (c : Fin 64) (k : Kernel) (plvl : BitVec 2) (pc : DWord) : Fetched :=
  let va := pc.toNat
  if plvl = 0 then
    let wi := (va - k.code) / 4
    if k.code ≤ va ∧ va < k.code + k.codeSize ∧ (va - k.code) % 4 = 0 ∧ (k.pool wi).isNone then
      Fetched.of (s.codeWord core c k wi true) va
    else .trap cILLOP va
  else Fetched.of (s.fetchCore core c va false) va

/-- The kernel that a view's group runs. -/
def View.kernel (v : View) : Option Kernel := v.launch.map (·.k)

/-- 03 R68: the pool word of a number as loading has read it, none when it could not be read then. -/
def Kernel.literal (k : Kernel) (wi : Nat) : Option Word := (k.pool wi).bind (fun p => (tget k.lits p.1).bind (fun l => l[wi - p.1]?))

/-- 03 R68, R69: a word of a pool of the running kernel, by its code word number: the parameter word that overlays it, or the word as the launch's
loading has read it, which no store changes. -/
def View.poolWord (v : View) (k : Kernel) (wi : Nat) : Except Stop Nat :=
  match k.patched wi, k.literal wi with
  | some w, _ => .ok w.toNat
  | none, some w => .ok w.toNat
  | none, none =>
    match v.base.codeWord v.core v.c k wi (decide (v.y.plvl = 0)) with
    | .got w => .ok w
    | .bad c => .error (v.trap c (k.code + 4 * wi))
    | .park _ => .error (v.parkPage (k.code + 4 * wi))
    | .tables => .error .tables

/-- 03 R68: a number of words from a pool, all inside one. -/
def View.poolWords (v : View) (k : Kernel) (wi n : Nat) : Except Stop (List Nat) :=
  match k.pool wi with
  | some (first, count) =>
    if wi + n ≤ first + count then (List.range n).mapM (fun i => v.poolWord k (wi + i)) else .error (v.trap cILLOPND)
  | none => .error (v.trap cILLOPND)

/-- The code word number at a word offset from the instruction, none when it lies before the code. -/
def View.codeIndex (v : View) (k : Kernel) (off : Int) : Option Nat :=
  let x := ((v.pc.toNat : Int) - k.code) + 4 * off
  if 0 ≤ x then some (x.toNat / 4) else none

/-- The header word before a call target (08 R179): at PL0 a word of the code section, else of the context's memory. -/
def View.headerWord (v : View) (target : DWord) : Except Stop Nat :=
  let va := (target - 4).toNat
  let user := decide (v.y.plvl = 0)
  let go := fun (f : Fetch Nat) => match f with
    | .got w => .ok w
    | .bad c => .error (v.trap c va)
    | .park _ => .error (v.parkPage va)
    | .tables => .error .tables
  if user then
    match v.kernel with
    | some k =>
      if k.code ≤ va ∧ va < k.code + k.codeSize then go (v.base.codeWord v.core v.c k ((va - k.code) / 4) true)
      else .error (v.trap cILLOP)
    | none => .error (v.trap cILLOP)
  else go (v.base.fetchCore v.core v.c va false)

end Sys2Proof.Machine
end

