-- ==== Sys2Proof/Machine/Ctrl.lean ====
section
/-! DEFINITION. The control instructions, CTRL words of major 0x0 (08 R166 to R176). -/

namespace Sys2Proof.Machine

/-- Changes the issuing fragment. -/
def View.withFrag (v : View) (f : Frag → Frag) : Warp := v.y.setSlot v.r.slot ((v.y.slot v.r.slot).map f)

/-- The issuing fragment goes on at an address. -/
def View.jump (v : View) (pc : DWord) : State := v.put (v.withFrag (fun f => { f with pc := pc }))

/-- NOP (R167): no effect. -/
def execNop (s : State) : Host.Outcome State Fault Refusal := issue s (fun v => .ok v.s)

/-- SETMODE (R168, 03 R58). -/
def execSetmode (imm : BitVec 23) (s : State) : Host.Outcome State Fault Refusal := issue s (fun v =>
  match modeCause imm with
  | some c => .error (v.trap c)
  | none => .ok (v.put { v.y with mode := imm }))

/-- RET (R176): back to the caller's window; ILLOP in an entry window, or when JOIN was armed in this window. -/
def execRet (s : State) : Host.Outcome State Fault Refusal := issue s (fun v =>
  let armed := match v.f.join with
    | some j => decide (v.y.joins[j].win = v.f.win)
    | none => false
  match v.win.caller with
  | none => .error (v.trap cILLOP)
  | some c =>
    if armed then .error (v.trap cILLOP)
    else .ok (v.put (v.withFrag (fun f => { f with pc := v.win.ret, win := c })).freeWins))

/-- The lowest free join entry. -/
def Warp.freeJoin (y : Warp) : Option (Fin 16) :=
  ((List.range 16).find? (fun j => !y.joins[Fin.ofNat 16 j].valid)).map (fun j => Fin.ofNat 16 j)

/-- R169: the arming RCV. -/
def View.rcvArm (v : View) (tok : BitVec 22) : Except Stop State :=
  match v.y.freeJoin with
  | none => .error (v.trap cFSTACK)
  | some j =>
    let e : JoinEntry :=
      { valid := true, outer := v.f.join, win := v.f.win, token := tok, expect := v.f.mask, arrived := 0, pc := 0 }
    let y := v.withFrag (fun f => { f with join := some j })
    .ok (v.put { y with joins := y.joins.set j e })

/-- R169: the lanes of a fragment arrive at a join entry; the last to arrive merges. -/
def Warp.arrive (y : Warp) (slot : Bool) (j : Fin 16) (mask : Word) (pc : DWord) : Warp :=
  let e := y.joins[j]
  let e1 : JoinEntry := { e with arrived := e.arrived ||| mask, pc := pc }
  let y1 := y.setSlot slot none
  let y2 := if e1.arrived = e1.expect then Warp.place { y1 with joins := y1.joins.set j JoinEntry.free } slot e1.merged
    else { y1 with joins := y1.joins.set j e1 }
  y2.refill.freeWins

/-- R169: the joining RCV; a NOP when the fragment's entry does not match. -/
def View.rcvJoin (v : View) (tok : BitVec 22) : Except Stop State :=
  match v.f.join with
  | none => .ok v.s
  | some j =>
    if v.y.joins[j].token = tok ∧ v.y.joins[j].win = v.f.win then
      .ok (v.put (v.y.arrive v.r.slot j v.f.mask (((v.y.slot v.r.slot).map (·.pc)).getD 0)))
    else .ok v.s

/-- RCV (R169). -/
def execRcv (arm : Bool) (tok : BitVec 22) (s : State) : Host.Outcome State Fault Refusal :=
  issue s (fun v => if arm then v.rcvArm tok else v.rcvJoin tok)

/-- 14 R319: an access that has not ended. -/
def LaneState.open_ : LaneState → Bool
  | .todo => true
  | .parked => true
  | .remote _ => true
  | _ => false

/-- R171: an earlier memory instruction of some lanes has an access that has not ended. -/
def State.memOpen (s : State) (g w : Nat) (lanes : Word) : Bool :=
  s.memops.any (fun e => decide (e.2.g = g) && decide (e.2.w = w) && decide (e.2.mask &&& lanes ≠ 0) && e.2.lanes.any (fun l => l.st.open_))

/-- 10 R239: the operation is an NLD that has its limbs still to read: of the operations that copy one value, only an NLD reads limbs and no register. -/
def NumOp.loads (o : NumOp) : Bool := decide (o.fn = .copy) && o.srcs.isEmpty && o.args.any (fun a => match a with
  | .heap _ _ _ => true
  | .val _ => false)

/-- 10 R239: an NLD of a warp has limbs still to read. -/
def State.nldOpen (s : State) (g w : Nat) : Bool := s.numops.any (fun e => decide (e.2.g = g) && decide (e.2.w = w) && e.2.loads)

/-- 14 R343: data of a warp that have left for their destination as log traffic or as exchange stores and have not been performed there: packets of its
copies to other nodes, and its exchange stores. -/
def State.logOpen (s : State) (g w : Nat) : Bool :=
  s.remotes.any (fun e => e.2.copy.isSome && decide (e.2.g = g) && decide (e.2.w = w)) ||
  s.exchs.any (fun e => decide (e.2.g = g) && decide (e.2.w = w))

/-- 01 R23, 14 R334, R343: a release of some lanes has to wait: an earlier access of theirs, or data of their warp of another class, has still to be
performed. -/
def State.releaseWaits (s : State) (g w : Nat) (lanes : Word) : Bool := s.memOpen g w lanes || s.nldOpen g w || s.logOpen g w

/-- 14 R341: an address of a context leads to memory of another node. -/
def State.remoteAddr (s : State) (c : Fin 64) (va : Nat) (user : Bool) : Bool := match s.xlate c va true user with
  | .ok pa _ => !s.isLocal pa
  | _ => false

/-- 08 R170, 14 R341: the remote stores and atomics of a warp that have been issued and not yet been sent. -/
def State.remoteDue (s : State) (g w : Nat) : Nat :=
  (s.memops.map (fun e => match e.2.kind, e.2.space with
    | .store, .mem _ | .spk, .mem _ | .atomic _, .mem _ =>
      if e.2.g = g ∧ e.2.w = w then
        (e.2.lanes.filter (fun l => decide (l.st = .todo) && s.remoteAddr (s.ctxOf g) l.addr e.2.user)).length
      else 0
    | _, _ => 0)).sum

/-- WAITC (R170): waits until the selected counts are at most N, REM counting the remote stores and atomics that have no response, also those
still to be sent; then reports and clears their errors; an acquire at SYSTEM. -/
def execWaitc (rem copy : Bool) (n : BitVec 8) (s : State) : Host.Outcome State Fault Refusal := issue s (fun v =>
  let y := v.y
  let sum := (if copy then y.copyN else 0) + (if rem then y.remN + v.s.remoteDue v.r.g v.r.w else 0)
  let errs := (if copy then y.ecopy else 0) + (if rem then y.erem else 0)
  if n.toNat < sum then .error v.park
  else
    let y1 := { y with flags := setZNCV y.flags (decide (errs = 0)) false false false,
                       ecopy := if copy then 0 else y.ecopy, erem := if rem then 0 else y.erem }
    .ok ((v.put y1).acquire v.core 6))

/-- A PENDING warp is on a core. -/
def State.pendingOn (s : State) (core : Nat) : Bool :=
  (s.onCore core).any (fun e => e.2.warps.any (fun y => decide (y.sched = .pending)))

/-- YIELD (R167): an ACTIVE warp that is in no trap gives its active slot to a PENDING one. -/
def execYield (s : State) : Host.Outcome State Fault Refusal := issue s (fun v =>
  if v.y.sched = .active ∧ !v.y.intrap ∧ v.s.pendingOn v.core then .ok (v.s.setSched v.r.g v.r.w .pending) else .ok v.s)

/-- EXIT (R171, R158): ends the fragment's lanes once its memory instructions have ended; the last lane ends the warp. -/
def execExit (s : State) : Host.Outcome State Fault Refusal := issue s (fun v =>
  if v.s.memOpen v.r.g v.r.w v.f.mask then .error v.hold
  else
    let y := v.y.exitLanes v.r.slot
    let s1 := v.put y
    if y.lanesLeft = 0 then .ok ((s1.endWarp v.r.g v.r.w 0x81 false).exitGroup v.r.g) else .ok s1)

/-- The lowest set bit of a mask. -/
def lowestBit (m : Word) : Word := m &&& (0 - m)

/-- ELECT (R172): the lowest candidate lane into m[k]. -/
def execElect (k : BitVec 3) (s : State) : Host.Outcome State Fault Refusal := issue s (fun v =>
  let c := v.active &&& ~~~v.y.helper
  .ok (v.put { v.y.setM (Fin.ofNat 8 k.toNat) (lowestBit c) with flags := setZ v.y.flags (decide (c = 0)) }))

/-- The destination of a literal load, once it is not EMPTY. -/
def View.litDst (v : View) (k : Kinds) (d : Opnd) : Except Stop Loc := v.resolveDst k false d

/-- R173: writes a literal into every lane, or into a scalar or mask. -/
def Warp.setLit (y : Warp) (l : Loc) (x : Nat) : Warp :=
  match l with
  | .vec names => y.setLanes names (BitVec.allOnes 32) 6 (Vector.replicate 32 x)
  | l => y.setScalar l (BitVec.ofNat 64 x)

/-- The kernel and code word that a literal load reads first. -/
def View.litAt (v : View) (off : BitVec 16) : Except Stop (Kernel × Nat) :=
  match v.kernel with
  | none => .error (v.trap cILLOPND)
  | some k => match v.codeIndex k off.toInt with
    | some wi => .ok (k, wi)
    | none => .error (v.trap cILLOPND)

/-- LDL (R173). -/
def execLdl (d : Opnd) (off : BitVec 16) (s : State) : Host.Outcome State Fault Refusal := issue s (fun v => do
  let l ← v.litDst { kVSZ with m := true } d
  let (k, wi) ← v.litAt off
  let ws ← v.poolWords k wi 1
  v.destReady l
  .ok (v.put (v.y.setLit l (ws.headD 0))))

/-- LDL2 (R173): a pair of words at an even offset into a scalar register. -/
def execLdl2 (d : Opnd) (off : BitVec 16) (s : State) : Host.Outcome State Fault Refusal := issue s (fun v => do
  let l ← v.litDst kS d
  let (k, wi) ← v.litAt off
  if wi % 2 = 1 then .error (v.trap cALIGN (k.code + 4 * wi))
  else do
    let ws ← v.poolWords k wi 2
    v.destReady l
    .ok (v.put (v.y.setLit l (ws.headD 0 + 2 ^ 32 * ws.getD 1 0))))

/-- LDLN (R173): a counted list of words into the lanes of a vector register. -/
def execLdln (d : Opnd) (off : BitVec 16) (s : State) : Host.Outcome State Fault Refusal := issue s (fun v => do
  let l ← v.litDst kVO d
  let (k, wi) ← v.litAt off
  let c := (← v.poolWords k wi 1).headD 0
  if c < 1 ∨ 32 < c then .error (v.trap cILLOPND)
  else do
    let ws ← v.poolWords k wi (c + 1)
    v.destReady l
    let x : Vector Nat 32 := Vector.ofFn (fun i => (ws.drop 1).getD i.val 0)
    match l with
    | .vec names => .ok (v.put (v.y.setLanes names (BitVec.allOnes 32) 6 x))
    | _ => .error (v.trap cILLOPND))

/-- TRAP (R174): enters the handler with SWTRAP and the code in FADDR. -/
def execTrap (imm : BitVec 23) (s : State) : Host.Outcome State Fault Refusal :=
  issue s (fun v => .error (.trap cSWTRAP .software imm.toNat v.f.mask))

/-- BKPT (R174): enters the handler with BKPT and the code in FADDR. -/
def execBkpt (imm : BitVec 23) (s : State) : Host.Outcome State Fault Refusal :=
  issue s (fun v => .error (.trap cBKPT .software imm.toNat v.f.mask))

/-- JMPS (R175): jumps by the signed byte offset in a scalar register. -/
def execJmps (k : BitVec 5) (s : State) : Host.Outcome State Fault Refusal := issue s (fun v => do
  let i : Fin 32 := Fin.ofNat 32 k.toNat
  let v ← v.sources [{ loc := .sca i, wait := false, code := 80 + i.val }]
  let x := v.y.s[i].val
  if x.toNat % 4 ≠ 0 then .error (v.trap cALIGN (v.pc + x).toNat)
  else .ok (v.jump (v.pc + x)))

end Sys2Proof.Machine
end

