-- ==== Sys2Proof/Machine/Route.lean ====
section
/-! DEFINITION. Packets, flits and routes: how a packet becomes flits, which link or port it leaves by, and how one is put on its first hop
(18 R405 to R411, R417, R418, R422, R423; 01 R8, R9). -/

namespace Sys2Proof.Machine

/-! ## Flits (18 R406, R407) -/

/-- 18 R406: one bit of the CRC-32 of IEEE 802.3, least significant bit first. -/
def crcBit (c : Word) : Word := if c.getLsbD 0 then (c >>> 1) ^^^ 0xEDB88320#32 else c >>> 1

/-- One byte of the CRC-32. -/
def crcByte (c : Word) (b : Byte) : Word :=
  crcBit (crcBit (crcBit (crcBit (crcBit (crcBit (crcBit (crcBit (c ^^^ b.setWidth 32))))))))

/-- 18 R406: the CRC-32 of some bytes. -/
def crc32 (l : List Byte) : Word := l.foldl crcByte (BitVec.allOnes 32) ^^^ BitVec.allOnes 32

/-- CLASS of a packet's flits (18 R406). -/
def LinkClass.code : LinkClass → Nat
  | .spark => 0
  | .ember => 1
  | .log => 2

/-- 18 R406: a flit of a class with its numbers and its FCRC. -/
def mkFlit (cls : Nat) (first last : Bool) (fseq ack : Nat) (data : List Byte) : Flit :=
  let ctl := cls * 2 ^ 30 + b2n first * 2 ^ 29 + b2n last * 2 ^ 28 + fseq % 16384 * 2 ^ 14 + ack % 16384
  { ctl := BitVec.ofNat 32 ctl, data := data, fcrc := crc32 (leBytes 4 ctl ++ data) }

/-- CLASS. -/
def Flit.cls (f : Flit) : Nat := bits f.ctl 31 30
/-- FIRST. -/
def Flit.first (f : Flit) : Bool := f.ctl.getLsbD 29
/-- LAST. -/
def Flit.last (f : Flit) : Bool := f.ctl.getLsbD 28
/-- FSEQ. -/
def Flit.fseq (f : Flit) : BitVec 14 := BitVec.ofNat 14 (bits f.ctl 27 14)
/-- ACKSEQ. -/
def Flit.ack (f : Flit) : BitVec 14 := BitVec.ofNat 14 (bits f.ctl 13 0)

/-- 18 R406: the FCRC of a flit is right. -/
def Flit.good (f : Flit) : Bool := f.fcrc == crc32 (leBytes 4 f.ctl.toNat ++ f.data)

/-- A flit whose bits the wire has changed. -/
def Flit.hit (f : Flit) (noise : BitVec 512) : Flit :=
  let x := BitVec.ofNat 512 (leNat (leBytes 4 f.ctl.toNat ++ (f.data ++ List.replicate 56 0).take 56 ++ leBytes 4 f.fcrc.toNat)) ^^^ noise
  { ctl := BitVec.ofNat 32 (bits x 31 0), data := leBytes 56 (bits x 479 32), fcrc := BitVec.ofNat 32 (bits x 511 480) }

/-- 18 R407: the flits that a packet takes. -/
def Packet.count (p : Packet) : Nat := (16 + p.data.length + 55) / 56

/-- 18 R407: header and data of a packet, filled up with zeros to whole flits. -/
def Packet.bytes (p : Packet) : List Byte :=
  let l := leBytes 4 p.dst.toNat ++ leBytes 4 p.src.toNat ++ leBytes 2 p.pseq.toNat ++ [p.type, BitVec.ofNat 8 (p.count % 16 + 16 * (p.hops % 16))] ++
    leBytes 4 p.tag.toNat ++ p.data
  l ++ List.replicate (56 * p.count - l.length) 0

/-- 18 R410: the flits of a packet; FSEQ, ACKSEQ and FCRC are filled in when each is sent. -/
def Packet.flits (p : Packet) : List Flit :=
  (List.range p.count).map (fun i => mkFlit p.cls.code (i == 0) (i + 1 == p.count) 0 0 ((p.bytes.drop (56 * i)).take 56))

/-- 18 R411: the packet that the flits of a class make. -/
def packetFrom (cls : LinkClass) (l : List Flit) : Packet :=
  let b := (l.map (·.data)).flatten
  let f := fun (o n : Nat) => leNat ((b.drop o).take n)
  { cls := cls, dst := BitVec.ofNat 32 (f 0 4), src := BitVec.ofNat 32 (f 4 4), pseq := BitVec.ofNat 16 (f 8 2), type := BitVec.ofNat 8 (f 10 1),
    hops := f 11 1 / 16, tag := BitVec.ofNat 32 (f 12 4), data := b.drop 16 }

/-! ## Directions of links -/

/-- 18 R405, 01 R8: the link of two dies. -/
def linkOf (a b : Nat) : Nat :=
  let lo := min a b
  let hi := max a b
  if lo = 0 then hi - 1 else if lo = 1 then hi + 1 else 5

/-- The two dies of a die-to-die link, the lower first. -/
def linkDies (k : Nat) : Nat × Nat := match k with
  | 0 => (0, 1)
  | 1 => (0, 2)
  | 2 => (0, 3)
  | 3 => (1, 2)
  | 4 => (1, 3)
  | _ => (2, 3)

/-- The link of a direction: 2 x link, plus 1 for the direction to the lower die, or into the module. -/
def dirLink (d : Nat) : Fin 18 := Fin.ofNat 18 (d / 2)

/-- The die at which a direction's receiver stands, none outside the module. -/
def dirTo (d : Nat) : Option Nat :=
  if d / 2 < 6 then some (if d % 2 = 0 then (linkDies (d / 2)).2 else (linkDies (d / 2)).1)
  else if d % 2 = 0 then none else some ((d / 2 - 6) / 3)

/-- One direction. -/
def State.dir (s : State) (d : Nat) : LinkDir := if d % 2 = 0 then s.links[dirLink d].out else s.links[dirLink d].inn

/-- Changes a link. -/
def State.modLink (s : State) (k : Fin 18) (f : Link → Link) : State := { s with links := s.links.set k (f s.links[k]) }

/-- Changes one direction. -/
def State.modDir (s : State) (d : Nat) (f : LinkDir → LinkDir) : State :=
  s.modLink (dirLink d) (fun l => if d % 2 = 0 then { l with out := f l.out } else { l with inn := f l.inn })

/-! ## Routes (01 R8, 18 R417, R418, R422) -/

/-- 18 R420: routes avoid the link. -/
def Link.dead (l : Link) : Bool := decide (l.st = .failed) || decide (l.st = .retired)

/-- 18 R422: the Geten port by which traffic for a node leaves, none when no port is usable: PRIM, or ALT while PRIM is FAILED or RETIRED. -/
def State.getenPort (s : State) (node : Nat) : Option Nat :=
  let x := s.bar (0x360100 + 2 * node) 2
  let dead := fun (p : Nat) => s.links[Fin.ofNat 18 (6 + p)].dead
  let prim := x % 16
  let alt := x / 16 % 16
  if prim ≤ 11 ∧ !dead prim then (if x / 256 % 2 = 1 then some prim else none)
  else if prim ≤ 11 ∧ x / 512 % 2 = 1 ∧ alt ≤ 11 ∧ !dead alt then some alt
  else none

/-- 01 R8, 18 R417: the direction in which traffic for another die leaves a die: the direct link, or a route through a third die. When two third dies
can serve, the spec names none of them: the model takes the lower-numbered one (DESIGN CHOICE, log entry 58). -/
def State.toDie (s : State) (here there : Nat) : Option Nat :=
  let ok := fun (a b : Nat) => !s.links[Fin.ofNat 18 (linkOf a b)].dead
  let go := fun (a b : Nat) => 2 * linkOf a b + (if a < b then 0 else 1)
  if ok here there then some (go here there)
  else ((List.range 4).find? (fun c => c != here && c != there && ok here c && ok c there)).map (go here)

/-- 18 R418: traffic between two dies has a route. -/
def State.joined (s : State) (a b : Nat) : Bool := decide (a = b) || (s.toDie a b).isSome

/-- What becomes of a packet at a die. -/
inductive Hop where
  /-- it is at its destination die -/
  | here
  /-- it goes on in this direction -/
  | go (dir : Nat)
  /-- it has no route (R418) -/
  | none
  deriving DecidableEq, Repr

/-- Node, and die, that a packet is for. -/
def Packet.to (p : Packet) : Nat × Nat := (bits p.dst 31 24, bits p.dst 23 22)

/-- Node, and die, that a packet comes from. -/
def Packet.from_ (p : Packet) : Nat × Nat := (bits p.src 31 24, bits p.src 23 22)

/-- 18 R422, R423: where a packet goes from a die. -/
def State.hopOf (s : State) (die : Nat) (p : Packet) : Hop :=
  let via := fun (d : Nat) => match s.toDie die d with
    | some k => Hop.go k
    | none => Hop.none
  if p.to.1 = s.node then (if p.to.2 = die then .here else via p.to.2)
  else match s.getenPort p.to.1 with
    | none => .none
    | some q => if q / 3 = die then .go (2 * (6 + q)) else via (q / 3)

/-- 18 R418, R422: traffic for another node has a route from a die. -/
def State.routable (s : State) (die node : Nat) : Bool := match s.getenPort node with
  | none => false
  | some q => s.joined die (q / 3)

/-! ## Events of the Frado controller (20 R443) -/

/-- 20 R443: the event log takes an entry; of more than 120 the oldest is overwritten. -/
def State.eventLog (s : State) (kind index reason : Nat) : State :=
  let l := s.persist.log ++ [(s.now, kind, index, reason)]
  { s with persist := { s.persist with log := l.drop (l.length - 120) } }

/-- 18 R418: the lost connection is recorded. -/
def State.lostRoute (s : State) : State :=
  (({ s with persist := { s.persist with lost := s.persist.lost + 1 } } : State).eventLog 5 0 3).manage 0

/-! ## Stations (01 R13 to R17) -/

/-- 01 R13, 18 R407: a station of this node. -/
structure Station where
  /-- die -/
  die : Nat
  /-- quadrant of the die -/
  quad : Nat
  /-- on the S ring pair, else on the C ring pair -/
  s : Bool
  /-- station number -/
  num : Nat
  deriving DecidableEq, Repr

/-- 18 R407: a station as DST and SRC hold it, below the node. -/
def Station.word (x : Station) : Nat := x.die * 2 ^ 22 + x.quad * 2 ^ 20 + b2n x.s * 2 ^ 19 + x.num * 2 ^ 14

/-- 18 R407: the station that DST or SRC names. -/
def stationAt (w : Word) : Station := { die := bits w 23 22, quad := bits w 21 20, s := w.getLsbD 19, num := bits w 18 14 }

/-- 01 R13: the station of a core. -/
def coreStation (core : Nat) : Station := { die := coreDie core, quad := coreQuad core % 4, s := false, num := core % 18 }

/-- 01 R13: the station of a copy engine, by 16 x quadrant + engine. -/
def engineStation (k : Nat) : Station := { die := k / 64, quad := k / 16 % 4, s := true, num := 21 + k % 16 / 4 }

/-- 01 R13, R14: the station of the slice that a local address belongs to. -/
def State.sliceStation (s : State) (p : Nat) : Station :=
  let x := s.sliceOf p
  { die := x / 64, quad := x % 64 / 16, s := true, num := x % 16 }

/-- 01 R15: the flue station of a packet whose final destination is a station. -/
def flueOf (x : Station) : Nat := (x.num + x.quad + x.die) % 4

/-- 01 R15: the key of a flue station 0 to 3, or of the gate station, 4; direction 0 leads away from the cores. -/
def stationKey (die quad dir num : Nat) : Nat := 10 * (4 * die + quad) + 5 * dir + num

/-- 01 R15: the first buffer that a packet from a station to a place outside the quadrant enters: the gate station from the S rings, else a flue
station. A packet for another node has its destination on the spine. -/
def State.firstKey (s : State) (x : Station) (p : Packet) : Nat :=
  if x.s then stationKey x.die x.quad 0 4
  else stationKey x.die x.quad 0
    (if p.to.1 = s.node then flueOf (stationAt p.dst) else flueOf { die := x.die, quad := x.quad, s := true, num := 31 })

/-- The packets in a station's buffers. -/
def State.atStation (s : State) (key : Nat) : List Packet := tgetD s.stations key []

/-- The flits of a class that some packets take. -/
def flitsOf (l : List Packet) (k : LinkClass) : Nat := ((l.filter (fun p => p.cls == k)).map Packet.count).sum

/-- 01 R16: a station's buffer has room for a packet's flits. -/
def State.stationRoom (s : State) (key : Nat) (p : Packet) : Bool := decide (flitsOf (s.atStation key) p.cls + p.count ≤ 16)

/-- A packet enters a station's buffer. -/
def State.toStation (s : State) (key : Nat) (p : Packet) : State := { s with stations := tput s.stations key (s.atStation key ++ [p]) }

/-- The oldest packet of a class leaves a station's buffer. -/
def State.offStation (s : State) (key : Nat) (k : LinkClass) : State :=
  let l := (s.atStation key).eraseP (fun p => p.cls == k)
  { s with stations := if l.isEmpty then tdel s.stations key else tput s.stations key l }

/-- 18 R407: a packet from a station of this node. Its PSEQ is given when it reaches a link. -/
def State.packet (s : State) (x : Station) (node : Nat) (to_ : Station) (cls : LinkClass) (type tag : Nat) (data : List Byte) : Packet :=
  { cls := cls, dst := BitVec.ofNat 32 (node * 2 ^ 24 + to_.word), src := BitVec.ofNat 32 (s.node * 2 ^ 24 + x.word), pseq := 0,
    type := BitVec.ofNat 8 type, hops := 0, tag := BitVec.ofNat 32 tag, data := data }

/-- 18 R409, 01 R16: a source has room for a packet at its first hop. -/
def State.canSend (s : State) (x : Station) (p : Packet) : Bool := s.stationRoom (s.firstKey x p) p

/-- A packet leaves a station of this node. -/
def State.sendFrom (s : State) (x : Station) (p : Packet) : State := s.toStation (s.firstKey x p) p

/-- 18 R407, R422: the place of a local address of another node, of which this node knows the die. -/
def farStation (p : Nat) : Station := { die := homeDie p, quad := 0, s := false, num := 0 }

/-! ## What a request carries (log entry 42) -/

/-- The data of a request: address, size, what is asked, an extra value (the first bit of an element, a context, or TE), MODE, and bytes. -/
def reqData (addr n op extra mode : Nat) (b : List Byte) : List Byte :=
  leBytes 8 addr ++ leBytes 2 n ++ leBytes 1 op ++ leBytes 1 extra ++ leBytes 4 mode ++ b

/-- What is asked: a plain access, CPYX data, a CPYX flag, a signal add, a part of a byte, or 16 + the code of an atomic. -/
def opPlain : Nat := 0
/-- CPYX data -/
def opCpyx : Nat := 1
/-- CPYX flag -/
def opFlag : Nat := 2
/-- signal add of a QSIG -/
def opSignal : Nat := 3

/-- a store of a part of a byte -/
def opPart : Nat := 4

/-- 18 R424: the code of an atomic in a request. -/
def AtOp.code : AtOp → Nat
  | .add => 0
  | .min => 1
  | .max => 2
  | .and => 3
  | .or => 4
  | .xor => 5
  | .swp => 6
  | .cas => 7

/-- The address that a request carries. -/
def Packet.addr (p : Packet) : Nat := leNat (p.data.take 8)
/-- Its size. -/
def Packet.size (p : Packet) : Nat := leNat ((p.data.drop 8).take 2)
/-- What it asks. -/
def Packet.op (p : Packet) : Nat := leNat ((p.data.drop 10).take 1)
/-- Its extra value. -/
def Packet.extra (p : Packet) : Nat := leNat ((p.data.drop 11).take 1)
/-- Its MODE. -/
def Packet.mode (p : Packet) : Nat := leNat ((p.data.drop 12).take 4)
/-- n of its bytes. -/
def Packet.bytesOf (p : Packet) (n : Nat) : List Byte := (p.data.drop 16).take n

/-- The packet is a request, which asks for an answer (18 R407). -/
def Packet.asks (p : Packet) : Bool := decide (p.type = 0) || decide (p.type = 2) || decide (p.type = 3) || decide (p.type = 6)

/-- 01 R15: the station at which a packet for a die of this node ends; none for CPYX traffic, whose address the die translates first. -/
def State.endStation (s : State) (p : Packet) : Option Station :=
  if p.asks then (if p.op = opCpyx ∨ p.op = opFlag then none else some (s.sliceStation p.addr)) else some (stationAt p.dst)

/-! ## Links accept packets (18 R409, R417, R420) -/

/-- Flits of a class in progress. -/
def LinkDir.inProgress (d : LinkDir) : LinkClass → List Flit
  | .spark => d.spark
  | .ember => d.ember
  | .log => d.log

/-- 18 R409, R414: flits of a class that a receiver's buffer takes, and those that a retry buffer keeps. -/
def bufferSize (dir : Nat) : Nat := if dir / 2 < 6 then 4096 else 8192

/-- 18 R409: flits of a class that have left the sender and stand in the receiver's buffer, those of a partial packet among them. -/
def LinkDir.credited (d : LinkDir) (k : LinkClass) : Nat :=
  tgetD d.buffered k.code 0 + (tgetD d.partials k.code []).length + (d.wire.filter (fun f => f.cls == k.code)).length

/-- 18 R409, R420: a direction of a link takes a packet: it is not QUIESCING, and its hop has room for the packet's flits. -/
def State.dirRoom (s : State) (dir : Nat) (p : Packet) : Bool :=
  let d := s.dir dir
  decide (s.links[dirLink dir].st ≠ .quiescing) &&
    decide (flitsOf d.queue p.cls + (d.inProgress p.cls).length + d.credited p.cls + p.count ≤ bufferSize dir)

/-- 18 R417, R420: a packet is put on a direction of a link; on a QUIESCING one it waits. -/
def State.enqueue (s : State) (d : Nat) (p : Packet) : State :=
  s.modDir d (fun x => if s.links[dirLink d].st = .quiescing then { x with held := x.held ++ [p] } else { x with queue := x.queue ++ [p] })

/-- The key of a triple (18 R407, R417). -/
def tripleKey (a node b cls : Nat) : Nat := 4 * (4 * (256 * a + node) + b) + cls

/-- 18 R407: a packet of a die of this node takes the next PSEQ of its triple as it leaves the die. -/
def State.stamp (s : State) (die : Nat) (p : Packet) : State × Packet :=
  if p.from_ = (s.node, die) then
    let k := tripleKey die p.to.1 p.to.2 p.cls.code
    let q := tgetD s.psend k 0
    ({ s with psend := tput s.psend k ((q + 1) % 65536) }, { p with pseq := BitVec.ofNat 16 q })
  else (s, p)

/-- A packet leaves a die in a direction. -/
def State.depart (s : State) (die dir : Nat) (p : Packet) : State :=
  let (t, q) := s.stamp die p
  t.enqueue dir q

end Sys2Proof.Machine
end

