-- ==== Sys2Proof/Machine/Lane.lean ====
section
/-! DEFINITION. The operations on one value that SALU, VALU, EXPR, the exchanges and the atomics share, each on the pattern of a
type under the fields of MODE (09 R184, R185, R190, R191, R195, R197, R203, R211). -/

namespace Sys2Proof.Machine

/-- The fields of MODE that a value operation reads. -/
structure Md where
  /-- type code -/
  t : Nat
  /-- RND -/
  rnd : Nat
  /-- SAT -/
  sat : Bool
  /-- FTZ -/
  ftz : Bool
  deriving DecidableEq, Repr

/-- The integer value of a pattern. -/
def Md.int (m : Md) (x : Nat) : Int := intVal (tySigned m.t) (tyWidth m.t) x
/-- 02 R27. -/
def Md.fit (m : Md) (v : Int) : Nat := intFit (tySigned m.t) m.sat (tyWidth m.t) v
/-- The exact value of a floating-point pattern. -/
def Md.dec (m : Md) (x : Nat) : FV := decodeVal m.t m.ftz 0x8000 x
/-- Rounds a value once to the type. -/
def Md.enc (m : Md) (v : FV) : Nat := encodeFloat m.t m.rnd m.ftz false v
/-- The sign bit of the type. -/
def Md.top (m : Md) : Nat := 2 ^ (tyWidth m.t - 1)

/-- ADD -/
def laneAdd (m : Md) (a b : Nat) : Nat := if tyFloat m.t then m.enc ((m.dec a).add m.rnd (m.dec b)) else m.fit (m.int a + m.int b)
/-- SUB -/
def laneSub (m : Md) (a b : Nat) : Nat :=
  if tyFloat m.t then m.enc ((m.dec a).add m.rnd (m.dec b).negate) else m.fit (m.int a - m.int b)
/-- MUL -/
def laneMul (m : Md) (a b : Nat) : Nat := if tyFloat m.t then m.enc ((m.dec a).mul (m.dec b)) else m.fit (m.int a * m.int b)
/-- MULH: the high half of the exact product. -/
def laneMulh (m : Md) (a b : Nat) : Nat := ofInt (tyWidth m.t) (m.int a * m.int b / 2 ^ tyWidth m.t)
/-- FMA: one rounding; a multiply-add for an integer type. -/
def laneFma (m : Md) (a b c : Nat) : Nat :=
  if tyFloat m.t then m.enc (((m.dec a).mul (m.dec b)).add m.rnd (m.dec c)) else m.fit (m.int a * m.int b + m.int c)
/-- MIN -/
def laneMin (m : Md) (a b : Nat) : Nat :=
  if tyFloat m.t then floatMinMax false m.t m.ftz a b else if m.int a ≤ m.int b then a else b
/-- MAX -/
def laneMax (m : Md) (a b : Nat) : Nat :=
  if tyFloat m.t then floatMinMax true m.t m.ftz a b else if m.int b ≤ m.int a then a else b
/-- ABS: the sign bit cleared, or the exact magnitude fitted. -/
def laneAbs (m : Md) (a : Nat) : Nat :=
  if tyFloat m.t then a % m.top else if tySigned m.t then m.fit ((m.int a).natAbs : Int) else a
/-- NEG: the sign bit inverted, or the exact negation fitted. -/
def laneNeg (m : Md) (a : Nat) : Nat :=
  if tyFloat m.t then (if a < m.top then a + m.top else a - m.top) else m.fit (-(m.int a))
/-- SHL of w bits: zeros from bit 0; 0 for a count of w or more. -/
def laneShl (w a b : Nat) : Nat := if w ≤ b then 0 else a * 2 ^ b % 2 ^ w
/-- SHR of w bits: zeros from the top. -/
def laneShr (w a b : Nat) : Nat := if w ≤ b then 0 else a / 2 ^ b
/-- SAR of w bits: copies of the top bit. -/
def laneSar (w a b : Nat) : Nat := ofInt w (toSigned w a / 2 ^ min b w)
/-- Leading zero bits of w. -/
def laneClz (w a : Nat) : Nat := w - bitLen (a % 2 ^ w)
/-- One bits of w. -/
def lanePopc (w a : Nat) : Nat := (List.range w).foldl (fun n i => n + a / 2 ^ i % 2) 0
/-- DIV of floating-point types. -/
def laneFdiv (m : Md) (a b : Nat) : Nat := m.enc ((m.dec a).div (m.dec b))
/-- DIV of integer types by a divisor other than 0, toward zero. -/
def laneIdiv (m : Md) (a b : Nat) : Nat := m.fit (Int.tdiv (m.int a) (m.int b))
/-- A function of one floating-point value. -/
def laneFn (m : Md) (g : FV → FV) (a : Nat) : Nat := m.enc (g (m.dec a))
/-- RCP -/
def laneRcp (m : Md) (a : Nat) : Nat := laneFn m (fun x => (FV.fin false 1 0).div x) a

/-- The compare relations. -/
inductive Rel where
  /-- equal -/
  | eq
  /-- less -/
  | lt
  /-- less or equal -/
  | le
  /-- not equal -/
  | ne
  deriving DecidableEq, Repr

/-- A relation on the order of two values. -/
def Rel.holds (r : Rel) (c : Int) : Bool :=
  match r with
  | .eq => decide (c = 0)
  | .lt => decide (c < 0)
  | .le => decide (c ≤ 0)
  | .ne => decide (c ≠ 0)

/-- 09 R192: a compare of two patterns. -/
def laneCmp (m : Md) (r : Rel) (a b : Nat) : Bool :=
  if tyFloat m.t then
    let x := m.dec a
    let y := m.dec b
    if x.isNan || y.isNan then decide (r = .ne) else r.holds (x.cmp y)
  else r.holds (m.int a - m.int b)

/-- The reductions of WRED, WSCAN and CRED. -/
inductive RedOp where
  /-- sum -/
  | add
  /-- minimum -/
  | min
  /-- maximum -/
  | max
  /-- bitwise and -/
  | and
  /-- bitwise or -/
  | or
  /-- bitwise exclusive or -/
  | xor
  deriving DecidableEq, Repr

/-- 09 R211: the reduction of a code. -/
def redOf (k : Nat) : Option RedOp :=
  match k with
  | 0 => some .add
  | 1 => some .min
  | 2 => some .max
  | 3 => some .and
  | 4 => some .or
  | 5 => some .xor
  | _ => none

/-- 09 R212: combines two patterns. -/
def RedOp.combine (m : Md) (o : RedOp) (a b : Nat) : Nat :=
  match o with
  | .add => laneAdd m a b
  | .min => laneMin m a b
  | .max => laneMax m a b
  | .and => a &&& b
  | .or => a ||| b
  | .xor => a ^^^ b

/-- 09 R211: the identity of a reduction. -/
def RedOp.ident (m : Md) (o : RedOp) : Nat :=
  let w := tyWidth m.t
  match o with
  | .add => 0
  | .or => 0
  | .xor => 0
  | .and => 2 ^ w - 1
  | .min => if tyFloat m.t then encodeFloat m.t 0 false false (.inf false) else ofInt w (hiBound (tySigned m.t) w)
  | .max => if tyFloat m.t then encodeFloat m.t 0 false false (.inf true) else ofInt w (loBound (tySigned m.t) w)

/-! ## Expression programs (03 R71, 09 R203) -/

/-- Token j of a program. -/
def exprTok (p : DWord) (j : Nat) : Nat := p.toNat / 16 ^ j % 16

/-- What a token takes off the stack, and whether it is an operator. -/
def tokPops (t : Nat) : Nat :=
  if t < 5 then 0 else if t = 11 ∨ t = 12 then 1 else if t = 8 ∨ t = 15 then 3 else 2

/-- 03 R71: the program from token j on, `n` to go, with a stack depth and a count of operators, is valid. -/
def exprOkFrom (p : DWord) : Nat → Nat → Nat → Nat → Bool
  | 0, _, depth, ops => decide (depth = 1) && decide (ops ≤ 7)
  | n + 1, j, depth, ops =>
    let t := exprTok p j
    if t = 0 then decide (depth = 1) && decide (ops ≤ 7) && decide (p.toNat / 16 ^ j = 0)
    else if t < 5 then decide (depth < 4) && exprOkFrom p n (j + 1) (depth + 1) ops
    else decide (tokPops t ≤ depth) && exprOkFrom p n (j + 1) (depth + 1 - tokPops t) (ops + 1)

/-- 03 R71: the program is valid. -/
def exprOk (p : DWord) : Bool := exprOkFrom p 16 0 0 0

/-- The tokens before the first END. -/
def exprToks (p : DWord) : List Nat := ((List.range 16).map (exprTok p)).takeWhile (fun t => t != 0)

/-- 09 R203: k counts as nonzero. -/
def laneNonzero (m : Md) (k : Nat) : Bool := if tyFloat m.t then !(m.dec k).isZero else decide (k ≠ 0)

/-- 09 R203: one token on a stack, top first. -/
def exprStep (m : Md) (a b c d : Nat) (st : List Nat) (t : Nat) : List Nat :=
  match t, st with
  | 1, st => a :: st
  | 2, st => b :: st
  | 3, st => c :: st
  | 4, st => d :: st
  | 5, y :: x :: r => laneAdd m x y :: r
  | 6, y :: x :: r => laneSub m x y :: r
  | 7, y :: x :: r => laneMul m x y :: r
  | 8, z :: y :: x :: r => laneFma m x y z :: r
  | 9, y :: x :: r => laneMin m x y :: r
  | 10, y :: x :: r => laneMax m x y :: r
  | 11, x :: r => laneNeg m x :: r
  | 12, x :: r => laneAbs m x :: r
  | 13, y :: x :: r => (x &&& y) :: r
  | 14, y :: x :: r => (x ^^^ y) :: r
  | 15, k :: y :: x :: r => (if laneNonzero m k then x else y) :: r
  | _, st => st

/-- 09 R203: the program in one lane. -/
def exprLane (m : Md) (p : DWord) (a b c d : Nat) : Nat := ((exprToks p).foldl (exprStep m a b c d) []).headD 0

end Sys2Proof.Machine
end

