-- ==== Sys2Proof/Machine/Salu.lean ====
section
/-! DEFINITION. The scalar instructions, SALU words of major 0x1 (09 R184 to R189). -/

namespace Sys2Proof.Machine

/-- 09 R182: SALU takes signedness alone from ETYPE. -/
def scalarSigned (t : Nat) : Bool := !(decide (4 ≤ t) && decide (t ≤ 7))

/-- The value operations of SALU: 64 bits, the signedness of ETYPE. -/
def View.md64 (v : View) : Md := { t := if scalarSigned v.et then 3 else 7, rnd := 0, sat := mSat v.y.mode, ftz := false }

/-- A scalar instruction of two sources: the result and FLAGS from the warp and the two values. -/
def View.scalar2 (v : View) (d a b : Opnd) (wa wb : Bool) (f : Warp → DWord → DWord → DWord × Byte) : Except Stop State := do
  let l ← v.resolveDst kScalarD false d
  let ra ← v.rd kScalar false a wa
  let rb ← v.rd kScalar false b wb
  v.plainType
  let v ← v.sources [ra, rb]
  v.destReady l
  let (x, fl) := f v.y (v.y.scalarVal ra.loc) (v.y.scalarVal rb.loc)
  .ok (v.put { v.y.setScalar l x with flags := fl })

/-- A scalar instruction of one source that leaves FLAGS. -/
def View.scalar1 (v : View) (d a : Opnd) (wa : Bool) (f : DWord → DWord) : Except Stop State := do
  let l ← v.resolveDst kScalarD false d
  let ra ← v.rd kScalar false a wa
  v.plainType
  let v ← v.sources [ra]
  v.destReady l
  .ok (v.put (v.y.setScalar l (f (v.y.scalarVal ra.loc))))

/-- An operation on patterns of 64 bits that leaves FLAGS. -/
def View.scalarOp (v : View) (d a b : Opnd) (wa wb : Bool) (f : Nat → Nat → Nat) : Except Stop State :=
  v.scalar2 d a b wa wb (fun y x z => (BitVec.ofNat 64 (f x.toNat z.toNat), y.flags))

/-- 09 R186: a scalar compare. -/
def View.scalarCmp (v : View) (r : Rel) (d a b : Opnd) (wa wb : Bool) : Except Stop State :=
  let m := v.md64
  v.scalar2 d a b wa wb (fun y x z =>
    let t := laneCmp m r x.toNat z.toNat
    (BitVec.ofNat 64 (b2n t), cmpFlags y.flags (scalarSigned v.et) t x z))

/-- 09 R189: a combination of two masks, which sets Z. -/
def View.maskOp (v : View) (d a b : Opnd) (wa wb : Bool) (f : Word → Word → Word) : Except Stop State :=
  v.scalar2 d a b wa wb (fun y x z =>
    let w := f (x.setWidth 32) (z.setWidth 32)
    (w.setWidth 64, setZ y.flags (decide (w = 0))))

/-- MOV (R184). -/
def execSaluMov (d a : Opnd) (wa : Bool) (s : State) : Host.Outcome State Fault Refusal := issue s (fun v => v.scalar1 d a wa id)
/-- ADD (R184). -/
def execSaluAdd (d a b : Opnd) (wa wb : Bool) (s : State) : Host.Outcome State Fault Refusal :=
  issue s (fun v => v.scalarOp d a b wa wb (laneAdd v.md64))
/-- SUB (R184). -/
def execSaluSub (d a b : Opnd) (wa wb : Bool) (s : State) : Host.Outcome State Fault Refusal :=
  issue s (fun v => v.scalarOp d a b wa wb (laneSub v.md64))
/-- MUL (R184). -/
def execSaluMul (d a b : Opnd) (wa wb : Bool) (s : State) : Host.Outcome State Fault Refusal :=
  issue s (fun v => v.scalarOp d a b wa wb (laneMul v.md64))
/-- MULH (R184). -/
def execSaluMulh (d a b : Opnd) (wa wb : Bool) (s : State) : Host.Outcome State Fault Refusal :=
  issue s (fun v => v.scalarOp d a b wa wb (laneMulh v.md64))

/-- MAD (R184): d is a source too. -/
def execSaluMad (d a b : Opnd) (wa wb : Bool) (s : State) : Host.Outcome State Fault Refusal := issue s (fun v => do
  let l ← v.resolveDst kScalarD false d
  let ra ← v.rd kScalar false a wa
  let rb ← v.rd kScalar false b wb
  v.plainType
  let v ← v.sources [{ loc := l, wait := false, code := d.toCode.toNat }, ra, rb]
  let x := laneFma v.md64 (v.y.scalarVal ra.loc).toNat (v.y.scalarVal rb.loc).toNat (v.y.scalarVal l).toNat
  .ok (v.put (v.y.setScalar l (BitVec.ofNat 64 x))))

/-- MIN (R184). -/
def execSaluMin (d a b : Opnd) (wa wb : Bool) (s : State) : Host.Outcome State Fault Refusal :=
  issue s (fun v => v.scalarOp d a b wa wb (laneMin v.md64))
/-- MAX (R184). -/
def execSaluMax (d a b : Opnd) (wa wb : Bool) (s : State) : Host.Outcome State Fault Refusal :=
  issue s (fun v => v.scalarOp d a b wa wb (laneMax v.md64))
/-- ABS (R184). -/
def execSaluAbs (d a : Opnd) (wa : Bool) (s : State) : Host.Outcome State Fault Refusal :=
  issue s (fun v => v.scalar1 d a wa (fun x => BitVec.ofNat 64 (laneAbs v.md64 x.toNat)))
/-- NEG (R184). -/
def execSaluNeg (d a : Opnd) (wa : Bool) (s : State) : Host.Outcome State Fault Refusal :=
  issue s (fun v => v.scalar1 d a wa (fun x => BitVec.ofNat 64 (laneNeg v.md64 x.toNat)))
/-- AND (R184). -/
def execSaluAnd (d a b : Opnd) (wa wb : Bool) (s : State) : Host.Outcome State Fault Refusal :=
  issue s (fun v => v.scalarOp d a b wa wb (fun x y => x &&& y))
/-- OR (R184). -/
def execSaluOr (d a b : Opnd) (wa wb : Bool) (s : State) : Host.Outcome State Fault Refusal :=
  issue s (fun v => v.scalarOp d a b wa wb (fun x y => x ||| y))
/-- XOR (R184). -/
def execSaluXor (d a b : Opnd) (wa wb : Bool) (s : State) : Host.Outcome State Fault Refusal :=
  issue s (fun v => v.scalarOp d a b wa wb (fun x y => x ^^^ y))
/-- SHL (R185). -/
def execSaluShl (d a b : Opnd) (wa wb : Bool) (s : State) : Host.Outcome State Fault Refusal :=
  issue s (fun v => v.scalarOp d a b wa wb (laneShl 64))
/-- SHR (R185). -/
def execSaluShr (d a b : Opnd) (wa wb : Bool) (s : State) : Host.Outcome State Fault Refusal :=
  issue s (fun v => v.scalarOp d a b wa wb (laneShr 64))
/-- SAR (R185). -/
def execSaluSar (d a b : Opnd) (wa wb : Bool) (s : State) : Host.Outcome State Fault Refusal :=
  issue s (fun v => v.scalarOp d a b wa wb (laneSar 64))
/-- CMPEQ (R186). -/
def execSaluCmpeq (d a b : Opnd) (wa wb : Bool) (s : State) : Host.Outcome State Fault Refusal :=
  issue s (fun v => v.scalarCmp .eq d a b wa wb)
/-- CMPLT (R186). -/
def execSaluCmplt (d a b : Opnd) (wa wb : Bool) (s : State) : Host.Outcome State Fault Refusal :=
  issue s (fun v => v.scalarCmp .lt d a b wa wb)
/-- CMPLE (R186). -/
def execSaluCmple (d a b : Opnd) (wa wb : Bool) (s : State) : Host.Outcome State Fault Refusal :=
  issue s (fun v => v.scalarCmp .le d a b wa wb)
/-- CMPNE (R186). -/
def execSaluCmpne (d a b : Opnd) (wa wb : Bool) (s : State) : Host.Outcome State Fault Refusal :=
  issue s (fun v => v.scalarCmp .ne d a b wa wb)
/-- SEL (R184): a when Z = 0, else b. -/
def execSaluSel (d a b : Opnd) (wa wb : Bool) (s : State) : Host.Outcome State Fault Refusal :=
  issue s (fun v => v.scalar2 d a b wa wb (fun y x z => (if fZ y.flags then z else x, y.flags)))

/-- CVT (R187): from the integer type in the b field to ETYPE. -/
def execSaluCvt (d a : Opnd) (ty : BitVec 7) (wa : Bool) (s : State) : Host.Outcome State Fault Refusal := issue s (fun v => do
  let l ← v.resolveDst kScalarD false d
  let ra ← v.rd kScalar false a wa
  if 8 ≤ ty.toNat ∨ 8 ≤ v.et then .error (v.trap cILLTYPE)
  else do
    let v ← v.sources [ra]
    v.destReady l
    let x := intVal (tySigned ty.toNat) (tyWidth ty.toNat) (v.y.scalarVal ra.loc).toNat
    let r := intFit (tySigned v.et) (mSat v.y.mode) (tyWidth v.et) x
    .ok (v.put (v.y.setScalar l (BitVec.ofNat 64 (extend64 v.et r)))))

/-- ADDC (R186). -/
def execAddc (d a b : Opnd) (wa wb : Bool) (s : State) : Host.Outcome State Fault Refusal :=
  issue s (fun v => v.scalar2 d a b wa wb (fun y x z => addcOf y.flags x z))
/-- SUBB (R186). -/
def execSubb (d a b : Opnd) (wa wb : Bool) (s : State) : Host.Outcome State Fault Refusal :=
  issue s (fun v => v.scalar2 d a b wa wb (fun y x z => subbOf y.flags x z))
/-- ROT (R184): a rotated left by b mod 64. -/
def execRot (d a b : Opnd) (wa wb : Bool) (s : State) : Host.Outcome State Fault Refusal :=
  issue s (fun v => v.scalar2 d a b wa wb (fun y x z => (x.rotateLeft (z.toNat % 64), y.flags)))

/-- The scalar that RDLANE delivers for a lane of some registers (R188). -/
def Warp.laneScalar (y : Warp) (regs : List Nat) (lane et : Nat) : DWord :=
  BitVec.ofNat 64 (extend64 et ((y.lanesOf regs).toList.getD lane 0))

/-- RDLANE (R188): one lane of a vector register into a scalar; ahead of an EMPTY register it issues at once. -/
def execRdlane (d a b : Opnd) (wa wb : Bool) (s : State) : Host.Outcome State Fault Refusal := issue s (fun v => do
  let l ← v.resolveDst kScalarD false d
  let ra ← v.rd kV (tyWide v.et) a wa
  let rb ← v.rd kScalar false b wb
  v.plainType
  let fs := v.y.fills ra.loc
  let ahead := fs.contains .empty && !fs.any (fun f => match f with
    | .orphaned _ => true
    | _ => false) && !v.f.strict wa a.toCode.toNat
  let v ← v.sources (if ahead then [rb] else [ra, rb])
  let i := (v.y.scalarVal rb.loc).toNat
  if 32 ≤ i then .error (v.trap cIDXBOUND i)
  else do
    v.destReady l
    let regs := match ra.loc with
      | .vec ns => ns
      | _ => []
    if ahead then
      match l with
      | .sca k =>
        let y := v.y.setEmpty l
        .ok { v.put { y with laneReads := y.laneReads ++ [{ id := v.s.uid, regs := regs, lane := i, dst := k, etype := v.et }] } with
              uid := v.s.uid + 1 }
      | .msk _ => .error v.park
      | _ => .ok (v.put v.y)
    else .ok (v.put (v.y.setScalar l (v.y.laneScalar regs i v.et))))

/-- MAND (R189). -/
def execMand (d a b : Opnd) (wa wb : Bool) (s : State) : Host.Outcome State Fault Refusal :=
  issue s (fun v => v.maskOp d a b wa wb (fun x y => x &&& y))
/-- MOR (R189). -/
def execMor (d a b : Opnd) (wa wb : Bool) (s : State) : Host.Outcome State Fault Refusal :=
  issue s (fun v => v.maskOp d a b wa wb (fun x y => x ||| y))
/-- CLZ (R184). -/
def execSaluClz (d a : Opnd) (wa : Bool) (s : State) : Host.Outcome State Fault Refusal :=
  issue s (fun v => v.scalar1 d a wa (fun x => BitVec.ofNat 64 (laneClz 64 x.toNat)))
/-- POPC (R184). -/
def execSaluPopc (d a : Opnd) (wa : Bool) (s : State) : Host.Outcome State Fault Refusal :=
  issue s (fun v => v.scalar1 d a wa (fun x => BitVec.ofNat 64 (lanePopc 64 x.toNat)))
/-- MXOR (R189). -/
def execMxor (d a b : Opnd) (wa wb : Bool) (s : State) : Host.Outcome State Fault Refusal :=
  issue s (fun v => v.maskOp d a b wa wb (fun x y => x ^^^ y))

/-- IDXSET (R189): the low byte of a into an index register. -/
def execIdxset (xk : BitVec 7) (a : Opnd) (wa : Bool) (s : State) : Host.Outcome State Fault Refusal := issue s (fun v => do
  let k ← v.idx4 xk
  let ra ← v.rd kSxC false a wa
  v.plainType
  let v ← v.sources [ra]
  .ok (v.put { v.y with x := v.y.x.set k ((v.y.scalarVal ra.loc).setWidth 8) }))

end Sys2Proof.Machine
end

