-- ==== Sys2Proof/Machine/Access.lean ====
section
/-! DEFINITION. How a memory instruction in flight is performed: lanes, locks, tags, L1 and L2, atomics, remote accesses, the end of
the instruction and its write-back (14 R313 to R346, 15 R355 to R357, 12 R283, R285). -/

namespace Sys2Proof.Machine

/-! ## What an instruction in flight does -/

/-- The instruction writes memory. -/
def MemKind.writes : MemKind → Bool
  | .store => true
  | .spk => true
  | .atomic _ => true
  | .tagst => true
  | _ => false

/-- The instruction is an atomic. -/
def MemKind.isAtomic : MemKind → Bool
  | .atomic _ => true
  | _ => false

/-- TAGLD or TAGST (15 R368). -/
def MemKind.isTag : MemKind → Bool
  | .tagld => true
  | .tagst => true
  | _ => false

/-- The type in which it accesses: ETYPE at issue; 8 bits for a tag, whose ETYPE plays no part. -/
def MemOp.type (m : MemOp) : Nat := if m.kind.isTag then 4 else mEtype m.mode

/-- A 4-bit type or a mantissa (14 R323). -/
def tySub (t : Nat) : Bool := decide (14 ≤ t)

/-- 14 R313: the bytes that an element at a bit of a byte takes. -/
def elemBytes (t bit : Nat) : Nat := (bit + tyWidth t + 7) / 8

/-- 14 R333: a synchronisation access. -/
def MemOp.sync (m : MemOp) : Bool := m.acq || m.rel || m.kind.isAtomic || decide (m.kind = .acqr)

/-- 14 R313, 15 R368: the first byte and the bytes that a lane's access names: an element, or for a tag the granule. -/
def MemOp.span (m : MemOp) (l : LaneAcc) : Nat × Nat := if m.kind.isTag then (l.addr / 32 * 32, 32) else (l.addr, elemBytes m.type l.bit)

/-- 14 R318: a lane of an instruction names bytes that a lane of another names. -/
def MemOp.overlaps (m n : MemOp) : Bool :=
  let same := match m.space, n.space with
    | .mem _, .mem _ => true
    | .spad, .spad => true
    | .xlive, .xlive => true
    | .numa, .numa => true
    | _, _ => false
  same && m.lanes.any (fun a => n.lanes.any (fun b => b.st.open_ &&
    decide ((m.span a).1 < (n.span b).1 + (n.span b).2) && decide ((n.span b).1 < (m.span a).1 + (m.span a).2)))

/-- 14 R341: a warp has an access at another node that no response has answered. -/
def State.remoteOpen (s : State) (g w : Nat) : Bool :=
  s.remotes.any (fun e => decide (e.2.g = g) && decide (e.2.w = w) && e.2.inside.isNone)

/-- 14 R332, R334, R336, R337, R343: an instruction may be performed now: its fragment's earlier accesses leave it room. An instruction some of
whose lanes have failed holds nothing back. -/
def State.mayPerform (s : State) (m : MemOp) : Bool :=
  let before := (m.deps.filterMap (tget s.memops)).filter (fun d => !d.failed && d.lanes.any (fun l => l.st.open_))
  before.all (fun d => !d.acq && !m.rel && !(m.sync && d.sync) && !m.overlaps d) &&
    !(m.rel && s.logOpen m.g m.w) && !((m.rel || m.kind.writes) && s.nldOpen m.g m.w) &&
    !(m.rel && decide (m.scope = 6) && s.remoteOpen m.g m.w)

/-- The core that performs the accesses of a group; none for one that has been killed. A group that has been moved off its core performs
none. -/
def Group.performs (g : Group) : Option (Option Nat) :=
  if g.st = .killed ∨ g.st = .exited then some none else if g.onCore then some g.core else none

/-! ## Scratchpad windows (14 R331, 13 R303) -/

/-- The exchange bank that is live. -/
def Group.live (g : Group) : Memory := if g.live1 then g.bank1 else g.bank0

/-- The bytes of a window and the offset of the warp in them. -/
def Group.window (g : Group) (w : Nat) : Space → Memory × Nat
  | .spad => (g.spad, 0)
  | .xlive => (g.live, 0)
  | .numa => (g.numa, w * g.sched.numarea * 1024)
  | .mem _ => ([], 0)

/-- Reads n bytes of a window. -/
def Group.winRd (g : Group) (w : Nat) (sp : Space) (a n : Nat) : Nat := Memory.rd (g.window w sp).1 ((g.window w sp).2 + a) n

/-- Writes n bytes of a window. -/
def Group.winWr (g : Group) (w : Nat) (sp : Space) (a n v : Nat) : Group :=
  let m := Memory.wr (g.window w sp).1 ((g.window w sp).2 + a) n v
  match sp with
  | .spad => { g with spad := m }
  | .xlive => if g.live1 then { g with bank1 := m } else { g with bank0 := m }
  | .numa => { g with numa := m }
  | .mem _ => g

/-- 12 R285: a line of the group region that a range meets is absent. -/
def Group.absentAt (g : Group) (a n : Nat) : Bool := g.absent.any (fun e => decide (a / 128 ≤ e.1) && decide (e.1 ≤ (a + n - 1) / 128) && decide (0 < e.2))

/-! ## Elements (14 R313, R316) -/

/-- The element of a type at a bit of some bytes. -/
def elemGet (t bit raw : Nat) : Nat := raw / 2 ^ bit % 2 ^ tyWidth t

/-- Some bytes with the element of a type at a bit replaced. -/
def elemPut (t bit raw v : Nat) : Nat :=
  raw % 2 ^ bit + v % 2 ^ tyWidth t * 2 ^ bit + raw / 2 ^ (bit + tyWidth t) * 2 ^ (bit + tyWidth t)

/-- 14 R326: the value an atomic writes. -/
def atValue (mode : BitVec 23) (op : AtOp) (old v new : Nat) : Nat :=
  let t := mEtype mode
  let m : Md := { t := t, rnd := mRnd mode, sat := mSat mode, ftz := mFtz mode }
  match op with
  | .add => laneAdd m old v
  | .min => laneMin m old v
  | .max => laneMax m old v
  | .and => old &&& v
  | .or => old ||| v
  | .xor => old ^^^ v
  | .swp => v
  | .cas => if old = v then new else old

/-! ## Where an access leads (15 R354 to R357) -/

/-- Where the address of an access leads. -/
inductive Reach where
  /-- a system physical address on a page with TE or without, that a TLB may take up with its leaf -/
  | to (pa : Nat) (te : Bool) (leaf : Option Nat)
  /-- it fails with a cause -/
  | fail (code : Nat)
  /-- its page migrates first -/
  | park
  /-- a table holds uncorrectable data -/
  | tables
  deriving DecidableEq, Repr

/-- 15 R355: an address lies in the pages that the fast path of a base register covers. -/
def BaseReg.covers (b : BaseReg) (a : Nat) : Bool :=
  b.fp && decide (vpage b.va.toNat ≤ vpage a) && decide (vpage a ≤ vpage b.va.toNat + b.lpg.toNat)

/-- 15 R355: the address of a lane through a base register. -/
def State.reach (s : State) (core : Option Nat) (c : Fin 64) (b : BaseReg) (a : Nat) (write user : Bool) : Reach :=
  if !b.valid ∨ 2 ^ 56 ≤ a then .fail cPGPROT
  else if b.covers a then
    if (user && !b.u) || (write && !b.w) then .fail cPGPROT
    else .to (s.node * 2 ^ 48 + (b.frame.toNat + (vpage a - vpage b.va.toNat)) * 2 ^ 14 + a % 2 ^ 14) b.te none
  else
    match (match core with
      | some k => s.xlateCore k c a write user
      | none => s.xlate c a write user) with
    | .ok pa e => .to pa (leafOf e).te (some e)
    | .fail k => .fail k
    | .park => .park
    | .uncorr => .tables

/-- 12 R283: a copy of the context holds a lock that bars the access. The lock covers its lines wherever their page has gone. -/
def State.locked (s : State) (c : Fin 64) (a n : Nat) (write : Bool) : Bool :=
  s.copies.any (fun e => e.2.locks.any (fun l =>
    decide (cfin l.ctx = c) && decide (a / 128 ≤ l.hi) && decide (l.lo ≤ (a + n - 1) / 128) && (write || l.write)))

/-! ## Performing one lane -/

/-- 14 R322, R340: reads n bytes as a load of a scope: at CORE or narrower from the core's L1, which it fills; else at the home. -/
def State.readVia (s : State) (core : Option Nat) (narrow : Bool) (count : Option Nat) (pa n : Nat) : State × Nat :=
  match core, narrow && s.isLocal pa with
  | some k, true =>
    let a := pa / 128 * 128
    match (s.coreAt k).l1Find pa with
    | some l => (s, leNat ((l.data.drop (pa - a)).take n))
    | none =>
      let d := Memory.bytes s.mem (localPart a) 128
      ((s.l2Access a 128 false).modCore k (fun x => x.l1Fill a d count), leNat ((d.drop (pa - a)).take n))
  | _, _ => (s.l2Access pa n false, s.engRd pa n)

/-- 14 R323, 16 R371, R374: writes n bytes at the home and into the core's own L1 copy. -/
def State.writeVia (s : State) (core : Option Nat) (pa n v : Nat) (sub : Bool) : State :=
  let s1 := s.engPutBytes pa (leBytes n v)
  match core with
  | some k => if (s1.coreAt k).l1.isEmpty then s1 else s1.modCore k (fun x => x.l1Store pa (leBytes n v) sub)
  | none => s1

/-- What performing a lane comes to. -/
structure Did where
  /-- the state -/
  s : State
  /-- how the lane stands -/
  st : LaneState
  /-- the line of L1 that a load was served through -/
  line : Option Nat
  /-- a page table holds uncorrectable data -/
  tables : Bool

/-- A lane that changes nothing but how it stands. -/
def State.did (s : State) (st : LaneState) : Did := { s := s, st := st, line := none, tables := false }

/-- 18 R407: TYPE of the request of a memory instruction. -/
def MemKind.packetType : MemKind → Nat
  | .store => 2
  | .spk => 2
  | .tagst => 2
  | .atomic _ => 3
  | .acqr => 6
  | _ => 0

/-- The instruction writes and waits for no result. -/
def MemKind.isStore (k : MemKind) : Bool := k.writes && !k.isAtomic

/-- The die from which an instruction's accesses leave. -/
def coreDieOf (core : Option Nat) : Nat := (core.map coreDie).getD 0

/-- 18 R408: the class of the request of a memory instruction. -/
def MemKind.packetClass (k : MemKind) : LinkClass := if k = .spk ∨ k = .acqr then .spark else .ember

/-- 18 R424: what the request of a lane asks. -/
def MemOp.packetOp (m : MemOp) (l : LaneAcc) : Nat := match m.kind with
  | .atomic op => 16 + op.code
  | k => if k.isStore && (decide (tyWidth m.type % 8 ≠ 0) || decide (l.bit ≠ 0)) then opPart else opPlain

/-- The bytes that the request of a lane carries: a store's data; an atomic's operand, and the new value of a compare and swap. -/
def MemOp.packetBytes (m : MemOp) (l : LaneAcc) (n : Nat) : List Byte := match m.kind with
  | .atomic .cas => leBytes n l.data.toNat ++ leBytes n l.new.toNat
  | k => if k.writes then leBytes n l.data.toNat else []

/-- 14 R341, 18 R418, R426: a lane whose access has no route fails with RFAULT: a store counts in EREM, anything else leaves its destination ORPHANED. -/
def State.noRoute (s : State) (m : MemOp) : Did :=
  if m.kind.isStore then (s.lostRoute.modWarp m.g m.w (fun y => { y with erem := y.erem + 1 })).did (.done 0) else s.lostRoute.did (.orphaned .rfault)

/-- 18 R407, R408: the packet of a lane's access to another node. -/
def State.remotePacket (s : State) (core : Nat) (m : MemOp) (l : LaneAcc) (pa n : Nat) : Packet :=
  s.packet (coreStation core) (pa / 2 ^ 48) (farStation (localPart pa)) m.kind.packetClass m.kind.packetType s.uid
    (reqData (localPart pa) n (m.packetOp l) l.bit m.mode.toNat (m.packetBytes l n))

/-- 14 R341, 18 R408, R409, R426: a lane's access to another node is sent, as a packet that enters its first hop; while that has no room it waits. A
store leaves with its data, and holds its instruction only if that is a release; REM counts what writes. With no usable port it fails at once
(R418, R422). -/
def State.sendRemote (s : State) (core : Option Nat) (id : Nat) (m : MemOp) (l : LaneAcc) (pa n : Nat) : Did :=
  let w := m.kind.writes
  let x := coreStation (core.getD 0)
  let data := m.packetBytes l n
  let p := s.remotePacket (core.getD 0) m l pa n
  if !s.routable x.die (pa / 2 ^ 48) then s.noRoute m
  else if !s.canSend x p then s.did l.st
  else
    let rem : Remote :=
      { op := id, lane := l.lane, g := m.g, w := m.w, store := m.kind.isStore, copy := none, addr := pa, data := data, at_ := s.now, inside := none }
    let s1 := ({ s with remotes := s.remotes ++ [(s.uid, rem)], uid := s.uid + 1 } : State).sendFrom x p
    let s2 := if w then s1.modWarp m.g m.w (fun y => { y with remN := y.remN + 1 }) else s1
    s2.did (if m.kind.isStore && !m.rel then .done 0 else .remote s.uid)

/-- 06 R127, 14 R341: the signal add of a QSIG to a counter of another node leaves as an atomic request, which REM counts. -/
def View.sendSignal (v : View) (pa x : Nat) : Except Stop State :=
  let s := v.s
  let from_ := coreStation v.core
  let data := leBytes 8 x
  let p := s.packet from_ (pa / 2 ^ 48) (farStation (localPart pa)) .ember 3 s.uid (reqData (localPart pa) 8 opSignal 0 0 data)
  if !s.routable from_.die (pa / 2 ^ 48) then .ok (s.lostRoute.modWarp v.r.g v.r.w (fun y => { y with erem := y.erem + 1 }))
  else if !s.canSend from_ p then .error v.hold
  else
    let rem : Remote :=
      { op := s.uid, lane := 0, g := v.r.g, w := v.r.w, store := true, copy := none, addr := pa, data := data, at_ := s.now, inside := none }
    .ok ((({ s with remotes := s.remotes ++ [(s.uid, rem)], uid := s.uid + 1 } : State).sendFrom from_ p).modWarp v.r.g v.r.w
      (fun y => { y with remN := y.remN + 1 }))

/-- 15 R348, 19 R435: the byte that holds the tag of a granule lies in a line whose data is uncorrectable. -/
def State.tagBad (s : State) (p : Nat) : Bool := match s.tagPlace p with
  | some (a, _) => s.poisoned a 1
  | none => false

/-- 15 R368, 16 R374: TAGLD and TAGST at a device address of this module; the tag's byte is read or written at its own home slice. -/
def State.doTag (s : State) (m : MemOp) (l : LaneAcc) (pa : Nat) (te : Bool) : Did :=
  let p := localPart pa
  let at_ := fun (t : State) => match s.tagPlace p with
    | some (a, _) => t.l2Touch a 1 (decide (m.kind = MemKind.tagst))
    | none => t
  if te && s.tagBad p then s.did (.failed cUNCORR)
  else match m.kind with
  | .tagst => if te then (at_ (s.setTag p (l.data.toNat % 16))).did (.done 0) else s.did (.failed cPGPROT)
  | _ => if te then (at_ s).did (.done (BitVec.ofNat 64 (s.tag p))) else s.did (.done 0)

/-- Loads, stores and atomics at an address that this module's memory or the host serves. -/
def State.doLocal (s : State) (core : Option Nat) (m : MemOp) (l : LaneAcc) (pa n : Nat) : Did :=
  let t := m.type
  let narrow := decide (m.scope ≤ 2)
  match m.kind with
  | .store | .spk | .tagst =>
    (s.writeVia core pa n (elemPut t l.bit (s.engRd pa n) l.data.toNat) (tySub t)).did (.done 0)
  | .atomic op =>
    let (s1, old) := s.readVia core narrow none pa n
    (s1.writeVia core pa n (atValue m.mode op old l.data.toNat l.new.toNat) false).did (.done (BitVec.ofNat 64 old))
  | .ldc k =>
    let (s1, raw) := s.readVia core true (some (k + 1)) pa n
    { (s1.did (.done (BitVec.ofNat 64 (elemGet t l.bit raw)))) with line := some (pa / 128 * 128) }
  | .load | .acqr | .tagld =>
    let (s1, raw) := s.readVia core narrow none pa n
    { (s1.did (.done (BitVec.ofNat 64 (elemGet t l.bit raw)))) with line := if narrow then some (pa / 128 * 128) else none }

/-- 14 R313, 19 R435: an access needs data that is uncorrectable: a store reads none, unless its element is a part of a byte. -/
def State.dataBad (s : State) (m : MemOp) (l : LaneAcc) (pa n : Nat) : Bool :=
  (!m.kind.isStore || decide (tyWidth m.type % 8 ≠ 0) || decide (l.bit ≠ 0)) && s.engBad pa n

/-- 01 R10, 14 R319: performs a lane at the home of its address: the checks of tags and locks, and the access. -/
def State.atHome (s : State) (core : Option Nat) (c : Fin 64) (tag : Nat) (m : MemOp) (l : LaneAcc) (pa n : Nat) (te : Bool) : Did :=
  if !m.kind.isTag ∧ te ∧ s.tagMiss pa n tag then s.did (.failed cTAGMIS)
  else if !m.kind.isTag ∧ s.locked c l.addr n m.kind.writes then s.did (.failed cRLOCKED)
  else if m.kind.isTag then s.doTag m l pa te
  else if s.dataBad m l pa n then s.did (.failed cUNCORR)
  else s.doLocal core m l pa n

/-- 01 R10, R23: the access of a core goes to another die: its line is homed there, and no line of the core's L1 serves it. -/
def State.crosses (s : State) (core : Option Nat) (m : MemOp) (pa : Nat) : Bool := match core with
  | none => false
  | some k => decide (homeDie (localPart pa) ≠ coreDie k) &&
      !(match m.kind with
        | .load => decide (m.scope ≤ 2) && ((s.coreAt k).l1Find pa).isSome
        | .ldc _ => ((s.coreAt k).l1Find pa).isSome
        | _ => false)

/-- 18 R407, R408: the packet of a lane's access to another die. -/
def State.insidePacket (s : State) (core : Nat) (m : MemOp) (l : LaneAcc) (pa n : Nat) (te : Bool) : Packet :=
  s.packet (coreStation core) s.node (s.sliceStation (localPart pa)) m.kind.packetClass m.kind.packetType s.uid
    (reqData (localPart pa) n (m.packetOp l) (b2n te) m.mode.toNat (m.packetBytes l n))

/-- 01 R8, R10, 18 R409, R418: a lane's access to a line of another die is sent to it, as a packet that enters its first hop; while that has no room
it waits. With no route it fails as an access to another node does. -/
def State.sendInside (s : State) (core id : Nat) (m : MemOp) (l : LaneAcc) (pa n : Nat) (te : Bool) : Did :=
  let x := coreStation core
  let data := m.packetBytes l n
  let p := s.insidePacket core m l pa n te
  if !s.joined x.die (homeDie (localPart pa)) then s.noRoute m
  else if !s.canSend x p then s.did l.st
  else
    let rem : Remote :=
      { op := id, lane := l.lane, g := m.g, w := m.w, store := false, copy := none, addr := pa, data := data, at_ := s.now,
        inside := some { m with lanes := [l] } }
    ((({ s with remotes := s.remotes ++ [(s.uid, rem)], uid := s.uid + 1 } : State).sendFrom x p)).did (.remote s.uid)

/-- 18 R409: the first hop of a lane's packet has no room: its instruction waits at issue. -/
def State.hopFull (s : State) (core : Nat) (c : Fin 64) (m : MemOp) (l : LaneAcc) : Bool :=
  match m.space with
  | .mem b => (match s.reach (some core) c b l.addr m.kind.writes m.user with
    | .to pa te _ =>
      let n := elemBytes m.type l.bit
      let x := coreStation core
      if !s.isLocal pa then !m.kind.isTag && s.routable x.die (pa / 2 ^ 48) && !s.canSend x (s.remotePacket core m l pa n)
      else s.crosses (some core) m pa && s.joined x.die (homeDie (localPart pa)) && !s.canSend x (s.insidePacket core m l pa n te)
    | _ => false)
  | _ => false

/-- 14 R319: performs one lane of an access to memory, or sends it to where it is performed. -/
def State.doMem (s : State) (core : Option Nat) (c : Fin 64) (b : BaseReg) (id : Nat) (m : MemOp) (l : LaneAcc) : Did :=
  let n := elemBytes m.type l.bit
  match s.reach core c b l.addr m.kind.writes m.user with
  | .fail k => s.did (.failed k)
  | .park => (s.addFault c (vpage l.addr) ((core.map coreDie).getD 0) none).did .parked
  | .tables => { (s.did l.st) with tables := true }
  | .to pa te leaf =>
    let s1 := match core, leaf with
      | some k, some e => s.tlbFill k c l.addr e
      | _, _ => s
    if !s.isLocal pa then (if m.kind.isTag then s1.doTag m l pa te else s1.sendRemote core id m l pa n)
    else if s.crosses core m pa then s1.sendInside (core.getD 0) id m l pa n te
    else s1.atHome core c b.tag.toNat m l pa n te

/-- 19 R434: the code of a window among a group's bad words: the group region, a bank, or the number areas. -/
def Group.windowCode (g : Group) : Space → Nat
  | .spad => 0
  | .xlive => if g.live1 then 2 else 1
  | .numa => 3
  | .mem _ => 4

/-- 19 R434: some word of n bytes of a window of a warp holds uncorrectable data. -/
def Group.winBad (g : Group) (w : Nat) (sp : Space) (a n : Nat) : Bool :=
  let o := (g.window w sp).2 + a
  g.badWords.any (fun e => decide (e.1 = g.windowCode sp) && decide (o / 4 ≤ e.2) && decide (e.2 ≤ (o + n - 1) / 4))

/-- 19 R434: the words of a window that n bytes written cover whole hold good data again. -/
def Group.winHeal (g : Group) (w : Nat) (sp : Space) (a n : Nat) : Group :=
  let o := (g.window w sp).2 + a
  { g with badWords := g.badWords.filter (fun e => !(decide (e.1 = g.windowCode sp) && decide (o ≤ 4 * e.2) && decide (4 * e.2 + 4 ≤ o + n))) }

/-- 14 R331: performs one lane of an access to a scratchpad window; an absent line holds it up (12 R285). An uncorrectable word fails what reads it
(19 R435). -/
def State.doWin (s : State) (x : Group) (m : MemOp) (l : LaneAcc) : Did :=
  let t := m.type
  let n := elemBytes t l.bit
  let part := decide (tyWidth t % 8 ≠ 0) || decide (l.bit ≠ 0) || decide (l.addr % 4 + n < 4)
  if m.space = .spad ∧ x.absentAt l.addr n then s.did .todo
  else if (!m.kind.isStore || part) && x.winBad m.w m.space l.addr n then s.did (.failed cUNCORR)
  else
    let raw := x.winRd m.w m.space l.addr n
    let put := fun (v : Nat) => s.modGroup m.g (fun g => (g.winWr m.w m.space l.addr n v).winHeal m.w m.space l.addr n)
    match m.kind with
    | .store => (put (elemPut t l.bit raw l.data.toNat)).did (.done 0)
    | .atomic op => (put (atValue m.mode op raw l.data.toNat l.new.toNat)).did (.done (BitVec.ofNat 64 raw))
    | _ => s.did (.done (BitVec.ofNat 64 (elemGet t l.bit raw)))

/-- Performs one lane. -/
def State.doLane (s : State) (core : Option Nat) (id : Nat) (m : MemOp) (l : LaneAcc) : Did :=
  match s.group m.g with
  | none => s.did (.done 0)
  | some x => match m.space with
    | .mem b => s.doMem core (cfin x.ctx) b id m l
    | _ => s.doWin x m l

/-! ## Answers of other nodes (14 R341, 18 R426) -/

/-- The bytes another node answers with; its memory is no state of this module (log entry 21). -/
def freeAnswer (tick tag : Nat) : Nat → Nat
  | 0 => 0
  | n + 1 => freeAnswer tick tag n + (Config.freeByte tick (8 * tag + n)).toNat * 256 ^ n

/-- An access at another node has its answer: what writes no longer counts in REM, and a store's failure counts in EREM. -/
def State.answered (s : State) (tag : Nat) (failed : Bool) : State :=
  match tget s.remotes tag with
  | none => s
  | some r =>
    let counted := r.store || (r.inside.isNone && (match tget s.memops r.op with
      | some m => m.kind.writes
      | none => false))
    let s1 : State := { s with remotes := tdel s.remotes tag }
    match r.copy with
    | some id => s1.copyAnswered id
    | none =>
      if counted then
        s1.modWarp r.g r.w (fun y => { y with remN := y.remN - 1, erem := if failed && r.store then y.erem + 1 else y.erem })
      else s1

/-! ## The end of an instruction (14 R319, R321) -/

/-- Writes the lanes that are done to the destination; the register's state is left to the caller. -/
def Warp.landLanes (y : Warp) (m : MemOp) : Warp :=
  let t := m.type
  let val := fun (i : Nat) => match m.lanes.find? (fun l => l.lane == i) with
    | some l => (match l.st with
      | .done v => some v.toNat
      | _ => none)
    | none => none
  match m.dst with
  | .none => y
  | .s i => match val 0 with
    | some v => { y with s := y.s.set i { y.s[i] with val := BitVec.ofNat 64 (extend64 t v) } }
    | none => y
  | .v names =>
    let mask := maskOf (fun i => (val i.val).isSome)
    let fills := names.map (fun n => (n, (y.vreg n).fill))
    let y1 := y.setLanes names mask t (Vector.ofFn (fun (i : Fin 32) => (val i.val).getD 0))
    { y1 with phys := fills.foldl (fun p e => tmod p e.1 (fun r => { r with fill := e.2 })) y1.phys }

/-- Makes the registers of a destination ORPHANED (03 R65). -/
def Warp.orphanDst (y : Warp) (d : Dest) (o : Orphan) : Warp :=
  match d with
  | .none => y
  | .s i => { y with s := y.s.set i { y.s[i] with fill := .orphaned o } }
  | .v names => { y with phys := names.foldl (fun p n => tmod p n (fun r => { r with fill := .orphaned o })) y.phys }

/-- The lanes that failed, with their causes; a scalar access fails for every lane of its fragment. -/
def MemOp.failures (m : MemOp) : List LaneCause :=
  (m.lanes.filterMap (fun l => match l.st with
    | .failed k => some (if m.scalar then (lanesIn m.mask).map (fun i => { lane := i, code := k, addr := l.addr, write := m.kind.writes : LaneCause })
        else [{ lane := l.lane, code := k, addr := l.addr, write := m.kind.writes }])
    | _ => none)).flatten

/-- The mask of some failures. -/
def causeMask (l : List LaneCause) : Word := maskOf (fun i => l.any (fun c => c.lane == i.val))

/-- The first orphan among the lanes. -/
def MemOp.orphaned (m : MemOp) : Option Orphan :=
  (m.lanes.filterMap (fun l => match l.st with
    | .orphaned o => some o
    | _ => none)).head?

/-- 14 R319, R321: what becomes of an instruction when its lanes have ended. -/
def State.memSettle (s : State) (id : Nat) : State :=
  match tget s.memops id with
  | none => s
  | some m =>
    if m.failed || m.landed || m.lanes.any (fun l => l.st.open_) then s
    else
      let fs := m.failures
      let gone : State := { s with memops := tdel s.memops id }
      let alive := match s.warp m.g m.w with
        | some y => decide (y.sched ≠ .exited)
        | none => false
      let land := fun (t : State) => t.modWarp m.g m.w (fun y => y.landLanes m)
      if !alive then gone
      else match fs, m.orphaned with
        | [], some o => gone.modWarp m.g m.w (fun y => y.orphanDst m.dst o)
        | [], none =>
          let done : State := if m.dst = Dest.none then gone else { s with memops := tput s.memops id { m with landed := true } }
          if m.acq then
            match (s.group m.g).bind (·.core) with
            | some k => done.acquire k m.scope
            | none => done
          else done
        | f :: r, o =>
          let mask := causeMask (f :: r)
          let s1 := match o with
            | some k => gone.modWarp m.g m.w (fun y => y.orphanDst m.dst k)
            | none =>
              if m.dst = Dest.none then gone
              else land { s with memops := tput s.memops id { m with failed := true, mask := mask } }
          s1.laneFail m.g m.w m.user m.pc mask (f :: r)

/-- A lane of an instruction stands in a new way. -/
def MemOp.setLane (m : MemOp) (lane : Nat) (st : LaneState) : MemOp :=
  { m with lanes := m.lanes.map (fun l => if l.lane = lane then { l with st := st } else l) }

/-- The lane waits for an answer from another node. -/
def State.awaitsNode (s : State) (tag : Nat) : Bool := (tget s.remotes tag).all (fun r => r.inside.isNone)

/-- Performs the lanes of an instruction that are to be performed, in lane order (14 R320), and answers those whose requests are under way at
another node. -/
def State.doLanes (core : Option Nat) (id : Nat) (m : MemOp) : List LaneAcc → State → List Nat → State × List LaneAcc × List Nat × Bool
  | [], s, lines => (s, [], lines, false)
  | l :: r, s, lines =>
    match l.st with
    | .todo =>
      let d := s.doLane core id m l
      if d.tables then (s, l :: r, lines, true)
      else
        let lines' := match d.line with
          | some a => if lines.contains a then lines else lines ++ [a]
          | none => lines
        let (t, ls, z, b) := State.doLanes core id m r d.s lines'
        (t, { l with st := d.st } :: ls, z, b)
    | .remote tag =>
      let here := s.awaitsNode tag
      let v := if m.kind.isStore then 0 else freeAnswer s.tick tag 8
      let (t, ls, z, b) := State.doLanes core id m r (if here then s.answered tag false else s) lines
      (t, (if here then { l with st := .done (BitVec.ofNat 64 (v % 2 ^ tyWidth m.type)) } else l) :: ls, z, b)
    | _ =>
      let (t, ls, z, b) := State.doLanes core id m r s lines
      (t, l :: ls, z, b)

/-- 14 R322: each line that an instruction's loads were served through counts once. -/
def State.countLines (s : State) (core : Option Nat) (lines : List Nat) : State :=
  match core with
  | none => s
  | some k => if lines.isEmpty then s else s.modCore k (fun x => lines.foldl Core.l1Count x)

/-- 14 R322: the loads of an instruction that leaves its lines in the core's L1, or counts them there. -/
def MemOp.fills (m : MemOp) : Bool := match m.kind with
  | .ldc _ => true
  | .load => decide (m.scope ≤ 2)
  | .acqr => decide (m.scope ≤ 2)
  | _ => false

/-! ## Requests to the channels (16 R378, R380) -/

/-- 16 R378: a request of an instruction for a line that misses in L2, as it reaches its channel. -/
structure ChannelReq where
  /-- channel -/
  channel : Nat
  /-- local address of the line -/
  line : Nat
  /-- the sectors that are missing -/
  mask : BitVec 4
  /-- the issuing group -/
  group : Nat
  /-- the instruction's tag -/
  tag : Nat
  /-- requests of the instruction for the channel -/
  count : Nat
  deriving DecidableEq, Repr

/-- 14 R323: performing a lane reads memory: all but a store of whole bytes. -/
def MemOp.reads (m : MemOp) (l : LaneAcc) : Bool := !m.kind.isStore || decide (m.packetOp l = opPart)

/-- 16 R374, R378: the line that a lane reads at this die and that misses in L1 and L2: its channel, address and missing sectors. -/
def State.missOf (s : State) (core : Option Nat) (c : Fin 64) (m : MemOp) (l : LaneAcc) : Option (Nat × Nat × BitVec 4) :=
  match l.st, m.space with
  | .todo, .mem b => (match s.reach core c b l.addr m.kind.writes m.user with
    | .to pa _ _ =>
      let p := localPart pa
      let a := p / 128 * 128
      let hit := m.fills && (core.any (fun k => ((s.coreAt k).l1Find pa).isSome))
      let have_ := ((s.l2.find? (fun x => x.addr == a)).map (·.valid)).getD 0
      let need := sectors p (elemBytes m.type l.bit) &&& ~~~have_
      if !s.isLocal pa || s.crosses core m pa || hit || m.kind.isTag || !m.reads l || decide (need = 0) then none
      else (s.channelOf p).map (fun ch => (ch, a, need))
    | _ => none)
  | _, _ => none

/-- 16 R378: the requests of an instruction, one for each line, with the marks that their channels read. -/
def State.channelReqs (s : State) (core : Option Nat) (c : Fin 64) (id : Nat) (m : MemOp) : List ChannelReq :=
  let ms := m.lanes.filterMap (s.missOf core c m)
  let ls := (ms.map (fun e => (e.1, e.2.1))).eraseDups
  ls.map (fun e =>
    { channel := e.1, line := e.2, mask := (ms.filter (fun x => x.2.1 == e.2)).foldl (fun a x => a ||| x.2.2) 0, group := m.g, tag := id,
      count := (ls.filter (fun x => x.1 == e.1)).length })

/-- 16 R378: a batch in the order in which its channel serves it: hits of the open row first, else the oldest request, which opens its row. -/
def batchOrder : Nat → Option Nat → List ChannelReq → List ChannelReq
  | 0, _, _ => []
  | _, _, [q] => [q]
  | n + 1, row, l =>
    match (l.find? (fun q => row == some (Config.row q.channel (q.line / 128)))).orElse (fun _ => l.head?) with
    | some q => q :: batchOrder n (some (Config.row q.channel (q.line / 128))) (l.erase q)
    | none => []

/-- 16 R380: a batch that cannot start waits, and the episodes that run meanwhile are counted. -/
def State.channelsWait (s : State) (l : List ChannelReq) : State :=
  { s with channels := l.foldl (fun t q =>
      let c := tgetD t q.channel .idle
      if c.alerted then tput t q.channel { c with waiting := some (c.waiting.getD 0) } else t) s.channels }

/-- 16 R378: the batches of an instruction are served, each whole: the missing sectors of their lines are fetched. -/
def State.serveBatches (s : State) (l : List ChannelReq) : State :=
  ((l.map (·.channel)).eraseDups).foldl (fun t ch =>
    let c := t.channel ch
    let t1 : State := if c.waiting.isSome then { t with channels := tput t.channels ch { c with waiting := none } } else t
    (batchOrder l.length c.openRow (l.filter (fun q => q.channel == ch))).foldl (fun t q =>
      ((List.range 4).filter (fun i => q.mask.getLsbD i)).foldl (fun t i => t.l2Touch (q.line + 32 * i) 32 false) t) t1) s

/-- The lane of the instruction that a request serves stands in a new way, and the instruction ends if that was the last. -/
def State.settleLane (s : State) (r : Remote) (st : LaneState) : State :=
  (({ s with memops := tmod s.memops r.op (fun m => m.setLane r.lane st) } : State).memSettle r.op).takeDue r.g r.w

/-- 14 R341, 18 R425: another node has acknowledged a store or a copy's data. -/
def State.acknowledged (s : State) (tag : Nat) : State :=
  match tget s.remotes tag with
  | none => s
  | some r =>
    if r.store then (s.answered tag false).settleLane r (.done 0) else if r.copy.isSome then s.answered tag false else s

/-- MEMORY_ACCESS_COMPLETE (R319): the lanes of a memory instruction that can be performed are, in one step, or leave for where they are performed;
when every lane has ended the instruction ends. A channel that has to run an episode first starts no batch of it (16 R380). For the tag of a remote store, or of a copy's data: its acknowledgement arrives (R341). -/
def execMemoryAccessComplete (id : Nat) (s : State) : Host.Outcome State Fault Refusal :=
  match tget s.memops id with
  | none => .next (s.acknowledged id)
  | some m =>
    match (s.group m.g).bind Group.performs with
    | none => .next s
    | some core =>
      if m.failed || m.landed || !s.mayPerform m then .next s
      else
        let reqs := s.channelReqs core (cfin (s.ctxOf m.g)) id m
        if reqs.any (fun q => (s.channel q.channel).alerted) then .next (s.channelsWait reqs)
        else
          let (s1, ls, lines, tables) := State.doLanes core id m m.lanes (s.serveBatches reqs) []
          if tables then .next (s.faultContext (s.ctxOf m.g) cUNCORR 0 (s.hwlocOf m.g m.w) 0 m.pc.toNat m.mask.toNat)
          else
            let s2 := s1.countLines core lines
            let s3 : State := { s2 with memops := tmod s2.memops id (fun m => { m with lanes := ls }) }
            .next ((s3.memSettle id).takeDue m.g m.w)

/-! ## Parked accesses (15 R358, R359) -/

/-- 12 R279: the context that DST is an address of: TCTX for a CPYX, else the issuing context. -/
def Copy.tctx (c : Copy) : Nat := if c.kind = .cpyx then bits c.p3 47 42 else c.ctx

/-- The accesses of a context that are parked for a page are judged again: lanes of memory instructions, and parked copies. -/
def State.unpark (s : State) (ctx page : Nat) : State :=
  let mine := fun (g : Nat) => decide ((s.group g).map (·.ctx) = some ctx)
  { s with
    memops := s.memops.map (fun e => (e.1,
      if mine e.2.g then
        { e.2 with lanes := e.2.lanes.map (fun l => if l.st = .parked ∧ vpage l.addr = page then { l with st := .todo } else l) }
      else e.2)),
    copies := s.copies.map (fun e => (e.1,
      if e.2.st = .parked ∧ e.2.waits = some (ctx, page) then { e.2 with st := .running, waits := none } else e.2)) }

/-- 15 R359: leaves that software has locked are read again for n pages of a context. -/
def State.rejudge (s : State) (ctx page n : Nat) : State :=
  let hit := fun (m : Migration) => m.soft && decide (m.ctx = ctx) && decide (page ≤ m.page) && decide (m.page < page + n) && m.host.isNone
  let hits := s.migs.filter (fun e => hit e.2)
  hits.foldl (fun t e => t.unpark ctx e.2.page) { s with migs := s.migs.filter (fun e => !hit e.2) }

/-! ## Write-back (03 R62, 09 R188) -/

/-- The destination becomes FULL, unless failed lanes of another instruction still hold it. -/
def State.landFull (s : State) (id : Nat) (m : MemOp) : State :=
  let s1 : State := { (s.modWarp m.g m.w (fun y => y.landLanes m)) with memops := tdel s.memops id }
  s1.release m.g m.w m.dst

/-- 09 R188: a read of a lane that waited for its registers. -/
def State.landRead (s : State) (g w : Nat) (r : LaneRead) : State :=
  s.modWarp g w (fun y =>
    let fills := r.regs.map (fun n => (y.vreg n).fill)
    let y1 := { y with laneReads := y.laneReads.filter (fun q => q.id != r.id) }
    if fills.contains .empty then y
    else match fills.filterMap (fun f => match f with
      | .orphaned o => some o
      | _ => none) with
      | o :: _ => y1.orphanDst (.s r.dst) o
      | [] => y1.setS r.dst (y.laneScalar r.regs r.lane r.etype))

/-- The warp and the read of a name. -/
def State.findRead (s : State) (id : Nat) : Option (Nat × Nat × LaneRead) :=
  (s.groups.filterMap (fun e =>
    (e.2.warps.zipIdx.filterMap (fun (y, w) => (y.laneReads.find? (fun r => r.id == id)).map (fun r => (e.1, w, r)))).head?)).head?

/-- PRODUCER_WRITEBACK (R62): a load or atomic whose lanes have all ended, or an RDLANE whose registers have filled, writes its
destination FULL. -/
def execProducerWriteback (id : Nat) (s : State) : Host.Outcome State Fault Refusal :=
  .next (match tget s.memops id with
    | some m => if m.landed then s.landFull id m else s
    | none => match s.findRead id with
      | some (g, w, r) => s.landRead g w r
      | none => s)

end Sys2Proof.Machine
end

