-- ==== Sys2Proof/Machine/Valu.lean ====
section
/-! DEFINITION. The lane-wise arithmetic, VALU words of major 0x2 (09 R190 to R197). -/

namespace Sys2Proof.Machine

/-- The value operations of VALU: ETYPE, RND, SAT and FTZ of MODE. -/
def View.md (v : View) : Md := { t := v.et, rnd := mRnd v.y.mode, sat := mSat v.y.mode, ftz := mFtz v.y.mode }

/-- The ETYPE is one that the instruction takes, else ILLTYPE (03 R60, 09 R190). -/
def View.typeIf (v : View) (ok : Nat → Bool) : Except Stop Unit :=
  if tyNarrow v.et || !ok v.et then .error (v.trap cILLTYPE) else .ok ()

/-- Writes lane values of a type into the active lanes of a destination, or nowhere. -/
def View.putLanes (v : View) (l : Loc) (mask : Word) (t : Nat) (x : Vector Nat 32) : State :=
  match l with
  | .vec names => v.put (v.y.setLanes names mask t x)
  | _ => v.put v.y

/-- A lane-wise instruction of two sources under the types that `ok` takes. -/
def View.lane2 (v : View) (d a b : Opnd) (wa wb : Bool) (ok : Nat → Bool) (f : Md → Nat → Nat → Nat) : Except Stop State := do
  let w := tyWide v.et
  let l ← v.resolveDst kVZ w d
  let ra ← v.rd kAny w a wa
  let rb ← v.rd kAny w b wb
  v.typeIf ok
  let v ← v.sources [ra, rb]
  v.destReady l
  let x := v.laneVals v.et ra.loc
  let y := v.laneVals v.et rb.loc
  .ok (v.putLanes l v.active v.et (Vector.ofFn (fun (i : Fin 32) => f v.md x[i] y[i])))

/-- A lane-wise instruction of one source under the types that `ok` takes. -/
def View.lane1 (v : View) (d a : Opnd) (wa : Bool) (ok : Nat → Bool) (f : Md → Nat → Nat) : Except Stop State := do
  let w := tyWide v.et
  let l ← v.resolveDst kVZ w d
  let ra ← v.rd kAny w a wa
  v.typeIf ok
  let v ← v.sources [ra]
  v.destReady l
  .ok (v.putLanes l v.active v.et ((v.laneVals v.et ra.loc).map (f v.md)))

/-- A lane-wise compare (R192): bits of a mask register for the active lanes. -/
def View.laneCmp (v : View) (r : Rel) (d a b : Opnd) (wa wb : Bool) : Except Stop State := do
  let w := tyWide v.et
  let l ← v.resolveDst kMZ w d
  let ra ← v.rd kAny w a wa
  let rb ← v.rd kAny w b wb
  v.plainType
  let v ← v.sources [ra, rb]
  let x := v.laneVals v.et ra.loc
  let y := v.laneVals v.et rb.loc
  let t := maskOf (fun i => Machine.laneCmp v.md r x[i] y[i])
  match l with
  | .msk k => .ok (v.put (v.y.setM k ((v.y.m[k] &&& ~~~v.active) ||| (t &&& v.active))))
  | _ => .ok (v.put v.y)

/-- Every type of VALU. -/
def anyType (_ : Nat) : Bool := true

/-- MOV (R190). -/
def execValuMov (d a : Opnd) (wa : Bool) (s : State) : Host.Outcome State Fault Refusal :=
  issue s (fun v => v.lane1 d a wa anyType (fun _ x => x))
/-- ADD (R190). -/
def execValuAdd (d a b : Opnd) (wa wb : Bool) (s : State) : Host.Outcome State Fault Refusal :=
  issue s (fun v => v.lane2 d a b wa wb anyType laneAdd)
/-- SUB (R190). -/
def execValuSub (d a b : Opnd) (wa wb : Bool) (s : State) : Host.Outcome State Fault Refusal :=
  issue s (fun v => v.lane2 d a b wa wb anyType laneSub)
/-- MUL (R190). -/
def execValuMul (d a b : Opnd) (wa wb : Bool) (s : State) : Host.Outcome State Fault Refusal :=
  issue s (fun v => v.lane2 d a b wa wb anyType laneMul)
/-- MULH (R190). -/
def execValuMulh (d a b : Opnd) (wa wb : Bool) (s : State) : Host.Outcome State Fault Refusal :=
  issue s (fun v => v.lane2 d a b wa wb (fun t => !tyFloat t) laneMulh)

/-- FMA (R190): a × b + d, d being a source too. -/
def execValuFma (d a b : Opnd) (wa wb : Bool) (s : State) : Host.Outcome State Fault Refusal := issue s (fun v => do
  let w := tyWide v.et
  let l ← v.resolveDst kVZ w d
  let ra ← v.rd kAny w a wa
  let rb ← v.rd kAny w b wb
  v.plainType
  let v ← v.sources [{ loc := l, wait := false, code := d.toCode.toNat }, ra, rb]
  let x := v.laneVals v.et ra.loc
  let y := v.laneVals v.et rb.loc
  let z := v.laneVals v.et l
  .ok (v.putLanes l v.active v.et (Vector.ofFn (fun (i : Fin 32) => laneFma v.md x[i] y[i] z[i]))))

/-- MIN (R190). -/
def execValuMin (d a b : Opnd) (wa wb : Bool) (s : State) : Host.Outcome State Fault Refusal :=
  issue s (fun v => v.lane2 d a b wa wb anyType laneMin)
/-- MAX (R190). -/
def execValuMax (d a b : Opnd) (wa wb : Bool) (s : State) : Host.Outcome State Fault Refusal :=
  issue s (fun v => v.lane2 d a b wa wb anyType laneMax)
/-- ABS (R190). -/
def execValuAbs (d a : Opnd) (wa : Bool) (s : State) : Host.Outcome State Fault Refusal :=
  issue s (fun v => v.lane1 d a wa anyType laneAbs)
/-- NEG (R190). -/
def execValuNeg (d a : Opnd) (wa : Bool) (s : State) : Host.Outcome State Fault Refusal :=
  issue s (fun v => v.lane1 d a wa anyType laneNeg)
/-- AND (R190). -/
def execValuAnd (d a b : Opnd) (wa wb : Bool) (s : State) : Host.Outcome State Fault Refusal :=
  issue s (fun v => v.lane2 d a b wa wb anyType (fun _ x y => x &&& y))
/-- OR (R190). -/
def execValuOr (d a b : Opnd) (wa wb : Bool) (s : State) : Host.Outcome State Fault Refusal :=
  issue s (fun v => v.lane2 d a b wa wb anyType (fun _ x y => x ||| y))
/-- XOR (R190). -/
def execValuXor (d a b : Opnd) (wa wb : Bool) (s : State) : Host.Outcome State Fault Refusal :=
  issue s (fun v => v.lane2 d a b wa wb anyType (fun _ x y => x ^^^ y))
/-- SHL (R190). -/
def execValuShl (d a b : Opnd) (wa wb : Bool) (s : State) : Host.Outcome State Fault Refusal :=
  issue s (fun v => v.lane2 d a b wa wb anyType (fun m => laneShl (tyWidth m.t)))
/-- SHR (R190). -/
def execValuShr (d a b : Opnd) (wa wb : Bool) (s : State) : Host.Outcome State Fault Refusal :=
  issue s (fun v => v.lane2 d a b wa wb anyType (fun m => laneShr (tyWidth m.t)))
/-- SAR (R190). -/
def execValuSar (d a b : Opnd) (wa wb : Bool) (s : State) : Host.Outcome State Fault Refusal :=
  issue s (fun v => v.lane2 d a b wa wb anyType (fun m => laneSar (tyWidth m.t)))
/-- CMPEQ (R192). -/
def execValuCmpeq (d a b : Opnd) (wa wb : Bool) (s : State) : Host.Outcome State Fault Refusal :=
  issue s (fun v => v.laneCmp .eq d a b wa wb)
/-- CMPLT (R192). -/
def execValuCmplt (d a b : Opnd) (wa wb : Bool) (s : State) : Host.Outcome State Fault Refusal :=
  issue s (fun v => v.laneCmp .lt d a b wa wb)
/-- CMPLE (R192). -/
def execValuCmple (d a b : Opnd) (wa wb : Bool) (s : State) : Host.Outcome State Fault Refusal :=
  issue s (fun v => v.laneCmp .le d a b wa wb)
/-- CMPNE (R192). -/
def execValuCmpne (d a b : Opnd) (wa wb : Bool) (s : State) : Host.Outcome State Fault Refusal :=
  issue s (fun v => v.laneCmp .ne d a b wa wb)

/-- SEL (R193): a where the bit of m0 is 1, else b. -/
def execValuSel (d a b : Opnd) (wa wb : Bool) (s : State) : Host.Outcome State Fault Refusal := issue s (fun v => do
  let w := tyWide v.et
  let l ← v.resolveDst kVZ w d
  let ra ← v.rd kAny w a wa
  let rb ← v.rd kAny w b wb
  v.plainType
  let v ← v.sources [ra, rb]
  v.destReady l
  let x := v.laneVals v.et ra.loc
  let y := v.laneVals v.et rb.loc
  let m := v.y.m[(0 : Fin 8)]
  .ok (v.putLanes l v.active v.et (Vector.ofFn (fun (i : Fin 32) => if m.getLsbD i then x[i] else y[i]))))

/-- 09 R194: the E2M1 extra value that x3 selects. -/
def Warp.cvtExtra (y : Warp) : Nat :=
  let b := y.b[Fin.ofNat 8 (y.x[(3 : Fin 4)]).toNat]
  if b.valid then b.extra.toNat else 0x8000

/-- CVT (R194): from the type in the b field to ETYPE. -/
def execValuCvt (d a : Opnd) (ty : BitVec 7) (wa : Bool) (s : State) : Host.Outcome State Fault Refusal := issue s (fun v => do
  let t := ty.toNat
  let l ← v.resolveDst kVZ (tyWide v.et) d
  let ra ← v.rd kAny (decide (t < 24) && tyWide t) a wa
  if 24 ≤ t then .error (v.trap cILLTYPE)
  else do
    let v ← v.sources [ra]
    v.destReady l
    let md := v.md
    .ok (v.putLanes l v.active v.et ((v.laneVals t ra.loc).map (fun x => convert t md.t md.rnd md.ftz md.sat v.y.cvtExtra x))))

/-- RCP (R195). -/
def execRcp (d a : Opnd) (wa : Bool) (s : State) : Host.Outcome State Fault Refusal :=
  issue s (fun v => v.lane1 d a wa tyFloat laneRcp)
/-- RSQ (R195). -/
def execRsq (d a : Opnd) (wa : Bool) (s : State) : Host.Outcome State Fault Refusal :=
  issue s (fun v => v.lane1 d a wa tyFloat (fun m => laneFn m FV.rsq))
/-- SQRT (R195). -/
def execSqrt (d a : Opnd) (wa : Bool) (s : State) : Host.Outcome State Fault Refusal :=
  issue s (fun v => v.lane1 d a wa tyFloat (fun m => laneFn m FV.sqrt))
/-- EXP2 (R195). -/
def execExp2 (d a : Opnd) (wa : Bool) (s : State) : Host.Outcome State Fault Refusal :=
  issue s (fun v => v.lane1 d a wa tyFloat (fun m => laneFn m FV.exp2))
/-- LOG2 (R195). -/
def execLog2 (d a : Opnd) (wa : Bool) (s : State) : Host.Outcome State Fault Refusal :=
  issue s (fun v => v.lane1 d a wa tyFloat (fun m => laneFn m FV.log2))

/-- CLASS (R196): one bit of ten in a single register, for the classes of a floating-point type. -/
def execVclass (d a : Opnd) (wa : Bool) (s : State) : Host.Outcome State Fault Refusal := issue s (fun v => do
  let l ← v.resolveDst kVZ false d
  let ra ← v.rd kAny (tyWide v.et) a wa
  v.typeIf tyFloat
  let v ← v.sources [ra]
  v.destReady l
  .ok (v.putLanes l v.active 6 ((v.laneVals v.et ra.loc).map (classBits v.et))))

/-- CLZ (R190). -/
def execValuClz (d a : Opnd) (wa : Bool) (s : State) : Host.Outcome State Fault Refusal :=
  issue s (fun v => v.lane1 d a wa anyType (fun m => laneClz (tyWidth m.t)))
/-- POPC (R190). -/
def execValuPopc (d a : Opnd) (wa : Bool) (s : State) : Host.Outcome State Fault Refusal :=
  issue s (fun v => v.lane1 d a wa anyType (fun m => lanePopc (tyWidth m.t)))

/-- DIV (R197, R190): every active lane whose divisor is not 0 completes, then the others trap with DIVZERO. -/
def execDiv (d a b : Opnd) (wa wb : Bool) (s : State) : Host.Outcome State Fault Refusal := issue s (fun v => do
  let w := tyWide v.et
  let l ← v.resolveDst kVZ w d
  let ra ← v.rd kAny w a wa
  let rb ← v.rd kAny w b wb
  v.plainType
  let v ← v.sources [ra, rb]
  v.destReady l
  let x := v.laneVals v.et ra.loc
  let y := v.laneVals v.et rb.loc
  if tyFloat v.et then .ok (v.putLanes l v.active v.et (Vector.ofFn (fun (i : Fin 32) => laneFdiv v.md x[i] y[i])))
  else
    let bad := v.active &&& maskOf (fun i => decide (y[i] = 0))
    let s1 := v.putLanes l (v.active &&& ~~~bad) v.et (Vector.ofFn (fun (i : Fin 32) => laneIdiv v.md x[i] y[i]))
    if bad = 0 then .ok s1
    else .ok (s1.laneFail v.r.g v.r.w (decide (v.y.plvl = 0)) v.pc bad
      ((lanesIn bad).map (fun i => { lane := i, code := cDIVZERO, addr := 0, write := false }))))

end Sys2Proof.Machine
end

