-- ==== Sys2Proof/Machine/Bitx.lean ====
section
/-! DEFINITION. Bits within a lane and values between lanes, BITX words of major 0x3 (09 R198 to R215). -/

namespace Sys2Proof.Machine

/-- The type in which 32-bit lane values are read and written. -/
def tC32 : Nat := 6

/-! ## Bits within a lane -/

/-- R199: the exclusive-or of the rows of a matrix that the bits of a byte select. -/
def bmmByte (mat x : Nat) : Nat := (List.range 8).foldl (fun y j => if x / 2 ^ j % 2 = 1 then y ^^^ (mat / 2 ^ (8 * j) % 256) else y) 0

/-- R199: each of the four bytes of a lane times the matrix. -/
def bmmLane (mat x : Nat) : Nat := (List.range 4).foldl (fun y k => y + bmmByte mat (x / 2 ^ (8 * k) % 256) * 2 ^ (8 * k)) 0

/-- R200: bits of a, lowest first, placed at the one bits of a mask; from bit i on, n to go. -/
def depBits (m : Nat) : Nat → Nat → Nat → Nat
  | 0, _, _ => 0
  | n + 1, i, a => if m / 2 ^ i % 2 = 1 then a % 2 * 2 ^ i + depBits m n (i + 1) (a / 2) else depBits m n (i + 1) a

/-- R200: bits of a at the one bits of a mask, gathered from bit k of the result on. -/
def extBits (a m : Nat) : Nat → Nat → Nat → Nat
  | 0, _, _ => 0
  | n + 1, i, k => if m / 2 ^ i % 2 = 1 then a / 2 ^ i % 2 * 2 ^ k + extBits a m n (i + 1) (k + 1) else extBits a m n (i + 1) k

/-- R201: bit 31 − j of a lane moved to bit j. -/
def revBits (a : Nat) : Nat := (List.range 32).foldl (fun y j => y + a / 2 ^ (31 - j) % 2 * 2 ^ j) 0

/-- R201: bit j of the result is bit P[j] of the source. -/
def permBits (p : List Nat) (a : Nat) : Nat := (p.zipIdx).foldl (fun y (b, j) => y + a / 2 ^ b % 2 * 2 ^ j) 0

/-- A bit instruction of two lane-wise sources of 32 bits. -/
def View.bit2 (v : View) (d a b : Opnd) (wa wb : Bool) (f : Nat → Nat → Nat) : Except Stop State := do
  let l ← v.resolveDst kV false d
  let ra ← v.rd kAny false a wa
  let rb ← v.rd kAny false b wb
  v.plainType
  let v ← v.sources [ra, rb]
  v.destReady l
  let x := v.laneVals tC32 ra.loc
  let y := v.laneVals tC32 rb.loc
  .ok (v.putLanes l v.active tC32 (Vector.ofFn (fun (i : Fin 32) => f x[i] y[i])))

/-- BMM8 (R199). -/
def execBmm8 (d a b : Opnd) (wa wb : Bool) (s : State) : Host.Outcome State Fault Refusal := issue s (fun v => do
  let l ← v.resolveDst kV false d
  let ra ← v.rd kVS false a wa
  let rb ← v.rd kSxZ false b wb
  v.plainType
  let v ← v.sources [ra, rb]
  v.destReady l
  let mat := (v.y.scalarVal rb.loc).toNat
  .ok (v.putLanes l v.active tC32 ((v.laneVals tC32 ra.loc).map (bmmLane mat))))

/-- BDEP (R200). -/
def execBdep (d a b : Opnd) (wa wb : Bool) (s : State) : Host.Outcome State Fault Refusal :=
  issue s (fun v => v.bit2 d a b wa wb (fun x m => depBits m 32 0 x))
/-- BEXT (R200). -/
def execBext (d a b : Opnd) (wa wb : Bool) (s : State) : Host.Outcome State Fault Refusal :=
  issue s (fun v => v.bit2 d a b wa wb (fun x m => extBits x m 32 0 0))

/-- 03 R74: the permutation entry of an index, else IDXBOUND. -/
def View.perm (v : View) (i : Nat) : Except Stop (List Nat) :=
  match v.kernel.bind (fun k => k.perms[i]?) with
  | some p => .ok p
  | none => .error (v.trap cIDXBOUND i)

/-- BPERM (R201). -/
def execBperm (d a b : Opnd) (wa wb : Bool) (s : State) : Host.Outcome State Fault Refusal := issue s (fun v => do
  let l ← v.resolveDst kV true d
  let ra ← v.rd kVS true a wa
  let rb ← v.rd kSxZ1 false b wb
  v.plainType
  let v ← v.sources [ra, rb]
  let p ← v.perm (v.y.scalarVal rb.loc).toNat
  v.destReady l
  .ok (v.putLanes l v.active 7 ((v.laneVals 7 ra.loc).map (permBits p))))

/-- BREV (R201). -/
def execBrev (d a : Opnd) (wa : Bool) (s : State) : Host.Outcome State Fault Refusal := issue s (fun v => do
  let l ← v.resolveDst kV false d
  let ra ← v.rd kAny false a wa
  v.plainType
  let v ← v.sources [ra]
  v.destReady l
  .ok (v.putLanes l v.active tC32 ((v.laneVals tC32 ra.loc).map revBits)))

/-! ## Lane exchanges (R205 to R208) -/

/-- The type in which values move between lanes: pairs under a 64-bit ETYPE, else whole 32-bit lanes (R205). -/
def View.moveType (v : View) : Nat := if tyWide v.et then 7 else tC32

/-- R207: an exchange in which lane i of d takes lane `src i` of a; none or a lane that is no member misses. -/
def View.exchange (v : View) (l a : Loc) (src : Fin 32 → Option (Fin 32)) : Except Stop State :=
  let m := v.active
  let from_ : Fin 32 → Option (Fin 32) := fun i => (src i).filter (fun (j : Fin 32) => m.getLsbD j.val)
  let miss := m &&& maskOf (fun i => (from_ i).isNone)
  if miss ≠ 0 ∧ mXtrap v.y.mode then .error (.trap cXMISS .issue miss.toNat m)
  else
    let x := v.laneVals v.moveType a
    let r : Vector Nat 32 := Vector.ofFn (fun i => match from_ i with
      | some j => x[j]
      | none => 0)
    let y := if miss ≠ 0 then { v.y with flags := setXmiss v.y.flags } else v.y
    .ok ({ v with y := y }.putLanes l m v.moveType r)

/-- A lane number, none outside 0 to 31. -/
def laneNo (x : Int) : Option (Fin 32) := if 0 ≤ x ∧ x < 32 then some (Fin.ofNat 32 x.toNat) else none

/-- R208: a shuffle whose source lane follows from the lane and its b, a 32-bit cardinal. -/
def View.shuffle (v : View) (d a b : Opnd) (wa wb : Bool) (src : Nat → Nat → Int) : Except Stop State := do
  let w := tyWide v.et
  let l ← v.resolveDst kV w d
  let ra ← v.rd kV w a wa
  let rb ← v.rd kAny false b wb
  v.plainType
  let v ← v.sources [ra, rb]
  v.destReady l
  let y := v.laneVals tC32 rb.loc
  v.exchange l ra.loc (fun i => laneNo (src i.val y[i]))

/-- SHFL (R208). -/
def execShfl (d a b : Opnd) (wa wb : Bool) (s : State) : Host.Outcome State Fault Refusal :=
  issue s (fun v => v.shuffle d a b wa wb (fun _ b => b))
/-- SHFLX (R208). -/
def execShflx (d a b : Opnd) (wa wb : Bool) (s : State) : Host.Outcome State Fault Refusal :=
  issue s (fun v => v.shuffle d a b wa wb (fun i b => ((i ^^^ b : Nat) : Int)))
/-- SHFLUP (R208). -/
def execShflup (d a b : Opnd) (wa wb : Bool) (s : State) : Host.Outcome State Fault Refusal :=
  issue s (fun v => v.shuffle d a b wa wb (fun i b => (i : Int) - b))
/-- SHFLDN (R208). -/
def execShfldn (d a b : Opnd) (wa wb : Bool) (s : State) : Host.Outcome State Fault Refusal :=
  issue s (fun v => v.shuffle d a b wa wb (fun i b => (i : Int) + b))

/-- R209: the voters: the members that are not helper lanes. -/
def View.voters (v : View) : Word := v.active &&& ~~~v.y.helper

/-- R209: a vote: the value for a scalar and for a mask, from the voters and those that vote true. -/
def View.vote (v : View) (d a : Opnd) (wa : Bool) (f : Word → Word → Word × Word) : Except Stop State := do
  let l ← v.resolveDst kSMZ false d
  let ra ← v.rd kAny false a wa
  v.plainType
  let v ← v.sources [ra]
  v.destReady l
  let x := v.laneVals tC32 ra.loc
  let yes := v.voters &&& maskOf (fun i => decide (x[i] ≠ 0))
  let r := f v.voters yes
  let y := match l with
    | .msk k => v.y.setM k r.2
    | l => v.y.setScalar l (r.1.setWidth 64)
  .ok (v.put { y with flags := setZ v.y.flags (decide (r.1 = 0)) })

/-- A truth as a scalar 1 or 0 and as a whole mask. -/
def truth (b : Bool) : Word × Word := if b then (1, BitVec.allOnes 32) else (0, 0)

/-- VALL (R209). -/
def execVall (d a : Opnd) (wa : Bool) (s : State) : Host.Outcome State Fault Refusal :=
  issue s (fun v => v.vote d a wa (fun all yes => truth (decide (yes = all))))
/-- VANY (R209). -/
def execVany (d a : Opnd) (wa : Bool) (s : State) : Host.Outcome State Fault Refusal :=
  issue s (fun v => v.vote d a wa (fun _ yes => truth (decide (yes ≠ 0))))
/-- VBAL (R209). -/
def execVbal (d a : Opnd) (wa : Bool) (s : State) : Host.Outcome State Fault Refusal :=
  issue s (fun v => v.vote d a wa (fun _ yes => (yes, yes)))

/-- R208: an exchange within the quad; b is one scalar value. -/
def View.quad (v : View) (d a b : Opnd) (wa wb : Bool) (src : Nat → Nat → Nat) : Except Stop State := do
  let w := tyWide v.et
  let l ← v.resolveDst kV w d
  let ra ← v.rd kV w a wa
  let rb ← v.rd kSxC false b wb
  v.plainType
  let v ← v.sources [ra, rb]
  v.destReady l
  let k := (v.y.scalarVal rb.loc).toNat % 4
  v.exchange l ra.loc (fun i => laneNo ((src i.val k : Nat) : Int))

/-- QXCH (R208). -/
def execQxch (d a b : Opnd) (wa wb : Bool) (s : State) : Host.Outcome State Fault Refusal :=
  issue s (fun v => v.quad d a b wa wb (fun i k => i ^^^ k))
/-- QBCST (R208). -/
def execQbcst (d a b : Opnd) (wa wb : Bool) (s : State) : Host.Outcome State Fault Refusal :=
  issue s (fun v => v.quad d a b wa wb (fun i k => 4 * (i / 4) + k))

/-! ## MATCH, WRED and WSCAN (R210 to R213) -/

/-- R210: the key of a lane. -/
def matchKey (t x : Nat) : Nat :=
  if tyFloat t then
    match decodeVal t false 0 x with
    | .nan => canonNan t
    | .fin _ 0 _ => 0
    | _ => x
  else x

/-- MATCH (R210). -/
def execMatchv (d a : Opnd) (wa : Bool) (s : State) : Host.Outcome State Fault Refusal := issue s (fun v => do
  let l ← v.resolveDst kV false d
  let ra ← v.rd kV (tyWide v.et) a wa
  v.plainType
  let v ← v.sources [ra]
  v.destReady l
  let x := (v.laneVals v.et ra.loc).map (matchKey v.et)
  let r : Vector Nat 32 := Vector.ofFn (fun (i : Fin 32) =>
    if v.voters.getLsbD i.val then (v.voters &&& maskOf (fun j => decide (x[j] = x[i]))).toNat else 0)
  .ok (v.putLanes l v.active tC32 r))

/-- R212: one level of the tree: entry k takes in entry k + 2^level. -/
def treeLevel (f : Nat → Nat → Nat) : List (Option Nat) → List (Option Nat)
  | x :: y :: r =>
    (match x, y with
     | some a, some b => some (f a b)
     | some a, none => some a
     | none, y => y) :: treeLevel f r
  | l => l

/-- R212: the fixed tree over 32 entries. -/
def treeRed (f : Nat → Nat → Nat) (l : List (Option Nat)) : Option Nat :=
  (treeLevel f (treeLevel f (treeLevel f (treeLevel f (treeLevel f l))))).headD none

/-- The value of each voter by lane. -/
def voterVals (x : Vector Nat 32) (voters : Word) : List (Option Nat) :=
  (List.finRange 32).map (fun (i : Fin 32) => if voters.getLsbD i.val then some x[i] else none)

/-- R212: the reduction of the voters' values. -/
def redVals (m : Md) (o : RedOp) (l : List (Option Nat)) : Nat :=
  if o = .add ∧ !tyFloat m.t then m.fit ((l.filterMap id).foldl (fun a x => a + m.int x) 0)
  else (treeRed (o.combine m) l).getD (o.ident m)

/-- WRED (R212). -/
def execWred (d a : Opnd) (op : BitVec 7) (wa : Bool) (s : State) : Host.Outcome State Fault Refusal := issue s (fun v => do
  let w := tyWide v.et
  let l ← v.resolveDst { kVZ with s := true } w d
  let ra ← v.rd kAny w a wa
  match (if op.toNat < 8 then redOf op.toNat else none) with
  | none => .error (v.trap cILLOP)
  | some o => do
    v.plainType
    let v ← v.sources [ra]
    v.destReady l
    let r := redVals v.md o (voterVals (v.laneVals v.et ra.loc) v.voters)
    match l with
    | .vec _ => .ok (v.putLanes l v.active v.et (Vector.replicate 32 r))
    | l => .ok (v.put (v.y.setScalar l (BitVec.ofNat 64 (extend64 v.et r)))))

/-- R213: the running prefixes: for each lane, the value before it and the value with it; an integer sum is kept exact. -/
def scanVals (m : Md) (o : RedOp) : List (Option Nat) → Option Nat → Int → List (Nat × Nat)
  | [], _, _ => []
  | x :: r, acc, sum =>
    let sums := decide (o = .add) && !tyFloat m.t
    let before := if sums then m.fit sum else acc.getD (o.ident m)
    match x with
    | none => (before, before) :: scanVals m o r acc sum
    | some v =>
      let sum' := sum + m.int v
      let acc' := match acc with
        | none => v
        | some a => o.combine m a v
      (before, if sums then m.fit sum' else acc') :: scanVals m o r (some acc') sum'

/-- WSCAN (R213). -/
def execWscan (d a : Opnd) (op : BitVec 7) (wa : Bool) (s : State) : Host.Outcome State Fault Refusal := issue s (fun v => do
  let w := tyWide v.et
  let l ← v.resolveDst kV w d
  let ra ← v.rd kAny w a wa
  match (if op.toNat < 16 then redOf (op.toNat % 8) else none) with
  | none => .error (v.trap cILLOP)
  | some o => do
    v.plainType
    let v ← v.sources [ra]
    v.destReady l
    let excl := decide (8 ≤ op.toNat)
    let p := scanVals v.md o (voterVals (v.laneVals v.et ra.loc) v.voters) none 0
    let r : Vector Nat 32 := Vector.ofFn (fun (i : Fin 32) =>
      let e := p.getD i.val (0, 0)
      if excl || !v.voters.getLsbD i.val then e.1 else e.2)
    .ok (v.putLanes l v.active v.et r))

/-! ## WRLANE, PTLOAD and MOVX (R214) -/

/-- WRLANE (R214): writes one lane, whatever the mask and the guard. A scalar a moves its bits; the constants one and mone are 1 and -1 in the type
that ETYPE names (02 R53), so 1.0 and -1.0 under a floating ETYPE, although BITX takes only the width from ETYPE (R182): the spec settles neither
reading for them (DESIGN CHOICE, log entry 58). -/
def execWrlane (d a b : Opnd) (wa wb : Bool) (s : State) : Host.Outcome State Fault Refusal := issue s (fun v => do
  let w := tyWide v.et
  let l ← v.resolveDst kV w d
  let ra ← v.rd kSxC w a wa
  let rb ← v.rd kSxC false b wb
  v.plainType
  let v ← v.sources [ra, rb]
  let i := (v.y.scalarVal rb.loc).toNat
  if 32 ≤ i then .error (v.trap cIDXBOUND i)
  else do
    v.destReady l
    let x : Vector Nat 32 := match ra.loc with
      | .sca _ => v.laneVals v.moveType ra.loc
      | c => (v.laneVals v.et c).map (fun x => if w then x else extend32 v.et x)
    .ok (v.putLanes l (BitVec.ofNat 32 (2 ^ i)) v.moveType x))

/-- PTLOAD (R214): a permutation entry as bytes into lanes 0 to 15, zeros above. -/
def execPtload (d b : Opnd) (wb : Bool) (s : State) : Host.Outcome State Fault Refusal := issue s (fun v => do
  let l ← v.resolveDst kV false d
  let rb ← v.rd kSxZ1 false b wb
  v.plainType
  let v ← v.sources [rb]
  let p ← v.perm (v.y.scalarVal rb.loc).toNat
  v.destReady l
  let x : Vector Nat 32 := Vector.ofFn (fun i =>
    if i.val < 16 then (List.range 4).foldl (fun n j => n + p.getD (4 * i.val + j) 0 * 256 ^ j) 0 else 0)
  .ok (v.putLanes l (BitVec.allOnes 32) tC32 x))

/-- MOVX (R214): copies all 32 lanes. -/
def execMovx (d a : Opnd) (wa : Bool) (s : State) : Host.Outcome State Fault Refusal := issue s (fun v => do
  let w := tyWide v.et
  let l ← v.resolveDst kV w d
  let ra ← v.rd kV w a wa
  v.plainType
  let v ← v.sources [ra]
  v.destReady l
  .ok (v.putLanes l (BitVec.allOnes 32) v.moveType (v.laneVals v.moveType ra.loc)))

/-! ## EXPR (R202, R203) -/

/-- EXPR (R202, R203): runs the expression program MODE.XPROG in each active lane. -/
def execExpr (d a b c : Opnd) (s : State) : Host.Outcome State Fault Refusal := issue s (fun v => do
  let w := tyWide v.et
  let l ← v.resolveDst kVZ w d
  let ra ← v.rd kAny w a false
  let rb ← v.rd kAny w b false
  let rc ← v.rd kAny w c false
  v.plainType
  let xp := mXprog v.y.mode
  match (v.kernel.bind (fun k => k.exprs[xp]?)).filter exprOk with
  | none => .error (v.trap cILLEXPR xp)
  | some p => do
    let rd : Rd := { loc := l, wait := false, code := d.toCode.toNat }
    let pushed := ([(4, rd), (1, ra), (2, rb), (3, rc)].filter (fun e => (exprToks p).contains e.1)).map (·.2)
    let v ← v.sources pushed
    v.destReady l
    let m := v.md
    let x := v.laneVals v.et ra.loc
    let y := v.laneVals v.et rb.loc
    let z := v.laneVals v.et rc.loc
    let o := v.laneVals v.et l
    .ok (v.putLanes l v.active v.et (Vector.ofFn (fun (i : Fin 32) => exprLane m p x[i] y[i] z[i] o[i]))))

end Sys2Proof.Machine
end

