-- ==== Sys2Proof/Machine/Branch.lean ====
section
/-! DEFINITION. The branches, words of major 0xD (08 R157, R177 to R179). -/

namespace Sys2Proof.Machine

/-- 03 R49: the target of a format B word. -/
def View.target (v : View) (off : BitVec 24) : DWord := v.pc + BitVec.ofInt 64 (4 * off.toInt)

/-- A branch that moves the whole fragment when a condition holds. -/
def View.branchIf (v : View) (c : Bool) (off : BitVec 24) : Except Stop State :=
  .ok (if c then v.jump (v.target off) else v.s)

/-- BRA (R177). -/
def execBra (off : BitVec 24) (s : State) : Host.Outcome State Fault Refusal := issue s (fun v => v.branchIf true off)
/-- BRZ (R177): taken when Z = 1. -/
def execBrz (off : BitVec 24) (s : State) : Host.Outcome State Fault Refusal := issue s (fun v => v.branchIf (fZ v.y.flags) off)
/-- BRNZ (R177): taken when Z = 0. -/
def execBrnz (off : BitVec 24) (s : State) : Host.Outcome State Fault Refusal := issue s (fun v => v.branchIf (!fZ v.y.flags) off)
/-- BRNEG (R177): taken when N = 1. -/
def execBrneg (off : BitVec 24) (s : State) : Host.Outcome State Fault Refusal := issue s (fun v => v.branchIf (fN v.y.flags) off)
/-- BRCY (R177): taken when C = 1. -/
def execBrcy (off : BitVec 24) (s : State) : Host.Outcome State Fault Refusal := issue s (fun v => v.branchIf (fC v.y.flags) off)
/-- BREOS (R177): taken when EOS = 1, which it leaves set. -/
def execBreos (off : BitVec 24) (s : State) : Host.Outcome State Fault Refusal := issue s (fun v => v.branchIf (fEos v.y.flags) off)

/-- CALL (R179): checks the header word before the target, opens the callee's window and jumps. -/
def execCall (off : BitVec 24) (s : State) : Host.Outcome State Fault Refusal := issue s (fun v => do
  let t := v.target off
  let h ← v.headerWord t
  if !hdrOk h ∨ v.win.regs.length < hdrOvl h then .error (v.trap cILLOP)
  else
    let n := hdrWin h - hdrOvl h
    if !v.y.winFits n then .error (v.trap cWINFULL)
    else match v.s.makeRoom v.core v.r.g v.r.w n with
      | none => .error v.park
      | some s1 =>
        let y := (s1.warp v.r.g v.r.w).getD v.y
        let (y1, id) := y.openWin (hdrWin h) (hdrOvl h) (some v.win) (v.win.depth + 1) (v.pc + 4) (some v.f.win) v.s.tick
        let y2 := y1.setSlot v.r.slot ((y1.slot v.r.slot).map (fun f => { f with pc := t, win := id }))
        .ok (s1.modWarp v.r.g v.r.w (fun _ => y2)))

/-- Number of lanes of a mask. -/
def countBits (m : Word) : Nat := (List.range 32).foldl (fun n i => n + b2n (m.getLsbD i)) 0

/-- R157: splits the fragment: the smaller side, or the taken one when they are equal, is detached. -/
def View.split (v : View) (taken rest : Word) (target : DWord) : Except Stop State :=
  let here := ((v.y.slot v.r.slot).map (·.pc)).getD 0
  let side := fun (m : Word) (pc : DWord) => Frag.fresh pc m v.f.join v.f.win
  let (stay, off) := if countBits rest < countBits taken then (side taken target, side rest here) else (side rest here, side taken target)
  let y := v.y.setSlot v.r.slot (some stay)
  if (y.slot (!v.r.slot)).isSome then
    if 64 ≤ y.stack.length then .error (v.trap cFSTACK) else .ok (v.put { y with stack := off :: y.stack })
  else .ok (v.put (y.setSlot (!v.r.slot) (some off)))

/-- BRV (R178): the lanes whose bit of m[k] is set go to the target; the fragment splits when they are some and not all. -/
def execBrv (k : BitVec 3) (off : BitVec 24) (s : State) : Host.Outcome State Fault Refusal := issue s (fun v =>
  let t := v.f.mask &&& v.y.m[Fin.ofNat 8 k.toNat]
  if t = 0 then .ok v.s
  else if t = v.f.mask then .ok (v.jump (v.target off))
  else v.split t (v.f.mask &&& ~~~t) (v.target off))

end Sys2Proof.Machine
end

