-- ==== Sys2Proof/Machine/Place.lean ====
section
/-! DEFINITION. The placer, the start of a warp, pre-emption, saving and restoring, and the active set (08 R143 to R153, R163, R164;
15 R354, R365; 05 R103). -/

namespace Sys2Proof.Machine

/-! ## Base registers from a leaf (15 R354, R365, R367) -/

/-- 15 R367: frame and pages after it of a leaf's own page, none when the frame is not local device memory. -/
def State.fastOf (s : State) (page entry : Nat) : Option (Nat × Nat) :=
  let l := leafOf entry
  let n := 2 ^ l.run
  if frameNode l.frame = s.node ∧ s.isDevice (frameLocal l.frame) then some (l.frame % 2 ^ 28, min 16383 (page / n * n + n - 1 - page)) else none

/-- 15 R367: a base register from a translated address. -/
def State.baseOf (s : State) (va : Nat) (tag : BitVec 4) (extra : BitVec 16) (entry : Nat) : BaseReg :=
  let l := leafOf entry
  let f := s.fastOf (vpage va) entry
  { va := BitVec.ofNat 56 va, frame := BitVec.ofNat 28 ((f.map (·.1)).getD 0), lpg := BitVec.ofNat 14 ((f.map (·.2)).getD 0),
    fp := f.isSome, valid := true, w := l.w, u := l.u, te := l.te, tag := tag, extra := extra }

/-- 15 R365: a base register after a restore. -/
def State.rebase (s : State) (c : Fin 64) (b : BaseReg) : BaseReg :=
  if !b.valid then b
  else
    let off : BaseReg := { b with fp := false }
    match s.walk s.ctxs[c].ptroot b.va.toNat with
    | .leaf _ e =>
      let l := leafOf e
      if s.leafFits l && (decide (l.state = stFast) || decide (l.state = stCap) || decide (l.state = stPinned)) then
        match s.fastOf (vpage b.va.toNat) e with
        | some f => { b with frame := BitVec.ofNat 28 f.1, lpg := BitVec.ofNat 14 f.2, fp := true }
        | none => off
      else off
    | _ => off

/-- 15 R354: b7 of a new warp: CB translated, its fast path ending with the CB region. A CB that fails to translate leaves the fast path off, with
W, U and TE of its leaf if it has one, and accesses through the register meet the fault: the spec says only "as BSET does", and a BSET would trap
(DESIGN CHOICE, log entry 58). -/
def State.base7 (s : State) (c : Fin 64) : BaseReg :=
  let x := s.ctxs[c]
  match s.xlate c x.cb false false with
  | .ok _ e =>
    let b := s.baseOf x.cb 0 0x8000 e
    { b with lpg := BitVec.ofNat 14 (min b.lpg.toNat (x.cblimit / 2 ^ 14 - 1)) }
  | _ => match s.walk x.ptroot x.cb with
    | .leaf _ e => { (s.baseOf x.cb 0 0x8000 e) with fp := false, frame := 0, lpg := 0 }
    | _ => { BaseReg.invalid with va := BitVec.ofNat 56 x.cb, valid := true }

/-! ## The start of a warp (03 R56, 08 R146) -/

/-- 08 R146: live lanes and helper lanes of a warp. -/
def liveLanes (sch : Schedule) (group warp size : Nat) : Word × Word :=
  let idx := fun (i : Nat) => (group * sch.warps + warp) * 32 + i
  if sch.gdiv = 0 then (BitVec.allOnes 32, 0)
  else
    let live := maskOf (fun i => decide (idx i.val < size))
    (live, maskOf (fun i => decide (size ≤ idx i.val) && decide (live &&& quadMask (i.val / 4) ≠ 0)))

/-- 03 R56, 08 R146, R163: a warp as its group is placed. -/
def State.startWarp (s : State) (k : Kernel) (x : Group) (size w slotNo : Nat) : Warp :=
  let c := cfin x.ctx
  let (live, helper) := liveLanes x.sched x.num w size
  let lanes := live ||| helper
  let base : Warp :=
    { s := Vector.ofFn (fun (i : Fin 32) =>
        { val := BitVec.ofNat 64 (match i.val with
            | 0 => x.num
            | 1 => w
            | 2 => size
            | 3 => s.ctxs[c].cb
            | _ => 0), fill := .full }),
      m := (Vector.replicate 8 0#32).set 0 live, b := (Vector.replicate 8 BaseReg.invalid).set 7 (s.base7 c),
      n := Vector.replicate 8 .zero, x := Vector.replicate 4 0, mode := 0x000800, flags := 0, phys := [], nextPhys := 0, wins := [], nextWin := 0,
      slot0 := none, slot1 := none, stack := [], joins := Vector.replicate 16 .free, helper := helper, qmap := Vector.replicate 4 none,
      popped := Vector.replicate 4 0,
      attach := [], copyN := 0, remN := 0, ecopy := 0, erem := 0, gsyncN := 0, csyncN := 0, plvl := 0, nthr := 1024,
      trap := { cause := 0, fpc := 0, faddr := 0, fmask := 0 }, causes := [], kept := none, due := [], held := none,
      sched := if lanes = 0 then .exited else .pending, intrap := false, since := s.uid, slotNo := slotNo, last1 := true, laneReads := [] }
  if lanes = 0 then base
  else
    let (y, id) := base.openWin x.win 0 none 0 0 none s.tick
    y.setSlot false (some (.fresh (BitVec.ofNat 64 (k.addr + k.codeOff + x.sched.entry)) lanes none id))

/-! ## Fitting on a core (08 R143) -/

/-- Physical registers that could be moved out of a core for a group from outside it. -/
def State.spillRoom (s : State) (core : Nat) : Nat := ((s.spillList core s.uid 0).map (·.regs)).sum

/-- 11 R249: row blocks that a group's tiles hold. -/
def Group.blocks (x : Group) : Nat := (x.tiles.toList.map (fun t => if t.st = .closed then 0 else t.rows / 8)).sum

/-- 11 R251: row blocks in use on a core. -/
def State.blocksUsed (s : State) (core : Nat) : Nat := ((s.groups.filter (fun e => decide (e.2.core = some core))).map (fun e => e.2.blocks)).sum

/-- 11 R251: row blocks for which AOPENs wait on a core. -/
def State.blocksWanted (s : State) (core : Nat) : Nat :=
  ((s.groups.filter (fun e => decide (e.2.core = some core))).map (fun e => (e.2.aopens.map (·.need)).sum)).sum

/-- 11 R258: the group that owns a FIFO of a core. -/
def State.fifoOwner (s : State) (core : Nat) (k : Fin 4) : Option Nat :=
  (s.groups.find? (fun e => decide (e.2.core = some core) && e.2.fifos[k].isSome)).map (·.1)

/-- 11 R252: a core has the row blocks and the FIFOs of a saved group. -/
def State.tilesFit (s : State) (core : Nat) (x : Group) : Bool :=
  decide (x.st ≠ .saved) ||
  ((decide (x.blocks = 0) || decide (s.blocksUsed core + s.blocksWanted core + x.blocks ≤ 31)) &&
   (List.finRange 4).all (fun k => x.fifos[k].isNone || (s.fifoOwner core k).isNone))

/-- 08 R143: a group fits on a core, counting a group on it as gone. -/
def State.fits (s : State) (core : Nat) (x : Group) (without : Option Nat) : Bool :=
  let t : State := match without with
    | some v => { s with groups := tdel s.groups v }
    | none => s
  let on := t.onCore core
  decide ((on.map (fun e => e.2.sched.warps)).sum + x.sched.warps ≤ 32) &&
  decide ((on.map (fun e => e.2.sched.footprint)).sum + x.sched.footprint ≤ 393216) &&
  decide (t.regsUsed core + x.sched.warps * x.win ≤ 1536 + t.spillRoom core) && t.tilesFit core x

/-! ## The placement order (08 R144, R147, R151) -/

/-- A list of numbers comes before another. -/
def lexLt : List Nat → List Nat → Bool
  | a :: r, b :: q => decide (a < b) || (decide (a = b) && lexLt r q)
  | [], _ :: _ => true
  | _, [] => false

/-- 08 R144: a group's place in the order; `asWaiting` for the test of R151. -/
def State.placeKey (s : State) (x : Group) (asWaiting : Bool) : List Nat :=
  [4 - x.prio, if x.st = .saved ∧ !asWaiting then 0 else 1, ((tget s.launches x.launch).map (·.order)).getD 0, x.num]

/-- 08 R147: a group's image is reserved or can be. -/
def State.canImage (s : State) (x : Group) : Bool :=
  x.imaged || decide ((s.ctxs[cfin x.ctx]).imaged + x.sched.img ≤ (s.ctxs[cfin x.ctx]).savesize)

/-- 08 R144, R147: the group stands in the placement order. -/
def State.inOrder (s : State) (x : Group) : Bool :=
  let c := s.ctxs[cfin x.ctx]
  (decide (x.st = .waiting) || decide (x.st = .saved)) && (decide (c.st = .ready) || decide (c.st = .running)) && !c.suspending && s.canImage x

/-- The first of some groups by their places. -/
def State.firstOf (s : State) : List (Nat × Group) → Option (Nat × Group)
  | [] => none
  | e :: r => match s.firstOf r with
    | none => some e
    | some f => if lexLt (s.placeKey f.2 false) (s.placeKey e.2 false) then some f else some e

/-- 08 R144: the head of the placement order. -/
def State.placeHead (s : State) : Option (Nat × Group) := s.firstOf (s.groups.filter (fun e => s.inOrder e.2))

/-- Resident groups of a launch phase in a quadrant. R144 says "resident groups": the model counts every group that holds a place on a core there,
PREEMPTING and RESTORING ones too (DESIGN CHOICE, log entry 58). -/
def State.mates (s : State) (x : Group) (quad : Nat) : Nat :=
  (s.groups.filter (fun e => e.2.onCore && decide (e.2.launch = x.launch) && decide (e.2.phase = x.phase) &&
    decide (e.2.core.map coreQuad = some quad))).length

/-- 08 R144: the core with most mates in its quadrant, the first of equals. -/
def bestCore (score : Nat → Nat) : List Nat → Option Nat
  | [] => none
  | c :: r => match bestCore score r with
    | none => some c
    | some d => if score c < score d then some d else some c

/-- 08 R144: the core that takes a group. -/
def State.coreFor (s : State) (x : Group) : Option Nat :=
  bestCore (fun c => s.mates x (coreQuad c)) (s.liveCores.filter (fun c => s.fits c x none))

/-- Warp slots of a core that no resident group's warp has. -/
def State.freeSlots (s : State) (core : Nat) : List Nat :=
  let used := ((s.onCore core).map (fun e => e.2.warps.map (·.slotNo))).flatten
  (List.range 32).filter (fun i => !used.contains i)

/-- 05 R101: a READY context one of whose groups is placed is RUNNING. -/
def State.ctxRunning (s : State) (c : Fin 64) : State := if s.ctxs[c].st = .ready then s.setCtx c .running else s

/-- Puts an extent into a list that rises by address. -/
def insertExtent (x : Nat × Nat) : List (Nat × Nat) → List (Nat × Nat)
  | [] => [x]
  | e :: r => if x.1 < e.1 then x :: e :: r else e :: insertExtent x r

/-- The extents of an area, from an address up to its end, that some rising extents leave free. -/
def gapsOf : Nat → Nat → List (Nat × Nat) → List (Nat × Nat)
  | lo, hi, [] => if lo < hi then [(lo, hi - lo)] else []
  | lo, hi, (a, n) :: r => (if lo < a then [(lo, a - lo)] else []) ++ gapsOf (max lo (a + n)) hi r

/-- The first extents of a list that hold a number of bytes. -/
def takeExtents : Nat → List (Nat × Nat) → List (Nat × Nat)
  | _, [] => []
  | n, (a, k) :: r => if n = 0 then [] else if n ≤ k then [(a, n)] else (a, k) :: takeExtents (n - k) r

/-- 08 R147, 05 R99: where a new image of a context lies: the first free bytes of its save area. The spec leaves the place to the device (DESIGN
CHOICE, log entry 31). -/
def State.imagePlace (s : State) (c : Fin 64) (n : Nat) : List (Nat × Nat) :=
  let used := (((s.groups.filter (fun e => decide (cfin e.2.ctx = c))).map (fun e => e.2.imgAt)).flatten).foldl (fun l x => insertExtent x l) []
  takeExtents n (gapsOf (s.ctxs[c]).save ((s.ctxs[c]).save + (s.ctxs[c]).savesize) used)

/-- 08 R147: reserves a group's image. -/
def State.reserve (s : State) (g : Nat) (x : Group) : State :=
  if x.imaged then s
  else (s.modGroup g (fun y => { y with imaged := true, imgAt := s.imagePlace (cfin x.ctx) x.sched.img, image := [] })).modCtx (cfin x.ctx) (fun c =>
    { c with imaged := c.imaged + x.sched.img })

/-- 08 R163: a WAITING group is placed: its warps are initialised, the group is RESIDENT and its clock starts. The selection of its phase acquires at
DEVICE (14 R342): what its core's L1 holds from before goes. -/
def State.placeNew (s : State) (g : Nat) (x : Group) (core : Nat) : State :=
  match tget s.launches x.launch, s.makeRoom core s.uid 0 (x.sched.warps * x.win) with
  | some l, some s1 =>
    let slots := s.freeSlots core
    let warps := (List.range x.sched.warps).map (fun i => s1.startWarp l.k x l.size i (slots.getD i 0))
    let s2 := (s1.reserve g x).modGroup g (fun y => { y with st := .resident, core := some core, warps := warps, resSince := s.now })
    let s3 : State := { s2 with launches := tput s2.launches x.launch (if l.st = .launched then { l with st := .running } else l), uid := s2.uid + 1 }
    (((s3.ctxRunning (cfin x.ctx)).settleSync g).exitGroup g).acquire core 5
  | _, _ => s

/-- 08 R163: a SAVED group is placed again and RESTORING; the core is another than the one that acquired for it (14 R342), so its L1 goes. -/
def State.placeSaved (s : State) (g : Nat) (x : Group) (core : Nat) : State :=
  match s.makeRoom core s.uid 0 (x.sched.warps * x.win) with
  | some s1 =>
    let slots := s.freeSlots core
    let s2 := s1.modGroup g (fun y =>
      { y with st := .restoring, core := some core, warps := y.warps.zipIdx.map (fun (w, i) => { w with slotNo := slots.getD i 0 }) })
    let s3 := (s2.ctxRunning (cfin x.ctx)).settleSync g
    (match x.lastQuad with
    | some q => s3.clusterStep x.launch x.phase q
    | none => s3).acquire core 5
  | none => s

/-- 15 R354, R357: a new group's warps need CB translated, which may have to wait for a migration of its page; uncorrectable page tables move the
context to FAULTED (05 R101). -/
def State.placeFresh (s : State) (g : Nat) (x : Group) (core : Nat) : State :=
  let c := cfin x.ctx
  match s.xlate c (s.ctxs[c]).cb false false with
  | .park => s.addFault c (vpage (s.ctxs[c]).cb) (coreDie core) none
  | .uncorr => s.faultContext c cUNCORR 7 0 (s.ctxs[c]).cb 0 0
  | _ => s.placeNew g x core

/-- GROUP_PLACEMENT (R144): the first group of the placement order goes to a core, if it fits on one. -/
def execGroupPlacement (s : State) : Host.Outcome State Fault Refusal :=
  .next (match s.placeHead with
    | none => s
    | some (g, x) => match s.coreFor x with
      | none => s
      | some core => if x.st = .saved then s.placeSaved g x core else s.placeFresh g x core)

/-! ## Pre-emption (08 R151, R152; 05 R103) -/

/-- The quantum in force of a context in ns (05 R97). -/
def Ctx.quantumNs (c : Ctx) : Nat := 1000 * (if c.quantum = 0 then 2000 else c.quantum)

/-- 08 R163: a RESIDENT group begins to be pre-empted. -/
def State.preempt (s : State) (g : Nat) : State :=
  s.modGroup g (fun x => if x.st = .resident then { x with st := .preempting } else x)

/-- The victim of lowest effective priority, resident longest. -/
def weakest : List (Nat × Group) → Option (Nat × Group)
  | [] => none
  | e :: r => match weakest r with
    | none => some e
    | some f => if f.2.prio < e.2.prio ∨ (f.2.prio = e.2.prio ∧ f.2.resSince < e.2.resSince) then some f else some e

/-- 08 R151: the group whose removal makes room for another. -/
def State.victimFor (s : State) (x : Group) : Option Nat :=
  (weakest (s.groups.filter (fun e =>
    decide (e.2.st = .resident) && decide ((s.ctxs[cfin e.2.ctx]).quantumNs ≤ s.now - e.2.resSince) &&
    !lexLt (s.placeKey e.2 true) (s.placeKey x false) &&
    (match e.2.core with
     | some c => s.fits c x (some e.1)
     | none => false)))).map (·.1)

/-- PREEMPTION_START (R151): a head that fits nowhere takes the place of a group that has had its quantum. -/
def execPreemptionStart (s : State) : Host.Outcome State Fault Refusal :=
  .next (match s.placeHead with
    | none => s
    | some (_, x) =>
      if (s.coreFor x).isSome then s
      else match s.victimFor x with
        | some g => s.preempt g
        | none => s)

/-- 05 R101, R103: SUSPEND of a READY or RUNNING context. -/
def State.suspendCtx (s : State) (c : Fin 64) : State :=
  let s1 := s.discardLoaded c
  if s1.ctxs[c].st = .ready then s1.setCtx c .suspended
  else
    let s2 := (s1.modCtx c (fun x => { x with suspending := true }))
    (s2.groups.foldl (fun t e => if cfin e.2.ctx = c then t.preempt e.1 else t) s2).suspendCheck c

/-- 08 R152: a copy lands in the group's scratchpad or in a FIFO it owns. -/
def Copy.intoGroup (c : Copy) : Bool := match c.kind with
  | .cpyf _ _ => true
  | .adrain => c.p0.getLsbD 63
  | .cpyx => false
  | _ => c.p1.getLsbD 63

/-- 08 R152, 03 R65: the accepted work of a group that must land before it is saved. -/
def State.landing (s : State) (g : Nat) : Bool :=
  let absent := fun (m : MemOp) (l : LaneAcc) => decide (m.space = .spad) && (match s.group g with
    | some x => x.absentAt l.addr (elemBytes m.type l.bit)
    | none => false)
  s.memops.any (fun e => decide (e.2.g = g) && (e.2.landed || e.2.lanes.any (fun l => match l.st with
    | .todo => s.mayPerform e.2 && !absent e.2 l
    | .remote _ => true
    | _ => false))) ||
  s.numops.any (fun e => decide (e.2.g = g)) ||
  s.exchs.any (fun e => decide (e.2.g = g)) ||
  s.copies.any (fun e => decide (e.2.g = g) && decide (e.2.st = .running) && e.2.intoGroup &&
    (decide (e.2.kind ≠ .adrain) || e.2.snap.isSome))

/-- 11 R260: a slab has landed, or will not. -/
def Group.slabHere (x : Group) (f n : Nat) : Bool := match x.fifos[Fin.ofNat 4 f] with
  | some q => (match q.slabs.find? (fun b => b.id == n) with
    | some b => b.failed || decide (b.size ≤ b.bytes.length)
    | none => true)
  | none => true

/-- 11 R254, R260: an operation is the first of its tile and its slabs are there. -/
def Group.opReady (x : Group) (o : TileOp) : Bool :=
  decide ((x.tops.find? (fun q => decide (q.tile = o.tile))).map (·.id) = some o.id) && (match o.kind with
    | .mma fa sa fb sb => x.slabHere fa sa && x.slabHere fb sb
    | .lmma fa sa fb sb => x.slabHere fa sa && x.slabHere fb sb
    | _ => true)

/-- 11 R273: some pending tile operation can still retire. -/
def Group.tileReady (x : Group) : Bool := x.tops.any x.opReady

/-- 11 R257: the operation has an entry in the engine queue. -/
def TileOp.queued (o : TileOp) : Bool := match o.kind with
  | .azero => true
  | .mma _ _ _ _ => true
  | .lmma _ _ _ _ => true
  | _ => false

/-! ## Save images (08 R147, R152; 05 R99; 15 R359) -/

/-- 08 R161: bytes of a window in the spill area: a 16-byte record and the packed registers that it opened. -/
def Warp.windowBytes (y : Warp) (w : Window) : Nat :=
  16 + ((w.regs.drop (w.regs.length - w.opened)).map (fun r => (packReg (y.vreg r).lanes).2.length)).sum

/-- 08 R152: B, the bytes that saving a group writes: 8 KiB, each warp's other state and packed windows, its scratchpad footprint, the rows of its
open tiles and what its FIFOs hold. The contents and their layout are private to the device (R147; log entry 31). -/
def Group.imageSize (x : Group) : Nat :=
  8192 + (x.warps.map (fun y => 16384 + (y.wins.map y.windowBytes).sum)).sum + x.sched.footprint +
    (x.tiles.toList.map (fun t => if t.st = .closed then 0 else t.rows * 1536)).sum +
    (x.fifos.toList.map (fun f => match f with
      | some q => (q.slabs.map (fun b => b.bytes.length)).sum
      | none => 0)).sum

/-- 08 R147: the bytes of an image that is written in a step, its check code among them; the spec leaves them to the device. -/
def State.imageBytes (s : State) (n : Nat) : List Byte := (List.range n).map (Config.freeByte s.tick)

/-- Stores some bytes into the extents of an image, all of them or none. -/
def State.putImage (s : State) (c : Fin 64) : List (Nat × Nat) → List Byte → Stored
  | [], _ => .ok s
  | (a, n) :: r, b => if b.isEmpty then .ok s else match s.putVa c a (b.take n) with
    | .ok t => t.putImage c r (b.drop n)
    | x => x

/-- Reads n bytes of the extents of an image. -/
def State.getImage (s : State) (c : Fin 64) : List (Nat × Nat) → Nat → Except Stored (List Byte)
  | [], _ => .ok []
  | (a, k) :: r, n => if n = 0 then .ok []
    else
      let ps := pageCut (k / 2 ^ 14 + 2) a (List.replicate (min n k) 0)
      match ps.mapM (fun (va, b) => match s.xlate c va false false with
        | .ok pa _ => if s.engBad pa b.length then Except.error (Stored.fail cUNCORR va) else .ok ((List.range b.length).map (fun i => s.engByte (pa + i)))
        | .fail e => .error (.fail e va)
        | .park => .error (.park (vpage va))
        | .uncorr => .error (.tables va)) with
      | .ok l => (s.getImage c r (n - k)).map (fun q => l.flatten ++ q)
      | .error e => .error e

/-- 05 R99, R104, 15 R359: what becomes of a use of an image that is not served: its page migrates first, or the context faults on SAVE. -/
def State.imageStop (s : State) (c : Fin 64) (x : Stored) : State := match x with
  | .ok t => t
  | .park p => s.addFault c p 0 none
  | .fail k va => s.faultContext c k 7 0 va 0 0
  | .tables va => s.faultContext c cUNCORR 7 0 va 0 0

/-- 13 R302: a BWAIT that waits when its group is saved is saved as not issued. -/
def Frag.unwait (f : Frag) : Frag := match f.arrived with
  | some (.bwait _ _) => { f with arrived := none }
  | some .bwaitOver => { f with arrived := none }
  | some (.bwaitBroken _) => { f with arrived := none }
  | _ => f

/-- 08 R152, R153, R161: what saving does to a warp: its windows are in the image, packed, and a wait in BWAIT is given up. -/
def Warp.saved (y : Warp) : Warp :=
  let z := y.wins.foldl (fun y w => if w.spilled then y else y.markWin w.id true) y
  { z with slot0 := z.slot0.map Frag.unwait, slot1 := z.slot1.map Frag.unwait, kept := z.kept.map (fun k => { k with frag := k.frag.unwait }) }

/-- 08 R163, 05 R103: the group's image is written, as some bytes, and its core is free. -/
def State.saveGroup (s : State) (g : Nat) (x : Group) (image : List Byte) : State :=
  let s0 := s.modCtx (cfin x.ctx) (fun c => c.giveBack ((s.hods.filter (fun e => decide (e.2.g = g))).filterMap (fun e => e.2.answer.bind id)))
  let s1 := s0.modGroup g (fun y =>
    { y with st := .saved, lastQuad := y.core.map coreQuad, core := none, warps := y.warps.map Warp.saved, aopens := [], image := image,
             waitSince := s.now })
  let s2 : State :=
    { s1 with popWaits := s1.popWaits.filter (fun p => p.g != g), hods := s1.hods.filter (fun e => e.2.g != g),
              binds := s1.binds.map (fun e => (e.1, { e.2 with takers := e.2.takers.filter (fun t => t.g != g) })) }
  let s3 : State := { s2 with cores := s2.cores.map (fun e => (e.1, { e.2 with engine := e.2.engine.filter (fun q => match q with
    | .tile a _ => a != g
    | .band _ => true) })) }
  s3.suspendCheck (cfin x.ctx)

/-- GROUP_SAVED (R152): once its accepted work has landed, a PREEMPTING group is written into its image and SAVED. -/
def execGroupSaved (g : Nat) (s : State) : Host.Outcome State Fault Refusal :=
  .next (match s.group g with
    | none => s
    | some x =>
      if x.st ≠ .preempting ∨ s.landing g ∨ x.tileReady then s
      else
        let c := cfin x.ctx
        let image := s.imageBytes x.imageSize
        match s.putImage c x.imgAt image with
        | .ok t => (t.saveGroup g x image).flush c
        | e => s.imageStop c e)

/-- 08 R153, 15 R365: a warp after a restore: its entry windows are brought back and its base registers translated anew. -/
def State.restoreWarp (s : State) (c : Fin 64) (y : Warp) : Warp :=
  if y.sched = .exited then y
  else { y with wins := y.wins.map (fun w => if w.depth = 0 then { w with spilled := false, packed := [] } else w), b := y.b.map (s.rebase c),
                sched := if y.sched = .active then .pending else y.sched, since := if y.sched = .active then s.uid else y.since }

/-- 08 R147, R163: a RESTORING group whose image has been read is RESIDENT again. -/
def State.restoreGroup (s : State) (g : Nat) (x : Group) : State :=
  let c := cfin x.ctx
  let s1 := s.modGroup g (fun y => { y with st := .resident, resSince := s.now, warps := y.warps.map (s.restoreWarp c) })
  let s2 := match x.core with
    | some k =>
      let back := (x.tops.filter TileOp.queued).map (fun (o : TileOp) => EngineEntry.tile g o.id)
      if (s1.coreAt k).l1.isEmpty ∧ back.isEmpty then s1 else s1.modCore k (fun q => { q with l1 := [], engine := q.engine ++ back })
    | none => s1
  let s3 := if (s2.ctxs[c]).suspending then s2.preempt g else s2
  (s3.settleSync g).exitGroup g

/-- GROUP_RESTORED (R163): a RESTORING group is RESIDENT again. An image whose check fails, as it does when its bytes are not those that were
saved, faults the context; one on a page that migrates is waited for (15 R359). -/
def execGroupRestored (g : Nat) (ok : Bool) (s : State) : Host.Outcome State Fault Refusal :=
  .next (match s.group g with
    | none => s
    | some x =>
      if x.st ≠ .restoring then s
      else
        let c := cfin x.ctx
        match s.getImage c x.imgAt x.image.length with
        | .ok l => if ok ∧ l = x.image then s.restoreGroup g x else s.faultContext c cUNCORR 7 0 (((x.imgAt.head?).map (·.1)).getD (s.ctxs[c]).save) 0 0
        | .error e => s.imageStop c e)

/-! ## The active set (08 R148, R150) -/

/-- Warps of a core's resident groups. -/
def State.coreWarps (s : State) (core : Nat) : List (Nat × Nat × Warp) :=
  (((s.onCore core).filter (fun e => decide (e.2.st = .resident))).map (fun e => e.2.warps.zipIdx.map (fun (y, i) => (e.1, i, y)))).flatten

/-- The warp that has been pending longest. -/
def longestPending : List (Nat × Nat × Warp) → Option (Nat × Nat × Warp)
  | [] => none
  | e :: r =>
    let f := longestPending r
    if e.2.2.sched = .pending then
      match f with
      | some q => if q.2.2.since < e.2.2.since then some q else some e
      | none => some e
    else f

/-- WARP_ACTIVATE (R150): a free active slot goes to the warp that has been PENDING longest. -/
def execWarpActivate (core : Nat) (s : State) : Host.Outcome State Fault Refusal :=
  .next (
    let ws := s.coreWarps core
    if (ws.filter (fun e => decide (e.2.2.sched = .active))).length < 8 then
      match longestPending ws with
      | some (g, w, _) => s.setSched g w .active
      | none => s
    else s)

/-- 08 R160: a window is the next that the spill engine moves: the oldest of its warp, for a CALL of that warp, or the oldest of the PENDING and
PARKED warps of its core; and its registers are filled. -/
def State.nextSpill (s : State) (core g w win : Nat) : Bool :=
  let first := fun (l : List Movable) => match l with
    | e :: _ => decide (e.g = g) && decide (e.w = w) && decide (e.id = win) && e.filled
    | [] => false
  first (s.spillList core g w) || first (s.spillList core s.uid 0)

/-- SPILL_COMPLETE (R160): the spill engine has moved the next window in its order out of the register file, or has brought one back that a slot
fragment uses. -/
def execSpillComplete (g w win : Nat) (s : State) : Host.Outcome State Fault Refusal :=
  .next (match s.group g, s.warp g w with
    | some x, some y =>
      match x.onCore, x.core, y.window win with
      | true, some core, some q =>
        if s.nextSpill core g w win then s.modWarp g w (·.markWin win true)
        else if q.spilled && y.slots.any (fun f => f.win == win) then
          match s.makeRoom core g w q.opened with
          | some t => t.modWarp g w (·.markWin win false)
          | none => s
        else s
      | _, _, _ => s
    | _, _ => s)

end Sys2Proof.Machine
end

