-- ==== Sys2Proof/Machine/Context.lean ====
section
/-! DEFINITION. The context controller: the commands of CTXCMD, SAVEPOOL, the end of a draining context, and the plain registers of BAR 0
(05 R97 to R103, 20 R438). -/

namespace Sys2Proof.Machine

/-- 20 R440: all BAR 0 windows are live. -/
def State.open_ (s : State) : Bool := decide (s.life.stat = .ready)

/-- 20 R440: identity and control answer. -/
def State.identLive (s : State) : Bool :=
  decide (s.life.stat = .ready) || decide (s.life.stat = .recovery) || decide (s.life.stat = .unsupported)

/-- 05 R97: where the descriptor of a context starts in BAR 0. -/
def descAt (c : Fin 64) : Nat := 0x100000 + 256 * c.val

/-- Sets ERR of a context (05 R98). -/
def State.setErr (s : State) (c : Fin 64) (e : Nat) : State := s.modCtx c (fun x => { x with err := e })

/-- A power of two from one number to another. -/
def powerIn (x lo hi : Nat) : Bool := decide (lo ≤ x) && decide (x ≤ hi) && decide (2 ^ Nat.log2 x = x)

/-! ## COMMIT (05 R97, R99, R100) -/

/-- 05 R97: the fields of a descriptor as the host has written them. -/
def State.descriptor (s : State) (c : Fin 64) : Ctx :=
  let f := fun (o n : Nat) => s.bar (descAt c + o) n
  { s.ctxs[c] with
    ptroot := f 0 8, cb := f 8 8, cblimit := f 0x10 8, tvec := f 0x18 8, save := f 0x20 8, savesize := f 0x28 8, heap := f 0x30 8,
    heapsize := f 0x38 8, modtab := f 0x40 8, flog := f 0x48 8, flogcount := f 0x50 4, quantum := f 0x54 4, stagetab := f 0x58 8,
    notify := f 0x60 8, heapmeta := f 0x68 8 }

/-- 05 R97, R99: every alignment, range and reserved field of a descriptor is as R97 says. -/
def State.descOk (s : State) (c : Fin 64) : Bool :=
  let x := s.descriptor c
  decide (x.ptroot % 2 ^ 14 = 0) && decide (x.cb % 2 ^ 14 = 0) && decide (x.cblimit ≠ 0) && decide (x.cblimit % 2 ^ 14 = 0) &&
  decide (x.tvec % 4 = 0) && decide (4 ≤ x.tvec) && decide (x.save % 128 = 0) && decide (x.savesize % 128 = 0) && decide (2 ^ 16 ≤ x.savesize) &&
  decide (x.heap % 128 = 0) && decide (x.heapsize % 128 = 0) && decide (x.modtab % 128 = 0) && decide (x.flog % 64 = 0) &&
  powerIn x.flogcount 64 65536 && (decide (x.quantum = 0) || (decide (100 ≤ x.quantum) && decide (x.quantum ≤ 1000000))) &&
  decide (x.stagetab % 128 = 0) && decide (x.notify % 8 = 0) && (decide (x.heapsize = 0) || decide (x.heapmeta % 128 = 0)) &&
  decide (s.bar (descAt c + 0x70) 16 = 0)

/-- 05 R100: the context holds its share of the save-space reservation. -/
def CtxState.reserves (st : CtxState) : Bool := decide (st ≠ .free) && decide (st ≠ .building)

/-- 05 R100, 20 R439: SAVEUSED. -/
def State.saveUsed (s : State) : Nat := (s.ctxs.toList.map (fun x => if x.st.reserves then x.savesize else 0)).sum

/-- 05 R99: the first use of NOTIFY that COMMIT's change of STATE makes: one that faults moves the context to FAULTED. -/
def State.notifyFault (s : State) (c : Fin 64) : State :=
  if notifyOk (s.ctxs[c]).notify then s else s.faultContext c cPGPROT 7 0 (s.ctxs[c]).notify 0 0

/-- COMMIT of a BUILDING context: it becomes READY with its descriptor latched, or ERR says why not. -/
def State.commitCtx (s : State) (c : Fin 64) : State :=
  if !s.descOk c then s.setErr c 2
  else if s.life.savepool < s.saveUsed + (s.descriptor c).savesize then s.setErr c 3
  else
    let x := s.descriptor c
    ((s.modCtx c (fun _ =>
      { x with err := 0, floghead := 0, flogtail := 0, floglost := 0, suspending := false, blocks := [], heapDue := [], imaged := 0, drains := 0, owed := [] })).setCtx
        c .ready).notifyFault c

/-! ## DESTROY and RELEASE (05 R101) -/

/-- A group of the context. -/
def State.ownGroup (s : State) (c : Fin 64) (g : Nat) : Bool := match s.group g with
  | some x => decide (cfin x.ctx = c)
  | none => false

/-- 06 R120: the context's queues are unbound. -/
def State.unbindAll (s : State) (c : Fin 64) : State :=
  { s with queues := s.queues.map (fun q => if cfin q.ctx = c ∧ q.st ≠ .unbound then { q with st := .unbound, loaded := none, aged := 0 } else q) }

/-- 05 R101: DESTROY of a context that is not BUILDING: launches end without completion, copies are cancelled, queues are unbound. -/
def State.destroyCtx (s : State) (c : Fin 64) : State :=
  let s1 := (s.modCtx c (fun y => { y with suspending := false })).setCtx c .draining
  let s2 := s1.launches.foldl (fun t e => if cfin e.2.k.ctx = c then t.abortLaunch e.1 false else t) s1
  (s2.cancelCopies (fun x => decide (cfin x.ctx = c))).unbindAll c

/-- 05 R101: a context is FREE; what was left of its launches and groups is gone. The statuses of its copies stay (12 R295). -/
def State.freeCtx (s : State) (c : Fin 64) : State :=
  let t : State :=
    { s with clusters := s.clusters.filter (fun e => match tget s.launches e.1 with
               | some l => !decide (cfin l.k.ctx = c)
               | none => false),
             launches := s.launches.filter (fun e => !decide (cfin e.2.k.ctx = c)),
             groups := s.groups.filter (fun e => !decide (cfin e.2.ctx = c)) }
  t.modCtx c (fun x => { Ctx.free with notifyN := x.notifyN })

/-! ## The commands (05 R98, R101) -/

/-- 05 R101: the state table lists the command for a state. -/
def CtxState.allows (st : CtxState) (cmd : Nat) : Bool := match cmd, st with
  | 1, .free => true
  | 2, .building => true
  | 3, .ready => true
  | 3, .running => true
  | 4, .suspended => true
  | 5, .building => true
  | 5, .ready => true
  | 5, .running => true
  | 5, .suspended => true
  | 5, .faulted => true
  | 6, .dead => true
  | _, _ => false

/-- 05 R98: a command of CTXCMD: a refused one sets ERR to BADCMD and leaves the state. -/
def State.ctxCmd (s : State) (c : Fin 64) (cmd : Nat) (act : State → State) : State :=
  if !s.open_ then s else if s.ctxs[c].st.allows cmd then act (s.setErr c 0) else s.setErr c 1

/-- CREATE (R101). -/
def execCreate (c : Fin 64) (s : State) : Host.Outcome State Fault Refusal :=
  .next (s.ctxCmd c 1 (fun t =>
    ({ t with bar0 := Memory.clear t.bar0 (descAt c) 128 } : State).modCtx c (fun x => { Ctx.free with st := .building, notifyN := x.notifyN })))

/-- COMMIT (R99, R100). -/
def execCommit (c : Fin 64) (s : State) : Host.Outcome State Fault Refusal := .next (s.ctxCmd c 2 (·.commitCtx c))

/-- SUSPEND (R101, R103). -/
def execSuspend (c : Fin 64) (s : State) : Host.Outcome State Fault Refusal := .next (s.ctxCmd c 3 (·.suspendCtx c))

/-- RESUME (R101): RUNNING with a group SAVED or waiting, else READY. -/
def execResume (c : Fin 64) (s : State) : Host.Outcome State Fault Refusal :=
  .next (s.ctxCmd c 4 (fun t =>
    t.setCtx c (if t.groups.any (fun e => decide (cfin e.2.ctx = c) && (decide (e.2.st = .saved) || decide (e.2.st = .waiting))) then .running
      else .ready)))

/-- DESTROY (R101). -/
def execDestroy (c : Fin 64) (s : State) : Host.Outcome State Fault Refusal :=
  .next (s.ctxCmd c 5 (fun t => if t.ctxs[c].st = .building then t.freeCtx c else t.destroyCtx c))

/-- RELEASE (R101). -/
def execRelease (c : Fin 64) (s : State) : Host.Outcome State Fault Refusal := .next (s.ctxCmd c 6 (·.freeCtx c))

/-- CTXCMD_BADCMD (R98): code 0 or 7, or a command that the state does not allow. -/
def execCtxcmdBadcmd (c : Fin 64) (cmd : BitVec 3) (s : State) : Host.Outcome State Fault Refusal :=
  .next (if s.open_ && !s.ctxs[c].st.allows cmd.toNat then s.setErr c 1 else s)

/-! ## The end of a draining context (05 R101) -/

/-- 05 R101: a request of the context is still in flight. -/
def State.busy (s : State) (c : Fin 64) : Bool :=
  s.memops.any (fun e => s.ownGroup c e.2.g) || s.numops.any (fun e => s.ownGroup c e.2.g) || s.hods.any (fun e => s.ownGroup c e.2.g) ||
  s.exchs.any (fun e => s.ownGroup c e.2.g) || s.remotes.any (fun e => s.ownGroup c e.2.g) || s.inbound.any (fun e => decide (cfin e.2.ctx = c)) ||
  s.copies.any (fun e => decide (cfin e.2.ctx = c) && (decide (e.2.st = .running) || decide (e.2.st = .parked))) ||
  s.migs.any (fun e => decide (cfin e.2.ctx = c) && decide (e.2.step ≠ .waiting)) || !(s.ctxs[c]).owed.isEmpty

/-- The migrations that meet a condition are dropped; a host command among them ends with BADREQ (log entry 43). -/
def State.dropMigs (s : State) (p : Migration → Bool) : State :=
  let hit := match s.mcmd.bind (tget s.migs) with
    | some m => p m
    | none => false
  let t : State := { s with migs := s.migs.filter (fun e => !p e.2) }
  if hit then { t with mcmd := none, mstat := 3 } else t

/-- CONTEXT_DEAD (R101): nothing of a DRAINING context is in flight: the Hod has freed its arena, and every translation is invalid. -/
def execContextDead (c : Fin 64) (s : State) : Host.Outcome State Fault Refusal :=
  .next (if s.ctxs[c].st = .draining ∧ !s.busy c then
    let t : State := { s with cores := s.cores.map (fun e => (e.1, { e.2 with tlb := e.2.tlb.filter (fun t => !decide (cfin t.ctx = c)) })) }
    ((t.dropMigs (fun m => decide (cfin m.ctx = c))).modCtx c (fun x => { x with blocks := [], heapDue := [] })).setCtx c .dead
  else s)

/-! ## SAVEPOOL and plain registers (05 R100, 20 R438) -/

/-- SAVEPOOL_WRITE (R100): a register of identity and control, live in RECOVERY and UNSUPPORTED too (20 R440). -/
def execSavepoolWrite (v : BitVec 64) (s : State) : Host.Outcome State Fault Refusal :=
  .next (if s.identLive ∧ s.ctxs.toList.all (fun x => decide (x.st = .free)) then
    { s with life := { s.life with savepool := v.toNat / 128 * 128 } } else s)

/-- 20 R439: ATTBUF, NODEARG and NONCE. -/
def identPlain (o : Nat) : Bool := (decide (0x20 ≤ o) && decide (o < 0x2C)) || (decide (0x40 ≤ o) && decide (o < 0x60))

/-- 20 R438: a byte of BAR 0 that holds what the host writes: the MSI-X table; RING and SIZE of the pools; MCTX, MVA, MTARGET and PINWIN;
eviction schedules; inbound windows; the route table. -/
def plainByte (o : Nat) : Bool :=
  (decide (0x8000 ≤ o) && decide (o < 0x8410)) ||
  (decide (0x300000 ≤ o) && decide (o < 0x300100) && decide (o % 32 < 12)) ||
  (decide (0x301000 ≤ o) && decide (o < 0x301004)) || (decide (0x301008 ≤ o) && decide (o < 0x301018)) ||
  (decide (0x30101C ≤ o) && decide (o < 0x301020)) ||
  (decide (0x310000 ≤ o) && decide (o < 0x320000)) || (decide (0x350000 ≤ o) && decide (o < 0x350800)) ||
  (decide (0x360100 ≤ o) && decide (o < 0x360300))

/-- Stores the bytes of a write that some registers take. -/
def putPlain (ok : Nat → Bool) : Memory → Nat → List Byte → Memory
  | m, _, [] => m
  | m, a, b :: r => putPlain ok (if ok a then Memory.put m a b else m) (a + 1) r

/-- 15 R361: PINWIN stores at most 1,000. -/
def State.clampPinwin (s : State) : State := if 1000 < s.bar 0x30101C 4 then s.setBar 0x30101C 4 1000 else s

/-- 06 R112, R113: a write of 4 bytes to a queue's window at an offset of 4: QBASE, QSIZE, and QCTL without a command. R112 refuses a write of CTXID
outside UNBOUND with BADCMD, and R113 says that a write with CMD 0 sets no QERR: the model follows R113 for a CTXID that comes with CMD 0, drops it
and leaves QERR (DESIGN CHOICE, log entry 58). -/
def Queue.poke (q : Queue) (o v : Nat) : Queue :=
  let b := q.base.toNat
  if 0x0C ≤ o then
    (if o = 0x0C ∧ v / 1024 % 8 = 0 ∧ q.st = .unbound then { q with ctx := v % 64 } else q)
  else if q.st ≠ .unbound then { q with err := 1 }
  else if o = 0 then { q with base := BitVec.ofNat 64 (b / 2 ^ 32 * 2 ^ 32 + v) }
  else if o = 4 then { q with base := BitVec.ofNat 64 (v * 2 ^ 32 + b % 2 ^ 32) }
  else { q with size := v }

/-- A write of 4 or 8 bytes to a queue's window. -/
def Queue.write (q : Queue) (o size v : Nat) : Queue :=
  let q1 := q.poke o (v % 2 ^ 32)
  if size = 8 then q1.poke (o + 4) (v / 2 ^ 32) else q1

/-- REGISTER_WRITE (R438): a host write to registers that have no behaviour of their own. A write that no such register takes is dropped. -/
def execRegisterWrite (off size val : Nat) (s : State) : Host.Outcome State Fault Refusal :=
  .next (
    if s.open_ ∧ 0x100000 ≤ off ∧ off < 0x104000 then
      (if off % 256 < 128 then
        let c := Fin.ofNat 64 ((off - 0x100000) / 256)
        if s.ctxs[c].st = .building then s.setBar off (min size (128 - off % 256)) val else s.setErr c 1
      else s)
    else if s.open_ ∧ 0x200000 ≤ off ∧ off < 0x204000 then
      (if off % 64 < 32 then
        let q := Fin.ofNat 256 ((off - 0x200000) / 64)
        { s with queues := s.queues.set q (s.queues[q].write (off % 64) size val) }
      else s)
    else
      let ok := fun (o : Nat) => (s.identLive && identPlain o) || (s.open_ && plainByte o)
      ({ s with bar0 := putPlain ok s.bar0 off (leBytes size val) } : State).clampPinwin)

end Sys2Proof.Machine
end

