-- ==== Sys2Proof/Machine/MemIns.lean ====
section
/-! DEFINITION. The memory instructions at issue, MEM words of major 0x9 and SPAD words of major 0xA (14 R314 to R331), and the common
part that TAGLD and TAGST share with them (15 R368). -/

namespace Sys2Proof.Machine

/-! ## Operands (14 R314 to R316, R327) -/

/-- R315: the offset of a memory instruction. -/
def kOff : Kinds := { kAny with m := false, mone := false }
/-- R315: the data of a store. -/
def kData : Kinds := { kAny with m := false }
/-- R315: the data of SPK. -/
def kSpk : Kinds := kSxC

/-- The operand names a vector register or the lane index. -/
def isVecOp : Opnd → Bool
  | .v _ => true
  | .vx _ => true
  | .lane => true
  | _ => false

/-- The operand names a scalar register. -/
def isScaOp : Opnd → Bool
  | .s _ => true
  | .sx2 => true
  | _ => false

/-- R316: the access is a scalar access. -/
def scalarAccess (d a : Opnd) : Bool := isScaOp d || (!isVecOp d && !isVecOp a)

/-- R327: the register that holds the new value of a compare and swap. -/
def View.casNew (v : View) (wide : Bool) (d : Opnd) : Except Stop Loc :=
  let bad : Except Stop Loc := .error (v.trap cILLOPND)
  let at_ := fun (w : Window) (i : Nat) =>
    if wide ∧ i % 4 ≠ 0 then bad
    else match w.name wide (if wide then i + 2 else i + 1) with
      | some l => .ok (.vec l)
      | none => bad
  match d with
  | .v i => at_ v.win i.val
  | .vx j => at_ (v.vxWin j) (v.y.x[if j = 0 then (0 : Fin 4) else 1]).toNat
  | .s i => if i.val < 31 then .ok (.sca (Fin.ofNat 32 (i.val + 1))) else bad
  | _ => bad

/-- 03 R51: the scratchpad window that the base field selects. -/
def View.winOf (v : View) (k : BitVec 3) : Except Stop Space :=
  match k.toNat with
  | 0 => .ok .spad
  | 1 => .ok .xlive
  | 2 => .ok .numa
  | _ => .error (v.trap cILLOPND)

/-- The memory a base register names. -/
def View.memOf (v : View) (k : BitVec 3) : Except Stop Space := .ok (.mem v.y.b[Fin.ofNat 8 k.toNat])

/-- The virtual address that the offsets are added to. -/
def Space.start : Space → Nat
  | .mem b => b.va.toNat
  | _ => 0

/-- R331: the bytes of a window; none for memory. -/
def Group.winSize (g : Group) : Space → Option Nat
  | .spad => some g.sched.spad
  | .xlive => some g.sched.exch
  | .numa => some (g.sched.numarea * 1024)
  | .mem _ => none

/-! ## Addresses (14 R316, R317) -/

/-- R316: the byte and the bit of an element of a type at an offset. -/
def place (t start off : Nat) : Nat × Nat :=
  if t < 14 then (start + off, 0)
  else if t < 17 then (start + off / 2, 4 * (off % 2))
  else (start + off / 8, off % 8)

/-- R317: an element is misaligned. -/
def misaligned (t addr bit : Nat) : Bool :=
  if t < 14 then decide (addr % (tyWidth t / 8) ≠ 0) else if t < 17 then false else decide (1024 < 8 * (addr % 128) + bit + tyWidth t)

/-- The lowest address of some lanes. -/
def lowestAddr (l : List LaneAcc) : Nat := (leastOf (l.map (·.addr))).getD 0

/-- The mask of some lanes; a scalar access stands for its fragment's. -/
def View.laneMask (v : View) (scalar : Bool) (l : List LaneAcc) : Word :=
  if scalar then v.f.mask else maskOf (fun i => l.any (fun a => a.lane == i.val))

/-- R316, R318: the lanes that take part with their addresses. -/
def View.laneAccs (v : View) (t start : Nat) (scalar writes : Bool) (off data new : Loc) : List LaneAcc :=
  let mk_ := fun (i : Nat) (o d n : Nat) =>
    { lane := i, addr := (place t start o).1, bit := (place t start o).2, data := BitVec.ofNat 64 d, new := BitVec.ofNat 64 n, st := .todo : LaneAcc }
  let dv := v.laneVals t data
  let nv := v.laneVals t new
  if scalar then
    if writes ∧ v.f.mask &&& ~~~v.y.helper = 0 then []
    else [mk_ 0 (v.y.scalarVal off).toNat dv[(0 : Fin 32)] nv[(0 : Fin 32)]]
  else
    let act := if writes then v.active &&& ~~~v.y.helper else v.active
    let ov := v.laneVals 6 off
    ((List.finRange 32).filter (fun (i : Fin 32) => act.getLsbD i.val)).map (fun (i : Fin 32) => mk_ i.val ov[i] dv[i] nv[i])

/-! ## Acceptance (14 R345) -/

/-- The lines that the lanes of an access to memory touch. -/
def linesOf (l : List LaneAcc) : Nat := (l.map (fun a => a.addr / 128)).eraseDups.length

/-- R345: request entries in use on a core. -/
def State.entriesUsed (s : State) (core : Nat) : Nat :=
  (s.memops.map (fun e => match e.2.space with
    | .mem _ => if (s.group e.2.g).bind (·.core) = some core then linesOf (e.2.lanes.filter (fun l => l.st.open_)) else 0
    | _ => 0)).sum

/-- Instructions of a fragment still in flight (R332). -/
def State.depsOf (s : State) (g w : Nat) (lanes : Word) : List Nat :=
  (s.memops.filter (fun e => decide (e.2.g = g) && decide (e.2.w = w) && decide (e.2.mask &&& lanes ≠ 0))).map (·.1)

/-- A memory instruction as its words give it. -/
structure MemReq where
  /-- what it does -/
  kind : MemKind
  /-- where -/
  space : Space
  /-- scope code -/
  scope : Nat
  /-- it acquires -/
  acq : Bool
  /-- it releases -/
  rel : Bool
  /-- a scalar access -/
  scalar : Bool
  /-- the type -/
  t : Nat
  /-- offset -/
  off : Loc
  /-- data -/
  data : Loc
  /-- new value -/
  new : Loc
  /-- destination -/
  dst : Loc

/-- The destination in flight. -/
def Loc.dest : Loc → Dest
  | .vec l => .v l
  | .sca i => .s i
  | _ => .none

/-- 17 R390: lanes of a write to memory that a warp in stage may not make. -/
def View.stageBars (v : View) (q : MemReq) (ls : List LaneAcc) : List LaneAcc :=
  match v.y.held with
  | none => []
  | some h =>
    let (start, n) := v.s.payload h
    match q.kind with
    | .atomic _ => ls
    | _ =>
      if q.kind.writes then ls.filter (fun l => decide (l.addr < start) || decide (start + n < l.addr + elemBytes q.t l.bit)) else []

/-- R317, R331, R345, 12 R285, 18 R409: checks the lanes of a memory instruction and puts it in flight; its destination becomes EMPTY (R321). One that
touches an absent scratchpad line parks, and one that a packet's first hop has no room for waits at issue. -/
def View.launchMem (v : View) (q : MemReq) : Except Stop State :=
  let ls := v.laneAccs q.t q.space.start q.scalar q.kind.writes q.off q.data q.new
  let badBase := match q.space with
    | .mem b => !b.valid
    | _ => false
  let mis := if q.kind.isTag then [] else ls.filter (fun l => misaligned q.t l.addr l.bit)
  let out := match v.x.winSize q.space with
    | some n => ls.filter (fun l => decide (n < l.addr + elemBytes q.t l.bit))
    | none => []
  let isMem := (v.x.winSize q.space).isNone
  if badBase then .error (v.trap cPGPROT (lowestAddr ls))
  else if !mis.isEmpty then .error (.trap cALIGN .issue (lowestAddr mis) (v.laneMask q.scalar mis))
  else if !out.isEmpty then .error (.trap cIDXBOUND .issue 0 (v.laneMask q.scalar out))
  else if isMem ∧ v.y.held.isSome ∧ (q.kind.isAtomic ∨ !(v.stageBars q ls).isEmpty) then
    .error (.trap cSTAGEFX .issue (lowestAddr (v.stageBars q ls)) (if q.kind.isAtomic then v.f.mask else v.laneMask q.scalar (v.stageBars q ls)))
  else if isMem ∧ 256 < v.s.entriesUsed v.core + linesOf ls then .error v.hold
  else if q.space = .spad ∧ ls.any (fun l => v.x.absentAt l.addr (elemBytes q.t l.bit)) then .error v.park
  else
    let m : MemOp :=
      { g := v.r.g, w := v.r.w, mask := v.f.mask, pc := v.pc, kind := q.kind, space := q.space, mode := v.y.mode,
        user := decide (v.y.plvl = 0), scope := q.scope, acq := q.acq, rel := q.rel && v.f.replays.isEmpty, lanes := ls,
        scalar := q.scalar, dst := q.dst.dest, deps := v.s.depsOf v.r.g v.r.w v.f.mask, landed := false, failed := false }
    if ls.any (v.s.hopFull v.core v.c m) then .error v.hold
    else
      let s1 := v.put (v.y.setEmpty q.dst)
      .ok { s1 with memops := s1.memops ++ [(s1.uid, m)], uid := s1.uid + 1 }

/-! ## Orders, scopes and types -/

/-- R314: the order and the scope are among those that the op accepts. -/
def View.orderOk (v : View) (orders : List Nat) (lo : Nat) (scope : BitVec 3) (order : BitVec 2) : Except Stop Unit :=
  if orders.contains order.toNat ∧ lo ≤ scope.toNat ∧ scope.toNat ≤ 6 then .ok () else .error (v.trap cILLOP)

/-- R316: a scalar destination has no vector offset. -/
def View.offOk (v : View) (d a : Opnd) : Except Stop Unit := if isScaOp d && isVecOp a then .error (v.trap cILLOPND) else .ok ()

/-- R321: LD, LDS and, with its count, LDC. -/
def View.load (v : View) (kind : MemKind) (space : Except Stop Space) (orders : List Nat) (scope : BitVec 3) (order : BitVec 2) (d a : Opnd)
    (wa : Bool) : Except Stop State := do
  let l ← v.resolveDst kVSZ (tyWide v.et) d
  let ra ← v.rd kOff false a wa
  v.offOk d a
  let sp ← space
  match kind with
  | .ldc _ => if order ≠ 0 then .error (v.trap cILLOP) else .ok ()
  | _ => v.orderOk orders 0 scope order
  let v ← v.sources [ra]
  v.destReady l
  let sc := match kind with
    | .ldc _ => 2
    | _ => scope.toNat
  v.launchMem { kind := kind, space := sp, scope := sc, acq := decide (order.toNat = 1), rel := false, scalar := scalarAccess d a, t := v.et,
                off := ra.loc, data := .zero, new := .zero, dst := l }

/-- R321: ST and STS. -/
def View.store (v : View) (space : Except Stop Space) (scope : BitVec 3) (order : BitVec 2) (d a : Opnd) (wd wa : Bool) : Except Stop State := do
  let rd ← v.rd kData (tyWide v.et) d wd
  let ra ← v.rd kOff false a wa
  v.offOk d a
  let sp ← space
  v.orderOk [0, 2] 0 scope order
  let v ← v.sources [rd, ra]
  v.launchMem { kind := .store, space := sp, scope := scope.toNat, acq := false, rel := decide (order.toNat = 2), scalar := scalarAccess d a,
                t := v.et, off := ra.loc, data := rd.loc, new := .zero, dst := .zero }

/-- R326: the ETYPE codes that an atomic accepts; `spad` for those of the scratchpad. -/
def atTypes (op : AtOp) (spad : Bool) (t : Nat) : Bool :=
  let i32 := decide (t = 2) || decide (t = 6)
  let i64 := decide (t = 3) || decide (t = 7)
  let f32 := decide (t = 10)
  match op with
  | .add | .min | .max => i32 || f32 || (i64 && !spad)
  | .and | .or | .xor => i32 || i64
  | .swp => i32 || i64 || f32 || decide (t = 11)
  | .cas => i32 || f32 || ((i64 || decide (t = 11)) && !spad)

/-- R326, R327: an atomic. -/
def View.atomic (v : View) (op : AtOp) (spad : Bool) (space : Except Stop Space) (scope : BitVec 3) (order : BitVec 2) (d a : Opnd)
    (wd wa : Bool) : Except Stop State := do
  let w := tyWide v.et
  let l ← v.resolveDst kVSZ w d
  let new ← if op = .cas then v.casNew w d else .ok Loc.zero
  let ra ← v.rd kOff false a wa
  v.offOk d a
  let sp ← space
  v.orderOk [0, 1, 2, 3] 0 scope order
  v.typeIf (atTypes op spad)
  let rd : Rd := { loc := l, wait := wd, code := d.toCode.toNat }
  let rn : Rd := { loc := new, wait := wd, code := d.toCode.toNat + 1 }
  let v ← v.sources [rd, rn, ra]
  v.destReady l
  v.launchMem { kind := .atomic op, space := sp, scope := scope.toNat, acq := order.getLsbD 0, rel := order.getLsbD 1,
                scalar := scalarAccess d a, t := v.et, off := ra.loc, data := l, new := new, dst := l }

/-! ## MEM words -/

/-- LD (R321). -/
def execLd (scope : BitVec 3) (order : BitVec 2) (d a : Opnd) (base : BitVec 3) (_wd wa : Bool) (s : State) : Host.Outcome State Fault Refusal :=
  issue s (fun v => v.load .load (v.memOf base) [0, 1] scope order d a wa)

/-- ST (R321, R323). -/
def execSt (scope : BitVec 3) (order : BitVec 2) (d a : Opnd) (base : BitVec 3) (wd wa : Bool) (s : State) : Host.Outcome State Fault Refusal :=
  issue s (fun v => v.store (v.memOf base) scope order d a wd wa)

/-- LDC (R322): the scope field holds the read count less 1. -/
def execLdc (scope : BitVec 3) (order : BitVec 2) (d a : Opnd) (base : BitVec 3) (_wd wa : Bool) (s : State) : Host.Outcome State Fault Refusal :=
  issue s (fun v => v.load (.ldc scope.toNat) (v.memOf base) [0] scope order d a wa)

/-- ATADD (R326). -/
def execAtadd (scope : BitVec 3) (order : BitVec 2) (d a : Opnd) (base : BitVec 3) (wd wa : Bool) (s : State) : Host.Outcome State Fault Refusal :=
  issue s (fun v => v.atomic .add false (v.memOf base) scope order d a wd wa)
/-- ATMIN (R326). -/
def execAtmin (scope : BitVec 3) (order : BitVec 2) (d a : Opnd) (base : BitVec 3) (wd wa : Bool) (s : State) : Host.Outcome State Fault Refusal :=
  issue s (fun v => v.atomic .min false (v.memOf base) scope order d a wd wa)
/-- ATMAX (R326). -/
def execAtmax (scope : BitVec 3) (order : BitVec 2) (d a : Opnd) (base : BitVec 3) (wd wa : Bool) (s : State) : Host.Outcome State Fault Refusal :=
  issue s (fun v => v.atomic .max false (v.memOf base) scope order d a wd wa)
/-- ATAND (R326). -/
def execAtand (scope : BitVec 3) (order : BitVec 2) (d a : Opnd) (base : BitVec 3) (wd wa : Bool) (s : State) : Host.Outcome State Fault Refusal :=
  issue s (fun v => v.atomic .and false (v.memOf base) scope order d a wd wa)
/-- ATOR (R326). -/
def execAtor (scope : BitVec 3) (order : BitVec 2) (d a : Opnd) (base : BitVec 3) (wd wa : Bool) (s : State) : Host.Outcome State Fault Refusal :=
  issue s (fun v => v.atomic .or false (v.memOf base) scope order d a wd wa)
/-- ATXOR (R326). -/
def execAtxor (scope : BitVec 3) (order : BitVec 2) (d a : Opnd) (base : BitVec 3) (wd wa : Bool) (s : State) : Host.Outcome State Fault Refusal :=
  issue s (fun v => v.atomic .xor false (v.memOf base) scope order d a wd wa)
/-- ATSWP (R326). -/
def execAtswp (scope : BitVec 3) (order : BitVec 2) (d a : Opnd) (base : BitVec 3) (wd wa : Bool) (s : State) : Host.Outcome State Fault Refusal :=
  issue s (fun v => v.atomic .swp false (v.memOf base) scope order d a wd wa)
/-- ATCAS (R327). -/
def execAtcas (scope : BitVec 3) (order : BitVec 2) (d a : Opnd) (base : BitVec 3) (wd wa : Bool) (s : State) : Host.Outcome State Fault Refusal :=
  issue s (fun v => v.atomic .cas false (v.memOf base) scope order d a wd wa)

/-- FENCE (R329, R343): blocks until the fragment's earlier accesses have been performed at its scope, as a release until its warp's data of every class
have been, and acquires if it says so. -/
def execFence (scope : BitVec 3) (order : BitVec 2) (s : State) : Host.Outcome State Fault Refusal := issue s (fun v => do
  v.orderOk [1, 2, 3] 0 scope order
  v.plainType
  let rem := order.getLsbD 1 && decide (scope.toNat = 6) && v.s.remoteOpen v.r.g v.r.w
  if v.s.memOpen v.r.g v.r.w v.f.mask || v.s.nldOpen v.r.g v.r.w || (order.getLsbD 1 && v.s.logOpen v.r.g v.r.w) || rem then .error v.hold
  else .ok (if order.getLsbD 0 then v.s.acquire v.core scope.toNat else v.s))

/-- ACQR (R330): a scalar acquire load served at the home; every narrower release has reached it, because every write of this model
reaches its home when it is performed. -/
def execAcqr (scope : BitVec 3) (order : BitVec 2) (d a : Opnd) (base : BitVec 3) (_wd wa : Bool) (s : State) : Host.Outcome State Fault Refusal :=
  issue s (fun v => do
  let l ← v.resolveDst { kSZ with sx := true } false d
  let ra ← v.rd kOff false a wa
  if isVecOp a then .error (v.trap cILLOPND) else .ok ()
  let sp ← v.memOf base
  v.orderOk [1] 3 scope order
  v.typeIf (fun t => t == 2 || t == 3 || t == 6 || t == 7)
  let v ← v.sources [ra]
  v.destReady l
  v.launchMem { kind := .acqr, space := sp, scope := scope.toNat, acq := true, rel := false, scalar := true, t := v.et, off := ra.loc,
                data := .zero, new := .zero, dst := l })

/-- SPK (R325): a scalar store carried as a spark. -/
def execSpk (scope : BitVec 3) (order : BitVec 2) (d a : Opnd) (base : BitVec 3) (wd wa : Bool) (s : State) : Host.Outcome State Fault Refusal :=
  issue s (fun v => do
  let rd ← v.rd kSpk false d wd
  let ra ← v.rd kOff false a wa
  if isVecOp a then .error (v.trap cILLOPND) else .ok ()
  let sp ← v.memOf base
  v.orderOk [0, 2] 0 scope order
  v.plainType
  let v ← v.sources [rd, ra]
  v.launchMem { kind := .spk, space := sp, scope := scope.toNat, acq := false, rel := decide (order.toNat = 2), scalar := true, t := v.et,
                off := ra.loc, data := rd.loc, new := .zero, dst := .zero })

/-- R324: fills the line of one lane, if its page is at hand, its die can be reached and no copy has locked the line for writing. R283 has a PREF of a
write-locked line trap with RLOCKED; the model follows R324, under which PREF never traps on an address (DEDUCED, log entry 58). -/
def State.prefetch (s : State) (core : Nat) (c : Fin 64) (b : BaseReg) (user : Bool) (narrow : Bool) (a : Nat) : State :=
  match s.reach (some core) c b a false user with
  | .to pa _ _ =>
    if s.isLocal pa ∧ s.isDevice (localPart pa) ∧ s.joined (coreDie core) (homeDie (localPart pa)) ∧ !s.locked c a 1 false then
      let line := pa / 128 * 128
      let s1 := s.l2Access line 128 false
      if narrow ∧ ((s1.coreAt core).l1Find pa).isNone then
        s1.modCore core (fun x => x.l1Fill line (Memory.bytes s1.mem (localPart line) 128) none)
      else s1
    else s
  | _ => s

/-- PREF (R324). -/
def execPref (scope : BitVec 3) (order : BitVec 2) (a : Opnd) (base : BitVec 3) (wa : Bool) (s : State) : Host.Outcome State Fault Refusal :=
  issue s (fun v => do
  let ra ← v.rd kOff false a wa
  v.orderOk [0] 0 scope order
  v.plainType
  let v ← v.sources [ra]
  let b := v.y.b[Fin.ofNat 8 base.toNat]
  let ov := v.laneVals 6 ra.loc
  let acts := (List.finRange 32).filter (fun (i : Fin 32) => v.active.getLsbD i.val)
  .ok (acts.foldl (fun t (i : Fin 32) =>
    t.prefetch v.core v.c b (decide (v.y.plvl = 0)) (decide (scope.toNat ≤ 2)) (b.va.toNat + ov[i])) v.s))

/-! ## SPAD words -/

/-- LDS (R331). -/
def execLds (scope : BitVec 3) (order : BitVec 2) (d a : Opnd) (base : BitVec 3) (_wd wa : Bool) (s : State) : Host.Outcome State Fault Refusal :=
  issue s (fun v => v.load .load (v.winOf base) [0, 1] scope order d a wa)
/-- STS (R331). -/
def execSts (scope : BitVec 3) (order : BitVec 2) (d a : Opnd) (base : BitVec 3) (wd wa : Bool) (s : State) : Host.Outcome State Fault Refusal :=
  issue s (fun v => v.store (v.winOf base) scope order d a wd wa)
/-- ATSADD (R326). -/
def execAtsadd (scope : BitVec 3) (order : BitVec 2) (d a : Opnd) (base : BitVec 3) (wd wa : Bool) (s : State) : Host.Outcome State Fault Refusal :=
  issue s (fun v => v.atomic .add true (v.winOf base) scope order d a wd wa)
/-- ATSMIN (R326). -/
def execAtsmin (scope : BitVec 3) (order : BitVec 2) (d a : Opnd) (base : BitVec 3) (wd wa : Bool) (s : State) : Host.Outcome State Fault Refusal :=
  issue s (fun v => v.atomic .min true (v.winOf base) scope order d a wd wa)
/-- ATSMAX (R326). -/
def execAtsmax (scope : BitVec 3) (order : BitVec 2) (d a : Opnd) (base : BitVec 3) (wd wa : Bool) (s : State) : Host.Outcome State Fault Refusal :=
  issue s (fun v => v.atomic .max true (v.winOf base) scope order d a wd wa)
/-- ATSCAS (R327). -/
def execAtscas (scope : BitVec 3) (order : BitVec 2) (d a : Opnd) (base : BitVec 3) (wd wa : Bool) (s : State) : Host.Outcome State Fault Refusal :=
  issue s (fun v => v.atomic .cas true (v.winOf base) scope order d a wd wa)

end Sys2Proof.Machine
end

