-- ==== Sys2Proof/Machine/Sys.lean ====
section
/-! DEFINITION. SYS words of major 0xC: system registers (05 R108 to R111), the return from a trap (19 R432), the page instructions
(15 R366 to R370), and words that are no instruction (04 R92). -/

namespace Sys2Proof.Machine

/-! ## System registers (05 R108) -/

/-- The lowest level that may read a system register, none for a reserved number. -/
def sysReadLevel (k : Nat) : Option Nat :=
  if k ≤ 0x05 ∨ k = 0x07 ∨ k = 0x0D ∨ k = 0x10 ∨ k = 0x11 ∨ k = 0x16 ∨ k = 0x17 then some 0
  else if (0x08 ≤ k ∧ k ≤ 0x0C) ∨ (0x12 ≤ k ∧ k ≤ 0x15) ∨ (0x18 ≤ k ∧ k ≤ 0x1B) then some 1
  else none

/-- The register is read-only at every level. -/
def sysFixed (k : Nat) : Bool := decide (2 ≤ k) && decide (k ≤ 5)

/-- The level may write a system register. -/
def sysWritable (k : Nat) (pl : BitVec 2) : Bool :=
  let l := pl.toNat
  if k = 0x00 ∨ k = 0x01 ∨ k = 0x07 then true
  else if k = 0x0D ∨ k = 0x1A ∨ k = 0x1B then decide (1 ≤ l)
  else if 0x08 ≤ k ∧ k ≤ 0x0B then false
  else decide (2 ≤ l)

/-- The value of a system register. -/
def View.sysReg (v : View) (k : Nat) : Nat :=
  let c := v.s.ctxs[v.c]
  match k with
  | 0x00 => v.y.flags.toNat
  | 0x01 => v.y.mode.toNat
  | 0x02 => v.y.plvl.toNat
  | 0x03 => v.c.val
  | 0x04 => v.s.hwloc v.core v.y.slotNo
  | 0x05 => v.x.phase
  | 0x07 => v.y.nthr.toNat
  | 0x08 => v.y.trap.cause.toNat
  | 0x09 => v.y.trap.fpc.toNat
  | 0x0A => v.y.trap.faddr.toNat
  | 0x0B => v.y.trap.fmask.toNat
  | 0x0C => c.tvec
  | 0x0D => if c.quantum = 0 then 2000 else c.quantum
  | 0x10 => c.cb
  | 0x11 => c.cblimit
  | 0x12 => c.ptroot
  | 0x13 => c.save
  | 0x14 => c.heap
  | 0x15 => c.heapsize
  | 0x16 => c.modtab
  | 0x17 => c.stagetab
  | 0x18 => c.flog
  | 0x19 => c.floghead.toNat
  | 0x1A => c.flogtail.toNat
  | 0x1B => c.floglost
  | _ => 0

/-- A value held to bounds. -/
def clamp (lo hi x : Nat) : Nat := max lo (min hi x)

/-- What a write of a context register stores (05 R108). -/
def Ctx.setReg (c : Ctx) (k x : Nat) : Ctx :=
  match k with
  | 0x0C => { c with tvec := x }
  | 0x0D => { c with quantum := clamp 100 1000000 x }
  | 0x10 => { c with cb := x }
  | 0x11 => { c with cblimit := x }
  | 0x12 => { c with ptroot := x }
  | 0x13 => { c with save := x }
  | 0x14 => { c with heap := x }
  | 0x15 => { c with heapsize := x }
  | 0x16 => { c with modtab := x }
  | 0x17 => { c with stagetab := x }
  | 0x18 => { c with flog := x }
  | 0x19 => { c with floghead := BitVec.ofNat 64 x }
  | 0x1A => { c with flogtail := BitVec.ofNat 64 (if c.floghead.toNat < x then c.floghead.toNat else x) }
  | 0x1B => { c with floglost := x % 2 ^ 32 }
  | _ => c

/-- RDSYS (R110). -/
def execRdsys (d : Opnd) (k : BitVec 7) (s : State) : Host.Outcome State Fault Refusal := issue s (fun v => do
  let l ← v.resolveDst kSZ false d
  match sysReadLevel k.toNat with
  | none => .error (v.trap cILLOP)
  | some p =>
    if v.y.plvl.toNat < p then .error (v.trap cPRIV k.toNat)
    else do
      v.destReady l
      .ok (v.put (v.y.setScalar l (BitVec.ofNat 64 (v.sysReg k.toNat)))))

/-- WRSYS (R110). -/
def execWrsys (k : BitVec 7) (a : Opnd) (wa : Bool) (s : State) : Host.Outcome State Fault Refusal := issue s (fun v => do
  let ra ← v.rd kSC false a wa
  let n := k.toNat
  if (sysReadLevel n).isNone ∨ sysFixed n then .error (v.trap cILLOP)
  else if !sysWritable n v.y.plvl then .error (v.trap cPRIV n)
  else do
    let v ← v.sources [ra]
    let x := v.y.scalarVal ra.loc
    match n with
    | 0x00 => .ok (v.put { v.y with flags := x.setWidth 8 &&& 0x7F#8 })
    | 0x01 => match modeCause (x.setWidth 23) with
      | some c => .error (v.trap c)
      | none => .ok (v.put { v.y with mode := x.setWidth 23 })
    | 0x07 => .ok (v.put { v.y with nthr := BitVec.ofNat 25 (clamp 32 (2 ^ 24) x.toNat) })
    | _ =>
      if n = 0x1A ∧ v.s.releaseWaits v.r.g v.r.w (BitVec.allOnes 32) then .error v.hold
      else .ok (v.s.modCtx v.c (fun c => c.setReg n x.toNat)))

/-- HALT (R111): a trap at PL0; at PL1 SUSPEND of the warp's context; at PL2 the core stops issuing. -/
def execHalt (s : State) : Host.Outcome State Fault Refusal := issue s (fun v =>
  match v.y.plvl.toNat with
  | 0 => .error (v.trap cPRIV)
  | 1 => .ok (if v.s.ctxs[v.c].st = .running ∨ v.s.ctxs[v.c].st = .ready then v.s.suspendCtx v.c else v.s)
  | _ => .ok (v.s.modCore v.core (fun k => { k with halted := true })))

/-! ## The return from a trap (19 R432) -/

/-- R432: the checks of every TRET. -/
def View.tret (v : View) (go : Kept → State) : Except Stop State :=
  if v.y.plvl = 0 then .error (v.trap cPRIV)
  else if v.y.plvl ≠ 1 then .error (v.trap cILLOP)
  else match v.y.kept with
    | none => .error (v.trap cILLOP)
    | some k => if v.f.win = k.hwin then .ok (go k) else .error (v.trap cILLOP)

/-- TRET FIX (R432). -/
def execTretFix (s : State) : Host.Outcome State Fault Refusal :=
  issue s (fun v => v.tret (fun _ => v.s.tretResume v.r.g v.r.w false false))
/-- TRET SKIP (R432). -/
def execTretSkip (s : State) : Host.Outcome State Fault Refusal :=
  issue s (fun v => v.tret (fun _ => v.s.tretResume v.r.g v.r.w true false))
/-- TRET RETRY (R432). -/
def execTretRetry (s : State) : Host.Outcome State Fault Refusal :=
  issue s (fun v => v.tret (fun _ => v.s.tretResume v.r.g v.r.w false true))
/-- TRET KILLW (R432): the warp exits. -/
def execTretKillw (s : State) : Host.Outcome State Fault Refusal :=
  issue s (fun v => v.tret (fun _ => (v.s.endWarp v.r.g v.r.w (v.y.trap.cause.toNat % 256) false).exitGroup v.r.g))

/-- 05 R104: the entry for a trap that ends in KILLG. -/
def View.killLog (v : View) : State :=
  let t := v.y.trap
  v.s.log v.c (t.cause.toNat % 256) 0 0 (v.s.hwloc v.core v.y.slotNo) t.faddr.toNat t.fpc.toNat t.fmask.toNat

/-- TRET KILLG (R432): the group is KILLED and its launch marked killed (07 R140). -/
def execTretKillg (s : State) : Host.Outcome State Fault Refusal := issue s (fun v => v.tret (fun _ =>
  let s1 := v.killLog
  let s2 : State := { s1 with launches := tmod s1.launches v.x.launch (fun l => { l with killed := true }) }
  (s2.killGroup v.r.g (v.y.trap.cause.toNat % 256) false).flush v.c))

/-- TRET KILLC (R432): the context goes to FAULTED. -/
def execTretKillc (s : State) : Host.Outcome State Fault Refusal := issue s (fun v => v.tret (fun _ =>
  let t := v.y.trap
  v.s.faultContext v.c (t.cause.toNat % 256) 0 (v.s.hwloc v.core v.y.slotNo) t.faddr.toNat t.fpc.toNat t.fmask.toNat))

/-- The register that an operand code names is no longer EMPTY (19 R432). -/
def Warp.codeFilled (y : Warp) (f : Frag) (code : Nat) : Bool :=
  if code < 80 then match (y.window f.win).bind (fun w => w.regs[code]?) with
    | some n => decide ((y.vreg n).fill ≠ .empty)
    | none => true
  else if code < 112 then decide (y.s[Fin.ofNat 32 (code - 80)].fill ≠ .empty)
  else true

/-- 19 R432: the destination frame pool of an absent page has a frame, or the page names none. -/
def State.poolReady (s : State) (c : Fin 64) (va : Nat) : Bool :=
  match s.walk s.ctxs[c].ptroot va with
  | .leaf _ e =>
    let l := leafOf e
    if l.state = stAbsent then l.dest = 0 || !s.poolEmpty l.die l.dest
    else if l.state = stRetired then
      let p := frameLocal l.frame
      !s.poolEmpty (homeDie p) (match s.region p with
        | .fast _ => 1
        | _ => 2)
    else true
  | _ => true

/-- 19 R432: the condition of one cause has cleared. -/
def State.causeClear (s : State) (x : Group) (y : Warp) (f : Frag) (l : LaneCause) : Bool :=
  let c := cfin x.ctx
  if l.code = cRLOCKED then !s.locked c l.addr 1 l.write
  else if l.code = cEMPTY then y.codeFilled f l.addr
  else if l.code = cBBROKEN then !(x.bar l.addr).broken
  else if l.code = cPGABSENT then s.poolReady c l.addr
  else true

/-- RETRY_RESUME (R432): once the conditions that a RETRY waits for have cleared, the warp is PENDING and its fragment replays. -/
def execRetryResume (g w : Nat) (s : State) : Host.Outcome State Fault Refusal :=
  .next (match s.group g, s.warp g w with
    | some x, some y =>
      let ok := fun (f : Frag) => f.retry.all (s.causeClear x y f)
      if y.intrap ∨ y.slots.all (fun f => f.retry.isEmpty) ∨ !y.slots.all ok then s
      else
        let clear := fun (f : Frag) => { f with retry := [] }
        let s1 := s.modWarp g w (fun z => { z with slot0 := z.slot0.map clear, slot1 := z.slot1.map clear })
        if y.sched = .parked then s1.setSched g w .pending else s1
    | _, _ => s)

/-! ## The page instructions (15 R366 to R370) -/

/-- R366: a scalar register or s[x2]. -/
def kSx : Kinds := { kS with sx := true }

/-- BSET (R367). -/
def execBset (bk : BitVec 7) (a b : Opnd) (wa wb : Bool) (s : State) : Host.Outcome State Fault Refusal := issue s (fun v => do
  let k ← v.idx8 bk
  let ra ← v.rd kSx false a wa
  let rb ← v.rd kSxZ false b wb
  let v ← v.sources [ra, rb]
  let p := (v.y.scalarVal ra.loc).toNat
  let e := (v.y.scalarVal rb.loc).toNat
  if 2 ^ 16 ≤ e then .error (v.trap cILLOPND)
  else if 2 ^ 60 ≤ p then .error (v.trap cPGPROT p)
  else
    let va := p % 2 ^ 56
    match v.s.xlateCore v.core v.c va false (decide (v.y.plvl = 0)) with
    | .park => .error (v.parkPage va)
    | .fail c => .error (v.trap c va)
    | .uncorr => .error .tables
    | .ok _ leaf =>
      let r := v.s.baseOf va (BitVec.ofNat 4 (p / 2 ^ 56)) (BitVec.ofNat 16 e) leaf
      .ok ((v.put { v.y with b := v.y.b.set k r }).tlbFill v.core v.c va leaf))

/-- BINV (R367). -/
def execBinv (bk : BitVec 7) (s : State) : Host.Outcome State Fault Refusal := issue s (fun v => do
  let k ← v.idx8 bk
  .ok (v.put { v.y with b := v.y.b.set k { v.y.b[k] with valid := false, fp := false } }))

/-- TAGLD (R368). -/
def execTagld (d : Opnd) (bk : BitVec 7) (b : Opnd) (wb : Bool) (s : State) : Host.Outcome State Fault Refusal := issue s (fun v => do
  let l ← v.resolveDst kVSZ false d
  let k ← v.idx8 bk
  let rb ← v.rd kOff false b wb
  v.offOk d b
  let v ← v.sources [rb]
  v.destReady l
  v.launchMem { kind := .tagld, space := .mem v.y.b[k], scope := 5, acq := false, rel := false, scalar := scalarAccess d b, t := 4,
                off := rb.loc, data := .zero, new := .zero, dst := l })

/-- TAGST (R368): a scalar tag or a constant goes to every lane of a vector offset (R366). -/
def execTagst (bk : BitVec 7) (a b : Opnd) (wa wb : Bool) (s : State) : Host.Outcome State Fault Refusal := issue s (fun v => do
  let k ← v.idx8 bk
  let ra ← v.rd kData false a wa
  let rb ← v.rd kOff false b wb
  let v ← v.sources [ra, rb]
  v.launchMem { kind := .tagst, space := .mem v.y.b[k], scope := 5, acq := false, rel := false, scalar := !isVecOp a && !isVecOp b, t := 4,
                off := rb.loc, data := ra.loc, new := .zero, dst := .zero })

/-- TLBINV (R369): a release at DEVICE, then every cached translation of the pages goes. -/
def execTlbinv (a b : Opnd) (wa wb : Bool) (s : State) : Host.Outcome State Fault Refusal := issue s (fun v => do
  let ra ← v.rd kSx false a wa
  let rb ← v.rd kSxZ false b wb
  if v.y.plvl = 0 then .error (v.trap cPRIV)
  else do
    let v ← v.sources [ra, rb]
    if v.s.releaseWaits v.r.g v.r.w v.f.mask then .error v.hold
    else
      let n := (v.y.scalarVal rb.loc).toNat
      let page := if n = 0 then 0 else vpage ((v.y.scalarVal ra.loc).toNat % 2 ^ 56)
      let cnt := if n = 0 then 2 ^ 42 else n
      .ok ((v.s.shootdown v.c page cnt).rejudge v.c page cnt))

/-- R370: what PGQRY answers for a pointer, none when a table holds uncorrectable data. -/
def State.pageQuery (s : State) (c : Fin 64) (p : Nat) : Option Nat :=
  if 2 ^ 60 ≤ p then some 0
  else
    let va := p % 2 ^ 56
    match s.walk s.ctxs[c].ptroot va with
    | .leaf _ e => some (if (leafOf e).mapped then e + (if s.pinned c (vpage va) then 2 else 0) else 0)
    | .bad => some 0
    | .uncorr => none

/-- PGQRY (R370). -/
def execPgqry (d a : Opnd) (wa : Bool) (s : State) : Host.Outcome State Fault Refusal := issue s (fun v => do
  let l ← v.resolveDst kSxZ false d
  let ra ← v.rd kSx false a wa
  let v ← v.sources [ra]
  v.destReady l
  match v.s.pageQuery v.c (v.y.scalarVal ra.loc).toNat with
  | none => .error .tables
  | some x => .ok (v.put (v.y.setScalar l (BitVec.ofNat 64 x))))

/-! ## Words that are no instruction (04 R92) -/

/-- RESERVED_ENCODING (R92): a word that is no instruction traps with ILLOP, a TRET at PL0 with PRIV. -/
def execReservedEncoding (w : BitVec 32) (s : State) : Host.Outcome State Fault Refusal :=
  match decodeWord w with
  | .ok _ => .next s
  | .error .tretAction => issue s (fun v => .error (v.trap (if v.y.plvl = 0 then cPRIV else cILLOP)))
  | .error _ => issue s (fun v => .error (v.trap cILLOP))

end Sys2Proof.Machine
end

