-- ==== Sys2Proof/Machine/Qrec.lean ====
section
/-! DEFINITION. QREC words of major 0xB: word queues, signals and launch queues (06 R121 to R130), and the record instructions with the
Draught's events (17 R384 to R403). -/

namespace Sys2Proof.Machine

/-! ## Accesses of the queue instructions (06 R124) -/

/-- 14 R319, R433: an access that fails ends its instruction with no effect, every lane of the fragment unfinished. -/
def View.accessFail (v : View) (code addr : Nat) (write : Bool) : Except Stop State :=
  .ok (v.s.laneFail v.r.g v.r.w (decide (v.y.plvl = 0)) v.pc v.f.mask
    ((lanesIn v.f.mask).map (fun i => { lane := i, code := code, addr := addr, write := write })))

/-- R124, 19 R435: an access of n bytes at a pointer, translated as a memory access of the fragment, to bytes that it reads, be it to change them; the
instruction goes on with where they lie. -/
def View.at_ (v : View) (p n : Nat) (write : Bool) (k : View → Nat → Except Stop State) : Except Stop State :=
  match v.s.ptrTo v.core v.c (decide (v.y.plvl = 0)) p n write with
  | .ok pa e => if v.s.engBad pa n then v.accessFail cUNCORR p write else k { v with s := v.s.tlbFill v.core v.c (p % 2 ^ 56) e } pa
  | .park => .error (v.parkPage (p % 2 ^ 56))
  | .fail c => v.accessFail c p write
  | .uncorr => .error .tables

/-- R124: an address operand that must be aligned. -/
def View.alignedTo (v : View) (p n : Nat) : Except Stop Unit := if p % n = 0 then .ok () else .error (v.trap cALIGN p)

/-- 17 R390: an instruction that a warp in stage may not issue. -/
def View.noStage (v : View) (addr : Nat) : Except Stop Unit := if v.y.held.isSome then .error (v.trap cSTAGEFX addr) else .ok ()

/-- 14 R334: a release waits until the fragment's earlier accesses have been performed; `sys` also for the answers of other nodes. -/
def View.releases (v : View) (sys : Bool) : Except Stop Unit :=
  if v.s.releaseWaits v.r.g v.r.w v.f.mask || (sys && v.s.remoteOpen v.r.g v.r.w) then .error v.hold else .ok ()

/-- The value of a scalar source. -/
def View.val (v : View) (r : Rd) : Nat := (v.y.scalarVal r.loc).toNat

/-! ## Launch queues and signals -/

/-- 06 R102, R125: a context accepts doorbells. -/
def CtxState.accepts (st : CtxState) : Bool := st.runs

/-- 06 R114: the queue takes doorbells. -/
def QState.takes (st : QState) : Bool := decide (st = .idle) || decide (st = .active) || decide (st = .blocked) || decide (st = .paused)

/-- 06 R120: a queue whose TAIL has risen. -/
def Queue.ring (q : Queue) (t : DWord) : Queue :=
  { q with tail := t, st := if q.st = .idle ∧ t ≠ q.head then .active else q.st }

/-- QPUSH (R125). The store to the ring slot at QBASE is made at device privilege, and a failure of it ends the QPUSH as a failure of its own access: the
spec says neither (DESIGN CHOICE, log entry 58). -/
def execQpush (d a b : Opnd) (wa wb : Bool) (s : State) : Host.Outcome State Fault Refusal := issue s (fun v => do
  let l ← v.resolveDst kS false d
  let ra ← v.rd kS false a wa
  let rb ← v.rd kS false b wb
  let v ← v.sources [ra, rb]
  let qi := v.val ra
  let p := v.val rb
  if 255 < qi then .error (v.trap cILLOPND)
  else do
    v.alignedTo p 64
    v.noStage 0
    v.destReady l
    if v.s.releaseWaits v.r.g v.r.w (BitVec.allOnes 32) then .error v.hold
    else
      v.at_ p 64 false (fun v pa =>
        let pkt := (List.range 64).map (fun i => v.s.engByte (pa + i))
        let q := v.s.queues[Fin.ofNat 256 qi]
        let done := fun (t : State) (st : Nat) => .ok (t.modWarp v.r.g v.r.w (fun _ => v.y.setScalar l (BitVec.ofNat 64 st)))
        if q.st = .unbound ∨ q.st = .error ∨ cfin q.ctx ≠ v.c ∨ !(v.s.ctxs[v.c]).st.accepts then done v.s 2
        else if (q.tail - q.head).toNat = q.size then done v.s 1
        else
          let va := q.base.toNat + 64 * (q.tail.toNat % max q.size 1)
          match v.s.xlate v.c va true false with
          | .ok pt _ =>
            let s1 := v.s.homeWrite v.core pt pkt
            done { s1 with queues := s1.queues.set (Fin.ofNat 256 qi) (q.ring (q.tail + 1)) } 0
          | .park => .error (v.parkPage va)
          | .fail c => v.accessFail c va true
          | .uncorr => .error .tables))

/-- R126: one of s28 to s31. -/
def View.mapReg (v : View) (d : Opnd) : Except Stop (Fin 4 × Fin 32) :=
  match d with
  | .s i => if 28 ≤ i.val then .ok (Fin.ofNat 4 (i.val - 28), i) else .error (v.trap cILLOPND)
  | _ => .error (v.trap cILLOPND)

/-- R126: a scalar register is mapped onto a word queue; one that is mapped is unmapped first, and the register keeps its value. -/
def Warp.mapTo (y : Warp) (k : Fin 4) (i : Fin 32) (q : DWord) : Warp :=
  if (y.qmap[k]).isSome then { y with qmap := y.qmap.set k (some q), s := y.s.set i { val := y.popped[k], fill := .full } }
  else { y with qmap := y.qmap.set k (some q), popped := y.popped.set k y.s[i].val }

/-- R126, 03 R67: the mapping of a register ends, and it is an ordinary scalar that holds the last word popped into it. -/
def Warp.unmap (y : Warp) (k : Fin 4) (i : Fin 32) : Warp :=
  if (y.qmap[k]).isSome then { y with qmap := y.qmap.set k none, s := y.s.set i { val := y.popped[k], fill := .full } } else y

/-- QMAP (R126). -/
def execQmap (d a : Opnd) (wa : Bool) (s : State) : Host.Outcome State Fault Refusal := issue s (fun v => do
  let (k, i) ← v.mapReg d
  let ra ← v.rd kS false a wa
  let v ← v.sources [ra]
  v.alignedTo (v.val ra) 128
  v.destReady (.sca i)
  .ok (v.put (v.y.mapTo k i (BitVec.ofNat 64 (v.val ra)))))

/-- QUNMAP (R126). -/
def execQunmap (d : Opnd) (s : State) : Host.Outcome State Fault Refusal := issue s (fun v => do
  let (k, i) ← v.mapReg d
  .ok (v.put (v.y.unmap k i)))

/-- QSIG (R127): a signal add with release at SYSTEM. -/
def execQsig (a b : Opnd) (wa wb : Bool) (s : State) : Host.Outcome State Fault Refusal := issue s (fun v => do
  let ra ← v.rd kS false a wa
  let rb ← v.rd kSC false b wb
  let v ← v.sources [ra, rb]
  let p := v.val ra
  v.alignedTo p 8
  v.noStage p
  v.releases true
  v.at_ p 8 true (fun v pa =>
    if v.s.isLocal pa then .ok ((v.s.homeWrite v.core pa (leBytes 8 (signalAdd (v.s.engRd pa 8) (v.val rb)))).recheckSignals)
    else v.sendSignal pa (v.val rb)))

/-- QWAIT (R128): waits until the counter is at least the threshold. -/
def execQwait (a b : Opnd) (wa wb : Bool) (s : State) : Host.Outcome State Fault Refusal := issue s (fun v => do
  let ra ← v.rd kS false a wa
  let rb ← v.rd kS false b wb
  let v ← v.sources [ra, rb]
  let p := v.val ra
  v.alignedTo p 8
  v.at_ p 8 false (fun v pa =>
    let x := v.s.engRd pa 8
    if x < v.val rb then .error v.park
    else .ok ((v.put { v.y with flags := setZNCV v.y.flags (decide (x / 2 ^ 63 % 2 = 1)) false false false }).acquire v.core 6)))

/-! ## Word queues -/

/-- QATTACH (R129). -/
def execQattach (a : Opnd) (wa : Bool) (s : State) : Host.Outcome State Fault Refusal := issue s (fun v => do
  let ra ← v.rd kS false a wa
  let v ← v.sources [ra]
  let p := v.val ra
  v.alignedTo p 128
  if 4 ≤ v.y.attach.length then .error (v.trap cILLOP)
  else
    v.at_ p 128 true (fun v pa =>
      let s1 := v.s.homeWrite v.core (pa + 20) (leBytes 4 (v.s.engRd (pa + 20) 4 + 1))
      .ok (s1.modWarp v.r.g v.r.w (fun _ => { v.y with attach := v.y.attach ++ [BitVec.ofNat 64 p], flags := setZ v.y.flags false }))))

/-- QDETACH (R129). -/
def execQdetach (a : Opnd) (wa : Bool) (s : State) : Host.Outcome State Fault Refusal := issue s (fun v => do
  let ra ← v.rd kS false a wa
  let v ← v.sources [ra]
  let p := v.val ra
  v.alignedTo p 128
  v.releases false
  if v.y.attach.contains (BitVec.ofNat 64 p) then
    v.at_ p 128 true (fun v pa =>
      let s1 := v.s.homeWrite v.core (pa + 20) (leBytes 4 (v.s.engRd (pa + 20) 4 + 2 ^ 32 - 1))
      .ok (s1.modWarp v.r.g v.r.w (fun _ => { v.y with attach := v.y.attach.erase (BitVec.ofNat 64 p), flags := setZ v.y.flags false })))
  else .ok (v.put { v.y with flags := setZ v.y.flags true }))

/-- QWR (R130): pushes a word with release at DEVICE, or waits for room. -/
def execQwr (a b : Opnd) (wa wb : Bool) (s : State) : Host.Outcome State Fault Refusal := issue s (fun v => do
  let ra ← v.rd kS false a wa
  let rb ← v.rd kSC false b wb
  let v ← v.sources [ra, rb]
  let p := v.val ra
  v.alignedTo p 128
  v.noStage p
  v.releases false
  v.at_ p 128 true (fun v pa =>
    let h := v.s.qHdr pa
    if (h.tail + 2 ^ 64 - h.head) % 2 ^ 64 = h.cap then .error v.park
    else
      v.at_ (h.slot p h.tail) 8 true (fun v pw =>
        .ok ((v.s.homeWrite v.core pw (leBytes 8 (v.val rb))).homeWrite v.core (pa + 8) (leBytes 8 (h.tail + 1))))))

/-- QWAIT_RECHECK (R128): the counter of a waiting QWAIT is read again: its fragment issues once more. -/
def execQwaitRecheck (g w : Nat) (slot : Bool) (s : State) : Host.Outcome State Fault Refusal :=
  .next (match s.viewOf { g := g, w := w, slot := slot } with
    | none => s
    | some v =>
      match v.kernel with
      | none => s
      | some k =>
        match s.fetchAt v.core v.c k v.y.plvl v.pc with
        | .word x =>
          (match decodeWord x with
           | .ok (.qwait _ _ _ _) =>
             if v.f.parks then
               let s1 := s.setStatus v.r .ready
               if v.y.sched = .parked then s1.setSched g w .pending else s1
             else s
           | _ => s)
        | _ => s)

/-! ## Stage sets: binding (17 R383 to R385) -/

/-- The binding of a set by a launch. -/
def State.findBind (s : State) (launch set : Nat) : Option (Nat × Binding) :=
  s.binds.find? (fun e => decide (e.2.launch = launch) && decide (e.2.set = set))

/-- R383: a STAGETAB entry breaks its layout. -/
def entryBad (x : Nat) : Bool :=
  let f := fun (off n : Nat) => x / 2 ^ (8 * off) % 2 ^ (8 * n)
  decide (f 0 8 % 64 ≠ 0) || decide (f 8 4 = 0) || decide (2 ^ 20 < f 8 4) || decide (f 12 1 = 0) || decide (4 < f 12 1) || decide (16 ≤ f 13 1) ||
    (decide (f 16 4 ≠ 0) && (decide (f 16 4 < 4) || decide (65536 < f 16 4))) || decide (8 ≤ f 20 4) || decide (f 24 104 ≠ 0)

/-- R384, R394: a binding from its entry. -/
def bindingOf (launch ctx set x : Nat) (stages : List (Nat × Nat)) : Binding :=
  let f := fun (off n : Nat) => x / 2 ^ (8 * off) % 2 ^ (8 * n)
  let b : Binding :=
    { launch := launch, ctx := ctx, set := set, home := f 13 1, pool := f 0 8, slots := f 8 4, psize := f 12 1,
      win := if f 16 4 = 0 then 4096 else f 16 4, repro := decide (f 20 4 % 2 = 1), keep := decide (f 20 4 / 2 % 2 = 1),
      nodepth := decide (f 20 4 / 4 % 2 = 1), l := if f 14 2 = 0 then 1 else BitVec.ofNat 16 (f 14 2), seq := 0, window := 0, stages := stages,
      stats := [], rate := List.replicate stages.length 32768, weights := [], ended := [], closed := false, recs := [], nDone := 0, nDropped := 0,
      takers := [] }
  { b with weights := [(List.range stages.length).map (fun k => 1 + min 1023 (32768 / b.cost k { runs := 0, drops := 0, cyc := 0 }))] }

/-- R385: the stages of a set of the running kernel. -/
def View.stageSet (v : View) (j : Nat) : Except Stop (List (Nat × Nat)) :=
  match v.kernel.bind (fun k => k.stagesets[j]?) with
  | some l => .ok l
  | none => .error (v.trap cILLOPND)

/-- R384: the binding that RINJ uses: the launch's own, or a fresh one with its name from the entry. A set that another launch of the
context holds is not bound again. -/
def View.bindFor (v : View) (j : Nat) (stages : List (Nat × Nat)) : Except Stop (Nat × Binding) :=
  match v.base.findBind v.x.launch j with
  | some e => .ok e
  | none =>
    if v.s.binds.any (fun e => decide (cfin e.2.ctx = v.c) && decide (e.2.set = j)) then .error (v.trap cILLOPND j)
    else
      let a := (v.s.ctxs[v.c]).stagetab + 128 * j
      match v.s.ptrTo v.core v.c (decide (v.y.plvl = 0)) a 128 false with
      | .ok pa _ =>
        let x := v.s.engRd pa 128
        if v.s.engBad pa 128 then .error (v.trap cUNCORR a)
        else if entryBad x then .error (v.trap cILLOPND a) else .ok (v.s.uid, bindingOf v.x.launch v.c.val j x stages)
      | .park => .error (v.parkPage (a % 2 ^ 56))
      | .fail c => .error (v.trap c a)
      | .uncorr => .error .tables

/-! ## RINJ (17 R399) -/

/-- Bytes of a context's memory at a pointer, page by page; each page is a stop, a failure (19 R435 for uncorrectable data) or its bytes. -/
def View.readBytes (v : View) : Nat → Nat → Nat → Except (Except Stop State) (List Byte)
  | 0, _, _ => .ok []
  | fuel + 1, p, n =>
    if n = 0 then .ok []
    else
      let k := min n (2 ^ 14 - p % 2 ^ 14)
      match v.s.ptrTo v.core v.c (decide (v.y.plvl = 0)) p k false with
      | .ok pa _ =>
        if v.s.engBad pa k then .error (v.accessFail cUNCORR p false)
        else do
          let r ← v.readBytes fuel (p + k) (n - k)
          .ok ((List.range k).map (fun i => v.s.engByte (pa + i)) ++ r)
      | .park => .error (.error (v.parkPage (p % 2 ^ 56)))
      | .fail c => .error (v.accessFail c p false)
      | .uncorr => .error (.error .tables)

/-- The lowest FREE slots of a binding's pool, at most `n` of them; one whose last control word has still to be written is not FREE yet. -/
def State.freeSlotsOf (s : State) (id : Nat) (b : Binding) (n : Nat) : List Nat :=
  let due := s.ctxs[cfin b.ctx].owed
  ((List.range (min b.slots (b.recs.length + due.length + n))).filter (fun i =>
    (tget b.recs i).isNone && !s.slotDue (cfin b.ctx) id i)).take n

/-- R386, R389: a record as RINJ makes it. -/
def Rec.new (seq : Nat) : Rec :=
  { st := .queued, pass := false, retry := 0, cur := none, cause := 0, done := 0, effects := [], order := [], seq := seq, holder := 0,
    by_ := none, since := 0, waiter := none, lost := false }

/-- R399: the payloads are copied into their slots, all of them or none. -/
def State.fillSlots (s : State) (b : Binding) : List Nat → List Byte → Stored
  | [], _ => .ok s
  | slot :: r, bytes =>
    match s.putVa (cfin b.ctx) (b.slotAddr slot + 384) (bytes.take (64 * b.psize)) with
    | .ok t => t.fillSlots b r (bytes.drop (64 * b.psize))
    | x => x

/-- R399: slots that hold their payloads become records with rising SEQ, each routed. -/
def State.inject (s : State) (id : Nat) : List Nat → State
  | [] => s
  | slot :: r =>
    match tget s.binds id with
    | none => s
    | some b =>
      let (b1, x) := b.route (Rec.new b.seq)
      let s1 : State := { s with binds := tput s.binds id { b1 with seq := b.seq + 1 } }
      (s1.putRec id slot x).inject id r

/-- RINJ (R399). -/
def execRinj (d a b : Opnd) (wa wb : Bool) (s : State) : Host.Outcome State Fault Refusal := issue s (fun v => do
  let l ← v.resolveDst kSxZ false d
  let ra ← v.rd kSx false a wa
  let rb ← v.rd kSx false b wb
  let v ← v.sources [ra, rb]
  let x := v.val ra
  let close := decide (2 ^ 63 ≤ x)
  let cnt := x / 2 ^ 8 % 2 ^ 8
  let j := x % 16
  if x % 2 ^ 63 / 2 ^ 16 ≠ 0 ∨ x / 16 % 16 ≠ 0 ∨ 64 < cnt then .error (v.trap cILLOPND)
  else do
    let stages ← v.stageSet j
    let (id, bd) ← v.bindFor j stages
    if cnt = 0 ∧ !close then .error (v.trap cILLOPND)
    else if bd.closed then .error (v.trap cILLOP)
    else do
      v.noStage 0
      v.releases false
      if bd.slots < cnt then .error (v.trap cHEAPFULL)
      else if (v.s.freeSlotsOf id bd cnt).length < cnt then .error (if bd.keep then v.trap cHEAPFULL else v.hold)
      else do
        v.destReady l
        match v.readBytes (cnt + 2) (v.val rb) (64 * bd.psize * cnt) with
        | .error r => r
        | .ok bytes =>
          let slots := v.s.freeSlotsOf id bd cnt
          let s1 := v.put (v.y.setScalar l (BitVec.ofNat 64 bd.seq))
          match s1.fillSlots bd slots bytes with
          | .park p => .error (v.parkPage (p * 2 ^ 14))
          | .fail c va => v.accessFail c va true
          | .tables _ => .error .tables
          | .ok s2 =>
            let s3 : State := { s2 with binds := tput s2.binds id bd, uid := s2.uid + 1 }
            let s4 := s3.inject id slots
            let s5 : State := { s4 with binds := tmod s4.binds id (fun q => { q with closed := q.closed || close }) }
            .ok (s5.flush v.c))

/-! ## RTAKE and the assignment of records (17 R397, R400) -/

/-- A record that a selector may serve, and whose slot the Draught has finished writing. -/
def State.servable (s : State) (b : Binding) (sel : Option Nat) (e : Nat × Rec) : Bool :=
  decide (e.2.st = .queued) && (match e.2.cur, sel with
    | some _, none => true
    | some k, some j => decide (k = j)
    | none, _ => false) &&
  !(s.ctxs[cfin b.ctx].owed.any (fun o => match o with
    | .slot a _ _ n => decide (n = e.1) && decide (b.slotAddr e.1 ≤ a) && decide (a < b.slotAddr (e.1 + 1))
    | _ => false)) && !e.2.lost

/-- The record of lowest SEQ among some. -/
def lowestSeq : List (Nat × Rec) → Option (Nat × Rec)
  | [] => none
  | e :: r => match lowestSeq r with
    | none => some e
    | some f => if f.2.seq < e.2.seq then some f else some e

/-- R397: the record that a selector takes. -/
def State.offer (s : State) (b : Binding) (sel : Option Nat) : Option (Nat × Rec) := lowestSeq (b.recs.filter (s.servable b sel))

/-- R400: the handle of a record. -/
def Binding.handle (b : Binding) (slot : Nat) (r : Rec) : Nat :=
  let k := r.cur.getD 0
  (b.stages.getD k (0, 0)).1 / 4 * 2 ^ 40 + b.set * 2 ^ 36 + k * 2 ^ 29 + slot

/-- R389, R397: a record goes to a warp, whose fragment in a slot has it as its RTAKE's result. -/
def State.assign (s : State) (id g w : Nat) (dst : Option (Fin 32)) (e : Nat × Rec) : State :=
  match tget s.binds id with
  | none => s
  | some b =>
    let loc := s.hwlocOf g w
    let r : Rec := { e.2 with st := .instage, holder := BitVec.ofNat 32 loc, by_ := some (g, w), since := s.now }
    let s1 := (s.putRec id e.1 r).owe (cfin b.ctx) (.slot (b.slotAddr e.1 + 16) (leBytes 4 loc) id e.1)
    let s2 := s1.modWarp g w (fun y =>
      let y1 := { y with held := some { bind := id, slot := e.1 } }
      match dst with
      | some i => y1.setS i (BitVec.ofNat 64 (b.handle e.1 r))
      | none => y1)
    let s3 := match (s.group g).bind (·.core) with
      | some k => s2.acquire k 5
      | none => s2
    s3.flush (cfin b.ctx)

/-- R400: no record of a closed set is QUEUED or INSTAGE. -/
def Binding.dry (b : Binding) : Bool :=
  b.closed && !b.recs.any (fun e => decide (e.2.st = .queued) || decide (e.2.st = .instage))

/-- Waiting RTAKEs of the Draught of a quadrant. -/
def State.waitingAt (s : State) (home : Nat) : Nat := ((s.binds.filter (fun e => decide (e.2.home = home))).map (fun e => e.2.takers.length)).sum

/-- The waiting RTAKE is that of a fragment at an address. -/
def Taker.is (t : Taker) (r : Ref) (pc : DWord) : Bool := decide (t.g = r.g) && decide (t.w = r.w) && decide (t.slot = r.slot) && decide (t.pc = pc)

/-- Removes the request of a fragment. -/
def State.dropTaker (s : State) (r : Ref) (pc : DWord) : State :=
  { s with binds := s.binds.map (fun e => (e.1, { e.2 with takers := e.2.takers.filter (fun t => !t.is r pc) })) }

/-- R397: a fragment's request stands among the waiting ones. -/
def State.addTaker (s : State) (id : Nat) (t : Taker) (r : Ref) : State :=
  { s with binds := tmod s.binds id (fun b => if b.takers.any (·.is r t.pc) then b else { b with takers := b.takers ++ [t] }) }

/-- RTAKE (R400). -/
def execRtake (d a b : Opnd) (wa wb : Bool) (s : State) : Host.Outcome State Fault Refusal := issue s (fun v => do
  let l ← v.resolveDst kSxZ false d
  let ra ← v.rd kSx false a wa
  let rb ← v.rd kSxC false b wb
  let v ← v.sources [ra, rb]
  let j := v.val ra
  let stages ← v.stageSet j
  match v.s.findBind v.x.launch j with
  | none => .error (v.trap cILLOPND j)
  | some (id, bd) =>
    let x := v.val rb
    if stages.length ≤ x ∧ x ≠ 2 ^ 64 - 1 then .error (v.trap cIDXBOUND x)
    else if v.y.held.isSome then .error (v.trap cILLOP)
    else do
      v.destReady l
      let sel := if x < stages.length then some x else none
      let dst := match l with
        | .sca i => some i
        | _ => none
      if bd.dry then
        if mXtrap v.y.mode then .error (v.trap cQDRY)
        else .ok ((v.put { v.y.setScalar l 0 with flags := setEos v.y.flags }).dropTaker v.r v.pc)
      else
        let older := bd.takers.takeWhile (fun t => !t.is v.r v.pc)
        match v.s.offer bd sel with
        | some e =>
          if older.any (fun t => v.s.servable bd t.stage e) then
            .error (.wait (v.base.addTaker id { g := v.r.g, w := v.r.w, slot := v.r.slot, pc := v.pc, stage := sel, dst := dst } v.r) true)
          else .ok ((v.s.dropTaker v.r v.pc).assign id v.r.g v.r.w dst e)
        | none =>
          if !bd.takers.any (·.is v.r v.pc) && decide (4096 ≤ v.s.waitingAt bd.home) then .error v.hold
          else .error (.wait (v.base.addTaker id { g := v.r.g, w := v.r.w, slot := v.r.slot, pc := v.pc, stage := sel, dst := dst } v.r) true))

/-- A fragment that waited at issue has its answer: the fragment of a slot, or the one that a trap interrupted there, goes past its instruction,
and its warp wakes. -/
def State.answer (s : State) (r : Ref) (p : Frag → Bool) : State :=
  let go := fun (f : Frag) => { f.advance with arrived := none }
  match s.warp r.g r.w with
  | none => s
  | some y =>
    match (y.slot r.slot).filter p, y.kept.filter (fun k => decide (k.slot = r.slot) && p k.frag) with
    | some f, _ =>
      let s1 := s.modWarp r.g r.w (fun y => y.setSlot r.slot (some (go f)))
      if y.sched = .parked then s1.setSched r.g r.w .pending else s1
    | none, some k => s.modWarp r.g r.w (fun y => { y with kept := some { k with frag := go k.frag } })
    | none, none => s

/-- The fragment stands at an instruction that has not been answered. -/
def Frag.waitsAt (f : Frag) (pc : DWord) : Bool := decide (f.next = pc)

/-- A fragment in a slot, or the one that a trap interrupted there, stands at an instruction. -/
def Warp.standsAt (y : Warp) (slot : Bool) (pc : DWord) : Bool :=
  (y.slot slot).any (·.waitsAt pc) || y.kept.any (fun k => decide (k.slot = slot) && k.frag.waitsAt pc)

/-- The fragment's arrival stands and nothing is to replay before it goes on. -/
def Frag.waitsFor (f : Frag) (a : Arrival) : Bool := f.replays.isEmpty && decide (f.arrived = some a)

/-- The first waiting RTAKE that some record serves. -/
def State.firstServed (s : State) (b : Binding) : List Taker → Option (Taker × (Nat × Rec))
  | [] => none
  | t :: r => match s.offer b t.stage with
    | some e => some (t, e)
    | none => s.firstServed b r

/-- RECORD_ASSIGNMENT (R397): the oldest waiting RTAKE that a QUEUED record serves has it. -/
def execRecordAssignment (id : Nat) (s : State) : Host.Outcome State Fault Refusal :=
  .next (match tget s.binds id with
    | none => s
    | some b =>
      if s.ctxs[cfin b.ctx].st ≠ .running then s
      else match s.firstServed b b.takers with
        | none => s
        | some (t, e) =>
          let r : Ref := { g := t.g, w := t.w, slot := t.slot }
          match s.warp t.g t.w with
          | some y =>
            if y.held.isSome || !y.standsAt t.slot t.pc then s.dropTaker r t.pc
            else ((s.dropTaker r t.pc).answer r (·.waitsAt t.pc)).assign id t.g t.w t.dst e
          | none => s.dropTaker r t.pc)

/-! ## RPASS, RDROP, REFF and RSTAT (17 R401 to R403) -/

/-- How the record that a warp holds stands. -/
inductive Holding where
  /-- the warp holds none -/
  | none
  /-- it is INSTAGE: binding, slot and record -/
  | stage (id slot : Nat) (b : Binding) (r : Rec)
  /-- an RPASS of the warp waits for its commit -/
  | commits
  /-- the Draught has dropped it, because its slot could not be written (17 R388) -/
  | gone

/-- The record that a warp holds. -/
def View.holding (v : View) : Holding :=
  match v.y.held with
  | .none => .none
  | some h => match tget v.s.binds h.bind with
    | .none => .gone
    | some b => match tget b.recs h.slot with
      | .none => .gone
      | some r =>
        if r.waiter.any (fun q => decide (q.1 = v.r.g) && decide (q.2.1 = v.r.w)) then .commits
        else if r.st = .instage ∧ r.by_ = some (v.r.g, v.r.w) then .stage h.bind h.slot b r else .gone

/-- The flags of a record's end. -/
def passFlags (f : Byte) (dropped : Bool) : Byte := setZNCV f dropped false false false

/-- R401: the holder of a record that the Draught has dropped ends its stage. The spec does not say what RPASS, RDROP and REFF do then: the record has
ended DROPPED, so that RPASS and RDROP set Z, and REFF stages nothing (DESIGN CHOICE, log entry 58). -/
def View.endGone (v : View) : Except Stop State := .ok (v.put { v.y with held := .none, flags := passFlags v.y.flags true })

/-- Replaces a binding. -/
def State.putBind (s : State) (id : Nat) (b : Binding) : State := { s with binds := tput s.binds id b }

/-- R392, R401: a commit ends: its RPASS completes with Z for a drop. -/
def State.commitDone (s : State) (w : Option (Nat × Nat × Bool)) (a : Arrival) (dropped : Bool) : State :=
  match w with
  | none => s
  | some (g, i, slot) =>
    match s.warp g i with
    | none => s
    | some y =>
      if y.held.isNone then s
      else (s.modWarp g i (fun y => { y with held := none, flags := passFlags y.flags dropped })).answer { g := g, w := i, slot := slot } (·.waitsFor a)

/-- R389, R392, R401: a record that has ended and whose slot has been written: the RPASS that waits for it completes, and with KEEP = 0 it is FREE. -/
def State.recSettle (s : State) (id slot : Nat) : State :=
  match tget s.binds id with
  | none => s
  | some b =>
    match tget b.recs slot with
    | none => s
    | some r =>
      if !r.over || s.slotDue (cfin b.ctx) id slot then s
      else
        let s1 := s.commitDone r.waiter (.answer slot) (decide (r.st = .dropped))
        let s2 : State := { s1 with binds := tmod s1.binds id (fun b => { b with recs := tmod b.recs slot (fun r => { r with waiter := none }) }) }
        if b.keep then s2 else s2.freeRec id slot

/-- The writes due to a context are performed, and what that means for a record follows. -/
def State.recFlush (s : State) (c : Fin 64) (id slot : Nat) : State := ((s.flush c).recSettle id slot).flush c

/-- The records that have ended and been written settle. -/
def State.recsSettle (s : State) : State :=
  s.binds.foldl (fun t e => e.2.recs.foldl (fun t r => if r.2.over then t.recSettle e.1 r.1 else t) t) s

/-- RPASS (R401): the record goes on to its next stage, or commits, and the fragment waits for the commit. -/
def execRpass (s : State) : Host.Outcome State Fault Refusal := issue s (fun v =>
  match v.f.arrived with
  | some (.answer _) => if v.y.held.isNone then .ok (v.put (v.withFrag (fun f => { f with arrived := none }))) else .error v.hold
  | _ =>
    match v.holding with
    | .none => .error (v.trap cILLOP)
    | .commits => .error v.hold
    | .gone => v.endGone
    | .stage id slot b r => do
      v.releases false
      let k := r.cur.getD 0
      let r1 : Rec := { r with done := r.done ||| BitVec.ofNat 8 (2 ^ k), by_ := none }
      let b1 := b.count r false v.s.now
      if (b1.left r1).isEmpty then
        let r2 : Rec := { r1 with st := .committing, pass := true, waiter := some (v.r.g, v.r.w, v.r.slot) }
        let s1 := ((v.base.putBind id b1).putRec id slot r2).modWarp v.r.g v.r.w (fun y =>
          y.setSlot v.r.slot ((y.slot v.r.slot).map (fun f => { f with arrived := some (.answer slot) })))
        .error (.wait (s1.flush v.c) false)
      else
        let (b2, r2) := b1.route { r1 with st := .queued }
        let s1 := v.put { v.y with held := none, flags := passFlags v.y.flags false }
        .ok (((s1.putBind id b2).putRec id slot r2).flush v.c))

/-- RDROP (R401). -/
def execRdrop (s : State) : Host.Outcome State Fault Refusal := issue s (fun v =>
  match v.holding with
  | .none => .error (v.trap cILLOP)
  | .commits => .error v.hold
  | .gone => v.endGone
  | .stage id slot b r => do
    v.releases false
    let s1 := v.put { v.y with held := none, flags := passFlags v.y.flags true }
    let s2 := s1.putBind id (b.count r true v.s.now)
    .ok ((s2.endRec id slot { r with st := .dropped, cause := 0, effects := [], by_ := none }).recFlush v.c id slot))

/-- R402: the data of an effect: one register, or two for 16 bytes. -/
def View.effData (v : View) (sz : Nat) (b : Opnd) (wb : Bool) : Except Stop (List Rd) := do
  let rb ← v.rd kSx false b wb
  if sz ≠ 4 then .ok [rb]
  else match b with
    | .s i => if i.val < 31 then .ok [rb, { loc := .sca (Fin.ofNat 32 (i.val + 1)), wait := wb, code := 81 + i.val }] else .error (v.trap cILLOPND)
    | _ => .error (v.trap cILLOPND)

/-- REFF (R402): appends an effect to the held record. -/
def execReff (sz : BitVec 7) (a b : Opnd) (wa wb : Bool) (s : State) : Host.Outcome State Fault Refusal := issue s (fun v => do
  let n := sz.toNat
  let ra ← v.rd kSx false a wa
  if 4 < n then .error (v.trap cILLOPND)
  else do
    let rb ← v.effData n b wb
    let v ← v.sources (ra :: rb)
    let p := v.val ra
    match v.holding with
    | .none => .error (v.trap cILLOP)
    | .commits => .error v.hold
    | .gone => .ok (v.put v.y)
    | .stage id slot _ r =>
      if 2 ^ 60 ≤ p then .error (v.trap cPGPROT p)
      else if p % 2 ^ n ≠ 0 then .error (v.trap cALIGN p)
      else if 8 ≤ r.effects.length then .error (v.trap cSTAGEFX)
      else
        let data := match rb with
          | [x, y] => v.val x + 2 ^ 64 * v.val y
          | x :: _ => v.val x
          | [] => 0
        let e : Effect := { addr := BitVec.ofNat 64 p, data := BitVec.ofNat 128 data, size := 2 ^ n, stage := r.cur.getD 0 }
        .ok (((v.put v.y).putRec id slot { r with effects := r.effects ++ [e] }).flush v.c))

/-- A count held to a width. -/
def sat (w x : Nat) : Nat := min (2 ^ w - 1) x

/-- R403: a snapshot of a set. -/
def Binding.snapshot (b : Binding) (k : Nat) : Nat :=
  if k < 8 then
    if k < b.stages.length then
      let st := tgetD b.stats (8 * b.window + k) { runs := 0, drops := 0, cyc := 0 }
      sat 16 ((b.weights.getLastD []).getD k 0) * 2 ^ 48 + sat 16 (b.qd k) * 2 ^ 32 + sat 16 st.drops * 2 ^ 16 + sat 16 st.runs
    else 0
  else if k = 8 then b.l.toNat * 2 ^ 48 + b.window % 2 ^ 16 * 2 ^ 32 + b.seq % 2 ^ 32
  else if k = 9 then b.nDone % 2 ^ 32 * 2 ^ 32 + b.nDropped % 2 ^ 32
  else if k = 10 then b.pool
  else (b.recs.filter (fun e => decide (e.2.st = .queued) || decide (e.2.st = .instage))).length

/-- RSTAT (R403). -/
def execRstat (d a b : Opnd) (wa wb : Bool) (s : State) : Host.Outcome State Fault Refusal := issue s (fun v => do
  let l ← v.resolveDst kSxZ false d
  let ra ← v.rd kSx false a wa
  let rb ← v.rd kSxZ1 false b wb
  let v ← v.sources [ra, rb]
  let j := v.val ra
  let _ ← v.stageSet j
  let k := v.val rb
  if 11 < k then .error (v.trap cIDXBOUND k)
  else do
    v.destReady l
    let x := match v.s.findBind v.x.launch j with
      | some (_, bd) => bd.snapshot k
      | none => 0
    .ok (v.put (v.y.setScalar l (BitVec.ofNat 64 x))))

/-! ## Windows and commits (17 R392, R394, R395) -/

/-- R395: records that waited for a window are routed in ascending SEQ. -/
def State.routeWaiting (s : State) (id : Nat) : Nat → State
  | 0 => s
  | n + 1 =>
    match tget s.binds id with
    | none => s
    | some b =>
      match lowestSeq (b.recs.filter (fun e => decide (e.2.st = .queued) && e.2.cur.isNone && (b.reproWeights e.2).isSome)) with
      | none => s
      | some (slot, r) =>
        let (b1, r1) := b.route r
        ((s.putBind id b1).putRec id slot r1).routeWaiting id n

/-- WINDOW_CLOSE (R394). -/
def execWindowClose (id : Nat) (s : State) : Host.Outcome State Fault Refusal :=
  .next (match tget s.binds id with
    | none => s
    | some b => if b.closable then ((s.putBind id b.close).routeWaiting id b.recs.length).flush (cfin b.ctx) else s)

/-- R392: how the effects of a record translate. -/
inductive Effects where
  /-- every one, at these addresses -/
  | ready (l : List (Nat × Effect))
  /-- one fails with a cause at an address -/
  | bad (code addr : Nat)
  /-- the page tables hold uncorrectable data -/
  | tables (addr : Nat)
  /-- a page migrates or a lock is waited for: the state meanwhile -/
  | wait (s : State)

/-- R392: translates every entry as a store by a program of the context. -/
def State.effectsTo (s : State) (c : Fin 64) (die : Nat) : List Effect → Effects
  | [] => .ready []
  | e :: r =>
    match s.ptrTo (72 * 4) c true e.addr.toNat e.size true with
    | .fail k => .bad k e.addr.toNat
    | .uncorr => .tables e.addr.toNat
    | .park => .wait (s.addFault c (vpage (e.addr.toNat % 2 ^ 56)) die none)
    | .ok pa _ =>
      match s.effectsTo c die r with
      | .ready l => if s.locked c (e.addr.toNat % 2 ^ 56) e.size true then .wait s else .ready ((pa, e) :: l)
      | x => x

/-- R392 step 2: the entries in ascending stage order. -/
def stageSorted (l : List (Nat × Effect)) : List (Nat × Effect) :=
  ((List.range 8).map (fun k => l.filter (fun e => e.2.stage == k))).flatten

/-- RECORD_COMMIT (R392): the effects of a COMMITTING record are stored and it is DONE, or it is DROPPED. A context that is not READY or RUNNING begins
no commit (05 R102). -/
def execRecordCommit (id slot : Nat) (s : State) : Host.Outcome State Fault Refusal :=
  .next (match tget s.binds id with
    | none => s
    | some b =>
      match tget b.recs slot with
      | none => s
      | some r =>
        let c := cfin b.ctx
        if r.st ≠ .committing ∨ !s.ctxs[c].st.works then s
        else
          match s.effectsTo c (b.home / 4) r.effects with
          | .wait t => t
          | .bad k a => (s.dropRec id slot k a true).recFlush c id slot
          | .tables a => s.faultContext c cUNCORR 6 b.unit a slot 0
          | .ready l =>
            let s1 := (stageSorted l).foldl (fun t e =>
              t.engPutBytes e.1 (leBytes e.2.size e.2.data.toNat)) s
            (s1.endRec id slot { r with st := .done }).recFlush c id slot)

end Sys2Proof.Machine
end

