-- ==== Sys2Proof/Machine/Sync.lean ====
section
/-! DEFINITION. SYNC words of major 0x8: barrier objects, the group and cluster barriers, exchange stores, reductions and the two clocks
(13 R298 to R311), with the events EXCHANGE_STORE_LAND and REDUCTION_RESULT. -/

namespace Sys2Proof.Machine

/-! ## Barrier objects (13 R301, R302) -/

/-- R302: a scalar register or one. -/
def kS1 : Kinds := { kS with one := true }
/-- R302: a scalar register, zero or one. -/
def kSZ1 : Kinds := { kSZ with one := true }

/-- R301: a barrier operand as an offset in the group region. -/
def View.barAt (v : View) (r : Rd) : Except Stop Nat :=
  let p := v.val r
  if p % 16 ≠ 0 then .error (v.trap cALIGN p) else if v.x.sched.spad < p + 16 then .error (v.trap cIDXBOUND) else .ok p

/-- The group of a view as it stands. -/
def View.grp (v : View) : Group := (v.s.group v.r.g).getD v.x

/-- The state of a view with its group changed and its warp replaced. -/
def View.putGroup (v : View) (y : Warp) (f : Group → Group) : State := (v.put y).modGroup v.r.g f

/-- BINIT (R302). -/
def execBinit (a b : Opnd) (wa wb : Bool) (s : State) : Host.Outcome State Fault Refusal := issue s (fun v => do
  let ra ← v.rd kSxZ false a wa
  let rb ← v.rd kS1 false b wb
  let v ← v.sources [ra, rb]
  let o ← v.barAt ra
  let n := v.val rb
  if n = 0 ∨ 65535 < n then .error (v.trap cBADCOUNT)
  else .ok (v.putGroup v.y (fun g => g.setBar o { pendb := 0, phase := false, broken := false, expect := n, penda := n })))

/-- BEXP (R302): a signed number of bytes is added to the pending ones. -/
def execBexp (a b : Opnd) (wa wb : Bool) (s : State) : Host.Outcome State Fault Refusal := issue s (fun v => do
  let ra ← v.rd kSxZ false a wa
  let rb ← v.rd kSC false b wb
  let v ← v.sources [ra, rb]
  let o ← v.barAt ra
  .ok (v.putGroup v.y (fun g => g.barAdd o (v.val rb))))

/-- BARR (R302): an arrival, with a release at GROUP. -/
def execBarr (d a : Opnd) (wa : Bool) (s : State) : Host.Outcome State Fault Refusal := issue s (fun v => do
  let l ← v.resolveDst kSZ false d
  let ra ← v.rd kSxZ false a wa
  let v ← v.sources [ra]
  let o ← v.barAt ra
  let q := v.grp.bar o
  if q.broken then .error (v.trap cBBROKEN o)
  else if q.penda = 0 then .error (v.trap cBADCOUNT)
  else do
    v.destReady l
    if v.s.releaseWaits v.r.g v.r.w (BitVec.allOnes 32) then .error v.hold
    else
      .ok (v.putGroup (v.y.setScalar l (BitVec.ofNat 64 (b2n q.phase))) (fun g => g.setBar o { q with penda := q.penda - 1 }.complete)))

/-- 13 R306: the issuing fragment's arrival, or its wait, stands no longer. -/
def View.leave (v : View) : Warp := v.withFrag (fun f => { f with arrived := none })

/-- 13 R302, R306: the fragment waits, and what it waits for stands with it. -/
def View.stay (v : View) (a : Arrival) : Stop :=
  .wait (v.base.modWarp v.r.g v.r.w (fun y => y.setSlot v.r.slot ((y.slot v.r.slot).map (fun f => { f with arrived := some a })))) true

/-- R302: BWAIT before it waits. -/
def View.bwait (v : View) (ra rb : Rd) : Except Stop State := do
  let v ← v.sources [ra, rb]
  let o ← v.barAt ra
  let q := v.grp.bar o
  let t := v.val rb % 2
  if q.broken then .error (v.trap cBBROKEN o) else if b2n q.phase = t then .error (v.stay (.bwait o t)) else .ok (v.put v.y)

/-- BWAIT (R302): waits until the phase of the token is over; an acquire at GROUP. Once it waits, the first phase that ends, or the break of the
object, decides (R300). -/
def execBwait (a b : Opnd) (wa wb : Bool) (s : State) : Host.Outcome State Fault Refusal := issue s (fun v => do
  let ra ← v.rd kSxZ false a wa
  let rb ← v.rd kSZ1 false b wb
  match v.f.arrived with
  | some (.bwait _ _) => .error v.park
  | some .bwaitOver => match v.sources [ra, rb] with
    | .ok u => .ok (u.put u.leave)
    | .error _ => .ok (v.put v.leave)
  | some (.bwaitBroken o) =>
    .error (.late (v.base.modWarp v.r.g v.r.w (fun y => y.setSlot v.r.slot ((y.slot v.r.slot).map (fun f => { f with arrived := none })))) cBBROKEN o)
  | _ => v.bwait ra rb)

/-- BTEST (R302): 2 for a BROKEN object, 1 for a phase that is over, else 0. -/
def execBtest (d a b : Opnd) (wa wb : Bool) (s : State) : Host.Outcome State Fault Refusal := issue s (fun v => do
  let l ← v.resolveDst kSZ false d
  let ra ← v.rd kSxZ false a wa
  let rb ← v.rd kSZ1 false b wb
  let v ← v.sources [ra, rb]
  let o ← v.barAt ra
  v.destReady l
  let q := v.grp.bar o
  let x := if q.broken then 2 else if b2n q.phase ≠ v.val rb % 2 then 1 else 0
  .ok (v.put { v.y.setScalar l (BitVec.ofNat 64 x) with flags := setZ v.y.flags (decide (x = 0)) }))

/-! ## GSYNC and CSYNC (13 R304 to R306) -/

/-- R304: the GSYNC count k is done for a group. -/
def Group.gsyncDone (g : Group) (k : Nat) : Bool := match g.gsyncLeast with
  | some m => decide (k ≤ m)
  | none => true

/-- R305: the CSYNC count k is done for a group: its banks have swapped for it. -/
def Group.csyncDone (g : Group) (k : Nat) : Bool := decide (k ≤ g.cswaps)

/-- R304: exchange stores of a warp that have not landed. -/
def State.exchOpen (s : State) (g w : Nat) : Bool := s.exchs.any (fun e => decide (e.2.g = g) && decide (e.2.w = w))

/-- R304 to R306: a meeting of warps. `stood` is the count at which the fragment has arrived already; `next` the count of the warp's next
arrival; `arrive` raises the count; `done` tells that a count is over; the completion acquires at a scope. -/
def View.meet (v : View) (stood : Option Nat) (next : Nat) (arrive : Warp → Warp) (mark : Nat → Arrival) (done : Group → Nat → Bool)
    (scope : Nat) : Except Stop State :=
  let past := fun (s : State) => (s.modWarp v.r.g v.r.w (fun y =>
    y.setSlot v.r.slot ((y.slot v.r.slot).map (fun f => { f with arrived := none })))).acquire v.core scope
  match stood with
  | some k => if done v.grp k then .ok (past v.s) else .error v.park
  | none =>
    if v.s.exchOpen v.r.g v.r.w then .error v.park
    else if v.s.releaseWaits v.r.g v.r.w v.f.mask then .error v.hold
    else
      let s1 := (v.put (arrive v.y)).settleSync v.r.g
      if done ((s1.group v.r.g).getD v.x) next then .ok (past s1)
      else
        let s2 := (v.base.modWarp v.r.g v.r.w (fun y =>
          (arrive y).setSlot v.r.slot ((y.slot v.r.slot).map (fun f => { f with arrived := some (mark next) })))).settleSync v.r.g
        .error (.wait s2 true)

/-- GSYNC (R304). -/
def execGsync (s : State) : Host.Outcome State Fault Refusal := issue s (fun v =>
  let stood := match v.f.arrived with
    | some (.gsync k) => some k
    | _ => none
  v.meet stood (v.y.gsyncN + 1) (fun y => { y with gsyncN := y.gsyncN + 1 }) .gsync Group.gsyncDone 1)

/-- CSYNC (R305). -/
def execCsync (s : State) : Host.Outcome State Fault Refusal := issue s (fun v =>
  let stood := match v.f.arrived with
    | some (.csync k) => some k
    | _ => none
  v.meet stood (v.y.csyncN + 1) (fun y => { y with csyncN := y.csyncN + 1 }) .csync Group.csyncDone 3)

/-! ## Exchange stores (13 R307, R308) -/

/-- R307: BAR, BOFF and OFF of an exchange parameter: the barrier of the receivers and the bank offset. -/
def exchParam (x : Nat) : Option Nat × Nat := (if 2 ^ 63 ≤ x then some (x / 2 ^ 48 % 2 ^ 15 * 16) else none, x % 2 ^ 19)

/-- R307: the checks of an exchange parameter; `far` when the target group does not exist. -/
def View.exchOk (v : View) (x : Nat) (far : Bool) : Except Stop Unit :=
  let (bar, off) := exchParam x
  if x / 2 ^ 19 % 2 ^ 29 ≠ 0 then .error (v.trap cILLOPND)
  else if far || decide (v.x.sched.exch < off + 128) || bar.any (fun o => decide (v.x.sched.spad < o + 16)) then .error (v.trap cIDXBOUND)
  else if off % 4 ≠ 0 then .error (v.trap cALIGN off)
  else .ok ()

/-- R307: an exchange store is accepted for some receivers, with the lanes read at issue. -/
def View.sendExch (v : View) (data : Loc) (x : Nat) (tgts : List Nat) : State :=
  let vals := v.laneVals 6 data
  let (bar, off) := exchParam x
  let e : ExchStore :=
    { g := v.r.g, w := v.r.w, tgts := tgts, off := off, mask := v.active &&& ~~~v.y.helper, lanes := vals.map (fun n => BitVec.ofNat 32 n), bar := bar }
  let s1 := v.put { v.y with remN := v.y.remN + 1 }
  { s1 with exchs := s1.exchs ++ [(s1.uid, e)], uid := s1.uid + 1 }

/-- R307: the group of a number in the sender's launch phase. -/
def View.peer (v : View) (n : Nat) : Option (Nat × Group) :=
  v.s.groups.find? (fun e => decide (e.2.launch = v.x.launch) && decide (e.2.phase = v.x.phase) && decide (e.2.num = n))

/-- XST (R307, R308). -/
def execXst (a b : Opnd) (wa wb : Bool) (s : State) : Host.Outcome State Fault Refusal := issue s (fun v => do
  let ra ← v.rd kV false a wa
  let rb ← v.rd kS false b wb
  match b with
  | .s i =>
    if 31 ≤ i.val then .error (v.trap cILLOPND)
    else do
      let v ← v.sources [ra, rb, { loc := .sca (Fin.ofNat 32 (i.val + 1)), wait := wb, code := 81 + i.val }]
      let t := v.val rb
      let x := v.y.s[Fin.ofNat 32 (i.val + 1)].val.toNat
      if 2 ^ 24 ≤ t then .error (v.trap cILLOPND)
      else do
        v.exchOk x (decide (((v.launch.map (·.count)).getD 0) ≤ t))
        v.noStage 0
        match v.peer t with
        | none => .error (v.trap cIDXBOUND)
        | some (g, q) =>
          match q.st with
          | .waiting => .error v.hold
          | .exited | .killed =>
            if mXtrap v.y.mode then .error (v.trap cXDEAD t)
            else .ok (v.put { v.y with flags := setXdead v.y.flags, erem := v.y.erem + 1 })
          | _ => .ok (v.sendExch ra.loc x [g])
  | _ => .error (v.trap cILLOPND))

/-- MCST (R307, R308): to every member of the sender's cluster. -/
def execMcst (a b : Opnd) (wa wb : Bool) (s : State) : Host.Outcome State Fault Refusal := issue s (fun v => do
  let ra ← v.rd kV false a wa
  let rb ← v.rd kS false b wb
  let v ← v.sources [ra, rb]
  let x := v.val rb
  v.exchOk x false
  v.noStage 0
  let q := coreQuad v.core
  .ok (v.sendExch ra.loc x ((v.s.groups.filter (fun e => e.2.inCluster v.x.launch v.x.phase q)).map (·.1))))

/-- R303, R307: an exchange store lands in a group's shadow bank. -/
def Group.exchLand (g : Group) (e : ExchStore) : Group :=
  let bank := if g.live1 then g.bank0 else g.bank1
  let m := (List.finRange 32).foldl (fun (m : Memory) (i : Fin 32) =>
    if e.mask.getLsbD i.val then Memory.wr m (e.off + 4 * i.val) 4 (e.lanes[i]).toNat else m) bank
  let g1 := if g.live1 then { g with bank0 := m } else { g with bank1 := m }
  match e.bar with
  | some o => g1.barLand o (4 * (lanesIn e.mask).length)
  | none => g1

/-- 15 R359, 08 R152: an exchange store into a SAVED group goes into its image, which is written anew; it waits while a page of the image migrates, and
a fatal fault there faults the receiver's context. -/
def State.exchImage (s : State) (g : Option Nat) : Except State State :=
  match g.bind s.group with
  | none => .ok s
  | some x =>
    if x.st ≠ .saved then .ok s
    else
      let c := cfin x.ctx
      let image := s.imageBytes x.image.length
      match s.putImage c x.imgAt image with
      | .ok t => .ok (t.modGroup (g.getD 0) (fun y => { y with image := image }))
      | e => .error (s.imageStop c e)

/-- EXCHANGE_STORE_LAND (R307, R308): the store lands at its next receiver, or is discarded there because the receiver has retired; after
the last receiver it no longer counts in REM. -/
def execExchangeStoreLand (id : Nat) (s : State) : Host.Outcome State Fault Refusal :=
  .next (match tget s.exchs id with
    | none => s
    | some e =>
      let rest := e.tgts.drop 1
      let gone : Bool := match e.tgts.head?.bind s.group with
        | some x => decide (x.st = .exited) || decide (x.st = .killed)
        | none => !e.tgts.isEmpty
      let land := fun (t : State) => match e.tgts.head? with
        | some g => if gone then t else t.modGroup g (·.exchLand e)
        | none => t
      match s.exchImage e.tgts.head? with
      | .error t => t
      | .ok s0 =>
      let s1 := land s0
      let s2 := s1.modWarp e.g e.w (fun y =>
        let y1 := if gone then { y with flags := setXdead y.flags, erem := y.erem + 1 } else y
        if rest.isEmpty then { y1 with remN := y1.remN - 1 } else y1)
      { s2 with exchs := if rest.isEmpty then tdel s2.exchs id else tput s2.exchs id { e with tgts := rest } })

/-! ## Reductions (13 R309) -/

/-- R309: the quadrants that have live cores. -/
def State.liveQuads (s : State) : Nat := ((s.life.dies.map (fun d => (d.cores.filter (fun q => !q.isEmpty)).length))).sum

/-- R309: one contribution more. -/
def redStep (op : Nat) (sg : Bool) (a b : DWord) : DWord :=
  let le := if sg then decide (a.toInt ≤ b.toInt) else decide (a.toNat ≤ b.toNat)
  match op with
  | 0 => a + b
  | 1 => if le then a else b
  | 2 => if le then b else a
  | 3 => a &&& b
  | 4 => a ||| b
  | _ => a ^^^ b

/-- R309: a contribution differs from a reduction in OP, or, for MIN and MAX, in the signedness that ETYPE gives. -/
def Reduction.differs (r : Reduction) (op : Nat) (sg : Bool) : Bool :=
  decide (r.op ≠ op) || (decide (r.signed ≠ sg) && (decide (op = 1) || decide (op = 2)))

/-- R309: the result of a reduction; contributions that differ in OP, or in the signedness of MIN and MAX, leave it open (log entry 40). -/
def Reduction.result (r : Reduction) (tick : Nat) : DWord :=
  if r.mixed then BitVec.ofNat 64 (Config.freeNat tick)
  else match r.parts.map (·.2) with
    | [] => 0
    | x :: l => l.foldl (redStep r.op r.signed) x

/-- R309: the checks of CRED's control word, in their order. -/
def View.credOk (v : View) (c : Nat) : Except Stop Unit :=
  let n := c / 2 ^ 8 % 2 ^ 8
  if c / 2 ^ 48 ≠ 0 ∨ c / 2 ^ 16 % 2 ^ 16 ≠ 0 ∨ c / 8 % 32 ≠ 0 then .error (v.trap cILLOPND)
  else if 6 ≤ c % 8 then .error (v.trap cILLOP)
  else if 12 ≤ v.et then .error (v.trap cILLTYPE)
  else if n = 0 ∨ v.s.liveQuads < n then .error (v.trap cBADCOUNT)
  else .ok ()

/-- R309: the open reduction of a launch phase and TAG. -/
def State.openRed (s : State) (launch phase tag : Nat) : Option (Nat × Reduction) :=
  s.reds.find? (fun e => decide (e.2.launch = launch) && decide (e.2.phase = phase) && decide (e.2.tag = tag) && !e.2.closed)

/-- CRED (R309): contributes to a reduction and waits for its result. -/
def execCred (d a b : Opnd) (wa wb : Bool) (s : State) : Host.Outcome State Fault Refusal := issue s (fun v =>
  match v.f.arrived with
  | some (.cred _) => .error v.park
  | _ => do
    let l ← v.resolveDst kSZ false d
    let ra ← v.rd kSC false a wa
    let rb ← v.rd kS false b wb
    let v ← v.sources [ra, rb]
    let c := v.val rb
    v.credOk c
    v.noStage 0
    v.destReady l
    let n := c / 2 ^ 8 % 2 ^ 8
    let x := v.y.scalarVal ra.loc
    if n = 1 then .ok (v.put (v.y.setScalar l x))
    else do
      let tag := c / 2 ^ 32 % 2 ^ 16
      let q := coreQuad v.core
      let sg := scalarSigned v.et
      let me := (v.r.g, v.r.w, v.r.slot, match l with
        | .sca i => some i
        | _ => none)
      let (id, r) := (v.s.openRed v.x.launch v.x.phase tag).getD (v.s.uid,
        { launch := v.x.launch, phase := v.x.phase, tag := tag, count := n, op := c % 8, signed := sg, parts := [], mixed := false, waiters := [],
          closed := false })
      if r.count ≠ n then .error (v.trap cBADCOUNT)
      else if r.parts.any (fun p => p.1 == q) then .error v.park
      else do
        v.releases false
        let r1 : Reduction :=
          { r with parts := r.parts ++ [(q, x)], waiters := r.waiters ++ [me], mixed := r.mixed || r.differs (c % 8) sg,
                   closed := decide (r.parts.length + 1 = n) }
        -- the word popped for a queue-mapped source is spent at the arrival
        let s1 := (v.put v.y).modWarp v.r.g v.r.w (fun y => y.setSlot v.r.slot (some { v.f with arrived := some (.cred id) }))
        .error (.wait { s1 with reds := tput s1.reds id r1, uid := s1.uid + 1 } true))

/-- R309: one participant has the result of its reduction. -/
def State.redAnswer (s : State) (id : Nat) (x : DWord) (w : Nat × Nat × Bool × Option (Fin 32)) : State :=
  let (g, i, slot, dst) := w
  let s1 := match dst with
    | some k => s.modWarp g i (fun y => y.setS k x)
    | none => s
  let s2 := match (s1.group g).bind (·.core) with
    | some c => s1.acquire c 5
    | none => s1
  s2.answer { g := g, w := i, slot := slot } (·.waitsFor (.cred id))

/-- REDUCTION_RESULT (R309): the result of a complete reduction reaches its participants. One whose group is not resident, or whose
fragment has a replay before it, collects it later. -/
def execReductionResult (id : Nat) (s : State) : Host.Outcome State Fault Refusal :=
  .next (match tget s.reds id with
    | none => s
    | some r =>
      if !r.closed then s
      else
        let ready := fun (w : Nat × Nat × Bool × Option (Fin 32)) =>
          match s.group w.1, s.warp w.1 w.2.1 with
          | some x, some y => decide (x.st = .resident) &&
              ((y.slot w.2.2.1).any (·.waitsFor (.cred id)) || y.kept.any (fun k => decide (k.slot = w.2.2.1) && k.frag.waitsFor (.cred id)))
          | _, _ => false
        let s1 := (r.waiters.filter ready).foldl (fun t w => t.redAnswer id (r.result s.tick) w) s
        let rest := r.waiters.filter (fun w => !ready w)
        { s1 with reds := if rest.isEmpty then tdel s1.reds id else tput s1.reds id { r with waiters := rest } })

/-! ## Time (13 R310, R311) -/

/-- RDTIM (R310). -/
def execRdtim (d : Opnd) (s : State) : Host.Outcome State Fault Refusal := issue s (fun v => do
  let l ← v.resolveDst kSZ false d
  v.destReady l
  .ok (v.put (v.y.setScalar l v.s.life.timer)))

/-- RDCYC (R311): whole cycles of the counter of the core's die. -/
def execRdcyc (d : Opnd) (s : State) : Host.Outcome State Fault Refusal := issue s (fun v => do
  let l ← v.resolveDst kSZ false d
  v.destReady l
  .ok (v.put (v.y.setScalar l (BitVec.ofNat 64 (v.s.life.cyc[Fin.ofNat 4 (coreDie v.core)] / 10)))))

end Sys2Proof.Machine
end

