-- ==== Sys2Proof/Machine/Copier.lean ====
section
/-! DEFINITION. What the copy engines do with a copy, ADRAIN's among them: the layout of its ends, its acceptance, the bytes of its cells, and
the events COPY_LAND, COPY_DONE and COPY_FAIL (12 R278 to R292, 11 R269). -/

namespace Sys2Proof.Machine

/-! ## Layouts (12 R279, R287 to R290) -/

/-- Cells of a layout. -/
def Layout.total (y : Layout) : Nat := y.rows * y.per

/-- N_D: the destination bytes. -/
def Layout.size (y : Layout) : Nat := y.rows * y.len

/-- Where a cell lies from the destination's start, and its bytes. -/
def Layout.place (y : Layout) (u : Nat) : Nat × Nat :=
  let k := u % max 1 y.per
  (u / max 1 y.per * y.pitch + k * y.cell, min y.cell (y.len - k * y.cell))

/-- The cell is the low nibble of its byte alone. -/
def Layout.halfCell (y : Layout) (u : Nat) : Bool := y.half && decide (u % max 1 y.per + 1 = y.per)

/-- The byte ranges of the cells from u on: row by row, offset and bytes. -/
def Layout.from_ (y : Layout) (u : Nat) : List (Nat × Nat) :=
  if y.total ≤ u then []
  else
    let r := u / max 1 y.per
    let k := u % max 1 y.per * y.cell
    (r * y.pitch + k, y.len - k) :: (List.range (y.rows - r - 1)).map (fun i => ((r + 1 + i) * y.pitch, y.len))

/-- Bytes from the destination's start to the end of its last byte. -/
def Layout.span (y : Layout) : Nat := if y.total = 0 then 0 else (y.rows - 1) * y.pitch + y.len

/-- Rows of elements of w bits; two 4-bit elements make a cell. -/
def Layout.ofElems (w rows cols pitch : Nat) : Layout :=
  if w = 4 then { rows := rows, per := (cols + 1) / 2, cell := 1, pitch := pitch, len := (cols + 1) / 2, half := decide (cols % 2 = 1) }
  else { rows := rows, per := cols, cell := w / 8, pitch := pitch, len := cols * (w / 8), half := false }

/-- Some bytes in one row, in cells of n. -/
def Layout.ofBytes (n size : Nat) : Layout :=
  { rows := 1, per := (size + n - 1) / n, cell := n, pitch := 0, len := size, half := false }

/-! ## Ends (12 R278) -/

/-- An end of a copy: a scratchpad offset, or a pointer. -/
structure End_ where
  /-- SPAD -/
  spad : Bool
  /-- ADDR -/
  addr : Nat
  deriving DecidableEq, Repr

/-- R278: an SRC or DST word. -/
def endOf (x : Nat) : End_ := { spad := decide (2 ^ 63 ≤ x), addr := x % 2 ^ 63 }

/-- R278: the reserved bits of an SRC or DST word are zero. -/
def endOk (x : Nat) : Bool := if 2 ^ 63 ≤ x then decide (x % 2 ^ 63 < 2 ^ 19) else decide (x < 2 ^ 60)

/-- What an engine's access meets when it is not served. -/
inductive Stall where
  /-- a page of a context migrates first -/
  | park (ctx page : Nat)
  /-- it fails with a cause and an address -/
  | fail (code addr : Nat)
  /-- a page table of a context holds uncorrectable data -/
  | tables (ctx : Nat)
  /-- a scratchpad line of its source waits for bytes of another copy (24 R458), or its first hop has no room for a packet (18 R409) -/
  | absent
  /-- no route leads to where the address lies (18 R418) -/
  | noRoute (addr : Nat)

/-- The key of no core: an engine has no TLB of a core. -/
def noCore : Nat := 288

/-- R280, R295: engine of an identifier, 16 x quadrant + engine. -/
def identEngine (i : DWord) : Nat := bits i 57 50

/-- R278: where n bytes at an offset from a pointer lie, a piece for each page. -/
def State.pieces (s : State) (ctx : Nat) (user write : Bool) (p : Nat) : Nat → Nat → Nat → Except Stall (List (Nat × Nat))
  | 0, _, _ => .ok []
  | fuel + 1, off, n =>
    if n = 0 then .ok []
    else
      let va := p % 2 ^ 56 + off
      let k := min n (2 ^ 14 - va % 2 ^ 14)
      if 2 ^ 56 ≤ va then .error (.fail cPGPROT va)
      else match s.ptrTo noCore (cfin ctx) user (p / 2 ^ 56 * 2 ^ 56 + va) k write with
        | .park => .error (.park ctx (vpage va))
        | .fail c => .error (.fail c va)
        | .uncorr => .error (.tables ctx)
        | .ok pa _ => do
          let r ← s.pieces ctx user write p fuel (off + k) (n - k)
          .ok ((pa, k) :: r)

/-- 12 R285, 24 R458: a line of the group region that a range meets has bytes of a copy other than this one still to land. -/
def Group.awaits (g : Group) (own : List Nat) (a n : Nat) : Bool :=
  g.absent.any (fun e => decide (a / 128 ≤ e.1) && decide (e.1 ≤ (a + n - 1) / 128) && decide (b2n (own.contains e.1) < e.2))

/-- 18 R418: the die and the engine's die are joined, for every piece of an end; another node is reached through its port. -/
def State.copyReach (s : State) (c : Copy) (addr : Nat) (ps : List (Nat × Nat)) : Except Stall Unit :=
  let die := identQuad c.ident / 4
  if ps.all (fun (pa, _) => if s.isLocal pa then s.joined die (homeDie (localPart pa)) else s.routable die (pa / 2 ^ 48)) then .ok ()
  else .error (.noRoute addr)

/-- What an engine reads: a value, or what it meets; with the memory that it has read, as system physical addresses and bytes. -/
abbrev Reads := StateT (List (Nat × Nat)) (Except Stall)

/-- Reads n bytes at an offset from an end of a copy; a scratchpad line is read only once it is present (24 R458). -/
def State.endRd (s : State) (c : Copy) (e : End_) (off n : Nat) : Reads Nat :=
  if e.spad then (match s.group c.g with
    | some g =>
      if g.awaits c.lines (e.addr + off) n then throw .absent
      else if g.winBad 0 .spad (e.addr + off) n then throw (.fail cUNCORR (e.addr + off))
      else pure (Memory.rd g.spad (e.addr + off) n)
    | none => pure 0)
  else do
    let ps ← s.pieces c.ctx c.user false e.addr (n + 1) off n
    let _ ← s.copyReach c (e.addr % 2 ^ 56 + off) ps
    modify (· ++ ps)
    pure (leNat ((ps.map (fun (pa, k) => (List.range k).map (fun i => s.engByte (pa + i)))).flatten))

/-- R291: the copy's destination is another node. -/
def Copy.away (c : Copy) (s : State) : Bool := decide (c.kind = .cpyx) && decide (bits c.p3 55 48 ≠ s.node)

/-- The destination of a copy. -/
def Copy.dst (c : Copy) : End_ := if c.kind = .adrain then endOf c.p0.toNat else endOf c.p1.toNat

/-- R102, R291: the target context of a CPYX refuses its traffic. -/
def State.refuses (s : State) (c : Copy) : Bool := decide (c.kind = .cpyx) && !(s.ctxs[cfin c.tctx]).st.runs

/-- The packet of a copy for another node, from its engine's station: bytes for a local address there, or for an address of a CPYX's target context, or
its flag. -/
def State.copyPacket (s : State) (c : Copy) (node : Nat) (cls : LinkClass) (type addr n op : Nat) (b : List Byte) : Packet :=
  s.packet (engineStation (identEngine c.ident)) node (farStation (if op = opPlain then addr else 0)) cls type s.uid (reqData addr n op c.tctx 0 b)

/-- R291, 18 R408, R409, R418: a packet of a copy leaves for another node: it needs a route, and room at its first hop. -/
def State.copySend (s : State) (c : Copy) (node addr : Nat) (p : Packet) : Except Stall State :=
  let x := engineStation (identEngine c.ident)
  if !s.routable x.die node then .error (.noRoute addr)
  else if !s.canSend x p then .error .absent
  else .ok (({ s with uid := s.uid + 1 } : State).sendFrom x p)

/-- R291, 18 R408: bytes of a copy leave for an address of another node, which has to acknowledge them. -/
def State.sendBytes (s : State) (id : Nat) (c : Copy) (node addr op : Nat) (b : List Byte) : Except Stall State := do
  let t ← s.copySend c node addr (s.copyPacket c node .log 2 addr b.length op b)
  let r : Remote :=
    { op := 0, lane := 0, g := c.g, w := c.w, store := false, copy := some id, addr := addr, data := b, at_ := s.now, inside := none }
  .ok { t with remotes := t.remotes ++ [(s.uid, r)] }

/-- R291: the bytes of a cell of a CPYX leave for its node. -/
def State.sendCell (s : State) (id : Nat) (c : Copy) (off n v : Nat) : Except Stall State :=
  s.sendBytes id c (bits c.p3 55 48) (c.p1.toNat % 2 ^ 60 + off) opCpyx (leBytes n v)

/-- The bytes of a cell are written at the places of its pieces: in this module, or by packets to the node that a PINNED page names. -/
def State.landPieces (s : State) (id : Nat) (c : Copy) : List (Nat × Nat) → List Byte → Except Stall State
  | [], _ => .ok s
  | (pa, k) :: r, b => do
    let t ← if s.isLocal pa then .ok (s.engPutBytes pa (b.take k)) else s.sendBytes id c (pa / 2 ^ 48) (localPart pa) opPlain (b.take k)
    t.landPieces id c r (b.drop k)

/-- Writes bytes at an offset from the destination; a cell that is a low nibble leaves the high one. -/
def State.endWr (s : State) (id : Nat) (c : Copy) (off n v : Nat) (half : Bool) : Except Stall State :=
  let e := c.dst
  match c.kind with
  | .cpyf k slab => .ok (s.modGroup c.g (fun g =>
      { g with fifos := g.fifos.set k (g.fifos[k].map (fun q =>
          { q with slabs := q.slabs.map (fun b => if b.id = slab then { b with bytes := b.bytes ++ leBytes n v } else b) })) }))
  | _ =>
    if e.spad then .ok (s.modGroup c.g (fun g =>
      { (g.winHeal 0 .spad (e.addr + off) n) with
        spad := Memory.wr g.spad (e.addr + off) n (if half then Memory.rd g.spad (e.addr + off) 1 / 16 * 16 + v % 16 else v) }))
    else if c.away s then s.sendCell id c off n v
    else if s.refuses c then .error (.fail cRFAULT (e.addr % 2 ^ 56 + off))
    else do
      let ps ← s.pieces c.tctx c.user true e.addr (n + 1) off n
      let _ ← s.copyReach c (e.addr % 2 ^ 56 + off) ps
      if half && ps.any (fun (pa, k) => s.engBad pa k) then .error (.fail cUNCORR (e.addr % 2 ^ 56 + off))
      else
        let bytes := leBytes n (if half then (match ps with
          | (pa, _) :: _ => s.engRd pa 1 / 16 * 16 + v % 16
          | [] => v) else v)
        s.landPieces id c ps bytes

/-! ## The value of a cell (12 R287 to R290, 11 R269) -/

/-- Element (r, k) of an array of elements of w bits whose rows lie SPITCH apart (R288). -/
def State.srcElem (s : State) (c : Copy) (w pitch r k : Nat) : Reads Nat := do
  let bit := w * k
  let x ← s.endRd c (endOf c.p0.toNat) (r * pitch + bit / 8) ((bit % 8 + w + 7) / 8)
  pure (x / 2 ^ (bit % 8) % 2 ^ w)

/-- Elements that make a cell of a row: one, or two of 4 bits. -/
def cellElems (w k cols : Nat) (f : Nat → Reads Nat) : Reads Nat :=
  if w = 4 then do
    let a ← f (2 * k)
    let b ← if 2 * k + 1 < cols then f (2 * k + 1) else pure 0
    pure (a + 16 * b)
  else f k

/-- R288: a cell of a CPYT. -/
def State.cpytCell (s : State) (c : Copy) (u : Nat) : Reads Nat :=
  let rows := bits c.p2 63 52
  let cols := bits c.p2 51 40
  let w := tyWidth (bits c.p3 47 43)
  let row := u / max 1 c.lay.per
  cellElems w (u % max 1 c.lay.per) (rows + bits c.p3 23 12)
    (fun r => if row < cols ∧ r < rows then s.srcElem c w (bits c.p2 39 20) r row else pure 0)

/-- The rounding, saturation and flushing of a copy's MODE, to a type. -/
def Copy.encode (c : Copy) (t : Nat) (fromInt : Bool) (v : FV) : Nat :=
  encodeVal t (mRnd c.mode) (mFtz c.mode) (mSat c.mode) c.extra.toNat fromInt v

/-- R289: a cell of a CPYQ. -/
def State.cpyqCell (s : State) (c : Copy) (u : Nat) : Reads Nat :=
  let st := bits c.p3 47 43
  let dt := mEtype c.mode
  let cols := bits c.p2 51 40
  let sp := bits c.p2 39 20
  let kdir := c.p3.getLsbD 42
  let row := u / max 1 c.lay.per
  let k := u % max 1 c.lay.per
  if tyBfp dt then do
    -- block (b, j) = (row, k)
    let xs ← (List.range 32).mapM (fun i => s.srcElem c (tyWidth st) sp (if kdir then 32 * row + i else k) (if kdir then k else 32 * row + i))
    let (e, ms) := quantise (tyWidth dt) (mRnd c.mode) (xs.map (decodeVal st (mFtz c.mode) c.extra.toNat))
    pure (e + 2 ^ 32 * blockBits (tyWidth dt) ms)
  else if tyBfp st then
    let m := tyWidth st
    cellElems (tyWidth dt) k cols (fun q => do
      let b := if kdir then row / 32 else q / 32
      let j := if kdir then q else row
      let x ← s.endRd c (endOf c.p0.toNat) (b * sp + j * (4 * m + 4)) (4 * m + 4)
      pure (c.encode dt false (blockElem m (x % 256) (x / 2 ^ 32) (if kdir then row % 32 else q % 32))))
  else
    cellElems (tyWidth dt) k cols (fun q => do
      let x ← s.srcElem c (tyWidth st) sp row q
      pure (c.encode dt (tyInt st) (decodeVal st (mFtz c.mode) c.extra.toNat x)))

/-- R259: bytes of a slab's item: a block, or a row of limbs. -/
def slabItem (t : Nat) : Nat := if t = 6 then 256 else 4 * (t - 15) + 4

/-- R259: bytes of a slab. -/
def slabSize (t count : Nat) : Nat := (16 + count * slabItem t + 15) / 16 * 16

/-- R290: sixteen bytes of a slab. -/
def State.cpyfCell (s : State) (c : Copy) (u : Nat) : Reads Nat :=
  let t := bits c.p2 63 56
  let count := bits c.p2 47 32
  let item := slabItem t
  let pitch := if bits c.p2 31 0 = 0 then item else bits c.p2 31 0
  if u = 0 then pure (t + 2 ^ 16 * count)
  else do
    let bs ← (List.range 16).mapM (fun i =>
      let o := 16 * (u - 1) + i
      if o < count * item then s.endRd c (endOf c.p0.toNat) (o / item * pitch + o % item) 1 else pure 0)
    pure (leNat (bs.map (BitVec.ofNat 8)))

/-- 11 R269, 02 R44: an element of the snapshot converted to the target type. -/
def Copy.drained (c : Copy) (e : TileElem) : Nat :=
  let v : FV := if e.nan then .nan else .fin (decide (e.acc.toInt < 0)) e.acc.toInt.natAbs c.snapX
  c.encode (mEtype c.mode) true v

/-- 11 R269: a cell of an ADRAIN. -/
def Copy.drainCell (c : Copy) (u : Nat) : Nat :=
  let cols := if bits c.p1 55 48 = 0 then 128 else bits c.p1 55 48
  let row := u / max 1 c.lay.per
  let at_ := fun (k : Nat) => c.drained (((c.snap.getD [])[row * cols + k]?).getD { acc := 0, nan := false })
  let k := u % max 1 c.lay.per
  if tyWidth (mEtype c.mode) = 4 then at_ (2 * k) + (if 2 * k + 1 < cols then 16 * at_ (2 * k + 1) else 0) else at_ k

/-- The bytes of a cell as a number. -/
def State.cellVal (s : State) (c : Copy) (u : Nat) : Reads Nat :=
  match c.kind with
  | .cpy | .cpyx => let (o, n) := c.lay.place u
    s.endRd c (endOf c.p0.toNat) o n
  | .cpyt => s.cpytCell c u
  | .cpyq => s.cpyqCell c u
  | .cpyf _ _ => s.cpyfCell c u
  | .adrain => pure (c.drainCell u)

/-! ## Acceptance (12 R280 to R286) -/

/-- R280, R282: the die that homes a page of a context. -/
def State.pageDie (s : State) (ctx page : Nat) : Option Nat :=
  match s.walk (s.ctxs[cfin ctx]).ptroot (page * 2 ^ 14) with
  | .leaf _ e =>
    let l := leafOf e
    if !l.ok then none
    else if l.state = stAbsent then some l.die
    else if frameNode l.frame = s.node then some (homeDie (frameLocal l.frame)) else none
  | _ => none

/-- R282: the dies that home pages of an interval. -/
def State.rangeDies (s : State) (ctx lo n : Nat) : List Nat :=
  ((List.range ((lo + n - 1) / 2 ^ 14 - lo / 2 ^ 14 + 1)).filterMap (fun i => s.pageDie ctx (lo / 2 ^ 14 + i))).eraseDups

/-- A range that a copy locks: context, pointer, bytes, write. -/
structure Range where
  /-- context -/
  ctx : Nat
  /-- address of its first byte -/
  lo : Nat
  /-- bytes -/
  n : Nat
  /-- destination -/
  write : Bool
  deriving DecidableEq, Repr

/-- R282: the locks of a range, one for each die. -/
def State.rangeLocks (s : State) (r : Range) : List Lock :=
  (s.rangeDies r.ctx r.lo r.n).map (fun d => { ctx := r.ctx, die := d, lo := r.lo / 128, hi := (r.lo + r.n - 1) / 128, write := r.write })

/-- R283: two locks conflict. -/
def Lock.conflicts (a b : Lock) : Bool :=
  decide (a.ctx = b.ctx) && decide (a.lo ≤ b.hi) && decide (b.lo ≤ a.hi) && (a.write || b.write)

/-- Copies that have not ended. -/
def Copy.live (c : Copy) : Bool := decide (c.st = .running) || decide (c.st = .parked)

/-- Every lock held. -/
def State.allLocks (s : State) : List Lock := (s.copies.map (fun e => e.2.locks)).flatten

/-- R282: the table of each die has room for some locks. -/
def State.lockRoom (s : State) (l : List Lock) : Bool :=
  (List.range 4).all (fun d => let mine := fun (k : Lock) => k.die == d
    (l.filter mine).isEmpty || decide ((s.allLocks.filter mine).length + (l.filter mine).length ≤ 1024))

/-- R280: the lowest-numbered free engine of a quadrant. -/
def State.freeEngine (s : State) (q : Nat) : Option Nat :=
  ((List.range 16).map (fun e => 16 * q + e)).find? (fun k => !s.copies.any (fun e => e.2.live && identEngine e.2.ident == k))

/-- R285: the scratchpad lines that some ranges at an offset touch. -/
def linesAt (base : Nat) (l : List (Nat × Nat)) : List Nat :=
  ((l.map (fun (o, n) => if n = 0 then [] else (List.range ((base + o + n - 1) / 128 - (base + o) / 128 + 1)).map (fun i => (base + o) / 128 + i))).flatten).eraseDups

/-- What an instruction hands to a copy engine. -/
structure Job where
  /-- form -/
  kind : CopyKind
  /-- parameter words -/
  p0 : DWord
  /-- second -/
  p1 : DWord
  /-- third -/
  p2 : DWord
  /-- fourth -/
  p3 : DWord
  /-- layout of the destination -/
  lay : Layout
  /-- ranges to lock -/
  ranges : List Range
  /-- the destination is scratchpad -/
  toSpad : Bool
  /-- barrier offset -/
  bar : Option Nat
  /-- extra value of b[XB] -/
  extra : BitVec 16
  /-- tile of an ADRAIN -/
  tile : Nat
  /-- links and port of a CPYX -/
  route : List Nat

/-- R281 step 2: the issuing core's L1 gives up the lines of a range. -/
def State.dropRange (s : State) (core : Nat) (r : Range) : State :=
  if (s.coreAt core).l1.isEmpty then s
  else (List.range ((r.lo + r.n - 1) / 2 ^ 14 - r.lo / 2 ^ 14 + 1)).foldl (fun t i =>
    let page := r.lo / 2 ^ 14 + i
    match t.walk (t.ctxs[cfin r.ctx]).ptroot (page * 2 ^ 14) with
    | .leaf _ e =>
      let a := max r.lo (page * 2 ^ 14)
      t.modCore core (fun k => k.l1Drop ((leafOf e).frame * 2 ^ 14 + a % 2 ^ 14) (min (r.lo + r.n) ((page + 1) * 2 ^ 14) - a))
    | _ => t) s

/-- R280: a credit is free on every link and port of a route; `die` is the engine's. -/
def State.creditRoom (s : State) (die : Nat) (route : List Nat) : Bool :=
  route.all (fun l =>
    let n := (s.copies.filter (fun e => e.2.live && e.2.route.contains l && (decide (6 ≤ l) || decide (identEngine e.2.ident / 64 = die)))).length
    decide (n < if 6 ≤ l then 64 else 32))

/-- R280, R281: the acceptance of a copy: it waits at issue, or it is accepted with a name and an identifier. -/
def View.accept (v : View) (j : Job) (sys : Bool) : Except Stop (State × Nat × DWord) := do
  v.releases sys
  let q := coreQuad v.core
  let locks := (j.ranges.map v.s.rangeLocks).flatten
  let lines := if j.toSpad then linesAt (if j.kind = .adrain then endOf j.p0.toNat else endOf j.p1.toNat).addr (j.lay.from_ 0) else []
  match v.s.freeEngine q with
  | none => .error v.hold
  | some k =>
    if locks.any (fun l => v.s.allLocks.any l.conflicts) then .error v.hold
    else if !v.s.lockRoom locks then .error v.hold
    else if lines.any (fun l => decide (15 ≤ tgetD v.grp.absent l 0)) then .error v.hold
    else if !v.s.creditRoom (coreDie v.core) j.route then .error v.hold
    else
      let seq := tgetD v.s.engines k 0
      let ident := BitVec.ofNat 64 (v.c.val * 2 ^ 58 + k * 2 ^ 50 + seq % 2 ^ 50)
      let c : Copy :=
        { ident := ident, kind := j.kind, ctx := v.c.val, g := v.r.g, w := v.r.w, user := decide (v.y.plvl = 0), p0 := j.p0, p1 := j.p1, p2 := j.p2,
          p3 := j.p3, mode := v.y.mode, extra := j.extra, lay := j.lay, units := 0, landed := 0, size := j.lay.size, st := .running, cause := 0,
          bar := j.bar, barLeft := if j.bar.isSome then j.lay.size else 0, lines := lines, locks := locks, route := j.route, snap := none, snapX := 0,
          tile := j.tile, released := false, waits := none, stop := none }
      let old := fun (e : Nat × Copy) => identEngine e.2.ident == k && decide (64 ≤ (seq + 2 ^ 50 - bits e.2.ident 49 0) % 2 ^ 50)
      let s1 := (v.put { v.y with copyN := v.y.copyN + 1 }).modGroup v.r.g (fun g =>
        let g1 : Group := { g with absent := lines.foldl (fun t l => tput t l (tgetD t l 0 + 1)) g.absent }
        match j.bar with
        | some o => g1.barAdd o j.lay.size
        | none => g1)
      let s2 := (j.ranges.filter (·.write)).foldl (fun t r => t.dropRange v.core r) s1
      .ok ({ s2 with copies := s2.copies.filter (fun e => !old e) ++ [(s2.uid, c)], engines := tput s2.engines k (seq + 1), uid := s2.uid + 1 },
        s2.uid, ident)

/-! ## Landing (12 R285, R286) -/

/-- The copy may move bytes: it has not been told to end, its context works (05 R102), an ADRAIN has its snapshot, and a group that it lands in is
not SAVED. -/
def State.copyRuns (s : State) (c : Copy) : Bool :=
  decide (c.st = .running) && c.stop.isNone && (s.ctxs[cfin c.ctx]).st.works && (decide (c.kind ≠ .adrain) || c.snap.isSome) &&
  !(c.intoGroup && (match s.group c.g with
    | some g => decide (g.st = .saved)
    | none => false))

/-- A copy's record. -/
def State.putCopy (s : State) (id : Nat) (c : Copy) : State := { s with copies := tput s.copies id c }

/-- One cell has landed. The last cell's counted bytes and its lines stay until the copy's end (R284). -/
def State.landed (s : State) (id : Nat) (c : Copy) (n : Nat) : State :=
  let last := decide (c.lay.total ≤ c.units + 1)
  let still := if c.lines.isEmpty then [] else linesAt c.dst.addr (c.lay.from_ (min (c.units + 1) (c.lay.total - 1)))
  let gone := c.lines.filter (fun l => !still.contains l)
  let s1 := if gone.isEmpty ∧ (c.bar.isNone ∨ last) then s else s.modGroup c.g (fun g =>
    let g1 := gone.foldl Group.present g
    match c.bar with
    | some o => if last then g1 else g1.barLand o n
    | none => g1)
  s1.putCopy id
    { c with units := c.units + 1, landed := c.landed + n, lines := c.lines.filter still.contains,
             barLeft := if c.bar.isSome && !last then c.barLeft - n else c.barLeft }

/-- The next cell of a copy lands, or what it meets. -/
def State.landCell (s : State) (id : Nat) (c : Copy) : Except Stall State := do
  let (o, n) := c.lay.place c.units
  let (v, ps) ← (s.cellVal c c.units).run []
  let s1 ← (ps.foldl (fun (t : State) (pa, k) => t.l2Access pa k false) s).endWr id c o n v (c.lay.halfCell c.units)
  .ok (s1.landed id c n)

/-- R292: a copy waits for a page of a context. -/
def State.parkCopy (s : State) (id : Nat) (c : Copy) (ctx page : Nat) : State :=
  (s.putCopy id { c with st := .parked, waits := some (ctx, page) }).addFault ctx page (identQuad c.ident / 4) none

/-- Lands cells of a copy until some number has landed or the copy stops. -/
def State.landCells (s : State) (id : Nat) : Nat → State
  | 0 => s
  | n + 1 =>
    match tget s.copies id with
    | none => s
    | some c =>
      if s.copyRuns c ∧ c.units < c.lay.total then
        match s.landCell id c with
        | .ok t => t.landCells id n
        | .error (.park ctx page) => s.parkCopy id c ctx page
        | .error (.fail _ _) => s
        | .error .absent => s
        | .error (.noRoute _) => s
        | .error (.tables ctx) => s.faultContext (cfin ctx) cUNCORR 1 (quadLoc (identQuad c.ident)) 0 c.ident.toNat 0
      else s

/-- COPY_LAND (R285, R286): up to n further cells of a copy land; a page that is not resident parks it. -/
def execCopyLand (id n : Nat) (s : State) : Host.Outcome State Fault Refusal := .next (s.landCells id n)

/-! ## The end (12 R284, R291, R292) -/

/-- R291: what sending the flag of a CPYX comes to. -/
def State.sendFlag (s : State) (c : Copy) : Except Stall State :=
  if c.kind = .cpyx ∧ c.p3.getLsbD 63 ∧ !c.away s then
    if s.refuses c then .error (.fail cRFAULT 0)
    else do
      let a := (s.ctxs[cfin c.tctx]).cb + 8 * bits c.p3 31 0
      let ps ← s.pieces c.tctx false true a 9 0 8
      let _ ← s.copyReach c a ps
      match ps with
      | (pa, _) :: _ =>
        if s.engBad pa 8 then .error (.fail cUNCORR a) else .ok ((s.engPutBytes pa (leBytes 8 (s.engRd pa 8 + 1))).recheckSignals)
      | [] => .ok s
  else if c.kind = .cpyx ∧ c.p3.getLsbD 63 then s.copySend c (bits c.p3 55 48) 0 (s.copyPacket c (bits c.p3 55 48) .spark 3 (bits c.p3 31 0) 8 opFlag [])
  else .ok s

/-- Every cell has landed, and another node's answers are in. -/
def State.copyOver (s : State) (id : Nat) (c : Copy) : Bool := s.copyRuns c && decide (c.lay.total ≤ c.units) && !s.copySends id

/-- COPY_DONE (R284, R291, 25 R460): the copy's last byte is acknowledged, its locks are released and its flag is sent. -/
def execCopyDone (id : Nat) (s : State) : Host.Outcome State Fault Refusal :=
  .next (match tget s.copies id with
    | none => s
    | some c =>
      if s.copyOver id c then
        match s.sendFlag c with
        | .ok t => t.endCopy id .done 0 0
        | .error (.park ctx page) => s.parkCopy id { c with locks := [] } ctx page
        | .error (.fail _ _) => s
        | .error .absent => s
        | .error (.noRoute _) => s
        | .error (.tables ctx) => s.faultContext (cfin ctx) cUNCORR 1 (quadLoc (identQuad c.ident)) 0 c.ident.toNat 0
      else s)

/-- R292: the scratchpad bytes that a FAILED copy has not landed are unspecified (log entry 41). -/
def State.loseCells (s : State) (c : Copy) : State :=
  if c.intoGroup && decide (c.dst.spad) then
    s.modGroup c.g (fun g => { g with spad := (c.lay.from_ c.units).foldl (fun m (o, n) =>
      (List.range n).foldl (fun m i => Memory.put m (c.dst.addr + o + i) (Config.freeByte s.tick (c.dst.addr + o + i))) m) g.spad })
  else s

/-- COPY_FAIL (R292): the copy's next cell or its flag meets a fatal cause, and the copy ends FAILED. -/
def execCopyFail (id : Nat) (s : State) : Host.Outcome State Fault Refusal :=
  .next (match tget s.copies id with
    | none => s
    | some c =>
      let met : Except Stall State :=
        if !s.copyRuns c then .ok s
        else if c.units < c.lay.total then s.landCell id c
        else if s.copyOver id c then s.sendFlag c
        else .ok s
      match met with
      | .error (.fail k a) => ((s.loseCells c).endCopy id .failed k a).flush (cfin c.ctx)
      | .error (.noRoute a) => ((s.lostRoute.loseCells c).endCopy id .failed cRFAULT a).flush (cfin c.ctx)
      | _ => s)

end Sys2Proof.Machine
end

