-- ==== Sys2Proof/Machine/Copy.lean ====
section
/-! DEFINITION. COPY words of major 0x7: the five forms that hand a copy to an engine, CSTAT and CCAN (12 R276 to R281, R287 to R291,
R295 to R297). -/

namespace Sys2Proof.Machine

/-! ## Parameters (12 R277 to R279) -/

/-- The four parameter words of a copy, with their reserved bits checked. -/
structure Params where
  /-- the view with its sources read -/
  v : View
  /-- SRC -/
  p0 : DWord
  /-- DST -/
  p1 : DWord
  /-- GEOM -/
  p2 : DWord
  /-- CTL -/
  p3 : DWord
  /-- where the identifier goes -/
  dst : Loc

/-- R277: reads s_A to s_A+3 together and checks the bits of GEOM and CTL that a form reserves. -/
def View.copyParams (v : View) (d a : Opnd) (wa : Bool) (geom ctl : Nat) : Except Stop Params := do
  let l ← v.resolveDst kSZ false d
  match a with
  | .s i =>
    if 28 < i.val ∨ (List.range 4).any (fun k => (v.y.mapped (Fin.ofNat 32 (i.val + k))).isSome) then .error (v.trap cILLOPND)
    else do
      let v ← v.sources ((List.range 4).map (fun k => { loc := .sca (Fin.ofNat 32 (i.val + k)), wait := wa, code := 80 + i.val + k : Rd }))
      let p := fun (k : Nat) => v.y.s[Fin.ofNat 32 (i.val + k)].val
      if !endOk (p 0).toNat ∨ !endOk (p 1).toNat ∨ p 2 &&& BitVec.ofNat 64 geom ≠ 0 ∨ p 3 &&& BitVec.ofNat 64 ctl ≠ 0 then
        .error (v.trap cILLOPND)
      else .ok { v := v, p0 := p 0, p1 := p 1, p2 := p 2, p3 := p 3, dst := l }
  | _ => .error (v.trap cILLOPND)

/-- R277: n bytes of a scratchpad end lie in the group region. -/
def View.endFits (v : View) (e : End_) (n : Nat) : Except Stop Unit :=
  if e.spad && decide (0 < n) && decide (v.x.sched.spad < e.addr + n) then .error (v.trap cIDXBOUND) else .ok ()

/-- R279: the barrier of CTL, whose object lies in the group region. -/
def View.copyBar (v : View) (ctl : DWord) : Except Stop (Option Nat) :=
  if ctl.getLsbD 63 then
    (if v.x.sched.spad < bits ctl 62 48 * 16 + 16 then .error (v.trap cIDXBOUND) else .ok (some (bits ctl 62 48 * 16)))
  else .ok none

/-- R282: the range of n bytes of an end, none for scratchpad or no bytes. -/
def endRange (e : End_) (ctx n : Nat) (write : Bool) : List Range :=
  if e.spad ∨ n = 0 then [] else [{ ctx := ctx, lo := e.addr % 2 ^ 56, n := n, write := write }]

/-- R282: some ranges overlap in 128-byte lines, one of them written. -/
def selfOverlap (l : List Range) : Bool :=
  l.any (fun a => l.any (fun b => a.write && !b.write && decide (a.ctx = b.ctx) && decide (a.lo / 128 ≤ (b.lo + b.n - 1) / 128) &&
    decide (b.lo / 128 ≤ (a.lo + a.n - 1) / 128)))

/-- R277, R280, R281: the checks that every form shares, and the acceptance; the identifier goes to d. -/
def Params.accept (p : Params) (j : Job) (srcSpan dstSpan : Nat) (sys stage : Bool) : Except Stop (State × Nat) := do
  let v := p.v
  v.endFits (endOf p.p0.toNat) srcSpan
  (if j.toSpad then v.endFits (endOf p.p1.toNat) dstSpan else .ok ())
  if selfOverlap j.ranges then .error (v.trap cILLOPND)
  else do
    (if stage then v.noStage 0 else .ok ())
    v.destReady p.dst
    let (s1, id, ident) ← v.accept j sys
    .ok (s1.modWarp v.r.g v.r.w (fun y => y.setScalar p.dst ident), id)

/-- The job of CPY, CPYT and CPYQ, whose ends are SRC and DST. -/
def Params.plain (p : Params) (kind : CopyKind) (lay : Layout) (srcSpan : Nat) (bar : Option Nat) (extra : BitVec 16) : Job :=
  let dst := endOf p.p1.toNat
  { kind := kind, p0 := p.p0, p1 := p.p1, p2 := p.p2, p3 := p.p3, lay := lay,
    ranges := endRange (endOf p.p0.toNat) p.v.c srcSpan false ++ endRange dst p.v.c lay.span true,
    toSpad := dst.spad, bar := bar, extra := extra, tile := 0, route := [] }

/-- Hands a CPY, CPYT or CPYQ to an engine. -/
def Params.run (p : Params) (kind : CopyKind) (lay : Layout) (srcSpan : Nat) (extra : BitVec 16) : Except Stop (State × Nat) := do
  let bar ← p.v.copyBar p.p3
  p.accept (p.plain kind lay srcSpan bar extra) srcSpan lay.span false (!(endOf p.p1.toNat).spad)

/-! ## The forms (12 R287 to R291) -/

/-- CPY (R287): a LEN of 0 is DONE at once. -/
def execCpy (d a : Opnd) (wa : Bool) (s : State) : Host.Outcome State Fault Refusal := issue s (fun v => do
  let p ← v.copyParams d a wa (0xFFFFFFFF * 2 ^ 32) 0x0000FFFFFFFFFFFF
  let n := bits p.p2 31 0
  let (s1, id) ← p.run .cpy (.ofBytes 16 n) n 0
  .ok (if n = 0 then s1.endCopy id .done 0 0 else s1))

/-- R288: SRC, DST and the starts of their rows are aligned to n bytes. -/
def Params.aligned (p : Params) (n rows drows : Nat) : Bool :=
  decide ((endOf p.p0.toNat).addr % n = 0) && decide ((endOf p.p1.toNat).addr % n = 0) &&
  (decide (rows ≤ 1) || decide (bits p.p2 39 20 % n = 0)) && (decide (drows ≤ 1) || decide (bits p.p2 19 0 % n = 0))

/-- CPYT (R288). -/
def execCpyt (d a : Opnd) (wa : Bool) (s : State) : Host.Outcome State Fault Refusal := issue s (fun v => do
  let p ← v.copyParams d a wa 0 (2 ^ 36 * 127 + 0xFFF)
  let rows := bits p.p2 63 52
  let cols := bits p.p2 51 40
  let t := bits p.p3 47 43
  if rows = 0 ∨ cols = 0 ∨ 24 ≤ t then .error (p.v.trap cILLOPND)
  else if tyBfp t then .error (p.v.trap cILLTYPE)
  else
    let w := tyWidth t
    let lay := Layout.ofElems w (cols + bits p.p3 35 24) (rows + bits p.p3 23 12) (bits p.p2 19 0)
    if bits p.p2 19 0 < lay.len ∨ (8 ≤ w ∧ !p.aligned (w / 8) rows lay.rows) then .error (p.v.trap cILLOPND)
    else do
      let (s1, _) ← p.run .cpyt lay ((rows - 1) * bits p.p2 39 20 + (cols * w + 7) / 8) 0
      .ok s1)

/-- R289: the destination layout of a CPYQ and the bytes its source spans. -/
def cpyqShape (st dt rows cols sp dp : Nat) (kdir : Bool) : Layout × Nat :=
  let nb := if kdir then rows / 32 else cols / 32
  let nj := if kdir then cols else rows
  let block := fun (t : Nat) => 4 * tyWidth t + 4
  if tyBfp dt then ({ rows := nb, per := nj, cell := block dt, pitch := dp, len := nj * block dt, half := false },
    (rows - 1) * sp + (cols * tyWidth st + 7) / 8)
  else (.ofElems (tyWidth dt) rows cols dp,
    if tyBfp st then (nb - 1) * sp + nj * block st else (rows - 1) * sp + (cols * tyWidth st + 7) / 8)

/-- CPYQ (R289). The spec states no trap for a block whose address or pitch is not a multiple of 4 (02 R36): the bytes move with no check (DESIGN CHOICE,
log entry 58). -/
def execCpyq (d a : Opnd) (wa : Bool) (s : State) : Host.Outcome State Fault Refusal := issue s (fun v => do
  let p ← v.copyParams d a wa 0 (2 ^ 39 - 1)
  let rows := bits p.p2 63 52
  let cols := bits p.p2 51 40
  let t := bits p.p3 47 43
  let kdir := p.p3.getLsbD 42
  let dt := p.v.et
  if rows = 0 ∨ cols = 0 ∨ 24 ≤ t then .error (p.v.trap cILLOPND)
  else if 24 ≤ dt ∨ (tyBfp t && tyBfp dt) then .error (p.v.trap cILLTYPE)
  else if (tyBfp t || tyBfp dt) && decide ((if kdir then rows else cols) % 32 ≠ 0) then .error (p.v.trap cILLOPND)
  else do
    let (lay, span) := cpyqShape t dt rows cols (bits p.p2 39 20) (bits p.p2 19 0) kdir
    let (s1, _) ← p.run .cpyq lay span (p.v.y.b[Fin.ofNat 8 (bits p.p3 41 39)]).extra
    .ok s1)

/-- An empty FIFO. -/
def Fifo.fresh : Fifo := { slabs := [], broken := false, next := 0 }

/-- R280, 11 R258: the FIFO that a CPYF of a group fills, or its trap. -/
def View.fifoFor (v : View) (k : Fin 4) : Except Stop Fifo :=
  match v.s.fifoOwner v.core k with
  | none => .ok .fresh
  | some g =>
    let q := (v.x.fifos[k]).getD .fresh
    if g ≠ v.r.g ∨ q.broken then .error (v.trap cFIFOERR) else .ok q

/-- CPYF (R290). -/
def execCpyf (d a : Opnd) (f : BitVec 7) (wa : Bool) (s : State) : Host.Outcome State Fault Refusal := issue s (fun v => do
  let k ← v.idx4 f
  let p ← v.copyParams d a wa (255 * 2 ^ 48) 0x0000FFFFFFFFFFFF
  let t := bits p.p2 63 56
  let n := bits p.p2 47 32
  if p.p1 ≠ 0 ∨ !((t = 6 ∧ 1 ≤ n ∧ n ≤ 63) ∨ (tyBfp t ∧ 1 ≤ n ∧ n ≤ 128)) then .error (p.v.trap cILLOPND)
  else do
    let q ← p.v.fifoFor k
    let bar ← p.v.copyBar p.p3
    let item := slabItem t
    let size := slabSize t n
    let span := (n - 1) * (if bits p.p2 31 0 = 0 then item else bits p.p2 31 0) + item
    p.v.endFits (endOf p.p0.toNat) span
    if 16384 < (q.slabs.map (·.size)).sum + size then .error p.v.hold
    else do
      let j : Job :=
        { kind := .cpyf k q.next, p0 := p.p0, p1 := p.p1, p2 := p.p2, p3 := p.p3, lay := .ofBytes 16 size,
          ranges := endRange (endOf p.p0.toNat) p.v.c span false, toSpad := false, bar := bar, extra := 0, tile := 0, route := [] }
      let (s1, id) ← p.accept j span 0 false false
      let slab : Slab := { id := q.next, copy := id, size := size, bytes := [], claimed := false, failed := false }
      .ok (s1.modGroup v.r.g (fun g => { g with fifos := g.fifos.set k (some { q with slabs := q.slabs ++ [slab], next := q.next + 1 }) })))

/-- R280: the links and the port of a CPYX's route. -/
def View.copyRoute (v : View) (node : Nat) (ranges : List Range) : List Nat :=
  let die := coreDie v.core
  let homes := ((ranges.map (fun r => v.s.rangeDies r.ctx r.lo r.n)).flatten).eraseDups
  let links := (homes.filter (· != die)).map (linkOf die)
  let out := if node = v.s.node then [] else match v.s.getenPort node with
    | some p => (6 + p) :: (if p / 3 = die then [] else [linkOf die (p / 3)])
    | none => []
  (links ++ out).eraseDups

/-- CPYX (R291). -/
def execCpyx (d a : Opnd) (wa : Bool) (s : State) : Host.Outcome State Fault Refusal := issue s (fun v => do
  let p ← v.copyParams d a wa (0xFFFFFFFF * 2 ^ 32) (127 * 2 ^ 56 + 1023 * 2 ^ 32)
  let n := bits p.p2 31 0
  let node := bits p.p3 55 48
  let dst := endOf p.p1.toNat
  if dst.spad then .error (p.v.trap cILLOPND)
  else do
    let inside := decide (node = p.v.s.node)
    let ranges := endRange (endOf p.p0.toNat) p.v.c n false ++ (if inside then endRange dst (bits p.p3 47 42) n true else [])
    let j : Job :=
      { kind := .cpyx, p0 := p.p0, p1 := p.p1, p2 := p.p2, p3 := p.p3, lay := .ofBytes 16 n, ranges := ranges, toSpad := false, bar := none,
        extra := 0, tile := 0, route := p.v.copyRoute node ranges }
    let (s1, _) ← p.accept j n 0 (!inside) true
    .ok s1)

/-! ## CSTAT and CCAN (12 R295 to R297) -/

/-- STATE of a copy (R296). -/
def CopyState.code : CopyState → Nat
  | .running => 1
  | .parked => 2
  | .done => 3
  | .failed => 4
  | .cancelled => 5

/-- R295: the copy of an identifier of a context. -/
def State.copyNamed (s : State) (ctx : Nat) (ident : DWord) : Option (Nat × Copy) :=
  if bits ident 63 58 = ctx then s.copies.find? (fun e => decide (e.2.ident = ident)) else none

/-- CSTAT (R296). -/
def execCstat (d a : Opnd) (wa : Bool) (s : State) : Host.Outcome State Fault Refusal := issue s (fun v => do
  let l ← v.resolveDst kSZ false d
  let ra ← v.rd kS false a wa
  let v ← v.sources [ra]
  v.destReady l
  let x := match v.s.copyNamed v.c (v.y.scalarVal ra.loc) with
    | some (_, c) => c.st.code * 2 ^ 61 + c.cause % 256 * 2 ^ 48 + c.landed % 2 ^ 40
    | none => 0
  .ok (v.put (v.y.setScalar l (BitVec.ofNat 64 x))))

/-- CCAN (R297): a copy that has sent bytes to another node is CANCELLED when those are answered, and until then the fragment is blocked. -/
def execCcan (a : Opnd) (wa : Bool) (s : State) : Host.Outcome State Fault Refusal := issue s (fun v =>
  match v.f.arrived with
  | some (.answer id) =>
    if ((tget v.s.copies id).map (·.live)).getD false then .error v.hold
    else .ok (v.put { (v.withFrag (fun f => { f with arrived := none })) with flags := setZNCV v.y.flags false false false false })
  | _ => do
    let ra ← v.rd kS false a wa
    let v ← v.sources [ra]
    match (v.s.copyNamed v.c (v.y.scalarVal ra.loc)).filter (fun e => e.2.live) with
    | none => .ok (v.put { v.y with flags := setZNCV v.y.flags true false false false })
    | some (id, _) =>
      let s1 := v.base.endCopy id .cancelled 0 0
      if ((tget s1.copies id).map (·.live)).getD false then
        .error (.wait (s1.modWarp v.r.g v.r.w (fun y =>
          y.setSlot v.r.slot ((y.slot v.r.slot).map (fun f => { f with arrived := some (.answer id) })))) false)
      else .ok ((v.s.endCopy id .cancelled 0 0).modWarp v.r.g v.r.w (fun y => { y with flags := setZNCV y.flags false false false false })))

end Sys2Proof.Machine
end

