-- ==== Sys2Proof/Machine/Launch.lean ====
section
/-! DEFINITION. The launch unit: queues and their commands, the loading and the check of a container, admission, ageing, and the phases of a
launch (06 R112 to R120, 07 R131 to R142, 03 R70 to R74, 16 R375, R376). -/

namespace Sys2Proof.Machine

/-! ## Commands of a queue (06 R113, R114, R120) -/

/-- Changes a queue, when the windows of BAR 0 are live. -/
def State.onQueue (s : State) (q : Fin 256) (f : Queue → Queue) : State := if s.open_ then { s with queues := s.queues.set q (f s.queues[q]) } else s

/-- DOORBELL (R114). -/
def execDoorbell (q : Fin 256) (t : BitVec 64) (s : State) : Host.Outcome State Fault Refusal :=
  .next (s.onQueue q (fun x =>
    if x.st = .unbound then { x with err := 3 }
    else if !(s.ctxs[cfin x.ctx]).st.accepts then { x with err := 8 }
    else if x.st.takes ∧ x.tail ≤ t ∧ (t - x.head).toNat ≤ x.size then x.ring t
    else { x with err := 3 }))

/-- BIND (R113): a write of QCTL with the owning context. -/
def execBind (q : Fin 256) (c : Fin 64) (s : State) : Host.Outcome State Fault Refusal :=
  .next (s.onQueue q (fun x =>
    if x.st ≠ .unbound then { x with err := 1 }
    else if !powerIn x.size 16 65536 ∨ x.base.toNat % (64 * x.size) ≠ 0 then { x with ctx := c.val, err := 2 }
    else if !(s.ctxs[c]).st.runs then { x with ctx := c.val, err := 8 }
    else { x with ctx := c.val, st := .idle, head := 0, tail := 0, loaded := none, aged := 0 }))

/-- UNBIND (R120). -/
def execUnbind (q : Fin 256) (s : State) : Host.Outcome State Fault Refusal :=
  .next (s.onQueue q (fun x => if x.st = .unbound then { x with err := 1 } else { x with st := .unbound, loaded := none, aged := 0 }))

/-- PAUSE (R120); a LOADED kernel is discarded (07 R133). -/
def execPause (q : Fin 256) (s : State) : Host.Outcome State Fault Refusal :=
  .next (s.onQueue q (fun x =>
    if x.st = .idle ∨ x.st = .active ∨ x.st = .blocked then { x with st := .paused, loaded := none, aged := 0 } else { x with err := 1 }))

/-- UNPAUSE (R120). -/
def execUnpause (q : Fin 256) (s : State) : Host.Outcome State Fault Refusal :=
  .next (s.onQueue q (fun x =>
    if x.st = .paused then { x with st := if x.head = x.tail then .idle else .active } else { x with err := 1 }))

/-- RESET (R120). -/
def execReset (q : Fin 256) (s : State) : Host.Outcome State Fault Refusal :=
  .next (s.onQueue q (fun x =>
    if x.st ≠ .error then { x with err := 1 }
    else if (s.ctxs[cfin x.ctx]).st.runs then { x with st := .idle, head := x.tail } else { x with err := 8 }))

/-- 06 R120: the state takes a command of QCTL. -/
def QState.allows (st : QState) (cmd : Nat) : Bool := match cmd, st with
  | 0, _ => true
  | 1, .unbound => true
  | 2, .unbound => false
  | 2, _ => true
  | 3, .idle => true
  | 3, .active => true
  | 3, .blocked => true
  | 4, .paused => true
  | 5, .error => true
  | _, _ => false

/-- QCTL_BADCMD (R113): code 6 or 7, or a command that the state refuses. -/
def execQctlBadcmd (q : Fin 256) (cmd : BitVec 3) (s : State) : Host.Outcome State Fault Refusal :=
  .next (s.onQueue q (fun x => if x.st.allows cmd.toNat then x else { x with err := 1 }))

/-! ## The container (03 R70 to R74) -/

/-- What loading meets when it does not succeed (07 R131). -/
inductive LoadStop where
  /-- the kernel is refused -/
  | bad
  /-- a page migrates first -/
  | park (page : Nat)
  /-- uncorrectable data in the page tables -/
  | tables
  deriving DecidableEq, Repr

/-- A read of the loading. -/
def Fetch.load {α : Type} (f : Fetch α) : Except LoadStop α := match f with
  | .got v => .ok v
  | .bad _ => .error .bad
  | .park p => .error (.park p)
  | .tables => .error .tables

/-- A check of the loading. -/
def need (b : Bool) : Except LoadStop Unit := if b then .ok () else .error .bad

/-- The field of n bytes at an offset. -/
def fieldAt (b : List Byte) (o n : Nat) : Nat := leNat ((b.drop o).take n)

/-- Entries of k bytes each. -/
def entriesOf (k n : Nat) (b : List Byte) : List (List Byte) := (List.range n).map (fun i => (b.drop (k * i)).take k)

/-- 03 R74: the sections, as offset and bytes: each starts on a 128-byte boundary behind the header, and no two overlap. The offset of a section whose
count is 0 is not checked: the spec does not say whether it is (DESIGN CHOICE, log entry 58). -/
def sectionsOk (l : List (Nat × Nat)) : Bool :=
  let l := l.filter (fun e => e.2 != 0)
  l.all (fun e => decide (e.1 % 128 = 0) && decide (320 ≤ e.1)) &&
    l.zipIdx.all (fun (a, i) => l.zipIdx.all (fun (b, j) => decide (i = j) || decide (a.1 + a.2 ≤ b.1) || decide (b.1 + b.2 ≤ a.1)))

/-- 03 R73, R74: the window of an entry at a byte offset of the code, none when it lies outside or lacks a valid header word. -/
def State.entryWin (s : State) (c : Fin 64) (code size entry : Nat) : Except LoadStop (Option Nat) :=
  if entry % 4 ≠ 0 ∨ entry < 4 ∨ size < entry + 4 then .ok none
  else do
    let w ← (s.fetchMem c (code + entry - 4) 4).load
    let win := w / 2 ^ 21 % 128
    .ok (if w / 2 ^ 28 = 15 ∧ w % 2 ^ 21 = 0 ∧ 1 ≤ win ∧ win ≤ 80 then some win else none)

/-- 03 R72: a schedule entry; its WIN is filled in from the header word. -/
def scheduleOf (b : List Byte) : Schedule :=
  { limit := fieldAt b 0 8, entry := fieldAt b 8 4, groups := fieldAt b 12 4, gdiv := fieldAt b 16 4, warps := fieldAt b 20 1,
    numarea := fieldAt b 22 2, spad := fieldAt b 24 4, exch := fieldAt b 28 2, win := 0 }

/-- 03 R72: the ranges of a schedule entry. -/
def scheduleOk (b : List Byte) : Bool :=
  let x := scheduleOf b
  decide (1 ≤ x.groups) && decide (x.groups ≤ 2 ^ 24) && decide (1 ≤ x.warps) && decide (x.warps ≤ 16) && decide (fieldAt b 21 1 = 0) &&
    decide (x.spad % 128 = 0) && decide (x.exch % 128 = 0) && decide (fieldAt b 30 2 = 0) && decide (x.footprint ≤ 393216)

/-- 03 R72: LIMIT rises strictly. -/
def limitsRise : List Schedule → Bool
  | a :: b :: r => decide (a.limit < b.limit) && limitsRise (b :: r)
  | _ => true

/-- 03 R71: the pools lie in the code, start at even words and do not overlap. -/
def poolsOk (words : Nat) (l : List (Nat × Nat)) : Bool :=
  l.all (fun p => decide (p.1 % 2 = 0) && decide (1 ≤ p.2) && decide (p.1 + p.2 ≤ words)) &&
    l.zipIdx.all (fun (a, i) => l.zipIdx.all (fun (b, j) => decide (i = j) || decide (a.1 + a.2 ≤ b.1) || decide (b.1 + b.2 ≤ a.1)))

/-- 03 R71, 07 R131: a patch entry. -/
def patchOk (pools : List (Nat × Nat)) (params : Nat) (p : Patch) (last : Nat) : Bool :=
  decide (last = 0) && decide (1 ≤ p.count) && decide (p.count ≤ 2) && (decide (p.count = 1) || decide (p.code % 2 = 0)) &&
    pools.any (fun q => decide (q.1 ≤ p.code) && decide (p.code + p.count ≤ q.1 + q.2)) && decide (p.param + p.count ≤ params / 4)

/-- 04 R93: no two patches name one code word. -/
def patchesApart (l : List Patch) : Bool :=
  l.zipIdx.all (fun (a, i) => l.zipIdx.all (fun (b, j) => decide (i = j) || decide (a.code + a.count ≤ b.code) || decide (b.code + b.count ≤ a.code)))

/-- 03 R71: a stage-set entry's form: its stages as entry offset and cost hint. -/
def stagesetOf (b : List Byte) : Option (List (Nat × Nat)) :=
  let n := fieldAt b 0 1
  let es := entriesOf 8 8 (b.drop 8)
  if 1 ≤ n ∧ n ≤ 8 ∧ fieldAt b 1 7 = 0 ∧ (es.take n).all (fun e => fieldAt e 6 2 == 0) ∧ (es.drop n).all (fun e => leNat e == 0) then
    some ((es.take n).map (fun e => (fieldAt e 0 4, fieldAt e 4 2)))
  else none

/-- 07 R136: the schedule and the group count that a size word selects. -/
def selectIn (l : List Schedule) (w : Nat) : Option (Schedule × Nat) :=
  (l.find? (fun x => decide (w ≤ x.limit))).map (fun x =>
    (x, if x.gdiv = 0 then x.groups else min x.groups (max 1 ((w + x.gdiv - 1) / x.gdiv))))

/-- 03 R71: the tables of a container behind its header. -/
structure Tables where
  /-- pools -/
  pools : List (Nat × Nat)
  /-- patches -/
  patches : List Patch
  /-- expression programs -/
  exprs : List DWord
  /-- permutations -/
  perms : List (List Nat)
  /-- stage sets -/
  sets : List (List (Nat × Nat))

/-- 03 R71, R74: reads and checks the tables that a header names. -/
def State.loadTables (s : State) (c : Fin 64) (va : Nat) (h : List Byte) : Except LoadStop Tables := do
  let codeSize := fieldAt h 0xC 4
  let np := fieldAt h 0x14 2
  let nt := fieldAt h 0x1C 2
  let ne := fieldAt h 0x1F 1
  let nm := fieldAt h 0x28 1
  let ns := fieldAt h 0x29 1
  need (sectionsOk [(fieldAt h 8 4, codeSize), (fieldAt h 0x10 4, 8 * np), (fieldAt h 0x18 4, 8 * nt), (fieldAt h 0x20 4, 8 * ne),
    (fieldAt h 0x24 4, 64 * nm), (fieldAt h 0x2C 4, 72 * ns)])
  let bp ← (s.fetchRange c (va + fieldAt h 0x10 4) (8 * np)).load
  let pools := (entriesOf 8 np bp).map (fun b => (fieldAt b 0 4, fieldAt b 4 4))
  need (poolsOk (codeSize / 4) pools)
  let bt ← (s.fetchRange c (va + fieldAt h 0x18 4) (8 * nt)).load
  let ps := (entriesOf 8 nt bt).map (fun b => (({ code := fieldAt b 0 4, param := fieldAt b 4 2, count := fieldAt b 6 1 } : Patch), fieldAt b 7 1))
  need (ps.all (fun e => patchOk pools (fieldAt h 0x16 2) e.1 e.2) && patchesApart (ps.map (·.1)))
  let be ← (s.fetchRange c (va + fieldAt h 0x20 4) (8 * ne)).load
  let exprs := (entriesOf 8 ne be).map (fun b => BitVec.ofNat 64 (leNat b))
  need (exprs.all exprOk)
  let bm ← (s.fetchRange c (va + fieldAt h 0x24 4) (64 * nm)).load
  let perms := (entriesOf 64 nm bm).map (fun b => b.map (·.toNat))
  need (perms.all (fun p => p.all (fun x => decide (x < 64))))
  let bs ← (s.fetchRange c (va + fieldAt h 0x2C 4) (72 * ns)).load
  let sets := (entriesOf 72 ns bs).map stagesetOf
  need (sets.all Option.isSome)
  let sets := sets.filterMap id
  let wins ← sets.flatten.mapM (fun e => s.entryWin c (va + fieldAt h 8 4) codeSize e.1)
  need (wins.all Option.isSome)
  .ok { pools := pools, patches := ps.map (·.1), exprs := exprs, perms := perms, sets := sets }

/-- 03 R72, R74, 08 R147: reads and checks the schedules of a header. -/
def State.loadSchedules (s : State) (c : Fin 64) (va : Nat) (h : List Byte) : Except LoadStop (List Schedule) := do
  let n := fieldAt h 0x1E 1
  let es := entriesOf 32 8 (h.drop 0x40)
  need ((es.take n).all scheduleOk && (es.drop n).all (fun b => leNat b == 0))
  let l := (es.take n).map scheduleOf
  need (limitsRise l && l.all (fun x => decide (x.img ≤ (s.ctxs[c]).savesize)))
  let wins ← l.mapM (fun x => s.entryWin c (va + fieldAt h 8 4) (fieldAt h 0xC 4) x.entry)
  need (wins.all Option.isSome)
  .ok (l.zipWith (fun x w => { x with win := w.getD 0 }) wins)

/-- 03 R70, R74: the fixed fields and the counts of a header. -/
def headerOk (h : List Byte) : Bool :=
  decide (fieldAt h 0 4 = 0x4E4B4450) && decide (fieldAt h 4 2 = 1) && decide (fieldAt h 6 2 = 0) && decide (fieldAt h 0x2A 2 = 0) &&
    decide (fieldAt h 0x30 16 = 0) && decide (fieldAt h 0xC 4 % 4 = 0) && decide (fieldAt h 0xC 4 ≤ 2 ^ 24) && decide (fieldAt h 0x14 2 ≤ 4096) &&
    decide (fieldAt h 0x16 2 % 8 = 0) && decide (fieldAt h 0x16 2 ≤ 4096) && decide (fieldAt h 0x1C 2 ≤ 1024) && decide (1 ≤ fieldAt h 0x1E 1) &&
    decide (fieldAt h 0x1E 1 ≤ 8) && decide (fieldAt h 0x1F 1 ≤ 64) && decide (fieldAt h 0x28 1 ≤ 64) && decide (fieldAt h 0x29 1 ≤ 16)

/-- 03 R68: the words of pools of the code at an address, so that no later store changes them; a pool that cannot be read is read by LDL. -/
def State.loadPools (s : State) (c : Fin 64) (code : Nat) : List (Nat × Nat) → Except LoadStop (Tab (List Word))
  | [] => .ok []
  | (first, n) :: r => do
    let l ← s.loadPools c code r
    match s.fetchRange c (code + 4 * first) (4 * n) with
    | .got b => .ok ((first, (entriesOf 4 n b).map (fun w => BitVec.ofNat 32 (leNat w))) :: l)
    | .bad _ => .ok l
    | .park p => .error (.park p)
    | .tables => .error .tables

/-- 07 R131: loads a packet's container, parameters and phase-0 size word. -/
def State.loadKernel (s : State) (c : Fin 64) (p : Packet0) : Except LoadStop Kernel := do
  let h ← (s.fetchRange c p.kernel 320).load
  need (headerOk h)
  let t ← s.loadTables c p.kernel h
  let sch ← s.loadSchedules c p.kernel h
  let n := fieldAt h 0x16 2
  let b ← (s.fetchRange c p.params n).load
  let z ← (s.fetchMem c (p.params + n) 8).load
  need (selectIn sch z).isSome
  let lits ← s.loadPools c (p.kernel + fieldAt h 8 4) t.pools
  .ok { ctx := c.val, addr := p.kernel, codeOff := fieldAt h 8 4, codeSize := fieldAt h 0xC 4, pools := t.pools, lits := lits, patches := t.patches,
        scheds := sch, exprs := t.exprs, perms := t.perms, stagesets := t.sets, params := (entriesOf 4 (n / 4) b).map (fun w => BitVec.ofNat 32 (leNat w)),
        sizesVa := p.params + n, phases := p.phases, done := p.done, prio := p.prio, size0 := z }

/-- 05 R101, 07 R133: launches of the context are admitted. -/
def State.admits (s : State) (c : Fin 64) : Bool :=
  (decide (s.ctxs[c].st = .ready) || decide (s.ctxs[c].st = .running)) && !s.ctxs[c].suspending

/-- 05 R101: a fault of the launch unit on a context's page tables. R104 gives the launch unit no SOURCE: the entry has SOURCE 7 and UNIT 0 (DESIGN
CHOICE, log entry 58). -/
def State.launchTables (s : State) (c : Fin 64) : State := s.faultContext c cUNCORR 7 0 0 0 0

/-- KERNEL_LOAD (R131): the head of an ACTIVE queue is read; with its waits met its container is loaded. -/
def execKernelLoad (q : Fin 256) (s : State) : Host.Outcome State Fault Refusal :=
  .next (
    let x := s.queues[q]
    let c := cfin x.ctx
    let put := fun (y : Queue) => ({ s with queues := s.queues.set q y } : State)
    if x.st ≠ .active ∨ x.loaded.isSome ∨ x.head = x.tail ∨ !s.admits c then s
    else match s.headOf x with
      | (_, .error e) => put (x.fail e)
      | (_, .park p) => s.addFault c p 0 none
      | (_, .tables) => s.launchTables c
      | (_, .unmet) => put { x with st := .blocked }
      | (none, .met) => put (x.fail 4)
      | (some p, .met) => match s.loadKernel c p with
        | .ok k => put { x with loaded := some k, readySince := s.now }
        | .error .bad => put (x.fail 7)
        | .error (.park pg) => s.addFault c pg 0 none
        | .error .tables => s.launchTables c)

/-! ## Admission and ageing (06 R118, R119) -/

/-- A WAITING group of a launch's phase (07 R137). -/
def waitingGroup (l : Nat) (ctx phase num prio now : Nat) (x : Schedule) : Group :=
  { launch := l, phase := phase, num := num, ctx := ctx, sched := x, win := x.win, st := .waiting, warps := [], spad := [], numa := [], bank0 := [],
    bank1 := [], live1 := false, gswaps := 0, cswaps := 0, absent := [], tiles := Vector.replicate 8 .closed, tops := [],
    fifos := Vector.replicate 4 none, core := none, lastQuad := none, resSince := 0, imaged := false, imgAt := [], image := [], prio := prio, aopens := [],
    waitSince := now, badWords := [] }

/-- 07 R141: the groups of a phase enter the placement order. -/
def State.addGroups (s : State) (l ctx phase prio count : Nat) (x : Schedule) : State :=
  { s with groups := s.groups ++ (List.range count).map (fun i => (s.uid + i, waitingGroup l ctx phase i prio s.now x)), uid := s.uid + count }

/-- 06 R119: the effective priority of a head. -/
def Queue.priority (q : Queue) (k : Kernel) : Nat := min 4 (k.prio + q.aged)

/-- 06 R118: some core has room for one group of the schedule that phase 0 selects. -/
def State.roomFor (s : State) (k : Kernel) : Bool := match selectIn k.scheds k.size0 with
  | some (x, _) => s.liveCores.any (fun c => s.fits c (waitingGroup 0 k.ctx 0 0 0 0 x) none)
  | none => false

/-- 06 R116, R120: an ACTIVE queue whose loaded head has a wait that is no longer met, or a bad signal. -/
def State.rejudgeHead (s : State) (q : Queue) : Queue :=
  if q.st = .active ∧ q.loaded.isSome then
    match (s.headOf q).2 with
    | .unmet => { q with st := .blocked, loaded := none }
    | .error e => q.fail e
    | _ => q
  else q

/-- 06 R118: the queues whose heads can be admitted, with their kernels. -/
def State.admissible (s : State) : List (Fin 256 × Kernel) :=
  (List.finRange 256).filterMap (fun i =>
    let q := s.queues[i]
    match q.loaded with
    | some k =>
      if q.st = .active ∧ s.admits (cfin q.ctx) ∧ (s.headOf q).2 = .met ∧ s.roomFor k then some (i, k) else none
    | none => none)

/-- 06 R119: the head of highest effective priority, of equals the first at or above the pointer. -/
def State.bestHead (s : State) : List (Fin 256 × Kernel) → Option (Fin 256 × Kernel)
  | [] => none
  | e :: r => match s.bestHead r with
    | none => some e
    | some f =>
      let p := fun (x : Fin 256 × Kernel) => s.queues[x.1].priority x.2
      let d := fun (x : Fin 256 × Kernel) => (x.1.val + 256 - s.qptr % 256) % 256
      if p e < p f ∨ (p e = p f ∧ d f < d e) then some f else some e

/-- 06 R118, 07 R141: a head is admitted. -/
def State.launchHead (s : State) (i : Fin 256) (k : Kernel) : State :=
  let q := s.queues[i]
  let head := q.head + 1
  let l := s.uid
  match selectIn k.scheds k.size0 with
  | none => s
  | some (x, n) =>
    let prio := q.priority k
    let lau : Launch := { k := k, st := .launched, phase := 0, size := k.size0, count := n, killed := false, prio := prio, order := s.uid }
    ({ s with queues := s.queues.set i { q with head := head, loaded := none, aged := 0, st := if head = q.tail then .idle else .active },
              qptr := (s.qptr + 1) % 256, launches := s.launches ++ [(l, lau)], uid := s.uid + 1 } : State).addGroups l k.ctx 0 prio n x

/-- 06 R116, 19 R435: the launch unit reads the head of a queue again: a page that migrates first is asked for, and uncorrectable data in the
page tables faults the context. -/
def State.readHead (s : State) (q : Queue) : State :=
  match (s.headOf q).2 with
  | .park p => s.addFault (cfin q.ctx) p 0 none
  | .tables => s.launchTables (cfin q.ctx)
  | _ => s

/-- The heads of the queues that meet a condition are read again. -/
def State.readHeads (s : State) (p : Queue → Bool) : State := s.queues.toList.foldl (fun t q => if p q then t.readHead q else t) s

/-- LAUNCH_ADMISSION (R118): fewer than 64 launches admitted, the best head that can be is. -/
def execLaunchAdmission (s : State) : Host.Outcome State Fault Refusal :=
  .next (
    let s0 := s.readHeads (fun q => decide (q.st = .active) && q.loaded.isSome && s.admits (cfin q.ctx))
    let s1 : State := { s0 with queues := s0.queues.map s0.rejudgeHead }
    if (s1.launches.filter (fun e => e.2.live)).length < 64 then
      match s1.bestHead s1.admissible with
      | some (i, k) => s1.launchHead i k
      | none => s1
    else s1)

/-- SIGNAL_RECHECK (R116). -/
def execSignalRecheck (s : State) : Host.Outcome State Fault Refusal :=
  .next ((s.readHeads (fun q => decide (q.st = .blocked))).recheckSignals)

/-- 06 R119: the wait after which priority rises by one: four quanta of the context, in ns. -/
def State.ageStep (s : State) (c : Fin 64) : Nat := 4 * (s.ctxs[c]).quantumNs

/-- PRIORITY_AGEING (R119): the head of queue `id`, or the group `id`, is judged: when it has waited four quanta of its context, a head with all its
waits met, its effective priority rises by one, up to 4, and its next four quanta begin. -/
def execPriorityAgeing (head : Bool) (id : Nat) (s : State) : Host.Outcome State Fault Refusal :=
  .next (
    if head then
      (if id < 256 then
        let i := Fin.ofNat 256 id
        let q := s.queues[i]
        match q.loaded with
        | some k =>
          let d := s.ageStep (cfin q.ctx)
          if q.st = .active ∧ (s.headOf q).2 = .met ∧ q.priority k < 4 ∧ d ≤ s.now - q.readySince then
            { s with queues := s.queues.set i { q with aged := q.aged + 1, readySince := q.readySince + d } }
          else s
        | none => s
      else s)
    else s.modGroup id (fun g =>
      let d := s.ageStep (cfin g.ctx)
      if (g.st = .waiting ∨ g.st = .saved) ∧ d ≤ s.now - g.waitSince then { g with prio := min 4 (g.prio + 1), waitSince := g.waitSince + d } else g))

/-! ## Phases (07 R135 to R141) -/

/-- A group belongs to a phase of a launch. -/
def State.inPhase (s : State) (l phase g : Nat) : Bool := match s.group g with
  | some x => decide (x.launch = l) && decide (x.phase = phase)
  | none => false

/-- 17 R388, 06 R122: a write that the Draught or a detach owes on behalf of groups that meet a condition, or of a binding of a launch. -/
def State.owedFor (s : State) (l : Nat) (mine : Nat → Bool) (o : Owed) : Bool := match o with
  | .slot _ _ b _ => decide ((tget s.binds b).map (·.launch) = some l)
  | .detach _ g _ => mine g
  | _ => false

/-- 07 R139: the phase of a launch has drained: its groups have ended, their copies too, and every write of theirs is visible at DEVICE; for the last
phase and after a KILLG every write of the launch is visible at SYSTEM. -/
def State.drained (s : State) (l : Nat) (x : Launch) : Bool :=
  let mine := s.inPhase l x.phase
  let last := x.killed || decide (x.k.phases ≤ x.phase + 1)
  s.groups.all (fun e => !mine e.1 || decide (e.2.st = .exited) || decide (e.2.st = .killed)) &&
  s.copies.all (fun e => !mine e.2.g || !e.2.live) &&
  s.memops.all (fun e => !mine e.2.g || !e.2.kind.writes) && s.exchs.all (fun e => !mine e.2.g) &&
  (s.ctxs[cfin x.k.ctx]).owed.all (fun o => !s.owedFor l mine o) &&
  (!last || !s.writesDue l (cfin x.k.ctx))

/-- 16 R376: the entries of a context that fire at a drain count, as die and index. -/
def State.firing (s : State) (c : Fin 64) (n : Nat) : List (Nat × Nat) :=
  ((List.range 4).map (fun d => ((s.evictUsed d).filter (fun i =>
    let e := s.evict d i
    e.valid && e.clean && decide (e.ctx = c.val) && decide (1 ≤ e.lines) && decide (e.due ≤ n))).map (fun i => (d, i)))).flatten

/-- 16 R376: an entry fires: its VALID is cleared and every cached line of its range is evict-first. -/
def State.fire (s : State) (d i : Nat) : State :=
  let e := s.evict d i
  let a := 0x310000 + 0x4000 * d + 16 * i + 11
  { s with bar0 := Memory.put s.bar0 a (Memory.get s.bar0 a &&& 0xFD#8),
           l2 := s.l2.map (fun l => if e.covers d l.addr then { l with evictFirst := true } else l) }

/-- 16 R375, R376: a phase of a context has drained. -/
def State.drainCount (s : State) (c : Fin 64) : State :=
  let s1 := s.modCtx c (fun x => { x with drains := x.drains + 1 })
  (s1.firing c (s1.ctxs[c]).drains).foldl (fun t e => t.fire e.1 e.2) s1

/-- PHASE_DRAINED (R139, R141): a DRAINING launch goes on to its next phase, or ends. Of a context that has faulted, the drain counts for nothing but the
completion. -/
def execPhaseDrained (l : Nat) (s : State) : Host.Outcome State Fault Refusal :=
  .next (match tget s.launches l with
    | none => s
    | some x =>
      if x.st ≠ .draining ∨ !s.drained l x then s
      else
        let c := cfin x.k.ctx
        let s1 := if s.ctxs[c].st.runs then s.drainCount c else s
        if x.killed then ((s1.endLaunch l .aborted true).idleCheck c).flush c
        else if x.phase + 1 < x.k.phases then { s1 with launches := tput s1.launches l { x with st := .selecting } }
        else ((s1.endLaunch l .done true).idleCheck c).flush c)

/-- 07 R141: a launch that no schedule covers ends ABORTED. -/
def State.badCount (s : State) (l : Nat) (x : Launch) (addr : Nat) : State :=
  let c := cfin x.k.ctx
  (((s.log c 0x0F 7 0 0 addr (x.phase + 1) 0).endLaunch l .aborted true).idleCheck c).flush c

/-- PHASE_SELECTION (R135, R136): the size word of the next phase is read and picks its schedule. A launch that is to be ABORTED waits until all its
writes have been performed (R141). -/
def execPhaseSelection (l : Nat) (s : State) : Host.Outcome State Fault Refusal :=
  .next (match tget s.launches l with
    | none => s
    | some x =>
      if x.st ≠ .selecting then s
      else
        let c := cfin x.k.ctx
        let a := x.k.sizesVa + 8 * (x.phase + 1)
        let bad := if s.writesDue l c then s else s.badCount l x a
        match s.fetchMem c a 8 with
        | .park p => s.addFault c p 0 none
        | .tables => s.launchTables c
        | .bad _ => bad
        | .got w => match selectIn x.k.scheds w with
          | none => bad
          | some (sch, n) =>
            ({ s with launches := tput s.launches l { x with st := .running, phase := x.phase + 1, size := w, count := n } } : State).addGroups l x.k.ctx
              (x.phase + 1) x.prio n sch)

end Sys2Proof.Machine
end

