-- ==== Sys2Proof/Machine/Migrate.lean ====
section
/-! DEFINITION. The fault units and the host's page commands: lock, move and publish, software locks, MIGRATE, PIN, UNPIN, TLBINV, and the
frame pools (15 R358 to R363, R369). -/

namespace Sys2Proof.Machine

/-! ## Leaves and frames -/

/-- Writes a page-table entry. -/
def State.setLeaf (s : State) (addr e : Nat) : State := (s.wr addr 8 e).l2Touch addr 8 true

/-- 15 R358 step 2: the entries of a page's run are rewritten with RUN 0. -/
def State.splitRun (s : State) (c : Fin 64) (page run : Nat) : State :=
  if run = 0 then s
  else (List.range (2 ^ run)).foldl (fun t i =>
    match t.walk (t.ctxs[c]).ptroot ((page / 2 ^ run * 2 ^ run + i) * 2 ^ 14) with
    | .leaf a e => t.setLeaf a (leafSplit e)
    | _ => t) s

/-- 15 R357: die and tier to which a device access brings a page, none when its leaf calls for no migration. -/
def State.wants (s : State) (c : Fin 64) (page : Nat) (l : Leaf) : Option (Nat × Nat) :=
  let here := homeDie (frameLocal l.frame)
  let t : Option (Nat × Nat) :=
    if !s.leafFits l then none
    else if l.state = stAbsent then (if l.dest = 0 then none else some (l.die, l.dest))
    else if s.pinned c page then none
    else if l.state = stCap ∧ l.dest = 1 then some (here, 1)
    else if l.state = stHost ∧ l.dest ≠ 0 then some (l.die, l.dest)
    else if l.state = stRetired then some (here, match s.region (frameLocal l.frame) with
      | .fast _ => 1
      | _ => 2)
    else none
  t.filter (fun e => !s.poolEmpty e.1 e.2)

/-- 15 R363: takes the oldest frame of a pool. -/
def State.popFrame (s : State) (die dest : Nat) : State × Option Nat :=
  let i := Fin.ofNat 8 (2 * die + (if dest = 1 then 0 else 1))
  let p := s.pools[i]
  match p.frames with
  | [] => (s, none)
  | f :: r => ({ s with pools := s.pools.set i { p with frames := r } }, some (s.node * 2 ^ 34 + f))

/-- The leaf of a migration's page as it stands. -/
def State.migLeaf (s : State) (m : Migration) : Walk := s.walk (s.ctxs[cfin m.ctx]).ptroot (m.page * 2 ^ 14)

/-- Removes a migration; a host command that waited for it ends with a code of MSTAT (15 R361). -/
def State.endMig (s : State) (id code : Nat) : State :=
  let t : State := { s with migs := tdel s.migs id }
  if s.mcmd = some id then { t with mcmd := none, mstat := code } else t

/-- The migration goes on, or a device fault is given up and its accesses are judged again. -/
def State.dropFault (s : State) (id : Nat) (m : Migration) : State := (s.endMig id 0).unpark m.ctx m.page

/-- 15 R358: another migration of the page is under way. -/
def State.rival (s : State) (id : Nat) (m : Migration) : Bool :=
  s.migs.any (fun e => decide (e.1 ≠ id) && decide (e.2.ctx = m.ctx) && decide (e.2.page = m.page) && decide (e.2.step ≠ .waiting))

/-- 15 R358: the die's fault unit carries 64 migrations. -/
def State.unitFull (s : State) (die : Nat) : Bool :=
  decide (64 ≤ (s.migs.filter (fun e => decide (e.2.die = die) && decide (e.2.step ≠ .waiting))).length)

/-- 15 R358 steps 1 to 3: the leaf is locked, its run is split, and translations of the page are shot down. -/
def State.lockPage (s : State) (id : Nat) (m : Migration) (addr e frame dest : Nat) : State :=
  let c := cfin m.ctx
  let lock := leafSetState e stMigrating
  let s1 := (s.setLeaf addr lock).splitRun c m.page (leafOf e).run
  let s2 := s1.shootdown m.ctx m.page 1
  { s2 with migs := tput s2.migs id { m with step := .locked, oldLeaf := e, lockLeaf := leafSplit lock, frame := frame, dest := dest, soft := false } }

/-- 15 R360: PIN of a page that is not MIGRATING. -/
def State.pinPage (s : State) (id : Nat) (m : Migration) (addr e : Nat) : State :=
  ((s.setLeaf addr (leafSetState e stPinned)).shootdown m.ctx m.page 1).endMig id 0

/-- 15 R361, R362: a host command judges the leaf it meets. -/
def State.hostLock (s : State) (id : Nat) (m : Migration) (target addr e : Nat) : State :=
  let l := leafOf e
  if !l.ok then s.endMig id 3
  else if l.state = stMigrating then s
  else if target = 0 then s.pinPage id m addr e
  else if l.state = stPinned ∨ !s.leafFits l then s.endMig id 3
  else if s.pinned (cfin m.ctx) m.page then s.endMig id 2
  else if 2 < target then
    (if l.te then s.endMig id 5 else s.lockPage id m addr e (s.node * 2 ^ 34 + target / 2 ^ 14) stHost)
  else
    let die := if l.state = stAbsent ∨ l.state = stHost then l.die else homeDie (frameLocal l.frame)
    match s.popFrame die target with
    | (_, none) => s.endMig id 4
    | (t, some f) => t.lockPage id m addr e f (if target = 1 then stFast else stCap)

/-- MIGRATION_LOCK (R358 steps 1 to 3): a fault that waits for its unit, or a host command that waits. A leaf that software has locked is waited
for (R359). -/
def execMigrationLock (id : Nat) (s : State) : Host.Outcome State Fault Refusal :=
  .next (match tget s.migs id with
    | none => s
    | some m =>
      if m.step ≠ .waiting ∨ m.soft then s
      else if s.rival id m then (if m.host.isSome then s else { s with migs := tdel s.migs id })
      else if s.unitFull m.die then s
      else match s.migLeaf m, m.host with
        | .leaf a e, some t => s.hostLock id m t a e
        | .leaf a e, none =>
          if (leafOf e).ok ∧ (leafOf e).state = stMigrating then { s with migs := tput s.migs id { m with soft := true } }
          else
            (match s.wants (cfin m.ctx) m.page (leafOf e) with
            | none => s.dropFault id m
            | some (die, dest) => match s.popFrame die dest with
              | (_, none) => s.dropFault id m
              | (t, some f) => t.lockPage id m a e f (if dest = 1 then stFast else stCap))
        | .bad, some _ => s.endMig id 3
        | .bad, none => s.dropFault id m
        | .uncorr, _ => (s.faultContext (cfin m.ctx) cUNCORR 7 0 (m.page * 2 ^ 14) 0 0).endMig id 6)

/-! ## Move (15 R358 step 4) -/

/-- Sets the tags of a frame's granules. -/
def State.moveTags (s : State) (src : Option Nat) (dst : Nat) : State :=
  (List.range 512).foldl (fun t i => t.setTag (dst + 32 * i) (match src with
    | some p => s.tag (p + 32 * i)
    | none => 0)) s

/-- 15 R348, 16 R374: a frame's lines, with the lines that hold its tags, are read or written at their home slices. -/
def State.touchPage (s : State) (p : Nat) (write : Bool) : State :=
  let lines := (List.range 128).foldl (fun (t : State) i => t.l2Touch (p + 128 * i) 128 write) s
  match s.tagPlace p with
  | some (a, _) => ((List.range 2).foldl (fun (t : State) i => t.l2Touch (a + 128 * i) 128 write) lines)
  | none => lines

/-- 15 R358 step 4: the data and the tags of a page go to a new frame; stale L1 lines of the frame go. -/
def State.movePage (s : State) (m : Migration) : State :=
  let l := leafOf m.oldLeaf
  let src := frameLocal l.frame
  let dst := frameLocal m.frame
  let mem := if l.state = stAbsent then Memory.clear s.mem dst (2 ^ 14) else Memory.move s.mem src dst (2 ^ 14)
  let s1 : State := { s with mem := mem, bad := s.bad.filter (fun x => !(decide (dst / 128 ≤ x) && decide (x < dst / 128 + 128))) }
  let s2 := s1.moveTags (if l.state = stAbsent ∨ l.state = stHost then none else some src) dst
  let s3 := (if l.state = stAbsent then s2 else s2.touchPage src false).touchPage dst true
  s3.l1DropAll (fun _ => true) (m.frame * 2 ^ 14) (2 ^ 14)

/-- 15 R358 step 4: a byte of the source page, or a byte that holds its tags, is uncorrectable. -/
def State.sourceBad (s : State) (p : Nat) : Bool :=
  s.poisoned p (2 ^ 14) || (match s.tagPlace p with
    | some (a, _) => s.poisoned a 256
    | none => false)

/-- 15 R358 step 4: a lane that waits for the page fails with UNCORR. -/
def MemOp.failParked (m : MemOp) (page : Nat) : MemOp :=
  { m with lanes := m.lanes.map (fun l => if l.st = .parked ∧ vpage l.addr = page then { l with st := .failed cUNCORR } else l) }


/-- 15 R358 step 4: every parked lane of a page fails with UNCORR, and every copy that waits for it. -/
def State.failWaiters (s : State) (ctx page : Nat) : State :=
  let hit := s.memops.filter (fun e => decide ((s.group e.2.g).map (·.ctx) = some ctx) &&
    e.2.lanes.any (fun l => decide (l.st = .parked) && decide (vpage l.addr = page)))
  let s1 := hit.foldl (fun t e =>
    let u : State := { t with memops := tmod t.memops e.1 (fun m => m.failParked page) }
    (u.memSettle e.1).takeDue e.2.g e.2.w) s
  (s.copies.filter (fun e => decide (e.2.st = .parked) && decide (e.2.waits = some (ctx, page)))).foldl (fun t e =>
    (t.loseCells e.2).endCopy e.1 .failed cUNCORR (page * 2 ^ 14)) s1

/-- 15 R358 step 4: an aborted move. What else waits for the page than lanes and copies is failed before the step ends (`State.failLost`). -/
def State.abortMove (s : State) (id : Nat) (m : Migration) : State :=
  let s1 := match s.migLeaf m with
    | .leaf a e => if e = m.lockLeaf then s.setLeaf a m.oldLeaf else s
    | _ => s
  { (((s1.frameReturn m.frame).failWaiters m.ctx m.page).endMig id 6) with lostPage := some (m.ctx, m.page) }

/-- MIGRATION_MOVE (R358 step 4). -/
def execMigrationMove (id : Nat) (s : State) : Host.Outcome State Fault Refusal :=
  .next (match tget s.migs id with
    | none => s
    | some m =>
      if m.step ≠ .locked then s
      else if (leafOf m.oldLeaf).state ≠ stAbsent ∧ s.sourceBad (frameLocal (leafOf m.oldLeaf).frame) then
        (s.abortMove id m).flush (cfin m.ctx)
      else
        let t := s.movePage m
        { t with migs := tput t.migs id { m with step := .moved } })

/-! ## Publish (15 R358 steps 5 and 6) -/

/-- 15 R358: a page enters the pin table of a die; the oldest of 4,096 entries leaves. -/
def State.pinEntry (s : State) (die ctx page : Nat) : State :=
  let mine := s.pins.filter (fun e => e.1 == die)
  let pins := if mine.length < 4096 then s.pins else match s.pins.findIdx? (fun e => e.1 == die) with
    | some i => s.pins.eraseIdx i
    | none => s.pins
  { s with pins := pins ++ [(die, ctx, page, s.now)] }

/-- 15 R358 step 5: the leaf names the new frame, the source frame goes back, and the page enters the pin table. -/
def State.publish (s : State) (id : Nat) (m : Migration) (addr : Nat) : State :=
  let s1 := s.setLeaf addr (leafSetFrame (leafSetState m.lockLeaf m.dest) m.frame)
  let s2 := if (leafOf m.oldLeaf).state = stAbsent ∨ (leafOf m.oldLeaf).state = stRetired then s1 else s1.frameReturn (leafOf m.oldLeaf).frame
  ((s2.pinEntry m.die m.ctx m.page).unpark m.ctx m.page).endMig id 0

/-- 15 R359: software wrote the leaf meanwhile: the new frame goes back, and the accesses are judged again, a host command's too. -/
def State.unpublish (s : State) (id : Nat) (m : Migration) : State :=
  let s1 := (s.frameReturn m.frame).unpark m.ctx m.page
  if m.host.isSome then { s1 with migs := tput s1.migs id { m with step := .waiting } } else { s1 with migs := tdel s1.migs id }

/-- MIGRATION_PUBLISH (R358 steps 5 and 6). -/
def execMigrationPublish (id : Nat) (s : State) : Host.Outcome State Fault Refusal :=
  .next (match tget s.migs id with
    | none => s
    | some m =>
      if m.step ≠ .moved then s
      else match s.migLeaf m with
        | .leaf a e => if e = m.lockLeaf then s.publish id m a else s.unpublish id m
        | _ => s.unpublish id m)

/-- MIGRATING_LEAF_RECHECK (R359): the leaf that software locked is read again, and when it is MIGRATING no more the accesses that wait for it
are judged by it. -/
def execMigratingLeafRecheck (id : Nat) (s : State) : Host.Outcome State Fault Refusal :=
  .next (match tget s.migs id with
    | none => s
    | some m =>
      if !m.soft then s
      else match s.migLeaf m with
        | .leaf _ e => if (leafOf e).ok ∧ (leafOf e).state = stMigrating then s else s.dropFault id m
        | _ => s.dropFault id m)

/-! ## The host's commands (15 R361) -/

/-- MCTX. -/
def State.mctx (s : State) : Fin 64 := cfin (s.bar 0x301000 4 % 64)
/-- MVA. -/
def State.mva (s : State) : Nat := s.bar 0x301008 8
/-- MTARGET. -/
def State.mtarget (s : State) : Nat := s.bar 0x301010 8

/-- 15 R361: a write of MCMD; refused while a command is BUSY. A request with a context that is not in use or with no address ends with BADREQ
(log entry 45). -/
def State.pageCmd (s : State) (act : State → State) : State :=
  if !s.open_ ∨ s.mcmd.isSome then s
  else if !(s.ctxs[s.mctx]).st.runs ∨ 2 ^ 56 ≤ s.mva then { s with mstat := 3 }
  else act s

/-- A command that takes the place of a faulting agent; it is judged at once when it can be. -/
def State.startMig (s : State) (target : Nat) : State :=
  let id := s.uid
  let m : Migration :=
    { ctx := s.mctx.val, page := vpage s.mva, die := 0, host := some target, step := .waiting, oldLeaf := 0, lockLeaf := 0, frame := 0, dest := 0,
      soft := false }
  { s with migs := s.migs ++ [(id, m)], uid := id + 1, mcmd := some id, mstat := 1 }

/-- MIGRATE (R361): to a page of the host window, or to tier 1 or 2. -/
def execMigrate (s : State) : Host.Outcome State Fault Refusal :=
  .next (s.pageCmd (fun t =>
    let x := t.mtarget
    if x = 1 ∨ x = 2 ∨ (hostBase ≤ x ∧ x < 2 ^ 48 ∧ x % 2 ^ 14 = 0) then t.startMig x else { t with mstat := 3 }))

/-- PIN (R360): at once, or when a leaf that is MIGRATING is so no more. -/
def execPin (s : State) : Host.Outcome State Fault Refusal := .next (s.pageCmd (fun t => t.startMig 0))

/-- 15 R360: the state of a page by its frame. -/
def State.stateOf (s : State) (frame : Nat) : Option Nat :=
  if frameNode frame ≠ s.node then none
  else match s.region (frameLocal frame) with
    | .fast _ => some stFast
    | .cap _ => some stCap
    | .host => some stHost
    | _ => none

/-- UNPIN (R360, R361). -/
def execUnpin (s : State) : Host.Outcome State Fault Refusal :=
  .next (s.pageCmd (fun t =>
    match t.walk (t.ctxs[t.mctx]).ptroot t.mva with
    | .leaf a e =>
      (match (leafOf e).ok, decide ((leafOf e).state = stPinned), t.stateOf (leafOf e).frame with
      | true, true, some st => { ((t.setLeaf a (leafSetState e st)).shootdown t.mctx (vpage t.mva) 1) with mstat := 0 }
      | _, _, _ => { t with mstat := 3 })
    | .bad => { t with mstat := 3 }
    | .uncorr => { t with mstat := 6 }))

/-- MCMD_TLBINV (R369). -/
def execMcmdTlbinv (s : State) : Host.Outcome State Fault Refusal :=
  .next (s.pageCmd (fun t =>
    let n := t.mtarget
    let page := if n = 0 then 0 else vpage t.mva
    let cnt := if n = 0 then 2 ^ 42 else n
    { ((t.shootdown t.mctx page cnt).rejudge t.mctx page cnt) with mstat := 0 }))

/-- FRAMEIN_WRITE (R363). -/
def execFrameinWrite (p : Fin 8) (pn : BitVec 64) (s : State) : Host.Outcome State Fault Refusal :=
  .next (
    let q := s.pools[p]
    if s.open_ ∧ s.poolHas p pn.toNat ∧ q.frames.length < s.poolSize p then
      { s with pools := s.pools.set p { q with frames := q.frames ++ [pn.toNat] } }
    else s)

end Sys2Proof.Machine
end

