-- ==== Sys2Proof/Machine/Link.lean ====
section
/-! DEFINITION. The links and the stations: flit slots, retraining, failover and quiescing, the delivery of packets, answers to requests, and inbound
accesses (18 R409 to R426, 01 R13 to R17). -/

namespace Sys2Proof.Machine

/-! ## Answers (14 R341, 18 R418, R426) -/

/-- 18 R426: the initiator's side of a request that fails, named by its TAG. -/
def State.remoteFail (s : State) (tag : Nat) (timeout : Bool) : State :=
  let cause := if timeout then cRTIMEOUT else cRFAULT
  match tget s.remotes tag with
  | none => s
  | some r =>
    let s1 := s.answered tag true
    let lose : LaneState := .orphaned (if timeout then .rtimeout else .rfault)
    match r.copy with
    | some id => (match tget s1.copies id with
      | some c => (s1.endCopy id .failed cause c.dst.addr).flush (cfin c.ctx)
      | none => s1)
    | none => match r.inside with
      | none => s1.settleLane r (if r.store then .done 0 else lose)
      | some m =>
        if m.kind.isStore then (s1.modWarp r.g r.w (fun y => { y with erem := y.erem + 1 })).settleLane r (.done 0) else s1.settleLane r lose

/-- 14 R322: a lane that another die has answered counts the line of L1 that it was served through, unless a lane of its instruction has. -/
def State.countLane (s : State) (r : Remote) (m : MemOp) : State :=
  let others := match tget s.memops r.op with
    | some n => n.lanes.any (fun l => decide (l.lane ≠ r.lane) && decide (l.st ≠ .todo) && !l.st.open_ &&
        m.lanes.any (fun k => decide (k.addr / 128 = l.addr / 128)))
    | none => true
  if m.fills && !others then s.countLines ((s.group r.g).bind (·.core)) [r.addr / 128 * 128] else s

/-- 14 R341: the answer to a request arrives. Another node answers with the bytes at the address, another die of this one with the lane's value. -/
def State.answerArrives (s : State) (tag : Nat) (b : List Byte) : State :=
  match tget s.remotes tag with
  | none => s
  | some r =>
    let s1 := s.answered tag false
    match r.copy, r.inside with
    | some _, _ => s1
    | none, some m => (s1.countLane r m).settleLane r (.done (BitVec.ofNat 64 (leNat (b.take 8))))
    | none, none =>
      let v := match (tget s.memops r.op).bind (fun m => (m.lanes.find? (fun l => l.lane == r.lane)).map (fun l => (m, l))) with
        | some (m, l) => elemGet m.type l.bit (leNat (b.take 9))
        | none => 0
      s1.settleLane r (.done (if r.store then 0 else BitVec.ofNat 64 v))

/-- 18 R426: an error response arrives. From another die of this module it may name what the lane has met there. -/
def State.errorArrives (s : State) (tag code : Nat) : State :=
  if code = cRFAULT ∨ code = cRTIMEOUT then s.remoteFail tag (decide (code = cRTIMEOUT))
  else match tget s.remotes tag with
    | some r => if r.inside.isSome then (s.answered tag false).settleLane r (.failed code) else s.remoteFail tag false
    | none => s

/-- ERROR_RESPONSE (R426): the answer to a remote request is an error response with cause RFAULT or RTIMEOUT. -/
def execErrorResponse (tag : Nat) (timeout : Bool) (s : State) : Host.Outcome State Fault Refusal :=
  .next (if (tget s.remotes tag).isSome then s.remoteFail tag timeout else s)

/-- REMOTE_TIMEOUT (R426): no answer 200 µs after acceptance. -/
def execRemoteTimeout (tag : Nat) (s : State) : Host.Outcome State Fault Refusal :=
  .next (match tget s.remotes tag with
    | some r => if 200000 ≤ s.now - r.at_ then s.remoteFail tag true else s
    | none => s)

/-! ## Responses (18 R407, R408, R418) -/

/-- TYPE of an error response (18 R407). -/
def tyError : Nat := 8

/-- 18 R407: the TYPE that answers a request. -/
def answerType (request : Nat) : Nat := if request = 0 then 1 else if request = 2 then 5 else if request = 3 then 4 else 7

/-- 18 R408: the class of a response: its request's, but spark for the error response to an ember request. -/
def responseClass (cls : LinkClass) (type : Nat) : LinkClass := if type = tyError ∧ cls = .ember then .spark else cls

/-- 18 R407: the response from a station to a request with a TAG, for the place where the request comes from. -/
def State.response (s : State) (x : Station) (cls : LinkClass) (to_ tag : Word) (type : Nat) (b : List Byte) : Packet :=
  { cls := responseClass cls type, dst := to_, src := BitVec.ofNat 32 (s.node * 2 ^ 24 + x.word), pseq := 0, type := BitVec.ofNat 8 type, hops := 0,
    tag := tag, data := b }

/-- 18 R418, R422: a packet has a route from a die. -/
def State.hasRoute (s : State) (die : Nat) (p : Packet) : Bool :=
  if p.to.1 = s.node then s.joined die p.to.2 else s.routable die p.to.1

/-- 18 R409, R418: a response leaves a station. Without a route it is not delivered, and while its first hop has no room it does not leave. -/
def State.respond (s : State) (x : Station) (p : Packet) : Option State :=
  if !s.hasRoute x.die p then some s.lostRoute else if s.canSend x p then some (s.sendFrom x p) else none

/-- 18 R418, R423: a die turns a packet back. A request becomes an error response with RFAULT, a spark request only when `any` kind does; of anything
else nothing is delivered. While the way back has no room nothing happens, unless it is forced. -/
def State.turnBack (s : State) (die : Nat) (p : Packet) (any force : Bool) : Option State :=
  if !p.asks || (decide (p.cls = .spark) && !any) then some s
  else if p.from_.1 = s.node then some (s.remoteFail p.tag.toNat false)
  else
    let e := s.response { die := die, quad := 0, s := true, num := 31 } p.cls p.src p.tag tyError [BitVec.ofNat 8 cRFAULT]
    match s.hopOf die e with
    | .go d => if force || s.dirRoom d e then some (s.depart die d e) else none
    | _ => some s

/-! ## Inbound accesses (18 R424, R425) -/

/-- 18 R424: an inbound window. -/
structure InWindow where
  /-- BASE -/
  base : Nat
  /-- SIZE -/
  size : Nat
  /-- CTXID -/
  ctx : Nat
  /-- W -/
  w : Bool
  /-- it admits the node -/
  admits : Bool
  deriving DecidableEq, Repr

/-- 18 R424: window i as an access from a node meets it, none when it is not VALID or breaks its layout. -/
def State.inWindow (s : State) (i : Nat) (node : Nat) : Option InWindow :=
  let f := fun (o n : Nat) => s.bar (0x350000 + 32 * i + o) n
  let ctl := f 16 4
  if ctl / 128 % 2 = 1 ∧ ctl / 2 ^ 17 = 0 ∧ f 20 12 = 0 ∧ f 0 8 % 2 ^ 14 = 0 ∧ f 8 8 % 2 ^ 14 = 0 ∧ f 8 8 ≠ 0 then
    some { base := f 0 8, size := f 8 8, ctx := ctl % 64, w := decide (ctl / 64 % 2 = 1),
           admits := decide (ctl / 2 ^ 16 % 2 = 1) || decide (ctl / 256 % 256 = node) }
  else none

/-- The access only reads. -/
def reqReads (r : InboundReq) : Bool := decide (r.kind = .read) || decide (r.kind = .probe)

/-- The bytes that an inbound access reads or writes; a compare and swap carries two values. -/
def reqSize (r : InboundReq) : Nat :=
  if reqReads r then r.size
  else match r.kind with
  | .atomic op _ => if op.val = 7 then r.data.length / 2 else r.data.length
  | _ => r.data.length

/-- The access needs W. -/
def reqWrites (r : InboundReq) : Bool := !reqReads r

/-- The access is a CPYX or its flag, for a context. -/
def reqToCtx (r : InboundReq) : Bool := decide (r.kind = .cpyx) || decide (r.kind = .flag)

/-- 18 R424: the context for which an access is admitted. -/
def State.admitted (s : State) (r : InboundReq) : Option Nat :=
  let ok := fun (w : InWindow) => w.admits && (!reqWrites r || w.w) &&
    (if reqToCtx r then decide (w.ctx = r.ctx.val) else decide (w.base ≤ r.addr) && decide (r.addr + reqSize r ≤ w.base + w.size))
  (((List.range 64).filterMap (fun i => s.inWindow i r.node.toNat)).find? ok).map (·.ctx)

/-- 12 R291, 18 R425: the address of an inbound access, for a flag that of its counter. -/
def State.reqAddr (s : State) (c : Fin 64) (r : InboundReq) : Nat := if r.kind = .flag then (s.ctxs[c]).cb + 8 * r.addr else r.addr

/-- 18 R425: the target's record of an access that fails at an address. -/
def State.inboundFault (s : State) (c : Fin 64) (r : InboundReq) (cause addr : Nat) : State := (s.log c cause 2 r.node.toNat 0 addr 0 0).flush c

/-- 15 R347, R348: n bytes at a local address lie in memory that an inbound access can reach, no tag carve-out among them. -/
def State.reachable (s : State) (a n : Nat) : Bool :=
  let ok := fun (p : Nat) => match s.region p with
    | .hole => false
    | .carve => false
    | _ => true
  (List.range (n / 1024 + 1)).all (fun i => ok (a + 1024 * i)) && ok (a + n - 1)

/-- 18 R424: the atomic of a code. -/
def atOpOf (k : Nat) : AtOp := match k with
  | 0 => .add
  | 1 => .min
  | 2 => .max
  | 3 => .and
  | 4 => .or
  | 5 => .xor
  | 6 => .swp
  | _ => .cas

/-- 18 R424, R425: an inbound access is performed, with the bytes of its answer, or what it meets. -/
def State.perform (s : State) (c : Fin 64) (r : InboundReq) : Except Stall (State × List Byte) :=
  let pa := s.node * 2 ^ 48 + r.addr % 2 ^ 48
  let n := reqSize r
  let old := s.engRd pa n
  let atMem := fun (reads : Bool) (act : State × List Byte) =>
    if !s.reachable r.addr n then Except.error (Stall.fail cPGPROT r.addr)
    else if reads && s.poisoned r.addr n then .error (.fail cUNCORR r.addr)
    else .ok act
  match r.kind with
  | .read | .probe => atMem true (s.l2Access pa n false, leBytes n old)
  | .write => atMem false (s.engPutBytes pa r.data, [])
  | .part bit mode => atMem true (s.engPutBytes pa (leBytes n (elemPut (mEtype mode) bit.val old (leNat r.data))), [])
  | .atomicAdd => atMem true (s.engPutBytes pa (leBytes n (old + leNat r.data)), leBytes n old)
  | .atomic op mode =>
    atMem true (s.engPutBytes pa (leBytes n (atValue mode (atOpOf op.val) old (leNat (r.data.take n)) (leNat (r.data.drop n)))), leBytes n old)
  | .signal => atMem true ((s.engPutBytes pa (leBytes n (signalAdd old (leNat r.data)))).recheckSignals, leBytes n old)
  | .cpyx => do
    let ps ← s.pieces c.val false true r.addr (r.data.length + 1) 0 r.data.length
    .ok ((ps.foldl (fun (t, rest) (pa, k) => (t.engPutBytes pa (rest.take k), rest.drop k)) (s, r.data)).1, [])
  | .flag => do
    let ps ← s.pieces c.val false true (s.reqAddr c r) 9 0 8
    match ps with
    | (pa, _) :: _ =>
      if s.engBad pa 8 then .error (.fail cUNCORR (s.reqAddr c r))
      else .ok ((s.engPutBytes pa (leBytes 8 (s.engRd pa 8 + 1))).recheckSignals, leBytes 8 (s.engRd pa 8))
    | [] => .ok (s, [])

/-- 18 R407: the TYPE of an inbound request. -/
def reqType (r : InboundReq) : Nat := match r.kind with
  | .read => 0
  | .write | .part _ _ | .cpyx => 2
  | .atomicAdd | .atomic _ _ | .signal | .flag => 3
  | .probe => 6

/-- CLASS 0 to 2 as a class. -/
def classOf (k : Nat) : LinkClass := if k = 0 then .spark else if k = 1 then .ember else .log

/-- 01 R15: the station that answers an inbound request: the slice of its address, or a gate for CPYX traffic, whose address is virtual. -/
def State.answerStation (s : State) (r : InboundReq) : Station :=
  if reqToCtx r then { die := 0, quad := 0, s := true, num := 31 } else s.sliceStation r.addr

/-- 18 R425: an inbound request is answered, if its first hop has room. -/
def State.answer_ (s : State) (r : InboundReq) (type : Nat) (b : List Byte) : Option State :=
  let x := s.answerStation r
  s.respond x (s.response x (classOf r.cls.val) (BitVec.ofNat 32 (r.node.toNat * 2 ^ 24 + r.place.toNat)) r.tag type b)

/-- 18 R425: an inbound request is answered with an error response. -/
def State.answerError (s : State) (r : InboundReq) (cause : Nat) : Option State := s.answer_ r tyError [BitVec.ofNat 8 cause]

/-- 18 R425: an admitted access is served now, if it can be, and answered. -/
def State.serve (s : State) (id : Nat) (x : Inbound) : State :=
  let c := cfin x.ctx
  let r := x.req
  let gone : State := { s with inbound := tdel s.inbound id }
  let refuse := fun (t : State) => (t.answerError r cRFAULT).getD s
  if !(s.ctxs[c]).st.runs then
    refuse (if (s.ctxs[c]).st.reserves then gone.inboundFault c r cRFAULT (s.reqAddr c r) else gone)
  else match gone.perform c r with
    | .ok (t, b) => (t.answer_ r (answerType (reqType r)) b).getD s
    | .error (.park ctx page) => s.addFault ctx page (s.answerStation r).die none
    | .error (.fail k a) => refuse (gone.inboundFault c r k a)
    | .error .absent => s
    | .error (.noRoute a) => refuse (gone.inboundFault c r cRFAULT a)
    | .error (.tables ctx) => refuse (gone.faultFrom r.node.toNat (cfin ctx) cUNCORR 2 0 (s.reqAddr c r) 0 0)

/-- The inbound accesses that wait are tried again. -/
def State.serveAll (s : State) : State := s.inbound.foldl (fun t e => t.serve e.1 e.2) s

/-- 18 R424, R425: an access of another node arrives; a window admits it, or it is refused, for which its answer needs room. -/
def State.inboundArrives (s : State) (r : InboundReq) : Option State :=
  if !s.open_ then some s
  else match s.admitted r with
    | none => ({ s with life := { s.life with refusals := s.life.refusals + 1 } } : State).answerError r cRFAULT
    | some c =>
      let x : Inbound := { req := r, ctx := c, at_ := s.now }
      let t : State := { s with inbound := s.inbound ++ [(s.uid, x)], uid := s.uid + 1 }
      some (t.serve s.uid x)

/-- INBOUND_ACCESS (R424): an access of another node arrives by itself, with no packet of the model's links. -/
def execInboundAccess (r : InboundReq) (s : State) : Host.Outcome State Fault Refusal := .next ((s.inboundArrives r).getD s)

/-- INBOUND_TIMEOUT (R425): an access not performed 80 µs after its arrival is never performed. -/
def execInboundTimeout (id : Nat) (s : State) : Host.Outcome State Fault Refusal :=
  .next (match tget s.inbound id with
    | none => s
    | some x =>
      let c := cfin x.ctx
      if 80000 ≤ s.now - x.at_ then
        ((({ s with inbound := tdel s.inbound id } : State).inboundFault c x.req cRTIMEOUT (s.reqAddr c x.req)).answerError x.req cRTIMEOUT).getD s
      else s)

/-- 18 R424: what a request packet asks of this module (log entry 42). -/
def inboundOf (p : Packet) : InboundReq :=
  let n := p.size
  let mode := BitVec.ofNat 23 p.mode
  let (kind, k) : InboundKind × Nat :=
    if p.type = 0 then (.read, 0)
    else if p.type = 6 then (.probe, 0)
    else if p.op = opCpyx then (.cpyx, n)
    else if p.op = opFlag then (.flag, 0)
    else if p.op = opSignal then (.signal, n)
    else if p.op = opPart then (.part (Fin.ofNat 8 p.extra) mode, n)
    else if 16 ≤ p.op then (.atomic (Fin.ofNat 8 (p.op - 16)) mode, if p.op = 23 then 2 * n else n)
    else (.write, n)
  { node := BitVec.ofNat 8 p.from_.1, kind := kind, addr := p.addr, size := n, data := p.bytesOf k, ctx := Fin.ofNat 64 p.extra, tag := p.tag,
    place := p.src.setWidth 24, cls := Fin.ofNat 3 p.cls.code }

/-! ## Packets arrive (18 R411, R417, R418, R423; 01 R15, R16) -/

/-- 01 R10: the request of a core of this module is performed at the home of its line and answered, once the answer has room. -/
def State.performInside (s : State) (p : Packet) : Option State :=
  match tget s.remotes p.tag.toNat with
  | none => some s
  | some r =>
    match r.inside, r.inside.bind (·.lanes.head?), s.group r.g with
    | some m, some l, some g =>
      let tag := match m.space with
        | .mem b => b.tag.toNat
        | _ => 0
      let d := s.atHome (g.performs.getD none) (cfin g.ctx) tag m l r.addr (elemBytes m.type l.bit) (decide (p.extra = 1))
      let x := s.sliceStation (localPart r.addr)
      let (type, b) := match d.st with
        | .done v => (answerType p.type.toNat, leBytes 8 v.toNat)
        | .failed k => (tyError, leBytes 1 k)
        | _ => (tyError, leBytes 1 cRFAULT)
      d.s.respond x (d.s.response x p.cls p.src p.tag type b)
    | _, _, _ => some s

/-- 18 R411: a packet reaches its station of this node; none while the answer that it calls for has no room. -/
def State.arrive (s : State) (p : Packet) : Option State :=
  if p.asks then (if p.from_.1 = s.node then s.performInside p else s.inboundArrives (inboundOf p))
  else if p.type = 8 then some (s.errorArrives p.tag.toNat (p.data.headD 0).toNat)
  else some (s.answerArrives p.tag.toNat p.data)

/-- 18 R417: the destination die expects a packet of this triple, or has had it. -/
def State.accepts (s : State) (die : Nat) (p : Packet) : Option State :=
  let k := tripleKey die p.from_.1 p.from_.2 p.cls.code
  if 32768 ≤ (p.pseq - BitVec.ofNat 16 (tgetD s.pexpect k 0)).toNat then none
  else some { s with pexpect := tput s.pexpect k ((p.pseq.toNat + 1) % 65536) }

/-- 01 R15, R16: a packet for a die of this node goes into its quadrant's gate station, or what it asks is done at once where it ends at no station. -/
def State.enterDie (s : State) (die : Nat) (p : Packet) : Option State :=
  match s.endStation p with
  | none => s.arrive p
  | some x =>
    let k := stationKey die x.quad 1 4
    if s.stationRoom k p then some (s.toStation k p) else none

/-- 18 R409, R418: a packet goes on from a die; none while its next hop has no room. -/
def State.forward (s : State) (die : Nat) (p : Packet) : Option State :=
  match s.hopOf die p with
  | .go d => if s.dirRoom d p then some (s.depart die d p) else none
  | .none => s.lostRoute.turnBack die p false false
  | .here => s.enterDie die p

/-- 18 R411, R417, R423: what a die does with a packet that a direction has brought it; none while there is no room for that. -/
def State.delivered (s : State) (dir die : Nat) (p : Packet) : Option State :=
  if p.to.1 = s.node then
    (if p.to.2 = die then
      match s.accepts die p with
      | some t => t.enterDie die p
      | none => some (s.modLink (dirLink dir) (fun l => { l with dups := min 65535 (l.dups + 1) }))
    else s.forward die p)
  else if dir / 2 < 6 then s.forward die p
  else if p.hops = 8 then s.turnBack die p true false
  else s.forward die { p with hops := p.hops + 1 }

/-- 01 R18, 13 R310: the ns that a crossing of a die-to-die link takes at least; a read of the timer after it returns more than one before it. -/
def linkTime : Nat := 40

/-- PACKET_DELIVER (R411, R417, R423): the oldest complete packet of a direction goes to its next hop or its destination, once that has room. -/
def execPacketDeliver (dir : Nat) (s : State) : Host.Outcome State Fault Refusal :=
  .next (
    match (s.dir dir).arrived with
    | [] => s
    | p :: r =>
      let n := p.count
      let s1 := s.modDir dir (fun d => { d with arrived := r, buffered := tput d.buffered p.cls.code (tgetD d.buffered p.cls.code 0 - n) })
      match dirTo dir with
      | none => s1
      | some die => ((s1.delivered dir die p).map (fun t => if dir / 2 < 6 then t.lapse linkTime else t)).getD s)

/-- 01 R15, R16: what becomes of a packet in a station's buffer: from a flue station it goes to the gate, from the gate to a link, a port or another
quadrant; inward it goes to its end, over a flue station to the C rings. None while the next place has no room. -/
def State.leaves_ (s : State) (die quad dir num : Nat) (p : Packet) : Option State :=
  let enter := fun (k : Nat) => if s.stationRoom k p then some (s.toStation k p) else none
  match dir, num with
  | 0, 4 => s.forward die p
  | 0, _ => enter (stationKey die quad 0 4)
  | _, 4 => (match s.endStation p with
    | some x => if x.s then s.arrive p else enter (stationKey die quad 1 (flueOf x))
    | none => s.arrive p)
  | _, _ => s.arrive p

/-- 01 R16, R17: the oldest packet of a class leaves a station's buffer, if it can. -/
def State.stationMove (s : State) (key cls : Nat) : State :=
  match (s.atStation key).find? (fun p => p.cls == classOf cls) with
  | none => s
  | some p =>
    let q := key / 10
    ((s.offStation key (classOf cls)).leaves_ (q / 4) (q % 4) (key / 5 % 2) (key % 5) p).getD s

/-- 19 R434: the check of the oldest packet of a class in a station's buffer fails: it is not delivered, and a request becomes an error response. -/
def State.spoil (s : State) (key cls : Nat) : State :=
  match (s.atStation key).find? (fun p => p.cls == classOf cls) with
  | none => s
  | some p => ((s.offStation key (classOf cls)).turnBack (key / 40) p true false).getD s

/-- The moves that packets in stations can make. -/
def State.stationTurns (s : State) : List Turn := (s.stations.map (fun e => (List.range 3).map (fun k => Turn.station e.1 k))).flatten

/-! ## Flit slots (18 R409 to R412) -/

/-- The link carries flits. -/
def Link.carries (l : Link) : Bool :=
  (decide (l.st = .up) || decide (l.st = .degraded) || decide (l.st = .quiescing)) && !l.quiesce

/-- 13 R312: a die at an end of a die-to-die link is in the pause of a step switch. -/
def State.stalled (s : State) (dir : Nat) : Bool :=
  decide (dir / 2 < 6) && (s.life.paused[Fin.ofNat 4 (linkDies (dir / 2)).1] || s.life.paused[Fin.ofNat 4 (linkDies (dir / 2)).2])

/-- Sets the flits of a class in progress. -/
def LinkDir.setProgress (d : LinkDir) (k : LinkClass) (l : List Flit) : LinkDir := match k with
  | .spark => { d with spark := l }
  | .ember => { d with ember := l }
  | .log => { d with log := l }

/-- 18 R409, R412: a class has a flit to send and a credit for it. -/
def LinkDir.ready (d : LinkDir) (size : Nat) (k : LinkClass) : Bool :=
  (!(d.inProgress k).isEmpty || d.queue.any (fun p => p.cls == k)) &&
  decide (d.credited k < size) && decide (d.retry.length < size)

/-- 18 R412: the class of a slot. -/
def LinkDir.pick (d : LinkDir) (size : Nat) : Option LinkClass :=
  let tok := min 8 (d.tok + 1)
  if d.ready size .ember ∧ 3 ≤ d.emberWait then some .ember
  else if d.ready size .log ∧ 6 ≤ d.logWait then some .log
  else if d.ready size .spark ∧ 4 ≤ tok then some .spark
  else if d.ready size .ember then some .ember
  else if d.ready size .log then some .log
  else none

/-- 18 R410: a packet of a class is in progress, the next of the queue when none was. -/
def LinkDir.begin_ (d : LinkDir) (k : LinkClass) : LinkDir :=
  if (d.inProgress k).isEmpty then
    match d.queue.find? (fun p => p.cls == k) with
    | some p => { (d.setProgress k p.flits) with queue := d.queue.eraseP (fun q => q.cls == k), unacked := d.unacked ++ [(p, none)] }
    | none => d
  else d

/-- 18 R417: the LAST flit of a class's packet has been sent under a number. -/
def markLast (k : LinkClass) (f : BitVec 14) : List (Packet × Option (BitVec 14)) → List (Packet × Option (BitVec 14))
  | [] => []
  | (p, n) :: r => if p.cls = k ∧ n.isNone then (p, some f) :: r else (p, n) :: markLast k f r

/-- 18 R406: a flit of a class is sent, with the last flit received in the other direction. -/
def LinkDir.send (d : LinkDir) (k : LinkClass) (ack : Nat) : LinkDir :=
  let d1 := d.begin_ k
  match d1.inProgress k with
  | [] => d1
  | f :: r =>
    let g := mkFlit k.code f.first f.last d1.fseq.toNat ack f.data
    let d2 := d1.setProgress k r
    { d2 with wire := d2.wire ++ [g], retry := d2.retry ++ [g], fseq := d2.fseq + 1,
              unacked := if f.last then markLast k d2.fseq d2.unacked else d2.unacked }

/-- 18 R412: the counters after a slot. -/
def LinkDir.tally (d d0 : LinkDir) (size : Nat) (c : Option LinkClass) : LinkDir :=
  let wait := fun (k : LinkClass) (n : Nat) => if c = some k ∨ !d0.ready size k then 0 else n + 1
  { d with tok := min 8 (d0.tok + 1) - (if c = some .spark then 4 else 0), emberWait := wait .ember d0.emberWait, logWait := wait .log d0.logWait }

/-- 18 R406, R420: ACKSEQ of the receiver of a direction: the last flit received intact, and 0 before the first. -/
def LinkDir.ackSeq (d : LinkDir) : BitVec 14 := if d.got then d.expect - 1 else 0

/-- 18 R406: an idle flit that carries an acknowledgement no flit on the wire carries; it takes no number of its own (log entry 46). -/
def LinkDir.idleFlit (d other : LinkDir) : LinkDir :=
  let ack := other.ackSeq
  if other.got ∧ other.retry.any (fun f => f.fseq == ack) ∧ !d.wire.any (fun f => f.ack == ack) then
    { d with wire := d.wire ++ [mkFlit 3 false false d.fseq.toNat ack.toNat (List.replicate 56 0)] }
  else d

/-- FLIT_SLOT (R412): one slot of one direction of a die-to-die link or a Geten port. -/
def execFlitSlot (dir : Nat) (s : State) : Host.Outcome State Fault Refusal :=
  .next (
    if !s.links[dirLink dir].carries ∨ s.stalled dir then s
    else
      let d := s.dir dir
      let other := s.dir (if dir % 2 = 0 then dir + 1 else dir - 1)
      let size := bufferSize dir
      let c := d.pick size
      let d1 := match c with
        | some k => d.send k other.ackSeq.toNat
        | none => d.idleFlit other
      s.modDir dir (fun _ => d1.tally d size c))

/-! ## Widths, retraining and failure (18 R415 to R417, R420) -/

/-- 18 R415, R419: the lanes of a link that are retired in the persistent tables. -/
def Persist.retiredLanes (p : Persist) (k : Nat) : BitVec 16 :=
  BitVec.ofNat 16 (((List.range 16).filter (fun l => p.lanes.contains (16 * k + l))).foldl (fun a l => a + 2 ^ l) 0)

/-- 18 R415: the widest of 16, 12, 8 and 4 lanes that the good groups of four allow; 0 when none is good. -/
def widthOf (bad : BitVec 16) : Nat := 4 * ((List.range 4).filter (fun g => bits bad (4 * g + 3) (4 * g) == 0)).length

/-- 18 R420: a link changes its state. -/
def State.setLink (s : State) (k : Fin 18) (f : Link → Link) : State := (s.modLink k f).manage 2

/-- 18 R415, R420: a link begins to retrain. -/
def State.retrain (s : State) (k : Fin 18) : State :=
  let l := s.links[k]
  if l.st = .up ∨ l.st = .degraded then s.setLink k (fun x => { x with st := .training })
  else if l.st = .quiescing then s.modLink k (fun x => { x with quiesce := true })
  else s

/-- The link is in a retrain. -/
def Link.retraining (l : Link) : Bool := decide (l.st = .training) || (decide (l.st = .quiescing) && l.quiesce)

/-- 18 R417: what a sender has to send again or still to send when its link fails: the unacknowledged packets, in order, and the ones not begun. -/
def LinkDir.pending (d : LinkDir) : List Packet := d.unacked.map (·.1) ++ d.queue ++ d.held

/-- The die at which a direction's sender stands, none outside the module. -/
def dirFrom (d : Nat) : Option Nat :=
  if d / 2 < 6 then some (if d % 2 = 0 then (linkDies (d / 2)).1 else (linkDies (d / 2)).2)
  else if d % 2 = 0 then some ((d / 2 - 6) / 3) else none

/-- 18 R417: a direction of a failed link: partial packets go, complete ones stay to be delivered. -/
def LinkDir.failed (d : LinkDir) : LinkDir := { LinkDir.idle with arrived := d.arrived, buffered := d.buffered }

/-- 18 R417, R418: the packets of a direction take another route. -/
def State.rerouteDir (s : State) (dir : Nat) (l : List Packet) : State :=
  match dirFrom dir with
  | some die => l.foldl (fun t p => match t.hopOf die p with
      | .go d => t.enqueue d p
      | _ => (t.lostRoute.turnBack die p false true).getD t) s
  | none => s

/-- 18 R420: a link that fails at bring-up is FAILED, and after a failure before it RETIRED. -/
def State.failAtBoot (s : State) (k : Fin 18) : State :=
  if s.links[k].failedBefore then
    { (s.setLink k (fun x => { x with st := .retired, width := 0 })) with persist := { s.persist with links := s.persist.links ++ [k.val] } }
  else s.setLink k (fun x => { x with st := .failed, width := 0 })

/-- 18 R417, R420: a link fails. -/
def State.failLink (s : State) (k : Fin 18) : State :=
  if s.life.stat = .bringup then s.failAtBoot k
  else
    let l := s.links[k]
    let again := l.out.unacked.length + (if k.val < 6 then l.inn.unacked.length else 0)
    let s1 := s.setLink k (fun x =>
      { x with st := .failed, width := 0, quiesce := false, failovers := min 65535 (x.failovers + again), out := x.out.failed, inn := x.inn.failed })
    (s1.rerouteDir (2 * k.val) l.out.pending).rerouteDir (2 * k.val + 1) l.inn.pending

/-- The link of a number. -/
def linkFin (k : Nat) : Fin 18 := Fin.ofNat 18 k

/-- 18 R415: the group of four of a lane. -/
def laneGroup (lane : Fin 16) : BitVec 16 := 0xF#16 <<< (4 * (lane.val / 4))

/-- LANE_LOSS (R415): a link loses a lane, and its group of four is left out. -/
def execLaneLoss (link : Nat) (lane : Fin 16) (s : State) : Host.Outcome State Fault Refusal :=
  .next (
    let k := linkFin link
    let l := s.links[k]
    if l.st = .up ∨ l.st = .degraded ∨ l.st = .quiescing ∨ l.st = .training then
      (s.modLink k (fun x => { x with outlanes := x.outlanes ||| laneGroup lane })).retrain k
    else s)

/-- 18 R415: the link has met 16 replays within the last µs. -/
def Link.storm (l : Link) (now : Nat) : Bool := decide (16 ≤ (l.replayAt.filter (fun t => decide (now - t ≤ 1000))).length)

/-- REPLAY_STORM (R415): a link that has met 16 replays within 1 µs retrains. -/
def execReplayStorm (link : Nat) (s : State) : Host.Outcome State Fault Refusal :=
  .next (if s.links[linkFin link].storm s.now then s.retrain (linkFin link) else s)

/-- 18 R415: after a retrain the flits that are not acknowledged are replayed. -/
def LinkDir.resent (d : LinkDir) : LinkDir := { d with wire := d.retry, wantReplay := false }

/-- RETRAIN_COMPLETE (R415, R416): a link trains at the widest width that its good groups allow, or fails. -/
def execRetrainComplete (link : Nat) (s : State) : Host.Outcome State Fault Refusal :=
  .next (
    let k := linkFin link
    let l := s.links[k]
    if !l.retraining then s
    else
      let w := widthOf (l.outlanes ||| s.persist.retiredLanes k.val)
      let twice := decide (w = 4) && (match l.last4 with
        | some t => decide (s.now - t < 100000)
        | none => false)
      if w = 0 ∨ twice then s.failLink k
      else s.setLink k (fun x =>
        { x with st := if x.st = .quiescing then .quiescing else if w = 16 then .up else .degraded, width := w, quiesce := false,
                 retrains := if s.life.stat = .bringup then x.retrains else min 65535 (x.retrains + 1), replayAt := [], last4 := if w = 4 then some s.now else x.last4, out := x.out.resent, inn := x.inn.resent }))

/-- RETRAIN_TIMEOUT (R416): the attempt has exceeded 400 ns, and the link fails. -/
def execRetrainTimeout (link : Nat) (s : State) : Host.Outcome State Fault Refusal :=
  .next (if s.links[linkFin link].retraining then s.failLink (linkFin link) else s)

/-- LINK_QUIESCE (R420). -/
def execLinkQuiesce (link : Nat) (s : State) : Host.Outcome State Fault Refusal :=
  .next (
    let l := s.links[linkFin link]
    if l.st = .up ∨ l.st = .degraded then s.setLink (linkFin link) (fun x => { x with st := .quiescing }) else s)

/-- 18 R420: nothing of a direction is left to be sent, acknowledged or delivered. -/
def LinkDir.empty (d : LinkDir) : Bool :=
  d.queue.isEmpty && d.spark.isEmpty && d.ember.isEmpty && d.log.isEmpty && d.retry.isEmpty && d.unacked.isEmpty && d.arrived.isEmpty &&
    d.partials.isEmpty

/-- QUIESCE_COMPLETE (R420): the link is RETIRED and entered in the persistent tables; packets that waited take another route. -/
def execQuiesceComplete (link : Nat) (s : State) : Host.Outcome State Fault Refusal :=
  .next (
    let k := linkFin link
    let l := s.links[k]
    if l.st = .quiescing ∧ !l.quiesce ∧ l.out.empty ∧ l.inn.empty then
      let s1 := s.setLink k (fun x => { x with st := .retired, width := 0, out := .idle, inn := .idle })
      let s2 : State := { s1 with persist := { s1.persist with links := s1.persist.links ++ [k.val] } }
      (((s2.eventLog 5 k.val 4).manage 0).rerouteDir (2 * k.val) l.out.held).rerouteDir (2 * k.val + 1) l.inn.held
    else s)

end Sys2Proof.Machine
end

