-- ==== Sys2Proof/Machine/Health.lean ====
section
/-! DEFINITION. The Damper of a channel, the receivers of the links, the health windows, and what the entry of a unit in the persistent tables does
(16 R373, R379 to R382; 18 R407, R411, R414, R415, R419; 19 R436; 20 R443; 15 R360). -/

namespace Sys2Proof.Machine

/-! ## Units (19 R436, 20 R443) -/

/-- 20 R443: where the corrected-event count of a unit stands. -/
def unitKey : HealthUnit → Nat
  | .core d q c => 4 * (72 * d.val + 18 * q.val + c.val)
  | .slice d s => 0x800 + 4 * (64 * d.val + s.val)
  | .channel st ch => 0xC00 + 4 * (32 * st.val + ch.val)
  | .capctl d k => 0x1000 + 4 * (4 * d.val + k.val)
  | .lane i l => 0x1100 + 4 * (16 * i.val + l.val)

/-- 20 R443: kind and index of a unit in the event log (log entry 47). -/
def unitCode : HealthUnit → Nat × Nat
  | .core d q c => (0, 72 * d.val + 18 * q.val + c.val)
  | .slice d s => (1, 64 * d.val + s.val)
  | .channel st ch => (2, 32 * st.val + ch.val)
  | .capctl d k => (3, 4 * d.val + k.val)
  | .lane i l => (4, 16 * i.val + l.val)

/-- 19 R436: the threshold of a unit. -/
def threshold : HealthUnit → Nat
  | .core _ _ _ => 64
  | .slice _ _ => 32
  | .channel _ _ => 256
  | .capctl _ _ => 256
  | .lane _ _ => 4096

/-- Adds to a list without repeats. -/
def addNew (l : List Nat) (x : Nat) : List Nat := if l.contains x then l else l ++ [x]

/-- 20 R443: a unit in the persistent tables. -/
def Persist.enter (p : Persist) (u : HealthUnit) : Persist :=
  let i := (unitCode u).2
  match u with
  | .core _ _ _ => { p with deadCores := addNew p.deadCores i }
  | .slice _ _ => { p with slices := addNew p.slices i }
  | .channel _ _ => { p with channels := addNew p.channels i }
  | .capctl _ _ => { p with capctls := addNew p.capctls i }
  | .lane _ _ => { p with lanes := addNew p.lanes i }

/-! ## Pages on retired memory (15 R360) -/

/-- The indices of a table's entries that hold something. -/
def State.usedIn (s : State) (t n : Nat) : List Nat :=
  ((s.mem.filter (fun c => decide (t ≤ c.1) && decide (c.1 < t + 8 * n))).map (fun c => (c.1 - t) / 8)).eraseDups

/-- 15 R350: the tables that a table of levels 3 to 1 names, with the number of pages before each. -/
def State.below (s : State) (t n : Nat) (base : Nat) : List (Nat × Nat) :=
  (s.usedIn t n).filterMap (fun i => match s.down t i with
    | .ok x => some (x, base * 2048 + i)
    | .error _ => none)

/-- 15 R349: the leaves of a context: page, address and entry. -/
def State.leaves (s : State) (c : Fin 64) : List (Nat × Nat × Nat) :=
  let l2 := s.below (s.ctxs[c]).ptroot 512 0
  let l1 := (l2.map (fun e => s.below e.1 2048 e.2)).flatten
  let l0 := (l1.map (fun e => s.below e.1 2048 e.2)).flatten
  (l0.map (fun e => (s.usedIn e.1 2048).filterMap (fun i => match s.entry e.1 i with
    | .ok x => some (e.2 * 2048 + i, e.1 + 8 * i, x)
    | .error _ => none))).flatten

/-- 15 R360: the pages of a context whose frames lie on retired memory become RETIRED. -/
def State.retirePages (s : State) (c : Fin 64) : State :=
  (s.leaves c).foldl (fun t e =>
    let l := leafOf e.2.2
    if l.ok ∧ (l.state = stFast ∨ l.state = stCap) ∧ t.leafFits l ∧ t.retiredFrame (frameLocal l.frame) then
      (t.setLeaf e.2.1 (leafSetState e.2.2 stRetired)).shootdown c e.1 1
    else t) s

/-- The same for every context that has latched a descriptor. -/
def State.retireAll (s : State) : State :=
  (List.finRange 64).foldl (fun t c => if (t.ctxs[c]).st.reserves then t.retirePages c else t) s

/-! ## The entry of a unit (19 R436) -/

/-- 19 R436, 20 R439, R443: a unit enters the persistent tables, with what that does at once: a slice stops caching and drops its lines, a
channel's or controller's pages are RETIRED, a link retrains without the lane's group. -/
def State.enterUnit (s : State) (u : HealthUnit) (reason : Nat) : State :=
  let k := unitCode u
  let s1 := (({ s with persist := s.persist.enter u } : State).eventLog k.1 k.2 reason).manage 0
  match u with
  | .core _ _ _ => s1
  | .slice _ _ => { s1 with l2 := s1.l2.filter (fun l => decide (s1.sliceOf l.addr ≠ k.2)), through := addNew s1.through k.2 }
  | .channel _ _ => s1.retireAll
  | .capctl _ _ => s1.retireAll
  | .lane i l => (s1.modLink i (fun x => { x with outlanes := x.outlanes ||| laneGroup l })).retrain i

/-- HEALTH_THRESHOLD (R436): a unit whose corrected events have reached its threshold within one window is entered. -/
def execHealthThreshold (u : HealthUnit) (s : State) : Host.Outcome State Fault Refusal :=
  .next (if s.life.stat = .ready ∧ threshold u ≤ tgetD s.life.health (unitKey u) 0 then s.enterUnit u 1 else s)

/-- 19 R436: a corrected event of a unit is counted; the count that reaches the threshold enters the unit. -/
def State.corrected (s : State) (u : HealthUnit) : State :=
  let n := tgetD s.life.health (unitKey u) 0 + 1
  let t : State := { s with life := { s.life with health := tput s.life.health (unitKey u) n } }
  if n = threshold u then t.enterUnit u 1 else t

/-- 19 R436: a second uncorrectable event of a unit within 24 hours enters it. -/
def State.uncorrected (s : State) (u : HealthUnit) : State :=
  let k := unitKey u
  let again := match tget s.life.uncorr k with
    | some t => decide (s.now - t < 86400 * 10 ^ 9)
    | none => false
  let t : State := { s with life := { s.life with uncorr := tput s.life.uncorr k s.now } }
  if again then t.enterUnit u 2 else t

/-- 19 R436: the counts of a kind of window. -/
def inWindowKind (k : HealthKind) (key : Nat) : Bool := match k with
  | .day => decide (key < 0xC00)
  | .hour => decide (0xC00 ≤ key) && decide (key < 0x1100)
  | .second => decide (0x1100 ≤ key)

/-- HEALTH_WINDOW_END (R436): counts below threshold are discarded. -/
def execHealthWindowEnd (k : HealthKind) (s : State) : Host.Outcome State Fault Refusal :=
  .next { s with life := { s.life with health := s.life.health.filter (fun e => !inWindowKind k e.1) } }

/-- 16 R377, 19 R436: the channel or the controller of a device address. -/
def State.unitAt (s : State) (p : Nat) : Option HealthUnit :=
  let cap := fun (d : Nat) => some (HealthUnit.capctl (Fin.ofNat 4 d) (Fin.ofNat 4 ((p - capBase d) / 1024)))
  match s.channelOf p, s.region p with
  | some ch, _ => some (.channel (Fin.ofNat 8 (ch / 32)) (Fin.ofNat 32 ch))
  | none, .cap d => cap d
  | none, .carve => cap (homeDie p)
  | none, _ => none

/-- PATROL_READ (R436): an address is read; a corrected read counts, and an uncorrectable one too. -/
def execPatrolRead (addr : Nat) (corrected : Bool) (s : State) : Host.Outcome State Fault Refusal :=
  .next (if s.life.stat ≠ .ready then s
    else match s.unitAt addr with
      | none => s
      | some u => if s.poisoned addr 1 then s.uncorrected u else if corrected then s.corrected u else s)

/-! ## Receivers (18 R411, R414) -/

/-- 18 R414: an ACKSEQ covers a number. -/
def ackCovers (ack f : BitVec 14) : Bool := decide ((ack - f).toNat < 8192)

/-- 18 R414, R420: a sender gives up the flits and packets that an ACKSEQ covers; before its receiver has had a flit it covers none. -/
def LinkDir.acked (d : LinkDir) (ack : BitVec 14) : LinkDir :=
  if !d.got then d
  else
    { d with retry := d.retry.filter (fun f => !ackCovers ack f.fseq),
             unacked := d.unacked.filter (fun e => match e.2 with
               | some f => !ackCovers ack f
               | none => true) }

/-- 18 R407: a packet that its flits make is dropped, for a reserved TYPE or for a LEN that is not their number. -/
def badPacket (cls : LinkClass) (fs : List Flit) : Bool :=
  decide (8 < (packetFrom cls fs).type.toNat) || decide (leNat ((((fs.map (·.data)).flatten).drop 11).take 1) % 16 ≠ fs.length % 16)

/-- 18 R407: the flit completes a packet that is dropped. -/
def LinkDir.drops (d : LinkDir) (f : Flit) : Bool := f.last && badPacket (classOf f.cls) (tgetD d.partials f.cls [] ++ [f])

/-- 18 R407, R411: a flit joins the partial packet of its class; a complete packet that is not dropped is kept for its delivery. -/
def LinkDir.join (d : LinkDir) (f : Flit) : LinkDir :=
  let k := f.cls
  let fs := tgetD d.partials k [] ++ [f]
  if f.last then
    let p := packetFrom (classOf k) fs
    if badPacket (classOf k) fs then { d with partials := tdel d.partials k }
    else { d with partials := tdel d.partials k, arrived := d.arrived ++ [p], buffered := tput d.buffered k (tgetD d.buffered k 0 + fs.length) }
  else { d with partials := tput d.partials k fs }

/-- 18 R419: an error that a link's check has caught counts as a corrected event of one of its lanes; the spec does not say of which (log entry 59). -/
def State.laneEvent (s : State) (dir : Nat) : State :=
  s.corrected (.lane (dirLink dir) (Fin.ofNat 16 (Config.freeByte s.tick dir).toNat))

/-- FLIT_RECEIVE (R414): the receiver of a direction checks the next flit on the wire, which `noise` may have changed. -/
def execFlitReceive (dir : Nat) (noise : BitVec 512) (s : State) : Host.Outcome State Fault Refusal :=
  .next (
    let d := s.dir dir
    match d.wire with
    | [] => s
    | f0 :: r =>
      if !s.links[dirLink dir].carries ∨ s.stalled dir then s
      else
        let f := if noise = 0 then f0 else f0.hit noise
        let back := if dir % 2 = 0 then dir + 1 else dir - 1
        if !f.good then (s.modDir dir (fun x => { x with wire := r, wantReplay := true })).laneEvent dir
        else if f.cls = 3 then
          (if d.wantReplay then s.modDir dir (fun x => { x with wire := r })
          else (s.modDir dir (fun x => { x with wire := r })).modDir back (·.acked f.ack))
        else if f.fseq = d.expect then
          let t := (s.modDir dir (fun x => ({ x with wire := r, expect := x.expect + 1, got := true, wantReplay := false } : LinkDir).join f)).modDir back
            (·.acked f.ack)
          if d.drops f then t.laneEvent dir else t
        else s.modDir dir (fun x => { x with wire := r }))

/-- 18 R414: the flits of a retry buffer from a number on. -/
def LinkDir.replayFrom (d : LinkDir) (f : BitVec 14) : List Flit := d.retry.filter (fun g => decide ((g.fseq - f).toNat < 8192))

/-- 18 R415, R421: a link meets a replay request; REPLAYS counts those that this module's sender receives. -/
def Link.replay (l : Link) (now : Nat) (ours : Bool) : Link :=
  { l with replays := if ours then l.replays + 1 else l.replays, replayAt := l.replayAt.filter (fun t => decide (now - t ≤ 1000)) ++ [now] }

/-- REPLAY_REQUEST (R414, R415): the sender resends every flit from the one that failed on; 16 requests within 1 µs retrain the link. In the pause of a
step switch no flit moves (13 R312). -/
def execReplayRequest (dir : Nat) (s : State) : Host.Outcome State Fault Refusal :=
  .next (
    let d := s.dir dir
    if d.wantReplay ∧ s.links[dirLink dir].carries ∧ !s.stalled dir ∧ !d.wire.any (fun f => decide (f.fseq = d.expect) && decide (f.cls ≠ 3)) ∧
       !(d.replayFrom d.expect).isEmpty then
      let t := (s.modDir dir (fun x => { x with wire := x.wire ++ x.replayFrom x.expect })).modLink (dirLink dir)
        (fun l => l.replay s.now (dirFrom dir).isSome)
      if t.links[dirLink dir].storm s.now then t.retrain (dirLink dir) else t
    else s)

/-! ## The Damper (16 R379 to R382) -/

/-- 16 R380: alerts that are asserted enter the list as it has room. -/
def Channel.refill : Nat → Channel → Channel
  | 0, c => c
  | n + 1, c => match c.asserted with
    | r :: q => if c.list.length < 16 then Channel.refill n (({ c with asserted := q } : Channel).add r) else c
    | [] => c

/-- 16 R382: a channel that is out of service. -/
def State.channelDead (s : State) (ch : Nat) : Bool := !((s.die (ch / 64)).clt.contains (ch % 64))

/-- ROW_ALERT (R379, R381): a stack alerts for a row of a channel: its counter has reached ATH, is saturated, or fails its check. -/
def execRowAlert (ch row : Nat) (sat corrupt : Bool) (s : State) : Host.Outcome State Fault Refusal :=
  .next (if s.life.stat ≠ .ready ∨ s.channelDead ch then s
    else
      let c := s.channel ch
      let c1 : Channel :=
        { c with counters := tput c.counters row (if sat || corrupt then 4095 else s.ath),
                 corruptRows := if corrupt then addNew c.corruptRows row else c.corruptRows }
      { s with channels := tput s.channels ch (c1.alert (row, sat || corrupt, corrupt)) })

/-- 16 R380: a channel may run an episode: it has a row to refresh, has served requests for 500 ns since the last one, and no request has waited behind
two. -/
def Channel.episodeDue (c : Channel) (now : Nat) : Bool :=
  !c.list.isEmpty && (c.episodeAt.all (fun t => decide (500 ≤ now - t))) && c.waiting.all (fun n => decide (n < 2))

/-- DAMPER_EPISODE (R380, R381): the neighbours of up to 4 rows are refreshed, their counters are 0 with a valid check and they leave the list; each
corrupt counter counts in the channel's health window. -/
def execDamperEpisode (ch : Nat) (s : State) : Host.Outcome State Fault Refusal :=
  .next (
    let c := s.channel ch
    if !c.episodeDue s.now then s
    else
      let done := c.list.take 4
      let c1 : Channel :=
        { c with list := c.list.drop 4, episodes := c.episodes + 1, counters := done.foldl (fun t r => tdel t r.1) c.counters,
                 corruptRows := c.corruptRows.filter (fun r => !done.any (fun e => e.1 == r)), alerted := false, waiting := c.waiting.map (· + 1),
                 episodeAt := some s.now }
      let s1 : State := { s with channels := tput s.channels ch (Channel.refill c1.asserted.length c1) }
      (done.filter (fun r => r.2.2)).foldl (fun t _ => t.corrected (.channel (Fin.ofNat 8 (ch / 32)) (Fin.ofNat 32 ch))) s1)

/-! ## Errors of data and what the Frado controller does (19 R434 to R436, 20 R443, 05 R106) -/

/-- The core as a unit of health, by its key. -/
def coreUnit (key : Nat) : HealthUnit := .core (Fin.ofNat 4 (key / 72)) (Fin.ofNat 4 (key / 18)) (Fin.ofNat 18 (key % 18))

/-- 19 R436: an uncorrectable event of the core that holds a group. -/
def State.coreError (s : State) (g : Nat) : State := match (s.group g).bind (·.core) with
  | some k => s.uncorrected (coreUnit k)
  | none => s

/-- 19 R434, R435: the data of a memory line becomes uncorrectable: an event of its channel or controller (log entry 59). -/
def State.decay (s : State) (line : Nat) : State :=
  if s.bad.contains line then s
  else
    let t : State := { s with bad := s.bad ++ [line] }
    match t.unitAt (128 * line) with
    | some u => t.uncorrected u
    | none => t

/-- 19 R434, R435: a word of a window of a group's scratchpad becomes uncorrectable: what reads it fails, and what writes it whole heals it. -/
def State.decaySpad (s : State) (g window word : Nat) : State :=
  match s.group g with
  | some x => if x.onCore ∧ !x.badWords.contains (window, word) then
      (s.modGroup g (fun y => { y with badWords := y.badWords ++ [(window, word)] })).coreError g
    else s
  | none => s

/-- 19 R434: a word of a tile or of a FIFO becomes uncorrectable. R435 names no agent that meets it; ERR and the broken slab, which stop what would use
the data, are the model's choice (DESIGN CHOICE, log entry 59). -/
def State.decayTile (s : State) (g k : Nat) : State :=
  match s.group g with
  | some x =>
    if !x.onCore then s
    else
      let f := Fin.ofNat 4 k
      (s.modGroup g (fun y =>
        if k < 8 then { y with tiles := y.tiles.set (Fin.ofNat 8 k) { y.tiles[Fin.ofNat 8 k] with err := true } }
        else { y with fifos := y.fifos.set f (y.fifos[f].map (fun q => { q with slabs := q.slabs.map (fun b => { b with failed := true }) })) })).coreError g
  | none => s

/-- 19 R434, R435: a sector of an L1 line fails its parity: the next load of it is served as a miss, and the core counts a corrected event. -/
def State.parity (s : State) (core line : Nat) : State :=
  if (s.coreAt core).l1.any (fun l => l.addr == line / 128 * 128) then
    (s.modCore core (fun c => c.l1Drop (line / 128 * 128) 128)).corrected (coreUnit core)
  else s

/-- 05 R106: the Frado controller alone takes a warp of a resident group to PL2, and alone lets it go, to the level where it was. -/
def State.frado (s : State) (g w : Nat) (enter : Bool) : State :=
  match s.group g, s.warp g w with
  | some x, some y =>
    if x.st ≠ .resident ∨ y.sched = .exited ∨ (enter ↔ y.plvl = 2) then s
    else s.modWarp g w (fun z => { z with plvl := if enter then 2 else if z.intrap then 1 else 0 })
  | _, _ => s

/-- 20 R443: one of the two copies of the persistent tables comes to fail its check. -/
def State.spoilTable (s : State) (second : Bool) : State :=
  { s with persist := if second then { s.persist with good1 := false } else { s.persist with good0 := false } }

end Sys2Proof.Machine
end

