-- ==== Sys2Proof/Machine/Sha.lean ====
section
/-! DEFINITION. SHA-384 (FIPS 180-4), which the attestation report of 20 R442 takes of the configuration table and of the persistent tables. Its
constants are the fractional parts of roots of primes, computed here. -/

namespace Sys2Proof.Machine

/-- A number is prime, by trial of every smaller number. -/
def isPrime (n : Nat) : Bool := decide (2 ≤ n) && (List.range n).all (fun d => decide (d < 2) || decide (n % d ≠ 0))

/-- The first 80 primes. -/
def shaPrimes : List Nat := (List.range 410).filter isPrime

/-- The integer k-th root of x, its bits from n - 1 down. -/
def rootBits (k x : Nat) : Nat → Nat → Nat
  | 0, r => r
  | n + 1, r => rootBits k x n (if (r + 2 ^ n) ^ k ≤ x then r + 2 ^ n else r)

/-- The first 64 bits of the fractional part of a k-th root. -/
def rootFrac (k p : Nat) : BitVec 64 := BitVec.ofNat 64 (rootBits k (p * 2 ^ (64 * k)) 72 0)

/-- The 80 round constants. -/
def shaK : List DWord := shaPrimes.map (rootFrac 3)

/-- The initial state of SHA-384: the 9th to the 16th prime. -/
def shaInit : Vector DWord 8 := Vector.ofFn (fun (i : Fin 8) => rootFrac 2 (shaPrimes.getD (8 + i.val) 0))

/-- Rotation to the right. -/
def ror (x : DWord) (n : Nat) : DWord := x.rotateRight n

/-- A word of the message schedule from the sixteen before it, newest first. -/
def shaNext (w : List DWord) : DWord :=
  let a := w.getD 1 0
  let b := w.getD 14 0
  (ror a 19 ^^^ ror a 61 ^^^ (a >>> 6)) + w.getD 6 0 + (ror b 1 ^^^ ror b 8 ^^^ (b >>> 7)) + w.getD 15 0

/-- The message schedule, newest word first, with n words to go. -/
def shaSched : Nat → List DWord → List DWord
  | 0, w => w
  | n + 1, w => shaSched n (shaNext w :: w)

/-- One round. -/
def shaRound (h : Vector DWord 8) (kw : DWord) : Vector DWord 8 :=
  let a := h[0]
  let e := h[4]
  let t1 := h[7] + (ror e 14 ^^^ ror e 18 ^^^ ror e 41) + ((e &&& h[5]) ^^^ (~~~e &&& h[6])) + kw
  let t2 := (ror a 28 ^^^ ror a 34 ^^^ ror a 39) + ((a &&& h[1]) ^^^ (a &&& h[2]) ^^^ (h[1] &&& h[2]))
  #v[t1 + t2, a, h[1], h[2], h[3] + t1, e, h[5], h[6]]

/-- The number that some bytes form, big-endian. -/
def beNat (l : List Byte) : Nat := l.foldl (fun a b => 256 * a + b.toNat) 0

/-- One block of 128 bytes. -/
def shaBlock (h : Vector DWord 8) (b : List Byte) : Vector DWord 8 :=
  let w := ((List.range 16).map (fun i => BitVec.ofNat 64 (beNat ((b.drop (8 * i)).take 8)))).reverse
  let kw := (shaSched 64 w).reverse.zipWith (fun x k => x + k) shaK
  let r := kw.foldl shaRound h
  Vector.ofFn (fun (i : Fin 8) => h[i] + r[i])

/-- The bytes of a number, big-endian. -/
def beBytes (n v : Nat) : List Byte := (leBytes n v).reverse

/-- The message with its padding. -/
def shaPad (l : List Byte) : List Byte :=
  l ++ [0x80#8] ++ List.replicate ((239 - l.length % 128) % 128) 0 ++ beBytes 16 (8 * l.length)

/-- SHA-384 of some bytes, 48 bytes. -/
def sha384 (l : List Byte) : List Byte :=
  let p := shaPad l
  let h := (List.range (p.length / 128)).foldl (fun h i => shaBlock h ((p.drop (128 * i)).take 128)) shaInit
  ((h.toList.take 6).map (fun w => beBytes 8 w.toNat)).flatten

end Sys2Proof.Machine
end

