-- ==== Sys2Proof/Machine/LifeEvents.lean ====
section
/-! DEFINITION. The device over its life: power, boot, bring-up, function-level reset, steps, attestation, images, and the host's access to
device memory (20 R437 to R450, 13 R312, 14 R344, 05 R111). -/

namespace Sys2Proof.Machine

/-- Changes identity and control. -/
def State.modLife (s : State) (f : Life → Life) : State := { s with life := f s.life }

/-! ## Boot (20 R440, R441) -/

/-- POWER_GOOD (R440). -/
def execPowerGood (s : State) : Host.Outcome State Fault Refusal :=
  .next (if s.life.stat = .off then s.modLife (fun l => { l with stat := .romcheck }) else s)

/-- 20 R441: both signatures of an image verify and its version is at least the fused minimum. -/
def imagePasses (min : Nat) (i : FirmwareImage) : Bool := i.rsaOk && i.slhOk && decide (min ≤ i.version)

/-- 18 R420: a link as bring-up finds it: TRAINING, or RETIRED without a usable width. -/
def Persist.linkAtBoot (p : Persist) (k : Nat) (l : Link) : Link :=
  { Link.down with st := if p.links.contains k ∨ widthOf (p.retiredLanes k) = 0 then .retired else .training, failedBefore := l.failedBefore }

/-- 18 R420, 20 R439: the links take the states that bring-up gives them; a change sets MGMTCAUSE bit 2. -/
def State.setLinks (s : State) (v : Vector Link 18) : State :=
  let t : State := { s with links := v }
  if v.toList.map (·.st) = s.links.toList.map (·.st) then t else t.manage 2

/-- ROM_CHECK_COMPLETE (R441, R444): every image passes, the images run and the links begin to train, or RECOVERY. -/
def execRomCheckComplete (s : State) : Host.Outcome State Fault Refusal :=
  .next (
    if s.life.stat ≠ .romcheck then s
    else if s.persist.images.all (imagePasses s.persist.minVersion) then
      (s.modLife (fun l => { l with stat := .bringup, running := s.persist.images })).setLinks (Vector.ofFn (fun (k : Fin 18) => s.persist.linkAtBoot k.val s.links[k]))
    else s.modLife (fun l => { l with stat := .recovery }))

/-! ## Bring-up (20 R444 to R448) -/

/-- 20 R445, R446: the configuration of a die from the persistent tables. -/
def Persist.dieConf (p : Persist) (d : Nat) : DieConf :=
  { cores := (List.range 4).map (fun q => (List.range 18).filter (fun c => !p.deadCores.contains (72 * d + 18 * q + c))),
    slt := (List.range 64).filter (fun x => !p.slices.contains (64 * d + x)),
    clt := (List.range 64).filter (fun x => !p.channels.contains (64 * d + x)),
    capk := (List.range 4).all (fun k => !p.capctls.contains (4 * d + k)) }

/-- 20 R447: the configuration of a die is supported. -/
def DieConf.supported (d : DieConf) : Bool :=
  let stack := fun (i : Nat) => (d.clt.filter (fun c => decide (c / 32 = i))).length
  d.cores.all (fun q => decide (12 ≤ q.length) && decide (q.length ≤ 18)) && decide (40 ≤ d.slt.length) && decide (d.slt.length ≤ 64) &&
    decide (20 ≤ stack 0) && decide (20 ≤ stack 1)

/-- 18 R420: a link that is still TRAINING trains at its width. -/
def Persist.trained (p : Persist) (k : Nat) (l : Link) : Link :=
  if l.st = .training then
    let w := widthOf (l.outlanes ||| p.retiredLanes k)
    if w = 0 then { l with st := if l.failedBefore then .retired else .failed } else { l with st := if w = 16 then .up else .degraded, width := w }
  else l

/-- 18 R420: the links that bring-up retires are RETIRED from then on. -/
def Persist.retire (p : Persist) (v : Vector Link 18) : Persist :=
  { p with links := p.links ++ ((List.finRange 18).filter (fun k => decide (v[k].st = .retired) && !p.links.contains k.val)).map (·.val) }

/-- 20 R443: bring-up reads the tables: a copy that fails its check is rewritten from the other. -/
def Persist.mended (p : Persist) : Persist := if p.good0 || p.good1 then { p with good0 := true, good1 := true } else p

/-- 16 R379: ATH as bring-up sets it: a multiple of 256 from 256 to 3,072, by default 1,024. -/
def Persist.athAtBoot (p : Persist) : Nat := if p.ath % 256 = 0 ∧ 256 ≤ p.ath ∧ p.ath ≤ 3072 then p.ath else 1024

/-- 20 R447: every die-to-die link has a width. -/
def linksSupported (v : Vector Link 18) : Bool := (List.finRange 18).all (fun k => decide (6 ≤ k.val) || decide (4 ≤ v[k].width))

/-- 05 R100, 20 R448: the device memory visible in the configuration. -/
def State.visible (s : State) : Nat :=
  ((List.range 4).map (fun d => (s.fastLive d - s.fastLive d / 64) + (s.capLive d - s.capLive d / 64))).sum

/-- BRINGUP_COMPLETE (R443, R444, R447): the configuration is built from the persistent tables, and the device is READY or UNSUPPORTED; without a good
copy of the tables it is UNSUPPORTED. -/
def execBringupComplete (s : State) : Host.Outcome State Fault Refusal :=
  .next (
    if s.life.stat ≠ .bringup then s
    else
      let dies := (List.range 4).map s.persist.dieConf
      let links := Vector.ofFn (fun (k : Fin 18) => s.persist.trained k.val s.links[k])
      let ok := dies.all DieConf.supported && linksSupported links && (s.persist.good0 || s.persist.good1)
      let s0 := (s.modLife (fun l =>
        { l with stat := if ok then .ready else .unsupported, dies := dies, widths := links.toList.map (·.width), nodeid := s.persist.nodeid,
                 cyc := Vector.replicate 4 0 })).setLinks links
      let s1 : State := { s0 with ath := s.persist.athAtBoot, persist := s.persist.mended.retire links }
      s1.modLife (fun l => { l with savepool := s1.visible / 4 / 128 * 128 }))

/-! ## Loss of power and reset (20 R439, R440, R450) -/

/-- 20 R440: volatile state is lost; the persistent tables and host memory stay. -/
def State.unpowered (s : State) : State :=
  { State.reset with
    persist := s.persist, mem := s.mem.filter (fun c => decide (hostBase ≤ c.1)), bad := s.bad.filter (fun l => decide (hostBase / 128 ≤ l)),
    links := s.links.map (fun l => { Link.down with failedBefore := decide (l.st = .failed) || (decide (s.life.stat = .off) && l.failedBefore) }),
    cur := s.cur, agenda := s.agenda, tick := s.tick, uid := s.uid }

/-- POWER_LOSS (R440). -/
def execPowerLoss (s : State) : Host.Outcome State Fault Refusal := .next (if s.life.stat = .off then s else s.unpowered)

/-- THERMAL_TRIP (R450): a die at 1.8 GHz trips; an event-log entry survives with the persistent tables. -/
def execThermalTrip (die : Fin 4) (s : State) : Host.Outcome State Fault Refusal :=
  .next (if s.life.stat ≠ .off ∧ s.life.step[die] = 3 then (s.eventLog 6 die.val 5).unpowered else s)

/-- 20 R439: a migration under way is undone. -/
def State.undoMig (s : State) (m : Migration) : State :=
  if m.step = .waiting then s
  else
    let s1 := match s.migLeaf m with
      | .leaf a e => if e = m.lockLeaf then s.setLeaf a m.oldLeaf else s
      | _ => s
    s1.frameReturn m.frame

/-- FUNCTION_LEVEL_RESET (R439): every context is FREE and every queue UNBOUND; persistent tables, configuration, NODEID and pools stay. -/
def execFunctionLevelReset (s : State) : Host.Outcome State Fault Refusal :=
  .next (
    if !s.open_ then s
    else
      let s1 := s.migs.foldl (fun t e => t.undoMig e.2) s
      let s2 := s1.dropMigs (fun _ => true)
      { s2 with ctxs := s2.ctxs.map (fun x => { Ctx.free with notifyN := x.notifyN }),
                queues := s2.queues.map (fun q => { q with st := .unbound, loaded := none, aged := 0 }),
                launches := [], groups := [], memops := [], numops := [], popWaits := [], hods := [], copies := [], exchs := [], clusters := [],
                reds := [], remotes := [], binds := [], inbound := [],
                cores := s2.cores.map (fun e => (e.1, { e.2 with tlb := [], engine := [] })) })

/-! ## Steps and causes (20 R449, 13 R312) -/

/-- STEP_CHANGE (R449, R312): one step down or up, at most once in 100 µs a die and up no further than STEPCAP; the die's clock pauses. -/
def execStepChange (die : Fin 4) (up : Bool) (s : State) : Host.Outcome State Fault Refusal :=
  .next (
    let k := s.life.step[die].toNat
    let due : Bool := match s.life.stepAt[die] with
      | some t => decide (100000 ≤ s.now - t)
      | none => true
    let ok := if up then decide (s.life.stepcap.toNat < k) else decide (k < 3)
    if decide (s.life.stat = .ready) && due && ok then
      (s.modLife (fun l =>
        { l with step := l.step.set die (BitVec.ofNat 2 (if up then k - 1 else k + 1)), paused := l.paused.set die true,
                 stepAt := l.stepAt.set die (some s.now) })).manage 1
    else s)

/-- CLOCK_PAUSE_END (R312). -/
def execClockPauseEnd (die : Fin 4) (s : State) : Host.Outcome State Fault Refusal :=
  .next (s.modLife (fun l => { l with paused := l.paused.set die false }))

/-- STEPCAP_WRITE (R449). -/
def execStepcapWrite (v : BitVec 2) (s : State) : Host.Outcome State Fault Refusal :=
  .next (if s.identLive then s.modLife (fun l => { l with stepcap := v }) else s)

/-- MGMTCAUSE_CLEAR (R439). -/
def execMgmtcauseClear (v : BitVec 32) (s : State) : Host.Outcome State Fault Refusal :=
  .next (if s.identLive then s.modLife (fun l => { l with mgmt := l.mgmt &&& ~~~(v.setWidth 4) }) else s)

/-- THERMAL_WARNING (R439): a junction reaches 100 °C. -/
def execThermalWarning (_die : Fin 4) (s : State) : Host.Outcome State Fault Refusal := .next (if s.life.stat = .off then s else s.manage 3)

/-- CORE_RESTART (R111): a core that HALT stopped at PL2 issues again. -/
def execCoreRestart (core : Nat) (s : State) : Host.Outcome State Fault Refusal :=
  .next (if (s.coreAt core).halted then s.modCore core (fun c => { c with halted := false }) else s)

/-! ## Attestation and images (20 R441, R442) -/

/-- 20 R442: a command of ATTCMD; one under way refuses it (log entry 50). -/
def State.attCmd (s : State) (n : Nat) : State :=
  if !s.identLive then s
  else if s.life.attcmd ≠ 0 then s.modLife (fun l => { l with attstat := 3 })
  else s.modLife (fun l => { l with attcmd := n, attstat := 1 })

/-- REPORT (R442). -/
def execReport (s : State) : Host.Outcome State Fault Refusal := .next (s.attCmd 1)

/-- CERTS (R442). -/
def execCerts (s : State) : Host.Outcome State Fault Refusal := .next (s.attCmd 2)

/-- NODESET (R442). -/
def execNodeset (s : State) : Host.Outcome State Fault Refusal := .next (s.attCmd 3)

/-- Some bytes filled up with zeros. -/
def padTo (n : Nat) (l : List Byte) : List Byte := l ++ List.replicate (n - l.length) 0

/-- The bits of a list of positions, in n bytes. -/
def bitBytes (n : Nat) (l : List Nat) : List Byte := leBytes n (l.eraseDups.foldl (fun a i => a + 2 ^ i) 0)

/-- 20 R446: the block of a die. -/
def DieConf.bytes (d : DieConf) : List Byte :=
  let q := fun (i : Nat) => d.cores.getD i []
  padTo 256 (padTo 0x20 (padTo 8 ((List.range 4).map (fun i => BitVec.ofNat 8 (q i).length)) ++ ((List.range 4).map (fun i => bitBytes 4 (q i))).flatten ++
    [BitVec.ofNat 8 d.slt.length, BitVec.ofNat 8 d.clt.length, BitVec.ofNat 8 (b2n d.capk)]) ++
    padTo 64 (d.slt.map (BitVec.ofNat 8)) ++ padTo 64 (d.clt.map (BitVec.ofNat 8)))

/-- 20 R446: the configuration table. -/
def State.configTable (s : State) : List Byte :=
  let head := leBytes 2 1 ++ [s.life.nodeid, BitVec.ofNat 8 (b2n (decide (s.life.stat = .ready)))] ++
    leBytes 2 s.liveCores.length
  let widths := s.life.widths.map (BitVec.ofNat 8)
  padTo 64 (padTo 0x20 (padTo 8 head ++ widths) ++ [12#8, 18#8, 40#8, 64#8, 20#8, 32#8, 0x0F#8, 0#8]) ++
    ((List.range 4).map (fun d => (s.die d).bytes)).flatten

/-- 20 R443: the persistent tables as the host reads them. -/
def Persist.table (p : Persist) : List Byte :=
  let part := fun (l : List Nat) (n i : Nat) => (l.filter (fun x => decide (x / n = i))).map (fun x => x % n)
  padTo 0x100 (
    ((List.range 4).map (fun d => bitBytes 16 (part p.deadCores 72 d))).flatten ++ ((List.range 4).map (fun d => bitBytes 8 (part p.slices 64 d))).flatten ++
    ((List.range 8).map (fun i => bitBytes 4 (part p.channels 32 i))).flatten ++ bitBytes 4 p.capctls ++ leBytes 4 p.lost ++
    ((List.range 18).map (fun i => bitBytes 2 (part p.lanes 16 i))).flatten) ++
  padTo 3840 ((p.log.map (fun e => leBytes 8 e.1 ++ leBytes 8 e.2.1 ++ leBytes 8 e.2.2.1 ++ leBytes 8 e.2.2.2)).flatten)

/-- 20 R442: bytes 0 to 0x16F of a report; its digests and versions are those of the running images. -/
def State.reportBytes (s : State) : List Byte :=
  leBytes 8 0x5450415453455441 ++ Memory.bytes s.bar0 0x40 32 ++ leBytes 8 s.persist.serial.toNat ++
    (s.life.running.map (fun i => beBytes 48 i.digest.toNat)).flatten ++ sha384 s.configTable ++ sha384 s.persist.table ++ leBytes 4 1 ++
    (s.life.running.map (fun i => leBytes 4 i.version)).flatten ++ leBytes 4 s.persist.minVersion ++ leBytes 8 s.life.timer.toNat

/-- Bytes of signatures and certificates, which are free (log entry 20). -/
def freeBytes (n from_ count : Nat) : List Byte := (List.range count).map (fun i => Config.attestByte n (from_ + i))

/-- ATTBUF, at a boundary of 4 KiB, as a local address. -/
def State.attbuf (s : State) : Nat := hostBase + s.bar 0x20 8 % hostBase / 4096 * 4096

/-- ATTESTATION_COMPLETE (R442): the command under way writes ATTBUF, or NODEID for the next bring-up, and ATTSTAT reads done. -/
def execAttestationComplete (s : State) : Host.Outcome State Fault Refusal :=
  .next (
    let n := s.life.attests
    let s1 : State := match s.life.attcmd with
      | 1 => { s with mem := Memory.putBytes s.mem s.attbuf (s.reportBytes ++ freeBytes n 0x170 (384 + 16224)) }
      | 2 => { s with mem := Memory.putBytes s.mem s.attbuf (freeBytes n 0 20480) }
      | 3 => { s with persist := { s.persist with nodeid := BitVec.ofNat 8 (s.bar 0x28 4) } }
      | _ => s
    if s.life.attcmd = 0 then s else s1.modLife (fun l => { l with attcmd := 0, attstat := 2, attests := n + 1 }))

/-- FIRMWARE_IMAGE_LOAD (R441): a new image comes through the management port and runs from the next boot on; one that passes and has a higher version
raises the minimum. -/
def execFirmwareImageLoad (k : Fin 4) (img : FirmwareImage) (s : State) : Host.Outcome State Fault Refusal :=
  .next (
    if s.life.stat = .off then s
    else
      let p := s.persist
      { s with persist := { p with images := p.images.set k.val img,
                                   minVersion := if imagePasses p.minVersion img then max p.minVersion img.version else p.minVersion } })

/-! ## Host access to memory (14 R344, 15 R347) -/

/-- HOST_MEMORY_ACCESS (R344): the host reads (no data) or writes device memory through BAR 2, or its own memory. Memory of dies 1 to 3 is reached over
the link between die 0 and that die, or another route (01 R9); an access with no route has no effect. BAR 2 carries an address and names no context, so
that no context's state refuses it (05 R102; DEDUCED, log entry 58). -/
def execHostMemoryAccess (addr : Nat) (data : List (BitVec 8)) (s : State) : Host.Outcome State Fault Refusal :=
  .next (match s.region addr with
    | .hole => s
    | .host => { s with mem := Memory.putBytes s.mem addr data }
    | _ =>
      if !s.open_ || !s.joined 0 (homeDie addr) then s
      else if data.isEmpty then s.l2Access (s.node * 2 ^ 48 + addr) 1 false
      else ({ s with mem := Memory.putBytes s.mem addr data } : State).l2Access (s.node * 2 ^ 48 + addr) data.length true)

end Sys2Proof.Machine
end

