-- ==== Sys2Proof/Machine/Number.lean ====
section
/-! DEFINITION. Numbers: descriptors, limbs and residences, the exact functions, the issue of a NUM instruction, the stream engines and the Hod
(02 R45 to R47; 10 R216 to R231, R242 to R246), with the events STREAM_OPERATION_COMPLETE and HOD_ALLOCATION. -/

namespace Sys2Proof.Machine

/-! ## Descriptors and limbs (02 R45 to R47) -/

/-- A descriptor's fields. -/
structure NDesc where
  /-- RES -/
  res : Nat
  /-- SIGN -/
  neg : Bool
  /-- LEN -/
  len : Nat
  /-- CAP -/
  cap : Nat
  /-- LOC -/
  loc : Nat
  deriving DecidableEq, Repr

/-- R45: the fields of a descriptor. -/
def descOf (d : BitVec 128) : NDesc :=
  let x := d.toNat
  { res := x / 2 ^ 126, neg := decide (x / 2 ^ 125 % 2 = 1), len := x / 2 ^ 100 % 2 ^ 25, cap := x / 2 ^ 75 % 2 ^ 25, loc := x % 2 ^ 64 }

/-- R45: a descriptor from its fields. -/
def NDesc.word (d : NDesc) : BitVec 128 :=
  BitVec.ofNat 128 (d.res * 2 ^ 126 + b2n d.neg * 2 ^ 125 + d.len % 2 ^ 25 * 2 ^ 100 + d.cap % 2 ^ 25 * 2 ^ 75 + d.loc % 2 ^ 64)

/-- R46: limbs of a magnitude. -/
def limbLen (x : Nat) : Nat := if x = 0 then 0 else x.log2 / 32 + 1

/-- The low n limbs of a magnitude. -/
def limbs : Nat → Nat → List Nat
  | 0, _ => []
  | n + 1, x => x % 2 ^ 32 :: limbs n (x / 2 ^ 32)

/-- The number that some limbs form. -/
def limbsNat : List Nat → Nat
  | [] => 0
  | x :: r => x + 2 ^ 32 * limbsNat r

/-- R217: the capacity of a number slot in limbs. -/
def Group.slotCap (g : Group) : Nat := 32 * g.sched.numarea

/-- R217: where the number area of a warp begins in window 2. -/
def Group.areaBase (g : Group) (w : Nat) : Nat := w * (g.sched.numarea * 1024)

/-- R217: offset of a number slot in its warp's area. -/
def Group.slotLoc (g : Group) (k : Fin 8) : Nat := k.val * (g.sched.numarea * 128)

/-- R219: the physical register that HOME names. -/
def Warp.homeReg (y : Warp) (k : Fin 8) : Option Nat := (y.n[k].home).bind (fun h => y.entryWin.bind (fun w => w.regs[h.val]?))

/-- R46, R47: a number source as it stands; limbs in heap are read by the engine. -/
def Warp.numArg (y : Warp) (g : Group) (w : Nat) (k : Fin 8) : NumArg :=
  let d := descOf y.n[k].desc
  match d.res with
  | 1 => .val (signed d.neg (limbsNat ((((y.vreg ((y.numReg k).getD 0)).lanes.toList).take d.len).map BitVec.toNat)))
  | 2 => .val (signed d.neg (Memory.rd g.numa (g.areaBase w + d.loc) (4 * d.len)))
  | 3 => .heap d.neg d.len d.loc
  | _ => .val 0

/-! ## Exact functions (10 R233, R243 to R246) -/

/-- x^e modulo q, for e below 2^n. -/
def powMod (q : Nat) : Nat → Nat → Nat → Nat
  | 0, _, _ => 1 % q
  | n + 1, b, e =>
    let h := powMod q n (b * b % q) (e / 2)
    if e % 2 = 1 then b * h % q else h

/-- R243: x_0 + x_1 z + x_2 z^2 + … modulo q. -/
def polyMod (q z : Nat) (xs : List Nat) : Nat := xs.foldr (fun x acc => (x + z * acc) % q) 0

/-- p, p w, p w^2, … modulo q. -/
def geometric (q w : Nat) : Nat → Nat → List Nat
  | 0, _ => []
  | n + 1, p => p :: geometric q w n (p * w % q)

/-- R243: the operand as n elements modulo q. -/
def elements (q n x : Nat) : List Nat := (List.range n).map (fun i => x / 2 ^ (64 * i) % 2 ^ 64 % q)

/-- R243: output elements as a number. -/
def unelements (l : List Nat) : Nat := l.foldr (fun x acc => x + 2 ^ 64 * acc) 0

/-- R243: NTTF. -/
def nttfOf (q g : Nat) (neg : Bool) (k x : Nat) : Nat :=
  let n := 2 ^ k
  let psi := powMod q 64 g ((q - 1) / (2 * n))
  let xs := elements q n x
  unelements ((geometric q (psi * psi % q) n (if neg then psi else 1 % q)).map (fun z => polyMod q z xs))

/-- R243: NTTI; negative powers by exponentiation. -/
def nttiOf (q g : Nat) (neg : Bool) (k x : Nat) : Nat :=
  let n := 2 ^ k
  let inv := fun (a : Nat) => powMod q 64 a (q - 2)
  let psi := powMod q 64 g ((q - 1) / (2 * n))
  let xs := elements q n x
  let ws := geometric q (inv (psi * psi % q)) n (1 % q)
  let cs := if neg then geometric q (inv psi) n (1 % q) else List.replicate n (1 % q)
  unelements ((ws.zip cs).map (fun (z, c) => polyMod q z xs * inv (n % q) % q * c % q))

/-- R243: NPMUL; limbs pair up into elements. -/
def npmulOf (q a b : Nat) : Nat :=
  let n := max ((limbLen a + 1) / 2) ((limbLen b + 1) / 2)
  unelements (((elements q n a).zip (elements q n b)).map (fun (x, y) => x * y % q))

/-- R246: a step of Garner recombination. -/
def garner (y q inv : Nat) (x m : Int) : Int :=
  let t := ((y % q : Nat) - x % (q : Int)) * inv % (q : Int)
  x + m * t

/-- R233, R243 to R246, R238: what an operation computes from its arguments. -/
def NumFn.eval (f : NumFn) (xs : List Int) : Int :=
  let a := xs.getD 0 0
  let b := xs.getD 1 0
  match f with
  | .copy => a
  | .neg => -a
  | .add => a + b
  | .sub => a - b
  | .shl c => a * 2 ^ c
  | .shr c => if bitLen a.natAbs ≤ c then 0 else signed (decide (a < 0)) (a.natAbs / 2 ^ c)
  | .mul => a * b
  | .div => a.tdiv b
  | .rem => a.tmod b
  | .mmul => a * b % ((xs.getD 2 0).natAbs : Int)
  | .nttf q g n k => (nttfOf q g n k a.natAbs : Nat)
  | .ntti q g n k => (nttiOf q g n k a.natAbs : Nat)
  | .pmul q => (npmulOf q a.natAbs b.natAbs : Nat)
  | .crt y q inv => garner y q inv a b
  | .red q => a % (q : Int)
  | .get => (a.natAbs : Nat)

/-! ## Reading and writing -/

/-- Reads n bytes at a pointer of a context, page by page (R227). -/
def State.heapRd (s : State) (ctx : Nat) (user : Bool) (p n : Nat) : Except Stall Nat := do
  let ps ← s.pieces ctx user false p (n + 1) 0 n
  .ok (leNat ((ps.map (fun (pa, k) => (List.range k).map (fun i => s.engByte (pa + i)))).flatten))

/-- Writes bytes at a pointer of a context, page by page. -/
def State.heapWr (s : State) (ctx : Nat) (user : Bool) (p : Nat) (b : List Byte) : Except Stall State := do
  let ps ← s.pieces ctx user true p (b.length + 1) 0 b.length
  .ok (ps.foldl (fun (t, rest) (pa, k) => (t.engPutBytes pa (rest.take k), rest.drop k)) (s, b)).1

/-- The value of an argument. -/
def State.argVal (s : State) (ctx : Nat) (user : Bool) : NumArg → Except Stall Int
  | .val v => .ok v
  | .heap neg len addr => do
    let m ← s.heapRd ctx user addr (4 * len)
    .ok (signed neg m)

/-- The values of arguments. -/
def State.argVals (s : State) (ctx : Nat) (user : Bool) : List NumArg → Except Stall (List Int)
  | [] => .ok []
  | a :: r => do
    let x ← s.argVal ctx user a
    let l ← s.argVals ctx user r
    .ok (x :: l)

/-- A physical register that waits for a producer is FULL again, its lanes as they were. -/
def Warp.fillUp (y : Warp) (p : Option Nat) : Warp := match p with
  | some n => { y with phys := tmod y.phys n (fun r => if r.fill = .empty then { r with fill := .full } else r) }
  | none => y

/-- R218: writes a value to a number register in the residence that its length gives it; the register is FULL. -/
def State.putNum (s : State) (g w : Nat) (k : Fin 8) (user : Bool) (v : Int) : Except Stall State :=
  match s.group g, s.warp g w with
  | some x, some y =>
    let r := y.n[k]
    let m := v.natAbs
    let len := limbLen m
    let desc := fun (res cap loc : Nat) =>
      ({ res := res, neg := decide (v < 0), len := len, cap := cap, loc := loc } : NDesc).word
    let put := fun (t : State) (d : BitVec 128) (f : Warp → Warp) =>
      t.modWarp g w (fun y => f { y with n := y.n.set k { r with desc := d, fill := .full } })
    if len = 0 ∧ r.home.isNone then .ok (put s 0 id)
    else match r.home, decide (len ≤ 32) with
      | some h, true =>
        let ls := limbs 32 m
        .ok (put s (desc 1 32 h.val) (fun y => match y.homeReg k with
          | some p => y.setV p (BitVec.allOnes 32) (fun i => BitVec.ofNat 32 (ls.getD i.val 0))
          | none => y))
      | _, _ =>
        if len ≤ x.slotCap then
          let t := s.modGroup g (fun q => { q with numa := Memory.wr q.numa (q.areaBase w + q.slotLoc k) (4 * len) m })
          .ok (put t (desc 2 x.slotCap (x.slotLoc k)) (fun y => y.fillUp (y.homeReg k)))
        else do
          let (addr, cap) := r.own.getD (0, 0)
          let t ← s.heapWr x.ctx user addr (leBytes (4 * len) m)
          .ok (put t (desc 3 cap addr) (fun y => y.fillUp (y.homeReg k)))
  | _, _ => .ok s

/-! ## The issue of a NUM instruction (10 R219, R222 to R225) -/

/-- What a NUM instruction asks for. -/
structure NumReq where
  /-- function -/
  fn : NumFn
  /-- arguments -/
  args : List NumArg
  /-- number registers it reads -/
  srcs : List (Fin 8)
  /-- destination -/
  dst : NumDest
  /-- lmax (R223) -/
  lmax : Nat
  /-- R225 lists the instruction for the register path -/
  fast : Bool
  /-- it runs on the Bellows -/
  bellows : Bool
  /-- it takes a pass of the number band -/
  band : Bool

/-- R219: the entry window is brought back before the instruction touches a number that lives in it. -/
def View.entryBack (v : View) : Except Stop View :=
  match v.y.entryWin with
  | some w =>
    if w.spilled then
      match v.s.makeRoom v.core v.r.g v.r.w w.opened with
      | none => .error v.hold
      | some s1 =>
        let s2 := s1.modWarp v.r.g v.r.w (·.markWin w.id false)
        .ok { v with s := s2, y := (s2.warp v.r.g v.r.w).getD v.y }
    else .ok v
  | none => .ok v

/-- R222: the number register d waits for its producer and for the readers of its value. -/
def View.numDest (v : View) (k : Fin 8) : Except Stop Unit :=
  let home : Bool := match v.y.homeReg k with
    | some p => decide ((v.y.vreg p).fill = .empty)
    | none => false
  if v.y.n[k].fill = .empty ∨ home then .error v.hold
  else if v.s.numops.any (fun e => decide (e.2.g = v.r.g) && decide (e.2.w = v.r.w) && e.2.srcs.contains k) then .error v.hold
  else .ok ()

/-- R219: some of the numbers live in the entry window. -/
def Warp.inEntry (y : Warp) (ks : List (Fin 8)) : Bool := ks.any (fun k => decide ((descOf y.n[k].desc).res = 1) || y.n[k].home.isSome)

/-- R222: the waits of d and of the entry window; `ks` are the numbers the instruction names. -/
def View.numReady (v : View) (d : Option (Fin 8)) (ks : List (Fin 8)) : Except Stop View := do
  (match d with
   | some k => v.numDest k
   | none => .ok ())
  if v.y.inEntry (d.toList ++ ks) then v.entryBack else .ok v

/-- R222: the register needs a heap block for L limbs that it does not own. -/
def NReg.needs (r : NReg) (slot len : Nat) : Bool :=
  decide (slot < len) && (decide (32 < len) || r.home.isNone) && (match r.own with
    | none => true
    | some o => decide (o.2 < len))

/-- R228: asks the Hod for a block and waits at issue for its answer; no block is HEAPFULL. -/
def View.hod (v : View) (len : Nat) : Except Stop (View × (Nat × Nat)) :=
  let ask := fun (s : State) =>
    let r : HodReq := { g := v.r.g, w := v.r.w, slot := v.r.slot, limbs := len, answer := none }
    Stop.wait { s with hods := s.hods ++ [(s.uid, r)], uid := s.uid + 1 } false
  match v.s.hods.find? (fun e => decide (e.2.g = v.r.g) && decide (e.2.w = v.r.w) && decide (e.2.slot = v.r.slot)) with
  | none => .error (ask v.base)
  | some (id, r) =>
    if r.limbs ≠ len then
      .error (ask ((({ v.base with hods := tdel v.base.hods id } : State)).modCtx v.c (fun c => c.giveBack (r.answer.bind (fun b => b)).toList)))
    else match r.answer with
      | none => .error v.hold
      | some none => .error (.late { v.base with hods := tdel v.base.hods id } cHEAPFULL 0)
      | some (some b) => .ok ({ v with s := { v.s with hods := tdel v.s.hods id } }, b)

/-- R227, 11 R267: stream engines of a core that hold an operation. -/
def State.streamsBusy (s : State) (core : Nat) : Nat :=
  (s.numops.filter (fun e => decide ((s.group e.2.g).bind (·.core) = some core))).length +
  (((s.groups.filter (fun e => decide (e.2.core = some core))).map (fun e => (e.2.tops.filter (fun o => match o.kind with
    | .cres _ _ _ _ _ => true
    | _ => false)).length)).sum)

/-- R242: requests that the Bellows of a quadrant holds. -/
def State.bellowsBusy (s : State) (quad : Nat) : Nat :=
  (s.numops.filter (fun e => e.2.bellows && decide (((s.group e.2.g).bind (·.core)).map coreQuad = some quad))).length

/-- 11 R257: entries of a core's engine queue. -/
def State.engineLen (s : State) (core : Nat) : Nat := (s.coreAt core).engine.length

/-- 11 R257: an entry joins the engine queue. -/
def State.pushEngine (s : State) (core : Nat) (e : EngineEntry) : State := s.modCore core (fun c => { c with engine := c.engine ++ [e] })

/-- R222: the destination, and the HOME register of a number, are EMPTY. -/
def Warp.numEmpty (y : Warp) : NumDest → Warp
  | .n k =>
    let z : Warp := { y with n := y.n.set k { y.n[k] with fill := .empty } }
    match y.homeReg k with
    | some p => z.setEmpty (.vec [p])
    | none => z
  | .s i => y.setEmpty (.sca i)
  | .v p => y.setEmpty (.vec [p])
  | .none => y

/-- R222: a free stream engine, with what else the operation takes, or a wait at issue. -/
def View.engineFree (v : View) (bellows band : Bool) : Except Stop Unit :=
  if 2 ≤ v.s.streamsBusy v.core then .error v.hold
  else if bellows ∧ 8 ≤ v.s.bellowsBusy (coreQuad v.core) then .error v.hold
  else if band ∧ 32 ≤ v.s.engineLen v.core then .error v.hold
  else .ok ()

/-- R222: the operation takes a stream engine and the fragment goes on. -/
def View.startStream (v : View) (q : NumReq) (old : Option (Nat × Nat)) : Except Stop State := do
  v.engineFree q.bellows q.band
  let o : NumOp :=
    { g := v.r.g, w := v.r.w, fn := q.fn, args := q.args, srcs := q.srcs, dst := q.dst, freeOld := old, bellows := q.bellows, band := q.band,
      user := decide (v.y.plvl = 0) }
  let s1 := v.put (v.y.numEmpty q.dst)
  let id := s1.uid
  let s2 : State := { s1 with numops := s1.numops ++ [(id, o)], uid := id + 1 }
  .ok (if q.band then s2.pushEngine v.core (.band id) else s2)

/-- R225: the operation meets the conditions of the register path. -/
def View.registerPath (v : View) (q : NumReq) : Bool :=
  q.fast && q.args.all (fun a => match a with
    | .val _ => true
    | .heap _ _ _ => false) && q.srcs.all (fun k => decide ((descOf v.y.n[k].desc).res ≤ 1)) && decide (q.lmax ≤ 32) && (match q.dst with
    | .n k => v.y.n[k].home.isSome
    | .v _ => false
    | _ => true)

/-- R225: writes the result at once. -/
def View.writeNow (v : View) (q : NumReq) : Except Stop State :=
  let x := q.fn.eval (q.args.map (fun a => match a with
    | .val n => n
    | .heap _ _ _ => 0))
  match q.dst with
  | .n k => match (v.put v.y).putNum v.r.g v.r.w k (decide (v.y.plvl = 0)) x with
    | .ok s => .ok s
    | .error _ => .error v.hold
  | .s i => .ok (v.put (v.y.setS i (BitVec.ofInt 64 x)))
  | _ => .ok (v.put v.y)

/-- Gives a number register an OWN block. -/
def View.setOwn (v : View) (k : Fin 8) (b : Option (Nat × Nat)) : View := { v with y := { v.y with n := v.y.n.set k { v.y.n[k] with own := b } } }

/-- R222: from the length bound on. -/
def View.startNum (v : View) (q : NumReq) : Except Stop State :=
  if 2 ^ 24 < q.lmax then .error (v.trap cLIMBOVF)
  else
    let go := fun (v : View) (old : Option (Nat × Nat)) => if v.registerPath q then v.writeNow q else v.startStream q old
    match q.dst with
    | .n k =>
      let r := v.y.n[k]
      if r.needs v.x.slotCap q.lmax then do
        let (v1, b) ← v.hod q.lmax
        go (v1.setOwn k (some b)) r.own
      else go v none
    | _ => go v none

/-! ## Stream engines (10 R227) -/

/-- 11 R257: an entry stands at the head of a core's engine queue. -/
def State.engineHead (s : State) (core : Nat) (e : EngineEntry) : Bool := decide ((s.coreAt core).engine.head? = some e)

/-- R218, R238, R245: writes the result of an operation. -/
def State.numResult (s : State) (o : NumOp) (x : Int) : Except Stall State :=
  match o.dst with
  | .n k => s.putNum o.g o.w k o.user x
  | .s i => .ok (s.modWarp o.g o.w (fun y => y.setS i (BitVec.ofInt 64 x)))
  | .v p =>
    let ls := limbs 32 x.natAbs
    .ok (s.modWarp o.g o.w (fun y => y.setV p (BitVec.allOnes 32) (fun i => BitVec.ofNat 32 (ls.getD i.val 0))))
  | .none => .ok s

/-- R227: reads the arguments, computes and writes the result. -/
def State.numRun (s : State) (o : NumOp) : Except Stall State := do
  let xs ← s.argVals (s.ctxOf o.g) o.user o.args
  s.numResult o (o.fn.eval xs)

/-- Unspecified bytes in place of some heap bytes, where their pages can be written. -/
def State.loseHeap (s : State) (ctx : Nat) (user : Bool) (p n : Nat) : State :=
  match s.heapWr ctx user p ((List.range n).map (Config.freeByte s.tick)) with
  | .ok t => t
  | .error _ => s

/-- Orphaned lanes of a physical register. -/
def Warp.orphanReg (y : Warp) (p : Nat) (lose : Bool) (tick : Nat) : Warp :=
  { y with phys := tmod y.phys p (fun r =>
      { lanes := if lose then Vector.ofFn (fun (i : Fin 32) => BitVec.ofNat 32 (leNat ((List.range 4).map (fun j => Config.freeByte tick (4 * i.val + j))))) else r.lanes,
        fill := .orphaned .orphan }) }

/-- R227: the engine stops: the destination is ORPHANED, and what its old residence holds is unspecified. -/
def State.numLose (s : State) (o : NumOp) : State :=
  match o.dst with
  | .n k =>
    match s.group o.g, s.warp o.g o.w with
    | some x, some y =>
      let d := descOf y.n[k].desc
      let s1 := s.modWarp o.g o.w (fun y =>
        let z : Warp := { y with n := y.n.set k { y.n[k] with fill := .orphaned .orphan } }
        match y.homeReg k with
        | some p => z.orphanReg p (decide (d.res = 1)) s.tick
        | none => z)
      if d.res = 2 then
        s1.modGroup o.g (fun q => { q with numa := (List.range (4 * d.cap)).foldl (fun m i =>
          Memory.put m (x.areaBase o.w + d.loc + i) (Config.freeByte s.tick i)) q.numa })
      else if d.res = 3 then s1.loseHeap x.ctx o.user d.loc (4 * d.cap)
      else s1
    | _, _ => s
  | .s i => s.modWarp o.g o.w (fun y => { y with s := y.s.set i { y.s[i] with fill := .orphaned .orphan } })
  | .v p => s.modWarp o.g o.w (fun y => y.orphanReg p true s.tick)
  | .none => s

/-- R228: the operation is over: its engine and its place in the queue are free, and a replaced block goes back. -/
def State.numEnd (s : State) (id : Nat) (o : NumOp) : State :=
  let s1 : State := { s with numops := tdel s.numops id }
  let s2 := if o.band then s1.trimEngine else s1
  match o.freeOld with
  | some b => s2.modCtx (cfin (s2.ctxOf o.g)) (fun c => c.giveBack [b])
  | none => s2

/-- STREAM_OPERATION_COMPLETE (R222, R227): an operation ends, or its engine meets a page that must migrate. -/
def execStreamOperationComplete (id : Nat) (s : State) : Host.Outcome State Fault Refusal :=
  .next (match tget s.numops id with
    | none => s
    | some o =>
      match (s.group o.g).bind (·.core) with
      | none => s
      | some core =>
        if !(s.ctxs[cfin (s.ctxOf o.g)]).st.runs ∨ (o.band ∧ !s.engineHead core (.band id)) then s
        else match s.numRun o with
          | .ok t => t.numEnd id o
          | .error (.park ctx page) => s.addFault (cfin ctx) page (coreDie core) none
          | .error (.fail _ _) => (s.numLose o).numEnd id o
          | .error (.noRoute _) => (s.lostRoute.numLose o).numEnd id o
          | .error .absent => s
          | .error (.tables ctx) => s.faultContext (cfin ctx) cUNCORR (if o.bellows then 5 else 0) (s.hwlocOf o.g o.w) 0 0 0)

/-! ## The Hod (10 R228, R229) -/

/-- R228: the smallest block for a length, in limbs. -/
def blockLimbs (len : Nat) : Nat := ((List.range 20).map (fun j => 32 * 2 ^ j)).find? (fun n => decide (len ≤ n)) |>.getD (32 * 2 ^ 19)

/-- R97: the bytes of the Hod's bookkeeping. -/
def Ctx.metaSize (c : Ctx) : Nat := ((c.heapsize + 511) / 512 + 127) / 128 * 128

/-- R97, R228: where the bookkeeping of a unit of the arena lies: a byte, and the place of its two bits; none where its page does not translate. -/
def State.metaAt (s : State) (c : Fin 64) (u : Nat) : Option (Nat × Nat) :=
  match s.xlate c ((s.ctxs[c]).heapmeta + u / 4) true false with
  | .ok pa _ => some (pa, 4 ^ (u % 4))
  | _ => none

/-- R97: the bookkeeping has a unit free: its two bits are zero. -/
def State.unitFree (s : State) (c : Fin 64) (u : Nat) : Bool := match s.metaAt c u with
  | some (pa, k) => decide (s.engRd pa 1 / k % 4 = 0)
  | none => false

/-- R97, R228: the Hod writes the two bits of n units from one on: 1 for an allocated unit (DESIGN CHOICE, log entry 25), 0 for a free one. -/
def State.markUnits (s : State) (c : Fin 64) (u n code : Nat) : State :=
  (List.range n).foldl (fun t i => match t.metaAt c (u + i) with
    | some (pa, k) =>
      let b := t.engRd pa 1
      t.engPutBytes pa [BitVec.ofNat 8 (b % k + code * k + b / (4 * k) * (4 * k))]
    | none => t) s

/-- R228: the units of a block, by its address and bytes, are marked. -/
def State.markBlock (s : State) (c : Fin 64) (b : Nat × Nat) (code : Nat) : State :=
  s.markUnits c ((b.1 - (s.ctxs[c]).heap) / 128) (b.2 / 128) code

/-- Some bytes of the arena are free by the bookkeeping. -/
def State.blockFree (s : State) (c : Fin 64) (a n : Nat) : Bool :=
  let x := s.ctxs[c]
  decide (a + n ≤ x.heap + x.heapsize) && (List.range (n / 128)).all (fun i => s.unitFree c ((a - x.heap) / 128 + i))

/-- R228: a free block of n bytes, aligned to its size within the arena; which one of several is left open. -/
def State.findBlock (s : State) (c : Fin 64) (n : Nat) : Option Nat :=
  let x := s.ctxs[c]
  if x.heapsize < n then none
  else
    let any := x.heap + n * (Config.freeNat s.tick % (x.heapsize / n))
    if s.blockFree c any n then some any
    else ((List.range (x.heapsize / n)).map (fun i => x.heap + n * i)).find? (fun a => s.blockFree c a n)

/-- R228: the Hod frees the blocks that have been given back. -/
def State.hodFrees (s : State) (c : Fin 64) : State :=
  ((s.ctxs[c]).heapDue.foldl (fun t b => t.markBlock c b 0) s).modCtx c (fun x => { x with heapDue := [] })

/-- R228: the Hod answers a request. -/
def State.hodAnswer (s : State) (id : Nat) (r : HodReq) (c : Fin 64) : State :=
  let n := blockLimbs r.limbs
  match s.findBlock c (4 * n) with
  | some a =>
    let s1 := (s.markBlock c (a, 4 * n) 1).modCtx c (fun x => { x with blocks := x.blocks ++ [(a, 4 * n)] })
    { s1 with hods := tput s1.hods id { r with answer := some (some (a, n)) } }
  | none => { s with hods := tput s.hods id { r with answer := some none } }

/-- 01 R11, R228: the die whose Hod serves a context: the home of the arena's first page. -/
def State.hodDie (s : State) (c : Fin 64) : Nat := (s.pageDie c.val (vpage (s.ctxs[c]).heap)).getD 0

/-- What stands in the way of the Hod's bookkeeping at an address, if anything does: uncorrectable data counts as a page that fails. -/
def State.metaStop (s : State) (c : Fin 64) (va n : Nat) : Option Xlat :=
  match s.xlate c va true false with
  | .ok pa _ => if s.engBad pa n then some (.fail cUNCORR) else none
  | x => some x

/-- R228, 05 R99: the first page of the bookkeeping that the Hod cannot use: its address, and why. -/
def State.metaBad (s : State) (c : Fin 64) : Option (Nat × Xlat) :=
  let x := s.ctxs[c]
  let last := x.heapmeta + x.metaSize
  ((List.range ((last + 2 ^ 14 - 1) / 2 ^ 14 - x.heapmeta / 2 ^ 14)).filterMap (fun i =>
    let va := max x.heapmeta ((x.heapmeta / 2 ^ 14 + i) * 2 ^ 14)
    (s.metaStop c va (min last ((x.heapmeta / 2 ^ 14 + i + 1) * 2 ^ 14) - va)).map (fun e => (va, e)))).head?

/-- HOD_ALLOCATION (R228): the context's Hod answers a request. The pages of its bookkeeping are translated first: one that is not resident migrates, and
one that faults moves the context to FAULTED (05 R99), with SOURCE 7, or 4 for uncorrectable data (05 R104). -/
def execHodAllocation (id : Nat) (s : State) : Host.Outcome State Fault Refusal :=
  .next (match tget s.hods id with
    | none => s
    | some r =>
      let c := cfin (s.ctxOf r.g)
      let x := s.ctxs[c]
      let die := s.hodDie c
      if r.answer.isSome ∨ !x.st.works then s
      else if x.heapsize = 0 then { s with hods := tput s.hods id { r with answer := some none } }
      else match s.metaBad c with
        | none => (s.hodFrees c).hodAnswer id r c
        | some (va, .park) => s.addFault c (vpage va) die none
        | some (va, .fail k) => s.faultContext c k (if k = cUNCORR then 4 else 7) (quadLoc (4 * die)) va 0 0
        | some (va, _) => s.faultContext c cUNCORR 4 (quadLoc (4 * die)) va 0 0)

end Sys2Proof.Machine
end

