-- ==== Sys2Proof/Machine/Num.lean ====
section
/-! DEFINITION. NUM words of major 0x5 (10 R232 to R246). -/

namespace Sys2Proof.Machine

/-! ## Operands (10 R222, R232) -/

/-- The sources of NGET's d. -/
def kNgetD : Kinds := { kSxZ with v := true }

/-- LEN of a number register. -/
def View.len (v : View) (k : Fin 8) : Nat := (descOf v.y.n[k].desc).len

/-- SIGN of a number register. -/
def View.neg (v : View) (k : Fin 8) : Bool := (descOf v.y.n[k].desc).neg

/-- A number register as an argument. -/
def View.arg (v : View) (k : Fin 8) : NumArg := v.y.numArg v.grp v.r.w k

/-- R222: number sources, to be read with their wait bits. -/
def numRd (k : Fin 8) (wait : Bool) : Rd := { loc := .num k, wait := wait, code := k.val }

/-- R222: reads the sources of an instruction that writes d, and makes the waits of d. -/
def View.numSrc (v : View) (d : Fin 8) (ks : List (Fin 8 × Bool)) (rs : List Rd) : Except Stop View := do
  v.plainType
  let v ← v.sources (ks.map (fun (k, w) => numRd k w) ++ rs)
  v.numReady (some d) (ks.map (·.1))

/-- An instruction that writes number d from numbers. -/
def View.numInto (v : View) (fn : NumFn) (d : Fin 8) (ks : List (Fin 8)) (lmax : Nat) (fast bellows band : Bool) : Except Stop State :=
  v.startNum { fn := fn, args := ks.map v.arg, srcs := ks, dst := .n d, lmax := lmax, fast := fast, bellows := bellows, band := band }

/-- One number source. -/
def View.num1 (v : View) (fn : NumFn) (nd na : BitVec 7) (wa : Bool) : Except Stop State := do
  let d ← v.idx8 nd
  let a ← v.idx8 na
  let v ← v.numSrc d [(a, wa)] []
  v.numInto fn d [a] (v.len a) true false false

/-- Two number sources. -/
def View.num2 (v : View) (nd na nb : BitVec 7) (wa wb : Bool) : Except Stop (View × Fin 8 × Fin 8 × Fin 8) := do
  let d ← v.idx8 nd
  let a ← v.idx8 na
  let b ← v.idx8 nb
  let v ← v.numSrc d [(a, wa), (b, wb)] []
  .ok (v, d, a, b)

/-- R222: the value of a number is zero. Heap limbs are read; a page that must migrate makes the instruction wait. -/
def View.isZero (v : View) (k : Fin 8) : Except Stop Bool :=
  if v.len k = 0 then .ok true
  else match v.s.argVal v.c (decide (v.y.plvl = 0)) (v.arg k) with
    | .ok x => .ok (decide (x = 0))
    | .error (.park _ page) => .error (.wait (v.base.addFault v.c page (coreDie v.core) none) false)
    | .error (.fail _ _) => .ok false
    | .error (.noRoute _) => .ok false
    | .error .absent => .error (.wait v.base false)
    | .error (.tables _) => .error .tables

/-- R222: a divisor or modulus of zero. -/
def View.nonZero (v : View) (k : Fin 8) : Except Stop Unit := do
  if ← v.isZero k then .error (v.trap cDIVZERO) else .ok ()

/-! ## Moving numbers in and out (10 R237 to R240) -/

/-- R219, R237, R240: the register that a names becomes HOME: its index, or none for zero. -/
def View.homeOf (v : View) (a : Opnd) : Except Stop (Loc × Option (Fin 80)) := do
  let l ← v.resolve { kVZ with zero := true } false a
  match l with
  | .vec _ =>
    if v.win.depth ≠ 0 then .error (v.trap cILLOPND)
    else match a with
      | .v i => .ok (l, some (Fin.ofNat 80 i.val))
      | .vx j => .ok (l, some (Fin.ofNat 80 (v.y.x[if j = 0 then (0 : Fin 4) else 1]).toNat))
      | _ => .ok (l, none)
  | _ => .ok (l, none)

/-- R237, R240: d is bound to a HOME and owns a block, and the block it owned before goes back. -/
def View.rebind (v : View) (k : Fin 8) (home : Option (Fin 80)) (own : Option (Nat × Nat)) (desc : BitVec 128) : State :=
  let old := v.y.n[k].own
  (v.put { v.y with n := v.y.n.set k { desc := desc, home := home, own := own, fill := .full } }).modCtx v.c (fun c => c.giveBack old.toList)

/-- R237: leading zero limbs trimmed. -/
def trimmed (ls : List Nat) : Nat := limbLen (limbsNat ls)

/-- NSET (R237). -/
def execNset (nd : BitVec 7) (a b : Opnd) (wa wb : Bool) (s : State) : Host.Outcome State Fault Refusal := issue s (fun v => do
  let d ← v.idx8 nd
  let (l, home) ← v.homeOf a
  let rb ← v.rd kSxZ false b wb
  let v ← v.numSrc d [] [{ loc := l, wait := wa, code := a.toCode.toNat }, rb]
  let x := v.val rb
  if 32 < x % 64 then .error (v.trap cIDXBOUND)
  else
    let desc : BitVec 128 := match l, home with
      | .vec names, some h =>
        let n := trimmed ((v.y.lanesOf names).toList.take (x % 64))
        ({ res := 1, neg := decide (2 ^ 63 ≤ x) && decide (0 < n), len := n, cap := 32, loc := h.val } : NDesc).word
      | _, _ => 0
    .ok (v.rebind d home none desc))

/-- R238: what NGET's selector asks for: the limbs from one on, or a word known at once. -/
def View.ngetWhat (v : View) (vec : Bool) (a : Fin 8) (k : Nat) : Option (Nat ⊕ DWord) :=
  let r := v.y.n[a]
  if vec then (if k < 2 ^ 19 then some (.inl (32 * k)) else none)
  else if k < 2 ^ 24 then some (if v.len a ≤ k then .inr 0 else .inl k)
  else if k = 2 ^ 64 - 1 then some (.inr (r.desc.extractLsb' 64 64))
  else if k = 2 ^ 64 - 2 then some (.inr (r.desc.extractLsb' 0 64))
  else if k = 2 ^ 64 - 3 then
    some (.inr (BitVec.ofNat 64 ((r.home.map (·.val)).getD 127 + 2 ^ 32 * (r.own.map (·.2)).getD 0)))
  else none

/-- R238: n limbs of a number from limb i on, as an argument. -/
def View.limbArg (v : View) (a : Fin 8) (i n : Nat) : NumArg := match v.arg a with
  | .val x => .val (x.natAbs / 2 ^ (32 * i) % 2 ^ (32 * n) : Nat)
  | .heap _ len addr => .heap false (min n (len - i)) (addr + 4 * i)

/-- NGET (R238). -/
def execNget (d : Opnd) (na : BitVec 7) (b : Opnd) (wa wb : Bool) (s : State) : Host.Outcome State Fault Refusal := issue s (fun v => do
  let l ← v.resolveDst kNgetD false d
  let a ← v.idx8 na
  let rb ← v.rd kSxC false b wb
  v.plainType
  let v ← v.sources [numRd a wa, rb]
  v.destReady l
  let v ← v.numReady none [a]
  let vec : Bool := match l with
    | .vec _ => true
    | _ => false
  match v.ngetWhat vec a (v.val rb) with
  | none => .error (v.trap cIDXBOUND)
  | some (.inr x) => .ok (v.put (v.y.setScalar l x))
  | some (.inl i) =>
    let dst : NumDest := match l with
      | .vec (p :: _) => .v p
      | .sca j => .s j
      | _ => .none
    v.startNum { fn := .get, args := [v.limbArg a i (if vec then 32 else 1)], srcs := [a], dst := dst, lmax := 0, fast := true,
                 bellows := false, band := false })

/-- R239: a load at an address that must be a multiple of 16. -/
def kNumAddr : Kinds := kSx

/-- 12 R283: the lowest address of n bytes that a copy's lock bars. -/
def State.lockHit (s : State) (c : Fin 64) (a n : Nat) (write : Bool) : Option Nat :=
  leastOf ((((s.copies.map (fun e => e.2.locks)).flatten).filter (fun l =>
    decide (cfin l.ctx = c) && decide (a / 128 ≤ l.hi) && decide (l.lo ≤ (a + n - 1) / 128) && (write || l.write))).map (fun l => max a (l.lo * 128)))

/-- R239: a memory image is checked against range locks. -/
def View.imageFree (v : View) (a n : Nat) (write : Bool) : Except Stop Unit :=
  match v.s.lockHit v.c (a % 2 ^ 56) n write with
  | some x => .error (v.trap cRLOCKED x)
  | none => .ok ()

/-- R239, 14 R336: NLD and NST take their place among the fragment's accesses: they wait at issue until its earlier ones have been performed, NST also
for what the warp's NLDs have still to read. -/
def View.inOrder (v : View) (write : Bool) : Except Stop Unit :=
  if v.s.memOpen v.r.g v.r.w v.f.mask || (write && v.s.nldOpen v.r.g v.r.w) then .error v.hold else .ok ()

/-- NLD (R239). -/
def execNld (nd : BitVec 7) (a : Opnd) (wa : Bool) (s : State) : Host.Outcome State Fault Refusal := issue s (fun v => do
  let d ← v.idx8 nd
  let ra ← v.rd kNumAddr false a wa
  let v ← v.numSrc d [] [ra]
  let p := v.val ra
  v.alignedTo p 16
  v.inOrder false
  match v.s.ptrTo v.core v.c (decide (v.y.plvl = 0)) p 16 false with
  | .park => .error (v.parkPage (p % 2 ^ 56))
  | .fail c => .error (v.trap c p)
  | .uncorr => .error .tables
  | .ok pa _ =>
    let h := v.s.engRd pa 16
    let len := h % 2 ^ 25
    if h / 2 ^ 32 ≠ 0 ∨ h / 2 ^ 25 % 64 ≠ 0 ∨ 2 ^ 24 < len then .error (v.trap cILLOPND p)
    else do
      v.imageFree p (16 + 4 * len) false
      v.startNum { fn := .copy, args := [.heap (decide (2 ^ 31 ≤ h)) len (p + 16)], srcs := [], dst := .n d, lmax := len, fast := false,
                   bellows := false, band := false })

/-- R239: the bytes of a memory image. -/
def imageBytes (neg : Bool) (len m : Nat) : List Byte := leBytes 16 (len + 2 ^ 31 * b2n neg) ++ leBytes (4 * len) m

/-- R239: some of the bytes of an image whose store meets a fatal fault have been written; which ones is left open. -/
def State.someBytes (s : State) (core : Nat) (c : Fin 64) (user : Bool) (p : Nat) (b : List Byte) : State :=
  b.zipIdx.foldl (fun t (x, i) =>
    if (Config.freeByte s.tick i).getLsbD 0 then
      match s.ptrTo core c user (p + i) 1 true with
      | .ok pa _ => t.homeWrite core pa [x]
      | _ => t
    else t) s

/-- NST (R239): the whole image is stored; the fragment waits for pages that must migrate. -/
def execNst (nd : BitVec 7) (a : Opnd) (wa : Bool) (s : State) : Host.Outcome State Fault Refusal := issue s (fun v => do
  let d ← v.idx8 nd
  let ra ← v.rd kNumAddr false a wa
  v.plainType
  let v ← v.sources [ra]
  let p := v.val ra
  match v.y.n[d].fill with
  | .empty => .error v.hold
  | .orphaned o => .error (v.trap o.code d.val)
  | .full => do
    let v ← v.sources [numRd d false]
    let v ← v.numReady none [d]
    v.alignedTo p 16
    v.noStage p
    v.inOrder true
    let len := v.len d
    let user := decide (v.y.plvl = 0)
    v.imageFree p (16 + 4 * len) true
    v.engineFree false false
    match v.s.argVal v.c user (v.arg d) with
    | .error (.park _ page) => .error (.wait (v.base.addFault v.c page (coreDie v.core) none) true)
    | .error (.fail c x) => .error (v.trap c x)
    | .error (.noRoute x) => .error (v.trap cRFAULT x)
    | .error (.tables _) => .error .tables
    | .error .absent => .error (.wait v.base false)
    | .ok x =>
      let bytes := imageBytes (v.neg d) len x.natAbs
      match v.s.pieces v.c user true p (bytes.length + 1) 0 bytes.length with
      | .error (.park _ page) => .error (.wait (v.base.addFault v.c page (coreDie v.core) none) true)
      | .error (.fail c x) => .error (.late (v.base.someBytes v.core v.c user p bytes) c x)
      | .error (.noRoute x) => .error (.late v.base cRFAULT x)
      | .error (.tables _) => .error .tables
      | .error .absent => .error (.wait v.base false)
      | .ok ps =>
        let (t, _) := ps.foldl (fun (t, rest) (pa, k) => (t.homeWrite v.core pa (rest.take k), rest.drop k)) (v.s, bytes)
        .ok t)

/-- NALLOC (R240). -/
def execNalloc (nd : BitVec 7) (a b : Opnd) (wa wb : Bool) (s : State) : Host.Outcome State Fault Refusal := issue s (fun v => do
  let d ← v.idx8 nd
  let (l, home) ← v.homeOf a
  let rb ← v.rd kSxZ false b wb
  let v ← v.numSrc d [] [{ loc := l, wait := wa, code := a.toCode.toNat }, rb]
  let c := v.val rb
  if 2 ^ 24 < c then .error (v.trap cLIMBOVF)
  else
    let r : NReg := { desc := 0, home := home, own := none, fill := .full }
    if r.needs v.x.slotCap c then do
      let (v, blk) ← v.hod c
      let old := v.y.n[d].own
      let q : NumReq := { fn := .copy, args := [.val 0], srcs := [], dst := .n d, lmax := c, fast := false, bellows := false, band := false }
      ({ v with y := { v.y with n := v.y.n.set d { v.y.n[d] with home := home, own := some blk } } } : View).startStream q old
    else
      match (v.rebind d home none 0).putNum v.r.g v.r.w d (decide (v.y.plvl = 0)) 0 with
      | .ok t => .ok t
      | .error _ => .error v.hold)

/-- NFREE (R240). -/
def execNfree (nd : BitVec 7) (s : State) : Host.Outcome State Fault Refusal := issue s (fun v => do
  let d ← v.idx8 nd
  let v ← v.numSrc d [] []
  match (v.rebind d v.y.n[d].home none 0).putNum v.r.g v.r.w d (decide (v.y.plvl = 0)) 0 with
  | .ok t => .ok t
  | .error _ => .error v.hold)

/-! ## Exact arithmetic (10 R233 to R235) -/

/-- NMOV (R233). -/
def execNmov (nd na : BitVec 7) (wa : Bool) (s : State) : Host.Outcome State Fault Refusal := issue s (fun v => v.num1 .copy nd na wa)

/-- NNORM (R233). -/
def execNnorm (nd na : BitVec 7) (wa : Bool) (s : State) : Host.Outcome State Fault Refusal := issue s (fun v => v.num1 .copy nd na wa)

/-- NNEG (R233). -/
def execNneg (nd na : BitVec 7) (wa : Bool) (s : State) : Host.Outcome State Fault Refusal := issue s (fun v => v.num1 .neg nd na wa)

/-- R223: lmax of a sum or difference; `adds` when the magnitudes add. -/
def View.sumMax (v : View) (a b : Fin 8) (adds : Bool) : Nat := max (v.len a) (v.len b) + b2n adds

/-- NADD (R233). -/
def execNadd (nd na nb : BitVec 7) (wa wb : Bool) (s : State) : Host.Outcome State Fault Refusal := issue s (fun v => do
  let (v, d, a, b) ← v.num2 nd na nb wa wb
  v.numInto .add d [a, b] (v.sumMax a b (v.neg a == v.neg b)) true false false)

/-- NSUB (R233). -/
def execNsub (nd na nb : BitVec 7) (wa wb : Bool) (s : State) : Host.Outcome State Fault Refusal := issue s (fun v => do
  let (v, d, a, b) ← v.num2 nd na nb wa wb
  v.numInto .sub d [a, b] (v.sumMax a b (v.neg a != v.neg b)) true false false)

/-- R234: the flags of a comparison. -/
def ncmpFlags (f : Byte) (x y : Int) : Byte := setZNCV f (decide (x = y)) (decide (x < y)) (decide (y.natAbs ≤ x.natAbs)) false

/-- NCMP (R234): the fragment waits until it completes. -/
def execNcmp (d : Opnd) (na nb : BitVec 7) (wa wb : Bool) (s : State) : Host.Outcome State Fault Refusal := issue s (fun v => do
  let l ← v.resolveDst kSxZ false d
  let a ← v.idx8 na
  let b ← v.idx8 nb
  v.plainType
  let v ← v.sources [numRd a wa, numRd b wb]
  v.destReady l
  let v ← v.numReady none [a, b]
  (if decide ((descOf v.y.n[a].desc).res ≤ 1) && decide ((descOf v.y.n[b].desc).res ≤ 1) then .ok () else v.engineFree false false)
  match v.s.argVals v.c (decide (v.y.plvl = 0)) [v.arg a, v.arg b] with
  | .error (.park _ page) => .error (.wait (v.base.addFault v.c page (coreDie v.core) none) false)
  | .error (.noRoute _) => .error v.hold
  | .error (.fail _ _) => .ok (v.put (match l with
      | .sca i => { v.y with s := v.y.s.set i { v.y.s[i] with fill := .orphaned .orphan } }
      | _ => v.y))
  | .error (.tables _) => .error .tables
  | .error .absent => .error (.wait v.base false)
  | .ok xs =>
    let x := xs.getD 0 0
    let y := xs.getD 1 0
    let r : Int := if x < y then -1 else if x = y then 0 else 1
    .ok (v.put { v.y.setScalar l (BitVec.ofInt 64 r) with flags := ncmpFlags v.y.flags x y }))

/-- The number and scalar sources of a shift or a transform. -/
def View.numShift (v : View) (nd na : BitVec 7) (kb : Kinds) (b : Opnd) (wa wb : Bool) : Except Stop (View × Fin 8 × Fin 8 × Nat) := do
  let d ← v.idx8 nd
  let a ← v.idx8 na
  let rb ← v.rd kb false b wb
  let v ← v.numSrc d [(a, wa)] [rb]
  .ok (v, d, a, v.val rb)

/-- NSHL (R233). -/
def execNshl (nd na : BitVec 7) (b : Opnd) (wa wb : Bool) (s : State) : Host.Outcome State Fault Refusal := issue s (fun v => do
  let (v, d, a, c) ← v.numShift nd na kSxZ1 b wa wb
  v.numInto (.shl c) d [a] (v.len a + (c + 31) / 32) true false false)

/-- NSHR (R233). -/
def execNshr (nd na : BitVec 7) (b : Opnd) (wa wb : Bool) (s : State) : Host.Outcome State Fault Refusal := issue s (fun v => do
  let (v, d, a, c) ← v.numShift nd na kSxZ1 b wa wb
  v.numInto (.shr c) d [a] (v.len a) true false false)

/-- R235: above NTHR a product runs on the Bellows, else through the number band. -/
def View.product (v : View) (fn : NumFn) (d : Fin 8) (ks : List (Fin 8)) (len lmax : Nat) : Except Stop State :=
  let big := decide (32 < len) && decide (v.y.nthr.toNat < len)
  v.numInto fn d ks lmax false big (!big)

/-- NMUL (R233, R235). -/
def execNmul (nd na nb : BitVec 7) (wa wb : Bool) (s : State) : Host.Outcome State Fault Refusal := issue s (fun v => do
  let (v, d, a, b) ← v.num2 nd na nb wa wb
  v.product .mul d [a, b] (max (v.len a) (v.len b)) (v.len a + v.len b))

/-- NSQR (R233, R235). -/
def execNsqr (nd na : BitVec 7) (wa : Bool) (s : State) : Host.Outcome State Fault Refusal := issue s (fun v => do
  let d ← v.idx8 nd
  let a ← v.idx8 na
  let v ← v.numSrc d [(a, wa)] []
  v.product .mul d [a, a] (v.len a) (2 * v.len a))

/-- NDIV (R233). -/
def execNdiv (nd na nb : BitVec 7) (wa wb : Bool) (s : State) : Host.Outcome State Fault Refusal := issue s (fun v => do
  let (v, d, a, b) ← v.num2 nd na nb wa wb
  v.nonZero b
  v.numInto .div d [a, b] (v.len a) false false false)

/-- NREM (R233). -/
def execNrem (nd na nb : BitVec 7) (wa wb : Bool) (s : State) : Host.Outcome State Fault Refusal := issue s (fun v => do
  let (v, d, a, b) ← v.num2 nd na nb wa wb
  v.nonZero b
  v.numInto .rem d [a, b] (min (v.len a) (v.len b)) false false false)

/-- x3. -/
def View.x3 (v : View) : Nat := (v.y.x[(3 : Fin 4)]).toNat

/-- NMMUL (R233): the modulus is the number that x3 names. -/
def execNmmul (nd na nb : BitVec 7) (wa wb : Bool) (s : State) : Host.Outcome State Fault Refusal := issue s (fun v => do
  let d ← v.idx8 nd
  let a ← v.idx8 na
  let b ← v.idx8 nb
  let m : Fin 8 := Fin.ofNat 8 (v.x3 % 8)
  let v ← v.numSrc d [(a, wa), (b, wb), (m, false)] []
  v.nonZero m
  v.numInto .mmul d [a, b, m] (v.len m) false false false)

/-! ## The modulus table, transforms and recombination (10 R241 to R246) -/

/-- A modulus with its generator and Garner constant. -/
structure Modulus where
  /-- Q -/
  q : Nat
  /-- G -/
  g : Nat
  /-- INV -/
  inv : Nat

/-- R241: an entry within the limits of the table. -/
def modulusOf (x : Nat) : Option Modulus :=
  let q := x % 2 ^ 64
  let g := x / 2 ^ 64 % 2 ^ 64
  let inv := x / 2 ^ 128 % 2 ^ 64
  if x / 2 ^ 192 = 1 ∧ 2 ^ 17 < q ∧ q < 2 ^ 62 ∧ q % 2 ^ 17 = 1 ∧ 1 < g ∧ g < q ∧ inv < q then some { q := q, g := g, inv := inv } else none

/-- R241: reads entry j of the modulus table. -/
def View.modulus (v : View) (j : Nat) : Except Stop Modulus :=
  let a := (v.s.ctxs[v.c]).modtab + 32 * j
  match v.s.ptrTo v.core v.c (decide (v.y.plvl = 0)) a 32 false with
  | .park => .error (v.parkPage (a % 2 ^ 56))
  | .fail c => .error (v.trap c a)
  | .uncorr => .error .tables
  | .ok pa _ => match modulusOf (v.s.engRd pa 32) with
    | some m => .ok m
    | none => .error (v.trap cILLOPND a)

/-- R235, R242: the fixed prime. -/
def fixedPrime : Modulus := { q := 2 ^ 64 - 2 ^ 32 + 1, g := 7, inv := 0 }

/-- R242: the modulus that bits 5..0 of x3 select. -/
def View.selected (v : View) : Except Stop Modulus :=
  let j := v.x3 % 64
  if j = 63 then .ok fixedPrime else if 32 ≤ j then .error (v.trap cILLOPND) else v.modulus j

/-- R242: the selector of a transform: bit 7 is zero. -/
def View.transformSel (v : View) : Except Stop Modulus := if 128 ≤ v.x3 then .error (v.trap cILLOPND) else v.selected

/-- R242, R243: NTTF and NTTI. -/
def View.transform (v : View) (fn : Nat → Nat → Bool → Nat → NumFn) (nd na : BitVec 7) (b : Opnd) (wa wb : Bool) : Except Stop State := do
  let (v, d, a, k) ← v.numShift nd na kSx b wa wb
  let m ← v.transformSel
  if k < 6 ∨ 16 < k ∨ 2 * 2 ^ k < v.len a then .error (v.trap cIDXBOUND)
  else v.numInto (fn m.q m.g (decide (64 ≤ v.x3 % 128)) k) d [a] (2 * 2 ^ k) false true false

/-- NTTF (R243). -/
def execNttf (nd na : BitVec 7) (b : Opnd) (wa wb : Bool) (s : State) : Host.Outcome State Fault Refusal :=
  issue s (fun v => v.transform .nttf nd na b wa wb)

/-- NTTI (R243). -/
def execNtti (nd na : BitVec 7) (b : Opnd) (wa wb : Bool) (s : State) : Host.Outcome State Fault Refusal :=
  issue s (fun v => v.transform .ntti nd na b wa wb)

/-- NPMUL (R243). -/
def execNpmul (nd na nb : BitVec 7) (wa wb : Bool) (s : State) : Host.Outcome State Fault Refusal := issue s (fun v => do
  let (v, d, a, b) ← v.num2 nd na nb wa wb
  let m ← v.transformSel
  v.numInto (.pmul m.q) d [a, b] ((max (v.len a) (v.len b) + 1) / 2 * 2) false true false)

/-- NCRT (R246): d is a source too. -/
def execNcrt (nd na : BitVec 7) (b : Opnd) (wa wb : Bool) (s : State) : Host.Outcome State Fault Refusal := issue s (fun v => do
  let d ← v.idx8 nd
  let a ← v.idx8 na
  let rb ← v.rd kSx false b wb
  v.plainType
  let v ← v.sources [numRd a wa, rb]
  match v.y.n[d].fill with
  | .empty => .error v.hold
  | .orphaned o => .error (v.trap o.code d.val)
  | .full => do
    let v ← v.numReady (some d) [a, d]
    let m ← v.modulus (v.x3 % 32)
    v.numInto (.crt (v.val rb) m.q m.inv) d [d, a] (max (v.len d) (v.len a + 2) + 1) false false false)

/-- NRED (R245). -/
def execNred (d : Opnd) (na : BitVec 7) (wa : Bool) (s : State) : Host.Outcome State Fault Refusal := issue s (fun v => do
  let l ← v.resolveDst kSxZ false d
  let a ← v.idx8 na
  v.plainType
  let v ← v.sources [numRd a wa]
  v.destReady l
  let v ← v.numReady none [a]
  let m ← v.selected
  let dst : NumDest := match l with
    | .sca i => .s i
    | _ => .none
  v.startNum { fn := .red m.q, args := [v.arg a], srcs := [a], dst := dst, lmax := 0, fast := false, bellows := false, band := false })

end Sys2Proof.Machine
end

