-- ==== Sys2Proof/Machine/Tile.lean ====
section
/-! DEFINITION. TILE words of major 0x6: tiles, operand FIFOs and the matrix engine (11 R249 to R275), with the events
TILE_OPERATION_RETIRE and ROW_BLOCK_PREEMPTION. -/

namespace Sys2Proof.Machine

/-! ## Tiles and their operations (11 R249 to R257) -/

/-- R250: operations issued on a tile and not yet retired. -/
def Group.pend (x : Group) (k : Fin 8) : Nat := (x.tops.filter (fun o => decide (o.tile = k))).length

/-- STATE of a tile (R250). -/
def TileState.code : TileState → Nat
  | .closed => 0
  | .opened => 1
  | .closing => 2

/-- R250: a descriptor. -/
def Tile.desc (t : Tile) (pend : Nat) : DWord :=
  if t.st = .closed then 0
  else
    BitVec.ofNat 64 (t.st.code * 2 ^ 62 + b2n t.limb * 2 ^ 61 + b2n t.err * 2 ^ 60 + b2n t.ovf * 2 ^ 59 + b2n t.loss * 2 ^ 58 +
      t.rows % 256 * 2 ^ 50 + ofInt 10 t.x * 2 ^ 40 + pend % 256 * 2 ^ 32)

/-- An element, 0 without NaN where nothing has been written. -/
def Tile.elem (t : Tile) (row col : Nat) : TileElem := tgetD t.elems (128 * row + col) { acc := 0, nan := false }

/-- Writes an element. -/
def Tile.setElem (t : Tile) (row col : Nat) (e : TileElem) : Tile := { t with elems := tput t.elems (128 * row + col) e }

/-- R264: every element and flag is cleared. -/
def Tile.cleared (t : Tile) : Tile := { t with elems := [], err := false, ovf := false, loss := false }

/-- The tile of a group. -/
def View.tile (v : View) (k : Fin 8) : Tile := (v.grp.tiles)[k]

/-- Changes a tile of a group. -/
def Group.modTile (x : Group) (k : Fin 8) (f : Tile → Tile) : Group := { x with tiles := x.tiles.set k (f x.tiles[k]) }

/-- R253: the tile that a field names, which is OPEN; else ILLOPND with the tile index. -/
def View.openTile (v : View) (t : BitVec 7) : Except Stop (Fin 8) := do
  let k ← v.idx8 t
  if (v.tile k).st = .opened then .ok k else .error (v.trap cILLOPND k.val)

/-- R257: room for one more operation on a tile, and in the engine queue when it takes an entry. -/
def View.tileRoom (v : View) (k : Fin 8) (queued : Bool) : Except Stop Unit :=
  if 32 ≤ v.grp.pend k ∨ (queued ∧ 32 ≤ v.s.engineLen v.core) then .error v.hold else .ok ()

/-- R254: an operation joins the tile order, with the warp as it leaves the issue. -/
def View.pushTile (v : View) (y : Warp) (k : Fin 8) (kind : TileOpKind) : State :=
  let o : TileOp := { id := v.s.uid, tile := k, kind := kind }
  let s1 := (v.put y).modGroup v.r.g (fun x => { x with tops := x.tops ++ [o] })
  let s2 : State := { s1 with uid := s1.uid + 1 }
  if o.queued then s2.pushEngine v.core (.tile v.r.g o.id) else s2

/-! ## AOPEN, ACLOSE, AZERO (11 R251, R253, R264) -/

/-- R264: LIMB, ROWS and X of a configuration word. -/
def tileConf (x : Nat) : Option (Bool × Nat × Int) :=
  let rows := x / 2 ^ 16 % 2 ^ 8
  let limb := decide (x / 2 ^ 24 % 2 = 1)
  let a := toSigned 10 x
  if x / 2 ^ 25 = 0 ∧ x / 2 ^ 10 % 64 = 0 ∧ 8 ≤ rows ∧ rows ≤ 128 ∧ rows % 8 = 0 ∧ !(limb && decide (a ≠ 0)) then some (limb, rows, a) else none

/-- R251: row blocks for which AOPENs of a core have waited longer. -/
def View.wantedBefore (v : View) (since : Nat) : Nat :=
  (((v.s.groups.filter (fun e => decide (e.2.core = some v.core))).map (fun e =>
    ((e.2.aopens.filter (fun r => decide (r.since < since))).map (·.need)).sum)).sum)

/-- The wait of this fragment's AOPEN. -/
def View.rowWait (v : View) : Option RowWait := v.grp.aopens.find? (fun r => decide (r.w = v.r.w) && decide (r.slot = v.r.slot))

/-- The waits of other fragments. -/
def View.otherWaits (v : View) (l : List RowWait) : List RowWait := l.filter (fun r => !(decide (r.w = v.r.w) && decide (r.slot = v.r.slot)))

/-- AOPEN (R251, R253, R264). -/
def execAopen (t : BitVec 7) (a : Opnd) (wa : Bool) (s : State) : Host.Outcome State Fault Refusal := issue s (fun v => do
  let k ← v.idx8 t
  let ra ← v.rd kSx false a wa
  let v ← v.sources [ra]
  match tileConf (v.val ra) with
  | none => .error (v.trap cILLOPND)
  | some (limb, rows, x) =>
    let old := v.tile k
    let others := (((List.finRange 8).filter (· != k)).map (fun j => if (v.tile j).st = .closed then 0 else (v.tile j).rows)).sum
    if 248 < others + rows then .error (v.trap cIDXBOUND)
    else if old.st = .closing ∨ (old.st = .opened ∧ 0 < v.grp.pend k) then .error v.hold
    else
      let need := rows / 8 - (if old.st = .opened then old.rows / 8 else 0)
      let since := (v.rowWait.map (·.since)).getD v.s.now
      let first := if v.rowWait.isSome then v.wantedBefore since else v.wantedBefore (since + 1)
      if 0 < need ∧ 31 < v.s.blocksUsed v.core + first + need then
        .error (.wait (v.base.modGroup v.r.g (fun g =>
          { g with aopens := v.otherWaits g.aopens ++ [{ w := v.r.w, slot := v.r.slot, since := since, need := need }] })) false)
      else
        .ok (v.putGroup v.y (fun g => { (g.modTile k (fun _ =>
          { st := .opened, limb := limb, err := false, ovf := false, loss := false, rows := rows, x := x, elems := [] })) with
            aopens := v.otherWaits g.aopens })))

/-- ACLOSE (R253). -/
def execAclose (t : BitVec 7) (s : State) : Host.Outcome State Fault Refusal := issue s (fun v => do
  let k ← v.openTile t
  .ok (v.putGroup v.y (fun g => g.modTile k (fun q => if g.pend k = 0 then .closed else { q with st := .closing }))))

/-- AZERO (R264). -/
def execAzero (t : BitVec 7) (s : State) : Host.Outcome State Fault Refusal := issue s (fun v => do
  let k ← v.openTile t
  v.tileRoom k true
  .ok (v.pushTile v.y k .azero))

/-! ## MMA and LMMA (11 R258 to R261, R265) -/

/-- R260: the oldest committed slab of a FIFO that the group owns, else FIFOERR. -/
def View.committed (v : View) (f : Fin 4) : Except Stop Nat :=
  match (v.grp.fifos[f]).bind (fun q => q.slabs.find? (fun b => !b.claimed)) with
  | some b => .ok b.id
  | none => .error (v.trap cFIFOERR f.val)

/-- R260: a slab is claimed. -/
def Group.claim (x : Group) (f : Fin 4) (id : Nat) : Group :=
  { x with fifos := x.fifos.set f (x.fifos[f].map (fun q =>
      { q with slabs := q.slabs.map (fun b => if b.id = id then { b with claimed := true } else b) })) }

/-- R265: MMA, or LMMA on a limb tile. -/
def View.multiply (v : View) (limb : Bool) (t fa fb : BitVec 7) : Except Stop State := do
  let k ← v.openTile t
  let a ← v.idx4 fa
  let b ← v.idx4 fb
  if 2 ≤ a.val ∨ b.val < 2 ∨ (v.tile k).limb ≠ limb then .error (v.trap cILLOPND)
  else do
    let sa ← v.committed a
    let sb ← v.committed b
    v.tileRoom k true
    let kind := if limb then TileOpKind.lmma a.val sa b.val sb else .mma a.val sa b.val sb
    .ok ((v.pushTile v.y k kind).modGroup v.r.g (fun x => (x.claim a sa).claim b sb))

/-- MMA (R265). -/
def execMma (t fa fb : BitVec 7) (s : State) : Host.Outcome State Fault Refusal := issue s (fun v => v.multiply false t fa fb)

/-- LMMA (R265). -/
def execLmma (t fa fb : BitVec 7) (s : State) : Host.Outcome State Fault Refusal := issue s (fun v => v.multiply true t fa fb)

/-- R259: TYPE and COUNT of a slab whose header keeps the layout. -/
def slabHdr (b : List Byte) : Option (Nat × Nat) :=
  let x := leNat (b.take 16)
  let t := x % 256
  let n := x / 2 ^ 16 % 2 ^ 16
  if x / 2 ^ 8 % 256 = 0 ∧ x / 2 ^ 32 = 0 ∧ 1 ≤ n ∧ ((t = 6 ∧ n ≤ 63) ∨ (tyBfp t ∧ n ≤ 128)) then some (t, n) else none

/-- R259: n bytes of a slab's body from an offset. -/
def slabPart (b : List Byte) (off n : Nat) : Nat := leNat ((b.drop (16 + off)).take n)

/-- R259, 02 R36: the blocks of a slab: exponent and mantissas. -/
def slabBlocks (b : List Byte) (t count : Nat) : List (Nat × List Int) :=
  let m := tyWidth t
  (List.range count).map (fun i =>
    let x := slabPart b (i * (4 * m + 4)) (4 * m + 4)
    (x % 256, (List.range 32).map (fun j => toSigned m (x / 2 ^ 32 / 2 ^ (m * j)))))

/-- R259: the limb rows of a slab. -/
def slabLimbs (b : List Byte) (count : Nat) : List (List Nat) := (List.range count).map (fun i => limbs 64 (slabPart b (256 * i) 256))

/-- 02 R40: one product term is added to an element of a tile; the order of the terms is that of R265. -/
def Tile.accumulate (t : Tile) (row col : Nat) (p e : Int) : Tile :=
  let q := t.elem row col
  let sh := e - t.x
  let v : Int := if 0 ≤ sh then p * 2 ^ sh.toNat else signed (decide (p < 0)) (roundNat 0 (decide (p < 0)) p.natAbs sh)
  let lost := decide (sh < 0) && decide (v * 2 ^ (-sh).toNat ≠ p)
  let s := q.acc.toInt + v
  let o := decide (s < -(2 ^ 95)) || decide (2 ^ 95 ≤ s)
  { (t.setElem row col { q with acc := BitVec.ofInt 96 s }) with loss := t.loss || lost, ovf := t.ovf || o }

/-- R265: the terms of an MMA. -/
def Tile.mma (t : Tile) (a b : List (Nat × List Int)) : Tile :=
  a.zipIdx.foldl (fun t (x, i) => b.zipIdx.foldl (fun t (y, c) =>
    if x.1 = 0xFF ∨ y.1 = 0xFF then t.setElem i c { t.elem i c with nan := true }
    else (x.2.zip y.2).foldl (fun t (p, q) => t.accumulate i c (p * q) ((x.1 : Int) + y.1 - 254)) t) t) t

/-- R265: the terms of an LMMA. -/
def Tile.lmma (t : Tile) (a b : List (List Nat)) : Tile :=
  (a.zip b).zipIdx.foldl (fun t ((x, y), i) => x.zipIdx.foldl (fun t (p, j) => y.zipIdx.foldl (fun t (q, k) =>
    t.accumulate i (j + k) ((p * q : Nat) : Int) 0) t) t) t

/-- A slab that an operation has claimed, and whether its FIFO is BROKEN already. -/
def Group.slabOf (x : Group) (f id : Nat) : Option Slab × Bool :=
  match x.fifos[Fin.ofNat 4 f] with
  | some q => (q.slabs.find? (fun b => b.id == id), q.broken)
  | none => (none, true)

/-- R261: the header of a slab when the checks of its own pass: nothing is known of a slab of a BROKEN FIFO. -/
def slabGood (s : Option Slab × Bool) (limb : Bool) : Option (Nat × Nat) :=
  match s with
  | (some b, false) => if b.failed ∧ b.bytes.length < b.size then none else (slabHdr b.bytes).filter (fun h => (h.1 == 6) == limb)
  | _ => none

/-- R256, R260: a slab is consumed; a FIFO that a failing check names is BROKEN. -/
def Group.consume (x : Group) (f id : Nat) (bad : Bool) : Group :=
  let k := Fin.ofNat 4 f
  { x with fifos := x.fifos.set k (x.fifos[k].map (fun q => { q with slabs := q.slabs.filter (fun b => b.id != id), broken := q.broken || bad })) }

/-- R261, R265: MMA or LMMA at its turn. -/
def Group.multiply (x : Group) (k : Fin 8) (limb : Bool) (fa sa fb sb : Nat) : Group :=
  let a := x.slabOf fa sa
  let b := x.slabOf fb sb
  let t := x.tiles[k]
  let done := fun (badA badB : Bool) (f : Tile → Tile) => ((x.modTile k f).consume fa sa badA).consume fb sb badB
  let err := fun (q : Tile) => { q with err := true }
  match slabGood a limb, slabGood b limb with
  | some (ta, na), some (tb, nb) =>
    let tall := decide (t.rows < na)
    let uneven := limb && decide (na ≠ nb)
    if tall || uneven then done (tall || uneven) uneven err
    else
      let ba := (a.1.map (·.bytes)).getD []
      let bb := (b.1.map (·.bytes)).getD []
      done false false (fun q => if limb then q.lmma (slabLimbs ba na) (slabLimbs bb nb) else q.mma (slabBlocks ba ta na) (slabBlocks bb tb nb))
  | ga, gb =>
    let tall := match ga with
      | some (_, na) => decide (t.rows < na)
      | none => true
    done tall gb.isNone err

/-! ## ARD and AWR (11 R266) -/

/-- R266: a selector within the bounds of a tile. -/
def tileSel (x rows : Nat) : Option TileSel :=
  let q : TileSel := { word := x / 2 ^ 16 % 4, col0 := x / 2 ^ 8 % 128, row := x % 256 }
  if x / 2 ^ 18 = 0 ∧ x / 2 ^ 15 % 2 = 0 ∧ q.col0 ≤ 96 ∧ q.row < rows then some q else none

/-- R266: the selector operand. -/
def View.selOf (v : View) (k : Fin 8) (r : Rd) : Except Stop TileSel := match tileSel (v.val r) (v.tile k).rows with
  | some q => .ok q
  | none => .error (v.trap cIDXBOUND)

/-- R266: a tile whose ERR is not set; else FIFOERR with the tile index. -/
def View.noErr (v : View) (k : Fin 8) : Except Stop Unit := if (v.tile k).err then .error (v.trap cFIFOERR k.val) else .ok ()

/-- R266: a word of an element. -/
def TileElem.word (e : TileElem) (w : Nat) : Word := if w = 3 then BitVec.ofNat 32 (b2n e.nan) else e.acc.extractLsb' (32 * w) 32

/-- R266: writes a word of an element. -/
def TileElem.setWord (e : TileElem) (w : Nat) (x : Word) : TileElem :=
  if w = 3 then { e with nan := x.getLsbD 0 }
  else { e with acc := (e.acc &&& ~~~((0xFFFFFFFF#96) <<< (32 * w))) ||| ((x.setWidth 96) <<< (32 * w)) }

/-- ARD (R266). -/
def execArd (d : Opnd) (t : BitVec 7) (b : Opnd) (wb : Bool) (s : State) : Host.Outcome State Fault Refusal := issue s (fun v => do
  let l ← v.resolveDst kV false d
  let k ← v.openTile t
  let rb ← v.rd kSxZ false b wb
  let v ← v.sources [rb]
  let q ← v.selOf k rb
  v.noErr k
  v.destReady l
  v.tileRoom k false
  let reg := match l with
    | .vec (p :: _) => p
    | _ => 0
  .ok (v.pushTile (v.y.setEmpty l) k (.ard v.r.w reg q)))

/-- AWR (R266): every lane is read at issue. -/
def execAwr (t : BitVec 7) (a b : Opnd) (wa wb : Bool) (s : State) : Host.Outcome State Fault Refusal := issue s (fun v => do
  let k ← v.openTile t
  let ra ← v.rd kV false a wa
  let rb ← v.rd kSxZ false b wb
  let v ← v.sources [ra, rb]
  let q ← v.selOf k rb
  v.tileRoom k false
  let lanes := (v.laneVals 6 ra.loc).map (BitVec.ofNat 32)
  .ok (v.pushTile v.y k (.awr lanes q)))

/-- R266: AWR at its turn. -/
def Tile.awr (t : Tile) (lanes : Lanes) (q : TileSel) : Tile :=
  (List.finRange 32).foldl (fun t (i : Fin 32) => t.setElem q.row (q.col0 + i.val) ((t.elem q.row (q.col0 + i.val)).setWord q.word lanes[i])) t

/-! ## CRES (11 R267) -/

/-- CRES (R267): the issue steps of a NUM instruction with lmax 130. -/
def execCres (nd t : BitVec 7) (b : Opnd) (wb : Bool) (s : State) : Host.Outcome State Fault Refusal := issue s (fun v => do
  let d ← v.idx8 nd
  let k ← v.openTile t
  let rb ← v.rd kSxZ1 false b wb
  let v ← v.sources [rb]
  let row := v.val rb
  if !(v.tile k).limb then .error (v.trap cILLOPND)
  else do
    let v ← v.numReady (some d) []
    (if (v.tile k).rows ≤ row then .error (v.trap cIDXBOUND) else .ok ())
    v.noErr k
    let old := v.y.n[d].own
    let (v, gone) ← if v.y.n[d].needs v.x.slotCap 130 then (do
        let (v1, blk) ← v.hod 130
        .ok (v1.setOwn d (some blk), old)) else .ok (v, Option.none)
    v.engineFree false false
    v.tileRoom k false
    .ok (v.pushTile (v.y.numEmpty (.n d)) k (.cres v.r.w d row (decide (v.y.plvl = 0)) gone)))

/-- R267: the value of a row: the columns as signed integers, carried. -/
def Tile.rowValue (t : Tile) (row : Nat) : Int := ((List.range 128).map (fun k => (t.elem row k).acc.toInt * 2 ^ (32 * k))).sum

/-- R267: CRES at its turn: its row goes to the stream engine, or d is ORPHANED because ERR is set. -/
def State.cresTurn (s : State) (g : Nat) (t : Tile) (w : Nat) (d : Fin 8) (row : Nat) (user : Bool) (old : Option (Nat × Nat)) : State :=
  match s.warp g w with
  | none => s
  | some y =>
    if y.sched = .exited then s
    else if t.err then
      (s.modWarp g w (fun y =>
        let z : Warp := { y with n := y.n.set d { y.n[d] with fill := .orphaned .orphan } }
        match y.homeReg d with
        | some p => z.orphanReg p false s.tick
        | none => z)).modCtx (cfin (s.ctxOf g)) (fun c => c.giveBack old.toList)
    else
      let o : NumOp :=
        { g := g, w := w, fn := .copy, args := [.val (t.rowValue row)], srcs := [], dst := .n d, freeOld := old, bellows := false, band := false,
          user := user }
      { s with numops := s.numops ++ [(s.uid, o)], uid := s.uid + 1 }

/-! ## ADRAIN (11 R268, R269) -/

/-- R268: the parameters of an ADRAIN. -/
structure DrainPar where
  /-- first row -/
  row0 : Nat
  /-- rows -/
  rows : Nat
  /-- columns -/
  cols : Nat
  /-- PITCH -/
  pitch : Nat
  /-- barrier offset -/
  bar : Option Nat

/-- R268: the rectangle and the barrier of some parameters on a tile. -/
def drainPar (p1 p2 : DWord) (rows : Nat) : DrainPar :=
  let r0 := bits p1 39 32
  { row0 := r0, rows := if bits p1 47 40 = 0 then rows - r0 else bits p1 47 40, cols := if bits p1 55 48 = 0 then 128 else bits p1 55 48,
    pitch := bits p1 31 0, bar := if p2.getLsbD 63 then some (bits p2 18 0) else none }

/-- R268: a reserved bit of the parameters is set. -/
def drainReserved (p0 p1 p2 : DWord) : Bool :=
  (p0.getLsbD 63 && !endOk p0.toNat) || decide (bits p1 63 59 ≠ 0) || decide (if p2.getLsbD 63 then bits p2 62 19 ≠ 0 else p2 ≠ 0)

/-- R268: an address of an ADRAIN that breaks its alignment. -/
def DrainPar.misaligned (q : DrainPar) (e : End_) (w : Nat) : Option Nat :=
  if 8 ≤ w ∧ e.addr % (w / 8) ≠ 0 then some e.addr
  else if 8 ≤ w ∧ q.pitch % (w / 8) ≠ 0 then some (e.addr + q.pitch)
  else q.bar.filter (fun o => decide (o % 16 ≠ 0))

/-- ADRAIN (R268, R269). -/
def execAdrain (t : BitVec 7) (a : Opnd) (wa : Bool) (s : State) : Host.Outcome State Fault Refusal := issue s (fun v => do
  let k ← v.openTile t
  match a with
  | .s i =>
    if 29 < i.val ∨ (List.range 3).any (fun j => (v.y.mapped (Fin.ofNat 32 (i.val + j))).isSome) then .error (v.trap cILLOPND)
    else do
      let v ← v.sources ((List.range 3).map (fun j => { loc := .sca (Fin.ofNat 32 (i.val + j)), wait := wa, code := 80 + i.val + j : Rd }))
      let p := fun (j : Nat) => v.y.s[Fin.ofNat 32 (i.val + j)].val
      let q := drainPar (p 1) (p 2) (v.tile k).rows
      let e := endOf (p 0).toNat
      let w := tyWidth v.et
      let lay := Layout.ofElems w q.rows q.cols q.pitch
      if drainReserved (p 0) (p 1) (p 2) then .error (v.trap cILLOPND)
      else if 17 ≤ v.et then .error (v.trap cILLTYPE)
      else if (v.tile k).rows < q.row0 + q.rows ∨ 128 < q.cols ∨ q.bar.any (fun o => decide (v.x.sched.spad < o + 16)) then
        .error (v.trap cIDXBOUND)
      else do
        v.endFits e lay.span
        match q.misaligned e w with
        | some x => .error (v.trap cALIGN x)
        | none => do
          v.noErr k
          (if e.spad then .ok () else v.noStage 0)
          v.tileRoom k false
          let j : Job :=
            { kind := .adrain, p0 := p 0, p1 := p 1, p2 := p 2, p3 := 0, lay := lay, ranges := endRange e v.c lay.span true, toSpad := e.spad,
              bar := q.bar, extra := (v.y.b[Fin.ofNat 8 (bits (p 1) 58 56)]).extra, tile := k.val, route := [] }
          let (s1, id, _) ← v.accept j false
          let y := (s1.warp v.r.g v.r.w).getD v.y
          .ok (({ v with s := s1 } : View).pushTile y k (.adrain id))
  | _ => .error (v.trap cILLOPND))

/-- R269: the elements of a rectangle, row by row. -/
def Tile.rectangle (t : Tile) (q : DrainPar) : List TileElem :=
  ((List.range q.rows).map (fun i => (List.range q.cols).map (fun c => t.elem (q.row0 + i) c))).flatten

/-- R269: ADRAIN at its turn: its copy takes the snapshot, or ends FAILED because ERR is set. -/
def State.drainTurn (s : State) (t : Tile) (id : Nat) : State :=
  match tget s.copies id with
  | none => s
  | some c =>
    if !c.live then s
    else if t.err then (s.endCopy id .failed cFIFOERR 0).flush (cfin c.ctx)
    else s.putCopy id { c with snap := some (t.rectangle (drainPar c.p1 c.p2 t.rows)), snapX := t.x }

/-! ## ASTAT, FQRY, FDISC (11 R270, R271) -/

/-- R270: zero and one. -/
def kZ1 : Kinds := { kNone with zero := true, one := true }

/-- ASTAT (R270): with selector one its operation stands in the tile order, and the fragment waits for it. -/
def execAstat (d : Opnd) (t : BitVec 7) (b : Opnd) (s : State) : Host.Outcome State Fault Refusal := issue s (fun v =>
  match v.f.arrived with
  | some (.tile _) => .error v.hold
  | _ => do
    let l ← v.resolveDst kSxZ false d
    let k ← v.idx8 t
    let rb ← v.rd kZ1 false b false
    v.destReady l
    let q := v.tile k
    let n := v.grp.pend k
    if v.val rb = 0 ∨ n = 0 ∨ q.st = .closed then .ok (v.put (v.y.setScalar l (q.desc n)))
    else if q.st = .closing then .error v.hold
    else do
      v.tileRoom k false
      let dst := match l with
        | .sca i => some i
        | _ => none
      let id := v.s.uid
      let s1 := (v.pushTile v.y k (.astat v.r.w v.r.slot dst)).modWarp v.r.g v.r.w (fun y => y.setSlot v.r.slot (some { v.f with arrived := some (.tile id) }))
      .error (.wait s1 false))

/-- R270: ASTAT at its turn. -/
def State.astatTurn (s : State) (g id w : Nat) (slot : Bool) (dst : Option (Fin 32)) (x : DWord) : State :=
  match s.warp g w with
  | none => s
  | some y =>
    let me := fun (f : Frag) => decide (f.arrived = some (.tile id))
    if (y.slot slot).any me || y.kept.any (fun k => decide (k.slot = slot) && me k.frag) then
      (match dst with
        | some i => s.modWarp g w (fun y => y.setS i x)
        | none => s).answer { g := g, w := w, slot := slot } me
    else s

/-- R271: the word of a FIFO that the group owns. -/
def State.fifoWord (s : State) (g : Nat) (k : Fin 4) (q : Fifo) : Nat :=
  let flying := (s.copies.filter (fun e => e.2.live && decide (e.2.g = g) && (match e.2.kind with
    | .cpyf j _ => decide (j = k)
    | _ => false))).length
  2 ^ 63 + b2n q.broken * 2 ^ 61 + (q.slabs.filter (·.claimed)).length % 256 * 2 ^ 48 + (q.slabs.filter (fun b => !b.claimed)).length % 256 * 2 ^ 40 +
    flying % 256 * 2 ^ 32 + (q.slabs.map (fun b => b.bytes.length)).sum % 2 ^ 15

/-- R260: CPYFs into a FIFO that have not ended. -/
def State.inflight (s : State) (g : Nat) (k : Fin 4) : Nat := s.fifoWord g k .fresh / 2 ^ 32 % 256

/-- FQRY (R271). -/
def execFqry (d : Opnd) (f : BitVec 7) (s : State) : Host.Outcome State Fault Refusal := issue s (fun v => do
  let l ← v.resolveDst kSxZ false d
  let k ← v.idx4 f
  v.destReady l
  let x := match v.grp.fifos[k] with
    | some q => v.s.fifoWord v.r.g k q
    | none => if (v.s.fifoOwner v.core k).isSome then 2 ^ 62 else 0
  .ok (v.put (v.y.setScalar l (BitVec.ofNat 64 x))))

/-- FDISC (R271). -/
def execFdisc (f : BitVec 7) (s : State) : Host.Outcome State Fault Refusal := issue s (fun v => do
  let k ← v.idx4 f
  match v.grp.fifos[k] with
  | none => .ok (v.put v.y)
  | some q =>
    if 0 < v.s.inflight v.r.g k then .error (v.trap cFIFOERR k.val)
    else if q.slabs.any (·.claimed) then .error v.hold
    else .ok (v.putGroup v.y (fun g => { g with fifos := g.fifos.set k none })))

/-! ## QBLK and DQBLK (11 R272) -/

/-- R272: ETYPE is a block type and T none. -/
def View.blockTypes (v : View) (t : BitVec 7) : Except Stop Nat := if 17 ≤ t.toNat ∨ !tyBfp v.et then .error (v.trap cILLTYPE) else .ok t.toNat

/-- R272, 02 R33: the extra value of b[x3[2..0]], as in R194. -/
def View.blockExtra (v : View) : Nat := v.y.cvtExtra

/-- R272: T of 17 to 127 makes no pair. -/
def blockWide (t : BitVec 7) : Bool := decide (t.toNat < 17) && tyWide t.toNat

/-- QBLK (R272). -/
def execQblk (d a : Opnd) (ty : BitVec 7) (wa : Bool) (s : State) : Host.Outcome State Fault Refusal := issue s (fun v => do
  let l ← v.resolveDst kV false d
  let ra ← v.rd kV (blockWide ty) a wa
  let t ← v.blockTypes ty
  let v ← v.sources [ra]
  v.destReady l
  let m := tyWidth v.et
  let xs := (v.laneVals t ra.loc).toList.map (decodeVal t (mFtz v.y.mode) v.blockExtra)
  let (e, ms) := quantise m (mRnd v.y.mode) xs
  let image := limbs 32 (e + 2 ^ 32 * blockBits m ms)
  match l with
  | .vec (p :: _) => .ok (v.put (v.y.setV p (BitVec.allOnes 32) (fun i => BitVec.ofNat 32 (image.getD i.val 0))))
  | _ => .ok (v.put v.y))

/-- DQBLK (R272). -/
def execDqblk (d a : Opnd) (ty : BitVec 7) (wa : Bool) (s : State) : Host.Outcome State Fault Refusal := issue s (fun v => do
  let l ← v.resolveDst kV (blockWide ty) d
  let ra ← v.rd kV false a wa
  let t ← v.blockTypes ty
  let v ← v.sources [ra]
  v.destReady l
  let m := tyWidth v.et
  let x := limbsNat ((v.laneVals 6 ra.loc).toList.take (m + 1))
  let md := v.y.mode
  let out := Vector.ofFn (fun (i : Fin 32) =>
    encodeVal t (mRnd md) (mFtz md) (mSat md) v.blockExtra false (blockElem m (x % 256) (x / 2 ^ 32) i.val))
  match l with
  | .vec names => .ok (v.put (v.y.setLanes names (BitVec.allOnes 32) t out))
  | _ => .ok (v.put v.y))

/-! ## The turn of an operation (11 R254 to R257, R274) -/

/-- R256: an operation retires: it leaves the order and the queue; a CLOSING tile with nothing pending is CLOSED, and a group that has exited
gives up its tiles after its last one (R274). -/
def State.retire (s : State) (g : Nat) (o : TileOp) : State :=
  (s.modGroup g (fun x =>
    let y : Group := { x with tops := x.tops.filter (fun q => q.id != o.id) }
    let z := if (y.tiles[o.tile]).st = .closing ∧ y.pend o.tile = 0 then y.modTile o.tile (fun _ => .closed) else y
    if z.st = .exited ∧ z.tops.isEmpty then z.dropTiles else z)).trimEngine

/-- R254 to R269: what an operation does at its turn. -/
def State.tileTurn (s : State) (g : Nat) (x : Group) (o : TileOp) : State :=
  let t := x.tiles[o.tile]
  match o.kind with
  | .azero => s.modGroup g (fun q => q.modTile o.tile Tile.cleared)
  | .mma fa sa fb sb => s.modGroup g (fun q => q.multiply o.tile false fa sa fb sb)
  | .lmma fa sa fb sb => s.modGroup g (fun q => q.multiply o.tile true fa sa fb sb)
  | .ard w reg q => s.modWarp g w (fun y =>
      if t.err then y.orphanReg reg false 0
      else y.setV reg (BitVec.allOnes 32) (fun i => (t.elem q.row (q.col0 + i.val)).word q.word))
  | .awr lanes q => s.modGroup g (fun z => z.modTile o.tile (·.awr lanes q))
  | .cres w d row user old => s.cresTurn g t w d row user old
  | .astat w slot dst => s.astatTurn g o.id w slot dst (t.desc (x.pend o.tile - 1))
  | .adrain id => s.drainTurn t id

/-- TILE_OPERATION_RETIRE (R254, R256): the turn of an operation comes. -/
def execTileOperationRetire (g id : Nat) (s : State) : Host.Outcome State Fault Refusal :=
  .next (match s.group g with
    | none => s
    | some x =>
      match x.tops.find? (fun o => o.id == id), x.core with
      | some o, some core =>
        if (s.ctxs[cfin x.ctx]).st.runs && decide (x.st ≠ .restoring) && x.opReady o && (!o.queued || s.engineHead core (.tile g id)) then
          (s.tileTurn g x o).retire g o
        else s
      | _, _ => s)

/-! ## Row blocks (11 R251) -/

/-- R251: the group that holds most row blocks, and of equals the one resident longest. -/
def mostBlocks : List (Nat × Group) → Option (Nat × Group)
  | [] => none
  | e :: r => match mostBlocks r with
    | none => some e
    | some f => if e.2.blocks < f.2.blocks ∨ (e.2.blocks = f.2.blocks ∧ f.2.resSince < e.2.resSince) then some f else some e

/-- ROW_BLOCK_PREEMPTION (R251): an AOPEN of a group has waited for a quantum of its context, and another group that holds row blocks is
pre-empted. -/
def execRowBlockPreemption (g : Nat) (s : State) : Host.Outcome State Fault Refusal :=
  .next (match s.group g with
    | none => s
    | some x =>
      match x.core with
      | none => s
      | some core =>
        let long := x.aopens.any (fun r => decide ((s.ctxs[cfin x.ctx]).quantumNs ≤ s.now - r.since) && decide (31 < s.blocksUsed core + r.need))
        let here := s.groups.filter (fun e => decide (e.1 ≠ g) && decide (e.2.core = some core) && decide (0 < e.2.blocks))
        if x.st = .resident ∧ long ∧ here.all (fun e => decide (e.2.st ≠ .preempting)) then
          match mostBlocks (here.filter (fun e => decide (e.2.st = .resident) &&
              decide ((s.ctxs[cfin e.2.ctx]).quantumNs ≤ s.now - e.2.resSince))) with
          | some e => s.preempt e.1
          | none => s
        else s)

end Sys2Proof.Machine
end

