-- ==== Sys2Proof/Machine/Dispatch.lean ====
section
/-! DEFINITION. The dispatch: one arm per constructor of `Instr`, one direct call of its meaning. -/

namespace Sys2Proof.Machine

/-- What an instruction word, an event or a host command does. -/
def exec (i : Instr) (s : State) : Host.Outcome State Fault Refusal :=
  match i with
  | .nop => Sys2Proof.Machine.execNop s
  | .setmode imm => Sys2Proof.Machine.execSetmode imm s
  | .ret => Sys2Proof.Machine.execRet s
  | .rcv arm tok => Sys2Proof.Machine.execRcv arm tok s
  | .waitc rem copy n => Sys2Proof.Machine.execWaitc rem copy n s
  | .yield => Sys2Proof.Machine.execYield s
  | .exit => Sys2Proof.Machine.execExit s
  | .elect k => Sys2Proof.Machine.execElect k s
  | .ldl d off => Sys2Proof.Machine.execLdl d off s
  | .ldl2 d off => Sys2Proof.Machine.execLdl2 d off s
  | .ldln d off => Sys2Proof.Machine.execLdln d off s
  | .trap imm => Sys2Proof.Machine.execTrap imm s
  | .bkpt imm => Sys2Proof.Machine.execBkpt imm s
  | .jmps k => Sys2Proof.Machine.execJmps k s
  | .saluMov d a wa => Sys2Proof.Machine.execSaluMov d a wa s
  | .saluAdd d a b wa wb => Sys2Proof.Machine.execSaluAdd d a b wa wb s
  | .saluSub d a b wa wb => Sys2Proof.Machine.execSaluSub d a b wa wb s
  | .saluMul d a b wa wb => Sys2Proof.Machine.execSaluMul d a b wa wb s
  | .saluMulh d a b wa wb => Sys2Proof.Machine.execSaluMulh d a b wa wb s
  | .saluMad d a b wa wb => Sys2Proof.Machine.execSaluMad d a b wa wb s
  | .saluMin d a b wa wb => Sys2Proof.Machine.execSaluMin d a b wa wb s
  | .saluMax d a b wa wb => Sys2Proof.Machine.execSaluMax d a b wa wb s
  | .saluAbs d a wa => Sys2Proof.Machine.execSaluAbs d a wa s
  | .saluNeg d a wa => Sys2Proof.Machine.execSaluNeg d a wa s
  | .saluAnd d a b wa wb => Sys2Proof.Machine.execSaluAnd d a b wa wb s
  | .saluOr d a b wa wb => Sys2Proof.Machine.execSaluOr d a b wa wb s
  | .saluXor d a b wa wb => Sys2Proof.Machine.execSaluXor d a b wa wb s
  | .saluShl d a b wa wb => Sys2Proof.Machine.execSaluShl d a b wa wb s
  | .saluShr d a b wa wb => Sys2Proof.Machine.execSaluShr d a b wa wb s
  | .saluSar d a b wa wb => Sys2Proof.Machine.execSaluSar d a b wa wb s
  | .saluCmpeq d a b wa wb => Sys2Proof.Machine.execSaluCmpeq d a b wa wb s
  | .saluCmplt d a b wa wb => Sys2Proof.Machine.execSaluCmplt d a b wa wb s
  | .saluCmple d a b wa wb => Sys2Proof.Machine.execSaluCmple d a b wa wb s
  | .saluCmpne d a b wa wb => Sys2Proof.Machine.execSaluCmpne d a b wa wb s
  | .saluSel d a b wa wb => Sys2Proof.Machine.execSaluSel d a b wa wb s
  | .saluCvt d a ty wa => Sys2Proof.Machine.execSaluCvt d a ty wa s
  | .addc d a b wa wb => Sys2Proof.Machine.execAddc d a b wa wb s
  | .subb d a b wa wb => Sys2Proof.Machine.execSubb d a b wa wb s
  | .rot d a b wa wb => Sys2Proof.Machine.execRot d a b wa wb s
  | .rdlane d a b wa wb => Sys2Proof.Machine.execRdlane d a b wa wb s
  | .mand d a b wa wb => Sys2Proof.Machine.execMand d a b wa wb s
  | .mor d a b wa wb => Sys2Proof.Machine.execMor d a b wa wb s
  | .saluClz d a wa => Sys2Proof.Machine.execSaluClz d a wa s
  | .saluPopc d a wa => Sys2Proof.Machine.execSaluPopc d a wa s
  | .mxor d a b wa wb => Sys2Proof.Machine.execMxor d a b wa wb s
  | .idxset xk a wa => Sys2Proof.Machine.execIdxset xk a wa s
  | .valuMov d a wa => Sys2Proof.Machine.execValuMov d a wa s
  | .valuAdd d a b wa wb => Sys2Proof.Machine.execValuAdd d a b wa wb s
  | .valuSub d a b wa wb => Sys2Proof.Machine.execValuSub d a b wa wb s
  | .valuMul d a b wa wb => Sys2Proof.Machine.execValuMul d a b wa wb s
  | .valuMulh d a b wa wb => Sys2Proof.Machine.execValuMulh d a b wa wb s
  | .valuFma d a b wa wb => Sys2Proof.Machine.execValuFma d a b wa wb s
  | .valuMin d a b wa wb => Sys2Proof.Machine.execValuMin d a b wa wb s
  | .valuMax d a b wa wb => Sys2Proof.Machine.execValuMax d a b wa wb s
  | .valuAbs d a wa => Sys2Proof.Machine.execValuAbs d a wa s
  | .valuNeg d a wa => Sys2Proof.Machine.execValuNeg d a wa s
  | .valuAnd d a b wa wb => Sys2Proof.Machine.execValuAnd d a b wa wb s
  | .valuOr d a b wa wb => Sys2Proof.Machine.execValuOr d a b wa wb s
  | .valuXor d a b wa wb => Sys2Proof.Machine.execValuXor d a b wa wb s
  | .valuShl d a b wa wb => Sys2Proof.Machine.execValuShl d a b wa wb s
  | .valuShr d a b wa wb => Sys2Proof.Machine.execValuShr d a b wa wb s
  | .valuSar d a b wa wb => Sys2Proof.Machine.execValuSar d a b wa wb s
  | .valuCmpeq d a b wa wb => Sys2Proof.Machine.execValuCmpeq d a b wa wb s
  | .valuCmplt d a b wa wb => Sys2Proof.Machine.execValuCmplt d a b wa wb s
  | .valuCmple d a b wa wb => Sys2Proof.Machine.execValuCmple d a b wa wb s
  | .valuCmpne d a b wa wb => Sys2Proof.Machine.execValuCmpne d a b wa wb s
  | .valuSel d a b wa wb => Sys2Proof.Machine.execValuSel d a b wa wb s
  | .valuCvt d a ty wa => Sys2Proof.Machine.execValuCvt d a ty wa s
  | .rcp d a wa => Sys2Proof.Machine.execRcp d a wa s
  | .rsq d a wa => Sys2Proof.Machine.execRsq d a wa s
  | .sqrt d a wa => Sys2Proof.Machine.execSqrt d a wa s
  | .exp2 d a wa => Sys2Proof.Machine.execExp2 d a wa s
  | .log2 d a wa => Sys2Proof.Machine.execLog2 d a wa s
  | .vclass d a wa => Sys2Proof.Machine.execVclass d a wa s
  | .valuClz d a wa => Sys2Proof.Machine.execValuClz d a wa s
  | .valuPopc d a wa => Sys2Proof.Machine.execValuPopc d a wa s
  | .div d a b wa wb => Sys2Proof.Machine.execDiv d a b wa wb s
  | .bmm8 d a b wa wb => Sys2Proof.Machine.execBmm8 d a b wa wb s
  | .bdep d a b wa wb => Sys2Proof.Machine.execBdep d a b wa wb s
  | .bext d a b wa wb => Sys2Proof.Machine.execBext d a b wa wb s
  | .bperm d a b wa wb => Sys2Proof.Machine.execBperm d a b wa wb s
  | .brev d a wa => Sys2Proof.Machine.execBrev d a wa s
  | .shfl d a b wa wb => Sys2Proof.Machine.execShfl d a b wa wb s
  | .shflx d a b wa wb => Sys2Proof.Machine.execShflx d a b wa wb s
  | .shflup d a b wa wb => Sys2Proof.Machine.execShflup d a b wa wb s
  | .shfldn d a b wa wb => Sys2Proof.Machine.execShfldn d a b wa wb s
  | .vall d a wa => Sys2Proof.Machine.execVall d a wa s
  | .vany d a wa => Sys2Proof.Machine.execVany d a wa s
  | .vbal d a wa => Sys2Proof.Machine.execVbal d a wa s
  | .qxch d a b wa wb => Sys2Proof.Machine.execQxch d a b wa wb s
  | .qbcst d a b wa wb => Sys2Proof.Machine.execQbcst d a b wa wb s
  | .matchv d a wa => Sys2Proof.Machine.execMatchv d a wa s
  | .wred d a op wa => Sys2Proof.Machine.execWred d a op wa s
  | .wscan d a op wa => Sys2Proof.Machine.execWscan d a op wa s
  | .wrlane d a b wa wb => Sys2Proof.Machine.execWrlane d a b wa wb s
  | .ptload d b wb => Sys2Proof.Machine.execPtload d b wb s
  | .movx d a wa => Sys2Proof.Machine.execMovx d a wa s
  | .expr d a b c => Sys2Proof.Machine.execExpr d a b c s
  | .nset nd a b wa wb => Sys2Proof.Machine.execNset nd a b wa wb s
  | .nget d na b wa wb => Sys2Proof.Machine.execNget d na b wa wb s
  | .nmov nd na wa => Sys2Proof.Machine.execNmov nd na wa s
  | .nadd nd na nb wa wb => Sys2Proof.Machine.execNadd nd na nb wa wb s
  | .nsub nd na nb wa wb => Sys2Proof.Machine.execNsub nd na nb wa wb s
  | .nneg nd na wa => Sys2Proof.Machine.execNneg nd na wa s
  | .ncmp d na nb wa wb => Sys2Proof.Machine.execNcmp d na nb wa wb s
  | .nshl nd na b wa wb => Sys2Proof.Machine.execNshl nd na b wa wb s
  | .nshr nd na b wa wb => Sys2Proof.Machine.execNshr nd na b wa wb s
  | .nmul nd na nb wa wb => Sys2Proof.Machine.execNmul nd na nb wa wb s
  | .nsqr nd na wa => Sys2Proof.Machine.execNsqr nd na wa s
  | .ndiv nd na nb wa wb => Sys2Proof.Machine.execNdiv nd na nb wa wb s
  | .nrem nd na nb wa wb => Sys2Proof.Machine.execNrem nd na nb wa wb s
  | .nmmul nd na nb wa wb => Sys2Proof.Machine.execNmmul nd na nb wa wb s
  | .nld nd a wa => Sys2Proof.Machine.execNld nd a wa s
  | .nst nd a wa => Sys2Proof.Machine.execNst nd a wa s
  | .nalloc nd a b wa wb => Sys2Proof.Machine.execNalloc nd a b wa wb s
  | .nfree nd => Sys2Proof.Machine.execNfree nd s
  | .nnorm nd na wa => Sys2Proof.Machine.execNnorm nd na wa s
  | .nttf nd na b wa wb => Sys2Proof.Machine.execNttf nd na b wa wb s
  | .ntti nd na b wa wb => Sys2Proof.Machine.execNtti nd na b wa wb s
  | .npmul nd na nb wa wb => Sys2Proof.Machine.execNpmul nd na nb wa wb s
  | .ncrt nd na b wa wb => Sys2Proof.Machine.execNcrt nd na b wa wb s
  | .nred d na wa => Sys2Proof.Machine.execNred d na wa s
  | .aopen t a wa => Sys2Proof.Machine.execAopen t a wa s
  | .aclose t => Sys2Proof.Machine.execAclose t s
  | .azero t => Sys2Proof.Machine.execAzero t s
  | .mma t fa fb => Sys2Proof.Machine.execMma t fa fb s
  | .lmma t fa fb => Sys2Proof.Machine.execLmma t fa fb s
  | .ard d t b wb => Sys2Proof.Machine.execArd d t b wb s
  | .awr t a b wa wb => Sys2Proof.Machine.execAwr t a b wa wb s
  | .cres nd t b wb => Sys2Proof.Machine.execCres nd t b wb s
  | .adrain t a wa => Sys2Proof.Machine.execAdrain t a wa s
  | .astat d t b => Sys2Proof.Machine.execAstat d t b s
  | .fqry d f => Sys2Proof.Machine.execFqry d f s
  | .fdisc f => Sys2Proof.Machine.execFdisc f s
  | .qblk d a ty wa => Sys2Proof.Machine.execQblk d a ty wa s
  | .dqblk d a ty wa => Sys2Proof.Machine.execDqblk d a ty wa s
  | .cpy d a wa => Sys2Proof.Machine.execCpy d a wa s
  | .cpyt d a wa => Sys2Proof.Machine.execCpyt d a wa s
  | .cpyf d a f wa => Sys2Proof.Machine.execCpyf d a f wa s
  | .cpyq d a wa => Sys2Proof.Machine.execCpyq d a wa s
  | .cpyx d a wa => Sys2Proof.Machine.execCpyx d a wa s
  | .cstat d a wa => Sys2Proof.Machine.execCstat d a wa s
  | .ccan a wa => Sys2Proof.Machine.execCcan a wa s
  | .binit a b wa wb => Sys2Proof.Machine.execBinit a b wa wb s
  | .bexp a b wa wb => Sys2Proof.Machine.execBexp a b wa wb s
  | .barr d a wa => Sys2Proof.Machine.execBarr d a wa s
  | .bwait a b wa wb => Sys2Proof.Machine.execBwait a b wa wb s
  | .btest d a b wa wb => Sys2Proof.Machine.execBtest d a b wa wb s
  | .gsync => Sys2Proof.Machine.execGsync s
  | .csync => Sys2Proof.Machine.execCsync s
  | .xst a b wa wb => Sys2Proof.Machine.execXst a b wa wb s
  | .mcst a b wa wb => Sys2Proof.Machine.execMcst a b wa wb s
  | .cred d a b wa wb => Sys2Proof.Machine.execCred d a b wa wb s
  | .rdtim d => Sys2Proof.Machine.execRdtim d s
  | .rdcyc d => Sys2Proof.Machine.execRdcyc d s
  | .ld scope order d a base wd wa => Sys2Proof.Machine.execLd scope order d a base wd wa s
  | .st scope order d a base wd wa => Sys2Proof.Machine.execSt scope order d a base wd wa s
  | .ldc scope order d a base wd wa => Sys2Proof.Machine.execLdc scope order d a base wd wa s
  | .atadd scope order d a base wd wa => Sys2Proof.Machine.execAtadd scope order d a base wd wa s
  | .atmin scope order d a base wd wa => Sys2Proof.Machine.execAtmin scope order d a base wd wa s
  | .atmax scope order d a base wd wa => Sys2Proof.Machine.execAtmax scope order d a base wd wa s
  | .atand scope order d a base wd wa => Sys2Proof.Machine.execAtand scope order d a base wd wa s
  | .ator scope order d a base wd wa => Sys2Proof.Machine.execAtor scope order d a base wd wa s
  | .atxor scope order d a base wd wa => Sys2Proof.Machine.execAtxor scope order d a base wd wa s
  | .atswp scope order d a base wd wa => Sys2Proof.Machine.execAtswp scope order d a base wd wa s
  | .atcas scope order d a base wd wa => Sys2Proof.Machine.execAtcas scope order d a base wd wa s
  | .fence scope order => Sys2Proof.Machine.execFence scope order s
  | .acqr scope order d a base wd wa => Sys2Proof.Machine.execAcqr scope order d a base wd wa s
  | .spk scope order d a base wd wa => Sys2Proof.Machine.execSpk scope order d a base wd wa s
  | .pref scope order a base wa => Sys2Proof.Machine.execPref scope order a base wa s
  | .lds scope order d a base wd wa => Sys2Proof.Machine.execLds scope order d a base wd wa s
  | .sts scope order d a base wd wa => Sys2Proof.Machine.execSts scope order d a base wd wa s
  | .atsadd scope order d a base wd wa => Sys2Proof.Machine.execAtsadd scope order d a base wd wa s
  | .atsmin scope order d a base wd wa => Sys2Proof.Machine.execAtsmin scope order d a base wd wa s
  | .atsmax scope order d a base wd wa => Sys2Proof.Machine.execAtsmax scope order d a base wd wa s
  | .atscas scope order d a base wd wa => Sys2Proof.Machine.execAtscas scope order d a base wd wa s
  | .qpush d a b wa wb => Sys2Proof.Machine.execQpush d a b wa wb s
  | .qmap d a wa => Sys2Proof.Machine.execQmap d a wa s
  | .qunmap d => Sys2Proof.Machine.execQunmap d s
  | .qsig a b wa wb => Sys2Proof.Machine.execQsig a b wa wb s
  | .qwait a b wa wb => Sys2Proof.Machine.execQwait a b wa wb s
  | .qattach a wa => Sys2Proof.Machine.execQattach a wa s
  | .qdetach a wa => Sys2Proof.Machine.execQdetach a wa s
  | .qwr a b wa wb => Sys2Proof.Machine.execQwr a b wa wb s
  | .rinj d a b wa wb => Sys2Proof.Machine.execRinj d a b wa wb s
  | .rtake d a b wa wb => Sys2Proof.Machine.execRtake d a b wa wb s
  | .rpass => Sys2Proof.Machine.execRpass s
  | .rdrop => Sys2Proof.Machine.execRdrop s
  | .reff sz a b wa wb => Sys2Proof.Machine.execReff sz a b wa wb s
  | .rstat d a b wa wb => Sys2Proof.Machine.execRstat d a b wa wb s
  | .rdsys d k => Sys2Proof.Machine.execRdsys d k s
  | .wrsys k a wa => Sys2Proof.Machine.execWrsys k a wa s
  | .tretFix => Sys2Proof.Machine.execTretFix s
  | .tretSkip => Sys2Proof.Machine.execTretSkip s
  | .tretRetry => Sys2Proof.Machine.execTretRetry s
  | .tretKillw => Sys2Proof.Machine.execTretKillw s
  | .tretKillg => Sys2Proof.Machine.execTretKillg s
  | .tretKillc => Sys2Proof.Machine.execTretKillc s
  | .bset bk a b wa wb => Sys2Proof.Machine.execBset bk a b wa wb s
  | .binv bk => Sys2Proof.Machine.execBinv bk s
  | .tagld d bk b wb => Sys2Proof.Machine.execTagld d bk b wb s
  | .tagst bk a b wa wb => Sys2Proof.Machine.execTagst bk a b wa wb s
  | .tlbinv a b wa wb => Sys2Proof.Machine.execTlbinv a b wa wb s
  | .pgqry d a wa => Sys2Proof.Machine.execPgqry d a wa s
  | .halt => Sys2Proof.Machine.execHalt s
  | .bra off => Sys2Proof.Machine.execBra off s
  | .brz off => Sys2Proof.Machine.execBrz off s
  | .brnz off => Sys2Proof.Machine.execBrnz off s
  | .brneg off => Sys2Proof.Machine.execBrneg off s
  | .brcy off => Sys2Proof.Machine.execBrcy off s
  | .breos off => Sys2Proof.Machine.execBreos off s
  | .call off => Sys2Proof.Machine.execCall off s
  | .brv k off => Sys2Proof.Machine.execBrv k off s
  | .create c => Sys2Proof.Machine.execCreate c s
  | .commit c => Sys2Proof.Machine.execCommit c s
  | .suspend c => Sys2Proof.Machine.execSuspend c s
  | .resume c => Sys2Proof.Machine.execResume c s
  | .destroy c => Sys2Proof.Machine.execDestroy c s
  | .release c => Sys2Proof.Machine.execRelease c s
  | .ctxcmdBadcmd c cmd => Sys2Proof.Machine.execCtxcmdBadcmd c cmd s
  | .contextDead c => Sys2Proof.Machine.execContextDead c s
  | .registerWrite off size val => Sys2Proof.Machine.execRegisterWrite off size val s
  | .savepoolWrite v => Sys2Proof.Machine.execSavepoolWrite v s
  | .doorbell q t => Sys2Proof.Machine.execDoorbell q t s
  | .bind q c => Sys2Proof.Machine.execBind q c s
  | .unbind q => Sys2Proof.Machine.execUnbind q s
  | .pause q => Sys2Proof.Machine.execPause q s
  | .unpause q => Sys2Proof.Machine.execUnpause q s
  | .reset q => Sys2Proof.Machine.execReset q s
  | .qctlBadcmd q cmd => Sys2Proof.Machine.execQctlBadcmd q cmd s
  | .kernelLoad q => Sys2Proof.Machine.execKernelLoad q s
  | .launchAdmission => Sys2Proof.Machine.execLaunchAdmission s
  | .signalRecheck => Sys2Proof.Machine.execSignalRecheck s
  | .priorityAgeing head id => Sys2Proof.Machine.execPriorityAgeing head id s
  | .phaseDrained l => Sys2Proof.Machine.execPhaseDrained l s
  | .phaseSelection l => Sys2Proof.Machine.execPhaseSelection l s
  | .groupPlacement => Sys2Proof.Machine.execGroupPlacement s
  | .groupRestored g ok => Sys2Proof.Machine.execGroupRestored g ok s
  | .preemptionStart => Sys2Proof.Machine.execPreemptionStart s
  | .rowBlockPreemption g => Sys2Proof.Machine.execRowBlockPreemption g s
  | .groupSaved g => Sys2Proof.Machine.execGroupSaved g s
  | .warpActivate core => Sys2Proof.Machine.execWarpActivate core s
  | .producerWriteback id => Sys2Proof.Machine.execProducerWriteback id s
  | .memoryAccessComplete id => Sys2Proof.Machine.execMemoryAccessComplete id s
  | .retryResume g w => Sys2Proof.Machine.execRetryResume g w s
  | .migrationLock id => Sys2Proof.Machine.execMigrationLock id s
  | .migrationMove id => Sys2Proof.Machine.execMigrationMove id s
  | .migrationPublish id => Sys2Proof.Machine.execMigrationPublish id s
  | .migratingLeafRecheck id => Sys2Proof.Machine.execMigratingLeafRecheck id s
  | .migrate => Sys2Proof.Machine.execMigrate s
  | .pin => Sys2Proof.Machine.execPin s
  | .unpin => Sys2Proof.Machine.execUnpin s
  | .mcmdTlbinv => Sys2Proof.Machine.execMcmdTlbinv s
  | .frameinWrite p pn => Sys2Proof.Machine.execFrameinWrite p pn s
  | .copyLand id n => Sys2Proof.Machine.execCopyLand id n s
  | .copyDone id => Sys2Proof.Machine.execCopyDone id s
  | .copyFail id => Sys2Proof.Machine.execCopyFail id s
  | .exchangeStoreLand id => Sys2Proof.Machine.execExchangeStoreLand id s
  | .reductionResult id => Sys2Proof.Machine.execReductionResult id s
  | .streamOperationComplete id => Sys2Proof.Machine.execStreamOperationComplete id s
  | .hodAllocation id => Sys2Proof.Machine.execHodAllocation id s
  | .tileOperationRetire g id => Sys2Proof.Machine.execTileOperationRetire g id s
  | .recordAssignment id => Sys2Proof.Machine.execRecordAssignment id s
  | .windowClose id => Sys2Proof.Machine.execWindowClose id s
  | .recordCommit id slot => Sys2Proof.Machine.execRecordCommit id slot s
  | .rowAlert ch row sat corrupt => Sys2Proof.Machine.execRowAlert ch row sat corrupt s
  | .damperEpisode ch => Sys2Proof.Machine.execDamperEpisode ch s
  | .flitReceive dir noise => Sys2Proof.Machine.execFlitReceive dir noise s
  | .replayRequest dir => Sys2Proof.Machine.execReplayRequest dir s
  | .packetDeliver dir => Sys2Proof.Machine.execPacketDeliver dir s
  | .laneLoss link lane => Sys2Proof.Machine.execLaneLoss link lane s
  | .replayStorm link => Sys2Proof.Machine.execReplayStorm link s
  | .retrainComplete link => Sys2Proof.Machine.execRetrainComplete link s
  | .retrainTimeout link => Sys2Proof.Machine.execRetrainTimeout link s
  | .linkQuiesce link => Sys2Proof.Machine.execLinkQuiesce link s
  | .quiesceComplete link => Sys2Proof.Machine.execQuiesceComplete link s
  | .inboundAccess r => Sys2Proof.Machine.execInboundAccess r s
  | .inboundTimeout id => Sys2Proof.Machine.execInboundTimeout id s
  | .errorResponse tag timeout => Sys2Proof.Machine.execErrorResponse tag timeout s
  | .remoteTimeout tag => Sys2Proof.Machine.execRemoteTimeout tag s
  | .hostMemoryAccess addr data => Sys2Proof.Machine.execHostMemoryAccess addr data s
  | .qwaitRecheck g w slot => Sys2Proof.Machine.execQwaitRecheck g w slot s
  | .powerGood => Sys2Proof.Machine.execPowerGood s
  | .romCheckComplete => Sys2Proof.Machine.execRomCheckComplete s
  | .bringupComplete => Sys2Proof.Machine.execBringupComplete s
  | .powerLoss => Sys2Proof.Machine.execPowerLoss s
  | .thermalTrip die => Sys2Proof.Machine.execThermalTrip die s
  | .functionLevelReset => Sys2Proof.Machine.execFunctionLevelReset s
  | .stepChange die up => Sys2Proof.Machine.execStepChange die up s
  | .clockPauseEnd die => Sys2Proof.Machine.execClockPauseEnd die s
  | .stepcapWrite v => Sys2Proof.Machine.execStepcapWrite v s
  | .mgmtcauseClear v => Sys2Proof.Machine.execMgmtcauseClear v s
  | .report => Sys2Proof.Machine.execReport s
  | .certs => Sys2Proof.Machine.execCerts s
  | .nodeset => Sys2Proof.Machine.execNodeset s
  | .attestationComplete => Sys2Proof.Machine.execAttestationComplete s
  | .healthThreshold u => Sys2Proof.Machine.execHealthThreshold u s
  | .healthWindowEnd k => Sys2Proof.Machine.execHealthWindowEnd k s
  | .patrolRead addr corrected => Sys2Proof.Machine.execPatrolRead addr corrected s
  | .reservedEncoding w => Sys2Proof.Machine.execReservedEncoding w s
  | .flitSlot dir => Sys2Proof.Machine.execFlitSlot dir s
  | .spillComplete g w win => Sys2Proof.Machine.execSpillComplete g w win s
  | .thermalWarning die => Sys2Proof.Machine.execThermalWarning die s
  | .coreRestart core => Sys2Proof.Machine.execCoreRestart core s
  | .firmwareImageLoad k img => Sys2Proof.Machine.execFirmwareImageLoad k img s

end Sys2Proof.Machine
end

