-- ==== Sys2Proof/Machine/Sched.lean ====
section
/-! DEFINITION. Which agent moves next, and what stands between two moves: the fetch of a fragment's next instruction, the default order, the
wake of blocked fragments, and the time that passes (08 R148 to R150, 13 R310, R311; log entries 1, 2). -/

namespace Sys2Proof.Machine

/-! ## Issue -/

/-- What an instruction word means: an instruction, or a reserved encoding (04 R92). -/
def instrOf (w : Word) : Instr := match decodeWord w with
  | .ok i => i
  | .error _ => .reservedEncoding w

/-- 08 R148, R152; 19 R427: the fragment is a candidate: nothing but the choice among candidates keeps it from issuing. -/
def State.candidate (s : State) (r : Ref) : Bool :=
  match s.group r.g, s.warp r.g r.w with
  | some x, some y =>
    decide (x.st = .resident) && decide (y.sched = .active) && !(s.coreAt (x.core.getD 0)).halted &&
    !s.life.paused[Fin.ofNat 4 (coreDie (x.core.getD 0))] && (y.intrap || y.takeable.isNone) &&
    (match y.slot r.slot with
     | some f => decide (f.status = .ready) && f.retry.isEmpty
     | none => false) &&
    (match y.kept with
     | some k => decide (r.slot = k.slot) || !k.other
     | none => true)
  | _, _ => false

/-- What the fetch for a fragment answers (03 R48). -/
def State.fetchFor (s : State) (r : Ref) : Option (View × Fetched) :=
  match s.viewOf r with
  | none => none
  | some v => v.kernel.map (fun k => (v, s.fetchAt v.core v.c k v.y.plvl v.pc))

/-- 08 R148: the issue slot that takes a word: 0 vector (VALU, BITX, EXPR), 1 memory (MEM, SPAD), 2 scalar. -/
def issueSlot (w : Word) : Fin 3 := match bits w 31 28 with
  | 2 | 3 | 4 => 0
  | 9 | 10 => 1
  | _ => 2

/-- 08 R148: the issue slot of a fragment's next instruction; a word that cannot be fetched goes to the scalar slot, where its fetch traps. -/
def State.slotFor (s : State) (r : Ref) : Fin 3 := match s.fetchFor r with
  | some (_, .word w) => issueSlot w
  | _ => 2

/-- 08 R149: a warp offers the instruction of one fragment: of two candidates, the one that issued less recently. -/
def State.offered (s : State) (r : Ref) : Bool :=
  s.candidate r && (!s.candidate { r with slot := !r.slot } || (match s.warp r.g r.w with
    | some y => decide (r.slot ≠ y.last1)
    | none => false))

/-- 08 R148: the step since which a fragment has been ready. -/
def State.readySince (s : State) (r : Ref) : Nat := ((s.ready.find? (fun e => e.1 = r)).map (·.2)).getD s.tick

/-- The core of a fragment. -/
def State.coreOf (s : State) (r : Ref) : Nat := ((s.group r.g).bind (·.core)).getD 0

/-- 08 R148: how far a fragment's warp slot lies after the slot that last won an issue slot, counting upward with wrap-around. -/
def State.slotTurn (s : State) (k : Fin 3) (r : Ref) : Nat :=
  (((s.warp r.g r.w).map (·.slotNo)).getD 0 + 31 - (s.coreAt (s.coreOf r)).won[k]) % 32

/-- 08 R148: a fragment's instruction goes to an issue slot before another's: it has been ready longer, or as long and its warp slot comes first. -/
def State.goesBefore (s : State) (k : Fin 3) (r q : Ref) : Bool :=
  decide (s.readySince r < s.readySince q) || (decide (s.readySince r = s.readySince q) && decide (s.slotTurn k r ≤ s.slotTurn k q))

/-- The fragments of warps of resident groups, with the state of their warp. -/
def State.fragments (s : State) : List Ref :=
  ((s.groups.filter (fun e => decide (e.2.st = .resident))).map (fun e =>
    (e.2.warps.zipIdx.map (fun (y, w) =>
      (if y.slot0.isSome then [{ g := e.1, w := w, slot := false : Ref }] else []) ++
      (if y.slot1.isSome then [{ g := e.1, w := w, slot := true : Ref }] else []))).flatten)).flatten

/-- 08 R148, R149: the fragment may issue now: its warp offers its instruction, and no other that is offered on its core for the same issue slot
goes before it. -/
def State.canIssue (s : State) (r : Ref) : Bool :=
  s.offered r && s.fragments.all (fun q => decide (q = r) || decide (s.coreOf q ≠ s.coreOf r) || !s.offered q || decide (s.slotFor q ≠ s.slotFor r) ||
    s.goesBefore (s.slotFor r) r q)

/-- 08 R148: the fragment's warp slot has won its issue slot, and its next instruction is ready anew. -/
def State.wins (s : State) (r : Ref) : State :=
  let k := s.slotFor r
  let n := ((s.warp r.g r.w).map (·.slotNo)).getD 0
  { (s.modCore (s.coreOf r) (fun c => { c with won := c.won.set k n })) with ready := s.ready.filter (fun e => e.1 != r) }

/-- 08 R148: the candidates, each with the step since which it has been one. -/
def State.stampReady (s : State) : State :=
  { s with ready := (s.fragments.filter s.candidate).map (fun r => (r, s.readySince r)) }

/-- A fragment fetches its next instruction and issues it. -/
def State.issueAt (s : State) (r : Ref) : Host.Outcome State Fault Refusal :=
  match s.fetchFor r with
  | none => .next s
  | some (_, .word w) => exec (instrOf w) { s with cur := some r }
  | some (v, .trap code addr) => .next (v.finish (.error (v.trap code addr)))
  | some (v, .park va) => .next (v.finish (.error (v.parkPage va)))
  | some (v, .tables) => .next (v.finish (.error .tables))

/-! ## The wake of blocked fragments (08 R150) -/

/-- The fragment that a name stands for. -/
def State.fragOf (s : State) (r : Ref) : Option Frag := (s.warp r.g r.w).bind (fun y => y.slot r.slot)

/-- The fragment is BLOCKED. -/
def Frag.blocked (f : Frag) : Bool := decide (f.status ≠ .ready)

/-- 08 R150: a blocked fragment tries its instruction again. While nothing about the fragment changes it stays blocked, with what it waits for;
else it is READY, and a PARKED warp is PENDING, unless a RETRY still waits (19 R432). -/
def State.wakeOne (s : State) (r : Ref) : State :=
  match s.fragOf r with
  | none => s
  | some f =>
    if !f.blocked then s
    else
      let ready :=
        let s1 := s.setStatus r .ready
        match s1.warp r.g r.w with
        | some y => if y.sched = .parked ∧ y.running.all (fun f => f.retry.isEmpty) then s1.setSched r.g r.w .pending else s1
        | none => s1
      match s.issueAt r with
      | .next t => if t.fragOf r = some f then { t with cur := s.cur } else ready
      | _ => s

/-- Every blocked fragment tries its instruction again. -/
def State.wake (s : State) : State := s.fragments.foldl State.wakeOne s

/-- The writes due to every context are performed as far as they can be. -/
def State.flushAll (s : State) : State :=
  (List.finRange 64).foldl (fun t c => if t.ctxs[c].owed.isEmpty then t else t.flush c) s

/-- Every warp takes the trap that it can take (19 R427, R430). -/
def State.takeAll (s : State) : State :=
  s.groups.foldl (fun t e => (List.range e.2.warps.length).foldl (fun t w => t.takeDue e.1 w) t) s

/-- 09 R188: the RDLANEs that issued ahead are answered as soon as their registers have filled. -/
def State.readLanes (s : State) : State :=
  s.groups.foldl (fun t e => e.2.warps.zipIdx.foldl (fun t (y, w) => y.laneReads.foldl (fun t r => t.landRead e.1 w r) t) t) s


/-! ## The default order (log entry 1) -/

/-- 08 R148, R149: the first fragment that can issue. -/
def State.readyRef (s : State) : Option Ref := s.fragments.find? s.canIssue

/-- The events of the device that may be due. -/
def State.candidates (s : State) : List Instr :=
  s.memops.map (fun e => .memoryAccessComplete e.1) ++
  s.memops.map (fun e => .producerWriteback e.1) ++
  (s.groups.map (fun e => (e.2.warps.map (fun y => y.laneReads.map (fun r => Instr.producerWriteback r.id))).flatten)).flatten ++
  s.numops.map (fun e => .streamOperationComplete e.1) ++
  s.hods.map (fun e => .hodAllocation e.1) ++
  (s.groups.map (fun e => e.2.tops.map (fun o => Instr.tileOperationRetire e.1 o.id))).flatten ++
  s.copies.map (fun e => .copyLand e.1 1) ++
  s.copies.map (fun e => .copyDone e.1) ++
  s.copies.map (fun e => .copyFail e.1) ++
  s.exchs.map (fun e => .exchangeStoreLand e.1) ++
  s.reds.map (fun e => .reductionResult e.1) ++
  s.remotes.map (fun e => .memoryAccessComplete e.1) ++
  s.binds.map (fun e => .recordAssignment e.1) ++
  s.binds.map (fun e => .windowClose e.1) ++
  (s.binds.map (fun e => e.2.recs.map (fun r => Instr.recordCommit e.1 r.1))).flatten ++
  (s.migs.map (fun e => [Instr.migrationLock e.1, .migrationMove e.1, .migrationPublish e.1, .migratingLeafRecheck e.1])).flatten ++
  s.fragments.map (fun r => .retryResume r.g r.w) ++
  s.liveCores.map (fun c => .warpActivate c) ++
  s.groups.map (fun e => .groupSaved e.1) ++
  s.groups.map (fun e => .groupRestored e.1 true) ++
  [.groupPlacement, .preemptionStart] ++
  s.groups.map (fun e => .rowBlockPreemption e.1) ++
  s.launches.map (fun e => .phaseDrained e.1) ++
  s.launches.map (fun e => .phaseSelection e.1) ++
  [.launchAdmission] ++
  (List.finRange 256).map (fun q => .kernelLoad q) ++
  [.signalRecheck] ++
  (List.finRange 64).map (fun c => .contextDead c) ++
  ((List.range 36).map (fun d => [Instr.packetDeliver d, .flitReceive d 0, .replayRequest d, .flitSlot d])).flatten ++

  [.romCheckComplete, .bringupComplete, .attestationComplete]

/-- The event has an effect in this state. -/
def State.moves (s : State) (i : Instr) : Bool := match exec i s with
  | .next t => decide (t ≠ s)
  | _ => false

/-- Who moves when the agenda names nobody: a fragment that can issue, else an event of the device that has an effect, else a packet in a station or the Damper of a channel. -/
def State.defaultTurn (s : State) : Option Turn :=
  match s.readyRef with
  | some r => some (.issue r)
  | none => match s.candidates.find? s.moves with
    | some i => some (.event i)
    | none => (s.stationTurns ++ s.channels.map (fun e => Turn.episode e.1)).find? (fun t => match t with
      | .station key cls => decide (s.stationMove key cls ≠ s)
      | .episode ch => (s.channel ch).episodeDue s.now
      | _ => false)

/-! ## What an aborted move leaves waiting (15 R358) -/

/-- 15 R358 step 4: a blocked fragment that waits for the page whose move has been aborted, and for nothing else first, fails with UNCORR. -/
def State.failOne (s : State) (r : Ref) : State :=
  match s.fragOf r with
  | none => s
  | some f =>
    if !f.blocked then s
    else match s.issueAt r, ({ s with lostPage := none } : State).issueAt r with
      | .next t, .next u => if u.fragOf r = some f ∧ t.fragOf r ≠ some f then { t with cur := s.cur } else s
      | _, _ => s

/-- 15 R358 step 4: an agent of the device that can only wait for that page fails. -/
def State.failEvent (s : State) (i : Instr) : State :=
  match exec i s, exec i { s with lostPage := none } with
  | .next t, .next u => if ({ u with migs := s.migs, uid := s.uid, lostPage := s.lostPage } : State) = s then t else s
  | _, _ => s

/-- 15 R358 step 4: what waits for a page whose move has been aborted fails with UNCORR. -/
def State.failLost (s : State) : State :=
  match s.lostPage with
  | none => s
  | some _ => { (s.candidates.foldl State.failEvent (s.fragments.foldl State.failOne s)) with lostPage := none }

/-! ## A step -/

/-- What follows from a step at once. -/
def State.settle (s : State) : State :=
  (({ s with cur := none } : State).readLanes.flushAll.recsSettle.failLost.takeAll.serveAll).wake.stampReady

/-- 13 R310: the ns that a step takes: what the configuration leaves free, and 1 ns every 2^20 steps, so that the timer does not stop (log entry 2). -/
def stepTime (tick : Nat) : Nat := Config.elapsed tick + b2n (decide (tick % 2 ^ 20 = 2 ^ 20 - 1))

/-- 13 R310, R311: the time that a step takes. -/
def State.pass (s : State) : State := { (s.lapse (stepTime s.tick)) with tick := s.tick + 1 }

/-- The die on whose core a group is. -/
def State.dieOf (s : State) (g : Nat) : Option Nat := ((s.group g).bind (·.core)).map coreDie

/-- 13 R312: the die whose clock an event of the device needs; the links stall by themselves (`State.stalled`). -/
def State.dieOfEvent (s : State) (i : Instr) : Option Nat := match i with
  | .memoryAccessComplete id => (tget s.memops id).bind (fun m => s.dieOf m.g)
  | .producerWriteback id => (tget s.memops id).bind (fun m => s.dieOf m.g)
  | .streamOperationComplete id => (tget s.numops id).bind (fun m => s.dieOf m.g)
  | .hodAllocation id => (tget s.hods id).bind (fun m => s.dieOf m.g)
  | .tileOperationRetire g _ => s.dieOf g
  | .copyLand id _ => (tget s.copies id).bind (fun m => s.dieOf m.g)
  | .copyDone id => (tget s.copies id).bind (fun m => s.dieOf m.g)
  | .copyFail id => (tget s.copies id).bind (fun m => s.dieOf m.g)
  | .exchangeStoreLand id => (tget s.exchs id).bind (fun m => s.dieOf m.g)
  | .retryResume g _ => s.dieOf g
  | .qwaitRecheck g _ _ => s.dieOf g
  | .spillComplete g _ _ => s.dieOf g
  | .groupSaved g => s.dieOf g
  | .groupRestored g _ => s.dieOf g
  | .warpActivate core => some (coreDie core)
  | .coreRestart core => some (coreDie core)
  | .migrationLock id => (tget s.migs id).map (·.die)
  | .migrationMove id => (tget s.migs id).map (·.die)
  | .migrationPublish id => (tget s.migs id).map (·.die)
  | .packetDeliver dir => dirTo dir
  | _ => none

/-- 13 R312: the clock of a die stands. -/
def State.halts (s : State) (die : Option Nat) : Bool := die.any (fun d => s.life.paused[Fin.ofNat 4 d])

/-- What a fragment issues: an instruction word or a reserved encoding, and no event. -/
def isWord (i : Instr) : Bool := (encode i).isSome || (match i with
  | .reservedEncoding _ => true
  | _ => false)

/-- 19 R434: the instruction that a fragment has fetched reads a register whose parity fails: it traps with UNCORR at issue, and the register is
as it was. -/
def State.upset (s : State) (r : Ref) (code : BitVec 7) : Host.Outcome State Fault Refusal :=
  match s.fetchFor r with
  | some (v, .word _) => .next (v.finish (.error (v.trap cUNCORR code.toNat)))
  | _ => s.issueAt r

/-- An agent moves. A fragment that cannot issue, a word that no fragment issues, or an event of a die whose clock stands changes nothing. -/
def State.take (s : State) (t : Turn) : Host.Outcome State Fault Refusal :=
  match t with
  | .issue r => if s.canIssue r then (s.wins r).issueAt r else .next s
  | .event i => if isWord i || s.halts (s.dieOfEvent i) then .next s else exec i s
  | .upset r code => if s.canIssue r then (s.wins r).upset r code else .next s
  | .decay line => .next (s.decay line)
  | .decaySpad g window word => .next (s.decaySpad g window word)
  | .decayTile g k => .next (s.decayTile g k)
  | .parity core line => .next (s.parity core line)
  | .correct u => .next (if s.life.stat = .ready then s.corrected u else s)
  | .station key cls => .next (if s.halts (some (key / 40)) then s else s.stationMove key cls)
  | .spoil key cls => .next (s.spoil key cls)
  | .episode ch => Sys2Proof.Machine.execDamperEpisode ch s
  | .frado g w enter => .next (s.frado g w enter)
  | .tableCopy second => .next (s.spoilTable second)

/-- The agent that moves in this state, and the state without it on the agenda. -/
def State.turn (s : State) : Option Turn × State :=
  match s.agenda with
  | t :: r => (some t, { s with agenda := r })
  | [] => (s.defaultTurn, s)

/-- One move and what follows from it. -/
def State.move (s : State) : Host.Outcome State Fault Refusal :=
  match s.pass.turn with
  | (none, t) => .next t.settle
  | (some a, t) => match t.take a with
    | .next u => .next u.settle
    | o => o

end Sys2Proof.Machine
end

