-- ==== Sys2Proof/Machine/Load.lean ====
section
/-! DEFINITION. How an instruction word comes to be the next one that a step fetches: at the place the next fragment fetches from, or, when
none can issue, in a program that is loaded from outside the machine (log entry 7). -/

namespace Sys2Proof.Machine

/-- The fragment whose turn is next, when it can issue. -/
def State.nextRef (s : State) : Option Ref :=
  match s.agenda with
  | [] => s.readyRef
  | .issue r :: _ => if s.canIssue r then some r else none
  | _ => none

/-- Where the fragment whose turn is next fetches its word, when that is memory of this module: a local physical address. -/
def State.nextFetch (s : State) : Option Nat :=
  match s.nextRef.bind s.viewOf with
  | none => none
  | some v => match v.kernel with
    | none => none
    | some k => match s.fetchAt v.core v.c k v.y.plvl v.pc with
      | .word _ =>
        if (k.patched ((v.pc.toNat - k.code) / 4)).isSome then none
        else match s.xlateCore v.core v.c v.pc.toNat false (decide (v.y.plvl = 0)) with
          | .ok pa _ => if s.isLocal pa then some (localPart pa) else none
          | _ => none
      | _ => none

/-- The die configuration of a module as shipped (20 R446, log entry 6). -/
def DieConf.full : DieConf :=
  { cores := List.replicate 4 (List.range 16), slt := List.range 64, clt := List.range 64, capk := true }

/-- The kernel that `withFetchWord` loads: code from byte 128 of page 0, one schedule of one group of one warp. -/
def loadedKernel : Kernel :=
  { ctx := 0, addr := 0, codeOff := 128, codeSize := 4096, pools := [], lits := [], patches := [],
    scheds := [{ limit := 2 ^ 32 - 1, entry := 0, groups := 1, gdiv := 0, warps := 1, numarea := 1, spad := 4096, exch := 256, win := 80 }],
    exprs := [], perms := [], stagesets := [], params := [], sizesVa := 0, phases := 1, done := none, prio := 0, size0 := 32 }

/-- A module that is READY, with one context whose page 0 lies at local address 0x40000 and holds the loaded kernel's code and a trap
handler, and with the one warp of the one group of the launch about to issue. -/
def State.loaded (s : State) : State :=
  let life := { s.life with stat := .ready, dies := List.replicate 4 DieConf.full }
  let m0 := Memory.wr s.mem 0x10000 8 (0x14000 + 1)
  let m1 := Memory.wr m0 0x14000 8 (0x18000 + 1)
  let m2 := Memory.wr m1 0x18000 8 (0x1C000 + 1)
  let m3 := Memory.wr m2 0x1C000 8 (2 ^ 52 * stFast + 16 * 64 + 0x31)
  let m4 := Memory.wr m3 0x42000 4 (0xF * 2 ^ 28 + 16 * 2 ^ 21)
  let x : Ctx := { Ctx.free with st := .running, ptroot := 0x10000, tvec := 0x2004, save := 0, savesize := 2 ^ 30 }
  let sch := loadedKernel.scheds.headD { limit := 0, entry := 0, groups := 1, gdiv := 0, warps := 1, numarea := 0, spad := 0, exch := 0, win := 1 }
  let g : Group :=
    { launch := s.uid, phase := 0, num := 0, ctx := 0, sched := sch, win := 80, st := .resident, warps := [], spad := [], numa := [], bank0 := [],
      bank1 := [], live1 := false, gswaps := 0, cswaps := 0, absent := [], tiles := Vector.replicate 8 .closed, tops := [],
      fifos := Vector.replicate 4 none, core := some 0, lastQuad := none, resSince := 0, imaged := false, imgAt := [], image := [], prio := 0, aopens := [],
      waitSince := 0, badWords := [] }
  let l : Launch := { k := loadedKernel, st := .running, phase := 0, size := 32, count := 1, killed := false, prio := 0, order := 0 }
  let s1 : State := { s with life := life, mem := m4, ctxs := s.ctxs.set 0 x, launches := [(s.uid, l)], cores := [] }
  let y := s1.startWarp loadedKernel g 32 0 0
  { s1 with groups := [(s.uid + 1, { g with warps := [{ y with sched := .active }] })], agenda := [.issue { g := s.uid + 1, w := 0, slot := false }],
            uid := s.uid + 2 }

/-- Local address of the loaded kernel's first code word. -/
def loadedAt : Nat := 0x40080

/-- A state that fetches a word next: the word stands where the next fetch reads, in a loaded program where there is none. -/
def State.placeWord (s : State) (w : Nat) : State :=
  match s.nextFetch with
  | some a => s.wr a 4 w
  | none => s.loaded.wr loadedAt 4 w

end Sys2Proof.Machine
end

