-- ==== Sys2Proof/Machine/Step.lean ====
section
/-! DEFINITION. The step of the machine, and the state that fetches a given word next. -/

namespace Sys2Proof.Machine

/-- One step: an agent moves (log entry 1). -/
def step (s : State) : Host.Outcome State Fault Refusal := s.move

/-- The state with an instruction word stored where the next step fetches (log entry 7); every word of the Decden has 32 bits. -/
def State.withFetchWord (s : State) (_nbits w : Nat) : State := s.placeWord w

end Sys2Proof.Machine
end

