-- ==== Sys2Proof/Safety.lean ====
section
/-! DEFINITION. What a safe run is: no state stops, and every memory of the module keeps its canonical form (log entry 3). -/

namespace Sys2Proof.Machine

/-- Every memory of a state has its canonical form: the module's, BAR 0, and the windows of every group. -/
def State.memoriesWf (s : State) : Prop :=
  Memory.wf s.mem = true ∧ Memory.wf s.bar0 = true ∧
    ∀ e ∈ s.groups, Memory.wf e.2.spad = true ∧ Memory.wf e.2.numa = true ∧ Memory.wf e.2.bank0 = true ∧ Memory.wf e.2.bank1 = true

/-- The states that a run of `n` steps reaches without a stop. -/
def reaches : Nat → State → State → Prop
  | 0, s, t => s = t
  | n + 1, s, t => ∃ u, step s = .next u ∧ reaches n u t

/-! ## The words in which statements about one instruction are said -/

/-- The fragment that `State.cur` names issues its instruction and sees `v`: its window lies in registers, and the warp has no trap that it
would take after the instruction (19 R427). -/
structure Issues (s : State) (v : View) : Prop where
  /-- the fragment is there -/
  sees : s.cur.bind s.viewOf = some v
  /-- 08 R160: its window is not moved out -/
  here : v.win.spilled = false
  /-- no trap is taken after the instruction -/
  calm : v.y.intrap = true ∨ v.y.due = []

/-- 08 R149: what is left of a state in which an instruction has completed: its slot is the one that issued last. -/
def View.done (v : View) (t : State) : State := t.modWarp v.r.g v.r.w (fun y => { y with last1 := v.r.slot })

/-- 03 R63: a source field names `l`, which is FULL and no word queue. -/
structure View.Src (v : View) (k : Kinds) (wide : Bool) (o : Opnd) (l : Loc) : Prop where
  /-- the field names it -/
  names : v.resolve k wide o = .ok l
  /-- its registers are FULL -/
  full : ∀ f ∈ v.y.fills l, f = .full
  /-- it is not mapped onto a word queue -/
  plain : ∀ i, l = .sca i → v.y.mapped i = none

/-- 03 R64: a destination field names `l`, and no producer of it is in flight. -/
structure View.Dst (v : View) (k : Kinds) (wide : Bool) (o : Opnd) (l : Loc) : Prop where
  /-- the field names it -/
  names : v.resolveDst k wide o = .ok l
  /-- none of its registers is EMPTY -/
  free : Fill.empty ∉ v.y.fills l

/-- A run from a state is safe: after any number of steps the machine goes on. -/
def State.safe (s : State) : Prop := ∀ n t, reaches n s t → ∃ u, step t = .next u

end Sys2Proof.Machine
end

