-- ==== Sys2Proof/Certificates/Slice0/Obligations.lean ====
section
/-! DEFINITION. The statements of this row for the provers, with the words in which they are said. A statement of several parts is a conjunction. -/

namespace Sys2Proof.Machine

/-! ## What an instruction comes to -/

/-- What an instruction of a fragment comes to when it traps with no effect (19 R427): a context fault in a handler, else the pending trap. -/
def View.trapped (v : View) (code : Nat) (faddr : Nat) (mask : Word) : Host.Outcome State Fault Refusal :=
  .next (v.trapIn v.base code .issue faddr mask)

/-- 08 R150, R165: what an instruction comes to when it waits at issue: its fragment is BLOCKED on it, and with an event of 08 R150 its warp may park. -/
def View.waiting (v : View) (parks : Bool) : Host.Outcome State Fault Refusal :=
  .next ((v.base.setStatus v.r (.blocked parks)).parkCheck v.r.g v.r.w)

/-- 03 R60, 09 R190: an instruction has its result under the types that it takes, and traps with ILLTYPE under every other. -/
def View.under (v : View) (ok : Bool) (i : Instr) (s t : State) : Prop :=
  (ok = true → exec i s = .next t) ∧ (ok = false → exec i s = v.trapped 0x03 0 v.f.mask)

/-- 09 R182: ETYPE names a type of a scalar or of whole lanes: 0 to 11. -/
def View.plain (v : View) : Bool := decide (v.et < 12)

/-! ## Scalar instructions (09 R184 to R189) -/

/-- 09 R182, R184: the value of 64 bits under the signedness of ETYPE. -/
def num64 (sg : Bool) (x : DWord) : Int := if sg then x.toInt else x.toNat

/-- 02 R27 at 64 bits: under SAT a result is clamped to the bounds of its signedness, else its low 64 bits are kept. -/
def fit64 (sg sat : Bool) (z : Int) : DWord :=
  if sat then (if sg then BitVec.ofInt 64 (max (-2 ^ 63) (min (2 ^ 63 - 1) z)) else BitVec.ofInt 64 (max 0 (min (2 ^ 64 - 1) z)))
  else BitVec.ofInt 64 z

/-- 02 R27: a difference or sum lies outside the signed 64-bit range. -/
def overflows (z : Int) : Bool := !(decide (-2 ^ 63 ≤ z) && decide (z < 2 ^ 63))

/-- 09 R186: what a scalar compare with truth value `t` writes: 1 or 0, and the four flags. -/
def cmpWrites (sg t : Bool) (f : Byte) (x z : DWord) : DWord × Byte :=
  (if t then 1 else 0,
   setZNCV f (!t) (decide (num64 sg x < num64 sg z)) (decide (z.toNat ≤ x.toNat)) (overflows (x.toInt - z.toInt)))

/-- 09 R189: what a combination of two masks writes: the 32-bit result zero-extended, and Z. -/
def maskWrites (f : Byte) (w : Word) : DWord × Byte := (w.setWidth 64, setZ f (decide (w = 0)))

/-- 09 R184 to R186, R189: the scalar instructions of two sources, each with the result and the FLAGS that it writes for the signedness of
ETYPE, SAT, the FLAGS before it and the values of a and b. -/
def scalar2Table (d a b : Opnd) (wa wb : Bool) : List (Instr × (Bool → Bool → Byte → DWord → DWord → DWord × Byte)) :=
  [(.saluAdd d a b wa wb, fun sg sat f x z => (fit64 sg sat (num64 sg x + num64 sg z), f)),
   (.saluSub d a b wa wb, fun sg sat f x z => (fit64 sg sat (num64 sg x - num64 sg z), f)),
   (.saluMul d a b wa wb, fun sg sat f x z => (fit64 sg sat (num64 sg x * num64 sg z), f)),
   (.saluMulh d a b wa wb, fun sg _ f x z => (BitVec.ofInt 64 (num64 sg x * num64 sg z / 2 ^ 64), f)),
   (.saluMin d a b wa wb, fun sg _ f x z => (if num64 sg x ≤ num64 sg z then x else z, f)),
   (.saluMax d a b wa wb, fun sg _ f x z => (if num64 sg x ≤ num64 sg z then z else x, f)),
   (.saluAnd d a b wa wb, fun _ _ f x z => (x &&& z, f)),
   (.saluOr d a b wa wb, fun _ _ f x z => (x ||| z, f)),
   (.saluXor d a b wa wb, fun _ _ f x z => (x ^^^ z, f)),
   (.saluShl d a b wa wb, fun _ _ f x z => (if 64 ≤ z.toNat then 0 else x <<< z.toNat, f)),
   (.saluShr d a b wa wb, fun _ _ f x z => (if 64 ≤ z.toNat then 0 else x >>> z.toNat, f)),
   (.saluSar d a b wa wb, fun _ _ f x z => (x.sshiftRight (min 63 z.toNat), f)),
   (.saluCmpeq d a b wa wb, fun sg _ f x z => cmpWrites sg (decide (x = z)) f x z),
   (.saluCmplt d a b wa wb, fun sg _ f x z => cmpWrites sg (decide (num64 sg x < num64 sg z)) f x z),
   (.saluCmple d a b wa wb, fun sg _ f x z => cmpWrites sg (decide (num64 sg x ≤ num64 sg z)) f x z),
   (.saluCmpne d a b wa wb, fun sg _ f x z => cmpWrites sg (decide (x ≠ z)) f x z),
   (.saluSel d a b wa wb, fun _ _ f x z => (if f.getLsbD 0 then z else x, f)),
   (.addc d a b wa wb, fun _ _ f x z =>
      let c := b2n (f.getLsbD 2)
      let r := BitVec.ofNat 64 (x.toNat + z.toNat + c)
      (r, setZNCV f (decide (r = 0)) r.msb (decide (2 ^ 64 ≤ x.toNat + z.toNat + c)) (overflows (x.toInt + z.toInt + c)))),
   (.subb d a b wa wb, fun _ _ f x z =>
      let c : Int := 1 - b2n (f.getLsbD 2)
      let r := BitVec.ofInt 64 (x.toNat - z.toNat - c)
      (r, setZNCV f (decide (r = 0)) r.msb (decide ((0 : Int) ≤ x.toNat - z.toNat - c)) (overflows (x.toInt - z.toInt - c)))),
   (.rot d a b wa wb, fun _ _ f x z => (x.rotateLeft (z.toNat % 64), f)),
   (.mand d a b wa wb, fun _ _ f x z => maskWrites f (x.setWidth 32 &&& z.setWidth 32)),
   (.mor d a b wa wb, fun _ _ f x z => maskWrites f (x.setWidth 32 ||| z.setWidth 32)),
   (.mxor d a b wa wb, fun _ _ f x z => maskWrites f (x.setWidth 32 ^^^ z.setWidth 32))]

/-- 09 R184: the scalar instructions of one source that write d alone, each with its result. -/
def scalar1Table (d a : Opnd) (wa : Bool) : List (Instr × (Bool → Bool → DWord → DWord)) :=
  [(.saluMov d a wa, fun _ _ x => x),
   (.saluAbs d a wa, fun sg sat x => if sg then fit64 sg sat (x.toInt.natAbs : Int) else x),
   (.saluNeg d a wa, fun sg sat x => fit64 sg sat (-(num64 sg x))),
   (.saluClz d a wa, fun _ _ x => BitVec.ofNat 64 (if x = 0 then 64 else 63 - x.toNat.log2)),
   (.saluPopc d a wa, fun _ _ x => BitVec.ofNat 64 ((List.range 64).filter (fun i => x.getLsbD i)).length)]

/-- 09 R182: the signedness that a scalar instruction takes from ETYPE: 0 to 3 and 8 to 11 signed, 4 to 7 cardinal. -/
def View.sg (v : View) : Bool := !(decide (4 ≤ v.et) && decide (v.et ≤ 7))

/-- A scalar instruction of two sources has its operands: its fields name registers it takes, its sources are FULL and no queues, and its
destination is not EMPTY. -/
structure Scalar2 (s : State) (v : View) (d a b : Opnd) (ld la lb : Loc) : Prop where
  /-- it issues -/
  issues : Issues s v
  /-- the destination -/
  dst : v.Dst kScalarD false d ld
  /-- source a -/
  srcA : v.Src kScalar false a la
  /-- source b -/
  srcB : v.Src kScalar false b lb

end Sys2Proof.Machine



open Sys2Proof Sys2Proof.Machine in
/-- 09 R184 to R189: the results of every scalar instruction. 09 R184, R185, R186, R189: every scalar instruction of two sources completes with its result in d and its FLAGS, and changes nothing else of
the warp (`setScalar` writes the one register of d, the low 32 bits of a mask register, or nothing); under an ETYPE above 11 it traps with ILLTYPE. 09 R184: every scalar instruction of one source completes with its result in d; MAD adds d, which must be FULL as a source; under an ETYPE above 11
they trap with ILLTYPE. 09 R187 to R189: CVT between the integer types, ILLTYPE for any other; RDLANE of a FULL register, IDXBOUND for a lane above 31; and IDXSET. -/
def Obligations.ScalarResults : Prop :=
  (∀ (s : State) (v : View) (d a b : Opnd) (wa wb : Bool) (ld la lb : Loc), Scalar2 s v d a b ld la lb →
    ∀ e ∈ scalar2Table d a b wa wb,
      let r := e.2 v.sg (mSat v.y.mode) v.y.flags (v.y.scalarVal la) (v.y.scalarVal lb)
      v.under v.plain e.1 s (v.done (v.put { v.y.setScalar ld r.1 with flags := r.2 }))) ∧
  (∀ (s : State) (v : View) (d a b : Opnd) (wa wb : Bool) (ld la lb : Loc), Scalar2 s v d a b ld la lb →
    (∀ e ∈ scalar1Table d a wa,
      v.under v.plain e.1 s (v.done (v.put (v.y.setScalar ld (e.2 v.sg (mSat v.y.mode) (v.y.scalarVal la)))))) ∧
    ((∀ f ∈ v.y.fills ld, f = .full) →
      v.under v.plain (.saluMad d a b wa wb) s (v.done (v.put (v.y.setScalar ld (fit64 v.sg (mSat v.y.mode)
        (num64 v.sg (v.y.scalarVal la) * num64 v.sg (v.y.scalarVal lb) + num64 v.sg (v.y.scalarVal ld)))))))) ∧
  ((∀ (s : State) (v : View) (d a : Opnd) (ty : BitVec 7) (wa : Bool) (ld la : Loc), Issues s v → v.Dst kScalarD false d ld →
    v.Src kScalar false a la →
    v.under (decide (ty.toNat < 8) && decide (v.et < 8)) (.saluCvt d a ty wa) s (v.done (v.put (v.y.setScalar ld (BitVec.ofNat 64 (extend64 v.et
      (intFit (tySigned v.et) (mSat v.y.mode) (tyWidth v.et) (intVal (tySigned ty.toNat) (tyWidth ty.toNat) (v.y.scalarVal la).toNat)))))))) ∧
  (∀ (s : State) (v : View) (d a b : Opnd) (wa wb : Bool) (ld lb : Loc) (n : List Nat), Issues s v → v.Dst kScalarD false d ld →
    v.Src kV (tyWide v.et) a (.vec n) → v.Src kScalar false b lb →
    ((v.y.scalarVal lb).toNat < 32 → v.under v.plain (.rdlane d a b wa wb) s (v.done (v.put (v.y.setScalar ld (BitVec.ofNat 64 (extend64 v.et
      ((v.y.lanesOf n).toList.getD (v.y.scalarVal lb).toNat 0))))))) ∧
    (32 ≤ (v.y.scalarVal lb).toNat → v.plain = true → exec (.rdlane d a b wa wb) s = v.trapped 0x04 (v.y.scalarVal lb).toNat v.f.mask)) ∧
  (∀ (s : State) (v : View) (k : Fin 4) (a : Opnd) (wa : Bool) (la : Loc), Issues s v → v.Src kSxC false a la →
    v.under v.plain (.idxset (BitVec.ofNat 7 k.val) a wa) s (v.done (v.put { v.y with x := v.y.x.set k ((v.y.scalarVal la).setWidth 8) }))))

namespace Sys2Proof.Machine

/-! ## Vector, bit and lane-exchange instructions (09 R190 to R214) -/

/-- 09 R190: the lane-wise instructions of two sources: the ETYPEs that each takes and its value in one lane, under ETYPE, RND, SAT and FTZ. -/
def lane2Table (d a b : Opnd) (wa wb : Bool) : List (Instr × (Nat → Bool) × (Md → Nat → Nat → Nat)) :=
  [(.valuAdd d a b wa wb, anyType, laneAdd), (.valuSub d a b wa wb, anyType, laneSub), (.valuMul d a b wa wb, anyType, laneMul),
   (.valuMulh d a b wa wb, fun t => !tyFloat t, laneMulh), (.valuMin d a b wa wb, anyType, laneMin), (.valuMax d a b wa wb, anyType, laneMax),
   (.valuAnd d a b wa wb, anyType, fun _ x y => x &&& y), (.valuOr d a b wa wb, anyType, fun _ x y => x ||| y),
   (.valuXor d a b wa wb, anyType, fun _ x y => x ^^^ y), (.valuShl d a b wa wb, anyType, fun m => laneShl (tyWidth m.t)),
   (.valuShr d a b wa wb, anyType, fun m => laneShr (tyWidth m.t)), (.valuSar d a b wa wb, anyType, fun m => laneSar (tyWidth m.t))]

/-- 09 R190, R195: the lane-wise instructions of one source. -/
def lane1Table (d a : Opnd) (wa : Bool) : List (Instr × (Nat → Bool) × (Md → Nat → Nat)) :=
  [(.valuMov d a wa, anyType, fun _ x => x), (.valuAbs d a wa, anyType, laneAbs), (.valuNeg d a wa, anyType, laneNeg),
   (.rcp d a wa, tyFloat, laneRcp), (.rsq d a wa, tyFloat, fun m => laneFn m FV.rsq), (.sqrt d a wa, tyFloat, fun m => laneFn m FV.sqrt),
   (.exp2 d a wa, tyFloat, fun m => laneFn m FV.exp2), (.log2 d a wa, tyFloat, fun m => laneFn m FV.log2),
   (.valuClz d a wa, anyType, fun m => laneClz (tyWidth m.t)), (.valuPopc d a wa, anyType, fun m => lanePopc (tyWidth m.t))]

/-- A lane-wise instruction has its operands: it issues, its fields name operands of these kinds (pairs where said), FULL and no queues, and its
destination is not EMPTY. -/
structure Lane2 (s : State) (v : View) (kd ka kb : Kinds) (wd wa wb : Bool) (d a b : Opnd) (ld la lb : Loc) : Prop where
  /-- it issues -/
  issues : Issues s v
  /-- the destination -/
  dst : v.Dst kd wd d ld
  /-- source a -/
  srcA : v.Src ka wa a la
  /-- source b -/
  srcB : v.Src kb wb b lb

/-- The lanes that members of an exchange take their values from (09 R207): none where the source is no lane or no active lane. -/
def View.from_ (v : View) (src : Fin 32 → Int) (i : Fin 32) : Option (Fin 32) :=
  (laneNo (src i)).filter (fun j => v.active.getLsbD j.val)

/-- 09 R207: the member lanes whose read misses. -/
def View.missed (v : View) (src : Fin 32 → Int) : Word := v.active &&& maskOf (fun i => (v.from_ src i).isNone)

/-- 09 R207: the state after an exchange without trap: lane i takes its source lane of a, 0 where there is none; then XMISS is set. -/
def View.exchanged (v : View) (ld la : Loc) (src : Fin 32 → Int) : State :=
  let y := if v.missed src ≠ 0 then { v.y with flags := v.y.flags ||| 0x20#8 } else v.y
  let x := v.laneVals v.moveType la
  ({ v with y := y }).putLanes ld v.active v.moveType (Vector.ofFn (fun i => match v.from_ src i with
    | some j => x[j]
    | none => 0))

/-- 09 R207: an exchange completes unless a read misses under XTRAP = 1: then it traps with XMISS, its members in FMASK and the lanes that missed in
FADDR; under an ETYPE above 11 it traps with ILLTYPE. -/
def View.exchanges (v : View) (i : Instr) (s : State) (ld la : Loc) (src : Fin 32 → Int) : Prop :=
  (mXtrap v.y.mode = false ∨ v.missed src = 0 → v.under v.plain i s (v.done (v.exchanged ld la src))) ∧
  (mXtrap v.y.mode = true → v.missed src ≠ 0 → v.plain = true → exec i s = v.trapped 0x13 (v.missed src).toNat v.active)

/-- 09 R208: the shuffles and the quad exchanges: the lane that lane i reads when its b is k. -/
def shuffleTable (d a b : Opnd) (wa wb : Bool) : List (Instr × (Nat → Nat → Int)) :=
  [(.shfl d a b wa wb, fun _ k => k), (.shflx d a b wa wb, fun i k => ((i ^^^ k : Nat) : Int)),
   (.shflup d a b wa wb, fun i k => (i : Int) - k), (.shfldn d a b wa wb, fun i k => (i : Int) + k)]

/-- 09 R209: what a vote writes: the scalar value and the mask, from the voters and those of them whose a is not 0. -/
def voteTable (d a : Opnd) (wa : Bool) : List (Instr × (Word → Word → Word × Word)) :=
  [(.vall d a wa, fun all yes => if yes = all then (1, BitVec.allOnes 32) else (0, 0)),
   (.vany d a wa, fun _ yes => if yes ≠ 0 then (1, BitVec.allOnes 32) else (0, 0)),
   (.vbal d a wa, fun _ yes => (yes, yes))]

end Sys2Proof.Machine


open Sys2Proof Sys2Proof.Machine in
/-- 09 R180, R190, R193 to R196: the results of the lane-wise instructions. 09 R180, R190, R193: every lane-wise instruction of two sources, FMA and SEL complete: the active lanes of d take the value of the operation on
that lane's sources, and nothing else of the warp changes; under a type that the instruction does not take it traps with ILLTYPE. 09 R190, R194 to R196: every lane-wise instruction of one source, CVT and CLASS complete with the value of the operation in each active lane; under a
type that the instruction does not take it traps with ILLTYPE. -/
def Obligations.VectorLaneResults : Prop :=
  (∀ (s : State) (v : View) (d a b : Opnd) (wa wb : Bool) (ld la lb : Loc),
    Lane2 s v kVZ kAny kAny (tyWide v.et) (tyWide v.et) (tyWide v.et) d a b ld la lb →
    let x := v.laneVals v.et la
    let y := v.laneVals v.et lb
    let z := v.laneVals v.et ld
    (∀ e ∈ lane2Table d a b wa wb, v.under (v.plain && e.2.1 v.et) e.1 s
      (v.done (v.putLanes ld v.active v.et (Vector.ofFn (fun (i : Fin 32) => e.2.2 v.md x[i] y[i]))))) ∧
    ((∀ f ∈ v.y.fills ld, f = .full) → v.under v.plain (.valuFma d a b wa wb) s
      (v.done (v.putLanes ld v.active v.et (Vector.ofFn (fun (i : Fin 32) => laneFma v.md x[i] y[i] z[i]))))) ∧
    (tyFloat v.et = true → exec (.div d a b wa wb) s =
      .next (v.done (v.putLanes ld v.active v.et (Vector.ofFn (fun (i : Fin 32) => laneFdiv v.md x[i] y[i]))))) ∧
    v.under v.plain (.valuSel d a b wa wb) s
      (v.done (v.putLanes ld v.active v.et (Vector.ofFn (fun (i : Fin 32) => if v.y.m[(0 : Fin 8)].getLsbD i.val then x[i] else y[i]))))) ∧
  (∀ (s : State) (v : View) (d a : Opnd) (ty : BitVec 7) (wa : Bool) (ld la : Loc), Issues s v →
    (v.Dst kVZ (tyWide v.et) d ld → v.Src kAny (tyWide v.et) a la → ∀ e ∈ lane1Table d a wa,
      v.under (v.plain && e.2.1 v.et) e.1 s (v.done (v.putLanes ld v.active v.et ((v.laneVals v.et la).map (e.2.2 v.md))))) ∧
    (v.Dst kVZ false d ld → v.Src kAny (tyWide v.et) a la →
      v.under (v.plain && tyFloat v.et) (.vclass d a wa) s (v.done (v.putLanes ld v.active 6 ((v.laneVals v.et la).map (classBits v.et))))) ∧
    (v.Dst kVZ (tyWide v.et) d ld → v.Src kAny (decide (ty.toNat < 24) && tyWide ty.toNat) a la →
      v.under (decide (ty.toNat < 24)) (.valuCvt d a ty wa) s (v.done (v.putLanes ld v.active v.et ((v.laneVals ty.toNat la).map
        (convert ty.toNat v.et (mRnd v.y.mode) (mFtz v.y.mode) (mSat v.y.mode) v.y.cvtExtra))))))


open Sys2Proof Sys2Proof.Machine in
/-- 09 R190, R192, R197: 32-bit integer lanes, compares and integer division. 09 R190 for a 32-bit integer ETYPE with SAT = 0: ADD, SUB, MUL, FMA, AND, OR, XOR, SHL and SHR leave in lane i of a single destination
register the result modulo 2^32 when lane i is active, and what it held before when it is not (R180). 09 R192, R197: a compare writes the bits of the active lanes of its mask register and leaves the others; an integer DIV writes the quotients toward
zero in the active lanes whose divisors are not 0, and when others are left, these fail with DIVZERO after it. -/
def Obligations.VectorWordAndCompareResults : Prop :=
  (∀ (s : State) (v : View) (n p q : Nat) (d a b : Opnd) (wa wb : Bool), Issues s v → v.et = 2 ∨ v.et = 6 → mSat v.y.mode = false →
    v.Dst kVZ false d (.vec [n]) → v.Src kAny false a (.vec [p]) → v.Src kAny false b (.vec [q]) →
    (v.y.vreg n).fill = .full → tget v.y.phys n ≠ none →
    ∀ e ∈ ([(.valuAdd d a b wa wb, fun x y _ => x + y), (.valuSub d a b wa wb, fun x y _ => x - y),
        (.valuMul d a b wa wb, fun x y _ => x * y), (.valuFma d a b wa wb, fun x y z => x * y + z),
        (.valuAnd d a b wa wb, fun x y _ => x &&& y), (.valuOr d a b wa wb, fun x y _ => x ||| y),
        (.valuXor d a b wa wb, fun x y _ => x ^^^ y),
        (.valuShl d a b wa wb, fun x y _ => if 32 ≤ y.toNat then 0 else x <<< y.toNat),
        (.valuShr d a b wa wb, fun x y _ => if 32 ≤ y.toNat then 0 else x >>> y.toNat)] : List (Instr × (Word → Word → Word → Word))),
      ∃ t y, exec e.1 s = .next t ∧ t.warp v.r.g v.r.w = some y ∧ (y.vreg n).fill = .full ∧
        ∀ i : Fin 32, (y.vreg n).lanes[i] = if v.active.getLsbD i.val
          then e.2 (v.y.vreg p).lanes[i] (v.y.vreg q).lanes[i] (v.y.vreg n).lanes[i] else (v.y.vreg n).lanes[i]) ∧
  (∀ (s : State) (v : View) (d a b : Opnd) (wa wb : Bool) (ld la lb : Loc) (k : Fin 8), Issues s v →
    v.Src kAny (tyWide v.et) a la → v.Src kAny (tyWide v.et) b lb →
    let x := v.laneVals v.et la
    let y := v.laneVals v.et lb
    (∀ e ∈ ([(.valuCmpeq (.m k) a b wa wb, .eq), (.valuCmplt (.m k) a b wa wb, .lt), (.valuCmple (.m k) a b wa wb, .le),
        (.valuCmpne (.m k) a b wa wb, .ne)] : List (Instr × Rel)),
      ∃ m : Word, v.under v.plain e.1 s (v.done (v.put (v.y.setM k m))) ∧
        ∀ i : Fin 32, m.getLsbD i.val = if v.active.getLsbD i.val then laneCmp v.md e.2 x[i] y[i] else v.y.m[k].getLsbD i.val) ∧
    (v.Dst kVZ (tyWide v.et) d ld → tyFloat v.et = false →
      let bad := v.active &&& maskOf (fun i => decide (y[i] = 0))
      let t := v.putLanes ld (v.active &&& ~~~bad) v.et (Vector.ofFn (fun (i : Fin 32) => v.md.fit (Int.tdiv (v.md.int x[i]) (v.md.int y[i]))))
      v.under v.plain (.div d a b wa wb) s (if bad = 0 then v.done t else v.finish (.ok (t.laneFail v.r.g v.r.w (decide (v.y.plvl = 0)) v.pc bad
        ((lanesIn bad).map (fun i => { lane := i, code := 0x0C, addr := 0, write := false })))))))


open Sys2Proof Sys2Proof.Machine in
/-- 09 R199 to R201, R207, R208: the bit movers and the lane exchanges. 09 R199 to R201: BMM8, BDEP, BEXT, BPERM and BREV complete with the moved bits in each active lane, and trap with ILLTYPE under an ETYPE above 11;
BPERM of no entry of the kernel's permutations traps with IDXBOUND. 09 R205 to R208: the shuffles and the quad exchanges: lane i takes its source lane, or 0 with XMISS set; under XTRAP = 1 a read that misses traps with
XMISS instead. -/
def Obligations.BitMoveAndExchangeResults : Prop :=
  (∀ (s : State) (v : View) (d a b : Opnd) (wa wb : Bool) (ld la lb : Loc) (p : List Nat), Issues s v →
    (v.Dst kV false d ld → v.Src kVS false a la → v.Src kSxZ false b lb → v.under v.plain (.bmm8 d a b wa wb) s
      (v.done (v.putLanes ld v.active 6 ((v.laneVals 6 la).map (bmmLane (v.y.scalarVal lb).toNat))))) ∧
    (v.Dst kV false d ld → v.Src kAny false a la → v.Src kAny false b lb →
      v.under v.plain (.bdep d a b wa wb) s (v.done (v.putLanes ld v.active 6
        (Vector.ofFn (fun (i : Fin 32) => depBits (v.laneVals 6 lb)[i] 32 0 (v.laneVals 6 la)[i])))) ∧
      v.under v.plain (.bext d a b wa wb) s (v.done (v.putLanes ld v.active 6
        (Vector.ofFn (fun (i : Fin 32) => extBits (v.laneVals 6 la)[i] (v.laneVals 6 lb)[i] 32 0 0)))) ∧
      v.under v.plain (.brev d a wa) s (v.done (v.putLanes ld v.active 6 ((v.laneVals 6 la).map revBits)))) ∧
    (v.Dst kV true d ld → v.Src kVS true a la → v.Src kSxZ1 false b lb →
      let entry := v.kernel.bind (fun k => k.perms[(v.y.scalarVal lb).toNat]?)
      (entry = some p → v.under v.plain (.bperm d a b wa wb) s (v.done (v.putLanes ld v.active 7 ((v.laneVals 7 la).map (permBits p))))) ∧
      (entry = none → v.plain = true → exec (.bperm d a b wa wb) s = v.trapped 0x04 (v.y.scalarVal lb).toNat v.f.mask))) ∧
  (∀ (s : State) (v : View) (d a b : Opnd) (wa wb : Bool) (ld la lb : Loc),
    (Lane2 s v kV kV kAny (tyWide v.et) (tyWide v.et) false d a b ld la lb → ∀ e ∈ shuffleTable d a b wa wb,
      v.exchanges e.1 s ld la (fun i => e.2 i.val (v.laneVals 6 lb)[i])) ∧
    (Lane2 s v kV kV kSxC (tyWide v.et) (tyWide v.et) false d a b ld la lb →
      let k := (v.y.scalarVal lb).toNat % 4
      v.exchanges (.qxch d a b wa wb) s ld la (fun i => ((i.val ^^^ k : Nat) : Int)) ∧
      v.exchanges (.qbcst d a b wa wb) s ld la (fun i => ((4 * (i.val / 4) + k : Nat) : Int))))


open Sys2Proof Sys2Proof.Machine in
/-- 09 R209 to R214: votes, matches, reductions and scans. 09 R209, R210: the votes write 1 or 0 to a scalar, all ones or zeros to a mask (VBAL the lanes), and set Z; MATCH writes in each voting lane the
voters with an equal key. The voters are the active lanes that are not helper lanes. Under an ETYPE above 11 they trap with ILLTYPE. 09 R211 to R213: WRED writes the reduction of the voters' values to every active lane or to a scalar, WSCAN the running prefixes, inclusive, or
exclusive for op codes 8 to 13; a code that names no reduction traps with ILLOP, an ETYPE above 11 with ILLTYPE. -/
def Obligations.VoteAndReduceResults : Prop :=
  (∀ (s : State) (v : View) (d a : Opnd) (wa : Bool) (ld la : Loc), Issues s v →
    let x := v.laneVals 6 la
    let yes := v.voters &&& maskOf (fun i => decide (x[i] ≠ 0))
    (v.Dst kSMZ false d ld → v.Src kAny false a la → ∀ e ∈ voteTable d a wa,
      let r := e.2 v.voters yes
      let y := match ld with
        | .msk k => v.y.setM k r.2
        | l => v.y.setScalar l (r.1.setWidth 64)
      v.under v.plain e.1 s (v.done (v.put { y with flags := setZ v.y.flags (decide (r.1 = 0)) }))) ∧
    (v.Dst kV false d ld → v.Src kV (tyWide v.et) a la →
      let key := fun i : Fin 32 => matchKey v.et (v.laneVals v.et la)[i]
      v.under v.plain (.matchv d a wa) s (v.done (v.putLanes ld v.active 6 (Vector.ofFn (fun (i : Fin 32) =>
        if v.voters.getLsbD i.val then (v.voters &&& maskOf (fun j => decide (key j = key i))).toNat else 0)))))) ∧
  (∀ (s : State) (v : View) (d a : Opnd) (op : BitVec 7) (wa : Bool) (ld la : Loc), Issues s v → v.Src kAny (tyWide v.et) a la →
    let vals := voterVals (v.laneVals v.et la) v.voters
    (v.Dst { kVZ with s := true } (tyWide v.et) d ld →
      (∀ o, op.toNat < 8 → redOf op.toNat = some o → v.under v.plain (.wred d a op wa) s (v.done (match ld with
        | .vec _ => v.putLanes ld v.active v.et (Vector.replicate 32 (redVals v.md o vals))
        | l => v.put (v.y.setScalar l (BitVec.ofNat 64 (extend64 v.et (redVals v.md o vals))))))) ∧
      (5 < op.toNat → exec (.wred d a op wa) s = v.trapped 0x01 0 v.f.mask)) ∧
    (v.Dst kV (tyWide v.et) d ld →
      (∀ o, op.toNat < 16 → redOf (op.toNat % 8) = some o → v.under v.plain (.wscan d a op wa) s (v.done (v.putLanes ld v.active v.et
        (Vector.ofFn (fun (i : Fin 32) =>
          let e := (scanVals v.md o vals none 0).getD i.val (0, 0)
          if decide (8 ≤ op.toNat) || !v.voters.getLsbD i.val then e.1 else e.2))))) ∧
      (15 < op.toNat ∨ 5 < op.toNat % 8 → exec (.wscan d a op wa) s = v.trapped 0x01 0 v.f.mask)))

open Sys2Proof Sys2Proof.Machine in
/-- 09 R202, R203, R214: WRLANE writes one lane and PTLOAD and MOVX all 32, whatever the fragment's lanes and the guard; EXPR runs the valid
program that MODE.XPROG names in each active lane. A lane above 31 and an index of no permutation trap with IDXBOUND, an EXPR without a valid program with
ILLEXPR, and an ETYPE above 11 with ILLTYPE. What one and mone are as a of WRLANE under a floating ETYPE is log entry 58. -/
def Obligations.LaneWriteAndExprResults : Prop :=
  ∀ (s : State) (v : View) (d a b c : Opnd) (wa wb : Bool) (ld la lb lc : Loc), Issues s v →
    (v.Dst kV (tyWide v.et) d ld → v.Src kSxC (tyWide v.et) a la → v.Src kSxC false b lb →
      ((v.y.scalarVal lb).toNat < 32 →
        ∃ x : Vector Nat 32, v.under v.plain (.wrlane d a b wa wb) s
            (v.done (v.putLanes ld (BitVec.ofNat 32 (2 ^ (v.y.scalarVal lb).toNat)) v.moveType x)) ∧
          (∀ r, la = .sca r → ∀ i : Fin 32, x[i] = v.y.s[r].val.toNat % 2 ^ tyWidth v.moveType) ∧
          ((∀ r, la ≠ .sca r) → ∀ i : Fin 32, x[i] = if tyWide v.et then (v.laneVals v.et la)[i] else extend32 v.et (v.laneVals v.et la)[i])) ∧
      (32 ≤ (v.y.scalarVal lb).toNat → v.plain = true → exec (.wrlane d a b wa wb) s = v.trapped 0x04 (v.y.scalarVal lb).toNat v.f.mask)) ∧
    (v.Dst kV false d ld → v.Src kSxZ1 false b lb → v.kernel.bind (fun k => k.perms[(v.y.scalarVal lb).toNat]?) = none → v.plain = true →
      exec (.ptload d b wb) s = v.trapped 0x04 (v.y.scalarVal lb).toNat v.f.mask) ∧
    (∀ p : List Nat, v.Dst kV false d ld → v.Src kSxZ1 false b lb →
      v.kernel.bind (fun k => k.perms[(v.y.scalarVal lb).toNat]?) = some p →
      v.under v.plain (.ptload d b wb) s (v.done (v.putLanes ld (BitVec.allOnes 32) 6 (Vector.ofFn (fun (i : Fin 32) =>
        if i.val < 16 then p.getD (4 * i.val) 0 + 256 * p.getD (4 * i.val + 1) 0 + 65536 * p.getD (4 * i.val + 2) 0 +
          16777216 * p.getD (4 * i.val + 3) 0 else 0))))) ∧
    (v.Dst kV (tyWide v.et) d ld → v.Src kV (tyWide v.et) a la →
      v.under v.plain (.movx d a wa) s (v.done (v.putLanes ld (BitVec.allOnes 32) v.moveType (v.laneVals v.moveType la)))) ∧
    (v.Dst kVZ (tyWide v.et) d ld → v.Src kAny (tyWide v.et) a la → v.Src kAny (tyWide v.et) b lb → v.Src kAny (tyWide v.et) c lc →
      (∀ p, v.kernel.bind (fun k => k.exprs[mXprog v.y.mode]?) = some p → exprOk p = false) → v.plain = true →
      exec (.expr d a b c) s = v.trapped 0x18 (mXprog v.y.mode) v.f.mask) ∧
    (∀ p : DWord, v.Dst kVZ (tyWide v.et) d ld → v.Src kAny (tyWide v.et) a la → v.Src kAny (tyWide v.et) b lb → v.Src kAny (tyWide v.et) c lc →
      (∀ f ∈ v.y.fills ld, f = .full) → v.kernel.bind (fun k => k.exprs[mXprog v.y.mode]?) = some p → exprOk p = true →
      v.under v.plain (.expr d a b c) s (v.done (v.putLanes ld v.active v.et (Vector.ofFn (fun (i : Fin 32) =>
        exprLane v.md p (v.laneVals v.et la)[i] (v.laneVals v.et lb)[i] (v.laneVals v.et lc)[i] (v.laneVals v.et ld)[i])))))


namespace Sys2Proof.Machine

/-! ## Control, branches, traps and returns (08 R157, R167 to R179; 19 R427 to R432) -/

/-- 08 R177: the conditional branches with their conditions on FLAGS. -/
def branchTable (off : BitVec 24) : List (Instr × (Byte → Bool)) :=
  [(.bra off, fun _ => true), (.brz off, fun f => f.getLsbD 0), (.brnz off, fun f => !f.getLsbD 0), (.brneg off, fun f => f.getLsbD 1),
   (.brcy off, fun f => f.getLsbD 2), (.breos off, fun f => f.getLsbD 4)]

/-- The state after the issuing fragment has been sent to an address; nothing else changes. -/
def View.goesTo (v : View) (pc : DWord) : State := v.put (v.y.setSlot v.r.slot ((v.y.slot v.r.slot).map (fun f => { f with pc := pc })))

/-- 19 R427, R430, 05 R99: a warp that is in no trap can enter its handler for a fragment in a slot: no other trap is due, the fragment has
lanes and shares none with the other slot, the header word before TVEC is mapped, readable and valid with OVL 0, the handler's window keeps
within the spill area and the pool has room for it. -/
structure CanEnter (s : State) (g w : Nat) (x : Group) (y : Warp) (slot : Bool) (f : Frag) (h : Nat) : Prop where
  /-- the group -/
  group : s.group g = some x
  /-- the warp -/
  warp : x.warps[w]? = some y
  /-- the fragment -/
  frag : y.slot slot = some f
  /-- it has lanes -/
  lanes : f.mask ≠ 0
  /-- and shares none of them -/
  apart : ∀ f', y.slot (!slot) = some f' → f'.mask &&& f.mask = 0
  /-- in no trap -/
  free : y.intrap = false
  /-- running -/
  lives : y.sched = .active
  /-- no trap is due -/
  calm : y.due = []
  /-- the header word -/
  header : ∃ pa e, s.xlateCore (x.core.getD 0) (cfin x.ctx) (s.ctxs[cfin x.ctx].tvec - 4) false false = .ok pa e ∧ s.engBad pa 4 = false ∧ s.engRd pa 4 = h
  /-- it is valid -/
  valid : hdrOk h = true ∧ hdrOvl h = 0
  /-- within the spill area -/
  fits : y.winFits (hdrWin h) = true
  /-- room in the pool -/
  room : s.regsUsed (x.core.getD 0) + hdrWin h ≤ 1536

/-- The fragment that goes on past the instruction; a replay of a TRET is over with it. -/
def View.here (v : View) : DWord := ((v.y.slot v.r.slot).map (·.pc)).getD 0

end Sys2Proof.Machine

open Sys2Proof Sys2Proof.Machine in
/-- 03 R49, 08 R165: the instruction of a fragment without replays stands at its PC; when it completes and no branch is taken, the fragment is READY
at PC + 4 with its lanes, JOIN and window, and the rest of the state is as before. -/
def Obligations.IssueAdvancesThePc : Prop :=
  ∀ (s : State) (v : View), s.cur.bind s.viewOf = some v → v.f.replays = [] →
    v.pc = v.f.pc ∧ v.lanes = v.f.mask ∧ v.base = s ∧ s.cur = some v.r ∧
    (∃ y, s.warp v.r.g v.r.w = some y ∧ y.slot v.r.slot = some v.f ∧
      v.s = s.modWarp v.r.g v.r.w (fun z => z.setSlot v.r.slot (some { v.f with pc := v.f.pc + 4, status := .ready, nowait := none })) ∧
      v.y = y.setSlot v.r.slot (some { v.f with pc := v.f.pc + 4, status := .ready, nowait := none }))



open Sys2Proof Sys2Proof.Machine in
/-- 08 R176, R179: CALL to a valid header word opens a window of WIN registers whose first OVL are the caller's last OVL, one deeper, with PC + 4 and the
caller in its link, and jumps; a header word that is not valid, or whose OVL exceeds the caller's window, traps with ILLOP, and a window beyond the spill
area with WINFULL. RET goes back to the window and the address in the link, and traps with ILLOP in an entry window and while JOIN was armed in this one. -/
def Obligations.CallAndReturnResults : Prop :=
  ∀ (s : State) (v : View) (off : BitVec 24) (h : Nat), Issues s v →
    (v.headerWord (v.pc + BitVec.ofInt 64 (4 * off.toInt)) = .ok h → hdrOk h = true → hdrOvl h ≤ v.win.regs.length →
      v.y.winFits (hdrWin h - hdrOvl h) = true → v.s.regsUsed v.core + (hdrWin h - hdrOvl h) ≤ 1536 →
      ∃ (y : Warp) (n : Window) (f : Frag), exec (.call off) s = .next (v.done (v.put y)) ∧ y.wins = v.y.wins ++ [n] ∧
        n.regs.length = hdrWin h ∧ n.regs.take (hdrOvl h) = v.win.regs.drop (v.win.regs.length - hdrOvl h) ∧ n.depth = v.win.depth + 1 ∧
        n.ret = v.pc + 4 ∧ n.caller = some v.f.win ∧ v.y.slot v.r.slot = some f ∧
        y.slot v.r.slot = some { f with pc := v.pc + BitVec.ofInt 64 (4 * off.toInt), win := n.id } ∧ y.slot (!v.r.slot) = v.y.slot (!v.r.slot) ∧
        y.s = v.y.s ∧ y.m = v.y.m ∧ y.flags = v.y.flags ∧ y.mode = v.y.mode) ∧
    (v.headerWord (v.pc + BitVec.ofInt 64 (4 * off.toInt)) = .ok h →
      (hdrOk h = false ∨ v.win.regs.length < hdrOvl h → exec (.call off) s = v.trapped 0x01 0 v.f.mask) ∧
      (hdrOk h = true → hdrOvl h ≤ v.win.regs.length → v.y.winFits (hdrWin h - hdrOvl h) = false →
        exec (.call off) s = v.trapped 0x1C 0 v.f.mask)) ∧
    (∀ c, v.win.caller = some c → (∀ j, v.f.join = some j → v.y.joins[j].win ≠ v.f.win) →
      exec .ret s = .next (v.done (v.put (v.y.setSlot v.r.slot ((v.y.slot v.r.slot).map (fun f => { f with pc := v.win.ret, win := c }))).freeWins))) ∧
    (v.win.caller = none ∨ (∃ j, v.f.join = some j ∧ v.y.joins[j].win = v.f.win) → exec .ret s = v.trapped 0x01 0 v.f.mask)

open Sys2Proof Sys2Proof.Machine in
/-- 08 R175 to R178: branches, JMPS and divergent branches. 08 R175, R177: each branch goes to PC + 4 × offset when its condition on FLAGS holds and falls through when it does not; JMPS goes to PC plus the
scalar, and traps with ALIGN when the scalar is no multiple of 4. Nothing else changes. 08 R157, R178: BRV falls through when no lane of the fragment is set in m[k], goes to the target when all are, and else splits: the side with fewer
lanes, the taken one when they are equal, takes a free slot or the top of the stack; both keep JOIN and window. -/
def Obligations.BranchAndDivergenceResults : Prop :=
  (∀ (s : State) (v : View) (off : BitVec 24) (k : BitVec 5), Issues s v →
    (∀ e ∈ branchTable off, exec e.1 s =
      .next (v.done (if e.2 v.y.flags then v.goesTo (v.pc + BitVec.ofInt 64 (4 * off.toInt)) else v.s))) ∧
    (v.y.s[Fin.ofNat 32 k.toNat].fill = .full → v.y.mapped (Fin.ofNat 32 k.toNat) = none →
      let x := v.y.s[Fin.ofNat 32 k.toNat].val
      (x.toNat % 4 = 0 → exec (.jmps k) s = .next (v.done (v.goesTo (v.pc + x)))) ∧
      (x.toNat % 4 ≠ 0 → exec (.jmps k) s = v.trapped 0x0B (v.pc + x).toNat v.f.mask))) ∧
  (∀ (s : State) (v : View) (k : BitVec 3) (off : BitVec 24), Issues s v →
    let t := v.f.mask &&& v.y.m[Fin.ofNat 8 k.toNat]
    let target := v.pc + BitVec.ofInt 64 (4 * off.toInt)
    (t = 0 → exec (.brv k off) s = .next (v.done v.s)) ∧
    (t ≠ 0 → t = v.f.mask → exec (.brv k off) s = .next (v.done (v.goesTo target))) ∧
    (t ≠ 0 → t ≠ v.f.mask →
      let taken := Frag.fresh target t v.f.join v.f.win
      let rest := Frag.fresh v.here (v.f.mask &&& ~~~t) v.f.join v.f.win
      let fewer := countBits (v.f.mask &&& ~~~t) < countBits t
      let stay := if fewer then taken else rest
      let leave := if fewer then rest else taken
      (v.y.slot (!v.r.slot) = none →
        exec (.brv k off) s = .next (v.done (v.put ((v.y.setSlot v.r.slot (some stay)).setSlot (!v.r.slot) (some leave))))) ∧
      ((v.y.slot (!v.r.slot)).isSome = true → v.y.stack.length < 64 →
        exec (.brv k off) s = .next (v.done (v.put { (v.y.setSlot v.r.slot (some stay)) with stack := leave :: v.y.stack }))) ∧
      ((v.y.slot (!v.r.slot)).isSome = true → 64 ≤ v.y.stack.length → exec (.brv k off) s = v.trapped 0x14 0 v.f.mask)))


open Sys2Proof Sys2Proof.Machine in
/-- 08 R172, 03 R59: ELECT writes into m[k] the mask of the lowest of its candidates: the lanes for which the fragment issues that are no helper lanes, narrowed by the guard
mask when GUARD.EN = 1; without one it sets Z and m[k] to 0; N, C and V, and the other registers, are as before. -/
def Obligations.ElectResult : Prop :=
  ∀ (s : State) (v : View) (k : BitVec 3), Issues s v →
    let mask := v.y.m[mGuardIdx v.y.mode]
    let guard : Word := if mGuardEn v.y.mode then (if mGuardInv v.y.mode then ~~~mask else mask) else BitVec.allOnes 32
    let c := v.lanes &&& ~~~v.y.helper &&& guard
    ∃ (m : Word) (f : Byte), exec (.elect k) s = .next (v.done (v.put { (v.y.setM (Fin.ofNat 8 k.toNat) m) with flags := f })) ∧
      f.getLsbD 0 = decide (c = 0) ∧ (∀ j, 1 ≤ j → f.getLsbD j = v.y.flags.getLsbD j) ∧ (c = 0 → m = 0) ∧
      (∀ i : Fin 32, c.getLsbD i.val = true → (∀ j : Fin 32, j < i → c.getLsbD j.val = false) → m = BitVec.ofNat 32 (2 ^ i.val))

open Sys2Proof Sys2Proof.Machine in
/-- 08 R158, R169, R171: RCV and EXIT. 08 R169: an arming RCV takes the lowest free join entry for the fragment's lanes; a joining RCV whose entry has its token and window lets the
lanes arrive, and the last to arrive goes on as the merged fragment; any other joining RCV is a NOP. 08 R158, R171: EXIT of a fragment whose memory instructions have ended completes: the warp of the next state holds no fragment with a lane of it; when
lanes are left, nothing but the warp changes. While a memory instruction has not ended, EXIT waits at issue. -/
def Obligations.JoinAndExitResults : Prop :=
  (∀ (s : State) (v : View) (tok : BitVec 22), Issues s v →
    (∀ j : Fin 16, v.y.joins[j].valid = false → (∀ i : Fin 16, i < j → v.y.joins[i].valid = true) →
      ∃ y, exec (.rcv true tok) s = .next (v.done (v.put y)) ∧ y.slot v.r.slot = (v.y.slot v.r.slot).map (fun f => { f with join := some j }) ∧
        y.joins = v.y.joins.set j { valid := true, outer := v.f.join, win := v.f.win, token := tok, expect := v.f.mask, arrived := 0, pc := 0 }) ∧
    ((∀ j : Fin 16, v.y.joins[j].valid = true) → exec (.rcv true tok) s = v.trapped 0x14 0 v.f.mask) ∧
    ((∀ j, v.f.join = some j → ¬(v.y.joins[j].token = tok ∧ v.y.joins[j].win = v.f.win)) → exec (.rcv false tok) s = .next (v.done v.s)) ∧
    (∀ j, v.f.join = some j → v.y.joins[j].token = tok → v.y.joins[j].win = v.f.win →
      ∃ y, exec (.rcv false tok) s = .next (v.done (v.put y)) ∧
        (v.y.joins[j].arrived ||| v.f.mask = v.y.joins[j].expect →
          y.slot v.r.slot = some (Frag.fresh v.here v.y.joins[j].expect v.y.joins[j].outer v.y.joins[j].win) ∧ y.joins[j] = .free) ∧
        (v.y.joins[j].arrived ||| v.f.mask ≠ v.y.joins[j].expect →
          y.joins[j] = { v.y.joins[j] with arrived := v.y.joins[j].arrived ||| v.f.mask, pc := v.here }))) ∧
  (∀ (s : State) (v : View), Issues s v → v.y.due = [] → v.y.slot v.r.slot ≠ none →
    (v.s.memOpen v.r.g v.r.w v.f.mask = false →
      let y := v.y.exitLanes v.r.slot
      (∀ f ∈ y.slots ++ y.stack, f.mask &&& v.f.mask = 0) ∧
      (y.lanesLeft ≠ 0 → exec .exit s = .next (v.done (v.put y))) ∧
      (y.lanesLeft = 0 → exec .exit s = .next (v.finish (.ok (((v.put y).endWarp v.r.g v.r.w 0x81 false).exitGroup v.r.g))))) ∧
    (v.s.memOpen v.r.g v.r.w v.f.mask = true →
      exec .exit s = .next ((v.base.setStatus v.r (.blocked false)).parkCheck v.r.g v.r.w)))


open Sys2Proof Sys2Proof.Machine in
/-- 08 R167, R168, R170, R173, 03 R58: NOP, YIELD, SETMODE, WAITC and the literal loads. 08 R167, R168, 03 R58: NOP has no effect but the move past it; YIELD moves an ACTIVE warp that is in no trap to PENDING when one is PENDING on its core and
else acts as NOP; SETMODE writes MODE when its value is legal and traps when it is not. 08 R170: WAITC completes when the selected counts are at most N (REM with the remote stores and atomics that have still to be sent): Z tells that no
error was counted, N, C and V are 0, the selected error counts are cleared, and the fragment acquires at SYSTEM. While the counts are above N it waits. 08 R173, 03 R68: LDL writes a pool word to every lane, a scalar or a mask; LDL2 an aligned pair of words to a scalar; LDLN a counted list to the lanes
of a vector register, 0 above the count. Outside a pool they trap with ILLOPND, LDL2 at an odd word with ALIGN, LDLN of a count that is not 1 to 32 with
ILLOPND. -/
def Obligations.NopWaitAndLiteralResults : Prop :=
  (∀ (s : State) (v : View) (imm : BitVec 23), Issues s v →
    exec .nop s = .next (v.done v.s) ∧
    exec .yield s = .next (v.done (if v.y.sched = .active ∧ v.y.intrap = false ∧ v.s.pendingOn v.core then v.s.setSched v.r.g v.r.w .pending else v.s)) ∧
    (bits imm 17 15 < 5 → imm.getLsbD 0 = false → bits imm 14 10 < 24 → exec (.setmode imm) s = .next (v.done (v.put { v.y with mode := imm }))) ∧
    (5 ≤ bits imm 17 15 ∨ imm.getLsbD 0 = true → exec (.setmode imm) s = v.trapped 0x01 0 v.f.mask) ∧
    (bits imm 17 15 < 5 → imm.getLsbD 0 = false → 24 ≤ bits imm 14 10 → exec (.setmode imm) s = v.trapped 0x03 0 v.f.mask)) ∧
  (∀ (s : State) (v : View) (rem copy : Bool) (n : BitVec 8), Issues s v →
    let sum := (if copy then v.y.copyN else 0) + (if rem then v.y.remN + v.s.remoteDue v.r.g v.r.w else 0)
    let errs := (if copy then v.y.ecopy else 0) + (if rem then v.y.erem else 0)
    (sum ≤ n.toNat →
      exec (.waitc rem copy n) s = .next (v.finish (.ok ((v.put { v.y with
        flags := setZNCV v.y.flags (decide (errs = 0)) false false false,
        ecopy := if copy then 0 else v.y.ecopy, erem := if rem then 0 else v.y.erem }).acquire v.core 6)))) ∧
    (n.toNat < sum → exec (.waitc rem copy n) s = .next ((v.base.setStatus v.r (.blocked true)).parkCheck v.r.g v.r.w))) ∧
  (∀ (s : State) (v : View) (d : Opnd) (off : BitVec 16) (ld : Loc) (k : Kernel) (wi : Nat) (ws : List Nat), Issues s v →
    v.kernel = some k → v.codeIndex k off.toInt = some wi →
    (v.Dst { kVSZ with m := true } false d ld → v.poolWords k wi 1 = .ok ws →
      exec (.ldl d off) s = .next (v.done (v.put (match ld with
        | .vec l => v.y.setLanes l (BitVec.allOnes 32) 6 (Vector.replicate 32 (ws.headD 0))
        | l => v.y.setScalar l (BitVec.ofNat 64 (ws.headD 0)))))) ∧
    (k.pool wi = none →
      (v.Dst { kVSZ with m := true } false d ld → exec (.ldl d off) s = v.trapped 0x02 0 v.f.mask) ∧
      (v.Dst kS false d ld → wi % 2 = 0 → exec (.ldl2 d off) s = v.trapped 0x02 0 v.f.mask) ∧
      (v.Dst kVO false d ld → exec (.ldln d off) s = v.trapped 0x02 0 v.f.mask)) ∧
    (v.Dst kS false d ld → wi % 2 = 1 → exec (.ldl2 d off) s = v.trapped 0x0B (k.code + 4 * wi) v.f.mask) ∧
    (∀ c : Nat, v.Dst kVO false d ld → v.poolWords k wi 1 = .ok [c] → c < 1 ∨ 32 < c → exec (.ldln d off) s = v.trapped 0x02 0 v.f.mask) ∧
    (v.Dst kS false d ld → wi % 2 = 0 → v.poolWords k wi 2 = .ok ws →
      exec (.ldl2 d off) s = .next (v.done (v.put (v.y.setScalar ld (BitVec.ofNat 64 (ws.headD 0 + 2 ^ 32 * ws.getD 1 0)))))) ∧
    (∀ (l : List Nat) (c : Nat), v.Dst kVO false d (.vec l) → v.poolWords k wi 1 = .ok [c] → 1 ≤ c → c ≤ 32 → v.poolWords k wi (c + 1) = .ok ws →
      exec (.ldln d off) s = .next (v.done (v.put (v.y.setLanes l (BitVec.allOnes 32) 6
        (Vector.ofFn (fun (i : Fin 32) => (ws.drop 1).getD i.val 0)))))))

open Sys2Proof Sys2Proof.Machine in
/-- 08 R174, 19 R427, R429: TRAP and BKPT enter the handler: CAUSE holds the slot, KIND 2 and the cause, FPC the instruction's address, FADDR imm23 and
FMASK the fragment's lanes; the fragment in the slot stands at TVEC with the same lanes, no JOIN and the handler's window, at PL1; the other
slot and the registers are unchanged. -/
def Obligations.TrapInstructionEntersHandler : Prop :=
  ∀ (s : State) (v : View) (x : Group) (y : Warp) (f : Frag) (h : Nat) (imm : BitVec 23), Issues s v → v.f.replays = [] → y.plvl ≠ 2 →
    CanEnter s v.r.g v.r.w x y v.r.slot f h → ∀ e ∈ ([(.trap imm, 0x1A), (.bkpt imm, 0x1B)] : List (Instr × Nat)),
      ∃ t z, exec e.1 s = .next t ∧ t.warp v.r.g v.r.w = some z ∧
        z.trap = { cause := BitVec.ofNat 32 (b2n v.r.slot * 2 ^ 16 + 2 * 2 ^ 8 + e.2), fpc := f.pc, faddr := imm.setWidth 64, fmask := f.mask } ∧
        z.intrap = true ∧ z.plvl = 1 ∧ z.s = y.s ∧ z.m = y.m ∧ z.flags = y.flags ∧ z.mode = y.mode ∧
        z.slot (!v.r.slot) = y.slot (!v.r.slot) ∧
        (∃ q, z.slot v.r.slot = some q ∧ q.pc = BitVec.ofNat 64 s.ctxs[cfin x.ctx].tvec ∧ q.mask = f.mask ∧ q.join = none ∧ q.status = .ready ∧
          ∃ n, z.wins = y.wins ++ [n] ∧ n.id = q.win ∧ n.regs.length = hdrWin h)


open Sys2Proof Sys2Proof.Machine in
/-- 19 R432: the returns from a trap. 19 R432: TRET FIX gives back the interrupted fragment of an instruction that trapped at issue or of a TRAP, to execute it again, and TRET SKIP lets it
go on at FPC + 4: in its slot, at PL0, out of the trap. 19 R432: every TRET completes in the handler's own entry window at PL1 with the effect of its action: FIX, SKIP and RETRY resume the interrupted
fragment, KILLW ends the warp, KILLG logs the trap, marks the launch killed and kills the group, KILLC faults the context. -/
def Obligations.TrapReturnResults : Prop :=
  (∀ (s : State) (v : View) (k : Kept), Issues s v → v.y.due = [] → v.y.plvl = 1 → v.y.kept = some k → v.f.win = k.hwin → k.kind ≠ .lane →
    k.frag.replays = [] → k.frag.mask ≠ 0 →
    (∃ t y, exec .tretFix s = .next t ∧ t.warp v.r.g v.r.w = some y ∧ y.intrap = false ∧ y.plvl = 0 ∧ y.kept = none ∧
      y.slot k.slot = some { k.frag with status := .ready, nowait := none }) ∧
    (∃ t y, exec .tretSkip s = .next t ∧ t.warp v.r.g v.r.w = some y ∧ y.intrap = false ∧ y.plvl = 0 ∧ y.kept = none ∧
      y.slot k.slot = some { k.frag with status := .ready, pc := v.y.trap.fpc + 4, arrived := none })) ∧
  (∀ (s : State) (v : View) (k : Kept), Issues s v → v.y.plvl = 1 → v.y.kept = some k → v.f.win = k.hwin →
    let t := v.y.trap
    let c := t.cause.toNat % 256
    exec .tretFix s = .next (v.finish (.ok (v.s.tretResume v.r.g v.r.w false false))) ∧
    exec .tretSkip s = .next (v.finish (.ok (v.s.tretResume v.r.g v.r.w true false))) ∧
    exec .tretRetry s = .next (v.finish (.ok (v.s.tretResume v.r.g v.r.w false true))) ∧
    exec .tretKillw s = .next (v.finish (.ok ((v.s.endWarp v.r.g v.r.w c false).exitGroup v.r.g))) ∧
    exec .tretKillg s = .next (v.finish (.ok
      (let s1 := v.s.log v.c c 0 0 (v.s.hwloc v.core v.y.slotNo) t.faddr.toNat t.fpc.toNat t.fmask.toNat
       let s2 : State := { s1 with launches := tmod s1.launches v.x.launch (fun l => { l with killed := true }) }
       (s2.killGroup v.r.g c false).flush v.c))) ∧
    exec .tretKillc s = .next (v.finish (.ok
      (v.s.faultContext v.c c 0 (v.s.hwloc v.core v.y.slotNo) t.faddr.toNat t.fpc.toNat t.fmask.toNat))))


open Sys2Proof Sys2Proof.Machine in
/-- 05 R108, R110, R111: RDSYS reads every system register that the level may read; WRSYS of FLAGS, MODE and NTHR writes the warp's; WRSYS at PL2 writes
every context register; HALT at PL1 suspends a running context and at PL2 stops the core from issuing. -/
def Obligations.SystemRegisterResults : Prop :=
  ∀ (s : State) (v : View), Issues s v →
    (∀ (d : Opnd) (ld : Loc) (k : BitVec 7) (p : Nat), v.Dst kSZ false d ld → sysReadLevel k.toNat = some p → p ≤ v.y.plvl.toNat →
      exec (.rdsys d k) s = .next (v.done (v.put (v.y.setScalar ld (BitVec.ofNat 64 (v.sysReg k.toNat)))))) ∧
    (∀ (a : Opnd) (la : Loc) (wa : Bool), v.Src kSC false a la →
      let x := v.y.scalarVal la
      exec (.wrsys 0x00 a wa) s = .next (v.done (v.put { v.y with flags := x.setWidth 8 &&& 0x7F#8 })) ∧
      (modeCause (x.setWidth 23) = none → exec (.wrsys 0x01 a wa) s = .next (v.done (v.put { v.y with mode := x.setWidth 23 }))) ∧
      exec (.wrsys 0x07 a wa) s = .next (v.done (v.put { v.y with nthr := BitVec.ofNat 25 (max 32 (min (2 ^ 24) x.toNat)) })) ∧
      (∀ k : BitVec 7, k.toNat = 0x0C ∨ k.toNat = 0x0D ∨ (0x10 ≤ k.toNat ∧ k.toNat ≤ 0x1B) → 2 ≤ v.y.plvl.toNat →
        (k = 0x1A → v.s.releaseWaits v.r.g v.r.w (BitVec.allOnes 32) = false) →
        exec (.wrsys k a wa) s = .next (v.done (v.s.modCtx v.c (fun c => c.setReg k.toNat x.toNat))))) ∧
    (v.y.plvl = 1 → exec .halt s = .next (v.finish (.ok
      (if v.s.ctxs[v.c].st = .running ∨ v.s.ctxs[v.c].st = .ready then v.s.suspendCtx v.c else v.s)))) ∧
    (2 ≤ v.y.plvl.toNat → exec .halt s = .next (v.finish (.ok (v.s.modCore v.core (fun k => { k with halted := true })))))

open Sys2Proof Sys2Proof.Machine in
/-- 15 R366, R367, R369, R370: BSET of a mapped pointer loads the base register from the leaf and caches the translation, and traps with ILLOPND for an extra
value above 16 bits, with PGPROT for a pointer above 60 bits, and with its cause where the pointer does not translate; BINV makes a base register
invalid; TLBINV at PL1 drops the translations of a run of pages, all pages for a count of 0; PGQRY answers the leaf of a pointer, 0 for none or for one that breaks its map. -/
def Obligations.PageInstructionResults : Prop :=
  ∀ (s : State) (v : View), Issues s v →
    (∀ (k : Fin 8) (a b : Opnd) (wa wb : Bool) (la lb : Loc) (pa leaf : Nat), v.Src kSx false a la → v.Src kSxZ false b lb →
      (v.y.scalarVal lb).toNat < 2 ^ 16 → (v.y.scalarVal la).toNat < 2 ^ 60 →
      let p := (v.y.scalarVal la).toNat
      v.s.xlateCore v.core v.c (p % 2 ^ 56) false (decide (v.y.plvl = 0)) = .ok pa leaf →
      let r := v.s.baseOf (p % 2 ^ 56) (BitVec.ofNat 4 (p / 2 ^ 56)) (BitVec.ofNat 16 (v.y.scalarVal lb).toNat) leaf
      exec (.bset (BitVec.ofNat 7 k.val) a b wa wb) s =
        .next (v.finish (.ok ((v.put { v.y with b := v.y.b.set k r }).tlbFill v.core v.c (p % 2 ^ 56) leaf)))) ∧
    (∀ (k : Fin 8) (a b : Opnd) (wa wb : Bool) (la lb : Loc), v.Src kSx false a la → v.Src kSxZ false b lb →
      let bset := Instr.bset (BitVec.ofNat 7 k.val) a b wa wb
      let p := (v.y.scalarVal la).toNat
      let wide := 2 ^ 16 ≤ (v.y.scalarVal lb).toNat
      (wide → exec bset s = v.trapped 0x02 0 v.f.mask) ∧ (¬wide → 2 ^ 60 ≤ p → exec bset s = v.trapped 0x08 p v.f.mask) ∧
      (∀ c, ¬wide → p < 2 ^ 60 → v.s.xlateCore v.core v.c (p % 2 ^ 56) false (decide (v.y.plvl = 0)) = .fail c →
        exec bset s = v.trapped c (p % 2 ^ 56) v.f.mask)) ∧
    (∀ k : Fin 8, exec (.binv (BitVec.ofNat 7 k.val)) s =
      .next (v.done (v.put { v.y with b := v.y.b.set k { v.y.b[k] with valid := false, fp := false } }))) ∧
    (∀ (a b : Opnd) (wa wb : Bool) (la lb : Loc), v.Src kSx false a la → v.Src kSxZ false b lb → v.y.plvl ≠ 0 →
      v.s.releaseWaits v.r.g v.r.w v.f.mask = false →
      let n := (v.y.scalarVal lb).toNat
      let page := if n = 0 then 0 else (v.y.scalarVal la).toNat % 2 ^ 56 / 2 ^ 14
      let count := if n = 0 then 2 ^ 42 else n
      exec (.tlbinv a b wa wb) s = .next (v.finish (.ok ((v.s.shootdown v.c page count).rejudge v.c page count)))) ∧
    (∀ (d a : Opnd) (wa : Bool) (ld la : Loc) (x : Nat), v.Dst kSxZ false d ld → v.Src kSx false a la →
      v.s.pageQuery v.c (v.y.scalarVal la).toNat = some x →
      exec (.pgqry d a wa) s = .next (v.done (v.put (v.y.setScalar ld (BitVec.ofNat 64 x)))))

open Sys2Proof Sys2Proof.Machine in
/-- 05 R106, R110, R111, 04 R92, 15 R369, 19 R432: privileged instructions and words that are none trap. 05 R106, R110, R111, 15 R369, 19 R432: privileged instructions trap with PRIV where their level does not allow them, without effect: TRET, HALT and
TLBINV at PL0, RDSYS of a register that PL0 may not read and WRSYS of one that the level may not write, FADDR then being the register's number. 04 R92: a word that is no instruction traps with ILLOP and has no other effect; a TRET word whose a field names no action traps with PRIV at PL0. -/
def Obligations.PrivilegeAndReservedTraps : Prop :=
  (∀ (s : State) (v : View), Issues s v → v.y.plvl = 0 →
    (∀ i ∈ [Instr.tretFix, .tretSkip, .tretRetry, .tretKillw, .tretKillg, .tretKillc, .halt], exec i s = v.trapped 0x19 0 v.f.mask) ∧
    (∀ (a b : Opnd) (wa wb : Bool) (la lb : Loc), v.resolve kSx false a = .ok la → v.resolve kSxZ false b = .ok lb →
      exec (.tlbinv a b wa wb) s = v.trapped 0x19 0 v.f.mask) ∧
    (∀ (d : Opnd) (ld : Loc) (k : BitVec 7), v.resolveDst kSZ false d = .ok ld →
      (0x08 ≤ k.toNat ∧ k.toNat ≤ 0x0C) ∨ (0x12 ≤ k.toNat ∧ k.toNat ≤ 0x15) ∨ (0x18 ≤ k.toNat ∧ k.toNat ≤ 0x1B) →
      exec (.rdsys d k) s = v.trapped 0x19 k.toNat v.f.mask) ∧
    (∀ (a : Opnd) (la : Loc) (wa : Bool) (k : BitVec 7), v.resolve kSC false a = .ok la →
      (0x08 ≤ k.toNat ∧ k.toNat ≤ 0x0D) ∨ (0x10 ≤ k.toNat ∧ k.toNat ≤ 0x1B) →
      exec (.wrsys k a wa) s = v.trapped 0x19 k.toNat v.f.mask)) ∧
  (∀ (s : State) (v : View) (w : Word), Issues s v →
    (decodeWord w = .error .reservedMajor ∨ decodeWord w = .error .reservedMinor →
      exec (.reservedEncoding w) s = v.trapped 0x01 0 v.f.mask) ∧
    (decodeWord w = .error .tretAction → exec (.reservedEncoding w) s = v.trapped (if v.y.plvl = 0 then 0x19 else 0x01) 0 v.f.mask))

namespace Sys2Proof.Machine

/-! ## Memory access (14 R313 to R345, 15 R368) -/

/-- The lanes of a memory instruction with their addresses and data (14 R316, R318). -/
def View.accsOf (v : View) (q : MemReq) : List LaneAcc := v.laneAccs q.t q.space.start q.scalar q.kind.writes q.off q.data q.new

/-- 14 R321, R332: a memory instruction as it goes in flight. -/
def View.opOf (v : View) (q : MemReq) : MemOp :=
  { g := v.r.g, w := v.r.w, mask := v.f.mask, pc := v.pc, kind := q.kind, space := q.space, mode := v.y.mode, user := decide (v.y.plvl = 0),
    scope := q.scope, acq := q.acq, rel := q.rel && v.f.replays.isEmpty, lanes := v.accsOf q, scalar := q.scalar, dst := q.dst.dest,
    deps := v.s.depsOf v.r.g v.r.w v.f.mask, landed := false, failed := false }

/-- 14 R317, R331, 15 R355, 17 R390: a memory instruction traps at none of its lanes: its base register is valid, every lane is aligned (TAGLD and TAGST
take any address) and lies in the window, and a warp in stage makes no atomic access to memory and no write outside its record's payload. -/
structure View.Sound (v : View) (q : MemReq) : Prop where
  /-- the base register -/
  base : ∀ b, q.space = .mem b → b.valid = true
  /-- alignment -/
  aligned : q.kind.isTag = true ∨ ∀ l ∈ v.accsOf q, misaligned q.t l.addr l.bit = false
  /-- the window -/
  inside : ∀ n, v.x.winSize q.space = some n → ∀ l ∈ v.accsOf q, l.addr + elemBytes q.t l.bit ≤ n
  /-- in stage -/
  stage : v.y.held.isSome = true → v.x.winSize q.space = none → q.kind.isAtomic = false ∧ v.stageBars q (v.accsOf q) = []

/-- 14 R345, 12 R285, 18 R409: a memory instruction is accepted: it traps at no lane, no lane touches an absent scratchpad line, the core has request
entries left, and a lane whose request leaves the die finds room in its first hop. -/
structure View.Accepts (v : View) (q : MemReq) : Prop where
  /-- no trap -/
  sound : v.Sound q
  /-- request entries -/
  room : v.x.winSize q.space = none → v.s.entriesUsed v.core + linesOf (v.accsOf q) ≤ 256
  /-- scratchpad lines -/
  present : q.space = .spad → ∀ l ∈ v.accsOf q, v.x.absentAt l.addr (elemBytes q.t l.bit) = false
  /-- the first hop -/
  hop : ∀ l ∈ v.accsOf q, v.s.hopFull v.core v.c (v.opOf q) l = false

/-- 14 R321, 03 R62: the state with the instruction in flight: its destination is EMPTY, and it waits for the fragment's earlier ones. -/
def View.inFlight (v : View) (q : MemReq) : State :=
  { (v.put (v.y.setEmpty q.dst)) with
    memops := v.s.memops ++ [(v.s.uid, v.opOf q)], uid := v.s.uid + 1 }

/-- 14 R317, R321, R331, R345, 12 R285, 15 R355, 17 R390, 18 R409: what a memory instruction comes to at issue: accepted, it goes in flight; through an
invalid base register it traps with PGPROT, with misaligned lanes with ALIGN at the lowest of them, with lanes outside its window with IDXBOUND, in stage
with STAGEFX; FMASK holds those lanes. Without request entries or room in the first hop it waits, and at an absent scratchpad line it parks. -/
def View.accesses (v : View) (q : MemReq) (i : Instr) (s : State) : Prop :=
  let ls := v.accsOf q
  let mask := fun (l : List LaneAcc) => if q.scalar then v.f.mask else maskOf (fun i => l.any (fun e => e.lane == i.val))
  let mis := ls.filter (fun l => misaligned q.t l.addr l.bit)
  let based := ∀ b, q.space = .mem b → b.valid = true
  (v.Accepts q → exec i s = .next (v.done (v.inFlight q))) ∧
  (∀ b, q.space = .mem b → b.valid = false → exec i s = v.trapped 0x08 (lowestAddr ls) v.f.mask) ∧
  (based → q.kind.isTag = false → mis ≠ [] → exec i s = v.trapped 0x0B (lowestAddr mis) (mask mis)) ∧
  (∀ n, v.x.winSize q.space = some n → q.kind.isTag = true ∨ mis = [] →
    let out := ls.filter (fun l => decide (n < l.addr + elemBytes q.t l.bit))
    out ≠ [] → exec i s = v.trapped 0x04 0 (mask out)) ∧
  (based → q.kind.isTag = true ∨ mis = [] → v.x.winSize q.space = none → v.y.held.isSome = true →
    (q.kind.isAtomic = true → exec i s = v.trapped 0x15 (lowestAddr ls) v.f.mask) ∧
    (q.kind.isAtomic = false → v.stageBars q ls ≠ [] →
      exec i s = v.trapped 0x15 (lowestAddr (v.stageBars q ls)) (mask (v.stageBars q ls)))) ∧
  (v.Sound q →
    (v.x.winSize q.space = none → 256 < v.s.entriesUsed v.core + linesOf ls → exec i s = v.waiting false) ∧
    (q.space = .spad → (∃ l ∈ ls, v.x.absentAt l.addr (elemBytes q.t l.bit) = true) → exec i s = v.waiting true) ∧
    ((v.x.winSize q.space = none → v.s.entriesUsed v.core + linesOf ls ≤ 256) →
      (q.space = .spad → ∀ l ∈ ls, v.x.absentAt l.addr (elemBytes q.t l.bit) = false) →
      (∃ l ∈ ls, v.s.hopFull v.core v.c (v.opOf q) l = true) → exec i s = v.waiting false))

/-- The fields of a memory instruction can be read: no vector offset beside a scalar register, and the sources are FULL. -/
structure MemFields (s : State) (v : View) (d a : Opnd) (la : Loc) : Prop where
  /-- it issues -/
  issues : Issues s v
  /-- the offset -/
  off : v.Src kOff false a la
  /-- 14 R316 -/
  shape : ¬(isScaOp d = true ∧ isVecOp a = true)

/-- 03 R51: the windows of SPAD words. -/
def winSpace : BitVec 3 → Option Space
  | 0 => some .spad
  | 1 => some .xlive
  | 2 => some .numa
  | _ => none

/-- 14 R326, R327: the atomics of MEM words. -/
def atomicTable (scope : BitVec 3) (order : BitVec 2) (d a : Opnd) (base : BitVec 3) (wd wa : Bool) : List (Instr × AtOp) :=
  [(.atadd scope order d a base wd wa, .add), (.atmin scope order d a base wd wa, .min), (.atmax scope order d a base wd wa, .max),
   (.atand scope order d a base wd wa, .and), (.ator scope order d a base wd wa, .or), (.atxor scope order d a base wd wa, .xor),
   (.atswp scope order d a base wd wa, .swp)]

/-- 14 R326: the atomics of SPAD words. -/
def spadAtomicTable (scope : BitVec 3) (order : BitVec 2) (d a : Opnd) (base : BitVec 3) (wd wa : Bool) : List (Instr × AtOp) :=
  [(.atsadd scope order d a base wd wa, .add), (.atsmin scope order d a base wd wa, .min), (.atsmax scope order d a base wd wa, .max)]

/-- A memory instruction in flight has its turn: it has neither landed nor failed, its group runs, and its fragment's earlier instructions leave it
room (14 R332 to R337); its warp takes no trap. -/
structure MemTurn (s : State) (id : Nat) (m : MemOp) (x : Group) (core : Nat) (l : LaneAcc) : Prop where
  /-- in flight -/
  op : tget s.memops id = some m
  /-- its group -/
  group : s.group m.g = some x
  /-- runs on a core -/
  runs : x.onCore = true ∧ x.st ≠ .killed ∧ x.st ≠ .exited ∧ x.core = some core
  /-- not ended -/
  going : m.failed = false ∧ m.landed = false
  /-- ordered -/
  mayGo : s.mayPerform m = true
  /-- one lane, to be performed -/
  lane : m.lanes = [l] ∧ l.st = .todo ∧ l.bit = 0
  /-- no trap -/
  calm : ∀ y, s.warp m.g m.w = some y → y.intrap = true ∨ y.due = []

/-- 15 R355, R357, 12 R283, 01 R10: the lane's address leads to a local address of this module, homed in the core's own die, where it may be served. -/
structure Reaches (s : State) (x : Group) (core : Nat) (b : BaseReg) (m : MemOp) (l : LaneAcc) (pa : Nat) : Prop where
  /-- translated -/
  lands : ∃ te leaf, s.reach (some core) (cfin x.ctx) b l.addr m.kind.writes m.user = .to pa te leaf ∧
    (te = true → s.tagMiss pa (elemBytes m.type 0) b.tag.toNat = false)
  /-- not locked by a copy -/
  unlocked : s.locked (cfin x.ctx) l.addr (elemBytes m.type 0) m.kind.writes = false
  /-- of this module and this die, not across the end of its address space -/
  here : s.isLocal pa = true ∧ localPart pa + elemBytes m.type 0 ≤ 2 ^ 48 ∧ homeDie (localPart pa) = coreDie core

end Sys2Proof.Machine


open Sys2Proof Sys2Proof.Machine in
/-- 14 R314 to R331: accepted loads, stores and atomics. 14 R314, R316, R321, R322, R331: an accepted LD, LDC, ST, LDS or STS goes in flight with its lanes, scope and order; a load's destination is EMPTY
until it lands; nothing else changes. One that is not accepted traps or waits as `View.accesses` says; an order or scope that the instruction does not take
traps with ILLOP, and a window field above 2 with ILLOPND. 14 R326, R327, R331: an accepted atomic of memory or of a scratchpad window goes in flight with d as its operand and destination; a compare and swap
takes its new value from the next register. One that is not accepted traps or waits as `View.accesses` says; scope 7 traps with ILLOP, a type that the atomic
does not take with ILLTYPE, and a window field above 2 or a compare and swap without a next register with ILLOPND. -/
def Obligations.MemoryAccessesGoInFlight : Prop :=
  (∀ (s : State) (v : View) (scope : BitVec 3) (order : BitVec 2) (d a : Opnd) (base : BitVec 3) (wd wa : Bool) (la : Loc), MemFields s v d a la →
    (∀ ld, v.Dst kVSZ (tyWide v.et) d ld →
      let q : MemReq :=
        { kind := .load, space := .mem v.y.b[Fin.ofNat 8 base.toNat], scope := scope.toNat, acq := decide (order.toNat = 1), rel := false,
          scalar := scalarAccess d a, t := v.et, off := la, data := .zero, new := .zero, dst := ld }
      (order.toNat < 2 → scope.toNat < 7 →
        v.accesses q (.ld scope order d a base wd wa) s ∧
        (∀ sp, winSpace base = some sp → v.accesses { q with space := sp } (.lds scope order d a base wd wa) s)) ∧
      (2 ≤ order.toNat ∨ scope = 7 → exec (.ld scope order d a base wd wa) s = v.trapped 0x01 0 v.f.mask ∧
        ((winSpace base).isSome = true → exec (.lds scope order d a base wd wa) s = v.trapped 0x01 0 v.f.mask)) ∧
      (winSpace base = none → exec (.lds scope order d a base wd wa) s = v.trapped 0x02 0 v.f.mask) ∧
      (order = 0 → v.accesses { q with kind := .ldc scope.toNat, scope := 2 } (.ldc scope order d a base wd wa) s) ∧
      (order ≠ 0 → exec (.ldc scope order d a base wd wa) s = v.trapped 0x01 0 v.f.mask)) ∧
    (∀ ld, v.Src kData (tyWide v.et) d ld →
      let taken := (order = 0 ∨ order = 2) ∧ scope.toNat < 7
      let q : MemReq :=
        { kind := .store, space := .mem v.y.b[Fin.ofNat 8 base.toNat], scope := scope.toNat, acq := false, rel := decide (order.toNat = 2),
          scalar := scalarAccess d a, t := v.et, off := la, data := ld, new := .zero, dst := .zero }
      (taken → v.accesses q (.st scope order d a base wd wa) s ∧
        (∀ sp, winSpace base = some sp → v.accesses { q with space := sp } (.sts scope order d a base wd wa) s)) ∧
      (¬taken → exec (.st scope order d a base wd wa) s = v.trapped 0x01 0 v.f.mask ∧
        ((winSpace base).isSome = true → exec (.sts scope order d a base wd wa) s = v.trapped 0x01 0 v.f.mask)) ∧
      (winSpace base = none → exec (.sts scope order d a base wd wa) s = v.trapped 0x02 0 v.f.mask))) ∧
  (∀ (s : State) (v : View) (scope : BitVec 3) (order : BitVec 2) (d a : Opnd) (base : BitVec 3) (wd wa : Bool) (la ld : Loc), MemFields s v d a la →
    v.Dst kVSZ (tyWide v.et) d ld → (∀ f ∈ v.y.fills ld, f = .full) →
    let q : MemReq :=
      { kind := .atomic .add, space := .mem v.y.b[Fin.ofNat 8 base.toNat], scope := scope.toNat, acq := order.getLsbD 0, rel := order.getLsbD 1,
        scalar := scalarAccess d a, t := v.et, off := la, data := ld, new := .zero, dst := ld }
    let cas := Instr.atcas scope order d a base wd wa
    let scas := Instr.atscas scope order d a base wd wa
    let goes := fun (op : AtOp) (spad : Bool) (i : Instr) (r : MemReq) =>
      (scope = 7 → exec i s = v.trapped 0x01 0 v.f.mask) ∧
      (scope.toNat < 7 → (v.plain && atTypes op spad v.et) = false → exec i s = v.trapped 0x03 0 v.f.mask) ∧
      (scope.toNat < 7 → (v.plain && atTypes op spad v.et) = true → v.accesses r i s)
    (∀ e ∈ atomicTable scope order d a base wd wa, goes e.2 false e.1 { q with kind := .atomic e.2 }) ∧
    (∀ e ∈ spadAtomicTable scope order d a base wd wa,
      (∀ sp, winSpace base = some sp → goes e.2 true e.1 { q with kind := .atomic e.2, space := sp }) ∧
      (winSpace base = none → exec e.1 s = v.trapped 0x02 0 v.f.mask)) ∧
    (∀ new, v.casNew (tyWide v.et) d = .ok new → (∀ f ∈ v.y.fills new, f = .full) → (∀ i, new = .sca i → v.y.mapped i = none) →
      goes .cas false cas { q with kind := .atomic .cas, new := new } ∧
      (∀ sp, winSpace base = some sp → goes .cas true scas { q with kind := .atomic .cas, space := sp, new := new }) ∧
      (winSpace base = none → exec scas s = v.trapped 0x02 0 v.f.mask)) ∧
    ((∀ new, v.casNew (tyWide v.et) d ≠ .ok new) → exec cas s = v.trapped 0x02 0 v.f.mask ∧ exec scas s = v.trapped 0x02 0 v.f.mask))

open Sys2Proof Sys2Proof.Machine in
/-- 14 R324, R325, R329, R330, R343, 15 R366, R368: accepted ACQR, SPK, TAGLD and TAGST go in flight; FENCE with nothing of its fragment outstanding,
and as a release no data of its warp of another class, completes and acquires when its order says so, and else waits; PREF fills the lines of its active
lanes. An order or scope that they do not take traps with ILLOP, a type with ILLTYPE, a vector offset of ACQR or SPK with ILLOPND.
That PREF passes over a line locked for writing is log entry 58. -/
def Obligations.OtherAccessesComplete : Prop :=
  ∀ (s : State) (v : View) (scope : BitVec 3) (order : BitVec 2) (d a b : Opnd) (base : BitVec 3) (wd wa wb : Bool), Issues s v →
    (∀ la ld, v.Src kOff false a la → v.Dst { kSZ with sx := true } false d ld →
      let taken := order = 1 ∧ 3 ≤ scope.toNat ∧ scope.toNat < 7
      let typed := v.et = 2 ∨ v.et = 3 ∨ v.et = 6 ∨ v.et = 7
      let acqr := Instr.acqr scope order d a base wd wa
      let q : MemReq :=
        { kind := .acqr, space := .mem v.y.b[Fin.ofNat 8 base.toNat], scope := scope.toNat, acq := true, rel := false, scalar := true, t := v.et,
          off := la, data := .zero, new := .zero, dst := ld }
      (isVecOp a = true → exec acqr s = v.trapped 0x02 0 v.f.mask) ∧ (isVecOp a = false → ¬taken → exec acqr s = v.trapped 0x01 0 v.f.mask) ∧
      (isVecOp a = false → taken → ¬typed → exec acqr s = v.trapped 0x03 0 v.f.mask) ∧ (isVecOp a = false → taken → typed → v.accesses q acqr s)) ∧
    (∀ la ld, v.Src kOff false a la → v.Src kSxC false d ld →
      let taken := (order = 0 ∨ order = 2) ∧ scope.toNat < 7
      let spk := Instr.spk scope order d a base wd wa
      let q : MemReq :=
        { kind := .spk, space := .mem v.y.b[Fin.ofNat 8 base.toNat], scope := scope.toNat, acq := false, rel := decide (order.toNat = 2),
          scalar := true, t := v.et, off := la, data := ld, new := .zero, dst := .zero }
      (isVecOp a = true → exec spk s = v.trapped 0x02 0 v.f.mask) ∧ (isVecOp a = false → ¬taken → exec spk s = v.trapped 0x01 0 v.f.mask) ∧
      (isVecOp a = false → taken → v.plain = false → exec spk s = v.trapped 0x03 0 v.f.mask) ∧
      (isVecOp a = false → taken → v.plain = true → v.accesses q spk s)) ∧
    (∀ (k : Fin 8) (lb : Loc), v.Src kOff false b lb →
      (∀ ld, v.Dst kVSZ false d ld → ¬(isScaOp d = true ∧ isVecOp b = true) →
        let q : MemReq :=
          { kind := .tagld, space := .mem v.y.b[k], scope := 5, acq := false, rel := false, scalar := scalarAccess d b, t := 4, off := lb,
            data := .zero, new := .zero, dst := ld }
        v.accesses q (.tagld d (BitVec.ofNat 7 k.val) b wb) s) ∧
      (∀ ld, v.Dst kVSZ false d ld → isScaOp d = true → isVecOp b = true → exec (.tagld d (BitVec.ofNat 7 k.val) b wb) s = v.trapped 0x02 0 v.f.mask) ∧
      (∀ la, v.Src kData false a la →
        let q : MemReq :=
          { kind := .tagst, space := .mem v.y.b[k], scope := 5, acq := false, rel := false, scalar := !isVecOp a && !isVecOp b, t := 4, off := lb,
            data := la, new := .zero, dst := .zero }
        v.accesses q (.tagst (BitVec.ofNat 7 k.val) a b wa wb) s)) ∧
    (let done := v.s.memOpen v.r.g v.r.w v.f.mask = false ∧ v.s.nldOpen v.r.g v.r.w = false ∧
       (order.getLsbD 1 = true → v.s.logOpen v.r.g v.r.w = false ∧ (scope.toNat = 6 → v.s.remoteOpen v.r.g v.r.w = false))
     (order = 0 ∨ scope = 7 → exec (.fence scope order) s = v.trapped 0x01 0 v.f.mask) ∧
     (order ≠ 0 → scope.toNat < 7 → v.plain = false → exec (.fence scope order) s = v.trapped 0x03 0 v.f.mask) ∧
     (order ≠ 0 → scope.toNat < 7 → v.plain = true → ¬done → exec (.fence scope order) s = v.waiting false) ∧
     (order ≠ 0 → scope.toNat < 7 → v.plain = true → done →
       exec (.fence scope order) s = .next (v.finish (.ok (if order.getLsbD 0 then v.s.acquire v.core scope.toNat else v.s))))) ∧
    (∀ la, v.Src kOff false a la → order ≠ 0 ∨ scope = 7 → exec (.pref scope order a base wa) s = v.trapped 0x01 0 v.f.mask) ∧
    (∀ la, v.Src kOff false a la → order = 0 → scope.toNat < 7 → v.plain = false → exec (.pref scope order a base wa) s = v.trapped 0x03 0 v.f.mask) ∧
    (∀ la, v.Src kOff false a la → order = 0 → scope.toNat < 7 → v.plain = true →
      exec (.pref scope order a base wa) s = .next (v.finish (.ok
        (((List.finRange 32).filter (fun (i : Fin 32) => v.active.getLsbD i.val)).foldl (fun t (i : Fin 32) =>
          t.prefetch v.core v.c v.y.b[Fin.ofNat 8 base.toNat] (decide (v.y.plvl = 0)) (decide (scope.toNat ≤ 2))
            (v.y.b[Fin.ofNat 8 base.toNat].va.toNat + (v.laneVals 6 la)[i])) v.s))))

open Sys2Proof Sys2Proof.Machine in
/-- 14 R317, R331, 15 R355: an LD or LDS with a misaligned lane traps with ALIGN at its lowest misaligned address, one with a lane outside its window with
IDXBOUND, one through an invalid base register with PGPROT; FMASK holds those lanes, and the trap has no effect before it. A scalar register beside a
vector offset is ILLOPND in every load, store and atomic. -/
def Obligations.MemoryTrapsAtIssue : Prop :=
  ∀ (s : State) (v : View) (scope : BitVec 3) (order : BitVec 2) (n : Fin 80) (a : Opnd) (base : BitVec 3) (wd wa : Bool) (la ld : Loc),
    MemFields s v (.v n) a la → v.Dst kVSZ (tyWide v.et) (.v n) ld → order.toNat < 2 → scope.toNat < 7 →
    let at_ := fun (start : Nat) => v.laneAccs v.et start false false la .zero .zero
    let lanesOf := fun (l : List LaneAcc) => maskOf (fun i => l.any (fun e => e.lane == i.val))
    (let b := v.y.b[Fin.ofNat 8 base.toNat]
     let mis := (at_ b.va.toNat).filter (fun l => misaligned v.et l.addr l.bit)
     (b.valid = true → mis ≠ [] → exec (.ld scope order (.v n) a base wd wa) s =
       .next (v.trapIn v.base 0x0B .issue (lowestAddr mis) (lanesOf mis))) ∧
     (b.valid = false → exec (.ld scope order (.v n) a base wd wa) s = v.trapped cPGPROT (lowestAddr (at_ b.va.toNat)) v.f.mask)) ∧
    (∀ sp size, winSpace base = some sp → v.x.winSize sp = some size →
      let mis := (at_ 0).filter (fun l => misaligned v.et l.addr l.bit)
      let out := (at_ 0).filter (fun l => decide (size < l.addr + elemBytes v.et l.bit))
      (mis ≠ [] → exec (.lds scope order (.v n) a base wd wa) s = .next (v.trapIn v.base 0x0B .issue (lowestAddr mis) (lanesOf mis))) ∧
      (mis = [] → out ≠ [] → exec (.lds scope order (.v n) a base wd wa) s = .next (v.trapIn v.base 0x04 .issue 0 (lanesOf out)))) ∧
    (∀ (d o : Opnd) (lo lr : Loc), v.resolve kOff false o = .ok lo → isScaOp d = true → isVecOp o = true →
      (v.resolveDst kVSZ (tyWide v.et) d = .ok lr → ∀ i ∈ [Instr.ld scope order d o base wd wa, .lds scope order d o base wd wa, .ldc scope order d o base wd wa] ++
        (atomicTable scope order d o base wd wa ++ spadAtomicTable scope order d o base wd wa).map (·.1), exec i s = v.trapped 0x02 0 v.f.mask) ∧
      (v.resolve kData (tyWide v.et) d = .ok lr → ∀ i ∈ [Instr.st scope order d o base wd wa, .sts scope order d o base wd wa],
        exec i s = v.trapped 0x02 0 v.f.mask))

open Sys2Proof Sys2Proof.Machine in
/-- 14 R319 to R321, 02 R26: when a scalar ST of an 8 to 64-bit type to this module's memory is performed, its bytes hold the data little-endian, every
other byte of memory is as before, and the instruction has ended. -/
def Obligations.StoreWritesExactlyItsBytes : Prop :=
  ∀ (s : State) (id : Nat) (m : MemOp) (x : Group) (core : Nat) (b : BaseReg) (l : LaneAcc) (pa : Nat), MemTurn s id m x core l →
    m.kind = .store → m.space = .mem b → m.dst = Dest.none → m.acq = false → m.type < 12 → Reaches s x core b m l pa → Memory.wf s.mem = true →
    let n := tyWidth m.type / 8
    ∃ t, exec (.memoryAccessComplete id) s = .next t ∧ Memory.rd t.mem (localPart pa) n = l.data.toNat % 256 ^ n ∧
      (∀ a, a < localPart pa ∨ localPart pa + n ≤ a → Memory.get t.mem a = Memory.get s.mem a) ∧ tget t.memops id = none

open Sys2Proof Sys2Proof.Machine in
/-- 14 R319, R321, 03 R62: when a scalar LD at a scope wider than CORE is performed, its data correctable and no channel that it needs alerted (16 R380), its
lane holds the bytes of memory and memory is as before; then its
write-back leaves the scalar destination FULL with the value extended by its type. -/
def Obligations.LoadDeliversMemory : Prop :=
  (∀ (s : State) (id : Nat) (m : MemOp) (x : Group) (core : Nat) (b : BaseReg) (l : LaneAcc) (pa : Nat) (i : Fin 32) (y : Warp),
    MemTurn s id m x core l → s.warp m.g m.w = some y → y.sched ≠ .exited → m.kind = .load → 2 < m.scope → m.space = .mem b → m.dst = .s i →
    m.acq = false → m.type < 12 → Reaches s x core b m l pa → s.engBad pa (elemBytes m.type 0) = false →
    (∀ q ∈ s.channelReqs (some core) (cfin (s.ctxOf m.g)) id m, (s.channel q.channel).alerted = false) →
    let n := tyWidth m.type / 8
    ∃ t, exec (.memoryAccessComplete id) s = .next t ∧ t.mem = s.mem ∧ t.warp m.g m.w = s.warp m.g m.w ∧
      tget t.memops id = some { m with lanes := [{ l with st := .done (BitVec.ofNat 64 (Memory.rd s.mem (localPart pa) n % 2 ^ tyWidth m.type)) }],
                                       landed := true }) ∧
  (∀ (s : State) (id : Nat) (m : MemOp) (l : LaneAcc) (z : DWord) (i : Fin 32) (y : Warp), tget s.memops id = some m → m.landed = true →
    m.lanes = [l] → l.lane = 0 → l.st = .done z → m.dst = .s i → s.warp m.g m.w = some y →
    (∀ e ∈ s.memops, e.1 ≠ id → ¬(e.2.g = m.g ∧ e.2.w = m.w ∧ e.2.dst = .s i)) →
    ∃ t y', exec (.producerWriteback id) s = .next t ∧ t.warp m.g m.w = some y' ∧
      y'.s = y.s.set i { val := BitVec.ofNat 64 (extend64 m.type z.toNat), fill := .full } ∧ y'.phys = y.phys ∧ y'.m = y.m ∧ y'.flags = y.flags ∧
      t.mem = s.mem ∧ tget t.memops id = none)


namespace Sys2Proof.Machine

/-! ## Numbers (10 R222 to R246) -/

/-- 03 R54: the 7-bit field that names one of eight registers of a fixed kind. -/
def nf (k : Fin 8) : BitVec 7 := BitVec.ofNat 7 k.val

/-- 10 R222: the waits of a NUM instruction are over: its number sources are FULL, its number destination has no producer and no reader in flight,
the entry window is not moved out, and ETYPE is one that NUM takes. -/
structure NumReady (s : State) (v : View) (d : Option (Fin 8)) (ks : List (Fin 8)) : Prop where
  /-- it issues -/
  issues : Issues s v
  /-- ETYPE -/
  type : tyNarrow v.et = false
  /-- sources -/
  full : ∀ k ∈ ks, ∀ f ∈ v.y.fills (.num k), f = .full
  /-- the destination has no producer -/
  free : ∀ k, d = some k → v.y.n[k].fill ≠ .empty ∧ (∀ p, v.y.homeReg k = some p → (v.y.vreg p).fill ≠ .empty)
  /-- and no reader -/
  unread : ∀ k, d = some k → ∀ e ∈ v.s.numops, e.2.g = v.r.g → e.2.w = v.r.w → k ∉ e.2.srcs
  /-- 10 R219 -/
  entry : ∀ w, v.y.entryWin = some w → w.spilled = false

/-- 10 R222, 11 R267: the same for CRES, which reads no ETYPE. -/
structure NumFree (s : State) (v : View) (d : Fin 8) : Prop where
  /-- it issues -/
  issues : Issues s v
  /-- the destination has no producer -/
  free : v.y.n[d].fill ≠ .empty ∧ (∀ p, v.y.homeReg d = some p → (v.y.vreg p).fill ≠ .empty)
  /-- and no reader -/
  unread : ∀ e ∈ v.s.numops, e.2.g = v.r.g → e.2.w = v.r.w → d ∉ e.2.srcs
  /-- 10 R219 -/
  entry : ∀ w, v.y.entryWin = some w → w.spilled = false

/-- The destination of a stream operation that answers a scalar: a register, or nothing for zero. -/
def scalarDest (l : Loc) : NumDest := match l with
  | .sca i => .s i
  | _ => .none

/-- 10 R222, R228: the number register d owns storage for `len` limbs where it needs heap. -/
def View.owns (v : View) (d : Fin 8) (len : Nat) : Prop := v.y.n[d].needs v.x.slotCap len = false

/-- 10 R222, R227: the state in which an operation has taken a stream engine: its destination is EMPTY, and a product of the number band waits in the
engine queue of the core. -/
def View.streaming (v : View) (q : NumReq) (old : Option (Nat × Nat) := none) : State :=
  let t := v.put (v.y.numEmpty q.dst)
  let o : NumOp :=
    { g := v.r.g, w := v.r.w, fn := q.fn, args := q.args, srcs := q.srcs, dst := q.dst, freeOld := old, bellows := q.bellows, band := q.band,
      user := decide (v.y.plvl = 0) }
  let t1 : State := { t with numops := t.numops ++ [(t.uid, o)], uid := t.uid + 1 }
  if q.band then t1.pushEngine v.core (.band t.uid) else t1

/-- 10 R227, R242, 11 R257: the core has a free stream engine, with room in the Bellows or in the engine queue for what takes it. -/
def View.engineIdle (v : View) (bellows band : Bool) : Prop :=
  v.s.streamsBusy v.core < 2 ∧ (bellows = true → v.s.bellowsBusy (coreQuad v.core) < 8) ∧ (band = true → v.s.engineLen v.core < 32)

/-- The request of an instruction that computes number d from numbers. -/
def View.into (v : View) (fn : NumFn) (d : Fin 8) (ks : List (Fin 8)) (lmax : Nat) (fast bellows band : Bool) : NumReq :=
  { fn := fn, args := ks.map v.arg, srcs := ks, dst := .n d, lmax := lmax, fast := fast, bellows := bellows, band := band }

/-- 10 R233: the instructions that may take the register path, with their results and their bounds (R223). -/
def numFast (v : View) (d a b : Fin 8) (o : Opnd) (c : Nat) (wa wb : Bool) : List (Instr × List (Fin 8) × (Int → Int → Int) × Nat) :=
  [(.nmov (nf d) (nf a) wa, [a], fun x _ => x, v.len a), (.nnorm (nf d) (nf a) wa, [a], fun x _ => x, v.len a),
   (.nneg (nf d) (nf a) wa, [a], fun x _ => -x, v.len a),
   (.nadd (nf d) (nf a) (nf b) wa wb, [a, b], fun x y => x + y, max (v.len a) (v.len b) + (if v.neg a = v.neg b then 1 else 0)),
   (.nsub (nf d) (nf a) (nf b) wa wb, [a, b], fun x y => x - y, max (v.len a) (v.len b) + (if v.neg a = v.neg b then 0 else 1)),
   (.nshl (nf d) (nf a) o wa wb, [a], fun x _ => x * 2 ^ c, v.len a + (c + 31) / 32),
   (.nshr (nf d) (nf a) o wa wb, [a], fun x _ => x.sign * (x.natAbs / 2 ^ c : Nat), v.len a)]

/-- 10 R223, R225, R227, R235: the instructions that write a number, with what the stream engine computes. -/
def numTable (v : View) (d a b : Fin 8) (o : Opnd) (c : Nat) (wa wb : Bool) : List (Instr × NumReq) :=
  let big := fun (l : Nat) => decide (32 < l) && decide (v.y.nthr.toNat < l)
  let l := max (v.len a) (v.len b)
  [(.nmov (nf d) (nf a) wa, v.into .copy d [a] (v.len a) true false false),
   (.nnorm (nf d) (nf a) wa, v.into .copy d [a] (v.len a) true false false),
   (.nneg (nf d) (nf a) wa, v.into .neg d [a] (v.len a) true false false),
   (.nadd (nf d) (nf a) (nf b) wa wb, v.into .add d [a, b] (l + b2n (v.neg a == v.neg b)) true false false),
   (.nsub (nf d) (nf a) (nf b) wa wb, v.into .sub d [a, b] (l + b2n (v.neg a != v.neg b)) true false false),
   (.nshl (nf d) (nf a) o wa wb, v.into (.shl c) d [a] (v.len a + (c + 31) / 32) true false false),
   (.nshr (nf d) (nf a) o wa wb, v.into (.shr c) d [a] (v.len a) true false false),
   (.nmul (nf d) (nf a) (nf b) wa wb, v.into .mul d [a, b] (v.len a + v.len b) false (big l) (!big l)),
   (.nsqr (nf d) (nf a) wa, v.into .mul d [a, a] (2 * v.len a) false (big (v.len a)) (!big (v.len a)))]

/-- 10 R228: what an instruction comes to when it asks the Hod for a block: its request stands among the Hod's, and it waits at issue. -/
def View.asking (v : View) (len : Nat) : Host.Outcome State Fault Refusal :=
  let r : HodReq := { g := v.r.g, w := v.r.w, slot := v.r.slot, limbs := len, answer := none }
  .next ((({ v.base with hods := v.base.hods ++ [(v.base.uid, r)], uid := v.base.uid + 1 } : State).setStatus v.r (.blocked false)).parkCheck v.r.g v.r.w)

/-- The request that the fragment has with the Hod. -/
def View.asked (v : View) : Option (Nat × HodReq) :=
  v.s.hods.find? (fun e => decide (e.2.g = v.r.g) && decide (e.2.w = v.r.w) && decide (e.2.slot = v.r.slot))

/-- 10 R222, R228: an instruction that needs a block of `len` limbs asks the Hod for it and waits for the answer; without a block it traps with HEAPFULL; with
one, and its request gone, it goes on to the state `go` once an engine is free. -/
def View.needsBlock (v : View) (i : Instr) (s : State) (len : Nat) (idle : Prop) (go : View → Nat × Nat → State) : Prop :=
  (v.asked = none → exec i s = v.asking len) ∧
  (∀ id r, v.asked = some (id, r) → r.limbs = len →
    (r.answer = none → exec i s = v.waiting false) ∧
    (r.answer = some none → exec i s = .next (v.trapIn { v.base with hods := tdel v.base.hods id } 0x0D .issue 0 v.f.mask)) ∧
    (∀ b, r.answer = some (some b) → (idle → exec i s = .next (v.done (go { v with s := { v.s with hods := tdel v.s.hods id } } b))) ∧
      (¬idle → exec i s = v.waiting false)))

/-- What becomes of an instruction on the stream path (10 R222, R223, R228): LIMBOVF when its bound exceeds 2^24 limbs, else a stream engine takes it, for
which it waits, once d owns storage for the bound; a block that d owned before goes back when the operation ends. -/
def Streams (s : State) (v : View) (i : Instr) (d : Fin 8) (q : NumReq) : Prop :=
  (2 ^ 24 < q.lmax → exec i s = v.trapped 0x1D 0 v.f.mask) ∧
  (q.lmax ≤ 2 ^ 24 → v.owns d q.lmax → v.registerPath q = false →
    (v.engineIdle q.bellows q.band → exec i s = .next (v.done (v.streaming q))) ∧
    (¬v.engineIdle q.bellows q.band → exec i s = v.waiting false)) ∧
  (q.lmax ≤ 2 ^ 24 → ¬v.owns d q.lmax → v.needsBlock i s q.lmax (v.engineIdle q.bellows q.band)
    (fun u b => (u.setOwn d (some b)).streaming q v.y.n[d].own))

end Sys2Proof.Machine

open Sys2Proof Sys2Proof.Machine in
/-- 10 R225, R233, R223: on the register path NMOV, NNORM, NNEG, NADD, NSUB, NSHL and NSHR leave the exact value in d, FULL in its HOME register, and
change no other number descriptor, no scalar, no mask, no FLAGS and no other vector register. -/
def Obligations.NumberRegisterPathResults : Prop :=
  ∀ (s : State) (v : View) (d a b : Fin 8) (o : Opnd) (lc : Loc) (wa wb : Bool) (p : Nat) (A B : Int), v.Src kSxZ1 false o lc →
    v.y.homeReg d = some p → tget v.y.phys p ≠ none →
    v.y.numArg v.grp v.r.w a = .val A → v.y.numArg v.grp v.r.w b = .val B →
    ∀ e ∈ numFast v d a b o (v.y.scalarVal lc).toNat wa wb, NumReady s v (some d) e.2.1 → (∀ k ∈ e.2.1, (descOf v.y.n[k].desc).res ≤ 1) →
      e.2.2.2 ≤ 32 →
      ∃ y, exec e.1 s = .next (v.done (v.put y)) ∧ y.numArg v.grp v.r.w d = .val (e.2.2.1 A B) ∧ (∀ f ∈ y.fills (.num d), f = .full) ∧
        (∀ k, k ≠ d → y.n[k] = v.y.n[k]) ∧ y.s = v.y.s ∧ y.m = v.y.m ∧ y.flags = v.y.flags ∧ (∀ r, r ≠ p → y.vreg r = v.y.vreg r)

open Sys2Proof Sys2Proof.Machine in
/-- 10 R222, R223, R235, R242 to R246: each arithmetic instruction off the register path traps with LIMBOVF when its bound exceeds 2^24 limbs and else
takes a stream engine with its sources snapshot and its destination EMPTY, after a wait for the engine and for a block of the heap that it needs; a zero
divisor or modulus traps with DIVZERO, an ETYPE below 32 bits with ILLTYPE, and a selector that is none with its cause. -/
def Obligations.NumberOperationsStart : Prop :=
  ∀ (s : State) (v : View) (d a b : Fin 8) (o : Opnd) (lc : Loc) (wa wb : Bool), v.Src kSxZ1 false o lc →
    let c := (v.y.scalarVal lc).toNat
    let m : Fin 8 := Fin.ofNat 8 (v.x3 % 8)
    let value := fun (k : Fin 8) (x : Int) => v.s.argVal v.c (decide (v.y.plvl = 0)) (v.arg k) = .ok x
    (Issues s v → tyNarrow v.et = true → ∀ i ∈ (numTable v d a b o c wa wb).map (·.1) ++
      [.ndiv (nf d) (nf a) (nf b) wa wb, .nrem (nf d) (nf a) (nf b) wa wb, .nmmul (nf d) (nf a) (nf b) wa wb, .npmul (nf d) (nf a) (nf b) wa wb],
      exec i s = v.trapped 0x03 0 v.f.mask) ∧
    (∀ k p ls, v.transformSel = .error (v.trap k p) →
      (NumReady s v (some d) [a] → v.Src kSx false o ls → exec (.nttf (nf d) (nf a) o wa wb) s = v.trapped k p v.f.mask ∧
        exec (.ntti (nf d) (nf a) o wa wb) s = v.trapped k p v.f.mask) ∧
      (NumReady s v (some d) [a, b] → exec (.npmul (nf d) (nf a) (nf b) wa wb) s = v.trapped k p v.f.mask)) ∧
    (∀ ls, NumReady s v none [a] → v.Src kSx false o ls → (v.y.n[d].fill = .empty → exec (.ncrt (nf d) (nf a) o wa wb) s = v.waiting false) ∧
      (∀ r, v.y.n[d].fill = .orphaned r → exec (.ncrt (nf d) (nf a) o wa wb) s = v.trapped r.code d.val v.f.mask)) ∧
    (∀ k p ls, NumReady s v (some d) [a, d] → v.Src kSx false o ls → v.modulus (v.x3 % 32) = .error (v.trap k p) →
      exec (.ncrt (nf d) (nf a) o wa wb) s = v.trapped k p v.f.mask) ∧
    (∀ k p ld, NumReady s v none [a] → v.Dst kSxZ false o ld → v.selected = .error (v.trap k p) →
      exec (.nred o (nf a) wa) s = v.trapped k p v.f.mask) ∧
    (∀ q ld, NumReady s v none [a] → v.Dst kSxZ false o ld → v.selected = .ok q → ¬v.engineIdle false false →
      exec (.nred o (nf a) wa) s = v.waiting false) ∧
    (NumReady s v (some d) [a, b] → ∀ e ∈ numTable v d a b o c wa wb, Streams s v e.1 d e.2) ∧
    (∀ x, NumReady s v (some d) [a, b] → value b x →
      (x ≠ 0 → Streams s v (.ndiv (nf d) (nf a) (nf b) wa wb) d (v.into .div d [a, b] (v.len a) false false false) ∧
        Streams s v (.nrem (nf d) (nf a) (nf b) wa wb) d (v.into .rem d [a, b] (min (v.len a) (v.len b)) false false false)) ∧
      (x = 0 → exec (.ndiv (nf d) (nf a) (nf b) wa wb) s = v.trapped 0x0C 0 v.f.mask ∧
        exec (.nrem (nf d) (nf a) (nf b) wa wb) s = v.trapped 0x0C 0 v.f.mask)) ∧
    (∀ x, NumReady s v (some d) [a, b, m] → value m x →
      (x ≠ 0 → Streams s v (.nmmul (nf d) (nf a) (nf b) wa wb) d (v.into .mmul d [a, b, m] (v.len m) false false false)) ∧
      (x = 0 → exec (.nmmul (nf d) (nf a) (nf b) wa wb) s = v.trapped 0x0C 0 v.f.mask)) ∧
    (∀ q, v.transformSel = .ok q →
      (∀ ls, NumReady s v (some d) [a] → v.Src kSx false o ls →
        let k := (v.y.scalarVal ls).toNat
        let negacyclic := decide (64 ≤ v.x3 % 128)
        (6 ≤ k ∧ k ≤ 16 ∧ v.len a ≤ 2 * 2 ^ k →
          Streams s v (.nttf (nf d) (nf a) o wa wb) d (v.into (.nttf q.q q.g negacyclic k) d [a] (2 * 2 ^ k) false true false) ∧
          Streams s v (.ntti (nf d) (nf a) o wa wb) d (v.into (.ntti q.q q.g negacyclic k) d [a] (2 * 2 ^ k) false true false)) ∧
        (¬(6 ≤ k ∧ k ≤ 16 ∧ v.len a ≤ 2 * 2 ^ k) → exec (.nttf (nf d) (nf a) o wa wb) s = v.trapped 0x04 0 v.f.mask ∧
          exec (.ntti (nf d) (nf a) o wa wb) s = v.trapped 0x04 0 v.f.mask)) ∧
      (NumReady s v (some d) [a, b] → Streams s v (.npmul (nf d) (nf a) (nf b) wa wb) d
        (v.into (.pmul q.q) d [a, b] ((max (v.len a) (v.len b) + 1) / 2 * 2) false true false))) ∧
    (∀ q ls, NumReady s v (some d) [a, d] → v.Src kSx false o ls → v.modulus (v.x3 % 32) = .ok q →
      Streams s v (.ncrt (nf d) (nf a) o wa wb) d
        (v.into (.crt (v.y.scalarVal ls).toNat q.q q.inv) d [d, a] (max (v.len d) (v.len a + 2) + 1) false false false)) ∧
    (∀ q ld, NumReady s v none [a] → v.Dst kSxZ false o ld → v.selected = .ok q → v.engineIdle false false →
      exec (.nred o (nf a) wa) s = .next (v.done (v.streaming
        { fn := .red q.q, args := [v.arg a], srcs := [a], dst := scalarDest ld, lmax := 0, fast := false, bellows := false, band := false })))

open Sys2Proof Sys2Proof.Machine in
/-- 10 R234, R225: NCMP writes -1, 0 or 1 as A is less than, equal to or greater than B, and sets Z, N, C and V; FLAGS bits 6 to 4 are as before. With a
number outside the registers it needs an engine, and waits for one. -/
def Obligations.NumberCompareResult : Prop :=
  ∀ (s : State) (v : View) (d : Opnd) (ld : Loc) (a b : Fin 8) (wa wb : Bool) (A B : Int), NumReady s v none [a, b] →
    v.Dst kSxZ false d ld →
    (¬((descOf v.y.n[a].desc).res ≤ 1 ∧ (descOf v.y.n[b].desc).res ≤ 1) → ¬v.engineIdle false false →
      exec (.ncmp d (nf a) (nf b) wa wb) s = v.waiting false) ∧
    (v.s.argVal v.c (decide (v.y.plvl = 0)) (v.arg a) = .ok A → v.s.argVal v.c (decide (v.y.plvl = 0)) (v.arg b) = .ok B →
    (descOf v.y.n[a].desc).res ≤ 1 ∧ (descOf v.y.n[b].desc).res ≤ 1 ∨ v.engineIdle false false →
    ∃ f : Byte, exec (.ncmp d (nf a) (nf b) wa wb) s =
        .next (v.done (v.put { (v.y.setScalar ld (if A < B then BitVec.allOnes 64 else if A = B then 0 else 1)) with flags := f })) ∧
      f.getLsbD 0 = decide (A = B) ∧ f.getLsbD 1 = decide (A < B) ∧ f.getLsbD 2 = decide (B.natAbs ≤ A.natAbs) ∧ f.getLsbD 3 = false ∧
      ∀ k, 4 ≤ k → k < 8 → f.getLsbD k = v.y.flags.getLsbD k)


open Sys2Proof Sys2Proof.Machine in
/-- 10 R237 to R240: the binding of numbers and their images. 10 R237, R238, R240: NSET makes the first lanes of a register the number, trimmed; NGET of a scalar delivers a limb, or a half of the descriptor, or
HOME and OWN; NALLOC and NFREE set the number to 0, NALLOC above the slot with a block that it asks the Hod for; a block that d owned goes back to the heap.
Below the entry window a vector register is no HOME: NSET and NALLOC trap with ILLOPND. NGET waits for an engine that it needs. 10 R239, 14 R336: NLD of an image whose header is in order takes a stream engine with the header's LEN and SIGN; NST stores the 16-byte header and
exactly LEN limbs, and the fragment goes on; both when the fragment's earlier accesses have been performed, for which they wait. A misaligned address traps
with ALIGN, an image under a range lock with RLOCKED, one whose page fails with the cause, and NST in stage with STAGEFX; NST waits for its number. -/
def Obligations.NumberBindingAndImageResults : Prop :=
  (∀ (s : State) (v : View) (d a : Fin 8) (o b : Opnd) (lo lb : Loc) (home : Option (Fin 80)) (wa wb : Bool),
    v.homeOf o = .ok (lo, home) → (∀ f ∈ v.y.fills lo, f = .full) → v.Src kSxZ false b lb →
    let x := (v.y.scalarVal lb).toNat
    let bound := fun (h : Option (Fin 80)) (desc : BitVec 128) => Host.Outcome.next (v.finish (.ok
      ((v.put { v.y with n := v.y.n.set d { desc := desc, home := h, own := none, fill := .full } }).modCtx v.c
        (fun c => c.giveBack v.y.n[d].own.toList))))
    (NumReady s v (some d) [] →
      (32 < x % 64 → exec (.nset (nf d) o b wa wb) s = v.trapped 0x04 0 v.f.mask) ∧
      (x % 64 ≤ 32 →
        (home = none → exec (.nset (nf d) o b wa wb) s = bound none 0) ∧
        (∀ h p, home = some h → lo = .vec [p] →
          ∃ n : NDesc, exec (.nset (nf d) o b wa wb) s = bound home n.word ∧ n.res = 1 ∧ n.cap = 32 ∧ n.loc = h.val ∧ n.len ≤ x % 64 ∧
            (n.neg = true ↔ 2 ^ 63 ≤ x ∧ 0 < n.len) ∧
            (∀ i : Fin 32, i.val < x % 64 → n.len ≤ i.val → (v.y.vreg p).lanes[i] = 0) ∧
            (∀ i : Fin 32, i.val + 1 = n.len → (v.y.vreg p).lanes[i] ≠ 0))) ∧
      (2 ^ 24 < x → exec (.nalloc (nf d) o b wa wb) s = v.trapped 0x1D 0 v.f.mask) ∧
      (x ≤ 2 ^ 24 → x ≤ v.x.slotCap ∨ (x ≤ 32 ∧ home.isSome = true) →
        ∃ t, exec (.nalloc (nf d) o b wa wb) s = .next (v.finish (.ok t)) ∧
          ∀ y, t.warp v.r.g v.r.w = some y → y.n[d].home = home ∧ y.n[d].own = none ∧ y.n[d].fill = .full ∧ (descOf y.n[d].desc).len = 0 ∧
            (descOf y.n[d].desc).res = (if home.isSome then 1 else 0)) ∧
      (∃ t, exec (.nfree (nf d)) s = .next (v.finish (.ok t)) ∧
        ∀ y, t.warp v.r.g v.r.w = some y → y.n[d].home = v.y.n[d].home ∧ y.n[d].own = none ∧ y.n[d].fill = .full ∧
          (descOf y.n[d].desc).len = 0) ∧
      (x ≤ 2 ^ 24 → ¬(x ≤ v.x.slotCap ∨ (x ≤ 32 ∧ home.isSome = true)) → v.needsBlock (.nalloc (nf d) o b wa wb) s x (v.engineIdle false false)
        (fun u blk => ({ u with y := { v.y with n := v.y.n.set d { v.y.n[d] with home := home, own := some blk } } } : View).streaming
          { fn := .copy, args := [.val 0], srcs := [], dst := .n d, lmax := x, fast := false, bellows := false, band := false } v.y.n[d].own))) ∧
    (∀ (i : Fin 80) l, NumReady s v none [] → v.resolve kVZ false (.v i) = .ok l → v.win.depth ≠ 0 →
      exec (.nset (nf d) (.v i) b wa wb) s = v.trapped 0x02 0 v.f.mask ∧ exec (.nalloc (nf d) (.v i) b wa wb) s = v.trapped 0x02 0 v.f.mask) ∧
    (∀ ld lk (od ok : Opnd), NumReady s v none [a] → v.Dst kNgetD false od ld → (∀ l, ld ≠ .vec l) → v.Src kSxC false ok lk →
      let k := (v.y.scalarVal lk).toNat
      (∀ A, v.arg a = .val A → (descOf v.y.n[a].desc).res ≤ 1 → k < 2 ^ 24 → k < v.len a →
        exec (.nget od (nf a) ok wa wb) s = .next (v.done (v.put (v.y.setScalar ld (BitVec.ofNat 64 (A.natAbs / 2 ^ (32 * k) % 2 ^ 32)))))) ∧
      (k < 2 ^ 24 → v.len a ≤ k → exec (.nget od (nf a) ok wa wb) s = .next (v.done (v.put (v.y.setScalar ld 0)))) ∧
      (k = 2 ^ 64 - 1 → exec (.nget od (nf a) ok wa wb) s = .next (v.done (v.put (v.y.setScalar ld (v.y.n[a].desc.extractLsb' 64 64))))) ∧
      (k = 2 ^ 64 - 2 → exec (.nget od (nf a) ok wa wb) s = .next (v.done (v.put (v.y.setScalar ld (v.y.n[a].desc.extractLsb' 0 64))))) ∧
      (k = 2 ^ 64 - 3 → exec (.nget od (nf a) ok wa wb) s =
        .next (v.done (v.put (v.y.setScalar ld (BitVec.ofNat 64 ((v.y.n[a].home.elim 127 (·.val)) + 2 ^ 32 * (v.y.n[a].own.elim 0 (·.2)))))))) ∧
      (k < v.len a → k < 2 ^ 24 → 2 ≤ (descOf v.y.n[a].desc).res → v.engineIdle false false →
        exec (.nget od (nf a) ok wa wb) s = .next (v.done (v.streaming
          { fn := .get, args := [v.limbArg a k 1], srcs := [a], dst := scalarDest ld, lmax := 0, fast := true, bellows := false, band := false }))) ∧
      (k < v.len a → k < 2 ^ 24 → 2 ≤ (descOf v.y.n[a].desc).res → ¬v.engineIdle false false → exec (.nget od (nf a) ok wa wb) s = v.waiting false) ∧
      (2 ^ 24 ≤ k → k < 2 ^ 64 - 3 → exec (.nget od (nf a) ok wa wb) s = v.trapped 0x04 0 v.f.mask)) ∧
    (∀ p lk (od ok : Opnd), NumReady s v none [a] → v.Dst kNgetD false od (.vec [p]) → v.Src kSxC false ok lk →
      let k := (v.y.scalarVal lk).toNat
      (2 ^ 19 ≤ k → exec (.nget od (nf a) ok wa wb) s = v.trapped 0x04 0 v.f.mask) ∧
      (k < 2 ^ 19 → ¬v.engineIdle false false → exec (.nget od (nf a) ok wa wb) s = v.waiting false) ∧
      (k < 2 ^ 19 → v.engineIdle false false → exec (.nget od (nf a) ok wa wb) s = .next (v.done (v.streaming
        { fn := .get, args := [v.limbArg a (32 * k) 32], srcs := [a], dst := .v p, lmax := 0, fast := true, bellows := false, band := false }))))) ∧
  (∀ (s : State) (v : View) (d : Fin 8) (o : Opnd) (lo : Loc) (wa : Bool), v.Src kSx false o lo →
    let p := (v.y.scalarVal lo).toNat
    (NumReady s v (some d) [] →
      (p % 16 ≠ 0 → exec (.nld (nf d) o wa) s = v.trapped 0x0B p v.f.mask) ∧
      (p % 16 = 0 → v.s.memOpen v.r.g v.r.w v.f.mask = true → exec (.nld (nf d) o wa) s = v.waiting false) ∧
      (∀ c, p % 16 = 0 → v.s.memOpen v.r.g v.r.w v.f.mask = false → v.s.ptrTo v.core v.c (decide (v.y.plvl = 0)) p 16 false = .fail c →
        exec (.nld (nf d) o wa) s = v.trapped c p v.f.mask) ∧
      (∀ pa te, p % 16 = 0 → v.s.memOpen v.r.g v.r.w v.f.mask = false → v.s.ptrTo v.core v.c (decide (v.y.plvl = 0)) p 16 false = .ok pa te →
        let h := v.s.engRd pa 16
        let q : NumReq := { fn := .copy, args := [.heap (decide (2 ^ 31 ≤ h)) (h % 2 ^ 25) (p + 16)], srcs := [], dst := .n d, lmax := h % 2 ^ 25,
                            fast := false, bellows := false, band := false }
        (h < 2 ^ 32 → h / 2 ^ 25 % 64 = 0 → h % 2 ^ 25 ≤ 2 ^ 24 → v.s.lockHit v.c (p % 2 ^ 56) (16 + 4 * (h % 2 ^ 25)) false = none →
          (v.owns d (h % 2 ^ 25) → v.engineIdle false false → exec (.nld (nf d) o wa) s = .next (v.done (v.streaming q))) ∧
          (v.owns d (h % 2 ^ 25) → ¬v.engineIdle false false → exec (.nld (nf d) o wa) s = v.waiting false) ∧
          (¬v.owns d (h % 2 ^ 25) → v.needsBlock (.nld (nf d) o wa) s (h % 2 ^ 25) (v.engineIdle false false)
            (fun u b => (u.setOwn d (some b)).streaming q v.y.n[d].own))) ∧
        (∀ x, h < 2 ^ 32 → h / 2 ^ 25 % 64 = 0 → h % 2 ^ 25 ≤ 2 ^ 24 → v.s.lockHit v.c (p % 2 ^ 56) (16 + 4 * (h % 2 ^ 25)) false = some x →
          exec (.nld (nf d) o wa) s = v.trapped 0x0A x v.f.mask) ∧
        (2 ^ 32 ≤ h ∨ h / 2 ^ 25 % 64 ≠ 0 ∨ 2 ^ 24 < h % 2 ^ 25 → exec (.nld (nf d) o wa) s = v.trapped 0x02 p v.f.mask))) ∧
    (NumReady s v none [] → (v.y.n[d].fill = .empty → exec (.nst (nf d) o wa) s = v.waiting false) ∧
      (∀ r, v.y.n[d].fill = .orphaned r → exec (.nst (nf d) o wa) s = v.trapped r.code d.val v.f.mask)) ∧
    (NumReady s v none [d] → (p % 16 ≠ 0 → exec (.nst (nf d) o wa) s = v.trapped 0x0B p v.f.mask) ∧
      (p % 16 = 0 → v.y.held.isSome = true → exec (.nst (nf d) o wa) s = v.trapped 0x15 p v.f.mask) ∧
      (p % 16 = 0 → v.y.held = none → v.s.memOpen v.r.g v.r.w v.f.mask = true ∨ v.s.nldOpen v.r.g v.r.w = true →
        exec (.nst (nf d) o wa) s = v.waiting false) ∧
      (p % 16 = 0 → v.y.held = none → v.s.memOpen v.r.g v.r.w v.f.mask = false → v.s.nldOpen v.r.g v.r.w = false →
        (∀ x, v.s.lockHit v.c (p % 2 ^ 56) (16 + 4 * v.len d) true = some x → exec (.nst (nf d) o wa) s = v.trapped 0x0A x v.f.mask) ∧
        (v.s.lockHit v.c (p % 2 ^ 56) (16 + 4 * v.len d) true = none → ¬v.engineIdle false false → exec (.nst (nf d) o wa) s = v.waiting false))) ∧
    (∀ (X : Int) ps, NumReady s v none [d] → p % 16 = 0 → v.y.held = none → v.engineIdle false false →
      v.s.memOpen v.r.g v.r.w v.f.mask = false → v.s.nldOpen v.r.g v.r.w = false →
      v.s.lockHit v.c (p % 2 ^ 56) (16 + 4 * v.len d) true = none → v.s.argVal v.c (decide (v.y.plvl = 0)) (v.arg d) = .ok X →
      let b := leBytes 4 (v.len d + (if v.neg d then 2 ^ 31 else 0)) ++ List.replicate 12 0 ++ leBytes (4 * v.len d) X.natAbs
      v.s.pieces v.c (decide (v.y.plvl = 0)) true p (b.length + 1) 0 b.length = .ok ps →
      exec (.nst (nf d) o wa) s = .next (v.finish (.ok
        (ps.foldl (fun (q : State × List Byte) e => (q.1.homeWrite v.core e.1 (q.2.take e.2), q.2.drop e.2)) (v.s, b)).1))))

open Sys2Proof Sys2Proof.Machine in
/-- 10 R222, R227, R238, R245: when a stream operation completes, its scalar destination holds the low 64 bits of the result, FULL, and the operation is
gone; an operation whose page must migrate keeps its engine. 10 R228: a Hod whose bookkeeping it can use and has room answers a request with a block of the
smallest size, the blocks given back having been freed first. -/
def Obligations.StreamAndHodEvents : Prop :=
  (∀ (s : State) (id : Nat) (o : NumOp) (x : Group) (core : Nat) (y : Warp) (xs : List Int) (i : Fin 32), tget s.numops id = some o →
    s.group o.g = some x → x.core = some core → s.warp o.g o.w = some y → (s.ctxs[cfin x.ctx]).st.runs = true → o.band = false → o.dst = .s i →
    o.freeOld = none → s.argVals (s.ctxOf o.g) o.user o.args = .ok xs →
    ∃ t y', exec (.streamOperationComplete id) s = .next t ∧ t.warp o.g o.w = some y' ∧
      y'.s = y.s.set i { val := BitVec.ofInt 64 (o.fn.eval xs), fill := .full } ∧ y'.n = y.n ∧ y'.phys = y.phys ∧ y'.flags = y.flags ∧
      t.numops = tdel s.numops id ∧ t.mem = s.mem) ∧
  (∀ (s : State) (id : Nat) (r : HodReq) (a : Nat), tget s.hods id = some r → r.answer = none →
    let c := cfin (s.ctxOf r.g)
    (s.ctxs[c]).st.works = true → (s.ctxs[c]).heapsize ≠ 0 → s.metaBad c = none → (s.hodFrees c).findBlock c (4 * blockLimbs r.limbs) = some a →
    ∃ t, exec (.hodAllocation id) s = .next t ∧ tget t.hods id = some { r with answer := some (some (a, blockLimbs r.limbs)) } ∧
      (t.ctxs[c]).blocks = (s.ctxs[c]).blocks ++ [(a, 4 * blockLimbs r.limbs)] ∧ (t.ctxs[c]).heapDue = [] ∧ t.groups = s.groups)


namespace Sys2Proof.Machine

/-! ## Tiles (11 R250 to R272) -/

/-- 11 R254, R257: the state in which an operation stands last in the tile order of its group, with an entry of the core's engine queue if it takes one. -/
def View.tileOrdered (v : View) (y : Warp) (k : Fin 8) (kind : TileOpKind) (entry : Bool) : State :=
  let t : State := { ((v.put y).modGroup v.r.g (fun x => { x with tops := x.tops ++ [{ id := v.s.uid, tile := k, kind := kind }] })) with uid := v.s.uid + 1 }
  if entry then t.pushEngine v.core (.tile v.r.g v.s.uid) else t

/-- 11 R253, R257: the tile that a field names is OPEN with room for one more operation, and the engine queue too where the operation takes an entry. -/
structure TileFree (s : State) (v : View) (k : Fin 8) (entry : Bool) : Prop where
  /-- it issues -/
  issues : Issues s v
  /-- OPEN -/
  opened : (v.tile k).st = .opened
  /-- PEND -/
  room : v.grp.pend k < 32
  /-- the queue -/
  queue : entry = true → v.s.engineLen v.core < 32

/-- 11 R260: the oldest committed slab of a FIFO that the group owns. -/
def View.oldest (v : View) (f : Fin 4) (id : Nat) : Prop :=
  ∃ q b, v.grp.fifos[f] = some q ∧ q.slabs.find? (fun b => !b.claimed) = some b ∧ b.id = id

/-- 11 R266: WORD, COL0 and ROW of a selector, which are in bounds. -/
def selects (x rows : Nat) (q : TileSel) : Prop :=
  x < 2 ^ 18 ∧ x / 2 ^ 15 % 2 = 0 ∧ q.word = x / 2 ^ 16 ∧ q.col0 = x / 2 ^ 8 % 128 ∧ q.row = x % 256 ∧ q.col0 ≤ 96 ∧ q.row < rows

/-- 11 R250: the descriptor that ASTAT reports. -/
def describes (w : DWord) (t : Tile) (pend : Nat) : Prop :=
  if t.st = .closed then w = 0
  else bits w 63 62 = (if t.st = .opened then 1 else 2) ∧ w.getLsbD 61 = t.limb ∧ w.getLsbD 60 = t.err ∧ w.getLsbD 59 = t.ovf ∧
    w.getLsbD 58 = t.loss ∧ bits w 57 50 = t.rows % 256 ∧ (bits w 49 40 : Int) = t.x % 1024 ∧ bits w 39 32 = pend % 256 ∧ bits w 31 0 = 0

/-- The group once an operation has left its tile order. -/
def Group.without (x : Group) (o : TileOp) : Group := { x with tops := x.tops.filter (fun q => q.id != o.id) }

/-- 11 R254, R256, R257: an operation has its turn: its context runs, it is the first of its tile, its slabs are there, and its entry is at the head of
the engine queue. -/
structure TileTurn (s : State) (g : Nat) (x : Group) (o : TileOp) (core : Nat) : Prop where
  /-- the group -/
  group : s.group g = some x
  /-- the operation -/
  op : x.tops.find? (fun q => q.id == o.id) = some o
  /-- its core -/
  place : x.core = some core
  /-- the group is not being restored -/
  here : x.st ≠ .restoring
  /-- its context runs -/
  runs : (s.ctxs[cfin x.ctx]).st.runs = true
  /-- first, and its slabs are there -/
  ready : x.opReady o = true
  /-- the queue -/
  head : o.queued = true → s.engineHead core (.tile g o.id) = true

/-- 11 R256, R274: the operation's tile stays: it is no CLOSING tile's last operation, nor the last of a group that has exited. -/
def Group.keeps (x : Group) (o : TileOp) : Prop :=
  ((x.tiles[o.tile]).st = .closing → (x.without o).pend o.tile ≠ 0) ∧ (x.st = .exited → (x.without o).tops ≠ [])

end Sys2Proof.Machine


open Sys2Proof Sys2Proof.Machine in
/-- 11 R254, R255, R257, R260, R265 to R267: MMA and LMMA join the tile order and claim the oldest slab of each side; ARD and CRES join it with their
destination EMPTY; AWR joins it with the lanes as read at issue. They wait for room, CRES also for an engine and a block of the heap. A tile that is not OPEN,
MMA on a limb tile, LMMA and CRES on any other and a FIFO of the wrong side trap with ILLOPND, a FIFO without a committed slab and a tile with ERR with
FIFOERR, and a selector or row out of bounds with IDXBOUND. -/
def Obligations.TileOperationsIssue : Prop :=
  ∀ (s : State) (v : View) (k : Fin 8) (a b : Fin 2) (o d : Opnd) (lo : Loc) (wa wb : Bool),
    let fa : Fin 4 := Fin.ofNat 4 a.val
    let fb : Fin 4 := Fin.ofNat 4 (2 + b.val)
    let mma := Instr.mma (nf k) (BitVec.ofNat 7 fa.val) (BitVec.ofNat 7 fb.val)
    let lmma := Instr.lmma (nf k) (BitVec.ofNat 7 fa.val) (BitVec.ofNat 7 fb.val)
    let x := (v.y.scalarVal lo).toNat
    (∀ sa sb, TileFree s v k true → v.oldest fa sa → v.oldest fb sb →
      ((v.tile k).limb = false →
        exec mma s = .next (v.done ((v.tileOrdered v.y k (.mma fa.val sa fb.val sb) true).modGroup v.r.g (fun q => (q.claim fa sa).claim fb sb)))) ∧
      ((v.tile k).limb = true →
        exec lmma s = .next (v.done ((v.tileOrdered v.y k (.lmma fa.val sa fb.val sb) true).modGroup v.r.g (fun q => (q.claim fa sa).claim fb sb))))) ∧
    (Issues s v → (v.tile k).st = .opened →
      ((v.tile k).limb = true → exec mma s = v.trapped 0x02 0 v.f.mask) ∧ ((v.tile k).limb = false → exec lmma s = v.trapped 0x02 0 v.f.mask) ∧
      (∀ ga gb : Fin 4, 2 ≤ ga.val ∨ gb.val < 2 → exec (.mma (nf k) (BitVec.ofNat 7 ga.val) (BitVec.ofNat 7 gb.val)) s = v.trapped 0x02 0 v.f.mask ∧
        exec (.lmma (nf k) (BitVec.ofNat 7 ga.val) (BitVec.ofNat 7 gb.val)) s = v.trapped 0x02 0 v.f.mask) ∧
      (let i := if (v.tile k).limb then lmma else mma
       ((∀ id, ¬v.oldest fa id) → exec i s = v.trapped 0x1E fa.val v.f.mask) ∧
       (∀ sa, v.oldest fa sa → (∀ id, ¬v.oldest fb id) → exec i s = v.trapped 0x1E fb.val v.f.mask) ∧
       (∀ sa sb, v.oldest fa sa → v.oldest fb sb → 32 ≤ v.grp.pend k ∨ 32 ≤ v.s.engineLen v.core → exec i s = v.waiting false))) ∧
    (Issues s v → (v.tile k).st ≠ .opened → exec mma s = v.trapped 0x02 k.val v.f.mask ∧ exec lmma s = v.trapped 0x02 k.val v.f.mask ∧
      (∀ l p, v.Src kSxZ false o lo → v.Src kV false d (.vec [p]) → exec (.awr (nf k) d o wa wb) s = v.trapped 0x02 k.val v.f.mask ∧
        (v.Dst kV false d l → exec (.ard d (nf k) o wb) s = v.trapped 0x02 k.val v.f.mask)) ∧
      (∀ n : Fin 8, v.Src kSxZ1 false o lo → exec (.cres (nf n) (nf k) o wb) s = v.trapped 0x02 k.val v.f.mask)) ∧
    (Issues s v → v.Src kSxZ false o lo → (v.tile k).st = .opened →
      (∀ p, v.Dst kV false d (.vec [p]) → ((∀ q, ¬selects x (v.tile k).rows q) → exec (.ard d (nf k) o wb) s = v.trapped 0x04 0 v.f.mask) ∧
        (∀ q, selects x (v.tile k).rows q → (v.tile k).err = true → exec (.ard d (nf k) o wb) s = v.trapped 0x1E k.val v.f.mask) ∧
        (∀ q, selects x (v.tile k).rows q → (v.tile k).err = false → 32 ≤ v.grp.pend k → exec (.ard d (nf k) o wb) s = v.waiting false)) ∧
      (∀ p, v.Src kV false d (.vec [p]) → ((∀ q, ¬selects x (v.tile k).rows q) → exec (.awr (nf k) d o wa wb) s = v.trapped 0x04 0 v.f.mask) ∧
        (∀ q, selects x (v.tile k).rows q → 32 ≤ v.grp.pend k → exec (.awr (nf k) d o wa wb) s = v.waiting false))) ∧
    (v.Src kSxZ1 false o lo → (v.tile k).st = .opened → ∀ n : Fin 8, NumFree s v n → let cres := Instr.cres (nf n) (nf k) o wb
      ((v.tile k).limb = false → exec cres s = v.trapped 0x02 0 v.f.mask) ∧
      ((v.tile k).limb = true →
        ((v.tile k).rows ≤ x → exec cres s = v.trapped 0x04 0 v.f.mask) ∧
        (x < (v.tile k).rows → (v.tile k).err = true → exec cres s = v.trapped 0x1E k.val v.f.mask) ∧
        (x < (v.tile k).rows → (v.tile k).err = false →
          (v.owns n 130 → ¬(v.engineIdle false false ∧ v.grp.pend k < 32) → exec cres s = v.waiting false) ∧
          (¬v.owns n 130 → v.needsBlock cres s 130 (v.engineIdle false false ∧ v.grp.pend k < 32) (fun u b =>
            let z := u.setOwn n (some b)
            z.tileOrdered (z.y.numEmpty (.n n)) k (.cres v.r.w n x (decide (v.y.plvl = 0)) v.y.n[n].own) false))))) ∧
    (v.Src kSxZ false o lo → TileFree s v k false → ∀ q : TileSel, selects x (v.tile k).rows q →
      (∀ p, v.Dst kV false d (.vec [p]) → (v.tile k).err = false →
        exec (.ard d (nf k) o wb) s = .next (v.done (v.tileOrdered (v.y.setEmpty (.vec [p])) k (.ard v.r.w p q) false))) ∧
      (∀ p, v.Src kV false d (.vec [p]) →
        exec (.awr (nf k) d o wa wb) s = .next (v.done (v.tileOrdered v.y k (.awr (v.y.vreg p).lanes q) false)))) ∧
    (v.Src kSxZ1 false o lo → TileFree s v k false → ∀ n : Fin 8, NumFree s v n →
      (v.tile k).limb = true → x < (v.tile k).rows → (v.tile k).err = false → v.owns n 130 → v.engineIdle false false →
      exec (.cres (nf n) (nf k) o wb) s =
        .next (v.done (v.tileOrdered (v.y.numEmpty (.n n)) k (.cres v.r.w n x (decide (v.y.plvl = 0)) none) false)))

open Sys2Proof Sys2Proof.Machine in
/-- 11 R254, R256, R264 to R266, 02 R40: at its turn AZERO clears the tile, AWR writes its words, ARD fills its register with 32 words of a row, MMA and
LMMA over good slabs add their terms, and the operation leaves the order; a term within the range is added exactly at the anchor. A slab that fails its checks
sets ERR and breaks its FIFO; with ERR set ARD orphans its register and an ADRAIN's copy fails, which else takes the rectangle; CRES hands its row to a stream
engine. The last operation of a CLOSING tile closes it. -/
def Obligations.TileOperationsRetire : Prop :=
  (∀ (s : State) (g : Nat) (x : Group) (o : TileOp) (core : Nat), TileTurn s g x o core → x.st ≠ .exited → o.isDrain = false →
    (x.tiles[o.tile]).st = .closing →
    (x.without o).pend o.tile = 0 → ∃ u z, exec (.tileOperationRetire g o.id) s = .next u ∧ u.group g = some z ∧ z.tiles[o.tile] = .closed ∧
      z.tops = (x.without o).tops) ∧
  (∀ (s : State) (g : Nat) (x : Group) (o : TileOp) (core : Nat), TileTurn s g x o core → x.keeps o →
    (let t := x.tiles[o.tile]
     (∀ (w p : Nat) (q : TileSel) (y : Warp), o.kind = .ard w p q → t.err = true → s.warp g w = some y → tget y.phys p ≠ none →
       ∃ u y', exec (.tileOperationRetire g o.id) s = .next u ∧ u.warp g w = some y' ∧ (y'.vreg p).fill = .orphaned .orphan ∧
         (∀ r, r ≠ p → y'.vreg r = y.vreg r) ∧ y'.s = y.s) ∧
     (∀ fa sa fb sb, o.kind = (if t.limb then .lmma fa sa fb sb else .mma fa sa fb sb) → fa ≠ fb → fa < 4 → fb < 4 →
       slabGood (x.slabOf fa sa) t.limb = none →
       ∃ u z, exec (.tileOperationRetire g o.id) s = .next u ∧ u.group g = some z ∧ z.tops = x.tops.filter (fun q => q.id != o.id) ∧
         z.tiles[o.tile] = { t with err := true } ∧ (∀ q, z.fifos[Fin.ofNat 4 fa] = some q → q.broken = true)) ∧
     (∀ (w : Nat) (n : Fin 8) (row : Nat) (user : Bool) (old : Option (Nat × Nat)) (y : Warp), o.kind = .cres w n row user old → t.err = false →
       s.warp g w = some y → y.sched ≠ .exited →
       ∃ u, exec (.tileOperationRetire g o.id) s = .next u ∧ u.numops = s.numops ++ [(s.uid,
         { g := g, w := w, fn := .copy, args := [.val ((List.range 128).map (fun k => (t.elem row k).acc.toInt * 2 ^ (32 * k))).sum], srcs := [],
           dst := .n n, freeOld := old, bellows := false, band := false, user := user })]) ∧
     (∀ (id : Nat) (c : Copy), o.kind = .adrain id → tget s.copies id = some c → c.live = true → t.err = false →
       ∃ u c', exec (.tileOperationRetire g o.id) s = .next u ∧ tget u.copies id = some c' ∧ c'.snapX = t.x ∧ c'.st = c.st ∧
         c'.snap = some (t.rectangle (drainPar c.p1 c.p2 t.rows)) ∧ u.mem = s.mem) ∧
     (o.kind = .azero → ∃ u z, exec (.tileOperationRetire g o.id) s = .next u ∧ u.group g = some z ∧
       z.tiles[o.tile] = { t with elems := [], err := false, ovf := false, loss := false } ∧ z.tops = x.tops.filter (fun q => q.id != o.id)) ∧
     (∀ (ls : Lanes) (q : TileSel), o.kind = .awr ls q → q.word < 4 →
       ∃ u z, exec (.tileOperationRetire g o.id) s = .next u ∧ u.group g = some z ∧ z.tops = x.tops.filter (fun q => q.id != o.id) ∧
         (∀ i : Fin 32, ((z.tiles[o.tile]).elem q.row (q.col0 + i.val)).word q.word = if q.word = 3 then ls[i] &&& 1 else ls[i]) ∧
         (∀ w, w < 4 → w ≠ q.word → ∀ i : Fin 32, ((z.tiles[o.tile]).elem q.row (q.col0 + i.val)).word w = (t.elem q.row (q.col0 + i.val)).word w) ∧
         (z.tiles[o.tile]).ovf = t.ovf ∧ (z.tiles[o.tile]).loss = t.loss ∧ (z.tiles[o.tile]).err = t.err) ∧
     (∀ (w p : Nat) (q : TileSel) (y : Warp), o.kind = .ard w p q → t.err = false → s.warp g w = some y → tget y.phys p ≠ none →
       ∃ u y', exec (.tileOperationRetire g o.id) s = .next u ∧ u.warp g w = some y' ∧ (y'.vreg p).fill = .full ∧
         (∀ i : Fin 32, (y'.vreg p).lanes[i] = (t.elem q.row (q.col0 + i.val)).word q.word) ∧ (∀ r, r ≠ p → y'.vreg r = y.vreg r) ∧ y'.s = y.s) ∧
     (∀ fa sa fb sb ba bb ta na tb nb, o.kind = (if t.limb then .lmma fa sa fb sb else .mma fa sa fb sb) → fa ≠ fb → fa < 4 → fb < 4 →
       x.slabOf fa sa = (some ba, false) → x.slabOf fb sb = (some bb, false) → ba.size ≤ ba.bytes.length → bb.size ≤ bb.bytes.length →
       slabHdr ba.bytes = some (ta, na) → slabHdr bb.bytes = some (tb, nb) → (ta = 6 ↔ t.limb = true) → (tb = 6 ↔ t.limb = true) → na ≤ t.rows →
       (t.limb = true → na = nb) →
       ∃ u z, exec (.tileOperationRetire g o.id) s = .next u ∧ u.group g = some z ∧ z.tops = x.tops.filter (fun q => q.id != o.id) ∧
         z.tiles[o.tile] = (if t.limb then t.lmma (slabLimbs ba.bytes na) (slabLimbs bb.bytes nb)
                            else t.mma (slabBlocks ba.bytes ta na) (slabBlocks bb.bytes tb nb))))) ∧
  (∀ (t : Tile) (row col : Nat) (p : Int) (n : Nat), col < 128 →
    -(2 ^ 95) ≤ (t.elem row col).acc.toInt + p * 2 ^ n ∧ (t.elem row col).acc.toInt + p * 2 ^ n < 2 ^ 95 →
    let u := t.accumulate row col p (t.x + n)
    (u.elem row col).acc.toInt = (t.elem row col).acc.toInt + p * 2 ^ n ∧ u.ovf = t.ovf ∧ u.loss = t.loss ∧
      ∀ r c, c < 128 → (r, c) ≠ (row, col) → u.elem r c = t.elem r c)

open Sys2Proof Sys2Proof.Machine in
/-- 11 R250 to R272: the control of tiles and FIFOs, and the block conversions. 11 R251, R253, R264, R270, R271: AOPEN with free row blocks opens the tile at zero with LIMB, ROWS and X of its word, and without them its request
waits; a tile that is CLOSING or has operations pending makes it wait. ACLOSE closes the tile when nothing is pending; AZERO joins the tile order when there
is room; ASTAT reports the descriptor, with selector one when its turn in the tile order comes; FQRY reports the FIFO word; FDISC gives the FIFO up, traps
with FIFOERR while a CPYF into it flies and waits while a slab is claimed. 11 R272, 02 R36, R37: QBLK writes the block of the 32 values of a: the exponent in lane 0 and the packed mantissas from lane 1 on; DQBLK writes the 32
elements of the block in a, converted to T; mask and guard do not matter. Under a T that is a block type, or an ETYPE that is none, both trap with ILLTYPE. -/
def Obligations.TileControlAndConversionResults : Prop :=
  (∀ (s : State) (v : View) (k : Fin 8) (f : Fin 4) (o d : Opnd) (lo ld : Loc) (wa : Bool), Issues s v →
    (v.Src kSx false o lo → (∀ e ∈ v.s.groups, e.2.aopens = []) →
      let x := (v.y.scalarVal lo).toNat
      let rows := x / 2 ^ 16 % 2 ^ 8
      let others := (((List.finRange 8).filter (· ≠ k)).map (fun j => if (v.tile j).st = .closed then 0 else (v.tile j).rows)).sum
      let kept := if (v.tile k).st = .opened then (v.tile k).rows / 8 else 0
      let good := x < 2 ^ 25 ∧ x / 2 ^ 10 % 64 = 0 ∧ 8 ≤ rows ∧ rows ≤ 128 ∧ rows % 8 = 0 ∧ (x / 2 ^ 24 = 1 → x % 1024 = 0)
      (¬good → exec (.aopen (nf k) o wa) s = v.trapped 0x02 0 v.f.mask) ∧
      (good → 248 < others + rows → exec (.aopen (nf k) o wa) s = v.trapped 0x04 0 v.f.mask) ∧
      (good → others + rows ≤ 248 → (v.tile k).st ≠ .closing → ((v.tile k).st = .opened → v.grp.pend k = 0) →
        rows / 8 ≤ kept ∨ v.s.blocksUsed v.core + rows / 8 - kept ≤ 31 →
        exec (.aopen (nf k) o wa) s = .next (v.done (v.putGroup v.y (fun g => g.modTile k (fun _ =>
          { st := .opened, limb := decide (x / 2 ^ 24 = 1), err := false, ovf := false, loss := false, rows := rows,
            x := (x % 1024 : Int) - (if x % 1024 < 512 then 0 else 1024), elems := [] }))))) ∧
      (good → others + rows ≤ 248 → (v.tile k).st = .closing ∨ ((v.tile k).st = .opened ∧ 0 < v.grp.pend k) →
        exec (.aopen (nf k) o wa) s = v.waiting false) ∧
      (good → others + rows ≤ 248 → (v.tile k).st ≠ .closing → ((v.tile k).st = .opened → v.grp.pend k = 0) → kept < rows / 8 →
        31 < v.s.blocksUsed v.core + rows / 8 - kept →
        exec (.aopen (nf k) o wa) s = .next (((v.base.modGroup v.r.g (fun g =>
          { g with aopens := v.otherWaits g.aopens ++ [{ w := v.r.w, slot := v.r.slot, since := v.s.now, need := rows / 8 - kept }] })).setStatus v.r
            (.blocked false)).parkCheck v.r.g v.r.w))) ∧
    ((v.tile k).st = .opened →
      exec (.aclose (nf k)) s = .next (v.done (v.putGroup v.y (fun g => g.modTile k (fun q => if g.pend k = 0 then .closed else { q with st := .closing }))))) ∧
    ((v.tile k).st ≠ .opened → exec (.aclose (nf k)) s = v.trapped 0x02 k.val v.f.mask ∧ exec (.azero (nf k)) s = v.trapped 0x02 k.val v.f.mask) ∧
    (TileFree s v k true → exec (.azero (nf k)) s = .next (v.done (v.tileOrdered v.y k .azero true))) ∧
    ((v.tile k).st = .opened → 32 ≤ v.grp.pend k ∨ 32 ≤ v.s.engineLen v.core → exec (.azero (nf k)) s = v.waiting false) ∧
    ((∃ id, v.f.arrived = some (.tile id)) → exec (.astat d (nf k) .one) s = v.waiting false) ∧
    (v.Dst kSxZ false d ld → (∀ id, v.f.arrived ≠ some (.tile id)) → 0 < v.grp.pend k →
      ((v.tile k).st = .closing → exec (.astat d (nf k) .one) s = v.waiting false) ∧
      ((v.tile k).st = .opened → 32 ≤ v.grp.pend k → exec (.astat d (nf k) .one) s = v.waiting false) ∧
      ((v.tile k).st = .opened → v.grp.pend k < 32 →
        let op : TileOp := { id := v.s.uid, tile := k, kind := .astat v.r.w v.r.slot (match ld with
          | .sca i => some i
          | _ => none) }
        ∃ (t : State) (z : Group), exec (.astat d (nf k) .one) s = .next ((t.setStatus v.r (.blocked false)).parkCheck v.r.g v.r.w) ∧
          t.group v.r.g = some z ∧ z.tops = v.grp.tops ++ [op] ∧ z.tiles = v.grp.tiles ∧ t.mem = s.mem)) ∧
    (v.Dst kSxZ false d ld → (∀ id, v.f.arrived ≠ some (.tile id)) →
      (∃ w, exec (.astat d (nf k) .zero) s = .next (v.done (v.put (v.y.setScalar ld w))) ∧ describes w (v.tile k) (v.grp.pend k)) ∧
      (v.grp.pend k = 0 → ∃ w, exec (.astat d (nf k) .one) s = .next (v.done (v.put (v.y.setScalar ld w))) ∧ describes w (v.tile k) 0)) ∧
    (v.Dst kSxZ false d ld →
      ∃ w : DWord, exec (.fqry d (BitVec.ofNat 7 f.val)) s = .next (v.done (v.put (v.y.setScalar ld w))) ∧
        (v.grp.fifos[f] = none → w = if (v.s.fifoOwner v.core f).isSome then BitVec.ofNat 64 (2 ^ 62) else 0) ∧
        (∀ q, v.grp.fifos[f] = some q → w.getLsbD 63 = true ∧ w.getLsbD 62 = false ∧ w.getLsbD 61 = q.broken ∧ bits w 60 56 = 0 ∧
          bits w 55 48 = (q.slabs.filter (·.claimed)).length % 256 ∧ bits w 47 40 = (q.slabs.filter (fun b => !b.claimed)).length % 256 ∧
          bits w 39 32 = v.s.inflight v.r.g f ∧ bits w 31 15 = 0 ∧ bits w 14 0 = ((q.slabs.map (fun b => b.bytes.length)).sum) % 2 ^ 15)) ∧
    (∀ q, v.grp.fifos[f] = some q → 0 < v.s.inflight v.r.g f → exec (.fdisc (BitVec.ofNat 7 f.val)) s = v.trapped 0x1E f.val v.f.mask) ∧
    (∀ q, v.grp.fifos[f] = some q → v.s.inflight v.r.g f = 0 → (∃ b ∈ q.slabs, b.claimed = true) →
      exec (.fdisc (BitVec.ofNat 7 f.val)) s = v.waiting false) ∧
    (v.grp.fifos[f] = none → exec (.fdisc (BitVec.ofNat 7 f.val)) s = .next (v.done (v.put v.y))) ∧
    (∀ q, v.grp.fifos[f] = some q → v.s.inflight v.r.g f = 0 → (∀ b ∈ q.slabs, b.claimed = false) →
      exec (.fdisc (BitVec.ofNat 7 f.val)) s = .next (v.done (v.putGroup v.y (fun g => { g with fifos := g.fifos.set f none }))))) ∧
  ((∀ (s : State) (v : View) (d a : Opnd) (ty : BitVec 7) (wa : Bool) (ld la : Loc), Issues s v → 17 ≤ ty.toNat ∨ tyBfp v.et = false →
    let wide := decide (ty.toNat < 17) && tyWide ty.toNat
    (v.Dst kV false d ld → v.Src kV wide a la → exec (.qblk d a ty wa) s = v.trapped 0x03 0 v.f.mask) ∧
    (v.Dst kV wide d ld → v.Src kV false a la → exec (.dqblk d a ty wa) s = v.trapped 0x03 0 v.f.mask)) ∧
  (∀ (s : State) (v : View) (d a : Opnd) (ty : BitVec 7) (wa : Bool) (p : Nat), Issues s v → ty.toNat < 17 → tyBfp v.et = true →
    let t := ty.toNat
    let m := tyWidth v.et
    (∀ la, v.Dst kV false d (.vec [p]) → v.Src kV (tyWide t) a la →
      let q := quantise m (mRnd v.y.mode) ((v.laneVals t la).toList.map (decodeVal t (mFtz v.y.mode) v.blockExtra))
      exec (.qblk d a ty wa) s = .next (v.done (v.put (v.y.setV p (BitVec.allOnes 32)
        (fun i => BitVec.ofNat 32 ((q.1 + 2 ^ 32 * blockBits m q.2) / 2 ^ (32 * i.val))))))) ∧
    (∀ ns, v.Dst kV (tyWide t) d (.vec ns) → v.Src kV false a (.vec [p]) →
      let block := limbsNat (((v.y.vreg p).lanes.toList.map BitVec.toNat).take (m + 1))
      exec (.dqblk d a ty wa) s = .next (v.done (v.put (v.y.setLanes ns (BitVec.allOnes 32) t (Vector.ofFn (fun (i : Fin 32) =>
        encodeVal t (mRnd v.y.mode) (mFtz v.y.mode) (mSat v.y.mode) v.blockExtra false
          (blockElem m (block % 256) (block / 2 ^ 32) i.val)))))))))

namespace Sys2Proof.Machine

/-! ## Copies (12 R276 to R297, 11 R268, R269) -/

/-- 12 R277: parameter word j of a copy whose first parameter is scalar i. -/
def View.par (v : View) (i : Fin 32) (j : Nat) : DWord := v.y.s[Fin.ofNat 32 (i.val + j)].val

/-- 12 R277: n parameter registers from scalar i on can be read. -/
structure CopyWords (s : State) (v : View) (i : Fin 32) (n : Nat) : Prop where
  /-- it issues -/
  issues : Issues s v
  /-- none lies beyond s31 -/
  low : i.val + n ≤ 32
  /-- they are FULL and no queues -/
  full : ∀ j, j < n → v.y.s[Fin.ofNat 32 (i.val + j)].fill = .full ∧ v.y.mapped (Fin.ofNat 32 (i.val + j)) = none

/-- 12 R277, R280 to R285: an engine of the quadrant takes a job: the ends lie in the group region, the ranges do not meet each other nor a held lock,
the lock tables, the presence counts and the credits have room, and the fragment has nothing outstanding. -/
structure CopyRoom (v : View) (j : Job) (src : End_) (span : Nat) (dst : End_) (sys : Bool) (k : Nat) : Prop where
  /-- source -/
  source : src.spad = true → 0 < span → src.addr + span ≤ v.x.sched.spad
  /-- destination -/
  target : j.toSpad = true → 0 < j.lay.span → dst.addr + j.lay.span ≤ v.x.sched.spad
  /-- R282 -/
  apart : selfOverlap j.ranges = false
  /-- 17 R390: a warp in stage does not write memory by a copy -/
  stage : j.toSpad = false → (∀ f n, j.kind ≠ .cpyf f n) → v.y.held = none
  /-- R281 -/
  quiet : v.s.releaseWaits v.r.g v.r.w v.f.mask = false ∧ (sys = true → v.s.remoteOpen v.r.g v.r.w = false)
  /-- R280 -/
  engine : v.s.freeEngine (coreQuad v.core) = some k
  /-- R283 -/
  unlocked : ∀ l ∈ (j.ranges.map v.s.rangeLocks).flatten, ∀ m ∈ v.s.allLocks, l.conflicts m = false
  /-- R282 -/
  tables : v.s.lockRoom ((j.ranges.map v.s.rangeLocks).flatten) = true
  /-- R285 -/
  present : j.toSpad = true → ∀ l ∈ linesAt dst.addr (j.lay.from_ 0), tgetD v.grp.absent l 0 < 15
  /-- R280 -/
  credits : v.s.creditRoom (coreDie v.core) j.route = true

/-- 12 R280 to R286, R295, 08 R170: what an accepted copy leaves: it is RUNNING with its parameters and nothing landed, its identifier names context,
engine and sequence and is in d, COPY counts it, its ranges are locked, and memory is as before. -/
def Accepted (s : State) (v : View) (i : Instr) (dst : Option (Fin 32)) (j : Job) (k : Nat) : Prop :=
  ∃ (t : State) (c : Copy) (y : Warp), exec i s = .next (v.finish (.ok t)) ∧ (v.s.uid, c) ∈ t.copies ∧ t.warp v.r.g v.r.w = some y ∧
    c.ident = BitVec.ofNat 64 (v.c.val * 2 ^ 58 + k * 2 ^ 50 + tgetD v.s.engines k 0 % 2 ^ 50) ∧ c.kind = j.kind ∧ c.st = .running ∧
    (c.p0, c.p1, c.p2, c.p3) = (j.p0, j.p1, j.p2, j.p3) ∧ c.lay = j.lay ∧ c.size = j.lay.size ∧ c.units = 0 ∧ c.landed = 0 ∧ c.bar = j.bar ∧
    c.locks = (j.ranges.map v.s.rangeLocks).flatten ∧ c.mode = v.y.mode ∧ y.copyN = v.y.copyN + 1 ∧
    y.s = (match dst with
      | some r => v.y.s.set r { val := c.ident, fill := .full }
      | none => v.y.s) ∧
    y.m = v.y.m ∧ y.phys = v.y.phys ∧ y.flags = v.y.flags ∧ t.mem = v.s.mem

/-- 12 R277: the ends of a job lie in the group region. -/
def View.within (v : View) (j : Job) (src : End_) (span : Nat) (dst : End_) : Prop :=
  (src.spad = true → 0 < span → src.addr + span ≤ v.x.sched.spad) ∧ (j.toSpad = true → 0 < j.lay.span → dst.addr + j.lay.span ≤ v.x.sched.spad)

/-- 12 R277, R280 to R285: what a copy of legal form comes to: `yes` when an engine takes it; IDXBOUND for an end outside the group region, ILLOPND for
ranges that meet each other, STAGEFX in stage; and a wait at issue for an engine and whatever else it needs. -/
def Handed (s : State) (v : View) (i : Instr) (j : Job) (src : End_) (span : Nat) (dst : End_) (sys : Bool) (k : Nat) (yes : Prop) : Prop :=
  let staged := j.toSpad = false → (∀ f n, j.kind ≠ .cpyf f n) → v.y.held = none
  (CopyRoom v j src span dst sys k → yes) ∧
  (¬v.within j src span dst → exec i s = v.trapped 0x04 0 v.f.mask) ∧
  (v.within j src span dst → selfOverlap j.ranges = true → exec i s = v.trapped 0x02 0 v.f.mask) ∧
  (v.within j src span dst → selfOverlap j.ranges = false → ¬staged → exec i s = v.trapped 0x15 0 v.f.mask) ∧
  (v.within j src span dst → selfOverlap j.ranges = false → staged → (∀ n, ¬CopyRoom v j src span dst sys n) → exec i s = v.waiting false)

/-- 12 R279: the barrier of CTL does not lie in the group region. -/
def View.barOut (v : View) (ctl : DWord) : Prop := ctl.getLsbD 63 = true ∧ v.x.sched.spad < bits ctl 62 48 * 16 + 16

/-- 12 R277: n parameter registers from scalar i on do not exist, or one of them is a word queue. -/
def View.badWords (v : View) (i : Fin 32) (n : Nat) : Prop := 32 < i.val + n ∨ ∃ j, j < n ∧ v.y.mapped (Fin.ofNat 32 (i.val + j)) ≠ none

/-- 12 R279: the barrier of CTL, whose object lies in the group region. -/
def View.barOf (v : View) (ctl : DWord) (bar : Option Nat) : Prop :=
  if ctl.getLsbD 63 then bar = some (bits ctl 62 48 * 16) ∧ bits ctl 62 48 * 16 + 16 ≤ v.x.sched.spad else bar = none

/-- The destination field of a copy: a scalar register, or nowhere. -/
def View.identTo (v : View) (d : Opnd) (dst : Option (Fin 32)) : Prop :=
  v.Dst kSZ false d (match dst with
    | some r => .sca r
    | none => .zero)

end Sys2Proof.Machine


open Sys2Proof Sys2Proof.Machine in
/-- 12 R276 to R290: the copies that COPY engines take. 12 R276 to R287, R295: a CPY with LEN above 0 is handed to an engine, and one of LEN 0 is DONE at once. CPYX (R291) likewise, with its destination in
the target context. Parameter words that break their layout trap with ILLOPND, and a barrier or end outside the group region with IDXBOUND. 12 R288 to R290, 11 R268: CPYT, CPYQ and CPYF with legal geometry are handed to an engine, a CPYF with a slab at the end of its FIFO; so is an ADRAIN,
which stands in the tile order until its snapshot. Words that break their layout trap with ILLOPND, a type that a form does not take with ILLTYPE, an end, a
barrier or a rectangle out of bounds with IDXBOUND, and a FIFO of another group or a BROKEN one with FIFOERR; a CPYF waits for room in its FIFO. -/
def Obligations.CopiesAccepted : Prop :=
  (∀ (s : State) (v : View) (i : Fin 32) (d : Opnd) (dst : Option (Fin 32)) (wa : Bool) (bar : Option Nat) (k : Nat), CopyWords s v i 4 →
    v.identTo d dst →
    let p := v.par i
    let src := endOf (p 0).toNat
    let goal := endOf (p 1).toNat
    let n := bits (p 2) 31 0
    let bad := endOk (p 0).toNat = false ∨ endOk (p 1).toNat = false ∨ bits (p 2) 63 32 ≠ 0
    (bad ∨ bits (p 3) 47 0 ≠ 0 → exec (.cpy d (.s i) wa) s = v.trapped 0x02 0 v.f.mask) ∧
    (bad ∨ bits (p 3) 62 56 ≠ 0 ∨ bits (p 3) 41 32 ≠ 0 → exec (.cpyx d (.s i) wa) s = v.trapped 0x02 0 v.f.mask) ∧
    (¬bad → bits (p 3) 47 0 = 0 → v.barOut (p 3) → exec (.cpy d (.s i) wa) s = v.trapped 0x04 0 v.f.mask) ∧
    (endOk (p 0).toNat = true → endOk (p 1).toNat = true → bits (p 2) 63 32 = 0 →
    (let j : Job := { kind := .cpy, p0 := p 0, p1 := p 1, p2 := p 2, p3 := p 3, lay := .ofBytes 16 n,
                      ranges := endRange src v.c n false ++ endRange goal v.c n true, toSpad := goal.spad, bar := bar, extra := 0, tile := 0, route := [] }
     bits (p 3) 47 0 = 0 → v.barOf (p 3) bar → Handed s v (.cpy d (.s i) wa) j src n goal false k
       ((n ≠ 0 → Accepted s v (.cpy d (.s i) wa) dst j k) ∧
       (n = 0 → (∀ e ∈ v.s.copies, e.1 ≠ v.s.uid) →
         ∃ t c y, exec (.cpy d (.s i) wa) s = .next (v.finish (.ok t)) ∧ tget t.copies v.s.uid = some c ∧ c.st = .done ∧
           t.warp v.r.g v.r.w = some y ∧ y.copyN = v.y.copyN ∧ t.mem = v.s.mem))) ∧
    (let inside := decide (bits (p 3) 55 48 = v.s.node)
     let ranges := endRange src v.c n false ++ (if inside then endRange goal (bits (p 3) 47 42) n true else [])
     let j : Job := { kind := .cpyx, p0 := p 0, p1 := p 1, p2 := p 2, p3 := p 3, lay := .ofBytes 16 n, ranges := ranges, toSpad := false, bar := none,
                      extra := 0, tile := 0, route := v.copyRoute (bits (p 3) 55 48) ranges }
     bits (p 3) 62 56 = 0 → bits (p 3) 41 32 = 0 → goal.spad = false → Handed s v (.cpyx d (.s i) wa) j src n goal (!inside) k
       (Accepted s v (.cpyx d (.s i) wa) dst j k)) ∧
    (goal.spad = true → bits (p 3) 62 56 = 0 → bits (p 3) 41 32 = 0 → exec (.cpyx d (.s i) wa) s = v.trapped 0x02 0 v.f.mask))) ∧
  (∀ (s : State) (v : View) (i : Fin 32) (d : Opnd) (dst : Option (Fin 32)) (wa : Bool) (bar : Option Nat) (k : Nat),
    let p := v.par i
    let src := endOf (p 0).toNat
    let goal := endOf (p 1).toNat
    let rows := bits (p 2) 63 52
    let cols := bits (p 2) 51 40
    let t := bits (p 3) 47 43
    let cpyt := Instr.cpyt d (.s i) wa
    let cpyq := Instr.cpyq d (.s i) wa
    let ends := endOk (p 0).toNat = true ∧ endOk (p 1).toNat = true
    (Issues s v → v.identTo d dst → v.badWords i 4 → ∀ f : Fin 4,
      ∀ e ∈ [.cpy d (.s i) wa, .cpyx d (.s i) wa, cpyt, cpyq, .cpyf d (.s i) (BitVec.ofNat 7 f.val) wa], exec e s = v.trapped 0x02 0 v.f.mask) ∧
    (CopyWords s v i 4 → v.identTo d dst →
      (¬ends ∨ bits (p 3) 42 36 ≠ 0 ∨ bits (p 3) 11 0 ≠ 0 → exec cpyt s = v.trapped 0x02 0 v.f.mask) ∧
      (¬ends ∨ bits (p 3) 38 0 ≠ 0 → exec cpyq s = v.trapped 0x02 0 v.f.mask) ∧
      (ends → bits (p 3) 42 36 = 0 → bits (p 3) 11 0 = 0 →
        (rows = 0 ∨ cols = 0 ∨ 24 ≤ t → exec cpyt s = v.trapped 0x02 0 v.f.mask) ∧
        (rows ≠ 0 → cols ≠ 0 → t < 24 → tyBfp t = true → exec cpyt s = v.trapped 0x03 0 v.f.mask) ∧
        (rows ≠ 0 → cols ≠ 0 → t < 24 → tyBfp t = false →
          let w := tyWidth t
          let lay := Layout.ofElems w (cols + bits (p 3) 35 24) (rows + bits (p 3) 23 12) (bits (p 2) 19 0)
          let apart := 8 ≤ w → src.addr % (w / 8) = 0 ∧ goal.addr % (w / 8) = 0 ∧ (1 < rows → bits (p 2) 39 20 % (w / 8) = 0) ∧
            (1 < lay.rows → bits (p 2) 19 0 % (w / 8) = 0)
          (bits (p 2) 19 0 < lay.len ∨ ¬apart → exec cpyt s = v.trapped 0x02 0 v.f.mask) ∧
          (lay.len ≤ bits (p 2) 19 0 → apart → v.barOut (p 3) → exec cpyt s = v.trapped 0x04 0 v.f.mask))) ∧
      (ends → bits (p 3) 38 0 = 0 →
        (rows = 0 ∨ cols = 0 ∨ 24 ≤ t → exec cpyq s = v.trapped 0x02 0 v.f.mask) ∧
        (rows ≠ 0 → cols ≠ 0 → t < 24 → 24 ≤ v.et ∨ (tyBfp t = true ∧ tyBfp v.et = true) → exec cpyq s = v.trapped 0x03 0 v.f.mask) ∧
        (rows ≠ 0 → cols ≠ 0 → t < 24 → v.et < 24 → ¬(tyBfp t = true ∧ tyBfp v.et = true) →
          let whole := tyBfp t = true ∨ tyBfp v.et = true → (if (p 3).getLsbD 42 then rows else cols) % 32 = 0
          (¬whole → exec cpyq s = v.trapped 0x02 0 v.f.mask) ∧ (whole → v.barOut (p 3) → exec cpyq s = v.trapped 0x04 0 v.f.mask))) ∧
      (∀ f : Fin 4,
        let cpyf := Instr.cpyf d (.s i) (BitVec.ofNat 7 f.val) wa
        let ty := bits (p 2) 63 56
        let n := bits (p 2) 47 32
        let good := ends ∧ bits (p 2) 55 48 = 0 ∧ bits (p 3) 47 0 = 0 ∧ p 1 = 0 ∧ 1 ≤ n ∧ ((ty = 6 ∧ n ≤ 63) ∨ (tyBfp ty = true ∧ n ≤ 128))
        (¬good → exec cpyf s = v.trapped 0x02 0 v.f.mask) ∧
        (∀ g, good → v.s.fifoOwner v.core f = some g → g ≠ v.r.g ∨ (∃ q, v.x.fifos[f] = some q ∧ q.broken = true) →
          exec cpyf s = v.trapped 0x1E 0 v.f.mask) ∧
        (∀ q : Fifo, good →
          (v.s.fifoOwner v.core f = none ∧ q = .fresh) ∨ (v.s.fifoOwner v.core f = some v.r.g ∧ v.x.fifos[f] = some q ∧ q.broken = false) →
          (v.barOut (p 3) → exec cpyf s = v.trapped 0x04 0 v.f.mask) ∧
          (v.barOf (p 3) bar → 16384 < (q.slabs.map (·.size)).sum + slabSize ty n →
            (src.spad = true → src.addr + ((n - 1) * (if bits (p 2) 31 0 = 0 then slabItem ty else bits (p 2) 31 0) + slabItem ty) ≤ v.x.sched.spad) →
            exec cpyf s = v.waiting false)))) ∧
    (CopyWords s v i 4 → v.identTo d dst → endOk (p 0).toNat = true → endOk (p 1).toNat = true → v.barOf (p 3) bar →
      (rows ≠ 0 → cols ≠ 0 → t < 24 →
        (bits (p 3) 42 36 = 0 → bits (p 3) 11 0 = 0 → tyBfp t = false →
          let w := tyWidth t
          let lay := Layout.ofElems w (cols + bits (p 3) 35 24) (rows + bits (p 3) 23 12) (bits (p 2) 19 0)
          let span := (rows - 1) * bits (p 2) 39 20 + (cols * w + 7) / 8
          let j : Job := { kind := .cpyt, p0 := p 0, p1 := p 1, p2 := p 2, p3 := p 3, lay := lay,
                           ranges := endRange src v.c span false ++ endRange goal v.c lay.span true, toSpad := goal.spad, bar := bar, extra := 0, tile := 0, route := [] }
          lay.len ≤ bits (p 2) 19 0 →
          (8 ≤ w → src.addr % (w / 8) = 0 ∧ goal.addr % (w / 8) = 0 ∧ (1 < rows → bits (p 2) 39 20 % (w / 8) = 0) ∧
            (1 < lay.rows → bits (p 2) 19 0 % (w / 8) = 0)) →
          Handed s v (.cpyt d (.s i) wa) j src span goal false k (Accepted s v (.cpyt d (.s i) wa) dst j k)) ∧
        (bits (p 3) 38 0 = 0 → v.et < 24 → ¬(tyBfp t = true ∧ tyBfp v.et = true) →
          (tyBfp t = true ∨ tyBfp v.et = true → (if (p 3).getLsbD 42 then rows else cols) % 32 = 0) →
          let q := cpyqShape t v.et rows cols (bits (p 2) 39 20) (bits (p 2) 19 0) ((p 3).getLsbD 42)
          let j : Job := { kind := .cpyq, p0 := p 0, p1 := p 1, p2 := p 2, p3 := p 3, lay := q.1,
                           ranges := endRange src v.c q.2 false ++ endRange goal v.c q.1.span true, toSpad := goal.spad, bar := bar,
                           extra := (v.y.b[Fin.ofNat 8 (bits (p 3) 41 39)]).extra, tile := 0, route := [] }
          Handed s v (.cpyq d (.s i) wa) j src q.2 goal false k (Accepted s v (.cpyq d (.s i) wa) dst j k))) ∧
      (∀ (f : Fin 4) (q : Fifo),
        let ty := bits (p 2) 63 56
        let n := bits (p 2) 47 32
        let span := (n - 1) * (if bits (p 2) 31 0 = 0 then slabItem ty else bits (p 2) 31 0) + slabItem ty
        let j : Job := { kind := .cpyf f q.next, p0 := p 0, p1 := p 1, p2 := p 2, p3 := p 3, lay := .ofBytes 16 (slabSize ty n),
                         ranges := endRange src v.c span false, toSpad := false, bar := bar, extra := 0, tile := 0, route := [] }
        p 1 = 0 → bits (p 2) 55 48 = 0 → bits (p 3) 47 0 = 0 → 1 ≤ n → (ty = 6 ∧ n ≤ 63) ∨ (tyBfp ty = true ∧ n ≤ 128) →
        (v.s.fifoOwner v.core f = none ∧ q = .fresh) ∨ (v.s.fifoOwner v.core f = some v.r.g ∧ v.x.fifos[f] = some q ∧ q.broken = false) →
        (q.slabs.map (·.size)).sum + slabSize ty n ≤ 16384 → Handed s v (.cpyf d (.s i) (BitVec.ofNat 7 f.val) wa) j src span goal false k
          (Accepted s v (.cpyf d (.s i) (BitVec.ofNat 7 f.val) wa) dst j k))) ∧
    (∀ a : Fin 8,
      let adrain := Instr.adrain (nf a) (.s i) wa
      (Issues s v → (v.tile a).st ≠ .opened → exec adrain s = v.trapped 0x02 a.val v.f.mask) ∧
      (Issues s v → (v.tile a).st = .opened → v.badWords i 3 → exec adrain s = v.trapped 0x02 0 v.f.mask) ∧
      (CopyWords s v i 3 → (v.tile a).st = .opened →
        let q := drainPar (p 1) (p 2) (v.tile a).rows
        let fits := q.row0 + q.rows ≤ (v.tile a).rows ∧ q.cols ≤ 128 ∧ (∀ o, q.bar = some o → o + 16 ≤ v.x.sched.spad)
        let lay := Layout.ofElems (tyWidth v.et) q.rows q.cols q.pitch
        let here := src.spad = true → 0 < lay.span → src.addr + lay.span ≤ v.x.sched.spad
        (drainReserved (p 0) (p 1) (p 2) = true → exec adrain s = v.trapped 0x02 0 v.f.mask) ∧
        (drainReserved (p 0) (p 1) (p 2) = false → 17 ≤ v.et → exec adrain s = v.trapped 0x03 0 v.f.mask) ∧
        (drainReserved (p 0) (p 1) (p 2) = false → v.et < 17 → ¬(fits ∧ here) → exec adrain s = v.trapped 0x04 0 v.f.mask) ∧
        (drainReserved (p 0) (p 1) (p 2) = false → v.et < 17 → fits → here →
          (∀ x, q.misaligned src (tyWidth v.et) = some x → exec adrain s = v.trapped 0x0B x v.f.mask) ∧
          (q.misaligned src (tyWidth v.et) = none → (v.tile a).err = true → exec adrain s = v.trapped 0x1E a.val v.f.mask) ∧
          (q.misaligned src (tyWidth v.et) = none → (v.tile a).err = false → src.spad = false → v.y.held.isSome = true →
            exec adrain s = v.trapped 0x15 0 v.f.mask) ∧
          (q.misaligned src (tyWidth v.et) = none → (v.tile a).err = false → (src.spad = false → v.y.held = none) → 32 ≤ v.grp.pend a →
            exec adrain s = v.waiting false)))) ∧
    (∀ a : Fin 8, CopyWords s v i 3 → TileFree s v a false → drainReserved (p 0) (p 1) (p 2) = false → v.et < 17 → (v.tile a).err = false →
      let q := drainPar (p 1) (p 2) (v.tile a).rows
      let lay := Layout.ofElems (tyWidth v.et) q.rows q.cols q.pitch
      let j : Job := { kind := .adrain, p0 := p 0, p1 := p 1, p2 := p 2, p3 := 0, lay := lay, ranges := endRange src v.c lay.span true,
                       toSpad := src.spad, bar := q.bar, extra := (v.y.b[Fin.ofNat 8 (bits (p 1) 58 56)]).extra, tile := a.val, route := [] }
      q.row0 + q.rows ≤ (v.tile a).rows → q.cols ≤ 128 → (∀ o, q.bar = some o → o + 16 ≤ v.x.sched.spad) → q.misaligned src (tyWidth v.et) = none →
      Handed s v (.adrain (nf a) (.s i) wa) j { spad := false, addr := 0 } 0 src false k (Accepted s v (.adrain (nf a) (.s i) wa) none j k)))

open Sys2Proof Sys2Proof.Machine in
/-- 12 R295 to R297: CSTAT reports STATE, CAUSE and LANDED of the copy that an identifier of this context names, and 0 for any other; CCAN cancels a copy
that has not ended and has no bytes at another node unanswered, and clears Z; for one that has, it waits until the copy has ended; it sets Z when there is
none. -/
def Obligations.CopyStatusAndCancel : Prop :=
  ∀ (s : State) (v : View) (d a : Opnd) (ld : Loc) (j : Fin 32) (wa : Bool), Issues s v → v.Src kS false a (.sca j) →
    let x := v.y.s[j].val
    (v.Dst kSZ false d ld →
      (∀ id c, bits x 63 58 = v.c.val → v.s.copies.find? (fun e => decide (e.2.ident = x)) = some (id, c) →
        ∃ w, exec (.cstat d a wa) s = .next (v.done (v.put (v.y.setScalar ld w))) ∧
          bits w 63 61 = (match c.st with
            | .running => 1
            | .parked => 2
            | .done => 3
            | .failed => 4
            | .cancelled => 5) ∧ bits w 60 56 = 0 ∧ bits w 55 48 = c.cause % 256 ∧ bits w 47 40 = 0 ∧ bits w 39 0 = c.landed % 2 ^ 40) ∧
      (bits x 63 58 ≠ v.c.val ∨ (∀ e ∈ v.s.copies, e.2.ident ≠ x) → exec (.cstat d a wa) s = .next (v.done (v.put (v.y.setScalar ld 0))))) ∧
    (∀ id, v.f.arrived = some (.answer id) →
      (((tget v.s.copies id).map (·.live)).getD false = true → exec (.ccan a wa) s = v.waiting false) ∧
      (((tget v.s.copies id).map (·.live)).getD false = false →
        ∃ y, exec (.ccan a wa) s = .next (v.done (v.put y)) ∧ y.flags = setZNCV v.y.flags false false false false ∧ y.s = v.y.s ∧ y.copyN = v.y.copyN ∧
          ∀ f, y.slot v.r.slot = some f → f.arrived = none)) ∧
    (∀ id c, (∀ n, v.f.arrived ≠ some (.answer n)) → bits x 63 58 = v.c.val → v.s.copies.find? (fun e => decide (e.2.ident = x)) = some (id, c) →
      tget v.s.copies id = some c → c.st = .running ∨ c.st = .parked → v.s.copySends id = true →
      ∃ (t : State) (c' : Copy), exec (.ccan a wa) s = .next ((t.setStatus v.r (.blocked false)).parkCheck v.r.g v.r.w) ∧ tget t.copies id = some c' ∧
        c'.stop = some (c.stop.getD (.cancelled, 0, 0)) ∧ c'.locks = c.locks ∧ t.mem = s.mem) ∧
    (∀ id c, (∀ n, v.f.arrived ≠ some (.answer n)) → bits x 63 58 = v.c.val → v.s.copies.find? (fun e => decide (e.2.ident = x)) = some (id, c) →
      tget v.s.copies id = some c → c.st = .running ∨ c.st = .parked → v.s.copySends id = false →
      ∃ t c', exec (.ccan a wa) s = .next (v.finish (.ok t)) ∧ tget t.copies id = some c' ∧ c'.st = .cancelled ∧ c'.locks = [] ∧
        (∀ y, t.warp v.r.g v.r.w = some y → y.flags.getLsbD 0 = false)) ∧
    ((∀ n, v.f.arrived ≠ some (.answer n)) → bits x 63 58 ≠ v.c.val ∨ (∀ e ∈ v.s.copies, e.2.ident ≠ x ∨ (e.2.st ≠ .running ∧ e.2.st ≠ .parked)) →
      ∃ t, exec (.ccan a wa) s = .next (v.finish (.ok t)) ∧ t.copies = v.s.copies ∧ t.mem = v.s.mem ∧
        t.warp v.r.g v.r.w = some { v.y with flags := setZNCV v.y.flags true false false false })

open Sys2Proof Sys2Proof.Machine in
/-- 12 R284 to R287, R292: COPY_LAND of a CPY into scratchpad writes the next bytes of its source there and counts them; COPY_DONE ends a copy whose cells
have landed, gives back its locks and takes it out of COPY; COPY_FAIL ends a copy whose next cell meets a fatal cause with that cause. -/
def Obligations.CopyEvents : Prop :=
  ∀ (s : State) (id : Nat) (c : Copy) (x : Group), tget s.copies id = some c → s.group c.g = some x → s.copyRuns c = true →
    (∀ z ps, c.units < c.lay.total → c.kind = .cpy → (endOf c.p1.toNat).spad = true → c.lay.half = false →
      (s.cellVal c c.units).run [] = .ok (z, ps) →
      ∃ t x' c', exec (.copyLand id 1) s = .next t ∧ t.group c.g = some x' ∧ tget t.copies id = some c' ∧
        (let put : Group := { x with spad := Memory.wr x.spad ((endOf c.p1.toNat).addr + (c.lay.place c.units).1) (c.lay.place c.units).2 z }
         (c.bar = none ∨ c.lay.total ≤ c.units + 1 → x'.spad = put.spad) ∧
         (∀ o, c.bar = some o → c.units + 1 < c.lay.total → x'.spad = (put.barLand o (c.lay.place c.units).2).spad)) ∧
        c'.units = c.units + 1 ∧ c'.landed = c.landed + (c.lay.place c.units).2 ∧ c'.st = .running ∧ t.mem = s.mem) ∧
    (∀ y, c.lay.total ≤ c.units → s.copySends id = false → c.kind ≠ .cpyx → s.warp c.g c.w = some y →
      ∃ t c' y', exec (.copyDone id) s = .next t ∧ tget t.copies id = some c' ∧ c'.st = .done ∧ c'.locks = [] ∧ t.warp c.g c.w = some y' ∧
        y'.copyN = y.copyN - 1 ∧ y'.ecopy = y.ecopy ∧ t.mem = s.mem) ∧
    (∀ k a, c.units < c.lay.total → s.copySends id = false → s.landCell id c = .error (.fail k a) →
      exec (.copyFail id) s = .next (((s.loseCells c).endCopy id .failed k a).flush (cfin c.ctx)) ∧
      ∃ c', tget ((s.loseCells c).endCopy id .failed k a).copies id = some c' ∧ c'.st = .failed ∧ c'.cause = k ∧ c'.locks = [])


namespace Sys2Proof.Machine

/-! ## Barriers, exchanges, reductions and clocks (13 R298 to R311) -/

/-- 13 R301: a barrier operand names the object at `o`: aligned and within the group region. -/
structure BarAt (s : State) (v : View) (a : Opnd) (l : Loc) (o : Nat) : Prop where
  /-- it issues -/
  issues : Issues s v
  /-- the operand -/
  src : v.Src kSxZ false a l
  /-- its value -/
  value : (v.y.scalarVal l).toNat = o
  /-- aligned -/
  aligned : o % 16 = 0
  /-- within the region -/
  inside : o + 16 ≤ v.x.sched.spad

/-- The state of a view with its group changed and nothing else. -/
def View.regroup (v : View) (y : Warp) (k : Group → Group) : State := (v.put y).modGroup v.r.g k

/-- 13 R299: what one change of a barrier's counts comes to: the phase is over when both are 0. -/
def phaseOver (b : Bar) : Bar := if b.broken = false ∧ b.penda = 0 ∧ b.pendb = 0 then { b with phase := !b.phase, penda := b.expect } else b

/-- 13 R307: BAR, BOFF and OFF of an exchange parameter, which is in order. -/
structure Exchange (v : View) (x : Nat) (bar : Option Nat) (off : Nat) : Prop where
  /-- zero bits -/
  zero : x / 2 ^ 19 % 2 ^ 29 = 0
  /-- OFF -/
  isOff : off = x % 2 ^ 19
  /-- BAR and BOFF -/
  isBar : bar = if 2 ^ 63 ≤ x then some (x / 2 ^ 48 % 2 ^ 15 * 16) else none
  /-- within the bank -/
  fits : off + 128 ≤ v.x.sched.exch
  /-- within the region -/
  barFits : ∀ o, bar = some o → o + 16 ≤ v.x.sched.spad
  /-- aligned -/
  aligned : off % 4 = 0
  /-- 17 R390 -/
  stage : v.y.held = none

/-- 13 R307: an exchange store with the lanes as read at issue, counted in REM. -/
def View.exchanging (v : View) (p : Nat) (bar : Option Nat) (off : Nat) (tgts : List Nat) : State :=
  { (v.put { v.y with remN := v.y.remN + 1 }) with
      exchs := v.s.exchs ++ [(v.s.uid, { g := v.r.g, w := v.r.w, tgts := tgts, off := off, mask := v.active &&& ~~~v.y.helper,
                                         lanes := (v.y.vreg p).lanes, bar := bar })],
      uid := v.s.uid + 1 }

/-- The words of a warp that a meeting of warps leaves alone. -/
def sameRegisters (a b : Warp) : Prop := a.s = b.s ∧ a.m = b.m ∧ a.n = b.n ∧ a.b = b.b ∧ a.x = b.x ∧ a.phys = b.phys ∧ a.flags = b.flags ∧ a.mode = b.mode

end Sys2Proof.Machine

open Sys2Proof Sys2Proof.Machine in
/-- 13 R298 to R302: BINIT writes a fresh object; BEXP adds to PENDB, BARR takes 1 from PENDA and returns the phase once the warp's earlier accesses are
performed, and a phase with nothing pending is over; BWAIT goes on and BTEST tells when the token's phase is over; a BWAIT that has waited goes on when its
phase has ended and traps when its object has been broken; a broken object traps or tells 2. A write of an object tells the fragments that wait on it, and
changes nothing else. A misaligned object traps with ALIGN, one outside the group region with IDXBOUND. -/
def Obligations.BarrierResults : Prop :=
  (∀ (g : Group) (o : Nat) (b : Bar) (f : Frag), (g.setBar o b).spad = Memory.wr g.spad o 16 b.val ∧
    (g.setBar o b).warps = g.warps.map (Warp.tell o b) ∧ (∀ t, f.arrived = some (.bwait o t) → Frag.tell o b f =
      { f with arrived := some (if b.broken then .bwaitBroken o else if (if b.phase then 1 else 0) ≠ t then .bwaitOver else .bwait o t) }) ∧
    ((∀ t, f.arrived ≠ some (.bwait o t)) → Frag.tell o b f = f)) ∧
  (∀ (s : State) (v : View) (a b d : Opnd) (la lb ld : Loc) (wa wb : Bool), Issues s v → v.Src kSxZ false a la →
    let p := (v.y.scalarVal la).toNat
    ∀ out, (p % 16 ≠ 0 ∧ out = v.trapped 0x0B p v.f.mask) ∨ (p % 16 = 0 ∧ v.x.sched.spad < p + 16 ∧ out = v.trapped 0x04 0 v.f.mask) →
      (v.Src kS1 false b lb → exec (.binit a b wa wb) s = out) ∧ (v.Src kSC false b lb → exec (.bexp a b wa wb) s = out) ∧
      (v.Dst kSZ false d ld → exec (.barr d a wa) s = out) ∧
      (v.Src kSZ1 false b lb → (v.f.arrived = none → exec (.bwait a b wa wb) s = out) ∧ (v.Dst kSZ false d ld → exec (.btest d a b wa wb) s = out))) ∧
  (∀ (s : State) (v : View) (a b d : Opnd) (la : Loc) (o : Nat) (wa wb : Bool), BarAt s v a la o →
    let q := v.grp.bar o
    (∀ lb, v.Src kS1 false b lb →
      let n := (v.y.scalarVal lb).toNat
      (1 ≤ n → n ≤ 65535 → exec (.binit a b wa wb) s = .next (v.done (v.regroup v.y (fun g =>
        g.setBar o { pendb := 0, phase := false, broken := false, expect := n, penda := n })))) ∧
      (n = 0 ∨ 65535 < n → exec (.binit a b wa wb) s = v.trapped 0x0F 0 v.f.mask)) ∧
    (∀ lb, v.Src kSC false b lb →
      exec (.bexp a b wa wb) s = .next (v.done (v.regroup v.y (fun g => if (g.bar o).broken then g else
        g.setBar o (phaseOver { g.bar o with pendb := ((g.bar o).pendb + (v.y.scalarVal lb).toNat) % 2 ^ 64 }))))) ∧
    (∀ ld, v.Dst kSZ false d ld →
      (q.broken = false → q.penda ≠ 0 → v.s.releaseWaits v.r.g v.r.w (BitVec.allOnes 32) = false →
        exec (.barr d a wa) s = .next (v.done (v.regroup (v.y.setScalar ld (if q.phase then 1 else 0)) (fun g =>
          g.setBar o (phaseOver { q with penda := q.penda - 1 }))))) ∧
      (q.broken = false → q.penda ≠ 0 → v.s.releaseWaits v.r.g v.r.w (BitVec.allOnes 32) = true → exec (.barr d a wa) s = v.waiting false) ∧
      (q.broken = true → exec (.barr d a wa) s = v.trapped 0x0E o v.f.mask) ∧
      (q.broken = false → q.penda = 0 → exec (.barr d a wa) s = v.trapped 0x0F 0 v.f.mask)) ∧
    (∀ lb, v.Src kSZ1 false b lb →
      let token := decide ((v.y.scalarVal lb).toNat % 2 = 1)
      let stands := fun (a : Option Arrival) =>
        s.modWarp v.r.g v.r.w (fun y => y.setSlot v.r.slot ((y.slot v.r.slot).map (fun f => { f with arrived := a })))
      (v.f.arrived = none →
        (q.broken = false → q.phase ≠ token → exec (.bwait a b wa wb) s = .next (v.done (v.put v.y))) ∧
        (q.broken = false → q.phase = token → exec (.bwait a b wa wb) s =
          .next (((stands (some (.bwait o (if token then 1 else 0)))).setStatus v.r (.blocked true)).parkCheck v.r.g v.r.w)) ∧
        (q.broken = true → exec (.bwait a b wa wb) s = v.trapped 0x0E o v.f.mask)) ∧
      (∀ p t, v.f.arrived = some (.bwait p t) → exec (.bwait a b wa wb) s = v.waiting true) ∧
      (v.f.arrived = some .bwaitOver → exec (.bwait a b wa wb) s = .next (v.done (v.put v.leave))) ∧
      (∀ p, v.f.arrived = some (.bwaitBroken p) →
        exec (.bwait a b wa wb) s = .next (v.trapIn (stands none) 0x0E .issue p v.f.mask)) ∧
      (∀ ld, v.Dst kSZ false d ld →
        let x : Nat := if q.broken then 2 else if q.phase = token then 0 else 1
        exec (.btest d a b wa wb) s = .next (v.done (v.put { (v.y.setScalar ld (BitVec.ofNat 64 x)) with flags := setZ v.y.flags (decide (x = 0)) })))))

open Sys2Proof Sys2Proof.Machine in
/-- 13 R304 to R306: GSYNC and CSYNC of a warp with nothing in flight arrive: the count goes up by one, and the fragment goes on past the instruction when
the count is done and else stands there, arrived; when its count is done, an arrived fragment goes on, and until then it waits. The registers are as before.
With exchange stores or accesses in flight the arrival waits. -/
def Obligations.MeetingResults : Prop :=
  ∀ (s : State) (v : View) (cl : Bool), Issues s v →
    let i : Instr := if cl then .csync else .gsync
    let count := fun (y : Warp) => if cl then y.csyncN else y.gsyncN
    let isDone := fun (g : Group) (k : Nat) => if cl then g.csyncDone k else g.gsyncDone k
    let mark := fun (k : Nat) => if cl then Arrival.csync k else .gsync k
    let went := fun (k : Nat) (q : Warp) (t : State) => ∃ f y, v.y.slot v.r.slot = some f ∧ t.warp v.r.g v.r.w = some y ∧ sameRegisters y v.y ∧
      count y = k ∧ y.slot v.r.slot = some { f with arrived := none } ∧ y.due = q.due ∧ y.intrap = q.intrap
    (∀ k, v.f.arrived = some (mark k) → isDone v.grp k = true →
      ∃ t, exec i s = .next (v.done t) ∧ went (count v.y) v.y t) ∧
    (∀ k, v.f.arrived = some (mark k) → isDone v.grp k = false → exec i s = v.waiting true) ∧
    ((∀ k, v.f.arrived ≠ some (mark k)) →
      (v.s.exchOpen v.r.g v.r.w = true → exec i s = v.waiting true) ∧
      (v.s.exchOpen v.r.g v.r.w = false → v.s.releaseWaits v.r.g v.r.w v.f.mask = true → exec i s = v.waiting false)) ∧
    ((∀ k, v.f.arrived ≠ some (mark k)) → v.s.exchOpen v.r.g v.r.w = false → v.s.releaseWaits v.r.g v.r.w v.f.mask = false →
      let after := (v.put (if cl then { v.y with csyncN := v.y.csyncN + 1 } else { v.y with gsyncN := v.y.gsyncN + 1 })).settleSync v.r.g
      (isDone ((after.group v.r.g).getD v.x) (count v.y + 1) = true → ∃ t, exec i s = .next (v.finish (.ok t)) ∧ went (count v.y + 1) v.y t) ∧
      (isDone ((after.group v.r.g).getD v.x) (count v.y + 1) = false →
        ∃ t y z f, exec i s = .next t ∧ t.warp v.r.g v.r.w = some y ∧ s.warp v.r.g v.r.w = some z ∧ count y = count z + 1 ∧ sameRegisters y z ∧
          y.slot v.r.slot = some f ∧ f.arrived = some (mark (count v.y + 1)) ∧ f.pc = v.f.pc))


open Sys2Proof Sys2Proof.Machine in
/-- 13 R307 to R309: exchange stores and cluster reductions. 13 R307, R308: XST to a group of the phase, and MCST to the members of the cluster, go under way with the lanes as read and count in REM; XST to a
group that has retired sets XDEAD or traps, and to one that is WAITING it waits. Parameter words that break their layout trap with ILLOPND, a target, a bank
offset or a barrier out of bounds with IDXBOUND, a misaligned offset with ALIGN, and both in stage with STAGEFX. The store lands in the receiver's shadow bank:
each written lane at OFF + 4 × lane, nothing else, and counts at its barrier; the module's memory is as before, but for a receiver that is SAVED, whose image
is written anew (15 R359). At a receiver that has retired it is dropped and sets XDEAD. After its last receiver it is over. 13 R309: a CRED of COUNT 1 returns its own value; one of a larger COUNT contributes its value for its quadrant and stands arrived, after a wait for a
reduction to which its quadrant has contributed and for its earlier accesses; when the last contribution is in, the result over all of them by OP is in d of
every participant, whose fragment goes on. A control word that breaks its layout traps with ILLOPND, an OP that is none with ILLOP, a COUNT of 0, above the
live quadrants or unlike the reduction's with BADCOUNT, an ETYPE below 32 bits with ILLTYPE, and one in stage with STAGEFX. -/
def Obligations.ExchangeAndReductionResults : Prop :=
  ((∀ (s : State) (v : View) (a : Opnd) (p off : Nat) (bar : Option Nat) (i : Fin 32) (wa wb : Bool), Issues s v → v.Src kV false a (.vec [p]) →
    v.Src kS false (.s i) (.sca i) →
    let odd := fun (x : Nat) (far : Prop) (out : Host.Outcome State Fault Refusal) =>
      let out_ := v.x.sched.exch < x % 2 ^ 19 + 128 ∨ (2 ^ 63 ≤ x ∧ v.x.sched.spad < x / 2 ^ 48 % 2 ^ 15 * 16 + 16)
      (x / 2 ^ 19 % 2 ^ 29 ≠ 0 → out = v.trapped 0x02 0 v.f.mask) ∧
      (x / 2 ^ 19 % 2 ^ 29 = 0 → far ∨ out_ → out = v.trapped 0x04 0 v.f.mask) ∧
      (x / 2 ^ 19 % 2 ^ 29 = 0 → ¬(far ∨ out_) → x % 4 ≠ 0 → out = v.trapped 0x0B (x % 2 ^ 19) v.f.mask) ∧
      (x / 2 ^ 19 % 2 ^ 29 = 0 → ¬(far ∨ out_) → x % 4 = 0 → v.y.held.isSome = true → out = v.trapped 0x15 0 v.f.mask)
    odd v.y.s[i].val.toNat False (exec (.mcst a (.s i) wa wb) s) ∧
    (i.val = 31 → exec (.xst a (.s i) wa wb) s = v.trapped 0x02 0 v.f.mask) ∧
    (i.val < 31 → v.y.s[Fin.ofNat 32 (i.val + 1)].fill = .full → v.y.mapped (Fin.ofNat 32 (i.val + 1)) = none →
      let t := v.y.s[i].val.toNat
      let x := v.y.s[Fin.ofNat 32 (i.val + 1)].val.toNat
      (2 ^ 24 ≤ t → exec (.xst a (.s i) wa wb) s = v.trapped 0x02 0 v.f.mask) ∧
      (t < 2 ^ 24 → odd x ((v.launch.map (·.count)).getD 0 ≤ t) (exec (.xst a (.s i) wa wb) s)) ∧
      (t < 2 ^ 24 → t < (v.launch.map (·.count)).getD 0 → Exchange v x bar off → ∀ g q, v.peer t = some (g, q) →
        (q.st = .waiting → exec (.xst a (.s i) wa wb) s = v.waiting false) ∧
        (q.st ≠ .waiting → q.st ≠ .exited → q.st ≠ .killed → exec (.xst a (.s i) wa wb) s = .next (v.done (v.exchanging p bar off [g]))) ∧
        (q.st = .exited ∨ q.st = .killed →
          (mXtrap v.y.mode = false → exec (.xst a (.s i) wa wb) s =
            .next (v.done (v.put { v.y with flags := v.y.flags ||| 0x40#8, erem := v.y.erem + 1 }))) ∧
          (mXtrap v.y.mode = true → exec (.xst a (.s i) wa wb) s = v.trapped 0x12 t v.f.mask)))) ∧
    (Exchange v v.y.s[i].val.toNat bar off →
      exec (.mcst a (.s i) wa wb) s = .next (v.done (v.exchanging p bar off
        ((v.s.groups.filter (fun e => e.2.inCluster v.x.launch v.x.phase (coreQuad v.core))).map (·.1)))))) ∧
  (∀ (s : State) (id g : Nat) (rest : List Nat) (e : ExchStore) (x : Group) (y : Warp), tget s.exchs id = some e → e.tgts = g :: rest → s.group g = some x →
    x.st = .exited ∨ x.st = .killed → s.warp e.g e.w = some y →
    ∃ t y', exec (.exchangeStoreLand id) s = .next t ∧ t.warp e.g e.w = some y' ∧ y'.flags = y.flags ||| 0x40#8 ∧ y'.erem = y.erem + 1 ∧
      y'.remN = (if rest = [] then y.remN - 1 else y.remN) ∧ t.mem = s.mem ∧ y'.s = y.s ∧
      tget t.exchs id = (if rest = [] then none else some { e with tgts := rest })) ∧
  (∀ (s u : State) (id g : Nat) (rest : List Nat) (e : ExchStore) (x : Group), tget s.exchs id = some e → e.tgts = g :: rest → s.exchImage (some g) = .ok u →
    u.group g = some x → x.st ≠ .exited → x.st ≠ .killed → (x.st ≠ .saved → u = s) ∧
    (Memory.wf x.bank0 = true → Memory.wf x.bank1 = true →
    ∃ t z, exec (.exchangeStoreLand id) s = .next t ∧ t.group g = some z ∧ tget t.exchs id = (if rest = [] then none else some { e with tgts := rest }) ∧
      t.mem = u.mem ∧ z.spad = (match e.bar with
        | some o => (x.barLand o (4 * (lanesIn e.mask).length)).spad
        | none => x.spad) ∧
      (let live := fun (q : Group) => if q.live1 then q.bank1 else q.bank0
       let shadow := fun (q : Group) => if q.live1 then q.bank0 else q.bank1
       live z = live x ∧ z.live1 = x.live1 ∧
       (∀ i : Fin 32, e.mask.getLsbD i.val = true → Memory.rd (shadow z) (e.off + 4 * i.val) 4 = (e.lanes[i]).toNat) ∧
       (∀ b, (∀ i : Fin 32, e.mask.getLsbD i.val = true → b < e.off + 4 * i.val ∨ e.off + 4 * i.val + 4 ≤ b) →
         Memory.get (shadow z) b = Memory.get (shadow x) b))))) ∧
  ((∀ (s : State) (v : View) (d a b : Opnd) (la ld : Loc) (j : Fin 32) (wa wb : Bool), Issues s v → v.Dst kSZ false d ld → v.Src kSC false a la →
    v.Src kS false b (.sca j) →
    let c := v.y.s[j].val.toNat
    let n := c / 2 ^ 8 % 2 ^ 8
    let good := c < 2 ^ 48 ∧ c / 2 ^ 16 % 2 ^ 16 = 0 ∧ c / 8 % 32 = 0
    let cred := Instr.cred d a b wa wb
    (∀ id, v.f.arrived = some (.cred id) → exec cred s = v.waiting true) ∧
    ((∀ id, v.f.arrived ≠ some (.cred id)) →
      (¬good → exec cred s = v.trapped 0x02 0 v.f.mask) ∧ (good → 6 ≤ c % 8 → exec cred s = v.trapped 0x01 0 v.f.mask) ∧
      (good → c % 8 < 6 → 12 ≤ v.et → exec cred s = v.trapped 0x03 0 v.f.mask) ∧
      (good → c % 8 < 6 → v.et < 12 → n = 0 ∨ v.s.liveQuads < n → exec cred s = v.trapped 0x0F 0 v.f.mask) ∧
      (good → c % 8 < 6 → v.et < 12 → 1 ≤ n → n ≤ v.s.liveQuads → v.y.held.isSome = true → exec cred s = v.trapped 0x15 0 v.f.mask)) ∧
    ((∀ id, v.f.arrived ≠ some (.cred id)) → v.y.held = none → v.et < 12 → good → c % 8 < 6 → 1 ≤ n → n ≤ v.s.liveQuads →
    (∀ id r, 1 < n → v.s.openRed v.x.launch v.x.phase (c / 2 ^ 32 % 2 ^ 16) = some (id, r) →
      (r.count ≠ n → exec cred s = v.trapped 0x0F 0 v.f.mask) ∧
      (r.count = n → r.parts.any (fun p => p.1 == coreQuad v.core) = true → exec cred s = v.waiting true) ∧
      (r.count = n → r.parts.any (fun p => p.1 == coreQuad v.core) = false → v.s.releaseWaits v.r.g v.r.w v.f.mask = true → exec cred s = v.waiting false) ∧
      (r.count = n → r.parts.any (fun p => p.1 == coreQuad v.core) = false → v.s.releaseWaits v.r.g v.r.w v.f.mask = false →
        ∃ t r' y f, exec cred s = .next t ∧ tget t.reds id = some r' ∧ r'.count = n ∧ r'.op = r.op ∧
          r'.parts = r.parts ++ [(coreQuad v.core, v.y.scalarVal la)] ∧ r'.closed = decide (r.parts.length + 1 = n) ∧
          (r'.mixed = true ↔ r.mixed = true ∨ r.differs (c % 8) (scalarSigned v.et) = true) ∧ t.warp v.r.g v.r.w = some y ∧ sameRegisters y v.y ∧
          y.slot v.r.slot = some f ∧ f.arrived = some (.cred id) ∧ f.pc = v.f.pc)) ∧
    (1 < n → v.s.openRed v.x.launch v.x.phase (c / 2 ^ 32 % 2 ^ 16) = none → v.s.releaseWaits v.r.g v.r.w v.f.mask = true → exec cred s = v.waiting false) ∧
    (n = 1 → exec (.cred d a b wa wb) s = .next (v.done (v.put (v.y.setScalar ld (v.y.scalarVal la))))) ∧
    (1 < n → v.s.openRed v.x.launch v.x.phase (c / 2 ^ 32 % 2 ^ 16) = none → v.s.releaseWaits v.r.g v.r.w v.f.mask = false →
      tget v.s.reds v.s.uid = none →
      ∃ t r y f, exec (.cred d a b wa wb) s = .next t ∧ tget t.reds v.s.uid = some r ∧ r.count = n ∧ r.op = c % 8 ∧ r.tag = c / 2 ^ 32 % 2 ^ 16 ∧
        r.parts = [(coreQuad v.core, v.y.scalarVal la)] ∧ r.closed = false ∧ t.warp v.r.g v.r.w = some y ∧ sameRegisters y v.y ∧
        y.slot v.r.slot = some f ∧ f.arrived = some (.cred v.s.uid) ∧ f.pc = v.f.pc))) ∧
  (∀ (s : State) (id : Nat) (r : Reduction), tget s.reds id = some r → r.closed = true → (r.waiters.map (fun m => (m.1, m.2.1))).Nodup →
    let waits := fun (m : Nat × Nat × Bool × Option (Fin 32)) (y : Warp) (f : Frag) => ∃ x, s.group m.1 = some x ∧ x.st = .resident ∧
      s.warp m.1 m.2.1 = some y ∧ y.slot m.2.2.1 = some f ∧ f.arrived = some (.cred id) ∧ f.replays = [] ∧ y.kept = none
    ∃ t, exec (.reductionResult id) s = .next t ∧ t.mem = s.mem ∧ ((∀ m ∈ r.waiters, ∃ y f, waits m y f) → tget t.reds id = none) ∧
      ∀ m ∈ r.waiters, ∀ y f, waits m y f → ∃ y' f', t.warp m.1 m.2.1 = some y' ∧ y'.slot m.2.2.1 = some f' ∧ f'.pc = f.pc + 4 ∧ f'.arrived = none ∧
        y'.s = (match m.2.2.2 with
          | some i => y.s.set i { val := r.result s.tick, fill := .full }
          | none => y.s)) ∧
  (∀ (r : Reduction) (n : Nat) (q : Nat) (z : DWord) (l : List (Nat × DWord)), r.mixed = false → r.parts = (q, z) :: l →
    (r.op = 0 → r.result n = l.foldl (fun acc e => acc + e.2) z) ∧ (r.op = 3 → r.result n = l.foldl (fun acc e => acc &&& e.2) z) ∧
    (r.op = 1 → ∀ e ∈ r.parts, if r.signed then (r.result n).toInt ≤ e.2.toInt else (r.result n).toNat ≤ e.2.toNat) ∧
    (r.op = 2 → ∀ e ∈ r.parts, if r.signed then e.2.toInt ≤ (r.result n).toInt else e.2.toNat ≤ (r.result n).toNat) ∧
    (r.op = 1 ∨ r.op = 2 → r.result n ∈ r.parts.map (·.2)) ∧
    (r.op = 4 → r.result n = l.foldl (fun acc e => acc ||| e.2) z) ∧ (r.op = 5 → r.result n = l.foldl (fun acc e => acc ^^^ e.2) z)))

open Sys2Proof Sys2Proof.Machine in
/-- 13 R310, R311: RDTIM returns the reference timer in nanoseconds, RDCYC the whole cycles of the counter of the core's die; nothing else changes. -/
def Obligations.ClockResults : Prop :=
  ∀ (s : State) (v : View) (d : Opnd) (ld : Loc), Issues s v → v.Dst kSZ false d ld →
    exec (.rdtim d) s = .next (v.done (v.put (v.y.setScalar ld v.s.life.timer))) ∧
    exec (.rdcyc d) s = .next (v.done (v.put (v.y.setScalar ld (BitVec.ofNat 64 (v.s.life.cyc[Fin.ofNat 4 (coreDie v.core)] / 10)))))


namespace Sys2Proof.Machine

/-! ## Queues, signals and records (06 R121 to R130, 17 R384 to R403) -/

/-- A scalar source of a queue or record instruction: its value. -/
def View.Val (v : View) (k : Kinds) (o : Opnd) (x : Nat) : Prop := ∃ l, v.Src k false o l ∧ (v.y.scalarVal l).toNat = x

/-- 06 R124, 19 R435: an access of n bytes at a pointer lies at `pa`, through an entry `e` of the tables, and the bytes there are good. -/
def View.Lies (v : View) (p n : Nat) (write : Bool) (pa e : Nat) : Prop :=
  v.s.ptrTo v.core v.c (decide (v.y.plvl = 0)) p n write = .ok pa e ∧ v.s.engBad pa n = false

/-- 06 R124, 19 R435: where the access of n bytes at a pointer fails, by its translation or by uncorrectable data, every lane of the fragment fails with the
cause, and the instruction has no effect. -/
def View.stumbles (v : View) (p n : Nat) (write : Bool) (i : Instr) (s : State) : Prop :=
  (∀ c, v.s.ptrTo v.core v.c (decide (v.y.plvl = 0)) p n write = .fail c → exec i s = .next (v.finish (v.accessFail c p write))) ∧
  (∀ pa e, v.s.ptrTo v.core v.c (decide (v.y.plvl = 0)) p n write = .ok pa e → v.s.engBad pa n = true →
    exec i s = .next (v.finish (v.accessFail 0x17 p write)))

/-- 14 R334: a release of the fragment has nothing to wait for. -/
def View.Free (v : View) : Prop := v.s.releaseWaits v.r.g v.r.w v.f.mask = false

/-- The instruction completes in a state in which its warp is `y` and memory is that of `m`. -/
def Leaves (s : State) (v : View) (i : Instr) (y : Warp) (m : State) : Prop :=
  ∃ (t : State), exec i s = .next (v.finish (.ok t)) ∧ t.warp v.r.g v.r.w = some y ∧ t.mem = m.mem

/-- 08 R150: the fragment waits at the instruction on an event. -/
def Parks (s : State) (v : View) (i : Instr) : Prop := exec i s = .next ((s.setStatus v.r (.blocked true)).parkCheck v.r.g v.r.w)

/-- 17 R389: the record of a warp in stage: binding, slot and record as the tables hold them. -/
structure InStage (s : State) (v : View) (id slot : Nat) (b : Binding) (r : Rec) : Prop where
  /-- it issues -/
  issues : Issues s v
  /-- held -/
  held : v.y.held = some { bind := id, slot := slot }
  /-- the binding -/
  binding : tget v.s.binds id = some b
  /-- the record -/
  record : tget b.recs slot = some r
  /-- INSTAGE -/
  stage : r.st = .instage
  /-- by the warp -/
  holder : r.by_ = some (v.r.g, v.r.w)
  /-- no RPASS waits for its commit -/
  idle : r.waiter = none
  /-- no commit is waited for -/
  going : ∀ k, v.f.arrived ≠ some (.answer k)

end Sys2Proof.Machine


open Sys2Proof Sys2Proof.Machine in
/-- 06 R121 to R130: QPUSH, the word queues and the signals. 06 R125: QPUSH to a queue of its context with room stores the 64-byte packet at the ring's tail, raises TAIL and returns 0; a full queue returns 1 and
one that takes nothing returns 2, with no other effect. In stage it traps with STAGEFX, and it waits for the warp's earlier accesses. The privilege of its
store into the ring, and what a failure of that store does, are log entry 58. 06 R117, R126 to R130, 03 R67: QMAP and QUNMAP map and free one of s28 to s31, which holds the last word popped into it once it is mapped no more; QSIG
adds to the counter, keeping its error bit, and one of another node is sent there; QWAIT goes on once the counter has reached the threshold, and else
waits; QATTACH and QDETACH count producers; QWR puts a word at the tail, and waits while the ring is full. A misaligned address traps with ALIGN, QSIG and
QWR in stage with STAGEFX; a release waits for earlier accesses, and an access that cannot be made fails every lane. -/
def Obligations.LaunchQueueInstructionResults : Prop :=
  (∀ (s : State) (v : View) (d a b : Opnd) (i : Fin 32) (qi p pa e : Nat) (wa wb : Bool), Issues s v → v.Dst kS false d (.sca i) → v.Val kS a qi →
    v.Val kS b p →
    let qpush := Instr.qpush d a b wa wb
    (255 < qi → exec (.qpush d a b wa wb) s = v.trapped 0x02 0 v.f.mask) ∧
    (qi ≤ 255 → p % 64 ≠ 0 → exec (.qpush d a b wa wb) s = v.trapped 0x0B p v.f.mask) ∧
    (qi ≤ 255 → p % 64 = 0 → v.y.held.isSome = true → exec qpush s = v.trapped 0x15 0 v.f.mask) ∧
    (qi ≤ 255 → p % 64 = 0 → v.y.held = none → v.s.releaseWaits v.r.g v.r.w (BitVec.allOnes 32) = true → exec qpush s = v.waiting false) ∧
    (qi ≤ 255 → p % 64 = 0 → v.y.held = none → v.s.releaseWaits v.r.g v.r.w (BitVec.allOnes 32) = false → v.stumbles p 64 false qpush s) ∧
    (qi ≤ 255 → p % 64 = 0 → v.y.held = none → v.s.releaseWaits v.r.g v.r.w (BitVec.allOnes 32) = false → v.Lies p 64 false pa e →
      let k : Fin 256 := Fin.ofNat 256 qi
      let q := v.s.queues[k]
      let open_ := q.st ≠ .unbound ∧ q.st ≠ .error ∧ cfin q.ctx = v.c ∧ (v.s.ctxs[v.c]).st.runs = true
      (¬open_ → Leaves s v (.qpush d a b wa wb) (v.y.setS i 2) v.s) ∧
      (open_ → (q.tail - q.head).toNat = q.size → Leaves s v (.qpush d a b wa wb) (v.y.setS i 1) v.s) ∧
      let va := q.base.toNat + 64 * (q.tail.toNat % max q.size 1)
      (∀ c, open_ → (q.tail - q.head).toNat ≠ q.size → v.s.xlate v.c va true false = .fail c →
        exec qpush s = .next (v.finish (({ v with s := v.s.tlbFill v.core v.c (p % 2 ^ 56) e } : View).accessFail c va true))) ∧
      (∀ pt z, open_ → (q.tail - q.head).toNat ≠ q.size → v.s.xlate v.c va true false = .ok pt z →
        ∃ (t : State) (q' : Queue), exec (.qpush d a b wa wb) s = .next (v.finish (.ok t)) ∧ t.warp v.r.g v.r.w = some (v.y.setS i 0) ∧
          t.mem = (v.s.engPutBytes pt ((List.range 64).map (fun j => v.s.engByte (pa + j)))).mem ∧
          t.queues = v.s.queues.set k q' ∧ q'.tail = q.tail + 1 ∧ q'.head = q.head ∧
          q'.st = (if q.st = .idle ∧ q.tail + 1 ≠ q.head then .active else q.st)))) ∧
  (∀ (s : State) (v : View) (a b : Opnd) (p x pa e : Nat) (wa wb : Bool), Issues s v → v.Val kS a p →
    (∀ (k : Fin 4),
      let i : Fin 32 := Fin.ofNat 32 (28 + k.val)
      let back := v.y.s.set i { val := v.y.popped[k], fill := .full }
      (p % 128 = 0 → v.y.s[i].fill ≠ .empty →
        let map := v.y.qmap.set k (some (BitVec.ofNat 64 p))
        (v.y.qmap[k] = none → exec (.qmap (.s i) a wa) s =
          .next (v.done (v.put { v.y with qmap := map, popped := v.y.popped.set k v.y.s[i].val }))) ∧
        (v.y.qmap[k] ≠ none → exec (.qmap (.s i) a wa) s = .next (v.done (v.put { v.y with qmap := map, s := back })))) ∧
      (v.y.qmap[k] = none → exec (.qunmap (.s i)) s = .next (v.done (v.put v.y))) ∧
      (v.y.qmap[k] ≠ none → exec (.qunmap (.s i)) s = .next (v.done (v.put { v.y with qmap := v.y.qmap.set k none, s := back })))) ∧
    (∀ i : Fin 32, i.val < 28 → exec (.qmap (.s i) a wa) s = v.trapped 0x02 0 v.f.mask ∧ exec (.qunmap (.s i)) s = v.trapped 0x02 0 v.f.mask) ∧
    (∀ i : Fin 32, 28 ≤ i.val → p % 128 ≠ 0 → exec (.qmap (.s i) a wa) s = v.trapped 0x0B p v.f.mask) ∧
    (p % 128 ≠ 0 → exec (.qattach a wa) s = v.trapped 0x0B p v.f.mask ∧ exec (.qdetach a wa) s = v.trapped 0x0B p v.f.mask ∧
      (v.Val kSC b x → exec (.qwr a b wa wb) s = v.trapped 0x0B p v.f.mask)) ∧
    (p % 8 ≠ 0 → (v.Val kSC b x → exec (.qsig a b wa wb) s = v.trapped 0x0B p v.f.mask) ∧
      (v.Val kS b x → exec (.qwait a b wa wb) s = v.trapped 0x0B p v.f.mask)) ∧
    (v.Val kSC b x → v.y.held.isSome = true → (p % 8 = 0 → exec (.qsig a b wa wb) s = v.trapped 0x15 p v.f.mask) ∧
      (p % 128 = 0 → exec (.qwr a b wa wb) s = v.trapped 0x15 p v.f.mask)) ∧
    (p % 128 = 0 → ¬v.Free → exec (.qdetach a wa) s = v.waiting false ∧
      (v.Val kSC b x → v.y.held = none → exec (.qwr a b wa wb) s = v.waiting false)) ∧
    (v.Val kSC b x → p % 8 = 0 → v.y.held = none → ¬(v.Free ∧ v.s.remoteOpen v.r.g v.r.w = false) → exec (.qsig a b wa wb) s = v.waiting false) ∧
    (v.Val kSC b x → p % 8 = 0 → v.y.held = none → v.Free → v.s.remoteOpen v.r.g v.r.w = false → v.stumbles p 8 true (.qsig a b wa wb) s) ∧
    (v.Val kS b x → p % 8 = 0 → v.stumbles p 8 false (.qwait a b wa wb) s) ∧
    (p % 128 = 0 → (v.y.attach.length < 4 → v.stumbles p 128 true (.qattach a wa) s) ∧
      (v.Free → BitVec.ofNat 64 p ∈ v.y.attach → v.stumbles p 128 true (.qdetach a wa) s) ∧
      (v.Val kSC b x → v.y.held = none → v.Free → v.stumbles p 128 true (.qwr a b wa wb) s)) ∧
    (v.Val kSC b x → p % 8 = 0 → v.y.held = none → v.Free → v.s.remoteOpen v.r.g v.r.w = false → v.Lies p 8 true pa e →
      (v.s.isLocal pa = true → ∃ n, Leaves s v (.qsig a b wa wb) v.y (v.s.engPutBytes pa (leBytes 8 n)) ∧ n < 2 ^ 64 ∧
        n % 2 ^ 63 = (v.s.engRd pa 8 + x) % 2 ^ 63 ∧ (2 ^ 63 ≤ n ↔ 2 ^ 63 ≤ v.s.engRd pa 8 ∨ 2 ^ 63 ≤ x)) ∧
      (v.s.isLocal pa = false → ∀ u, ({ v with s := v.s.tlbFill v.core v.c (p % 2 ^ 56) e } : View).sendSignal pa x = .ok u →
        exec (.qsig a b wa wb) s = .next (v.done u))) ∧
    (v.Val kS b x → p % 8 = 0 → v.Lies p 8 false pa e →
      (x ≤ v.s.engRd pa 8 → Leaves s v (.qwait a b wa wb)
        { v.y with flags := setZNCV v.y.flags (decide (2 ^ 63 ≤ v.s.engRd pa 8)) false false false } v.s) ∧
      (v.s.engRd pa 8 < x → Parks s v (.qwait a b wa wb))) ∧
    (p % 128 = 0 → v.Lies p 128 true pa e →
      (v.y.attach.length < 4 → Leaves s v (.qattach a wa)
        { v.y with attach := v.y.attach ++ [BitVec.ofNat 64 p], flags := setZ v.y.flags false }
        (v.s.engPutBytes (pa + 20) (leBytes 4 (v.s.engRd (pa + 20) 4 + 1)))) ∧
      (BitVec.ofNat 64 p ∈ v.y.attach → v.Free → Leaves s v (.qdetach a wa)
        { v.y with attach := v.y.attach.erase (BitVec.ofNat 64 p), flags := setZ v.y.flags false }
        (v.s.engPutBytes (pa + 20) (leBytes 4 (v.s.engRd (pa + 20) 4 + 2 ^ 32 - 1))))) ∧
    (4 ≤ v.y.attach.length → p % 128 = 0 → exec (.qattach a wa) s = v.trapped 0x01 0 v.f.mask) ∧
    (p % 128 = 0 → BitVec.ofNat 64 p ∉ v.y.attach → v.Free →
      Leaves s v (.qdetach a wa) { v.y with flags := setZ v.y.flags true } v.s) ∧
    (v.Val kSC b x → p % 128 = 0 → v.y.held = none → v.Free → v.Lies p 128 true pa e →
      let h := v.s.qHdr pa
      ((h.tail + 2 ^ 64 - h.head) % 2 ^ 64 = h.cap → Parks s v (.qwr a b wa wb)) ∧
      (∀ pw e2, (h.tail + 2 ^ 64 - h.head) % 2 ^ 64 ≠ h.cap →
        ({ v with s := v.s.tlbFill v.core v.c (p % 2 ^ 56) e } : View).Lies (p + 128 + 8 * (h.tail % max h.cap 1)) 8 true pw e2 →
        Leaves s v (.qwr a b wa wb) v.y ((v.s.engPutBytes pw (leBytes 8 x)).engPutBytes (pa + 8) (leBytes 8 (h.tail + 1))))))


open Sys2Proof Sys2Proof.Machine in
/-- 17 R385, R397 to R403: the record instructions. 17 R385, R397, R399, R400: RINJ copies CNT payloads into free slots and makes records of them with rising SEQ from that of the set on, which it returns,
and closes the set when CLOSE says so;
RTAKE gives the warp the QUEUED record of lowest SEQ that its selector takes, and at a dry set returns 0 with EOS. RINJ of a word that is none traps with
ILLOPND, at a closed set with ILLOP, in stage with STAGEFX, and without slots with HEAPFULL or waits for them; RTAKE of a warp that holds a record traps with
ILLOP, of a stage that is none with IDXBOUND. 17 R401 to R403: RPASS marks the stage done and queues the record for its next stage, or starts its commit after the last; RDROP ends the record;
REFF appends an effect; each traps with ILLOP when the warp holds no record. RPASS and RDROP wait for the fragment's earlier accesses; REFF of a size above 16
bytes traps with ILLOPND, of an address above 60 bits with PGPROT, and of a misaligned one with ALIGN. RSTAT returns a snapshot word of the set. -/
def Obligations.RecordInstructionResults : Prop :=
  (∀ (s : State) (v : View) (d a b : Opnd) (ld : Loc) (x z : Nat) (wa wb : Bool), Issues s v → v.Dst kSxZ false d ld → v.Val kSx a x →
    (v.Val kSx b z →
      let rinj := Instr.rinj d a b wa wb
      let cnt := x / 2 ^ 8 % 2 ^ 8
      let sound := x % 2 ^ 63 < 2 ^ 16 ∧ x / 16 % 16 = 0 ∧ cnt ≤ 64
      (¬sound → exec rinj s = v.trapped 0x02 0 v.f.mask) ∧
      (sound → (∀ l, v.stageSet (x % 16) ≠ .ok l) → exec rinj s = v.trapped 0x02 0 v.f.mask) ∧
      (∀ stages id bd, sound → v.stageSet (x % 16) = .ok stages → v.bindFor (x % 16) stages = .ok (id, bd) →
        (cnt = 0 → x < 2 ^ 63 → exec rinj s = v.trapped 0x02 0 v.f.mask) ∧
        (1 ≤ cnt ∨ 2 ^ 63 ≤ x →
          (bd.closed = true → exec rinj s = v.trapped 0x01 0 v.f.mask) ∧
          (bd.closed = false → v.y.held.isSome = true → exec rinj s = v.trapped 0x15 0 v.f.mask) ∧
          (bd.closed = false → v.y.held = none → ¬v.Free → exec rinj s = v.waiting false) ∧
          (bd.closed = false → v.y.held = none → v.Free → bd.slots < cnt → exec rinj s = v.trapped 0x0D 0 v.f.mask) ∧
          (bd.closed = false → v.y.held = none → v.Free → cnt ≤ bd.slots → (v.s.freeSlotsOf id bd cnt).length < cnt →
            (bd.keep = true → exec rinj s = v.trapped 0x0D 0 v.f.mask) ∧ (bd.keep = false → exec rinj s = v.waiting false))))) ∧
    (∀ stages id bd bytes u, v.Val kSx b z →
      let cnt := x / 2 ^ 8 % 2 ^ 8
      x % 2 ^ 63 < 2 ^ 16 → x / 16 % 16 = 0 → cnt ≤ 64 → 1 ≤ cnt ∨ 2 ^ 63 ≤ x → v.stageSet (x % 16) = .ok stages → v.bindFor (x % 16) stages = .ok (id, bd) →
      bd.closed = false → v.y.held = none → v.Free → cnt ≤ bd.slots →
      let slots := v.s.freeSlotsOf id bd cnt
      cnt ≤ slots.length → v.readBytes (cnt + 2) z (64 * bd.psize * cnt) = .ok bytes →
      (v.put (v.y.setScalar ld (BitVec.ofNat 64 bd.seq))).fillSlots bd slots bytes = .ok u →
      ∃ (t : State) (b' : Binding), exec (.rinj d a b wa wb) s = .next (v.finish (.ok (t.flush v.c))) ∧
        t.warp v.r.g v.r.w = some (v.y.setScalar ld (BitVec.ofNat 64 bd.seq)) ∧ tget t.binds id = some b' ∧ b'.seq = bd.seq + cnt ∧
        b'.recs.length = bd.recs.length + cnt ∧ b'.closed = decide (2 ^ 63 ≤ x) ∧ t.mem = u.mem) ∧
    (∀ stages id bd, v.Val kSxC b z → v.stageSet x = .ok stages → v.s.findBind v.x.launch x = some (id, bd) → tget v.s.binds id = some bd →
      (stages.length ≤ z → z ≠ 2 ^ 64 - 1 → exec (.rtake d a b wa wb) s = v.trapped 0x04 z v.f.mask) ∧
      (z < stages.length ∨ z = 2 ^ 64 - 1 → v.y.held.isSome = true → exec (.rtake d a b wa wb) s = v.trapped 0x01 0 v.f.mask)) ∧
    (∀ stages id bd, v.Val kSxC b z → v.stageSet x = .ok stages → v.s.findBind v.x.launch x = some (id, bd) → tget v.s.binds id = some bd →
      z < stages.length ∨ z = 2 ^ 64 - 1 → v.y.held = none →
      let sel := if z < stages.length then some z else none
      (∀ slot r, bd.dry = false → v.s.offer bd sel = some (slot, r) →
        (∀ k ∈ bd.takers, k.is v.r v.pc = true ∨ v.s.servable bd k.stage (slot, r) = false) →
        ∃ (t : State) (b' : Binding) (r' : Rec), exec (.rtake d a b wa wb) s = .next (v.finish (.ok (t.flush (cfin bd.ctx)))) ∧ tget t.binds id = some b' ∧
          tget b'.recs slot = some r' ∧ r'.st = .instage ∧ r'.by_ = some (v.r.g, v.r.w) ∧ r'.seq = r.seq ∧ r'.effects = r.effects ∧ r'.done = r.done ∧
          t.warp v.r.g v.r.w = some { (v.y.setScalar ld (BitVec.ofNat 64 (bd.handle slot r))) with held := some { bind := id, slot := slot } } ∧
          t.mem = v.s.mem) ∧
      (bd.dry = true →
        (mXtrap v.y.mode = true → exec (.rtake d a b wa wb) s = v.trapped 0x16 0 v.f.mask) ∧
        (mXtrap v.y.mode = false → Leaves s v (.rtake d a b wa wb) { (v.y.setScalar ld 0) with flags := v.y.flags ||| 0x10#8 } v.s)) ∧
      (bd.dry = false → v.s.offer bd sel = none → (∀ k ∈ bd.takers, k.is v.r v.pc = false) → 4096 ≤ v.s.waitingAt bd.home →
        exec (.rtake d a b wa wb) s = v.waiting false) ∧
      (bd.dry = false →
        (v.s.offer bd sel = none ∧ (v.s.waitingAt bd.home < 4096 ∨ ∃ k ∈ bd.takers, k.is v.r v.pc = true)) ∨
          (∃ q, v.s.offer bd sel = some q ∧ ∃ k ∈ bd.takers.takeWhile (fun k => !k.is v.r v.pc), v.s.servable bd k.stage q = true) →
        ∃ (t : State), exec (.rtake d a b wa wb) s = .next ((t.setStatus v.r (.blocked true)).parkCheck v.r.g v.r.w) ∧ t.mem = s.mem ∧ t.groups = s.groups)) ∧
    (v.Val kSxC b z → (∀ l, v.stageSet x ≠ .ok l) → exec (.rtake d a b wa wb) s = v.trapped 0x02 0 v.f.mask) ∧
    (∀ stages, v.Val kSxC b z → v.stageSet x = .ok stages → v.s.findBind v.x.launch x = none →
      exec (.rtake d a b wa wb) s = v.trapped 0x02 x v.f.mask)) ∧
  ((∀ (s : State) (v : View) (id slot : Nat) (b : Binding) (r : Rec), InStage s v id slot b r → ¬v.Free →
    exec .rpass s = v.waiting false ∧ exec .rdrop s = v.waiting false) ∧
  (∀ (s : State) (v : View) (n p x : Nat) (a o : Opnd) (wa wb : Bool), Issues s v → v.Val kSx a p → v.Val kSx o x →
    (4 < n → n < 128 → exec (.reff (BitVec.ofNat 7 n) a o wa wb) s = v.trapped 0x02 0 v.f.mask) ∧
    (n < 4 → v.y.held = none → exec (.reff (BitVec.ofNat 7 n) a o wa wb) s = v.trapped 0x01 0 v.f.mask) ∧
    (∀ id slot b r, n < 4 → InStage s v id slot b r →
      (2 ^ 60 ≤ p → exec (.reff (BitVec.ofNat 7 n) a o wa wb) s = v.trapped 0x08 p v.f.mask) ∧
      (p < 2 ^ 60 → p % 2 ^ n ≠ 0 → exec (.reff (BitVec.ofNat 7 n) a o wa wb) s = v.trapped 0x0B p v.f.mask))) ∧
  (∀ (s : State) (v : View) (id slot : Nat) (b : Binding) (r : Rec), InStage s v id slot b r → v.Free →
    let k := r.cur.getD 0
    let past := r.done ||| BitVec.ofNat 8 (2 ^ k)
    let ended := (List.range b.stages.length).all (fun j => past.getLsbD j)
    (ended = false → ∃ (t : State) (b' : Binding) (r' : Rec), exec .rpass s = .next (v.finish (.ok (t.flush v.c))) ∧
      t.warp v.r.g v.r.w = some { v.y with held := none, flags := setZNCV v.y.flags false false false false } ∧ tget t.binds id = some b' ∧
      tget b'.recs slot = some r' ∧ r'.st = .queued ∧ r'.done = past ∧ r'.by_ = none ∧ r'.effects = r.effects ∧ t.mem = v.s.mem) ∧
    (ended = true → ∃ (t : State) (b' : Binding) (r' : Rec), exec .rpass s = .next (((t.flush v.c).setStatus v.r (.blocked false)).parkCheck v.r.g v.r.w) ∧
      tget t.binds id = some b' ∧ tget b'.recs slot = some r' ∧ r'.st = .committing ∧ r'.done = past ∧ r'.effects = r.effects ∧
      r'.waiter = some (v.r.g, v.r.w, v.r.slot) ∧ t.mem = s.mem) ∧
    (∃ (t : State) (b' : Binding) (r' : Rec), exec .rdrop s = .next (v.finish (.ok (t.recFlush v.c id slot))) ∧
      t.warp v.r.g v.r.w = some { v.y with held := none, flags := setZNCV v.y.flags true false false false } ∧ tget t.binds id = some b' ∧
      b'.nDropped = b.nDropped + 1 ∧ b'.nDone = b.nDone ∧ tget b'.recs slot = some r' ∧ r'.st = .dropped ∧ r'.cause = 0 ∧ r'.effects = [] ∧
      t.mem = v.s.mem)) ∧
  (∀ (s : State) (v : View) (id slot n p x : Nat) (b : Binding) (r : Rec) (a o : Opnd) (wa wb : Bool), InStage s v id slot b r → n < 4 → v.Val kSx a p →
    v.Val kSx o x → p < 2 ^ 60 → p % 2 ^ n = 0 →
    (r.effects.length < 8 → ∃ (t : State) (b' : Binding), exec (.reff (BitVec.ofNat 7 n) a o wa wb) s = .next (v.finish (.ok (t.flush v.c))) ∧ tget t.binds id = some b' ∧
      tget b'.recs slot = some { r with effects := r.effects ++ [{ addr := BitVec.ofNat 64 p, data := BitVec.ofNat 128 x, size := 2 ^ n, stage := r.cur.getD 0 }] } ∧
      t.warp v.r.g v.r.w = some v.y ∧ t.mem = v.s.mem) ∧
    (∀ (i : Fin 32) (z : Nat), o = .s i → i.val < 31 → v.Val kSx (.s (Fin.ofNat 32 (i.val + 1))) z → p % 16 = 0 → r.effects.length < 8 →
      ∃ (t : State) (b' : Binding), exec (.reff 4 a o wa wb) s = .next (v.finish (.ok (t.flush v.c))) ∧ tget t.binds id = some b' ∧
        tget b'.recs slot =
          some { r with effects := r.effects ++ [{ addr := BitVec.ofNat 64 p, data := BitVec.ofNat 128 (x + 2 ^ 64 * z), size := 16, stage := r.cur.getD 0 }] } ∧
        t.warp v.r.g v.r.w = some v.y ∧ t.mem = v.s.mem) ∧
    (8 ≤ r.effects.length → exec (.reff (BitVec.ofNat 7 n) a o wa wb) s = v.trapped 0x15 0 v.f.mask)) ∧
  (∀ (s : State) (v : View), Issues s v → v.y.held = none → (∀ k, v.f.arrived ≠ some (.answer k)) →
    exec .rpass s = v.trapped 0x01 0 v.f.mask ∧ exec .rdrop s = v.trapped 0x01 0 v.f.mask) ∧
  (∀ (s : State) (v : View) (d a b : Opnd) (ld : Loc) (j k : Nat) (wa wb : Bool) (stages : List (Nat × Nat)), Issues s v → v.Dst kSxZ false d ld →
    v.Val kSx a j → v.Val kSxZ1 b k → ((∀ l, v.stageSet j ≠ .ok l) → exec (.rstat d a b wa wb) s = v.trapped 0x02 0 v.f.mask) ∧ (v.stageSet j = .ok stages →
    (11 < k → exec (.rstat d a b wa wb) s = v.trapped 0x04 k v.f.mask) ∧
    (k ≤ 11 → v.s.findBind v.x.launch j = none → exec (.rstat d a b wa wb) s = .next (v.done (v.put (v.y.setScalar ld 0)))) ∧
    (∀ id bd, k ≤ 11 → v.s.findBind v.x.launch j = some (id, bd) → ∃ w : DWord, exec (.rstat d a b wa wb) s = .next (v.done (v.put (v.y.setScalar ld w))) ∧
      (k < 8 → bd.stages.length ≤ k → w = 0) ∧ (k = 8 → bits w 63 48 = bd.l.toNat ∧ bits w 47 32 = bd.window % 2 ^ 16 ∧ bits w 31 0 = bd.seq % 2 ^ 32) ∧
      (k = 9 → bits w 63 32 = bd.nDone % 2 ^ 32 ∧ bits w 31 0 = bd.nDropped % 2 ^ 32) ∧ (k = 10 → w = BitVec.ofNat 64 bd.pool) ∧
      (k = 11 → w = BitVec.ofNat 64 (bd.recs.filter (fun e => decide (e.2.st = .queued) || decide (e.2.st = .instage))).length)))))

open Sys2Proof Sys2Proof.Machine in
/-- 17 R392, R394, R397, 06 R128: RECORD_ASSIGNMENT gives the oldest served request its record; WINDOW_CLOSE opens the next window; RECORD_COMMIT stores
the effects in stage order and the record is DONE; QWAIT_RECHECK lets a waiting QWAIT issue again. -/
def Obligations.DraughtEvents : Prop :=
  (∀ (s : State) (id : Nat) (b : Binding) (k : Taker) (rest : List Taker) (slot : Nat) (r : Rec) (y : Warp) (dst : Option (Fin 32)), tget s.binds id = some b →
    (s.ctxs[cfin b.ctx]).st = .running → b.takers = k :: rest → s.offer b k.stage = some (slot, r) → s.warp k.g k.w = some y → y.held = none →
    y.standsAt k.slot k.pc = true → k.dst = dst →
    ∃ (t : State) (y' : Warp) (b' : Binding) (r' : Rec), exec (.recordAssignment id) s = .next (t.flush (cfin b.ctx)) ∧ t.warp k.g k.w = some y' ∧
      y'.held = some { bind := id, slot := slot } ∧ y'.s = (match dst with
        | some i => y.s.set i { val := BitVec.ofNat 64 (b.handle slot r), fill := .full }
        | none => y.s) ∧
      tget t.binds id = some b' ∧ tget b'.recs slot = some r' ∧ r'.st = .instage ∧ r'.by_ = some (k.g, k.w) ∧ t.mem = s.mem) ∧
  (∀ (s : State) (id : Nat) (b : Binding), tget s.binds id = some b → b.closable = true →
    ∃ (t : State) (b' : Binding), exec (.windowClose id) s = .next (t.flush (cfin b.ctx)) ∧ tget t.binds id = some b' ∧ b'.window = b.window + 1 ∧
      b'.weights.length = b.weights.length + 1 ∧ b'.seq = b.seq ∧ t.groups = s.groups ∧ t.mem = s.mem) ∧
  (∀ (s : State) (id slot : Nat) (b : Binding) (r : Rec) (l : List (Nat × Effect)), tget s.binds id = some b → tget b.recs slot = some r →
    r.st = .committing → (s.ctxs[cfin b.ctx]).st.works = true → s.effectsTo (cfin b.ctx) (b.home / 4) r.effects = .ready l →
    ∃ (t : State) (b' : Binding) (r' : Rec), exec (.recordCommit id slot) s = .next (t.recFlush (cfin b.ctx) id slot) ∧ tget t.binds id = some b' ∧
      b'.nDone = b.nDone + 1 ∧ b'.nDropped = b.nDropped ∧ tget b'.recs slot = some r' ∧ r'.st = .done ∧
      t.mem = ((((List.range 8).map (fun k => l.filter (fun e => e.2.stage == k))).flatten).foldl (fun u e =>
        u.engPutBytes e.1 (leBytes e.2.size e.2.data.toNat)) s).mem) ∧
  (∀ (s : State) (g w : Nat) (slot : Bool) (v : View) (k : Kernel) (x : Word) (a b : Opnd) (wa wb : Bool),
    s.viewOf { g := g, w := w, slot := slot } = some v → v.kernel = some k → s.fetchAt v.core v.c k v.y.plvl v.pc = .word x →
    decodeWord x = .ok (.qwait a b wa wb) → v.f.status = .blocked true →
    ∃ (t : State) (y : Warp), exec (.qwaitRecheck g w slot) s = .next t ∧ t.warp g w = some y ∧ y.slot slot = some { v.f with status := .ready } ∧ y.sched ≠ .parked ∧
      t.mem = s.mem)


namespace Sys2Proof.Machine

/-! ## Contexts, queues, launches and groups as the host and the device drive them (05 R97 to R103, 06 R112 to R120, 07 R131 to R141, 08 R143 to R164) -/

/-- The state with one queue replaced. -/
def State.withQueue (s : State) (q : Fin 256) (x : Queue) : State := { s with queues := s.queues.set q x }

end Sys2Proof.Machine

open Sys2Proof Sys2Proof.Machine in
/-- 05 R97 to R103: on a READY device, CREATE, COMMIT, SUSPEND, RESUME, DESTROY and RELEASE move a context as the state table says, and a command that it
does not list sets ERR to BADCMD; a DRAINING context with nothing in flight is DEAD; SAVEPOOL and descriptors take writes only while they may.
On a device that is not READY the commands change nothing (20 R440). -/
def Obligations.ContextCommandResults : Prop :=
  (∀ (s : State) (c : Fin 64) (cmd : BitVec 3), s.life.stat ≠ .ready → exec (.create c) s = .next s ∧ exec (.commit c) s = .next s ∧
    exec (.suspend c) s = .next s ∧ exec (.resume c) s = .next s ∧ exec (.destroy c) s = .next s ∧ exec (.release c) s = .next s ∧
    exec (.ctxcmdBadcmd c cmd) s = .next s) ∧
  ∀ (s : State) (c : Fin 64), s.life.stat = .ready →
    let x := s.ctxs[c]
    (x.st = .free → ∃ t, exec (.create c) s = .next t ∧ (t.ctxs[c]).st = .building ∧ (t.ctxs[c]).err = 0 ∧ (∀ d, d ≠ c → t.ctxs[d] = s.ctxs[d]) ∧
      (Memory.wf s.bar0 = true → ∀ a, Memory.get t.bar0 a = if descAt c ≤ a ∧ a < descAt c + 128 then 0 else Memory.get s.bar0 a)) ∧
    (x.st = .building → ∃ t, exec (.commit c) s = .next t ∧
      (s.descOk c = true → s.saveUsed + s.bar (descAt c + 0x28) 8 ≤ s.life.savepool →
        (notifyOk (s.bar (descAt c + 0x60) 8) = true →
          (t.ctxs[c]).st = .ready ∧ (t.ctxs[c]).err = 0 ∧ (t.ctxs[c]).ptroot = s.bar (descAt c) 8 ∧ (t.ctxs[c]).tvec = s.bar (descAt c + 0x18) 8 ∧
          (t.ctxs[c]).savesize = s.bar (descAt c + 0x28) 8 ∧ (t.ctxs[c]).quantum = s.bar (descAt c + 0x54) 4) ∧
        (notifyOk (s.bar (descAt c + 0x60) 8) = false → (t.ctxs[c]).st = .faulted)) ∧
      (s.descOk c = false → t.ctxs[c] = { x with err := 2 }) ∧
      (s.descOk c = true → s.life.savepool < s.saveUsed + s.bar (descAt c + 0x28) 8 → t.ctxs[c] = { x with err := 3 })) ∧
    (x.st = .ready → ∃ t, exec (.suspend c) s = .next t ∧ (t.ctxs[c]).st = .suspended) ∧
    (x.st = .running → (∃ e ∈ s.groups, cfin e.2.ctx = c ∧ e.2.onCore = true) →
      ∃ t, exec (.suspend c) s = .next t ∧ (t.ctxs[c]).st = .running ∧ (t.ctxs[c]).suspending = true ∧
        ∀ e ∈ t.groups, cfin e.2.ctx = c → e.2.st ≠ .resident) ∧
    (x.st = .suspended → ∃ t, exec (.resume c) s = .next t ∧
      (t.ctxs[c]).st = if s.groups.any (fun e => decide (cfin e.2.ctx = c) && (decide (e.2.st = .saved) || decide (e.2.st = .waiting))) then .running else .ready) ∧
    (x.st = .building → ∃ t, exec (.destroy c) s = .next t ∧ (t.ctxs[c]).st = .free) ∧
    (x.st = .ready ∨ x.st = .running ∨ x.st = .suspended ∨ x.st = .faulted →
      ∃ t, exec (.destroy c) s = .next t ∧ (∀ q : Fin 256, cfin (t.queues[q]).ctx = c → (t.queues[q]).st = .unbound) ∧ (t.ctxs[c]).st = .draining) ∧
    (x.st = .dead → ∃ t, exec (.release c) s = .next t ∧ (t.ctxs[c]).st = .free ∧ (∀ e ∈ t.groups, cfin e.2.ctx ≠ c) ∧ (∀ e ∈ t.launches, cfin e.2.k.ctx ≠ c) ∧
      t.copies = s.copies ∧ t.mem = s.mem) ∧
    (∀ cmd : BitVec 3, x.st.allows cmd.toNat = true → exec (.ctxcmdBadcmd c cmd) s = .next s) ∧
    (∀ cmd : BitVec 3, x.st.allows cmd.toNat = false →
      ∃ t, exec (.ctxcmdBadcmd c cmd) s = .next t ∧ t.ctxs[c] = { x with err := 1 } ∧ ∀ d, d ≠ c → t.ctxs[d] = s.ctxs[d]) ∧
    (x.st = .draining → s.busy c = false → ∃ t, exec (.contextDead c) s = .next t ∧ (t.ctxs[c]).st = .dead ∧
      ∀ e ∈ t.cores, ∀ b ∈ e.2.tlb, cfin b.ctx ≠ c) ∧
    (∀ (o n v : Nat), o + n ≤ 128 → Memory.wf s.bar0 = true →
      ∃ t, exec (.registerWrite (descAt c + o) n v) s = .next t ∧
        (x.st = .building → Memory.rd t.bar0 (descAt c + o) n = v % 256 ^ n ∧ t.ctxs = s.ctxs) ∧
        (x.st ≠ .building → 0 < n → t.bar0 = s.bar0 ∧ t.ctxs[c] = { x with err := 1 })) ∧
    (∀ v : BitVec 64, (∀ d : Fin 64, (s.ctxs[d]).st = .free) →
      exec (.savepoolWrite v) s = .next { s with life := { s.life with savepool := v.toNat / 128 * 128 } })

open Sys2Proof Sys2Proof.Machine in
/-- 06 R112 to R120, 07 R131 to R133: on a READY device the doorbell and the commands of QCTL change their queue as its state table says, and a refused
one sets QERR; the head of an ACTIVE queue is loaded, blocked or refused, or waits for a page; the best head is admitted with its WAITING groups while
fewer than 64 launches stand. On a device that is not READY the doorbell and the commands change nothing (20 R440). -/
def Obligations.QueueCommandResults : Prop :=
  (∀ (s : State) (q : Fin 256) (c : Fin 64) (cmd : BitVec 3) (t : BitVec 64), s.life.stat ≠ .ready → exec (.doorbell q t) s = .next s ∧
    exec (.bind q c) s = .next s ∧ exec (.unbind q) s = .next s ∧ exec (.pause q) s = .next s ∧ exec (.unpause q) s = .next s ∧
    exec (.reset q) s = .next s ∧ exec (.qctlBadcmd q cmd) s = .next s) ∧
  ∀ (s : State) (q : Fin 256), s.life.stat = .ready →
    let x := s.queues[q]
    let open_ := (s.ctxs[cfin x.ctx]).st.runs
    (∀ t : BitVec 64, exec (.doorbell q t) s = .next (s.withQueue q (
      if x.st = .unbound then { x with err := 3 }
      else if open_ = false then { x with err := 8 }
      else if x.st ≠ .error ∧ x.tail ≤ t ∧ (t - x.head).toNat ≤ x.size then { x with tail := t, st := if x.st = .idle ∧ t ≠ x.head then .active else x.st }
      else { x with err := 3 }))) ∧
    (∀ c : Fin 64, exec (.bind q c) s = .next (s.withQueue q (
      if x.st ≠ .unbound then { x with err := 1 }
      else if ¬(16 ≤ x.size ∧ x.size ≤ 65536 ∧ 2 ^ Nat.log2 x.size = x.size) ∨ x.base.toNat % (64 * x.size) ≠ 0 then { x with ctx := c.val, err := 2 }
      else if (s.ctxs[c]).st.runs = false then { x with ctx := c.val, err := 8 }
      else { x with ctx := c.val, st := .idle, head := 0, tail := 0, loaded := none, aged := 0 }))) ∧
    exec (.unbind q) s = .next (s.withQueue q (if x.st = .unbound then { x with err := 1 } else { x with st := .unbound, loaded := none, aged := 0 })) ∧
    exec (.pause q) s = .next (s.withQueue q (
      if x.st = .idle ∨ x.st = .active ∨ x.st = .blocked then { x with st := .paused, loaded := none, aged := 0 } else { x with err := 1 })) ∧
    exec (.unpause q) s = .next (s.withQueue q (
      if x.st = .paused then { x with st := if x.head = x.tail then .idle else .active } else { x with err := 1 })) ∧
    exec (.reset q) s = .next (s.withQueue q (
      if x.st ≠ .error then { x with err := 1 } else if open_ then { x with st := .idle, head := x.tail } else { x with err := 8 })) ∧
    (∀ cmd : BitVec 3, exec (.qctlBadcmd q cmd) s = .next (s.withQueue q (if x.st.allows cmd.toNat then x else { x with err := 1 }))) ∧
    (x.st = .active → x.loaded = none → x.head ≠ x.tail → s.admits (cfin x.ctx) = true →
      (∀ p k, s.headOf x = (some p, .met) → s.loadKernel (cfin x.ctx) p = .ok k →
        exec (.kernelLoad q) s = .next (s.withQueue q { x with loaded := some k, readySince := s.now })) ∧
      (∀ p, s.headOf x = (some p, .met) → s.loadKernel (cfin x.ctx) p = .error .bad →
        exec (.kernelLoad q) s = .next (s.withQueue q { x with st := .error, err := 7, loaded := none, aged := 0 })) ∧
      (∀ p k pg, s.headOf x = (p, .park pg) ∨ (s.headOf x = (some k, .met) ∧ s.loadKernel (cfin x.ctx) k = .error (.park pg)) →
        ∃ t, exec (.kernelLoad q) s = .next t ∧ t.queues = s.queues ∧ t.mem = s.mem ∧
          (t.migs.any (fun e => decide (e.2.ctx = cfin x.ctx) && decide (e.2.page = pg))) = true) ∧
      (∀ p k, s.headOf x = (p, .tables) ∨ (s.headOf x = (some k, .met) ∧ s.loadKernel (cfin x.ctx) k = .error .tables) →
        ∃ t, exec (.kernelLoad q) s = .next t ∧ (t.ctxs[cfin x.ctx]).st = .faulted) ∧
      (∀ p, s.headOf x = (p, .unmet) → exec (.kernelLoad q) s = .next (s.withQueue q { x with st := .blocked })) ∧
      (∀ p e, s.headOf x = (p, .error e) →
        exec (.kernelLoad q) s = .next (s.withQueue q { x with st := .error, err := e, loaded := none, aged := 0 }))) ∧
    (let r := s.readHeads (fun q => decide (q.st = .active) && q.loaded.isSome && s.admits (cfin q.ctx))
     let u : State := { r with queues := r.queues.map r.rejudgeHead }
     (64 ≤ (u.launches.filter (fun e => e.2.live)).length ∨ u.bestHead u.admissible = none → exec .launchAdmission s = .next u) ∧
     ((u.launches.filter (fun e => e.2.live)).length < 64 → ∀ i k sch n, u.bestHead u.admissible = some (i, k) → selectIn k.scheds k.size0 = some (sch, n) →
     ∃ t, exec .launchAdmission s = .next t ∧ (t.queues[i]).head = (u.queues[i]).head + 1 ∧ (t.queues[i]).loaded = none ∧ t.qptr = (u.qptr + 1) % 256 ∧
       (∃ l, l.k = k ∧ l.st = .launched ∧ l.phase = 0 ∧ l.count = n ∧ t.launches = u.launches ++ [(u.uid, l)]) ∧
       t.groups = u.groups ++ (List.range n).map (fun j => (u.uid + 1 + j, waitingGroup u.uid k.ctx 0 j ((u.queues[i]).priority k) u.now sch)))) ∧
    ((∀ p : Fin 256, (s.queues[p]).st = .blocked → (∀ pg, (s.headOf s.queues[p]).2 ≠ .park pg) ∧ (s.headOf s.queues[p]).2 ≠ .tables) →
      ∃ t, exec .signalRecheck s = .next t ∧ t.mem = s.mem ∧ t.ctxs = s.ctxs ∧ ∀ p : Fin 256, t.queues[p] =
        (if (s.queues[p]).st = .blocked then (match (s.headOf s.queues[p]).2 with
          | .met => { s.queues[p] with st := .active }
          | .error e => { s.queues[p] with st := .error, err := e, loaded := none, aged := 0 }
          | _ => s.queues[p]) else s.queues[p])) ∧
    (∀ k, x.loaded = some k → x.st = .active → (s.headOf x).2 = .met → min 4 (k.prio + x.aged) < 4 →
      4 * (s.ctxs[cfin x.ctx]).quantumNs ≤ s.now - x.readySince →
      exec (.priorityAgeing true q.val) s = .next (s.withQueue q
        { x with aged := x.aged + 1, readySince := x.readySince + 4 * (s.ctxs[cfin x.ctx]).quantumNs }))

open Sys2Proof Sys2Proof.Machine in
/-- 07 R135 to R141, 08 R143 to R153, R163, R164, 11 R251, 06 R119, 19 R432, 05 R111: a drained phase goes on to the next or ends the launch; the first
group of the order is placed or restored; pre-emption, saving and restoring move a group; warps are activated, resumed and restarted. -/
def Obligations.LaunchAndGroupEvents : Prop :=
  (∀ (s : State) (l : Nat) (x : Launch), tget s.launches l = some x →
    (x.st = .draining → s.drained l x = true → x.killed = false →
      (x.phase + 1 < x.k.phases → ∃ t, exec (.phaseDrained l) s = .next t ∧ tget t.launches l = some { x with st := .selecting } ∧
        ((s.ctxs[cfin x.k.ctx]).st.runs = true → (t.ctxs[cfin x.k.ctx]).drains = (s.ctxs[cfin x.k.ctx]).drains + 1) ∧ t.groups = s.groups) ∧
      (x.k.phases ≤ x.phase + 1 → ∃ t : State, exec (.phaseDrained l) s = .next (t.flush (cfin x.k.ctx)) ∧ tget t.launches l = some { x with st := .done })) ∧
    (x.st = .draining → s.drained l x = false → exec (.phaseDrained l) s = .next s) ∧
    (x.st = .draining → s.drained l x = true → x.killed = true → ∃ t : State, exec (.phaseDrained l) s = .next (t.flush (cfin x.k.ctx)) ∧
      tget t.launches l = some { x with st := .aborted }) ∧
    (∀ w, x.st = .selecting → s.fetchMem (cfin x.k.ctx) (x.k.sizesVa + 8 * (x.phase + 1)) 8 = .got w → selectIn x.k.scheds w = none →
      (s.writesDue l (cfin x.k.ctx) = true → exec (.phaseSelection l) s = .next s) ∧
      (s.writesDue l (cfin x.k.ctx) = false → ∃ t : State, exec (.phaseSelection l) s = .next (t.flush (cfin x.k.ctx)) ∧
        tget t.launches l = some { x with st := .aborted })) ∧
    (∀ w sch n, x.st = .selecting → s.fetchMem (cfin x.k.ctx) (x.k.sizesVa + 8 * (x.phase + 1)) 8 = .got w → selectIn x.k.scheds w = some (sch, n) →
      exec (.phaseSelection l) s = .next { s with
        launches := tput s.launches l { x with st := .running, phase := x.phase + 1, size := w, count := n },
        groups := s.groups ++ (List.range n).map (fun i => (s.uid + i, waitingGroup l x.k.ctx (x.phase + 1) i x.prio s.now sch)), uid := s.uid + n })) ∧
  (∀ (s : State) (g core : Nat) (x : Group) (l : Launch), s.placeHead = some (g, x) → s.group g = some x → s.coreFor x = some core →
    (∃ u, s.makeRoom core s.uid 0 (x.sched.warps * x.win) = some u) →
    (x.st = .waiting → tget s.launches x.launch = some l → s.xlate (cfin x.ctx) (s.ctxs[cfin x.ctx]).cb false false ≠ .park →
      s.xlate (cfin x.ctx) (s.ctxs[cfin x.ctx]).cb false false ≠ .uncorr → ∃ t y, exec .groupPlacement s = .next t ∧ t.group g = some y ∧
      y.warps.length = x.sched.warps ∧ ((∃ w ∈ y.warps, w.sched ≠ .exited) → y.st = .resident ∧ y.core = some core)) ∧
    (x.st = .saved → ∃ t y, exec .groupPlacement s = .next t ∧ t.group g = some y ∧ y.st = .restoring ∧ y.core = some core)) ∧
  (∀ (s : State) (g v : Nat) (x y : Group), s.placeHead = some (g, x) → s.coreFor x = none → s.victimFor x = some v → s.group v = some y →
    y.st = .resident → ∃ t z, exec .preemptionStart s = .next t ∧ t.group v = some z ∧ z = { y with st := .preempting }) ∧
  (∀ (s : State) (g core v : Nat) (x y : Group), s.group g = some x → x.core = some core → x.st = .resident → (∃ r ∈ x.aopens,
      (s.ctxs[cfin x.ctx]).quantumNs ≤ s.now - r.since ∧ 31 < s.blocksUsed core + r.need) →
    (∀ e ∈ s.groups, e.1 ≠ g → e.2.core = some core → 0 < e.2.blocks → e.2.st ≠ .preempting) →
    mostBlocks (s.groups.filter (fun e => decide (e.1 ≠ g) && decide (e.2.core = some core) && decide (0 < e.2.blocks) && decide (e.2.st = .resident) &&
      decide ((s.ctxs[cfin e.2.ctx]).quantumNs ≤ s.now - e.2.resSince))) = some (v, y) → s.group v = some y →
    ∃ t, exec (.rowBlockPreemption g) s = .next t ∧ t.group v = some { y with st := .preempting }) ∧
  (∀ (s : State) (g : Nat) (x : Group), s.group g = some x →
    (∀ u, x.st = .preempting → s.landing g = false → x.tileReady = false →
      s.putImage (cfin x.ctx) x.imgAt (s.imageBytes x.imageSize) = .ok u → u.groups = s.groups ∧
      ∃ (t : State) (y : Group), exec (.groupSaved g) s = .next (t.flush (cfin x.ctx)) ∧ t.group g = some y ∧ y.st = .saved ∧ y.core = none ∧
        y.lastQuad = x.core.map coreQuad ∧ y.spad = x.spad ∧ y.warps.map (·.s) = x.warps.map (·.s) ∧ y.tops = x.tops) ∧
    (x.st = .preempting → s.landing g = true ∨ x.tileReady = true → exec (.groupSaved g) s = .next s) ∧
    (x.st = .restoring → s.getImage (cfin x.ctx) x.imgAt x.image.length = .ok x.image → (∃ w ∈ x.warps, w.sched ≠ .exited) →
      ∃ t y, exec (.groupRestored g true) s = .next t ∧ t.group g = some y ∧
        y.st = (if (s.ctxs[cfin x.ctx]).suspending then .preempting else .resident) ∧ y.core = x.core ∧ y.resSince = s.now ∧
        y.spad = x.spad ∧ y.warps.map (·.s) = x.warps.map (·.s)) ∧
    (∀ ok image, x.st = .restoring → s.getImage (cfin x.ctx) x.imgAt x.image.length = .ok image → ok = false ∨ image ≠ x.image →
      (s.ctxs[cfin x.ctx]).st.runs = true → ∃ t, exec (.groupRestored g ok) s = .next t ∧ (t.ctxs[cfin x.ctx]).st = .faulted) ∧
    (let wait := 4 * (s.ctxs[cfin x.ctx]).quantumNs
     x.st = .waiting ∨ x.st = .saved → wait ≤ s.now - x.waitSince → ∃ t, exec (.priorityAgeing false g) s = .next t ∧
      t.group g = some { x with prio := min 4 (x.prio + 1), waitSince := x.waitSince + wait })) ∧
  (∀ (s : State) (core g w : Nat) (y : Warp), ((s.coreWarps core).filter (fun e => decide (e.2.2.sched = .active))).length < 8 →
    longestPending (s.coreWarps core) = some (g, w, y) → s.warp g w = some y → y.sched = .pending →
    ∃ t, exec (.warpActivate core) s = .next t ∧ t.warp g w = some { y with sched := .active, since := s.uid }) ∧
  (∀ (s : State) (g w : Nat) (x : Group) (y : Warp), s.group g = some x → s.warp g w = some y →
    (y.intrap = false → (∃ f ∈ y.slots, f.retry ≠ []) → (∀ f ∈ y.slots, ∀ k ∈ f.retry, s.causeClear x y f k = true) →
      ∃ t z, exec (.retryResume g w) s = .next t ∧ t.warp g w = some z ∧ (∀ f ∈ z.slots, f.retry = []) ∧ z.sched ≠ .parked ∧ z.s = y.s ∧
        z.slots.map (·.pc) = y.slots.map (·.pc) ∧ z.slots.map (·.replays) = y.slots.map (·.replays)) ∧
    (∀ core k q, x.onCore = true → x.core = some core → y.window k = some q → s.nextSpill core g w k = true →
      ∃ t z p, exec (.spillComplete g w k) s = .next t ∧ t.warp g w = some z ∧ z.window k = some { q with spilled := true, packed := p } ∧
        z.phys = y.phys ∧ p = (q.regs.drop (q.regs.length - q.opened)).map (fun r => packReg (y.vreg r).lanes)) ∧
    (∀ core k q, x.onCore = true → x.core = some core → y.window k = some q → s.nextSpill core g w k = false → q.spilled = true →
      (∃ f ∈ y.slots, f.win = k) → s.regsUsed core + q.opened ≤ 1536 → ∃ t z, exec (.spillComplete g w k) s = .next t ∧ t.warp g w = some z ∧
        z.window k = some { q with spilled := false, packed := [] } ∧ z.phys = y.phys)) ∧
  (∀ (s : State) (core : Nat) (c : Core), tget s.cores core = some c → c.halted = true →
    ∃ t, exec (.coreRestart core) s = .next t ∧ tget t.cores core = some { c with halted := false } ∧ t.groups = s.groups)

open Sys2Proof Sys2Proof.Machine in
/-- 03 R56, R57, 08 R145, R164, 02 R45: a warp of a group starts PENDING with s0 to s3 holding group number, warp index, size word and CB, the other
scalars, the masks but m0, the index registers, FLAGS, the WAITC counters and PLVL at 0, its number registers empty, and one fragment at ENTRY. -/
def Obligations.WarpStartValues : Prop :=
  ∀ (s : State) (k : Kernel) (x : Group) (size w slotNo : Nat),
    let y := s.startWarp k x size w slotNo
    let live := (liveLanes x.sched x.num w size).1
    let helper := (liveLanes x.sched x.num w size).2
    (y.s[(0 : Fin 32)]).val = BitVec.ofNat 64 x.num ∧ (y.s[(1 : Fin 32)]).val = BitVec.ofNat 64 w ∧ (y.s[(2 : Fin 32)]).val = BitVec.ofNat 64 size ∧
    (y.s[(3 : Fin 32)]).val = BitVec.ofNat 64 (s.ctxs[cfin x.ctx]).cb ∧ (∀ i : Fin 32, 4 ≤ i.val → (y.s[i]).val = 0) ∧
    (∀ i : Fin 32, (y.s[i]).fill = .full) ∧ y.m[(0 : Fin 8)] = live ∧ (∀ i : Fin 8, i ≠ 0 → y.m[i] = 0) ∧
    (∀ i : Fin 4, y.x[i] = 0) ∧ (∀ i : Fin 8, y.n[i] = NReg.zero) ∧ (∀ i : Fin 8, i ≠ 7 → (y.b[i]).valid = false) ∧
    y.flags = 0 ∧ y.plvl = 0 ∧ y.nthr = 1024 ∧ y.intrap = false ∧ y.copyN = 0 ∧ y.remN = 0 ∧ y.stack = [] ∧ y.slot1 = none ∧
    (live ||| helper = 0 → y.sched = .exited ∧ y.slot0 = none) ∧
    (live ||| helper ≠ 0 → y.sched = .pending ∧ ∃ f win, y.slot0 = some f ∧ f.pc = BitVec.ofNat 64 (k.addr + k.codeOff + x.sched.entry) ∧
      f.mask = live ||| helper ∧ f.join = none ∧ y.wins = [win] ∧ win.id = f.win ∧ win.depth = 0 ∧ win.regs.length = x.win ∧
      ∀ r ∈ win.regs, y.vreg r = VReg.zero)


open Sys2Proof Sys2Proof.Machine in
/-- 15 R358, R359: a migration locks its leaf with a frame of its pool, moves the page's bytes, publishes the new leaf and ends; a move of uncorrectable
data is given up; a leaf that software has unlocked is judged again. -/
def Obligations.MigrationEvents : Prop :=
  ∀ (s : State) (id : Nat) (m : Migration), tget s.migs id = some m →
    (∀ a e, m.step = .waiting → m.soft = false → s.rival id m = false → s.unitFull m.die = false → s.migLeaf m = .leaf a e → (leafOf e).state ≠ stMigrating →
      ∀ u f, (∀ die dest, m.host = none → s.wants (cfin m.ctx) m.page (leafOf e) = some (die, dest) → s.popFrame die dest = (u, some f) →
          ∃ t, exec (.migrationLock id) s = .next t ∧ t.pools = u.pools ∧
            tget t.migs id = some { m with step := .locked, oldLeaf := e, lockLeaf := leafSplit (leafSetState e stMigrating), frame := f,
                                           dest := if dest = 1 then stFast else stCap, soft := false } ∧
            ((leafOf e).run = 0 → t.mem = Memory.wr s.mem a 8 (leafSetState e stMigrating)) ∧
            (∀ c ∈ t.cores, ∀ b ∈ c.2.tlb, b.ctx = m.ctx → ¬(b.page ≤ m.page ∧ m.page < b.page + b.pages))) ∧
        (∀ tier, m.host = some tier → tier = 1 ∨ tier = 2 → (leafOf e).ok = true → (leafOf e).state ≠ stPinned → s.leafFits (leafOf e) = true →
          s.pinned (cfin m.ctx) m.page = false →
          s.popFrame (if (leafOf e).state = stAbsent ∨ (leafOf e).state = stHost then (leafOf e).die else homeDie (frameLocal (leafOf e).frame)) tier = (u, some f) →
          ∃ t, exec (.migrationLock id) s = .next t ∧ t.pools = u.pools ∧
            tget t.migs id = some { m with step := .locked, oldLeaf := e, lockLeaf := leafSplit (leafSetState e stMigrating), frame := f,
                                           dest := if tier = 1 then stFast else stCap, soft := false }) ∧
        (m.host = some 0 → (leafOf e).ok = true → ∃ t, exec (.migrationLock id) s = .next t ∧ tget t.migs id = none ∧
          t.mem = Memory.wr s.mem a 8 (leafSetState e stPinned) ∧ (s.mcmd = some id → t.mcmd = none ∧ t.mstat = 0))) ∧
    (m.step = .waiting → m.soft = false → s.rival id m = false → s.unitFull m.die = true → exec (.migrationLock id) s = .next s) ∧
    (∀ a e, m.step = .waiting → m.soft = false → s.rival id m = false → s.unitFull m.die = false → s.migLeaf m = .leaf a e → m.host = none →
      ((leafOf e).ok = true → (leafOf e).state = stMigrating → exec (.migrationLock id) s = .next { s with migs := tput s.migs id { m with soft := true } }) ∧
      ((leafOf e).state ≠ stMigrating → s.wants (cfin m.ctx) m.page (leafOf e) = none →
        ∃ t, exec (.migrationLock id) s = .next t ∧ tget t.migs id = none ∧ t.mem = s.mem ∧ t.pools = s.pools)) ∧
    (m.step = .locked →
      ((leafOf m.oldLeaf).state = stAbsent ∨ s.sourceBad (frameLocal (leafOf m.oldLeaf).frame) = false →
        ∃ t, exec (.migrationMove id) s = .next t ∧ tget t.migs id = some { m with step := .moved } ∧
          (Memory.wf s.mem = true → (∀ p q b, s.tagPlace p = some (q, b) → ¬(frameLocal m.frame ≤ q ∧ q < frameLocal m.frame + 2 ^ 14)) →
            ∀ i, i < 2 ^ 14 → Memory.get t.mem (frameLocal m.frame + i) =
              if (leafOf m.oldLeaf).state = stAbsent then 0 else Memory.get s.mem (frameLocal (leafOf m.oldLeaf).frame + i))) ∧
      ((leafOf m.oldLeaf).state ≠ stAbsent → s.sourceBad (frameLocal (leafOf m.oldLeaf).frame) = true →
        ∃ t : State, exec (.migrationMove id) s = .next (t.flush (cfin m.ctx)) ∧ tget t.migs id = none ∧ t.lostPage = some (m.ctx, m.page) ∧
          (s.mcmd = some id → t.mcmd = none ∧ t.mstat = 6))) ∧
    (m.step = .moved →
      (∀ a, s.migLeaf m = .leaf a m.lockLeaf → ∃ t, exec (.migrationPublish id) s = .next t ∧ tget t.migs id = none ∧
        t.mem = Memory.wr s.mem a 8 (leafSetFrame (leafSetState m.lockLeaf m.dest) m.frame) ∧ (m.die, m.ctx, m.page, s.now) ∈ t.pins ∧
        (s.mcmd = some id → t.mcmd = none ∧ t.mstat = 0)) ∧
      (∀ a e, s.migLeaf m = .leaf a e → e ≠ m.lockLeaf → m.host = none →
        ∃ t, exec (.migrationPublish id) s = .next t ∧ tget t.migs id = none ∧ t.mem = s.mem) ∧
      (∀ a e, s.migLeaf m = .leaf a e → e ≠ m.lockLeaf → m.host.isSome = true →
        ∃ t, exec (.migrationPublish id) s = .next t ∧ tget t.migs id = some { m with step := .waiting } ∧ t.mem = s.mem)) ∧
    (∀ a e, m.soft = true → s.migLeaf m = .leaf a e → (leafOf e).ok = true → (leafOf e).state = stMigrating →
      exec (.migratingLeafRecheck id) s = .next s) ∧
    (∀ a e, m.soft = true → s.migLeaf m = .leaf a e → (leafOf e).state ≠ stMigrating → ∃ t, exec (.migratingLeafRecheck id) s = .next t ∧
      tget t.migs id = none ∧ t.mem = s.mem)

open Sys2Proof Sys2Proof.Machine in
/-- 15 R360, R361, R363, R369: on a READY device with no command BUSY, MIGRATE and PIN start a command, UNPIN gives a PINNED leaf the state of its frame,
TLBINV drops translations, a request that cannot be is BADREQ, and a frame written to FRAMEIN joins its pool. -/
def Obligations.PageCommandResults : Prop :=
  (∀ s : State, s.life.stat = .ready → s.mcmd = none →
    let good := (s.ctxs[s.mctx]).st.runs = true ∧ s.mva < 2 ^ 56
    let started := fun (i : Instr) (target : Nat) => ∃ t, exec i s = .next t ∧ t.mcmd = some s.uid ∧ t.mstat = 1 ∧ t.mem = s.mem ∧
      ∃ m, (s.uid, m) ∈ t.migs ∧ m.ctx = s.mctx.val ∧ m.page = s.mva / 2 ^ 14 ∧ m.host = some target ∧ m.step = .waiting
    let bad := fun (i : Instr) => exec i s = .next { s with mstat := 3 }
    (¬good → bad .migrate ∧ bad .pin ∧ bad .unpin ∧ bad .mcmdTlbinv) ∧
    (good →
      let x := s.mtarget
      let target := x = 1 ∨ x = 2 ∨ (hostBase ≤ x ∧ x < 2 ^ 48 ∧ x % 2 ^ 14 = 0)
      (target → started .migrate x) ∧ (¬target → bad .migrate) ∧ started .pin 0 ∧
      (∀ a e st, s.walk (s.ctxs[s.mctx]).ptroot s.mva = .leaf a e → (leafOf e).ok = true → (leafOf e).state = stPinned →
        s.stateOf (leafOf e).frame = some st → ∃ t, exec .unpin s = .next t ∧ t.mstat = 0 ∧ t.mem = Memory.wr s.mem a 8 (leafSetState e st)) ∧
      (∀ a e, s.walk (s.ctxs[s.mctx]).ptroot s.mva = .leaf a e → (leafOf e).ok = false ∨ (leafOf e).state ≠ stPinned ∨ s.stateOf (leafOf e).frame = none →
        bad .unpin) ∧
      (s.walk (s.ctxs[s.mctx]).ptroot s.mva = .bad → bad .unpin) ∧
      (∃ t, exec .mcmdTlbinv s = .next t ∧ t.mstat = 0 ∧ t.mem = s.mem ∧ ∀ c ∈ t.cores, ∀ b ∈ c.2.tlb, b.ctx = s.mctx.val →
        ¬(if x = 0 then b.page < 2 ^ 42 ∧ 0 < b.page + b.pages else b.page < s.mva / 2 ^ 14 + x ∧ s.mva / 2 ^ 14 < b.page + b.pages)))) ∧
  (∀ s : State, s.life.stat ≠ .ready ∨ s.mcmd.isSome = true →
    exec .migrate s = .next s ∧ exec .pin s = .next s ∧ exec .unpin s = .next s ∧ exec .mcmdTlbinv s = .next s) ∧
  (∀ (s : State) (p : Fin 8) (pn : BitVec 64), s.life.stat ≠ .ready → exec (.frameinWrite p pn) s = .next s) ∧
  (∀ (s : State) (p : Fin 8) (pn : BitVec 64), s.life.stat = .ready →
    exec (.frameinWrite p pn) s = .next (if s.poolHas p pn.toNat = true ∧ (s.pools[p]).frames.length < s.bar (0x300008 + 32 * p.val) 4 then
      { s with pools := s.pools.set p { s.pools[p] with frames := (s.pools[p]).frames ++ [pn.toNat] } } else s))

namespace Sys2Proof.Machine

/-- 19 R436, 20 R443: a unit has been entered in the persistent tables and the event log, for a reason, and MGMTCAUSE says so. -/
def Entered (s t : State) (u : HealthUnit) (reason : Nat) : Prop :=
  t.life.mgmt.getLsbD 0 = true ∧ t.persist = ({ s.persist.enter u with
    log := (s.persist.log ++ [(s.now, (unitCode u).1, (unitCode u).2, reason)]).drop (s.persist.log.length + 1 - 120) } : Persist)

end Sys2Proof.Machine

open Sys2Proof Sys2Proof.Machine in
/-- 16 R379 to R382, 19 R436: a stack's alert puts its row into its channel's list once, or stays asserted while the list is full; an episode that is due
serves four rows at most; a patrol read counts its unit's events; a count at its threshold enters the unit in the persistent tables and the event log;
a window's end discards its counts. -/
def Obligations.DamperAndHealthEvents : Prop :=
  (∀ (s : State) (ch row : Nat) (sat bad : Bool), s.life.stat = .ready → s.channelDead ch = false →
    ∃ t, exec (.rowAlert ch row sat bad) s = .next t ∧ t.mem = s.mem ∧ tget (t.channel ch).counters row = some (if sat || bad then 4095 else s.ath) ∧
      (t.channel ch).alerted = true ∧
      ((∀ e ∈ (s.channel ch).list, e.1 ≠ row) →
        ((s.channel ch).list.length < 16 → (row, sat || bad, bad) ∈ (t.channel ch).list ∧ (t.channel ch).asserted = (s.channel ch).asserted ∧
          (t.channel ch).list.length = (s.channel ch).list.length + 1 ∧ (¬(sat || bad) = true → (t.channel ch).list = (s.channel ch).list ++ [(row, false, false)])) ∧
        (16 ≤ (s.channel ch).list.length → (t.channel ch).list = (s.channel ch).list ∧ (t.channel ch).asserted = (s.channel ch).asserted ++ [(row, sat || bad, bad)])) ∧
      (∀ a b, (s.channel ch).list = a ++ (row, false, false) :: b → (∀ e ∈ a ++ b, e.1 ≠ row) → (t.channel ch).asserted = (s.channel ch).asserted ∧
        (t.channel ch).list = if sat || bad then listRow (row, true, bad) (a ++ b) else (s.channel ch).list)) ∧
  (∀ (s : State) (ch : Nat), ch < 256 → (s.channel ch).episodeDue s.now = true →
    let key := 0xC00 + 4 * ch
    let n := tgetD s.life.health key 0
    let corrupt := (((s.channel ch).list.take 4).filter (fun r => r.2.2)).length
    corrupt = 0 ∨ n + corrupt < 256 →
    ∃ t, exec (.damperEpisode ch) s = .next t ∧ t.mem = s.mem ∧ (t.channel ch).episodes = (s.channel ch).episodes + 1 ∧ (t.channel ch).alerted = false ∧
      (∀ r ∈ (s.channel ch).list.take 4, tget (t.channel ch).counters r.1 = none) ∧ tgetD t.life.health key 0 = n + corrupt ∧
      ((s.channel ch).asserted = [] → (t.channel ch).list = (s.channel ch).list.drop 4)) ∧
  (∀ (s : State) (ch : Nat), (s.channel ch).episodeDue s.now = false → exec (.damperEpisode ch) s = .next s) ∧
  (∀ (s : State) (a : Nat) (u : HealthUnit) (c : Bool), s.life.stat = .ready → s.unitAt a = some u →
    let n := tgetD s.life.health (unitKey u) 0 + 1
    (s.poisoned a 1 = false → c = true → n ≠ threshold u →
      exec (.patrolRead a c) s = .next { s with life := { s.life with health := tput s.life.health (unitKey u) n } }) ∧
    (s.poisoned a 1 = false → c = false → exec (.patrolRead a c) s = .next s) ∧
    (s.poisoned a 1 = false → c = true → n = threshold u → ∃ t, exec (.patrolRead a c) s = .next t ∧ Entered s t u 1) ∧
    (s.poisoned a 1 = true → (∀ b, tget s.life.uncorr (unitKey u) = some b → 86400 * 10 ^ 9 ≤ s.now - b) →
      exec (.patrolRead a c) s = .next { s with life := { s.life with uncorr := tput s.life.uncorr (unitKey u) s.now } }) ∧
    (s.poisoned a 1 = true → ∀ b, tget s.life.uncorr (unitKey u) = some b → s.now - b < 86400 * 10 ^ 9 →
      ∃ t, exec (.patrolRead a c) s = .next t ∧ Entered s t u 2)) ∧
  (∀ (s : State) (u : HealthUnit), s.life.stat = .ready → threshold u ≤ tgetD s.life.health (unitKey u) 0 →
    ∃ t, exec (.healthThreshold u) s = .next t ∧ Entered s t u 1) ∧
  (∀ (s : State) (u : HealthUnit), tgetD s.life.health (unitKey u) 0 < threshold u → exec (.healthThreshold u) s = .next s) ∧
  (∀ (s : State) (k : HealthKind), exec (.healthWindowEnd k) s = .next
    { s with life := { s.life with health := s.life.health.filter (fun e => match k with
      | .day => decide (0xC00 ≤ e.1)
      | .hour => decide (e.1 < 0xC00) || decide (0x1100 ≤ e.1)
      | .second => decide (e.1 < 0x1100)) } })


namespace Sys2Proof.Machine

/-- The other direction of a link. -/
def backDir (d : Nat) : Nat := if d % 2 = 0 then d + 1 else d - 1

/-- 18 R415: the widest width that a link's good groups allow. -/
def State.goodWidth (s : State) (k : Fin 18) : Nat := widthOf ((s.links[k]).outlanes ||| s.persist.retiredLanes k.val)

/-- 18 R417, R420: an event fails a link: FAILED without a width, or RETIRED when it fails at bring-up a second time. -/
def FailsLink (s : State) (k : Fin 18) (i : Instr) : Prop :=
  ∃ t, exec i s = .next t ∧ (t.links[k]).width = 0 ∧
    (s.life.stat ≠ .bringup ∨ (s.links[k]).failedBefore = false → (t.links[k]).st = .failed) ∧
    (s.life.stat = .bringup → (s.links[k]).failedBefore = true → (t.links[k]).st = .retired ∧ k.val ∈ t.persist.links)

/-- 18 R426, 12 R284: what the initiator sees of a remote request that fails: EREM for a store, ORPHANED for a load, FAILED for a copy, once the other
bytes that the copy has sent are answered. -/
def FailsRemote (s : State) (tag : Nat) (timeout : Bool) (i : Instr) : Prop :=
  ∀ r, tget s.remotes tag = some r →
    (r.copy = none → r.store = true → r.inside = none → tget s.memops r.op = none →
      ∃ t, exec i s = .next t ∧ tget t.remotes tag = none ∧ ∀ y, s.warp r.g r.w = some y → y.intrap = true ∨ y.due = [] →
        t.warp r.g r.w = some { y with remN := y.remN - 1, erem := y.erem + 1 }) ∧
    (r.copy = none → r.store = false → (∀ n, r.inside = some n → n.kind.isStore = false) → ∀ m y, tget s.memops r.op = some m → m.g = r.g → m.w = r.w →
      m.kind.writes = false → m.failed = false →
      m.landed = false → (∃ l ∈ m.lanes, l.lane = r.lane) → (∀ l ∈ m.lanes, l.lane ≠ r.lane → ∃ x, l.st = .done x) → s.warp r.g r.w = some y →
      y.sched ≠ .exited → y.intrap = true ∨ y.due = [] →
      ∃ t, exec i s = .next t ∧ tget t.remotes tag = none ∧ tget t.memops r.op = none ∧
        t.warp r.g r.w = some (y.orphanDst m.dst (if timeout then .rtimeout else .rfault))) ∧
    (∀ id c, r.copy = some id → tget s.copies id = some c → c.st = .running ∨ c.st = .parked → c.stop = none →
      ∃ (t : State) (c' : Copy), exec i s = .next (t.flush (cfin c.ctx)) ∧ tget t.copies id = some c' ∧
        ((∀ e ∈ tdel s.remotes tag, e.2.copy ≠ some id) → c'.st = .failed ∧ c'.cause = if timeout then cRTIMEOUT else cRFAULT) ∧
        ((∃ e ∈ tdel s.remotes tag, e.2.copy = some id) → ∃ a, c'.stop = some (.failed, if timeout then cRTIMEOUT else cRFAULT, a)))

end Sys2Proof.Machine

open Sys2Proof Sys2Proof.Machine in
/-- 18 R406 to R418, R423, 01 R16: a slot sends the next flit of its class with the next FSEQ; a receiver takes the flit it expects and discards others;
a replay resends from the failed flit; a complete packet goes to its next hop, or at its destination to its quadrant's gate station, once, as there is
room. -/
def Obligations.LinkFlitEvents : Prop :=
  ∀ (s : State) (dir : Nat), dir < 36 →
    let d := s.dir dir
    let other := s.dir (backDir dir)
    ((s.links[dirLink dir]).carries = false ∨ s.stalled dir = true →
      exec (.flitSlot dir) s = .next s ∧ (∀ noise, exec (.flitReceive dir noise) s = .next s) ∧ exec (.replayRequest dir) s = .next s) ∧
    ((s.links[dirLink dir]).carries = true → s.stalled dir = false →
      (d.pick (bufferSize dir) = none → ∃ t, exec (.flitSlot dir) s = .next t ∧ t.mem = s.mem ∧ (t.dir dir).retry = d.retry ∧ (t.dir dir).fseq = d.fseq ∧
        ((t.dir dir).wire = d.wire ∨ ∃ g, (t.dir dir).wire = d.wire ++ [g] ∧ g.cls = 3 ∧ g.good = true)) ∧
      (∀ k f r, d.pick (bufferSize dir) = some k → (d.begin_ k).inProgress k = f :: r →
        let g := mkFlit k.code f.first f.last d.fseq.toNat (if other.got then other.expect - 1 else 0).toNat f.data
        ∃ t, exec (.flitSlot dir) s = .next t ∧ t.mem = s.mem ∧ (t.dir dir).wire = d.wire ++ [g] ∧ (t.dir dir).retry = d.retry ++ [g] ∧
          (t.dir dir).fseq = d.fseq + 1 ∧ (t.dir dir).inProgress k = r ∧ g.good = true) ∧
      (∀ noise f0 r, d.wire = f0 :: r →
        let f := if noise = 0 then f0 else f0.hit noise
        let kept := if other.got then other.retry.filter (fun g => !ackCovers f.ack g.fseq) else other.retry
        (f.good = true → f.cls ≠ 3 → f.fseq = d.expect → ∃ t, exec (.flitReceive dir noise) s = .next t ∧ t.mem = s.mem ∧ (t.dir dir).wire = r ∧
          (t.dir dir).expect = d.expect + 1 ∧ (t.dir dir).wantReplay = false ∧ (t.dir (backDir dir)).retry = kept) ∧
        (f.good = true → f.cls ≠ 3 → f.fseq ≠ d.expect → exec (.flitReceive dir noise) s = .next (s.modDir dir (fun x => { x with wire := r }))) ∧
        (f.good = true → f.cls = 3 → d.wantReplay = false → ∃ t, exec (.flitReceive dir noise) s = .next t ∧ t.dir dir = { d with wire := r } ∧
          (t.dir (backDir dir)).retry = kept) ∧
        (f.good = true → f.cls = 3 → d.wantReplay = true → exec (.flitReceive dir noise) s = .next (s.modDir dir (fun x => { x with wire := r }))) ∧
        (f.good = false → ∃ (t : State) (lane : Fin 16), exec (.flitReceive dir noise) s = .next t ∧ t.mem = s.mem ∧
          t.dir dir = { d with wire := r, wantReplay := true } ∧
          tgetD t.life.health (0x1100 + 4 * (16 * (dirLink dir).val + lane.val)) 0 =
            tgetD s.life.health (0x1100 + 4 * (16 * (dirLink dir).val + lane.val)) 0 + 1)) ∧
      (d.wantReplay = true → (∀ f ∈ d.wire, f.fseq = d.expect → f.cls = 3) → d.replayFrom d.expect ≠ [] →
        ∃ t, exec (.replayRequest dir) s = .next t ∧ t.dir dir = { d with wire := d.wire ++ d.replayFrom d.expect } ∧
          (t.links[dirLink dir]).replays = (s.links[dirLink dir]).replays + if (dirFrom dir).isSome then 1 else 0)) ∧
    (∀ p r, d.arrived = p :: r →
      let u := s.modDir dir (fun x => { x with arrived := r, buffered := tput x.buffered p.cls.code (tgetD x.buffered p.cls.code 0 - p.count) })
      (dirTo dir = none → exec (.packetDeliver dir) s = .next u) ∧
      (∀ die, dirTo dir = some die →
        let becomes := fun (z : State) => exec (.packetDeliver dir) s = .next (if dir < 12 then z.lapse linkTime else z)
        let k := tripleKey die (bits p.src 31 24) (bits p.src 23 22) p.cls.code
        let seen := 32768 ≤ (p.pseq - BitVec.ofNat 16 (tgetD s.pexpect k 0)).toNat
        let taken : State := { u with pexpect := tput u.pexpect k ((p.pseq.toNat + 1) % 65536) }
        let away := (p.to.1 = s.node ∧ p.to.2 ≠ die) ∨ (p.to.1 ≠ s.node ∧ dir < 12)
        let moves := fun (q : Packet) => (∀ d', u.hopOf die q = .go d' →
          (u.dirRoom d' q = true → becomes (u.depart die d' q)) ∧ (u.dirRoom d' q = false → exec (.packetDeliver dir) s = .next s)) ∧
          (u.hopOf die q = .none → (∀ z, u.lostRoute.turnBack die q false false = some z → becomes z) ∧
            (u.lostRoute.turnBack die q false false = none → exec (.packetDeliver dir) s = .next s))
        (p.to = (s.node, die) → ¬seen →
          (∀ x, taken.endStation p = some x →
            (taken.stationRoom (stationKey die x.quad 1 4) p = true → becomes (taken.toStation (stationKey die x.quad 1 4) p)) ∧
            (taken.stationRoom (stationKey die x.quad 1 4) p = false → exec (.packetDeliver dir) s = .next s)) ∧
          (taken.endStation p = none → (∀ z, taken.arrive p = some z → becomes z) ∧
            (taken.arrive p = none → exec (.packetDeliver dir) s = .next s))) ∧
        (p.to = (s.node, die) → seen → becomes (u.modLink (dirLink dir) (fun l => { l with dups := min 65535 (l.dups + 1) }))) ∧
        (away → moves p) ∧ (p.to.1 ≠ s.node → 12 ≤ dir → p.hops ≠ 8 → moves { p with hops := p.hops + 1 }) ∧
        (p.to.1 ≠ s.node → 12 ≤ dir → p.hops = 8 → (∀ z, u.turnBack die p true false = some z → becomes z) ∧
          (u.turnBack die p true false = none → exec (.packetDeliver dir) s = .next s))))

open Sys2Proof Sys2Proof.Machine in
/-- 18 R415 to R420: lane loss and 16 replays within 1 µs send a link to TRAINING; a retrain ends at the widest width that its good groups allow or fails the link;
a link that the controller quiesces is RETIRED once it is empty. -/
def Obligations.LinkStateEvents : Prop :=
  ∀ (s : State) (k : Fin 18),
    let l := s.links[k]
    let w := s.goodWidth k
    (l.st = .up ∨ l.st = .degraded → ∀ lane : Fin 16,
      (∃ t, exec (.laneLoss k.val lane) s = .next t ∧ t.links[k] = { l with st := .training, outlanes := l.outlanes ||| (0xF#16 <<< (4 * (lane.val / 4))) } ∧
        t.life.mgmt.getLsbD 2 = true) ∧
      (l.storm s.now = true → ∃ t, exec (.replayStorm k.val) s = .next t ∧ t.links[k] = { l with st := .training } ∧ t.life.mgmt.getLsbD 2 = true) ∧
      (∃ t, exec (.linkQuiesce k.val) s = .next t ∧ t.links[k] = { l with st := .quiescing } ∧ t.life.mgmt.getLsbD 2 = true)) ∧
    (l.st = .quiescing → ∀ lane : Fin 16,
      (∃ t, exec (.laneLoss k.val lane) s = .next t ∧
        t.links[k] = { l with quiesce := true, outlanes := l.outlanes ||| (0xF#16 <<< (4 * (lane.val / 4))) }) ∧
      (l.storm s.now = true → ∃ t, exec (.replayStorm k.val) s = .next t ∧ t.links[k] = { l with quiesce := true })) ∧
    (l.st = .training → ∀ lane : Fin 16,
      ∃ t, exec (.laneLoss k.val lane) s = .next t ∧ t.links[k] = { l with outlanes := l.outlanes ||| (0xF#16 <<< (4 * (lane.val / 4))) }) ∧
    (l.st = .down ∨ l.st = .failed ∨ l.st = .retired → ∀ lane : Fin 16, exec (.laneLoss k.val lane) s = .next s ∧ exec (.replayStorm k.val) s = .next s ∧
      exec (.retrainComplete k.val) s = .next s ∧ exec (.retrainTimeout k.val) s = .next s) ∧
    (l.storm s.now = false → exec (.replayStorm k.val) s = .next s) ∧
    (l.st ≠ .up → l.st ≠ .degraded → exec (.linkQuiesce k.val) s = .next s) ∧
    (l.st = .training ∨ (l.st = .quiescing ∧ l.quiesce = true) →
      let again := w = 4 ∧ ∃ at_, l.last4 = some at_ ∧ s.now - at_ < 100000
      (w ≠ 0 → ¬again → ∃ t, exec (.retrainComplete k.val) s = .next t ∧ (t.links[k]).width = w ∧ (t.links[k]).quiesce = false ∧
        (t.links[k]).st = (if l.st = .quiescing then .quiescing else if w = 16 then .up else .degraded) ∧
        (t.links[k]).out.wire = l.out.retry ∧ (t.links[k]).inn.wire = l.inn.retry ∧ (t.links[k]).out.partials = l.out.partials ∧
        (w = 4 → (t.links[k]).last4 = some s.now)) ∧
      (w = 0 ∨ again → FailsLink s k (.retrainComplete k.val)) ∧
      FailsLink s k (.retrainTimeout k.val)) ∧
    (l.st = .quiescing → l.quiesce = false → l.out.empty = true → l.inn.empty = true →
      ∃ t, exec (.quiesceComplete k.val) s = .next t ∧ (t.links[k]).st = .retired ∧ (t.links[k]).width = 0 ∧ k.val ∈ t.persist.links)

open Sys2Proof Sys2Proof.Machine in
/-- 18 R424 to R426: a failed remote request is a count, an orphan or a FAILED copy at its initiator; an inbound access that no window admits counts as
refused, one that a window admits is performed or recorded, and one that waits 80 µs is recorded and gone; each is answered, as its answer's first hop
has room. -/
def Obligations.RemoteAndInboundEvents : Prop :=
  (∀ (s : State) (tag : Nat) (timeout : Bool), FailsRemote s tag timeout (.errorResponse tag timeout)) ∧
  (∀ (s : State) (tag : Nat), (∀ r, tget s.remotes tag = some r → 200000 ≤ s.now - r.at_) → FailsRemote s tag true (.remoteTimeout tag)) ∧
  (∀ (s : State) (tag : Nat) (r : Remote), tget s.remotes tag = some r → s.now - r.at_ < 200000 → exec (.remoteTimeout tag) s = .next s) ∧
  (∀ (s : State) (r : InboundReq), s.life.stat ≠ .ready → exec (.inboundAccess r) s = .next s) ∧
  (∀ (s : State) (r : InboundReq), s.life.stat = .ready →
    (s.admitted r = none →
      let u : State := { s with life := { s.life with refusals := s.life.refusals + 1 } }
      (∀ t, u.answerError r cRFAULT = some t → exec (.inboundAccess r) s = .next t) ∧
      (u.answerError r cRFAULT = none → exec (.inboundAccess r) s = .next s)) ∧
    (∀ c, s.admitted r = some c →
      let u : State := { s with inbound := tdel (s.inbound ++ [(s.uid, { req := r, ctx := c, at_ := s.now })]) s.uid, uid := s.uid + 1 }
      let waits := exec (.inboundAccess r) s = .next { s with inbound := s.inbound ++ [(s.uid, { req := r, ctx := c, at_ := s.now })], uid := s.uid + 1 }
      let refused := fun (v : State) => (∀ t, v.answerError r cRFAULT = some t → exec (.inboundAccess r) s = .next t) ∧ (v.answerError r cRFAULT = none → waits)
      let fails := fun (cause addr : Nat) => refused ((u.log (cfin c) cause 2 r.node.toNat 0 addr 0 0).flush (cfin c))
      ((s.ctxs[cfin c]).st.reserves = false → refused u) ∧
      ((s.ctxs[cfin c]).st.reserves = true → (s.ctxs[cfin c]).st.runs = false → fails cRFAULT (s.reqAddr (cfin c) r)) ∧
      ((s.ctxs[cfin c]).st.runs = true → r.kind ≠ .cpyx → r.kind ≠ .flag →
        (u.reachable r.addr (reqSize r) = false → fails cPGPROT r.addr) ∧
        (u.reachable r.addr (reqSize r) = true → r.kind ≠ .write → u.poisoned r.addr (reqSize r) = true → fails cUNCORR r.addr)) ∧
      ((s.ctxs[cfin c]).st.runs = true →
        let flagAt := (s.ctxs[cfin c]).cb + 8 * r.addr
        let flag := u.pieces (cfin c).val false true flagAt 9 0 8
        (∀ k a, r.kind = .cpyx → u.pieces (cfin c).val false true r.addr (r.data.length + 1) 0 r.data.length = .error (.fail k a) → fails k a) ∧
        (∀ k a, r.kind = .flag → flag = .error (.fail k a) → fails k a) ∧
        (∀ p k, r.kind = .flag → flag = .ok [(p, k)] → u.engBad p 8 = true → fails cUNCORR flagAt))) ∧
    (∀ c, s.admitted r = some c → (s.ctxs[cfin c]).st.runs = true →
      let pa := s.node * 2 ^ 48 + r.addr % 2 ^ 48
      let n := reqSize r
      let u : State := { s with inbound := tdel (s.inbound ++ [(s.uid, { req := r, ctx := c, at_ := s.now })]) s.uid, uid := s.uid + 1 }
      let waits := exec (.inboundAccess r) s = .next { s with inbound := s.inbound ++ [(s.uid, { req := r, ctx := c, at_ := s.now })], uid := s.uid + 1 }
      let performs := fun (v : State) (b : List Byte) => (∀ t, v.answer_ r (answerType (reqType r)) b = some t → exec (.inboundAccess r) s = .next t) ∧
        (v.answer_ r (answerType (reqType r)) b = none → waits)
      let puts := fun (x : Nat) => performs (u.engPutBytes pa (leBytes n x)) (leBytes n (s.engRd pa n))
      (u.reachable r.addr n = true → r.kind = .write → performs (u.engPutBytes pa r.data) []) ∧
      (u.reachable r.addr n = true → u.poisoned r.addr n = false →
        (r.kind = .read ∨ r.kind = .probe → performs (u.l2Access pa n false) (leBytes n (s.engRd pa n))) ∧
        (r.kind = .atomicAdd → puts (s.engRd pa n + leNat r.data)) ∧
        (∀ bit mode, r.kind = .part bit mode →
          performs (u.engPutBytes pa (leBytes n (elemPut (mEtype mode) bit.val (s.engRd pa n) (leNat r.data)))) []) ∧
        (r.kind = .signal → performs (u.engPutBytes pa (leBytes n (signalAdd (s.engRd pa n) (leNat r.data)))).recheckSignals (leBytes n (s.engRd pa n))) ∧
        (∀ op mode, r.kind = .atomic op mode →
          puts (atValue mode (atOpOf op.val) (s.engRd pa n) (leNat (r.data.take n)) (leNat (r.data.drop n))))) ∧
      (∀ p, r.kind = .cpyx → u.pieces (cfin c).val false true r.addr (r.data.length + 1) 0 r.data.length = .ok [(p, r.data.length)] →
        performs (u.engPutBytes p r.data) []) ∧
      (∀ p k, r.kind = .flag → u.pieces (cfin c).val false true ((s.ctxs[cfin c]).cb + 8 * r.addr) 9 0 8 = .ok [(p, k)] → u.engBad p 8 = false →
        performs (u.engPutBytes p (leBytes 8 (s.engRd p 8 + 1))).recheckSignals (leBytes 8 (s.engRd p 8))))) ∧
  (∀ (s : State) (id : Nat) (x : Inbound), tget s.inbound id = some x →
    let u := ({ s with inbound := tdel s.inbound id } : State).log (cfin x.ctx) cRTIMEOUT 2 x.req.node.toNat 0 (s.reqAddr (cfin x.ctx) x.req) 0 0
    (80000 ≤ s.now - x.at_ → (∀ t, (u.flush (cfin x.ctx)).answerError x.req cRTIMEOUT = some t → exec (.inboundTimeout id) s = .next t) ∧
      ((u.flush (cfin x.ctx)).answerError x.req cRTIMEOUT = none → exec (.inboundTimeout id) s = .next s)) ∧
    (s.now - x.at_ < 80000 → exec (.inboundTimeout id) s = .next s))


namespace Sys2Proof.Machine

/-- 20 R440: what loss of power leaves: the device is OFF, every context FREE and every queue UNBOUND, device memory reads 0, and the persistent tables and
host memory are as they were. -/
def State.Unpowered (t : State) (p : Persist) (m : Memory) : Prop :=
  t.life.stat = .off ∧ t.persist = p ∧ t.groups = [] ∧ t.launches = [] ∧ t.copies = [] ∧ (∀ c : Fin 64, (t.ctxs[c]).st = .free) ∧
    (∀ q : Fin 256, (t.queues[q]).st = .unbound) ∧ (Memory.wf m = true → ∀ a, Memory.get t.mem a = if hostBase ≤ a then Memory.get m a else 0)

end Sys2Proof.Machine

open Sys2Proof Sys2Proof.Machine in
/-- 20 R439 to R441, R444, R447, R450: power-good starts the ROM check; images that pass start bring-up, others RECOVERY; bring-up ends READY or UNSUPPORTED;
loss of power and a thermal trip leave OFF with the persistent tables kept; a function-level reset frees contexts and queues; a host access to memory
that a route reaches reads or writes it, whatever the states of contexts (log entry 58). In another state of the device an event has no effect. -/
def Obligations.PowerAndResetEvents : Prop :=
  ∀ s : State,
    (s.life.stat = .off → exec .powerGood s = .next { s with life := { s.life with stat := .romcheck } } ∧ exec .powerLoss s = .next s) ∧
    (s.life.stat ≠ .off → exec .powerGood s = .next s) ∧ (s.life.stat ≠ .romcheck → exec .romCheckComplete s = .next s) ∧
    (s.life.stat ≠ .bringup → exec .bringupComplete s = .next s) ∧ (s.life.stat ≠ .ready → exec .functionLevelReset s = .next s) ∧
    (∀ die : Fin 4, s.life.stat = .off ∨ s.life.step[die] ≠ 3 → exec (.thermalTrip die) s = .next s) ∧
    (s.life.stat = .romcheck →
      (s.persist.images.all (imagePasses s.persist.minVersion) = true → ∃ t, exec .romCheckComplete s = .next t ∧ t.life.stat = .bringup ∧
        t.life.running = s.persist.images ∧
        ∀ k : Fin 18, (t.links[k]).st = .training ∨ (t.links[k]).st = .retired) ∧
      (s.persist.images.all (imagePasses s.persist.minVersion) = false → exec .romCheckComplete s = .next { s with life := { s.life with stat := .recovery } })) ∧
    (s.life.stat = .bringup → ∃ t, exec .bringupComplete s = .next t ∧ t.life.dies = (List.range 4).map s.persist.dieConf ∧ t.life.nodeid = s.persist.nodeid ∧
      t.life.timer = s.life.timer ∧ t.persist = s.persist.mended.retire t.links ∧ t.life.savepool = t.visible / 4 / 128 * 128 ∧
      (t.ath % 256 = 0 ∧ 256 ≤ t.ath ∧ t.ath ≤ 3072) ∧
      (t.life.stat = .ready ↔ ((List.range 4).map s.persist.dieConf).all DieConf.supported = true ∧ (s.persist.good0 = true ∨ s.persist.good1 = true) ∧
        ∀ k : Fin 18, k.val < 6 → 4 ≤ (t.links[k]).width) ∧
      (t.life.stat ≠ .ready → t.life.stat = .unsupported)) ∧
    (s.life.stat ≠ .off → ∃ t, exec .powerLoss s = .next t ∧ t.Unpowered s.persist s.mem) ∧
    (∀ die : Fin 4, s.life.stat ≠ .off → s.life.step[die] = 3 → ∃ t, exec (.thermalTrip die) s = .next t ∧
      t.Unpowered { s.persist with log := (s.persist.log ++ [(s.now, 6, die.val, 5)]).drop (s.persist.log.length + 1 - 120) } s.mem) ∧
    (s.life.stat = .ready → ∃ t, exec .functionLevelReset s = .next t ∧ t.life = s.life ∧ t.persist = s.persist ∧ t.groups = [] ∧ t.launches = [] ∧
      t.copies = [] ∧ t.migs = [] ∧ (∀ c : Fin 64, (t.ctxs[c]).st = .free) ∧ ∀ q : Fin 256, (t.queues[q]).st = .unbound) ∧
    (∀ (a : Nat) (data : List (BitVec 8)), let far := s.joined 0 (homeDie a) = false
      (s.region a = .host → exec (.hostMemoryAccess a data) s = .next { s with mem := Memory.putBytes s.mem a data }) ∧
      (s.region a ≠ .host → s.region a ≠ .hole → s.life.stat = .ready →
        (¬far → ∃ t, exec (.hostMemoryAccess a data) s = .next t ∧ t.mem = Memory.putBytes s.mem a data ∧ t.groups = s.groups) ∧
        (far → exec (.hostMemoryAccess a data) s = .next s)) ∧
      (s.region a ≠ .host → s.life.stat ≠ .ready → exec (.hostMemoryAccess a data) s = .next s) ∧
      (s.region a = .hole → exec (.hostMemoryAccess a data) s = .next s))

open Sys2Proof Sys2Proof.Machine in
/-- 20 R439, R441, R442, R449, 13 R312: steps and their pause, STEPCAP, MGMTCAUSE, warnings, the attestation commands and their completion, and the load of
a firmware image; each has no effect while the device does not take it. -/
def Obligations.ControlEvents : Prop :=
  ∀ s : State,
    let live := s.life.stat = .ready ∨ s.life.stat = .recovery ∨ s.life.stat = .unsupported
    (∀ (die : Fin 4) (up : Bool), s.life.stat = .ready → (∀ at_, s.life.stepAt[die] = some at_ → 100000 ≤ s.now - at_) →
      (if up then s.life.stepcap.toNat < (s.life.step[die]).toNat else (s.life.step[die]).toNat < 3) →
      ∃ t, exec (.stepChange die up) s = .next t ∧ t.life.paused[die] = true ∧ t.life.stepAt[die] = some s.now ∧ t.life.mgmt.getLsbD 1 = true ∧
        t.life.step = s.life.step.set die (if up then s.life.step[die] - 1 else s.life.step[die] + 1)) ∧
    (∀ (die : Fin 4) (up : Bool), s.life.stat ≠ .ready ∨ (∃ at_, s.life.stepAt[die] = some at_ ∧ s.now - at_ < 100000) ∨
      (if up then (s.life.step[die]).toNat ≤ s.life.stepcap.toNat else (s.life.step[die]).toNat = 3) → exec (.stepChange die up) s = .next s) ∧
    (¬live → (∀ v, exec (.stepcapWrite v) s = .next s) ∧ (∀ v, exec (.mgmtcauseClear v) s = .next s) ∧ exec .report s = .next s ∧
      exec .certs s = .next s ∧ exec .nodeset s = .next s) ∧
    (live → s.life.attcmd ≠ 0 → ∀ i ∈ [Instr.report, .certs, .nodeset], exec i s = .next { s with life := { s.life with attstat := 3 } }) ∧
    (s.life.attcmd = 0 → exec .attestationComplete s = .next s) ∧
    (s.life.stat = .off → (∀ die : Fin 4, exec (.thermalWarning die) s = .next s) ∧
      ∀ (k : Fin 4) (img : FirmwareImage), exec (.firmwareImageLoad k img) s = .next s) ∧
    (∀ die : Fin 4, exec (.clockPauseEnd die) s = .next { s with life := { s.life with paused := s.life.paused.set die false } }) ∧
    (live →
      (∀ v, exec (.stepcapWrite v) s = .next { s with life := { s.life with stepcap := v } }) ∧
      (∀ v, ∃ t, exec (.mgmtcauseClear v) s = .next t ∧ ∀ b, b < 4 → t.life.mgmt.getLsbD b = (s.life.mgmt.getLsbD b && !v.getLsbD b)) ∧
      (s.life.attcmd = 0 → exec .report s = .next { s with life := { s.life with attcmd := 1, attstat := 1 } } ∧
        exec .certs s = .next { s with life := { s.life with attcmd := 2, attstat := 1 } } ∧
        exec .nodeset s = .next { s with life := { s.life with attcmd := 3, attstat := 1 } })) ∧
    (∀ die : Fin 4, s.life.stat ≠ .off → ∃ t, exec (.thermalWarning die) s = .next t ∧ t.life.mgmt.getLsbD 3 = true ∧ 64 ∈ t.life.irqs) ∧
    (s.life.attcmd = 3 → ∃ t, exec .attestationComplete s = .next t ∧ t.persist.nodeid = BitVec.ofNat 8 (s.bar 0x28 4) ∧ t.life.attstat = 2 ∧
      t.life.attcmd = 0 ∧ t.mem = s.mem) ∧
    (s.life.attcmd = 1 → Memory.wf s.mem = true → ∃ t, exec .attestationComplete s = .next t ∧ t.life.attstat = 2 ∧ t.life.attcmd = 0 ∧
      ∀ i b, (s.reportBytes)[i]? = some b → Memory.get t.mem (s.attbuf + i) = b) ∧
    (s.life.attcmd = 2 → ∃ t, exec .attestationComplete s = .next t ∧ t.life.attstat = 2 ∧ t.life.attcmd = 0) ∧
    (∀ (k : Fin 4) (img : FirmwareImage), s.life.stat ≠ .off → ∃ t, exec (.firmwareImageLoad k img) s = .next t ∧ t.life = s.life ∧
      t.persist.images = s.persist.images.set k.val img ∧
      t.persist.minVersion = if imagePasses s.persist.minVersion img then max s.persist.minVersion img.version else s.persist.minVersion)


namespace Sys2Proof.Machine

/-! ## The machine as a whole -/

/-- What stands outside one warp's registers is the same in two states: memory byte by byte, every host register, every context, queue, launch, core,
copy, link and table, every other warp, and every group but for its warps. -/
structure SameOutside (s t : State) (g w : Nat) : Prop where
  /-- memory -/
  mem : ∀ a, Memory.get t.mem a = Memory.get s.mem a
  /-- BAR 0 -/
  bar : ∀ a, Memory.get t.bar0 a = Memory.get s.bar0 a
  /-- contexts, queues, launches -/
  host : t.ctxs = s.ctxs ∧ t.queues = s.queues ∧ t.launches = s.launches
  /-- the engines -/
  engines : t.cores = s.cores ∧ t.numops = s.numops ∧ t.copies = s.copies ∧ t.binds = s.binds ∧ t.reds = s.reds ∧ t.exchs = s.exchs
  /-- the device -/
  device : t.life = s.life ∧ t.persist = s.persist ∧ t.links = s.links ∧ t.migs = s.migs ∧ t.pools = s.pools ∧ t.l2 = s.l2
  /-- other warps -/
  warps : ∀ g' w', ¬(g' = g ∧ w' = w) → t.warp g' w' = s.warp g' w'
  /-- scratchpads, exchange banks, number areas, tiles and the rest of each group -/
  groups : ∀ g', (t.group g').map (fun x => { x with warps := [] }) = (s.group g').map (fun x => { x with warps := [] })

/-- Registers of a warp but for its scalars, masks, vector registers and FLAGS bits 3 to 0 are the same. -/
structure SameSpecial (y z : Warp) : Prop where
  /-- base, number and index registers, MODE -/
  regs : z.b = y.b ∧ z.n = y.n ∧ z.x = y.x ∧ z.mode = y.mode
  /-- the trap registers and the privilege level -/
  trap : z.trap = y.trap ∧ z.causes = y.causes ∧ z.plvl = y.plvl ∧ z.intrap = y.intrap ∧ z.nthr = y.nthr
  /-- queue maps, counters, what it holds -/
  counts : z.qmap = y.qmap ∧ z.copyN = y.copyN ∧ z.remN = y.remN ∧ z.gsyncN = y.gsyncN ∧ z.csyncN = y.csyncN ∧ z.held = y.held
  /-- fragments and windows -/
  frags : z.slot0 = y.slot0 ∧ z.slot1 = y.slot1 ∧ z.stack = y.stack ∧ z.joins = y.joins ∧ z.wins = y.wins
  /-- the other bits of FLAGS -/
  flags : ∀ k, 4 ≤ k → z.flags.getLsbD k = y.flags.getLsbD k

end Sys2Proof.Machine

open Sys2Proof Sys2Proof.Machine in
/-- 20 R440, 05 R98, 06 R113, 15 R361, 18 R421: without power the device is OFF, every context is FREE and every queue UNBOUND with its codes at 0, PINWIN is 50, every link is
DOWN with no width, and every memory has its canonical form with nothing listed in the module's (log entry 3). -/
def Obligations.ResetLeavesTheModuleOff : Prop :=
  State.reset.life.stat = .off ∧ State.reset.memoriesWf ∧ State.reset.mem = [] ∧ State.reset.groups = [] ∧ State.reset.launches = [] ∧
    State.reset.bar 0x30101C 4 = 50 ∧
    (∀ c : Fin 64, (State.reset.ctxs[c]).st = .free ∧ (State.reset.ctxs[c]).err = 0) ∧
    (∀ q : Fin 256, (State.reset.queues[q]).st = .unbound ∧ (State.reset.queues[q]).err = 0 ∧ (State.reset.queues[q]).head = 0 ∧
      (State.reset.queues[q]).tail = 0) ∧
    (∀ k : Fin 18, (State.reset.links[k]).st = .down ∧ (State.reset.links[k]).width = 0)

open Sys2Proof Sys2Proof.Machine in
/-- 03 R48, 08 R148, 13 R312: when it is a fragment's turn and it can issue, the step is `exec` of what its fetched word decodes to, with what follows from a
step at once around it and the issue slot noted as won; a fetch that fails traps with its cause, and one of a page that migrates waits; the word is the one at its PC in the code section, little-endian; an event's turn is `exec` of the
event, and nothing while the clock of its die stands. The agenda is log entry 1. -/
def Obligations.StepRunsTheDecodedWord : Prop :=
  ∀ (s t : State),
    let after := fun (o : Host.Outcome State Fault Refusal) => match o with
      | .next u => .next u.settle
      | o => o
    (∀ r v w, s.pass.turn = (some (.issue r), t) → t.canIssue r = true → (t.wins r).fetchFor r = some (v, .word w) →
      (∀ i, decodeWord w = .ok i → step s = after (exec i { t.wins r with cur := some r })) ∧
      (∀ e, decodeWord w = .error e → step s = after (exec (.reservedEncoding w) { t.wins r with cur := some r }))) ∧
    (∀ r v, s.pass.turn = (some (.issue r), t) → t.canIssue r = true →
      (∀ k a, (t.wins r).fetchFor r = some (v, .trap k a) → step s = after (.next (v.finish (.error (v.trap k a))))) ∧
      (∀ a, (t.wins r).fetchFor r = some (v, .park a) → step s = after (.next (v.finish (.error (v.parkPage a)))))) ∧
    (s.pass.turn = (none, t) → step s = .next t.settle) ∧
    (∀ r v k pa e, t.viewOf r = some v → v.kernel = some k → v.y.plvl = 0 → k.code ≤ v.pc.toNat → v.pc.toNat < k.code + k.codeSize →
      (v.pc.toNat - k.code) % 4 = 0 → k.pool ((v.pc.toNat - k.code) / 4) = none → k.patched ((v.pc.toNat - k.code) / 4) = none →
      t.xlateCore v.core v.c v.pc.toNat false true = .ok pa e → t.engBad pa 4 = false →
      t.fetchFor r = some (v, .word (BitVec.ofNat 32 (t.engRd pa 4)))) ∧
    (∀ i, s.pass.turn = (some (.event i), t) → isWord i = false →
      (t.halts (t.dieOfEvent i) = false → step s = after (exec i t)) ∧ (t.halts (t.dieOfEvent i) = true → step s = .next t.settle)) ∧
    (∀ r, s.pass.turn = (some (.issue r), t) → t.canIssue r = false → step s = .next t.settle)

open Sys2Proof Sys2Proof.Machine in
/-- 04 R90, 03 R50: words of each class, written field by field, decode to the instructions they stand for, and a word of major 0xE is none. -/
def Obligations.SampleWordsDecode : Prop :=
  decodeWord (0#4 ++ 6#5 ++ 0#23) = .ok .exit ∧
  decodeWord (0#4 ++ 9#5 ++ 83#7 ++ 2#16) = .ok (.ldl2 (.s 3) 2) ∧
  decodeWord (1#4 ++ 1#5 ++ 81#7 ++ 82#7 ++ 121#7 ++ 0#1 ++ 1#1) = .ok (.saluAdd (.s 1) (.s 2) .one false true) ∧
  decodeWord (2#4 ++ 5#5 ++ 3#7 ++ 79#7 ++ 124#7 ++ 1#1 ++ 0#1) = .ok (.valuFma (.v 3) (.v 79) (.vx 0) true false) ∧
  decodeWord (4#4 ++ 1#7 ++ 2#7 ++ 3#7 ++ 123#7) = .ok (.expr (.v 1) (.v 2) (.v 3) .lane) ∧
  decodeWord (13#4 ++ 0#4 ++ 0xFFFFFE#24) = .ok (.bra 0xFFFFFE) ∧
  decodeWord (12#4 ++ 2#5 ++ 0#7 ++ 1#7 ++ 0#9) = .ok .tretSkip ∧
  decodeWord (14#4 ++ 0#28) = .error .reservedMajor

open Sys2Proof Sys2Proof.Machine in
/-- 03 R50 to R55, 04 R90: decoding is the inverse of encoding for every instruction with every operand at every value: the word that encodes an
instruction decodes to it, and a word that decodes to an instruction has an encoding that decodes to the same. -/
def Obligations.DecodeOfEncode : Prop :=
  (∀ (i : Instr) (w : Word), encode i = some w → decodeWord w = .ok i) ∧
  (∀ (w : Word) (i : Instr), decodeWord w = .ok i → ∃ w', encode i = some w' ∧ decodeWord w' = .ok i)

open Sys2Proof Sys2Proof.Machine in
/-- The machine never stops: from every state, reachable or not, a step answers a next state, whatever agent moves and whatever it does; so every run goes
on for ever. -/
def Obligations.StepNeverStops : Prop :=
  (∀ s : State, ∃ t, step s = .next t) ∧ ∀ s : State, s.safe

open Sys2Proof Sys2Proof.Machine in
/-- 15 R347, 11 R257: every step, of whatever agent, keeps the canonical form of every memory: the module's, BAR 0's, and the scratchpad, number area and exchange
banks of every group (log entry 3). -/
def Obligations.StepKeepsMemoriesCanonical : Prop :=
  ∀ s t : State, s.memoriesWf → step s = .next t → t.memoriesWf


open Sys2Proof Sys2Proof.Machine in
/-- 09 R180, 14 R319: what register instructions and memory instructions at issue leave unchanged. 09 R180, R184 to R189, 08 R177: the frame of the register instructions: a scalar or lane-wise instruction that completes changes nothing outside its warp, and in it only its
destination's registers and FLAGS bits 3 to 0; a branch, NOP and SETMODE no scalar, mask or vector register. Every byte of memory is as before. 14 R319, R320: the frame of the memory instructions at issue: an accepted load, store or atomic stores nothing yet: every byte of memory and of every window is as
before, no register but its destination's changes, and a store changes none. -/
def Obligations.InstructionFrames : Prop :=
  ((∀ (s t : State) (v : View) (d a b : Opnd) (wa wb : Bool) (ld la lb : Loc) (i : Instr), Scalar2 s v d a b ld la lb → v.plain = true →
    i ∈ (scalar2Table d a b wa wb).map (·.1) ++ (scalar1Table d a wa).map (·.1) → exec i s = .next t →
    SameOutside s t v.r.g v.r.w ∧ ∀ y, t.warp v.r.g v.r.w = some y → SameSpecial v.y y ∧ y.phys = v.y.phys ∧
      (∀ k, ld ≠ .sca k → y.s[k] = v.y.s[k]) ∧ (∀ k, ld ≠ .msk k → y.m[k] = v.y.m[k])) ∧
  (∀ (s t : State) (v : View) (d a b : Opnd) (wa wb : Bool) (ld la lb : Loc) (i : Instr),
    Lane2 s v kVZ kAny kAny (tyWide v.et) (tyWide v.et) (tyWide v.et) d a b ld la lb → v.plain = true →
    i ∈ (if tyFloat v.et then [.div d a b wa wb] else []) ++ ((lane2Table d a b wa wb).filter (fun e => e.2.1 v.et)).map (·.1) ++ ((lane1Table d a wa).filter (fun e => e.2.1 v.et)).map (·.1) → exec i s = .next t →
    SameOutside s t v.r.g v.r.w ∧ ∀ y, t.warp v.r.g v.r.w = some y → SameSpecial v.y y ∧ y.s = v.y.s ∧ y.m = v.y.m ∧ y.flags = v.y.flags ∧
      ∀ n, (∀ l, ld = .vec l → n ∉ l) → y.vreg n = v.y.vreg n) ∧
  (∀ (s t : State) (v : View) (imm : BitVec 23) (off : BitVec 24) (i : Instr), Issues s v → bits imm 17 15 < 5 → bits imm 14 10 < 24 →
    imm.getLsbD 0 = false → i ∈ [.nop, .setmode imm] ++ (branchTable off).map (·.1) → exec i s = .next t →
    SameOutside s t v.r.g v.r.w ∧ ∀ y, t.warp v.r.g v.r.w = some y → y.s = v.y.s ∧ y.m = v.y.m ∧ y.phys = v.y.phys ∧ y.b = v.y.b ∧ y.n = v.y.n ∧
      y.flags = v.y.flags ∧ y.trap = v.y.trap ∧ y.plvl = v.y.plvl ∧ (i ≠ .setmode imm → y.mode = v.y.mode))) ∧
  (∀ (s t : State) (v : View) (scope : BitVec 3) (order : BitVec 2) (d a : Opnd) (base : BitVec 3) (wd wa : Bool) (la ld : Loc), MemFields s v d a la →
    scope.toNat < 7 →
    let q : MemReq :=
      { kind := .load, space := .mem v.y.b[Fin.ofNat 8 base.toNat], scope := scope.toNat, acq := decide (order.toNat = 1), rel := false,
        scalar := scalarAccess d a, t := v.et, off := la, data := .zero, new := .zero, dst := ld }
    (order.toNat < 2 → v.Dst kVSZ (tyWide v.et) d ld → v.Accepts q → exec (.ld scope order d a base wd wa) s = .next t →
      (∀ p, Memory.get t.mem p = Memory.get s.mem p) ∧ (∀ g', g' ≠ v.r.g → t.group g' = s.group g') ∧
      ∀ y, t.warp v.r.g v.r.w = some y → y.m = v.y.m ∧ y.flags = v.y.flags ∧ y.b = v.y.b ∧ y.n = v.y.n ∧ y.mode = v.y.mode ∧ y.trap = v.y.trap ∧
        (∀ k, ld ≠ .sca k → y.s[k] = v.y.s[k]) ∧ ∀ n, (∀ l, ld = .vec l → n ∉ l) → y.vreg n = v.y.vreg n) ∧
    (order = 0 ∨ order = 2 → v.Src kData (tyWide v.et) d ld →
      v.Accepts { q with kind := .store, acq := false, rel := decide (order.toNat = 2), data := ld, dst := .zero } →
      exec (.st scope order d a base wd wa) s = .next t →
      (∀ p, Memory.get t.mem p = Memory.get s.mem p) ∧ (∀ g', g' ≠ v.r.g → t.group g' = s.group g') ∧
      ∀ y, t.warp v.r.g v.r.w = some y → y.s = v.y.s ∧ y.m = v.y.m ∧ y.flags = v.y.flags ∧ y.b = v.y.b ∧ y.n = v.y.n ∧ y.mode = v.y.mode ∧
        y.trap = v.y.trap ∧ ∀ n, y.vreg n = v.y.vreg n))

open Sys2Proof Sys2Proof.Machine in
/-- 03 R62 to R67, 06 R123: what a scalar instruction of one source does when its operands are not ready: an EMPTY source waits or, with its wait bit, traps with EMPTY; an
ORPHANED one traps with its cause; an EMPTY destination waits; an operand its field does not take is ILLOPND; a queue-mapped source pops, and its register
keeps the last word popped, and the pop of a dry, faulting or migrating queue traps or waits. A RETRY of EMPTY drops the wait bit of the one source that it names (19 R432). -/
def Obligations.OperandReadiness : Prop :=
  ∀ (s : State) (v : View) (d a : Opnd) (wa : Bool), Issues s v → v.et < 12 → ∀ e ∈ scalar1Table d a wa,
    let waits := fun (u : State) (parks : Bool) => Host.Outcome.next ((u.setStatus v.r (.blocked parks)).parkCheck v.r.g v.r.w)
    let code := a.toCode.toNat
    (∀ ld, v.Dst kScalarD false d ld →
      (∀ la, v.resolve kScalar false a = .ok la → (∀ i, la = .sca i → v.y.mapped i = none) →
        (v.y.fills la = [.empty] → wa = false ∨ v.f.nowait = some code → exec e.1 s = waits s true) ∧
        (v.y.fills la = [.empty] → wa = true → v.f.nowait ≠ some code → exec e.1 s = v.trapped 0x05 code v.f.mask) ∧
        (v.y.fills la = [.orphaned .orphan] → exec e.1 s = v.trapped 0x06 code v.f.mask) ∧
        (v.y.fills la = [.orphaned .rfault] → exec e.1 s = v.trapped 0x10 code v.f.mask) ∧
        (v.y.fills la = [.orphaned .rtimeout] → exec e.1 s = v.trapped 0x11 code v.f.mask)) ∧
      (∀ n, a = .v n → exec e.1 s = v.trapped 0x02 0 v.f.mask) ∧ (a = .reserved → exec e.1 s = v.trapped 0x02 0 v.f.mask) ∧
      (∀ i h, a = .s i → v.y.mapped i = some h →
        let me : PopWait := { ctx := v.c, hdr := h, g := v.r.g, w := v.r.w, mask := v.f.mask, pc := v.pc }
        let pop := v.s.popQueue v.core v.c (decide (v.y.plvl = 0)) h.toNat
        let gives := fun (u : State) (x : DWord) (f : Byte) (last : Vector DWord 4) => Host.Outcome.next (v.finish (.ok ((u.delPopWait me).modWarp v.r.g v.r.w
          (fun _ => ({ v.y with s := v.y.s.set i { val := x, fill := .full }, flags := f, popped := last } : Warp).setScalar ld
            (e.2 v.sg (mSat v.y.mode) x)))))
        (∀ u x, pop = .got u x → v.s.popTurn v.c h v.r.g v.r.w v.f.mask = true →
          exec e.1 s = gives u x v.y.flags (v.y.popped.set (Fin.ofNat 4 (i.val - 28)) x)) ∧
        (pop = .dry → mXtrap v.y.mode = false → exec e.1 s = gives v.s 0 (v.y.flags ||| 0x10#8) v.y.popped) ∧
        (pop = .dry → mXtrap v.y.mode = true → exec e.1 s = v.trapped 0x16 0 v.f.mask) ∧
        (∀ u x, pop = .empty ∨ (pop = .got u x ∧ v.s.popTurn v.c h v.r.g v.r.w v.f.mask = false) →
          (wa = false ∨ v.f.nowait = some code → exec e.1 s = waits (s.addPopWait me) true) ∧
          (wa = true → v.f.nowait ≠ some code → exec e.1 s = v.trapped 0x05 code v.f.mask)) ∧
        (∀ va, pop = .park va → exec e.1 s = waits (s.addFault v.c (vpage va) (coreDie v.core) none) true) ∧
        (∀ k n, pop = .fail k n → exec e.1 s = v.trapped k n v.f.mask))) ∧
    (∀ i la, d = .s i → v.Src kScalar false a la → v.y.mapped i = none → (v.y.s[i]).fill = .empty → exec e.1 s = waits s false) ∧
    (∀ i h, d = .s i → v.y.mapped i = some h → exec e.1 s = v.trapped 0x02 0 v.f.mask)
end

