-- ==== Sys2Proof/Laws/State.lean ====
section
/-! SUPPORT. What each update of a state or a warp leaves alone: one lemma per field per update, and the field that it writes. -/

namespace Sys2Proof.Machine


/-! ## Updates of a state -/

@[simp] theorem State.modGroup_life (s : State) (g : Nat) (k : Group → Group) : (s.modGroup g k).life = s.life := rfl
@[simp] theorem State.modGroup_persist (s : State) (g : Nat) (k : Group → Group) : (s.modGroup g k).persist = s.persist := rfl
@[simp] theorem State.modGroup_mem (s : State) (g : Nat) (k : Group → Group) : (s.modGroup g k).mem = s.mem := rfl
@[simp] theorem State.modGroup_bad (s : State) (g : Nat) (k : Group → Group) : (s.modGroup g k).bad = s.bad := rfl
@[simp] theorem State.modGroup_bar0 (s : State) (g : Nat) (k : Group → Group) : (s.modGroup g k).bar0 = s.bar0 := rfl
@[simp] theorem State.modGroup_ctxs (s : State) (g : Nat) (k : Group → Group) : (s.modGroup g k).ctxs = s.ctxs := rfl
@[simp] theorem State.modGroup_queues (s : State) (g : Nat) (k : Group → Group) : (s.modGroup g k).queues = s.queues := rfl
@[simp] theorem State.modGroup_qptr (s : State) (g : Nat) (k : Group → Group) : (s.modGroup g k).qptr = s.qptr := rfl
@[simp] theorem State.modGroup_launches (s : State) (g : Nat) (k : Group → Group) : (s.modGroup g k).launches = s.launches := rfl
@[simp] theorem State.modGroup_cores (s : State) (g : Nat) (k : Group → Group) : (s.modGroup g k).cores = s.cores := rfl
@[simp] theorem State.modGroup_memops (s : State) (g : Nat) (k : Group → Group) : (s.modGroup g k).memops = s.memops := rfl
@[simp] theorem State.modGroup_numops (s : State) (g : Nat) (k : Group → Group) : (s.modGroup g k).numops = s.numops := rfl
@[simp] theorem State.modGroup_popWaits (s : State) (g : Nat) (k : Group → Group) : (s.modGroup g k).popWaits = s.popWaits := rfl
@[simp] theorem State.modGroup_hods (s : State) (g : Nat) (k : Group → Group) : (s.modGroup g k).hods = s.hods := rfl
@[simp] theorem State.modGroup_copies (s : State) (g : Nat) (k : Group → Group) : (s.modGroup g k).copies = s.copies := rfl
@[simp] theorem State.modGroup_engines (s : State) (g : Nat) (k : Group → Group) : (s.modGroup g k).engines = s.engines := rfl
@[simp] theorem State.modGroup_exchs (s : State) (g : Nat) (k : Group → Group) : (s.modGroup g k).exchs = s.exchs := rfl
@[simp] theorem State.modGroup_clusters (s : State) (g : Nat) (k : Group → Group) : (s.modGroup g k).clusters = s.clusters := rfl
@[simp] theorem State.modGroup_reds (s : State) (g : Nat) (k : Group → Group) : (s.modGroup g k).reds = s.reds := rfl
@[simp] theorem State.modGroup_remotes (s : State) (g : Nat) (k : Group → Group) : (s.modGroup g k).remotes = s.remotes := rfl
@[simp] theorem State.modGroup_migs (s : State) (g : Nat) (k : Group → Group) : (s.modGroup g k).migs = s.migs := rfl
@[simp] theorem State.modGroup_pins (s : State) (g : Nat) (k : Group → Group) : (s.modGroup g k).pins = s.pins := rfl
@[simp] theorem State.modGroup_pools (s : State) (g : Nat) (k : Group → Group) : (s.modGroup g k).pools = s.pools := rfl
@[simp] theorem State.modGroup_mstat (s : State) (g : Nat) (k : Group → Group) : (s.modGroup g k).mstat = s.mstat := rfl
@[simp] theorem State.modGroup_mcmd (s : State) (g : Nat) (k : Group → Group) : (s.modGroup g k).mcmd = s.mcmd := rfl
@[simp] theorem State.modGroup_binds (s : State) (g : Nat) (k : Group → Group) : (s.modGroup g k).binds = s.binds := rfl
@[simp] theorem State.modGroup_l2 (s : State) (g : Nat) (k : Group → Group) : (s.modGroup g k).l2 = s.l2 := rfl
@[simp] theorem State.modGroup_l2fills (s : State) (g : Nat) (k : Group → Group) : (s.modGroup g k).l2fills = s.l2fills := rfl
@[simp] theorem State.modGroup_through (s : State) (g : Nat) (k : Group → Group) : (s.modGroup g k).through = s.through := rfl
@[simp] theorem State.modGroup_channels (s : State) (g : Nat) (k : Group → Group) : (s.modGroup g k).channels = s.channels := rfl
@[simp] theorem State.modGroup_ath (s : State) (g : Nat) (k : Group → Group) : (s.modGroup g k).ath = s.ath := rfl
@[simp] theorem State.modGroup_links (s : State) (g : Nat) (k : Group → Group) : (s.modGroup g k).links = s.links := rfl
@[simp] theorem State.modGroup_psend (s : State) (g : Nat) (k : Group → Group) : (s.modGroup g k).psend = s.psend := rfl
@[simp] theorem State.modGroup_pexpect (s : State) (g : Nat) (k : Group → Group) : (s.modGroup g k).pexpect = s.pexpect := rfl
@[simp] theorem State.modGroup_inbound (s : State) (g : Nat) (k : Group → Group) : (s.modGroup g k).inbound = s.inbound := rfl
@[simp] theorem State.modGroup_cur (s : State) (g : Nat) (k : Group → Group) : (s.modGroup g k).cur = s.cur := rfl
@[simp] theorem State.modGroup_agenda (s : State) (g : Nat) (k : Group → Group) : (s.modGroup g k).agenda = s.agenda := rfl
@[simp] theorem State.modGroup_tick (s : State) (g : Nat) (k : Group → Group) : (s.modGroup g k).tick = s.tick := rfl
@[simp] theorem State.modGroup_uid (s : State) (g : Nat) (k : Group → Group) : (s.modGroup g k).uid = s.uid := rfl
@[simp] theorem State.modGroup_stations (s : State) (g : Nat) (k : Group → Group) : (s.modGroup g k).stations = s.stations := rfl
@[simp] theorem State.modGroup_ready (s : State) (g : Nat) (k : Group → Group) : (s.modGroup g k).ready = s.ready := rfl
@[simp] theorem State.modGroup_lostPage (s : State) (g : Nat) (k : Group → Group) : (s.modGroup g k).lostPage = s.lostPage := rfl
@[simp] theorem State.modGroup_groups (s : State) (g : Nat) (k : Group → Group) : (s.modGroup g k).groups = tmod s.groups g k := rfl
@[simp] theorem State.modWarp_life (s : State) (g w : Nat) (k : Warp → Warp) : (s.modWarp g w k).life = s.life := rfl
@[simp] theorem State.modWarp_persist (s : State) (g w : Nat) (k : Warp → Warp) : (s.modWarp g w k).persist = s.persist := rfl
@[simp] theorem State.modWarp_mem (s : State) (g w : Nat) (k : Warp → Warp) : (s.modWarp g w k).mem = s.mem := rfl
@[simp] theorem State.modWarp_bad (s : State) (g w : Nat) (k : Warp → Warp) : (s.modWarp g w k).bad = s.bad := rfl
@[simp] theorem State.modWarp_bar0 (s : State) (g w : Nat) (k : Warp → Warp) : (s.modWarp g w k).bar0 = s.bar0 := rfl
@[simp] theorem State.modWarp_ctxs (s : State) (g w : Nat) (k : Warp → Warp) : (s.modWarp g w k).ctxs = s.ctxs := rfl
@[simp] theorem State.modWarp_queues (s : State) (g w : Nat) (k : Warp → Warp) : (s.modWarp g w k).queues = s.queues := rfl
@[simp] theorem State.modWarp_qptr (s : State) (g w : Nat) (k : Warp → Warp) : (s.modWarp g w k).qptr = s.qptr := rfl
@[simp] theorem State.modWarp_launches (s : State) (g w : Nat) (k : Warp → Warp) : (s.modWarp g w k).launches = s.launches := rfl
@[simp] theorem State.modWarp_cores (s : State) (g w : Nat) (k : Warp → Warp) : (s.modWarp g w k).cores = s.cores := rfl
@[simp] theorem State.modWarp_memops (s : State) (g w : Nat) (k : Warp → Warp) : (s.modWarp g w k).memops = s.memops := rfl
@[simp] theorem State.modWarp_numops (s : State) (g w : Nat) (k : Warp → Warp) : (s.modWarp g w k).numops = s.numops := rfl
@[simp] theorem State.modWarp_popWaits (s : State) (g w : Nat) (k : Warp → Warp) : (s.modWarp g w k).popWaits = s.popWaits := rfl
@[simp] theorem State.modWarp_hods (s : State) (g w : Nat) (k : Warp → Warp) : (s.modWarp g w k).hods = s.hods := rfl
@[simp] theorem State.modWarp_copies (s : State) (g w : Nat) (k : Warp → Warp) : (s.modWarp g w k).copies = s.copies := rfl
@[simp] theorem State.modWarp_engines (s : State) (g w : Nat) (k : Warp → Warp) : (s.modWarp g w k).engines = s.engines := rfl
@[simp] theorem State.modWarp_exchs (s : State) (g w : Nat) (k : Warp → Warp) : (s.modWarp g w k).exchs = s.exchs := rfl
@[simp] theorem State.modWarp_clusters (s : State) (g w : Nat) (k : Warp → Warp) : (s.modWarp g w k).clusters = s.clusters := rfl
@[simp] theorem State.modWarp_reds (s : State) (g w : Nat) (k : Warp → Warp) : (s.modWarp g w k).reds = s.reds := rfl
@[simp] theorem State.modWarp_remotes (s : State) (g w : Nat) (k : Warp → Warp) : (s.modWarp g w k).remotes = s.remotes := rfl
@[simp] theorem State.modWarp_migs (s : State) (g w : Nat) (k : Warp → Warp) : (s.modWarp g w k).migs = s.migs := rfl
@[simp] theorem State.modWarp_pins (s : State) (g w : Nat) (k : Warp → Warp) : (s.modWarp g w k).pins = s.pins := rfl
@[simp] theorem State.modWarp_pools (s : State) (g w : Nat) (k : Warp → Warp) : (s.modWarp g w k).pools = s.pools := rfl
@[simp] theorem State.modWarp_mstat (s : State) (g w : Nat) (k : Warp → Warp) : (s.modWarp g w k).mstat = s.mstat := rfl
@[simp] theorem State.modWarp_mcmd (s : State) (g w : Nat) (k : Warp → Warp) : (s.modWarp g w k).mcmd = s.mcmd := rfl
@[simp] theorem State.modWarp_binds (s : State) (g w : Nat) (k : Warp → Warp) : (s.modWarp g w k).binds = s.binds := rfl
@[simp] theorem State.modWarp_l2 (s : State) (g w : Nat) (k : Warp → Warp) : (s.modWarp g w k).l2 = s.l2 := rfl
@[simp] theorem State.modWarp_l2fills (s : State) (g w : Nat) (k : Warp → Warp) : (s.modWarp g w k).l2fills = s.l2fills := rfl
@[simp] theorem State.modWarp_through (s : State) (g w : Nat) (k : Warp → Warp) : (s.modWarp g w k).through = s.through := rfl
@[simp] theorem State.modWarp_channels (s : State) (g w : Nat) (k : Warp → Warp) : (s.modWarp g w k).channels = s.channels := rfl
@[simp] theorem State.modWarp_ath (s : State) (g w : Nat) (k : Warp → Warp) : (s.modWarp g w k).ath = s.ath := rfl
@[simp] theorem State.modWarp_links (s : State) (g w : Nat) (k : Warp → Warp) : (s.modWarp g w k).links = s.links := rfl
@[simp] theorem State.modWarp_psend (s : State) (g w : Nat) (k : Warp → Warp) : (s.modWarp g w k).psend = s.psend := rfl
@[simp] theorem State.modWarp_pexpect (s : State) (g w : Nat) (k : Warp → Warp) : (s.modWarp g w k).pexpect = s.pexpect := rfl
@[simp] theorem State.modWarp_inbound (s : State) (g w : Nat) (k : Warp → Warp) : (s.modWarp g w k).inbound = s.inbound := rfl
@[simp] theorem State.modWarp_cur (s : State) (g w : Nat) (k : Warp → Warp) : (s.modWarp g w k).cur = s.cur := rfl
@[simp] theorem State.modWarp_agenda (s : State) (g w : Nat) (k : Warp → Warp) : (s.modWarp g w k).agenda = s.agenda := rfl
@[simp] theorem State.modWarp_tick (s : State) (g w : Nat) (k : Warp → Warp) : (s.modWarp g w k).tick = s.tick := rfl
@[simp] theorem State.modWarp_uid (s : State) (g w : Nat) (k : Warp → Warp) : (s.modWarp g w k).uid = s.uid := rfl
@[simp] theorem State.modWarp_stations (s : State) (g w : Nat) (k : Warp → Warp) : (s.modWarp g w k).stations = s.stations := rfl
@[simp] theorem State.modWarp_ready (s : State) (g w : Nat) (k : Warp → Warp) : (s.modWarp g w k).ready = s.ready := rfl
@[simp] theorem State.modWarp_lostPage (s : State) (g w : Nat) (k : Warp → Warp) : (s.modWarp g w k).lostPage = s.lostPage := rfl
@[simp] theorem State.modWarp_groups (s : State) (g w : Nat) (k : Warp → Warp) : (s.modWarp g w k).groups = tmod s.groups g (·.modWarp w k) := rfl
@[simp] theorem State.modCtx_life (s : State) (c : Fin 64) (k : Ctx → Ctx) : (s.modCtx c k).life = s.life := rfl
@[simp] theorem State.modCtx_persist (s : State) (c : Fin 64) (k : Ctx → Ctx) : (s.modCtx c k).persist = s.persist := rfl
@[simp] theorem State.modCtx_mem (s : State) (c : Fin 64) (k : Ctx → Ctx) : (s.modCtx c k).mem = s.mem := rfl
@[simp] theorem State.modCtx_bad (s : State) (c : Fin 64) (k : Ctx → Ctx) : (s.modCtx c k).bad = s.bad := rfl
@[simp] theorem State.modCtx_bar0 (s : State) (c : Fin 64) (k : Ctx → Ctx) : (s.modCtx c k).bar0 = s.bar0 := rfl
@[simp] theorem State.modCtx_queues (s : State) (c : Fin 64) (k : Ctx → Ctx) : (s.modCtx c k).queues = s.queues := rfl
@[simp] theorem State.modCtx_qptr (s : State) (c : Fin 64) (k : Ctx → Ctx) : (s.modCtx c k).qptr = s.qptr := rfl
@[simp] theorem State.modCtx_launches (s : State) (c : Fin 64) (k : Ctx → Ctx) : (s.modCtx c k).launches = s.launches := rfl
@[simp] theorem State.modCtx_groups (s : State) (c : Fin 64) (k : Ctx → Ctx) : (s.modCtx c k).groups = s.groups := rfl
@[simp] theorem State.modCtx_cores (s : State) (c : Fin 64) (k : Ctx → Ctx) : (s.modCtx c k).cores = s.cores := rfl
@[simp] theorem State.modCtx_memops (s : State) (c : Fin 64) (k : Ctx → Ctx) : (s.modCtx c k).memops = s.memops := rfl
@[simp] theorem State.modCtx_numops (s : State) (c : Fin 64) (k : Ctx → Ctx) : (s.modCtx c k).numops = s.numops := rfl
@[simp] theorem State.modCtx_popWaits (s : State) (c : Fin 64) (k : Ctx → Ctx) : (s.modCtx c k).popWaits = s.popWaits := rfl
@[simp] theorem State.modCtx_hods (s : State) (c : Fin 64) (k : Ctx → Ctx) : (s.modCtx c k).hods = s.hods := rfl
@[simp] theorem State.modCtx_copies (s : State) (c : Fin 64) (k : Ctx → Ctx) : (s.modCtx c k).copies = s.copies := rfl
@[simp] theorem State.modCtx_engines (s : State) (c : Fin 64) (k : Ctx → Ctx) : (s.modCtx c k).engines = s.engines := rfl
@[simp] theorem State.modCtx_exchs (s : State) (c : Fin 64) (k : Ctx → Ctx) : (s.modCtx c k).exchs = s.exchs := rfl
@[simp] theorem State.modCtx_clusters (s : State) (c : Fin 64) (k : Ctx → Ctx) : (s.modCtx c k).clusters = s.clusters := rfl
@[simp] theorem State.modCtx_reds (s : State) (c : Fin 64) (k : Ctx → Ctx) : (s.modCtx c k).reds = s.reds := rfl
@[simp] theorem State.modCtx_remotes (s : State) (c : Fin 64) (k : Ctx → Ctx) : (s.modCtx c k).remotes = s.remotes := rfl
@[simp] theorem State.modCtx_migs (s : State) (c : Fin 64) (k : Ctx → Ctx) : (s.modCtx c k).migs = s.migs := rfl
@[simp] theorem State.modCtx_pins (s : State) (c : Fin 64) (k : Ctx → Ctx) : (s.modCtx c k).pins = s.pins := rfl
@[simp] theorem State.modCtx_pools (s : State) (c : Fin 64) (k : Ctx → Ctx) : (s.modCtx c k).pools = s.pools := rfl
@[simp] theorem State.modCtx_mstat (s : State) (c : Fin 64) (k : Ctx → Ctx) : (s.modCtx c k).mstat = s.mstat := rfl
@[simp] theorem State.modCtx_mcmd (s : State) (c : Fin 64) (k : Ctx → Ctx) : (s.modCtx c k).mcmd = s.mcmd := rfl
@[simp] theorem State.modCtx_binds (s : State) (c : Fin 64) (k : Ctx → Ctx) : (s.modCtx c k).binds = s.binds := rfl
@[simp] theorem State.modCtx_l2 (s : State) (c : Fin 64) (k : Ctx → Ctx) : (s.modCtx c k).l2 = s.l2 := rfl
@[simp] theorem State.modCtx_l2fills (s : State) (c : Fin 64) (k : Ctx → Ctx) : (s.modCtx c k).l2fills = s.l2fills := rfl
@[simp] theorem State.modCtx_through (s : State) (c : Fin 64) (k : Ctx → Ctx) : (s.modCtx c k).through = s.through := rfl
@[simp] theorem State.modCtx_channels (s : State) (c : Fin 64) (k : Ctx → Ctx) : (s.modCtx c k).channels = s.channels := rfl
@[simp] theorem State.modCtx_ath (s : State) (c : Fin 64) (k : Ctx → Ctx) : (s.modCtx c k).ath = s.ath := rfl
@[simp] theorem State.modCtx_links (s : State) (c : Fin 64) (k : Ctx → Ctx) : (s.modCtx c k).links = s.links := rfl
@[simp] theorem State.modCtx_psend (s : State) (c : Fin 64) (k : Ctx → Ctx) : (s.modCtx c k).psend = s.psend := rfl
@[simp] theorem State.modCtx_pexpect (s : State) (c : Fin 64) (k : Ctx → Ctx) : (s.modCtx c k).pexpect = s.pexpect := rfl
@[simp] theorem State.modCtx_inbound (s : State) (c : Fin 64) (k : Ctx → Ctx) : (s.modCtx c k).inbound = s.inbound := rfl
@[simp] theorem State.modCtx_cur (s : State) (c : Fin 64) (k : Ctx → Ctx) : (s.modCtx c k).cur = s.cur := rfl
@[simp] theorem State.modCtx_agenda (s : State) (c : Fin 64) (k : Ctx → Ctx) : (s.modCtx c k).agenda = s.agenda := rfl
@[simp] theorem State.modCtx_tick (s : State) (c : Fin 64) (k : Ctx → Ctx) : (s.modCtx c k).tick = s.tick := rfl
@[simp] theorem State.modCtx_stations (s : State) (c : Fin 64) (k : Ctx → Ctx) : (s.modCtx c k).stations = s.stations := rfl
@[simp] theorem State.modCtx_ready (s : State) (c : Fin 64) (k : Ctx → Ctx) : (s.modCtx c k).ready = s.ready := rfl
@[simp] theorem State.modCtx_lostPage (s : State) (c : Fin 64) (k : Ctx → Ctx) : (s.modCtx c k).lostPage = s.lostPage := rfl
@[simp] theorem State.modCtx_uid (s : State) (c : Fin 64) (k : Ctx → Ctx) : (s.modCtx c k).uid = s.uid := rfl
@[simp] theorem State.wr_life (s : State) (p n x : Nat) : (s.wr p n x).life = s.life := rfl
@[simp] theorem State.wr_persist (s : State) (p n x : Nat) : (s.wr p n x).persist = s.persist := rfl
@[simp] theorem State.wr_bad (s : State) (p n x : Nat) : (s.wr p n x).bad = s.bad := rfl
@[simp] theorem State.wr_bar0 (s : State) (p n x : Nat) : (s.wr p n x).bar0 = s.bar0 := rfl
@[simp] theorem State.wr_ctxs (s : State) (p n x : Nat) : (s.wr p n x).ctxs = s.ctxs := rfl
@[simp] theorem State.wr_queues (s : State) (p n x : Nat) : (s.wr p n x).queues = s.queues := rfl
@[simp] theorem State.wr_qptr (s : State) (p n x : Nat) : (s.wr p n x).qptr = s.qptr := rfl
@[simp] theorem State.wr_launches (s : State) (p n x : Nat) : (s.wr p n x).launches = s.launches := rfl
@[simp] theorem State.wr_groups (s : State) (p n x : Nat) : (s.wr p n x).groups = s.groups := rfl
@[simp] theorem State.wr_cores (s : State) (p n x : Nat) : (s.wr p n x).cores = s.cores := rfl
@[simp] theorem State.wr_memops (s : State) (p n x : Nat) : (s.wr p n x).memops = s.memops := rfl
@[simp] theorem State.wr_numops (s : State) (p n x : Nat) : (s.wr p n x).numops = s.numops := rfl
@[simp] theorem State.wr_popWaits (s : State) (p n x : Nat) : (s.wr p n x).popWaits = s.popWaits := rfl
@[simp] theorem State.wr_hods (s : State) (p n x : Nat) : (s.wr p n x).hods = s.hods := rfl
@[simp] theorem State.wr_copies (s : State) (p n x : Nat) : (s.wr p n x).copies = s.copies := rfl
@[simp] theorem State.wr_engines (s : State) (p n x : Nat) : (s.wr p n x).engines = s.engines := rfl
@[simp] theorem State.wr_exchs (s : State) (p n x : Nat) : (s.wr p n x).exchs = s.exchs := rfl
@[simp] theorem State.wr_clusters (s : State) (p n x : Nat) : (s.wr p n x).clusters = s.clusters := rfl
@[simp] theorem State.wr_reds (s : State) (p n x : Nat) : (s.wr p n x).reds = s.reds := rfl
@[simp] theorem State.wr_remotes (s : State) (p n x : Nat) : (s.wr p n x).remotes = s.remotes := rfl
@[simp] theorem State.wr_migs (s : State) (p n x : Nat) : (s.wr p n x).migs = s.migs := rfl
@[simp] theorem State.wr_pins (s : State) (p n x : Nat) : (s.wr p n x).pins = s.pins := rfl
@[simp] theorem State.wr_pools (s : State) (p n x : Nat) : (s.wr p n x).pools = s.pools := rfl
@[simp] theorem State.wr_mstat (s : State) (p n x : Nat) : (s.wr p n x).mstat = s.mstat := rfl
@[simp] theorem State.wr_mcmd (s : State) (p n x : Nat) : (s.wr p n x).mcmd = s.mcmd := rfl
@[simp] theorem State.wr_binds (s : State) (p n x : Nat) : (s.wr p n x).binds = s.binds := rfl
@[simp] theorem State.wr_l2 (s : State) (p n x : Nat) : (s.wr p n x).l2 = s.l2 := rfl
@[simp] theorem State.wr_l2fills (s : State) (p n x : Nat) : (s.wr p n x).l2fills = s.l2fills := rfl
@[simp] theorem State.wr_through (s : State) (p n x : Nat) : (s.wr p n x).through = s.through := rfl
@[simp] theorem State.wr_channels (s : State) (p n x : Nat) : (s.wr p n x).channels = s.channels := rfl
@[simp] theorem State.wr_ath (s : State) (p n x : Nat) : (s.wr p n x).ath = s.ath := rfl
@[simp] theorem State.wr_links (s : State) (p n x : Nat) : (s.wr p n x).links = s.links := rfl
@[simp] theorem State.wr_psend (s : State) (p n x : Nat) : (s.wr p n x).psend = s.psend := rfl
@[simp] theorem State.wr_pexpect (s : State) (p n x : Nat) : (s.wr p n x).pexpect = s.pexpect := rfl
@[simp] theorem State.wr_inbound (s : State) (p n x : Nat) : (s.wr p n x).inbound = s.inbound := rfl
@[simp] theorem State.wr_cur (s : State) (p n x : Nat) : (s.wr p n x).cur = s.cur := rfl
@[simp] theorem State.wr_agenda (s : State) (p n x : Nat) : (s.wr p n x).agenda = s.agenda := rfl
@[simp] theorem State.wr_tick (s : State) (p n x : Nat) : (s.wr p n x).tick = s.tick := rfl
@[simp] theorem State.wr_uid (s : State) (p n x : Nat) : (s.wr p n x).uid = s.uid := rfl
@[simp] theorem State.wr_stations (s : State) (p n x : Nat) : (s.wr p n x).stations = s.stations := rfl
@[simp] theorem State.wr_ready (s : State) (p n x : Nat) : (s.wr p n x).ready = s.ready := rfl
@[simp] theorem State.wr_lostPage (s : State) (p n x : Nat) : (s.wr p n x).lostPage = s.lostPage := rfl
@[simp] theorem State.wr_mem (s : State) (p n x : Nat) : (s.wr p n x).mem = Memory.wr s.mem p n x := rfl
@[simp] theorem State.setBar_life (s : State) (p n x : Nat) : (s.setBar p n x).life = s.life := rfl
@[simp] theorem State.setBar_persist (s : State) (p n x : Nat) : (s.setBar p n x).persist = s.persist := rfl
@[simp] theorem State.setBar_mem (s : State) (p n x : Nat) : (s.setBar p n x).mem = s.mem := rfl
@[simp] theorem State.setBar_bad (s : State) (p n x : Nat) : (s.setBar p n x).bad = s.bad := rfl
@[simp] theorem State.setBar_ctxs (s : State) (p n x : Nat) : (s.setBar p n x).ctxs = s.ctxs := rfl
@[simp] theorem State.setBar_queues (s : State) (p n x : Nat) : (s.setBar p n x).queues = s.queues := rfl
@[simp] theorem State.setBar_qptr (s : State) (p n x : Nat) : (s.setBar p n x).qptr = s.qptr := rfl
@[simp] theorem State.setBar_launches (s : State) (p n x : Nat) : (s.setBar p n x).launches = s.launches := rfl
@[simp] theorem State.setBar_groups (s : State) (p n x : Nat) : (s.setBar p n x).groups = s.groups := rfl
@[simp] theorem State.setBar_cores (s : State) (p n x : Nat) : (s.setBar p n x).cores = s.cores := rfl
@[simp] theorem State.setBar_memops (s : State) (p n x : Nat) : (s.setBar p n x).memops = s.memops := rfl
@[simp] theorem State.setBar_numops (s : State) (p n x : Nat) : (s.setBar p n x).numops = s.numops := rfl
@[simp] theorem State.setBar_popWaits (s : State) (p n x : Nat) : (s.setBar p n x).popWaits = s.popWaits := rfl
@[simp] theorem State.setBar_hods (s : State) (p n x : Nat) : (s.setBar p n x).hods = s.hods := rfl
@[simp] theorem State.setBar_copies (s : State) (p n x : Nat) : (s.setBar p n x).copies = s.copies := rfl
@[simp] theorem State.setBar_engines (s : State) (p n x : Nat) : (s.setBar p n x).engines = s.engines := rfl
@[simp] theorem State.setBar_exchs (s : State) (p n x : Nat) : (s.setBar p n x).exchs = s.exchs := rfl
@[simp] theorem State.setBar_clusters (s : State) (p n x : Nat) : (s.setBar p n x).clusters = s.clusters := rfl
@[simp] theorem State.setBar_reds (s : State) (p n x : Nat) : (s.setBar p n x).reds = s.reds := rfl
@[simp] theorem State.setBar_remotes (s : State) (p n x : Nat) : (s.setBar p n x).remotes = s.remotes := rfl
@[simp] theorem State.setBar_migs (s : State) (p n x : Nat) : (s.setBar p n x).migs = s.migs := rfl
@[simp] theorem State.setBar_pins (s : State) (p n x : Nat) : (s.setBar p n x).pins = s.pins := rfl
@[simp] theorem State.setBar_pools (s : State) (p n x : Nat) : (s.setBar p n x).pools = s.pools := rfl
@[simp] theorem State.setBar_mstat (s : State) (p n x : Nat) : (s.setBar p n x).mstat = s.mstat := rfl
@[simp] theorem State.setBar_mcmd (s : State) (p n x : Nat) : (s.setBar p n x).mcmd = s.mcmd := rfl
@[simp] theorem State.setBar_binds (s : State) (p n x : Nat) : (s.setBar p n x).binds = s.binds := rfl
@[simp] theorem State.setBar_l2 (s : State) (p n x : Nat) : (s.setBar p n x).l2 = s.l2 := rfl
@[simp] theorem State.setBar_l2fills (s : State) (p n x : Nat) : (s.setBar p n x).l2fills = s.l2fills := rfl
@[simp] theorem State.setBar_through (s : State) (p n x : Nat) : (s.setBar p n x).through = s.through := rfl
@[simp] theorem State.setBar_channels (s : State) (p n x : Nat) : (s.setBar p n x).channels = s.channels := rfl
@[simp] theorem State.setBar_ath (s : State) (p n x : Nat) : (s.setBar p n x).ath = s.ath := rfl
@[simp] theorem State.setBar_links (s : State) (p n x : Nat) : (s.setBar p n x).links = s.links := rfl
@[simp] theorem State.setBar_psend (s : State) (p n x : Nat) : (s.setBar p n x).psend = s.psend := rfl
@[simp] theorem State.setBar_pexpect (s : State) (p n x : Nat) : (s.setBar p n x).pexpect = s.pexpect := rfl
@[simp] theorem State.setBar_inbound (s : State) (p n x : Nat) : (s.setBar p n x).inbound = s.inbound := rfl
@[simp] theorem State.setBar_cur (s : State) (p n x : Nat) : (s.setBar p n x).cur = s.cur := rfl
@[simp] theorem State.setBar_agenda (s : State) (p n x : Nat) : (s.setBar p n x).agenda = s.agenda := rfl
@[simp] theorem State.setBar_tick (s : State) (p n x : Nat) : (s.setBar p n x).tick = s.tick := rfl
@[simp] theorem State.setBar_uid (s : State) (p n x : Nat) : (s.setBar p n x).uid = s.uid := rfl
@[simp] theorem State.setBar_stations (s : State) (p n x : Nat) : (s.setBar p n x).stations = s.stations := rfl
@[simp] theorem State.setBar_ready (s : State) (p n x : Nat) : (s.setBar p n x).ready = s.ready := rfl
@[simp] theorem State.setBar_lostPage (s : State) (p n x : Nat) : (s.setBar p n x).lostPage = s.lostPage := rfl
@[simp] theorem State.setBar_bar0 (s : State) (p n x : Nat) : (s.setBar p n x).bar0 = Memory.wr s.bar0 p n x := rfl

/-! ## Updates of a warp -/

@[simp] theorem Warp.setS_m (y : Warp) (i : Fin 32) (x : DWord) : (y.setS i x).m = y.m := rfl
@[simp] theorem Warp.setS_b (y : Warp) (i : Fin 32) (x : DWord) : (y.setS i x).b = y.b := rfl
@[simp] theorem Warp.setS_n (y : Warp) (i : Fin 32) (x : DWord) : (y.setS i x).n = y.n := rfl
@[simp] theorem Warp.setS_x (y : Warp) (i : Fin 32) (x : DWord) : (y.setS i x).x = y.x := rfl
@[simp] theorem Warp.setS_mode (y : Warp) (i : Fin 32) (x : DWord) : (y.setS i x).mode = y.mode := rfl
@[simp] theorem Warp.setS_flags (y : Warp) (i : Fin 32) (x : DWord) : (y.setS i x).flags = y.flags := rfl
@[simp] theorem Warp.setS_phys (y : Warp) (i : Fin 32) (x : DWord) : (y.setS i x).phys = y.phys := rfl
@[simp] theorem Warp.setS_nextPhys (y : Warp) (i : Fin 32) (x : DWord) : (y.setS i x).nextPhys = y.nextPhys := rfl
@[simp] theorem Warp.setS_wins (y : Warp) (i : Fin 32) (x : DWord) : (y.setS i x).wins = y.wins := rfl
@[simp] theorem Warp.setS_nextWin (y : Warp) (i : Fin 32) (x : DWord) : (y.setS i x).nextWin = y.nextWin := rfl
@[simp] theorem Warp.setS_slot0 (y : Warp) (i : Fin 32) (x : DWord) : (y.setS i x).slot0 = y.slot0 := rfl
@[simp] theorem Warp.setS_slot1 (y : Warp) (i : Fin 32) (x : DWord) : (y.setS i x).slot1 = y.slot1 := rfl
@[simp] theorem Warp.setS_stack (y : Warp) (i : Fin 32) (x : DWord) : (y.setS i x).stack = y.stack := rfl
@[simp] theorem Warp.setS_joins (y : Warp) (i : Fin 32) (x : DWord) : (y.setS i x).joins = y.joins := rfl
@[simp] theorem Warp.setS_helper (y : Warp) (i : Fin 32) (x : DWord) : (y.setS i x).helper = y.helper := rfl
@[simp] theorem Warp.setS_qmap (y : Warp) (i : Fin 32) (x : DWord) : (y.setS i x).qmap = y.qmap := rfl
@[simp] theorem Warp.setS_attach (y : Warp) (i : Fin 32) (x : DWord) : (y.setS i x).attach = y.attach := rfl
@[simp] theorem Warp.setS_copyN (y : Warp) (i : Fin 32) (x : DWord) : (y.setS i x).copyN = y.copyN := rfl
@[simp] theorem Warp.setS_remN (y : Warp) (i : Fin 32) (x : DWord) : (y.setS i x).remN = y.remN := rfl
@[simp] theorem Warp.setS_ecopy (y : Warp) (i : Fin 32) (x : DWord) : (y.setS i x).ecopy = y.ecopy := rfl
@[simp] theorem Warp.setS_erem (y : Warp) (i : Fin 32) (x : DWord) : (y.setS i x).erem = y.erem := rfl
@[simp] theorem Warp.setS_gsyncN (y : Warp) (i : Fin 32) (x : DWord) : (y.setS i x).gsyncN = y.gsyncN := rfl
@[simp] theorem Warp.setS_csyncN (y : Warp) (i : Fin 32) (x : DWord) : (y.setS i x).csyncN = y.csyncN := rfl
@[simp] theorem Warp.setS_plvl (y : Warp) (i : Fin 32) (x : DWord) : (y.setS i x).plvl = y.plvl := rfl
@[simp] theorem Warp.setS_nthr (y : Warp) (i : Fin 32) (x : DWord) : (y.setS i x).nthr = y.nthr := rfl
@[simp] theorem Warp.setS_trap (y : Warp) (i : Fin 32) (x : DWord) : (y.setS i x).trap = y.trap := rfl
@[simp] theorem Warp.setS_causes (y : Warp) (i : Fin 32) (x : DWord) : (y.setS i x).causes = y.causes := rfl
@[simp] theorem Warp.setS_kept (y : Warp) (i : Fin 32) (x : DWord) : (y.setS i x).kept = y.kept := rfl
@[simp] theorem Warp.setS_due (y : Warp) (i : Fin 32) (x : DWord) : (y.setS i x).due = y.due := rfl
@[simp] theorem Warp.setS_held (y : Warp) (i : Fin 32) (x : DWord) : (y.setS i x).held = y.held := rfl
@[simp] theorem Warp.setS_sched (y : Warp) (i : Fin 32) (x : DWord) : (y.setS i x).sched = y.sched := rfl
@[simp] theorem Warp.setS_intrap (y : Warp) (i : Fin 32) (x : DWord) : (y.setS i x).intrap = y.intrap := rfl
@[simp] theorem Warp.setS_since (y : Warp) (i : Fin 32) (x : DWord) : (y.setS i x).since = y.since := rfl
@[simp] theorem Warp.setS_slotNo (y : Warp) (i : Fin 32) (x : DWord) : (y.setS i x).slotNo = y.slotNo := rfl
@[simp] theorem Warp.setS_last1 (y : Warp) (i : Fin 32) (x : DWord) : (y.setS i x).last1 = y.last1 := rfl
@[simp] theorem Warp.setS_laneReads (y : Warp) (i : Fin 32) (x : DWord) : (y.setS i x).laneReads = y.laneReads := rfl
@[simp] theorem Warp.setS_popped (y : Warp) (i : Fin 32) (x : DWord) : (y.setS i x).popped = y.popped := rfl
@[simp] theorem Warp.setS_s (y : Warp) (i : Fin 32) (x : DWord) : (y.setS i x).s = y.s.set i { val := x, fill := .full } := rfl
@[simp] theorem Warp.setM_s (y : Warp) (i : Fin 8) (x : Word) : (y.setM i x).s = y.s := rfl
@[simp] theorem Warp.setM_b (y : Warp) (i : Fin 8) (x : Word) : (y.setM i x).b = y.b := rfl
@[simp] theorem Warp.setM_n (y : Warp) (i : Fin 8) (x : Word) : (y.setM i x).n = y.n := rfl
@[simp] theorem Warp.setM_x (y : Warp) (i : Fin 8) (x : Word) : (y.setM i x).x = y.x := rfl
@[simp] theorem Warp.setM_mode (y : Warp) (i : Fin 8) (x : Word) : (y.setM i x).mode = y.mode := rfl
@[simp] theorem Warp.setM_flags (y : Warp) (i : Fin 8) (x : Word) : (y.setM i x).flags = y.flags := rfl
@[simp] theorem Warp.setM_phys (y : Warp) (i : Fin 8) (x : Word) : (y.setM i x).phys = y.phys := rfl
@[simp] theorem Warp.setM_nextPhys (y : Warp) (i : Fin 8) (x : Word) : (y.setM i x).nextPhys = y.nextPhys := rfl
@[simp] theorem Warp.setM_wins (y : Warp) (i : Fin 8) (x : Word) : (y.setM i x).wins = y.wins := rfl
@[simp] theorem Warp.setM_nextWin (y : Warp) (i : Fin 8) (x : Word) : (y.setM i x).nextWin = y.nextWin := rfl
@[simp] theorem Warp.setM_slot0 (y : Warp) (i : Fin 8) (x : Word) : (y.setM i x).slot0 = y.slot0 := rfl
@[simp] theorem Warp.setM_slot1 (y : Warp) (i : Fin 8) (x : Word) : (y.setM i x).slot1 = y.slot1 := rfl
@[simp] theorem Warp.setM_stack (y : Warp) (i : Fin 8) (x : Word) : (y.setM i x).stack = y.stack := rfl
@[simp] theorem Warp.setM_joins (y : Warp) (i : Fin 8) (x : Word) : (y.setM i x).joins = y.joins := rfl
@[simp] theorem Warp.setM_helper (y : Warp) (i : Fin 8) (x : Word) : (y.setM i x).helper = y.helper := rfl
@[simp] theorem Warp.setM_qmap (y : Warp) (i : Fin 8) (x : Word) : (y.setM i x).qmap = y.qmap := rfl
@[simp] theorem Warp.setM_attach (y : Warp) (i : Fin 8) (x : Word) : (y.setM i x).attach = y.attach := rfl
@[simp] theorem Warp.setM_copyN (y : Warp) (i : Fin 8) (x : Word) : (y.setM i x).copyN = y.copyN := rfl
@[simp] theorem Warp.setM_remN (y : Warp) (i : Fin 8) (x : Word) : (y.setM i x).remN = y.remN := rfl
@[simp] theorem Warp.setM_ecopy (y : Warp) (i : Fin 8) (x : Word) : (y.setM i x).ecopy = y.ecopy := rfl
@[simp] theorem Warp.setM_erem (y : Warp) (i : Fin 8) (x : Word) : (y.setM i x).erem = y.erem := rfl
@[simp] theorem Warp.setM_gsyncN (y : Warp) (i : Fin 8) (x : Word) : (y.setM i x).gsyncN = y.gsyncN := rfl
@[simp] theorem Warp.setM_csyncN (y : Warp) (i : Fin 8) (x : Word) : (y.setM i x).csyncN = y.csyncN := rfl
@[simp] theorem Warp.setM_plvl (y : Warp) (i : Fin 8) (x : Word) : (y.setM i x).plvl = y.plvl := rfl
@[simp] theorem Warp.setM_nthr (y : Warp) (i : Fin 8) (x : Word) : (y.setM i x).nthr = y.nthr := rfl
@[simp] theorem Warp.setM_trap (y : Warp) (i : Fin 8) (x : Word) : (y.setM i x).trap = y.trap := rfl
@[simp] theorem Warp.setM_causes (y : Warp) (i : Fin 8) (x : Word) : (y.setM i x).causes = y.causes := rfl
@[simp] theorem Warp.setM_kept (y : Warp) (i : Fin 8) (x : Word) : (y.setM i x).kept = y.kept := rfl
@[simp] theorem Warp.setM_due (y : Warp) (i : Fin 8) (x : Word) : (y.setM i x).due = y.due := rfl
@[simp] theorem Warp.setM_held (y : Warp) (i : Fin 8) (x : Word) : (y.setM i x).held = y.held := rfl
@[simp] theorem Warp.setM_sched (y : Warp) (i : Fin 8) (x : Word) : (y.setM i x).sched = y.sched := rfl
@[simp] theorem Warp.setM_intrap (y : Warp) (i : Fin 8) (x : Word) : (y.setM i x).intrap = y.intrap := rfl
@[simp] theorem Warp.setM_since (y : Warp) (i : Fin 8) (x : Word) : (y.setM i x).since = y.since := rfl
@[simp] theorem Warp.setM_slotNo (y : Warp) (i : Fin 8) (x : Word) : (y.setM i x).slotNo = y.slotNo := rfl
@[simp] theorem Warp.setM_last1 (y : Warp) (i : Fin 8) (x : Word) : (y.setM i x).last1 = y.last1 := rfl
@[simp] theorem Warp.setM_laneReads (y : Warp) (i : Fin 8) (x : Word) : (y.setM i x).laneReads = y.laneReads := rfl
@[simp] theorem Warp.setM_popped (y : Warp) (i : Fin 8) (x : Word) : (y.setM i x).popped = y.popped := rfl
@[simp] theorem Warp.setM_m (y : Warp) (i : Fin 8) (x : Word) : (y.setM i x).m = y.m.set i x := rfl
@[simp] theorem Warp.setV_s (y : Warp) (n : Nat) (l : Word) (k : Fin 32 → Word) : (y.setV n l k).s = y.s := rfl
@[simp] theorem Warp.setV_m (y : Warp) (n : Nat) (l : Word) (k : Fin 32 → Word) : (y.setV n l k).m = y.m := rfl
@[simp] theorem Warp.setV_b (y : Warp) (n : Nat) (l : Word) (k : Fin 32 → Word) : (y.setV n l k).b = y.b := rfl
@[simp] theorem Warp.setV_n (y : Warp) (n : Nat) (l : Word) (k : Fin 32 → Word) : (y.setV n l k).n = y.n := rfl
@[simp] theorem Warp.setV_x (y : Warp) (n : Nat) (l : Word) (k : Fin 32 → Word) : (y.setV n l k).x = y.x := rfl
@[simp] theorem Warp.setV_mode (y : Warp) (n : Nat) (l : Word) (k : Fin 32 → Word) : (y.setV n l k).mode = y.mode := rfl
@[simp] theorem Warp.setV_flags (y : Warp) (n : Nat) (l : Word) (k : Fin 32 → Word) : (y.setV n l k).flags = y.flags := rfl
@[simp] theorem Warp.setV_nextPhys (y : Warp) (n : Nat) (l : Word) (k : Fin 32 → Word) : (y.setV n l k).nextPhys = y.nextPhys := rfl
@[simp] theorem Warp.setV_wins (y : Warp) (n : Nat) (l : Word) (k : Fin 32 → Word) : (y.setV n l k).wins = y.wins := rfl
@[simp] theorem Warp.setV_nextWin (y : Warp) (n : Nat) (l : Word) (k : Fin 32 → Word) : (y.setV n l k).nextWin = y.nextWin := rfl
@[simp] theorem Warp.setV_slot0 (y : Warp) (n : Nat) (l : Word) (k : Fin 32 → Word) : (y.setV n l k).slot0 = y.slot0 := rfl
@[simp] theorem Warp.setV_slot1 (y : Warp) (n : Nat) (l : Word) (k : Fin 32 → Word) : (y.setV n l k).slot1 = y.slot1 := rfl
@[simp] theorem Warp.setV_stack (y : Warp) (n : Nat) (l : Word) (k : Fin 32 → Word) : (y.setV n l k).stack = y.stack := rfl
@[simp] theorem Warp.setV_joins (y : Warp) (n : Nat) (l : Word) (k : Fin 32 → Word) : (y.setV n l k).joins = y.joins := rfl
@[simp] theorem Warp.setV_helper (y : Warp) (n : Nat) (l : Word) (k : Fin 32 → Word) : (y.setV n l k).helper = y.helper := rfl
@[simp] theorem Warp.setV_qmap (y : Warp) (n : Nat) (l : Word) (k : Fin 32 → Word) : (y.setV n l k).qmap = y.qmap := rfl
@[simp] theorem Warp.setV_attach (y : Warp) (n : Nat) (l : Word) (k : Fin 32 → Word) : (y.setV n l k).attach = y.attach := rfl
@[simp] theorem Warp.setV_copyN (y : Warp) (n : Nat) (l : Word) (k : Fin 32 → Word) : (y.setV n l k).copyN = y.copyN := rfl
@[simp] theorem Warp.setV_remN (y : Warp) (n : Nat) (l : Word) (k : Fin 32 → Word) : (y.setV n l k).remN = y.remN := rfl
@[simp] theorem Warp.setV_ecopy (y : Warp) (n : Nat) (l : Word) (k : Fin 32 → Word) : (y.setV n l k).ecopy = y.ecopy := rfl
@[simp] theorem Warp.setV_erem (y : Warp) (n : Nat) (l : Word) (k : Fin 32 → Word) : (y.setV n l k).erem = y.erem := rfl
@[simp] theorem Warp.setV_gsyncN (y : Warp) (n : Nat) (l : Word) (k : Fin 32 → Word) : (y.setV n l k).gsyncN = y.gsyncN := rfl
@[simp] theorem Warp.setV_csyncN (y : Warp) (n : Nat) (l : Word) (k : Fin 32 → Word) : (y.setV n l k).csyncN = y.csyncN := rfl
@[simp] theorem Warp.setV_plvl (y : Warp) (n : Nat) (l : Word) (k : Fin 32 → Word) : (y.setV n l k).plvl = y.plvl := rfl
@[simp] theorem Warp.setV_nthr (y : Warp) (n : Nat) (l : Word) (k : Fin 32 → Word) : (y.setV n l k).nthr = y.nthr := rfl
@[simp] theorem Warp.setV_trap (y : Warp) (n : Nat) (l : Word) (k : Fin 32 → Word) : (y.setV n l k).trap = y.trap := rfl
@[simp] theorem Warp.setV_causes (y : Warp) (n : Nat) (l : Word) (k : Fin 32 → Word) : (y.setV n l k).causes = y.causes := rfl
@[simp] theorem Warp.setV_kept (y : Warp) (n : Nat) (l : Word) (k : Fin 32 → Word) : (y.setV n l k).kept = y.kept := rfl
@[simp] theorem Warp.setV_due (y : Warp) (n : Nat) (l : Word) (k : Fin 32 → Word) : (y.setV n l k).due = y.due := rfl
@[simp] theorem Warp.setV_held (y : Warp) (n : Nat) (l : Word) (k : Fin 32 → Word) : (y.setV n l k).held = y.held := rfl
@[simp] theorem Warp.setV_sched (y : Warp) (n : Nat) (l : Word) (k : Fin 32 → Word) : (y.setV n l k).sched = y.sched := rfl
@[simp] theorem Warp.setV_intrap (y : Warp) (n : Nat) (l : Word) (k : Fin 32 → Word) : (y.setV n l k).intrap = y.intrap := rfl
@[simp] theorem Warp.setV_since (y : Warp) (n : Nat) (l : Word) (k : Fin 32 → Word) : (y.setV n l k).since = y.since := rfl
@[simp] theorem Warp.setV_slotNo (y : Warp) (n : Nat) (l : Word) (k : Fin 32 → Word) : (y.setV n l k).slotNo = y.slotNo := rfl
@[simp] theorem Warp.setV_last1 (y : Warp) (n : Nat) (l : Word) (k : Fin 32 → Word) : (y.setV n l k).last1 = y.last1 := rfl
@[simp] theorem Warp.setV_laneReads (y : Warp) (n : Nat) (l : Word) (k : Fin 32 → Word) : (y.setV n l k).laneReads = y.laneReads := rfl
@[simp] theorem Warp.setV_popped (y : Warp) (n : Nat) (l : Word) (k : Fin 32 → Word) : (y.setV n l k).popped = y.popped := rfl

/-! ## A scalar result: only the register file that its destination names changes (09 R184) -/

@[simp] theorem Warp.setScalar_b (y : Warp) (l : Loc) (x : DWord) : (y.setScalar l x).b = y.b := by cases l <;> rfl
@[simp] theorem Warp.setScalar_n (y : Warp) (l : Loc) (x : DWord) : (y.setScalar l x).n = y.n := by cases l <;> rfl
@[simp] theorem Warp.setScalar_x (y : Warp) (l : Loc) (x : DWord) : (y.setScalar l x).x = y.x := by cases l <;> rfl
@[simp] theorem Warp.setScalar_mode (y : Warp) (l : Loc) (x : DWord) : (y.setScalar l x).mode = y.mode := by cases l <;> rfl
@[simp] theorem Warp.setScalar_flags (y : Warp) (l : Loc) (x : DWord) : (y.setScalar l x).flags = y.flags := by cases l <;> rfl
@[simp] theorem Warp.setScalar_phys (y : Warp) (l : Loc) (x : DWord) : (y.setScalar l x).phys = y.phys := by cases l <;> rfl
@[simp] theorem Warp.setScalar_nextPhys (y : Warp) (l : Loc) (x : DWord) : (y.setScalar l x).nextPhys = y.nextPhys := by cases l <;> rfl
@[simp] theorem Warp.setScalar_wins (y : Warp) (l : Loc) (x : DWord) : (y.setScalar l x).wins = y.wins := by cases l <;> rfl
@[simp] theorem Warp.setScalar_nextWin (y : Warp) (l : Loc) (x : DWord) : (y.setScalar l x).nextWin = y.nextWin := by cases l <;> rfl
@[simp] theorem Warp.setScalar_slot0 (y : Warp) (l : Loc) (x : DWord) : (y.setScalar l x).slot0 = y.slot0 := by cases l <;> rfl
@[simp] theorem Warp.setScalar_slot1 (y : Warp) (l : Loc) (x : DWord) : (y.setScalar l x).slot1 = y.slot1 := by cases l <;> rfl
@[simp] theorem Warp.setScalar_stack (y : Warp) (l : Loc) (x : DWord) : (y.setScalar l x).stack = y.stack := by cases l <;> rfl
@[simp] theorem Warp.setScalar_joins (y : Warp) (l : Loc) (x : DWord) : (y.setScalar l x).joins = y.joins := by cases l <;> rfl
@[simp] theorem Warp.setScalar_helper (y : Warp) (l : Loc) (x : DWord) : (y.setScalar l x).helper = y.helper := by cases l <;> rfl
@[simp] theorem Warp.setScalar_qmap (y : Warp) (l : Loc) (x : DWord) : (y.setScalar l x).qmap = y.qmap := by cases l <;> rfl
@[simp] theorem Warp.setScalar_attach (y : Warp) (l : Loc) (x : DWord) : (y.setScalar l x).attach = y.attach := by cases l <;> rfl
@[simp] theorem Warp.setScalar_copyN (y : Warp) (l : Loc) (x : DWord) : (y.setScalar l x).copyN = y.copyN := by cases l <;> rfl
@[simp] theorem Warp.setScalar_remN (y : Warp) (l : Loc) (x : DWord) : (y.setScalar l x).remN = y.remN := by cases l <;> rfl
@[simp] theorem Warp.setScalar_ecopy (y : Warp) (l : Loc) (x : DWord) : (y.setScalar l x).ecopy = y.ecopy := by cases l <;> rfl
@[simp] theorem Warp.setScalar_erem (y : Warp) (l : Loc) (x : DWord) : (y.setScalar l x).erem = y.erem := by cases l <;> rfl
@[simp] theorem Warp.setScalar_gsyncN (y : Warp) (l : Loc) (x : DWord) : (y.setScalar l x).gsyncN = y.gsyncN := by cases l <;> rfl
@[simp] theorem Warp.setScalar_csyncN (y : Warp) (l : Loc) (x : DWord) : (y.setScalar l x).csyncN = y.csyncN := by cases l <;> rfl
@[simp] theorem Warp.setScalar_plvl (y : Warp) (l : Loc) (x : DWord) : (y.setScalar l x).plvl = y.plvl := by cases l <;> rfl
@[simp] theorem Warp.setScalar_nthr (y : Warp) (l : Loc) (x : DWord) : (y.setScalar l x).nthr = y.nthr := by cases l <;> rfl
@[simp] theorem Warp.setScalar_trap (y : Warp) (l : Loc) (x : DWord) : (y.setScalar l x).trap = y.trap := by cases l <;> rfl
@[simp] theorem Warp.setScalar_causes (y : Warp) (l : Loc) (x : DWord) : (y.setScalar l x).causes = y.causes := by cases l <;> rfl
@[simp] theorem Warp.setScalar_kept (y : Warp) (l : Loc) (x : DWord) : (y.setScalar l x).kept = y.kept := by cases l <;> rfl
@[simp] theorem Warp.setScalar_due (y : Warp) (l : Loc) (x : DWord) : (y.setScalar l x).due = y.due := by cases l <;> rfl
@[simp] theorem Warp.setScalar_held (y : Warp) (l : Loc) (x : DWord) : (y.setScalar l x).held = y.held := by cases l <;> rfl
@[simp] theorem Warp.setScalar_sched (y : Warp) (l : Loc) (x : DWord) : (y.setScalar l x).sched = y.sched := by cases l <;> rfl
@[simp] theorem Warp.setScalar_intrap (y : Warp) (l : Loc) (x : DWord) : (y.setScalar l x).intrap = y.intrap := by cases l <;> rfl
@[simp] theorem Warp.setScalar_since (y : Warp) (l : Loc) (x : DWord) : (y.setScalar l x).since = y.since := by cases l <;> rfl
@[simp] theorem Warp.setScalar_slotNo (y : Warp) (l : Loc) (x : DWord) : (y.setScalar l x).slotNo = y.slotNo := by cases l <;> rfl
@[simp] theorem Warp.setScalar_last1 (y : Warp) (l : Loc) (x : DWord) : (y.setScalar l x).last1 = y.last1 := by cases l <;> rfl
@[simp] theorem Warp.setScalar_laneReads (y : Warp) (l : Loc) (x : DWord) : (y.setScalar l x).laneReads = y.laneReads := by cases l <;> rfl
@[simp] theorem Warp.setScalar_popped (y : Warp) (l : Loc) (x : DWord) : (y.setScalar l x).popped = y.popped := by cases l <;> rfl

/-! ## A vector result: only vector registers change -/

@[simp] theorem Warp.setLanes_s (y : Warp) (l : List Nat) (q : Word) (t : Nat) (x : Vector Nat 32) : (y.setLanes l q t x).s = y.s := by rcases l with _ | ⟨a, _ | ⟨b, r⟩⟩ <;> rfl
@[simp] theorem Warp.setLanes_m (y : Warp) (l : List Nat) (q : Word) (t : Nat) (x : Vector Nat 32) : (y.setLanes l q t x).m = y.m := by rcases l with _ | ⟨a, _ | ⟨b, r⟩⟩ <;> rfl
@[simp] theorem Warp.setLanes_b (y : Warp) (l : List Nat) (q : Word) (t : Nat) (x : Vector Nat 32) : (y.setLanes l q t x).b = y.b := by rcases l with _ | ⟨a, _ | ⟨b, r⟩⟩ <;> rfl
@[simp] theorem Warp.setLanes_n (y : Warp) (l : List Nat) (q : Word) (t : Nat) (x : Vector Nat 32) : (y.setLanes l q t x).n = y.n := by rcases l with _ | ⟨a, _ | ⟨b, r⟩⟩ <;> rfl
@[simp] theorem Warp.setLanes_x (y : Warp) (l : List Nat) (q : Word) (t : Nat) (x : Vector Nat 32) : (y.setLanes l q t x).x = y.x := by rcases l with _ | ⟨a, _ | ⟨b, r⟩⟩ <;> rfl
@[simp] theorem Warp.setLanes_mode (y : Warp) (l : List Nat) (q : Word) (t : Nat) (x : Vector Nat 32) : (y.setLanes l q t x).mode = y.mode := by rcases l with _ | ⟨a, _ | ⟨b, r⟩⟩ <;> rfl
@[simp] theorem Warp.setLanes_flags (y : Warp) (l : List Nat) (q : Word) (t : Nat) (x : Vector Nat 32) : (y.setLanes l q t x).flags = y.flags := by rcases l with _ | ⟨a, _ | ⟨b, r⟩⟩ <;> rfl
@[simp] theorem Warp.setLanes_nextPhys (y : Warp) (l : List Nat) (q : Word) (t : Nat) (x : Vector Nat 32) : (y.setLanes l q t x).nextPhys = y.nextPhys := by rcases l with _ | ⟨a, _ | ⟨b, r⟩⟩ <;> rfl
@[simp] theorem Warp.setLanes_wins (y : Warp) (l : List Nat) (q : Word) (t : Nat) (x : Vector Nat 32) : (y.setLanes l q t x).wins = y.wins := by rcases l with _ | ⟨a, _ | ⟨b, r⟩⟩ <;> rfl
@[simp] theorem Warp.setLanes_nextWin (y : Warp) (l : List Nat) (q : Word) (t : Nat) (x : Vector Nat 32) : (y.setLanes l q t x).nextWin = y.nextWin := by rcases l with _ | ⟨a, _ | ⟨b, r⟩⟩ <;> rfl
@[simp] theorem Warp.setLanes_slot0 (y : Warp) (l : List Nat) (q : Word) (t : Nat) (x : Vector Nat 32) : (y.setLanes l q t x).slot0 = y.slot0 := by rcases l with _ | ⟨a, _ | ⟨b, r⟩⟩ <;> rfl
@[simp] theorem Warp.setLanes_slot1 (y : Warp) (l : List Nat) (q : Word) (t : Nat) (x : Vector Nat 32) : (y.setLanes l q t x).slot1 = y.slot1 := by rcases l with _ | ⟨a, _ | ⟨b, r⟩⟩ <;> rfl
@[simp] theorem Warp.setLanes_stack (y : Warp) (l : List Nat) (q : Word) (t : Nat) (x : Vector Nat 32) : (y.setLanes l q t x).stack = y.stack := by rcases l with _ | ⟨a, _ | ⟨b, r⟩⟩ <;> rfl
@[simp] theorem Warp.setLanes_joins (y : Warp) (l : List Nat) (q : Word) (t : Nat) (x : Vector Nat 32) : (y.setLanes l q t x).joins = y.joins := by rcases l with _ | ⟨a, _ | ⟨b, r⟩⟩ <;> rfl
@[simp] theorem Warp.setLanes_helper (y : Warp) (l : List Nat) (q : Word) (t : Nat) (x : Vector Nat 32) : (y.setLanes l q t x).helper = y.helper := by rcases l with _ | ⟨a, _ | ⟨b, r⟩⟩ <;> rfl
@[simp] theorem Warp.setLanes_qmap (y : Warp) (l : List Nat) (q : Word) (t : Nat) (x : Vector Nat 32) : (y.setLanes l q t x).qmap = y.qmap := by rcases l with _ | ⟨a, _ | ⟨b, r⟩⟩ <;> rfl
@[simp] theorem Warp.setLanes_attach (y : Warp) (l : List Nat) (q : Word) (t : Nat) (x : Vector Nat 32) : (y.setLanes l q t x).attach = y.attach := by rcases l with _ | ⟨a, _ | ⟨b, r⟩⟩ <;> rfl
@[simp] theorem Warp.setLanes_copyN (y : Warp) (l : List Nat) (q : Word) (t : Nat) (x : Vector Nat 32) : (y.setLanes l q t x).copyN = y.copyN := by rcases l with _ | ⟨a, _ | ⟨b, r⟩⟩ <;> rfl
@[simp] theorem Warp.setLanes_remN (y : Warp) (l : List Nat) (q : Word) (t : Nat) (x : Vector Nat 32) : (y.setLanes l q t x).remN = y.remN := by rcases l with _ | ⟨a, _ | ⟨b, r⟩⟩ <;> rfl
@[simp] theorem Warp.setLanes_ecopy (y : Warp) (l : List Nat) (q : Word) (t : Nat) (x : Vector Nat 32) : (y.setLanes l q t x).ecopy = y.ecopy := by rcases l with _ | ⟨a, _ | ⟨b, r⟩⟩ <;> rfl
@[simp] theorem Warp.setLanes_erem (y : Warp) (l : List Nat) (q : Word) (t : Nat) (x : Vector Nat 32) : (y.setLanes l q t x).erem = y.erem := by rcases l with _ | ⟨a, _ | ⟨b, r⟩⟩ <;> rfl
@[simp] theorem Warp.setLanes_gsyncN (y : Warp) (l : List Nat) (q : Word) (t : Nat) (x : Vector Nat 32) : (y.setLanes l q t x).gsyncN = y.gsyncN := by rcases l with _ | ⟨a, _ | ⟨b, r⟩⟩ <;> rfl
@[simp] theorem Warp.setLanes_csyncN (y : Warp) (l : List Nat) (q : Word) (t : Nat) (x : Vector Nat 32) : (y.setLanes l q t x).csyncN = y.csyncN := by rcases l with _ | ⟨a, _ | ⟨b, r⟩⟩ <;> rfl
@[simp] theorem Warp.setLanes_plvl (y : Warp) (l : List Nat) (q : Word) (t : Nat) (x : Vector Nat 32) : (y.setLanes l q t x).plvl = y.plvl := by rcases l with _ | ⟨a, _ | ⟨b, r⟩⟩ <;> rfl
@[simp] theorem Warp.setLanes_nthr (y : Warp) (l : List Nat) (q : Word) (t : Nat) (x : Vector Nat 32) : (y.setLanes l q t x).nthr = y.nthr := by rcases l with _ | ⟨a, _ | ⟨b, r⟩⟩ <;> rfl
@[simp] theorem Warp.setLanes_trap (y : Warp) (l : List Nat) (q : Word) (t : Nat) (x : Vector Nat 32) : (y.setLanes l q t x).trap = y.trap := by rcases l with _ | ⟨a, _ | ⟨b, r⟩⟩ <;> rfl
@[simp] theorem Warp.setLanes_causes (y : Warp) (l : List Nat) (q : Word) (t : Nat) (x : Vector Nat 32) : (y.setLanes l q t x).causes = y.causes := by rcases l with _ | ⟨a, _ | ⟨b, r⟩⟩ <;> rfl
@[simp] theorem Warp.setLanes_kept (y : Warp) (l : List Nat) (q : Word) (t : Nat) (x : Vector Nat 32) : (y.setLanes l q t x).kept = y.kept := by rcases l with _ | ⟨a, _ | ⟨b, r⟩⟩ <;> rfl
@[simp] theorem Warp.setLanes_due (y : Warp) (l : List Nat) (q : Word) (t : Nat) (x : Vector Nat 32) : (y.setLanes l q t x).due = y.due := by rcases l with _ | ⟨a, _ | ⟨b, r⟩⟩ <;> rfl
@[simp] theorem Warp.setLanes_held (y : Warp) (l : List Nat) (q : Word) (t : Nat) (x : Vector Nat 32) : (y.setLanes l q t x).held = y.held := by rcases l with _ | ⟨a, _ | ⟨b, r⟩⟩ <;> rfl
@[simp] theorem Warp.setLanes_sched (y : Warp) (l : List Nat) (q : Word) (t : Nat) (x : Vector Nat 32) : (y.setLanes l q t x).sched = y.sched := by rcases l with _ | ⟨a, _ | ⟨b, r⟩⟩ <;> rfl
@[simp] theorem Warp.setLanes_intrap (y : Warp) (l : List Nat) (q : Word) (t : Nat) (x : Vector Nat 32) : (y.setLanes l q t x).intrap = y.intrap := by rcases l with _ | ⟨a, _ | ⟨b, r⟩⟩ <;> rfl
@[simp] theorem Warp.setLanes_since (y : Warp) (l : List Nat) (q : Word) (t : Nat) (x : Vector Nat 32) : (y.setLanes l q t x).since = y.since := by rcases l with _ | ⟨a, _ | ⟨b, r⟩⟩ <;> rfl
@[simp] theorem Warp.setLanes_slotNo (y : Warp) (l : List Nat) (q : Word) (t : Nat) (x : Vector Nat 32) : (y.setLanes l q t x).slotNo = y.slotNo := by rcases l with _ | ⟨a, _ | ⟨b, r⟩⟩ <;> rfl
@[simp] theorem Warp.setLanes_last1 (y : Warp) (l : List Nat) (q : Word) (t : Nat) (x : Vector Nat 32) : (y.setLanes l q t x).last1 = y.last1 := by rcases l with _ | ⟨a, _ | ⟨b, r⟩⟩ <;> rfl
@[simp] theorem Warp.setLanes_laneReads (y : Warp) (l : List Nat) (q : Word) (t : Nat) (x : Vector Nat 32) : (y.setLanes l q t x).laneReads = y.laneReads := by rcases l with _ | ⟨a, _ | ⟨b, r⟩⟩ <;> rfl
@[simp] theorem Warp.setLanes_popped (y : Warp) (l : List Nat) (q : Word) (t : Nat) (x : Vector Nat 32) : (y.setLanes l q t x).popped = y.popped := by rcases l with _ | ⟨a, _ | ⟨b, r⟩⟩ <;> rfl

/-! ## Fragment slots -/

@[simp] theorem Warp.setSlot_s (y : Warp) (b : Bool) (f : Option Frag) : (y.setSlot b f).s = y.s := by cases b <;> rfl
@[simp] theorem Warp.setSlot_m (y : Warp) (b : Bool) (f : Option Frag) : (y.setSlot b f).m = y.m := by cases b <;> rfl
@[simp] theorem Warp.setSlot_b (y : Warp) (b : Bool) (f : Option Frag) : (y.setSlot b f).b = y.b := by cases b <;> rfl
@[simp] theorem Warp.setSlot_n (y : Warp) (b : Bool) (f : Option Frag) : (y.setSlot b f).n = y.n := by cases b <;> rfl
@[simp] theorem Warp.setSlot_x (y : Warp) (b : Bool) (f : Option Frag) : (y.setSlot b f).x = y.x := by cases b <;> rfl
@[simp] theorem Warp.setSlot_mode (y : Warp) (b : Bool) (f : Option Frag) : (y.setSlot b f).mode = y.mode := by cases b <;> rfl
@[simp] theorem Warp.setSlot_flags (y : Warp) (b : Bool) (f : Option Frag) : (y.setSlot b f).flags = y.flags := by cases b <;> rfl
@[simp] theorem Warp.setSlot_phys (y : Warp) (b : Bool) (f : Option Frag) : (y.setSlot b f).phys = y.phys := by cases b <;> rfl
@[simp] theorem Warp.setSlot_nextPhys (y : Warp) (b : Bool) (f : Option Frag) : (y.setSlot b f).nextPhys = y.nextPhys := by cases b <;> rfl
@[simp] theorem Warp.setSlot_wins (y : Warp) (b : Bool) (f : Option Frag) : (y.setSlot b f).wins = y.wins := by cases b <;> rfl
@[simp] theorem Warp.setSlot_nextWin (y : Warp) (b : Bool) (f : Option Frag) : (y.setSlot b f).nextWin = y.nextWin := by cases b <;> rfl
@[simp] theorem Warp.setSlot_stack (y : Warp) (b : Bool) (f : Option Frag) : (y.setSlot b f).stack = y.stack := by cases b <;> rfl
@[simp] theorem Warp.setSlot_joins (y : Warp) (b : Bool) (f : Option Frag) : (y.setSlot b f).joins = y.joins := by cases b <;> rfl
@[simp] theorem Warp.setSlot_helper (y : Warp) (b : Bool) (f : Option Frag) : (y.setSlot b f).helper = y.helper := by cases b <;> rfl
@[simp] theorem Warp.setSlot_qmap (y : Warp) (b : Bool) (f : Option Frag) : (y.setSlot b f).qmap = y.qmap := by cases b <;> rfl
@[simp] theorem Warp.setSlot_attach (y : Warp) (b : Bool) (f : Option Frag) : (y.setSlot b f).attach = y.attach := by cases b <;> rfl
@[simp] theorem Warp.setSlot_copyN (y : Warp) (b : Bool) (f : Option Frag) : (y.setSlot b f).copyN = y.copyN := by cases b <;> rfl
@[simp] theorem Warp.setSlot_remN (y : Warp) (b : Bool) (f : Option Frag) : (y.setSlot b f).remN = y.remN := by cases b <;> rfl
@[simp] theorem Warp.setSlot_ecopy (y : Warp) (b : Bool) (f : Option Frag) : (y.setSlot b f).ecopy = y.ecopy := by cases b <;> rfl
@[simp] theorem Warp.setSlot_erem (y : Warp) (b : Bool) (f : Option Frag) : (y.setSlot b f).erem = y.erem := by cases b <;> rfl
@[simp] theorem Warp.setSlot_gsyncN (y : Warp) (b : Bool) (f : Option Frag) : (y.setSlot b f).gsyncN = y.gsyncN := by cases b <;> rfl
@[simp] theorem Warp.setSlot_csyncN (y : Warp) (b : Bool) (f : Option Frag) : (y.setSlot b f).csyncN = y.csyncN := by cases b <;> rfl
@[simp] theorem Warp.setSlot_plvl (y : Warp) (b : Bool) (f : Option Frag) : (y.setSlot b f).plvl = y.plvl := by cases b <;> rfl
@[simp] theorem Warp.setSlot_nthr (y : Warp) (b : Bool) (f : Option Frag) : (y.setSlot b f).nthr = y.nthr := by cases b <;> rfl
@[simp] theorem Warp.setSlot_trap (y : Warp) (b : Bool) (f : Option Frag) : (y.setSlot b f).trap = y.trap := by cases b <;> rfl
@[simp] theorem Warp.setSlot_causes (y : Warp) (b : Bool) (f : Option Frag) : (y.setSlot b f).causes = y.causes := by cases b <;> rfl
@[simp] theorem Warp.setSlot_kept (y : Warp) (b : Bool) (f : Option Frag) : (y.setSlot b f).kept = y.kept := by cases b <;> rfl
@[simp] theorem Warp.setSlot_due (y : Warp) (b : Bool) (f : Option Frag) : (y.setSlot b f).due = y.due := by cases b <;> rfl
@[simp] theorem Warp.setSlot_held (y : Warp) (b : Bool) (f : Option Frag) : (y.setSlot b f).held = y.held := by cases b <;> rfl
@[simp] theorem Warp.setSlot_sched (y : Warp) (b : Bool) (f : Option Frag) : (y.setSlot b f).sched = y.sched := by cases b <;> rfl
@[simp] theorem Warp.setSlot_intrap (y : Warp) (b : Bool) (f : Option Frag) : (y.setSlot b f).intrap = y.intrap := by cases b <;> rfl
@[simp] theorem Warp.setSlot_since (y : Warp) (b : Bool) (f : Option Frag) : (y.setSlot b f).since = y.since := by cases b <;> rfl
@[simp] theorem Warp.setSlot_slotNo (y : Warp) (b : Bool) (f : Option Frag) : (y.setSlot b f).slotNo = y.slotNo := by cases b <;> rfl
@[simp] theorem Warp.setSlot_last1 (y : Warp) (b : Bool) (f : Option Frag) : (y.setSlot b f).last1 = y.last1 := by cases b <;> rfl
@[simp] theorem Warp.setSlot_laneReads (y : Warp) (b : Bool) (f : Option Frag) : (y.setSlot b f).laneReads = y.laneReads := by cases b <;> rfl
@[simp] theorem Warp.setSlot_popped (y : Warp) (b : Bool) (f : Option Frag) : (y.setSlot b f).popped = y.popped := by cases b <;> rfl
@[simp] theorem Warp.setSlot_slot (y : Warp) (b : Bool) (f : Option Frag) : (y.setSlot b f).slot b = f := by cases b <;> rfl
@[simp] theorem Warp.setSlot_other (y : Warp) (b : Bool) (f : Option Frag) : (y.setSlot b f).slot (!b) = y.slot (!b) := by cases b <;> rfl

end Sys2Proof.Machine
end

