-- ==== Sys2Proof/Laws/Memory.lean ====
section
/-! SUPPORT. Tables and memory: what a read gives after a write, and that every memory operation keeps the canonical form (log entry 3). -/

namespace Sys2Proof.Machine

/-! ## Tables -/

theorem tget_tmod {α : Type} (t : Tab α) (k j : Nat) (f : α → α) : tget (tmod t k f) j = if j = k then (tget t k).map f else tget t j := by
  induction t with
  | nil => simp [tmod, tget]
  | cons e r ih =>
    obtain ⟨i, x⟩ := e
    simp only [tmod, List.map_cons, tget] at ih ⊢
    by_cases h : i = k
    · by_cases h2 : j = k
      · simp [h, h2]
      · have : k ≠ j := fun h => h2 h.symm
        simp [h, h2, this, ih]
    · by_cases h2 : j = k
      · subst h2; simp [h]; simpa using ih
      · by_cases h3 : i = j <;> simp [h, h2, h3, ih]

@[simp] theorem tget_tmod_self {α : Type} (t : Tab α) (k : Nat) (f : α → α) : tget (tmod t k f) k = (tget t k).map f := by
  simp [tget_tmod]

theorem tget_tput {α : Type} (t : Tab α) (k j : Nat) (x : α) : tget (tput t k x) j = if j = k then some x else tget t j := by
  induction t with
  | nil => by_cases h : k = j <;> simp [tput, tget, h, eq_comm]
  | cons e r ih =>
    obtain ⟨i, y⟩ := e
    by_cases h : i = k
    · subst h
      by_cases h2 : i = j <;> simp_all [tput, tget, eq_comm]
    · by_cases h2 : i = j
      · have : ¬ j = k := fun h3 => h (h2.trans h3)
        simp [tput, tget, h2, this]
      · simp [tput, tget, h, h2, ih]

theorem tget_tdel {α : Type} (t : Tab α) (k j : Nat) : tget (tdel t k) j = if j = k then none else tget t j := by
  induction t with
  | nil => simp [tdel, tget]
  | cons e r ih =>
    obtain ⟨i, y⟩ := e
    simp only [tdel] at ih ⊢
    by_cases h : i = k
    · subst h
      by_cases h2 : i = j <;> simp_all [tget, eq_comm]
    · by_cases h2 : i = j <;> simp_all [tget]

/-! ## A read after a write -/

theorem Memory.get_put (m : Memory) (a b : Nat) (x : Byte) (h : Memory.wf m = true) :
    Memory.get (Memory.put m a x) b = if b = a then x else Memory.get m b := by
  suffices key : ∀ (m : Memory) (lo : Nat), Memory.wfFrom lo m = true →
      Memory.get (Memory.put m a x) b = if b = a then x else Memory.get m b from key m 0 h
  intro m
  induction m with
  | nil =>
    intro lo _
    by_cases hx : x = 0#8
    · by_cases h2 : b = a <;> simp [Memory.put, Memory.get, hx]
    · by_cases h2 : b = a
      · simp [Memory.put, Memory.get, hx, h2]
      · have : ¬ a = b := fun h => h2 h.symm
        simp [Memory.put, Memory.get, hx, h2, this]
  | cons e r ih =>
    obtain ⟨k, y⟩ := e
    intro lo hw
    simp only [Memory.wfFrom, Bool.and_eq_true, decide_eq_true_eq] at hw
    have below : ∀ (r : Memory) (lo b : Nat), Memory.wfFrom lo r = true → b < lo → Memory.get r b = 0 := by
      intro r
      cases r with
      | nil => intros; rfl
      | cons e r =>
        obtain ⟨k, y⟩ := e
        intro lo b hw hb
        simp only [Memory.wfFrom, Bool.and_eq_true, decide_eq_true_eq] at hw
        have h1 : k ≠ b := by omega
        have h2 : b < k := by omega
        simp [Memory.get, h1, h2]
    simp only [Memory.put]
    by_cases h1 : a < k
    · by_cases hx : x = 0#8
      · by_cases h2 : b = a
        · have h3 : k ≠ b := by omega
          have h4 : b < k := by omega
          simp [h1, hx, h2, Memory.get]
          intro h5; omega
        · simp [h1, hx, h2]
      · by_cases h2 : b = a
        · simp [h1, hx, h2, Memory.get]
        · have h3 : ¬ a = b := fun h => h2 h.symm
          by_cases h4 : b < a
          · have h5 : ¬ k = b := by omega
            have h6 : b < k := by omega
            simp [h1, hx, h2, h3, Memory.get, h4, h5, h6]
          · simp [h1, hx, h2, h3, Memory.get, h4]
    · by_cases h2 : a = k
      · subst h2
        by_cases hx : x = 0#8
        · by_cases h3 : b = a
          · subst h3
            simp [hx, below r _ b hw.2 (by omega)]
          · have h4 : ¬ a = b := fun h => h3 h.symm
            by_cases h5 : b < a
            · simp [hx, h3, h4, Memory.get, h5, below r _ b hw.2 (by omega)]
            · simp [hx, h3, h4, Memory.get, h5]
        · by_cases h3 : b = a
          · simp [hx, h3, Memory.get]
          · have h4 : ¬ a = b := fun h => h3 h.symm
            simp [hx, h3, h4, Memory.get]
      · simp only [h1, h2, if_false, Memory.get, ih _ hw.2]
        by_cases h3 : k = b
        · have : ¬ b = a := by omega
          simp [h3, this]
        · by_cases h4 : b < k
          · have : ¬ b = a := by omega
            simp [h3, h4, this]
          · simp [h3, h4]

/-! ## The canonical form is kept -/

theorem Memory.wfFrom_mono {m : Memory} {a b : Nat} (h : b ≤ a) (hm : Memory.wfFrom a m = true) : Memory.wfFrom b m = true := by
  cases m with
  | nil => rfl
  | cons e r =>
    obtain ⟨k, y⟩ := e
    simp only [Memory.wfFrom, Bool.and_eq_true, decide_eq_true_eq] at hm ⊢
    exact ⟨⟨by omega, hm.1.2⟩, hm.2⟩

theorem Memory.wfFrom_put {m : Memory} {lo a : Nat} {x : Byte} (hm : Memory.wfFrom lo m = true) (ha : lo ≤ a) :
    Memory.wfFrom lo (Memory.put m a x) = true := by
  induction m generalizing lo with
  | nil => by_cases hx : x = 0#8 <;> simp [Memory.put, hx, Memory.wfFrom, ha]
  | cons e r ih =>
    obtain ⟨k, y⟩ := e
    simp only [Memory.wfFrom, Bool.and_eq_true, decide_eq_true_eq] at hm
    simp only [Memory.put]
    split
    · split
      · simp only [Memory.wfFrom, Bool.and_eq_true, decide_eq_true_eq]; exact hm
      · rename_i h1 hx
        simp only [Memory.wfFrom, Bool.and_eq_true, decide_eq_true_eq]
        exact ⟨⟨ha, hx⟩, ⟨by omega, hm.1.2⟩, hm.2⟩
    · split
      · rename_i h1 h2
        subst h2
        split
        · exact Memory.wfFrom_mono (by omega) hm.2
        · rename_i hx
          simp only [Memory.wfFrom, Bool.and_eq_true, decide_eq_true_eq]
          exact ⟨⟨ha, hx⟩, hm.2⟩
      · simp only [Memory.wfFrom, Bool.and_eq_true, decide_eq_true_eq]
        exact ⟨hm.1, ih hm.2 (by omega)⟩

theorem Memory.wf_put {m : Memory} (a : Nat) (x : Byte) (hm : Memory.wf m = true) : Memory.wf (Memory.put m a x) = true :=
  Memory.wfFrom_put hm (Nat.zero_le _)

theorem Memory.wf_wr {m : Memory} (a n v : Nat) (hm : Memory.wf m = true) : Memory.wf (Memory.wr m a n v) = true := by
  induction n generalizing m a v with
  | zero => exact hm
  | succ n ih => exact ih _ _ (Memory.wf_put _ _ hm)

theorem Memory.wf_putBytes {m : Memory} (a : Nat) (l : List Byte) (hm : Memory.wf m = true) : Memory.wf (Memory.putBytes m a l) = true := by
  induction l generalizing m a with
  | nil => exact hm
  | cons b r ih => exact ih _ (Memory.wf_put _ _ hm)

theorem Memory.wfFrom_filter {m : Memory} {lo : Nat} (p : Host.Cell → Bool) (hm : Memory.wfFrom lo m = true) :
    Memory.wfFrom lo (m.filter p) = true := by
  induction m generalizing lo with
  | nil => rfl
  | cons e r ih =>
    obtain ⟨k, y⟩ := e
    simp only [Memory.wfFrom, Bool.and_eq_true, decide_eq_true_eq] at hm
    by_cases h : p (k, y) = true
    · simp only [List.filter_cons, h, if_true, Memory.wfFrom, Bool.and_eq_true, decide_eq_true_eq]
      exact ⟨hm.1, ih hm.2⟩
    · simp only [List.filter_cons, h, Bool.false_eq_true, if_false]
      exact Memory.wfFrom_mono (by omega) (ih hm.2)

theorem Memory.wf_filter {m : Memory} (p : Host.Cell → Bool) (hm : Memory.wf m = true) : Memory.wf (m.filter p) = true :=
  Memory.wfFrom_filter p hm

theorem Memory.wf_clear {m : Memory} (a n : Nat) (hm : Memory.wf m = true) : Memory.wf (Memory.clear m a n) = true :=
  Memory.wf_filter _ hm

theorem Memory.wf_move {m : Memory} (src dst n : Nat) (hm : Memory.wf m = true) : Memory.wf (Memory.move m src dst n) = true := by
  unfold Memory.move
  generalize List.filter (fun (c : Host.Cell) => decide (src ≤ c.1) && decide (c.1 < src + n)) m = l
  have h0 := Memory.wf_clear dst n hm
  revert h0
  generalize Memory.clear m dst n = acc
  induction l generalizing acc with
  | nil => intro h; exact h
  | cons c r ih => intro h; exact ih _ (Memory.wf_put _ _ h)

/-! ## Reading what was written -/

theorem Memory.get_wr_above (m : Memory) (a n v b : Nat) (hm : Memory.wf m = true) (hb : b < a) : Memory.get (Memory.wr m a n v) b = Memory.get m b := by
  induction n generalizing m a v with
  | zero => rfl
  | succ n ih =>
    rw [Memory.wr, ih _ _ _ (Memory.wf_put _ _ hm) (by omega), Memory.get_put m a b _ hm]
    have : ¬ b = a := by omega
    simp [this]

/-- Every byte outside the ones written reads as before. -/
theorem Memory.get_wr_outside (m : Memory) (a n v b : Nat) (hm : Memory.wf m = true) (hb : b < a ∨ a + n ≤ b) :
    Memory.get (Memory.wr m a n v) b = Memory.get m b := by
  induction n generalizing m a v with
  | zero => rfl
  | succ n ih =>
    rw [Memory.wr, ih _ _ _ (Memory.wf_put _ _ hm) (by omega), Memory.get_put m a b _ hm]
    have : ¬ b = a := by omega
    simp [this]

/-- The n bytes just written read back as the low n bytes of the value (02 R26). -/
theorem Memory.rd_wr (m : Memory) (a n v : Nat) (hm : Memory.wf m = true) : Memory.rd (Memory.wr m a n v) a n = v % 256 ^ n := by
  induction n generalizing m a v with
  | zero => simp [Memory.rd, Nat.mod_one]
  | succ n ih =>
    have h1 := Memory.wf_put a (BitVec.ofNat 8 v) hm
    rw [Memory.rd, Memory.wr, Memory.get_wr_above _ _ _ _ _ h1 (by omega), Memory.get_put m a a _ hm, ih _ _ _ h1]
    have e : v % 256 ^ (n + 1) = v % 256 + 256 * (v / 256 % 256 ^ n) := by rw [Nat.pow_succ, Nat.mul_comm (256 ^ n) 256, Nat.mod_mul]
    rw [if_pos rfl, BitVec.toNat_ofNat]
    exact e.symm

end Sys2Proof.Machine
end

