-- ==== Sys2Proof/Laws/Issue.lean ====
section
/-! SUPPORT. The issue of one instruction: what a view is, what becomes of an instruction that completes, waits or traps, and when its
sources and its destination are ready. Every statement about an instruction goes through these. -/

namespace Sys2Proof.Machine

/-! ## Groups and warps -/

theorem State.group_modGroup (s : State) (g h : Nat) (k : Group → Group) :
    (s.modGroup g k).group h = if h = g then (s.group g).map k else s.group h := tget_tmod _ _ _ _

@[simp] theorem State.warp_modWarp (s : State) (g w : Nat) (k : Warp → Warp) : (s.modWarp g w k).warp g w = (s.warp g w).map k := by
  simp only [State.modWarp, State.modGroup, State.warp, State.group, tget_tmod_self]
  cases tget s.groups g <;> simp [Group.modWarp]

/-- A state whose warps are the same has the same warp after a change of anything else. -/
theorem State.warp_congr {s t : State} (h : t.groups = s.groups) (g w : Nat) : t.warp g w = s.warp g w := by
  simp [State.warp, State.group, h]

@[simp] theorem View.warp_put (v : View) (y : Warp) : (v.put y).warp v.r.g v.r.w = (v.s.warp v.r.g v.r.w).map (fun _ => y) :=
  State.warp_modWarp _ _ _ _

/-! ## What a view is -/

/-- The warp of a view stands in its state with the fragment past the instruction. -/
theorem State.viewOf_spec {s : State} {r : Ref} {v : View} (h : s.viewOf r = some v) :
    v.base = s ∧ v.r = r ∧ s.group r.g = some v.x ∧ (∃ y, v.x.warps[r.w]? = some y ∧ y.slot r.slot = some v.f) ∧
      v.pc = v.f.next ∧ v.lanes = v.f.issueLanes := by
  unfold State.viewOf at h
  split at h
  · cases h
  · rename_i x hx
    split at h
    · cases h
    · rename_i y hy
      split at h
      · cases h
      · rename_i f hf
        cases h
        exact ⟨rfl, rfl, hx, ⟨y, hy, hf⟩, rfl, rfl⟩

/-! ## Traps that are not taken -/

/-- A warp in a trap, or one without a due trap, takes none (19 R427, R430). -/
theorem State.takeDue_calm (s : State) (g w : Nat) (h : ∀ y, s.warp g w = some y → y.intrap = true ∨ y.due = []) : s.takeDue g w = s := by
  unfold State.takeDue
  split
  · rename_i x y hx hy
    rcases h y hy with h | h
    · simp [h]
    · simp [Warp.takeable, h]
  · rfl

/-! ## The three ends of an instruction -/

/-- An instruction that completes, in a warp that takes no trap after it. -/
theorem View.finish_ok (v : View) (t : State) (h : ∀ y, t.warp v.r.g v.r.w = some y → y.intrap = true ∨ y.due = []) :
    v.finish (.ok t) = v.done t := by
  unfold View.finish View.done
  refine State.takeDue_calm _ _ _ (fun y hy => ?_)
  rw [State.warp_modWarp] at hy
  cases h' : t.warp v.r.g v.r.w with
  | none => simp [h'] at hy
  | some z => simp only [h', Option.map_some, Option.some.injEq] at hy; subst hy; exact h z h'

/-- An instruction whose checks find nothing wrong with its word is what its meaning says (04 R92). -/
theorem View.ordered_ok {v : View} {k : View → Except Stop State} {t : State} (h : k v = .ok t) : v.ordered k = .ok t := by
  unfold View.ordered; rw [h]

/-- An instruction that waits waits, whatever its index registers hold. -/
theorem View.ordered_wait {v : View} {k : View → Except Stop State} {t : State} {p : Bool} (h : k v = .error (.wait t p)) :
    v.ordered k = .error (.wait t p) := by
  unfold View.ordered; rw [h]

/-- A trap that is not IDXBOUND at issue is the trap of the instruction (04 R92). -/
theorem View.ordered_trap {v : View} {k : View → Except Stop State} {code a : Nat} {kind : TrapKind} {m : Word}
    (h : k v = .error (.trap code kind a m)) (hc : ¬ (code = cIDXBOUND ∧ kind = .issue)) : v.ordered k = .error (.trap code kind a m) := by
  unfold View.ordered; rw [h]; exact if_neg hc

/-- An instruction that finds a number out of bounds traps for that, when its word is one. -/
theorem View.ordered_idx {v : View} {k : View → Except Stop State} {a : Nat} {m : Word} (h : k v = .error (.trap cIDXBOUND .issue a m))
    (hb : ∀ t, k v.blank = .error t → t.malformed = false) : v.ordered k = .error (.trap cIDXBOUND .issue a m) := by
  unfold View.ordered; rw [h]
  simp only [and_self, if_true]
  split
  · rename_i t ht; simp [hb t ht]
  · rfl

/-- What an issuing fragment comes to, whatever its instruction answers. -/
theorem issue_eq {s : State} {v : View} {k : View → Except Stop State} (h : Issues s v) : issue s k = .next (v.finish (v.ordered k)) := by
  unfold issue
  rw [h.sees]
  simp only [View.unspill, h.here, Bool.false_eq_true, if_false]
  rfl

/-- The completion of an instruction. -/
theorem issue_done {s t : State} {v : View} {k : View → Except Stop State} (h : Issues s v) (hk : k v = .ok t)
    (hc : ∀ y, t.warp v.r.g v.r.w = some y → y.intrap = true ∨ y.due = []) : issue s k = .next (v.done t) := by
  rw [issue_eq h, View.ordered_ok hk, View.finish_ok v t hc]

/-- The trap of an instruction that has had no effect (19 R427); IDXBOUND may give way to a fault of the word itself (04 R92). -/
theorem issue_trap {s : State} {v : View} {k : View → Except Stop State} {code : Nat} {kind : TrapKind} {a : Nat} {m : Word} (h : Issues s v)
    (hk : k v = .error (.trap code kind a m)) (hc : ¬ (code = cIDXBOUND ∧ kind = .issue)) :
    issue s k = .next (v.trapIn v.base code kind a m) := by
  rw [issue_eq h, View.ordered_trap hk hc]; rfl

/-- The wait of an instruction that has not issued (08 R150, R165). -/
theorem issue_wait {s t : State} {v : View} {k : View → Except Stop State} {p : Bool} (h : Issues s v) (hk : k v = .error (.wait t p)) :
    issue s k = .next ((t.setStatus v.r (.blocked p)).parkCheck v.r.g v.r.w) := by
  rw [issue_eq h, View.ordered_wait hk]; rfl

/-- A warp that is put back with the same due traps takes none. -/
theorem View.put_calm {s : State} {v : View} (h : Issues s v) (y' : Warp) (h1 : y'.intrap = v.y.intrap) (h2 : y'.due = v.y.due) :
    ∀ y, (v.put y').warp v.r.g v.r.w = some y → y.intrap = true ∨ y.due = [] := by
  intro y hy
  rw [View.warp_put] at hy
  cases h' : v.s.warp v.r.g v.r.w with
  | none => simp [h'] at hy
  | some z => simp only [h', Option.map_some, Option.some.injEq] at hy; subst hy; rw [h1, h2]; exact h.calm

/-- The completion of an instruction that changes its warp alone. -/
theorem issue_put {s : State} {v : View} {k : View → Except Stop State} {y : Warp} (h : Issues s v) (hk : k v = .ok (v.put y))
    (h1 : y.intrap = v.y.intrap) (h2 : y.due = v.y.due) : issue s k = .next (v.done (v.put y)) :=
  issue_done h hk (View.put_calm h y h1 h2)

/-! ## Binding in `Except` -/

@[simp] theorem Stop.ok_bind {α β : Type} (x : α) (k : α → Except Stop β) : (Except.ok x >>= k) = k x := rfl
@[simp] theorem Stop.error_bind {α β : Type} (e : Stop) (k : α → Except Stop β) : ((Except.error e : Except Stop α) >>= k) = .error e := rfl

/-! ## Sources and destinations (03 R62 to R64) -/

/-- A source that is FULL and no queue changes nothing. -/
theorem Ready.look_full (r : Ready) (d : Rd) (hf : ∀ f ∈ r.v.y.fills d.loc, f = .full) (hp : ∀ i, d.loc = .sca i → r.v.y.mapped i = none) :
    r.look d = r := by
  have plain : ∀ (l : List Fill) (q : Ready), (∀ f ∈ l, f = .full) → l.foldl (fun q f =>
      match f with
      | .full => q
      | .orphaned o => { q with trap := q.trap <|> some (q.v.trap o.code d.code) }
      | .empty => if q.v.f.strict d.wait d.code then { q with trap := q.trap <|> some (q.v.trap cEMPTY d.code) } else { q with block := true }) q = q := by
    intro l
    induction l with
    | nil => intros; rfl
    | cons a l ih =>
      intro q h
      have := h a (by simp)
      subst this
      exact ih q (fun f hf => h f (by simp [hf]))
  unfold Ready.look
  split
  · rename_i i hi
    rw [hp i hi]
    exact plain _ r hf
  · exact plain _ r hf

/-- Sources that are all FULL and no queues are read as they stand. -/
theorem View.sources_full (v : View) (l : List Rd)
    (h : ∀ d ∈ l, (∀ f ∈ v.y.fills d.loc, f = .full) ∧ (∀ i, d.loc = .sca i → v.y.mapped i = none)) : v.sources l = .ok v := by
  have key : ∀ (l : List Rd) (r : Ready), r.v = v →
      (∀ d ∈ l, (∀ f ∈ v.y.fills d.loc, f = .full) ∧ (∀ i, d.loc = .sca i → v.y.mapped i = none)) → l.foldl Ready.look r = r := by
    intro l
    induction l with
    | nil => intros; rfl
    | cons a l ih =>
      intro r hr h
      have ha := h a (by simp)
      rw [← hr] at ha
      rw [List.foldl_cons, Ready.look_full r a ha.1 ha.2]
      exact ih r hr (fun d hd => h d (by simp [hd]))
  unfold View.sources
  rw [key l _ rfl h]
  rfl

theorem View.sources_one {v : View} {l : Loc} {wt : Bool} {c : Nat} (h : ∀ f ∈ v.y.fills l, f = .full) (hp : ∀ i, l = .sca i → v.y.mapped i = none) :
    v.sources [{ loc := l, wait := wt, code := c }] = .ok v :=
  View.sources_full v _ (by simpa using ⟨h, hp⟩)

theorem View.sources_two {v : View} {l l2 : Loc} {wt wt2 : Bool} {c c2 : Nat} (h : ∀ f ∈ v.y.fills l, f = .full) (hp : ∀ i, l = .sca i → v.y.mapped i = none)
    (h2 : ∀ f ∈ v.y.fills l2, f = .full) (hp2 : ∀ i, l2 = .sca i → v.y.mapped i = none) :
    v.sources [{ loc := l, wait := wt, code := c }, { loc := l2, wait := wt2, code := c2 }] = .ok v :=
  View.sources_full v _ (by simpa using ⟨⟨h, hp⟩, ⟨h2, hp2⟩⟩)

/-- A field whose source is ready is read. -/
theorem View.Src.rd {v : View} {k : Kinds} {wide : Bool} {o : Opnd} {l : Loc} (h : View.Src v k wide o l) (wt : Bool) :
    v.rd k wide o wt = .ok { loc := l, wait := wt, code := o.toCode.toNat } := by
  simp [View.rd, h.names]

/-- A window that has a register under some number has one under number 0. -/
theorem Window.name_zero {w : Window} {wide : Bool} {i : Nat} {l : List Nat} (h : w.name wide i = some l) : ∃ l', w.name wide 0 = some l' := by
  unfold Window.name at h ⊢
  cases wide
  · simp only [Bool.false_eq_true, if_false, Option.map_eq_some_iff] at h ⊢
    obtain ⟨a, ha, -⟩ := h
    have : 0 < w.regs.length := by have := (List.getElem?_eq_some_iff.mp ha).1; omega
    exact ⟨_, w.regs[0], by simp [this], rfl⟩
  · simp only [if_true] at h ⊢
    split at h
    · rename_i a b ha hb
      have h1 : 1 < w.regs.length := by have := (List.getElem?_eq_some_iff.mp hb).1; omega
      have h0 : 0 < w.regs.length := by omega
      exact ⟨[w.regs[0], w.regs[1]], by simp [h0, h1]⟩
    · cases h

/-- A field that names a register names one whatever the index registers hold (04 R92). -/
theorem View.blank_resolve {v : View} {k : Kinds} {wide : Bool} {o : Opnd} {l : Loc} (h : v.resolve k wide o = .ok l) :
    ∃ l', v.blank.resolve k wide o = .ok l' := by
  have hx : ∀ i : Fin 4, i ≠ 3 → v.blank.y.x[i] = 0 := by
    intro i hi
    have : i = 0 ∨ i = 1 ∨ i = 2 := by omega
    rcases this with rfl | rfl | rfl <;> simp [View.blank]
  have hw : ∀ j, v.blank.vxWin j = v.vxWin j := fun _ => rfl
  cases o with
  | vx j =>
    simp only [View.resolve, hw] at h ⊢
    have hj : v.blank.y.x[if j = 0 then (0 : Fin 4) else 1] = 0 := hx _ (by split <;> decide)
    cases hk : k.vx with
    | false => simp [hk] at h
    | true =>
      simp only [hk, if_true] at h ⊢
      rw [hj]
      generalize (v.y.x[if j = 0 then (0 : Fin 4) else 1]).toNat = n at h
      split at h
      · cases h
      · rename_i hlen
        split at h
        · rename_i l' hl
          obtain ⟨l0, h0⟩ := Window.name_zero hl
          have : ¬ (v.vxWin j).regs.length ≤ (0 : Byte).toNat := by rw [show (0 : Byte).toNat = 0 from rfl]; omega
          rw [if_neg this]
          exact ⟨.vec l0, by simp [h0]⟩
        · cases h
  | sx2 =>
    simp only [View.resolve] at h ⊢
    rw [hx 2 (by decide)]
    cases hk : k.sx with
    | false => simp [hk] at h
    | true => exact ⟨.sca (Fin.ofNat 32 0), by simp⟩
  | _ => exact ⟨l, h⟩

/-- A destination that is not EMPTY is written. -/
theorem View.Dst.ready {v : View} {k : Kinds} {wide : Bool} {o : Opnd} {l : Loc} (h : View.Dst v k wide o l) : v.destReady l = .ok () := by
  have : ¬ (v.y.fills l).contains Fill.empty = true := by simpa using h.free
  rw [View.destReady, if_neg this]

/-- A type that the instruction takes. -/
theorem View.plainType_ok {v : View} (h : tyNarrow v.et = false) : v.plainType = .ok () := by simp [View.plainType, h]

end Sys2Proof.Machine
end

