-- ==== Sys2Proof/Laws/PerInstr.lean ====
section
/-! SUPPORT. The per-instruction family `Major`: the word of an instruction has a major that 04 R90 gives a class (0 to 13), so no encoding falls among
the reserved majors 14 and 15. An event and a host command have no word. -/

namespace Sys2Proof.Laws

/-- 03 R50: the major of a word. -/
def majorOf (w : Word) : BitVec 4 := w.extractLsb' 28 4

/-- Four bits above the lower part of an append are bits of its upper part. -/
theorem extract_append {m n : Nat} (k : Nat) (x : BitVec m) (y : BitVec n) : (x ++ y).extractLsb' (n + k) 4 = x.extractLsb' k 4 := by
  apply BitVec.eq_of_getLsbD_eq
  intro i hi
  have h : ¬(n + k + i < n) := by omega
  have e : n + k + i - n = k + i := by omega
  simp only [BitVec.getLsbD_extractLsb', BitVec.getLsbD_append, h, hi, e, decide_true, Bool.true_and, if_false]

/-- All four bits of a field. -/
theorem extract_all (x : BitVec 4) : x.extractLsb' 0 4 = x := by
  apply BitVec.eq_of_getLsbD_eq
  intro i hi
  simp [hi]

theorem majorOf_formatA (m : BitVec 4) (n : BitVec 5) (d a b : BitVec 7) (wa wb : Bool) :
    majorOf (formatA m n d a b wa wb) = m :=
  (extract_append 27 _ _).trans <| (extract_append 26 _ _).trans <| (extract_append 19 _ _).trans <| (extract_append 12 _ _).trans <| (extract_append 5 _ _).trans <| (extract_append 0 _ _).trans (extract_all _)

theorem majorOf_formatC (n : BitVec 5) (x : BitVec 23) :
    majorOf (formatC n x) = 0#4 :=
  (extract_append 5 _ _).trans <| (extract_append 0 _ _).trans (extract_all _)

theorem majorOf_formatL (n : BitVec 5) (d : BitVec 7) (x : BitVec 16) :
    majorOf (formatL n d x) = 0#4 :=
  (extract_append 12 _ _).trans <| (extract_append 5 _ _).trans <| (extract_append 0 _ _).trans (extract_all _)

theorem majorOf_formatE (d a b c : BitVec 7) :
    majorOf (formatE d a b c) = 4#4 :=
  (extract_append 21 _ _).trans <| (extract_append 14 _ _).trans <| (extract_append 7 _ _).trans <| (extract_append 0 _ _).trans (extract_all _)

theorem majorOf_formatM (m n : BitVec 4) (k : BitVec 3) (o : BitVec 2) (d a : BitVec 7) (b : BitVec 3) (wd wa : Bool) :
    majorOf (formatM m n k o d a b wd wa) = m :=
  (extract_append 27 _ _).trans <| (extract_append 26 _ _).trans <| (extract_append 23 _ _).trans <| (extract_append 16 _ _).trans <| (extract_append 9 _ _).trans <| (extract_append 7 _ _).trans <| (extract_append 4 _ _).trans <| (extract_append 0 _ _).trans (extract_all _)

theorem majorOf_formatB (k : BitVec 4) (x : BitVec 24) :
    majorOf (formatB k x) = 13#4 :=
  (extract_append 4 _ _).trans <| (extract_append 0 _ _).trans (extract_all _)

end Sys2Proof.Laws

namespace Sys2Proof.Laws.Major

/-- 04 R90: the word of the instruction, where it has one, lies in a class of the opcode map. -/
def Statement (i : Instr) : Prop := ∀ w, encode i = some w → majorOf w < 14#4

theorem of_word {i : Instr} {w : Word} {m : BitVec 4} (h : encode i = some w) (hm : majorOf w = m) (lt : m < 14#4) : Statement i := by
  intro u hu
  rw [h] at hu
  cases hu
  rw [hm]
  exact lt

theorem of_none {i : Instr} (h : encode i = none) : Statement i := by
  intro u hu
  rw [h] at hu
  cases hu

theorem nop : Statement .nop := of_word rfl (majorOf_formatC _ _) (by decide)
theorem setmode (imm : BitVec 23) : Statement (.setmode imm) := of_word rfl (majorOf_formatC _ _) (by decide)
theorem ret : Statement .ret := of_word rfl (majorOf_formatC _ _) (by decide)
theorem rcv (arm : Bool) (tok : BitVec 22) : Statement (.rcv arm tok) := of_word rfl (majorOf_formatC _ _) (by decide)
theorem waitc (rem : Bool) (copy : Bool) (n : BitVec 8) : Statement (.waitc rem copy n) := of_word rfl (majorOf_formatC _ _) (by decide)
theorem yield : Statement .yield := of_word rfl (majorOf_formatC _ _) (by decide)
theorem exit : Statement .exit := of_word rfl (majorOf_formatC _ _) (by decide)
theorem elect (k : BitVec 3) : Statement (.elect k) := of_word rfl (majorOf_formatC _ _) (by decide)
theorem ldl (d : Opnd) (off : BitVec 16) : Statement (.ldl d off) := of_word rfl (majorOf_formatL _ _ _) (by decide)
theorem ldl2 (d : Opnd) (off : BitVec 16) : Statement (.ldl2 d off) := of_word rfl (majorOf_formatL _ _ _) (by decide)
theorem ldln (d : Opnd) (off : BitVec 16) : Statement (.ldln d off) := of_word rfl (majorOf_formatL _ _ _) (by decide)
theorem trap (imm : BitVec 23) : Statement (.trap imm) := of_word rfl (majorOf_formatC _ _) (by decide)
theorem bkpt (imm : BitVec 23) : Statement (.bkpt imm) := of_word rfl (majorOf_formatC _ _) (by decide)
theorem jmps (k : BitVec 5) : Statement (.jmps k) := of_word rfl (majorOf_formatC _ _) (by decide)
theorem saluMov (d : Opnd) (a : Opnd) (wa : Bool) : Statement (.saluMov d a wa) := of_word rfl (majorOf_formatA _ _ _ _ _ _ _) (by decide)
theorem saluAdd (d : Opnd) (a : Opnd) (b : Opnd) (wa : Bool) (wb : Bool) : Statement (.saluAdd d a b wa wb) := of_word rfl (majorOf_formatA _ _ _ _ _ _ _) (by decide)
theorem saluSub (d : Opnd) (a : Opnd) (b : Opnd) (wa : Bool) (wb : Bool) : Statement (.saluSub d a b wa wb) := of_word rfl (majorOf_formatA _ _ _ _ _ _ _) (by decide)
theorem saluMul (d : Opnd) (a : Opnd) (b : Opnd) (wa : Bool) (wb : Bool) : Statement (.saluMul d a b wa wb) := of_word rfl (majorOf_formatA _ _ _ _ _ _ _) (by decide)
theorem saluMulh (d : Opnd) (a : Opnd) (b : Opnd) (wa : Bool) (wb : Bool) : Statement (.saluMulh d a b wa wb) := of_word rfl (majorOf_formatA _ _ _ _ _ _ _) (by decide)
theorem saluMad (d : Opnd) (a : Opnd) (b : Opnd) (wa : Bool) (wb : Bool) : Statement (.saluMad d a b wa wb) := of_word rfl (majorOf_formatA _ _ _ _ _ _ _) (by decide)
theorem saluMin (d : Opnd) (a : Opnd) (b : Opnd) (wa : Bool) (wb : Bool) : Statement (.saluMin d a b wa wb) := of_word rfl (majorOf_formatA _ _ _ _ _ _ _) (by decide)
theorem saluMax (d : Opnd) (a : Opnd) (b : Opnd) (wa : Bool) (wb : Bool) : Statement (.saluMax d a b wa wb) := of_word rfl (majorOf_formatA _ _ _ _ _ _ _) (by decide)
theorem saluAbs (d : Opnd) (a : Opnd) (wa : Bool) : Statement (.saluAbs d a wa) := of_word rfl (majorOf_formatA _ _ _ _ _ _ _) (by decide)
theorem saluNeg (d : Opnd) (a : Opnd) (wa : Bool) : Statement (.saluNeg d a wa) := of_word rfl (majorOf_formatA _ _ _ _ _ _ _) (by decide)
theorem saluAnd (d : Opnd) (a : Opnd) (b : Opnd) (wa : Bool) (wb : Bool) : Statement (.saluAnd d a b wa wb) := of_word rfl (majorOf_formatA _ _ _ _ _ _ _) (by decide)
theorem saluOr (d : Opnd) (a : Opnd) (b : Opnd) (wa : Bool) (wb : Bool) : Statement (.saluOr d a b wa wb) := of_word rfl (majorOf_formatA _ _ _ _ _ _ _) (by decide)
theorem saluXor (d : Opnd) (a : Opnd) (b : Opnd) (wa : Bool) (wb : Bool) : Statement (.saluXor d a b wa wb) := of_word rfl (majorOf_formatA _ _ _ _ _ _ _) (by decide)
theorem saluShl (d : Opnd) (a : Opnd) (b : Opnd) (wa : Bool) (wb : Bool) : Statement (.saluShl d a b wa wb) := of_word rfl (majorOf_formatA _ _ _ _ _ _ _) (by decide)
theorem saluShr (d : Opnd) (a : Opnd) (b : Opnd) (wa : Bool) (wb : Bool) : Statement (.saluShr d a b wa wb) := of_word rfl (majorOf_formatA _ _ _ _ _ _ _) (by decide)
theorem saluSar (d : Opnd) (a : Opnd) (b : Opnd) (wa : Bool) (wb : Bool) : Statement (.saluSar d a b wa wb) := of_word rfl (majorOf_formatA _ _ _ _ _ _ _) (by decide)
theorem saluCmpeq (d : Opnd) (a : Opnd) (b : Opnd) (wa : Bool) (wb : Bool) : Statement (.saluCmpeq d a b wa wb) := of_word rfl (majorOf_formatA _ _ _ _ _ _ _) (by decide)
theorem saluCmplt (d : Opnd) (a : Opnd) (b : Opnd) (wa : Bool) (wb : Bool) : Statement (.saluCmplt d a b wa wb) := of_word rfl (majorOf_formatA _ _ _ _ _ _ _) (by decide)
theorem saluCmple (d : Opnd) (a : Opnd) (b : Opnd) (wa : Bool) (wb : Bool) : Statement (.saluCmple d a b wa wb) := of_word rfl (majorOf_formatA _ _ _ _ _ _ _) (by decide)
theorem saluCmpne (d : Opnd) (a : Opnd) (b : Opnd) (wa : Bool) (wb : Bool) : Statement (.saluCmpne d a b wa wb) := of_word rfl (majorOf_formatA _ _ _ _ _ _ _) (by decide)
theorem saluSel (d : Opnd) (a : Opnd) (b : Opnd) (wa : Bool) (wb : Bool) : Statement (.saluSel d a b wa wb) := of_word rfl (majorOf_formatA _ _ _ _ _ _ _) (by decide)
theorem saluCvt (d : Opnd) (a : Opnd) (ty : BitVec 7) (wa : Bool) : Statement (.saluCvt d a ty wa) := of_word rfl (majorOf_formatA _ _ _ _ _ _ _) (by decide)
theorem addc (d : Opnd) (a : Opnd) (b : Opnd) (wa : Bool) (wb : Bool) : Statement (.addc d a b wa wb) := of_word rfl (majorOf_formatA _ _ _ _ _ _ _) (by decide)
theorem subb (d : Opnd) (a : Opnd) (b : Opnd) (wa : Bool) (wb : Bool) : Statement (.subb d a b wa wb) := of_word rfl (majorOf_formatA _ _ _ _ _ _ _) (by decide)
theorem rot (d : Opnd) (a : Opnd) (b : Opnd) (wa : Bool) (wb : Bool) : Statement (.rot d a b wa wb) := of_word rfl (majorOf_formatA _ _ _ _ _ _ _) (by decide)
theorem rdlane (d : Opnd) (a : Opnd) (b : Opnd) (wa : Bool) (wb : Bool) : Statement (.rdlane d a b wa wb) := of_word rfl (majorOf_formatA _ _ _ _ _ _ _) (by decide)
theorem mand (d : Opnd) (a : Opnd) (b : Opnd) (wa : Bool) (wb : Bool) : Statement (.mand d a b wa wb) := of_word rfl (majorOf_formatA _ _ _ _ _ _ _) (by decide)
theorem mor (d : Opnd) (a : Opnd) (b : Opnd) (wa : Bool) (wb : Bool) : Statement (.mor d a b wa wb) := of_word rfl (majorOf_formatA _ _ _ _ _ _ _) (by decide)
theorem saluClz (d : Opnd) (a : Opnd) (wa : Bool) : Statement (.saluClz d a wa) := of_word rfl (majorOf_formatA _ _ _ _ _ _ _) (by decide)
theorem saluPopc (d : Opnd) (a : Opnd) (wa : Bool) : Statement (.saluPopc d a wa) := of_word rfl (majorOf_formatA _ _ _ _ _ _ _) (by decide)
theorem mxor (d : Opnd) (a : Opnd) (b : Opnd) (wa : Bool) (wb : Bool) : Statement (.mxor d a b wa wb) := of_word rfl (majorOf_formatA _ _ _ _ _ _ _) (by decide)
theorem idxset (xk : BitVec 7) (a : Opnd) (wa : Bool) : Statement (.idxset xk a wa) := of_word rfl (majorOf_formatA _ _ _ _ _ _ _) (by decide)
theorem valuMov (d : Opnd) (a : Opnd) (wa : Bool) : Statement (.valuMov d a wa) := of_word rfl (majorOf_formatA _ _ _ _ _ _ _) (by decide)
theorem valuAdd (d : Opnd) (a : Opnd) (b : Opnd) (wa : Bool) (wb : Bool) : Statement (.valuAdd d a b wa wb) := of_word rfl (majorOf_formatA _ _ _ _ _ _ _) (by decide)
theorem valuSub (d : Opnd) (a : Opnd) (b : Opnd) (wa : Bool) (wb : Bool) : Statement (.valuSub d a b wa wb) := of_word rfl (majorOf_formatA _ _ _ _ _ _ _) (by decide)
theorem valuMul (d : Opnd) (a : Opnd) (b : Opnd) (wa : Bool) (wb : Bool) : Statement (.valuMul d a b wa wb) := of_word rfl (majorOf_formatA _ _ _ _ _ _ _) (by decide)
theorem valuMulh (d : Opnd) (a : Opnd) (b : Opnd) (wa : Bool) (wb : Bool) : Statement (.valuMulh d a b wa wb) := of_word rfl (majorOf_formatA _ _ _ _ _ _ _) (by decide)
theorem valuFma (d : Opnd) (a : Opnd) (b : Opnd) (wa : Bool) (wb : Bool) : Statement (.valuFma d a b wa wb) := of_word rfl (majorOf_formatA _ _ _ _ _ _ _) (by decide)
theorem valuMin (d : Opnd) (a : Opnd) (b : Opnd) (wa : Bool) (wb : Bool) : Statement (.valuMin d a b wa wb) := of_word rfl (majorOf_formatA _ _ _ _ _ _ _) (by decide)
theorem valuMax (d : Opnd) (a : Opnd) (b : Opnd) (wa : Bool) (wb : Bool) : Statement (.valuMax d a b wa wb) := of_word rfl (majorOf_formatA _ _ _ _ _ _ _) (by decide)
theorem valuAbs (d : Opnd) (a : Opnd) (wa : Bool) : Statement (.valuAbs d a wa) := of_word rfl (majorOf_formatA _ _ _ _ _ _ _) (by decide)
theorem valuNeg (d : Opnd) (a : Opnd) (wa : Bool) : Statement (.valuNeg d a wa) := of_word rfl (majorOf_formatA _ _ _ _ _ _ _) (by decide)
theorem valuAnd (d : Opnd) (a : Opnd) (b : Opnd) (wa : Bool) (wb : Bool) : Statement (.valuAnd d a b wa wb) := of_word rfl (majorOf_formatA _ _ _ _ _ _ _) (by decide)
theorem valuOr (d : Opnd) (a : Opnd) (b : Opnd) (wa : Bool) (wb : Bool) : Statement (.valuOr d a b wa wb) := of_word rfl (majorOf_formatA _ _ _ _ _ _ _) (by decide)
theorem valuXor (d : Opnd) (a : Opnd) (b : Opnd) (wa : Bool) (wb : Bool) : Statement (.valuXor d a b wa wb) := of_word rfl (majorOf_formatA _ _ _ _ _ _ _) (by decide)
theorem valuShl (d : Opnd) (a : Opnd) (b : Opnd) (wa : Bool) (wb : Bool) : Statement (.valuShl d a b wa wb) := of_word rfl (majorOf_formatA _ _ _ _ _ _ _) (by decide)
theorem valuShr (d : Opnd) (a : Opnd) (b : Opnd) (wa : Bool) (wb : Bool) : Statement (.valuShr d a b wa wb) := of_word rfl (majorOf_formatA _ _ _ _ _ _ _) (by decide)
theorem valuSar (d : Opnd) (a : Opnd) (b : Opnd) (wa : Bool) (wb : Bool) : Statement (.valuSar d a b wa wb) := of_word rfl (majorOf_formatA _ _ _ _ _ _ _) (by decide)
theorem valuCmpeq (d : Opnd) (a : Opnd) (b : Opnd) (wa : Bool) (wb : Bool) : Statement (.valuCmpeq d a b wa wb) := of_word rfl (majorOf_formatA _ _ _ _ _ _ _) (by decide)
theorem valuCmplt (d : Opnd) (a : Opnd) (b : Opnd) (wa : Bool) (wb : Bool) : Statement (.valuCmplt d a b wa wb) := of_word rfl (majorOf_formatA _ _ _ _ _ _ _) (by decide)
theorem valuCmple (d : Opnd) (a : Opnd) (b : Opnd) (wa : Bool) (wb : Bool) : Statement (.valuCmple d a b wa wb) := of_word rfl (majorOf_formatA _ _ _ _ _ _ _) (by decide)
theorem valuCmpne (d : Opnd) (a : Opnd) (b : Opnd) (wa : Bool) (wb : Bool) : Statement (.valuCmpne d a b wa wb) := of_word rfl (majorOf_formatA _ _ _ _ _ _ _) (by decide)
theorem valuSel (d : Opnd) (a : Opnd) (b : Opnd) (wa : Bool) (wb : Bool) : Statement (.valuSel d a b wa wb) := of_word rfl (majorOf_formatA _ _ _ _ _ _ _) (by decide)
theorem valuCvt (d : Opnd) (a : Opnd) (ty : BitVec 7) (wa : Bool) : Statement (.valuCvt d a ty wa) := of_word rfl (majorOf_formatA _ _ _ _ _ _ _) (by decide)
theorem rcp (d : Opnd) (a : Opnd) (wa : Bool) : Statement (.rcp d a wa) := of_word rfl (majorOf_formatA _ _ _ _ _ _ _) (by decide)
theorem rsq (d : Opnd) (a : Opnd) (wa : Bool) : Statement (.rsq d a wa) := of_word rfl (majorOf_formatA _ _ _ _ _ _ _) (by decide)
theorem sqrt (d : Opnd) (a : Opnd) (wa : Bool) : Statement (.sqrt d a wa) := of_word rfl (majorOf_formatA _ _ _ _ _ _ _) (by decide)
theorem exp2 (d : Opnd) (a : Opnd) (wa : Bool) : Statement (.exp2 d a wa) := of_word rfl (majorOf_formatA _ _ _ _ _ _ _) (by decide)
theorem log2 (d : Opnd) (a : Opnd) (wa : Bool) : Statement (.log2 d a wa) := of_word rfl (majorOf_formatA _ _ _ _ _ _ _) (by decide)
theorem vclass (d : Opnd) (a : Opnd) (wa : Bool) : Statement (.vclass d a wa) := of_word rfl (majorOf_formatA _ _ _ _ _ _ _) (by decide)
theorem valuClz (d : Opnd) (a : Opnd) (wa : Bool) : Statement (.valuClz d a wa) := of_word rfl (majorOf_formatA _ _ _ _ _ _ _) (by decide)
theorem valuPopc (d : Opnd) (a : Opnd) (wa : Bool) : Statement (.valuPopc d a wa) := of_word rfl (majorOf_formatA _ _ _ _ _ _ _) (by decide)
theorem div (d : Opnd) (a : Opnd) (b : Opnd) (wa : Bool) (wb : Bool) : Statement (.div d a b wa wb) := of_word rfl (majorOf_formatA _ _ _ _ _ _ _) (by decide)
theorem bmm8 (d : Opnd) (a : Opnd) (b : Opnd) (wa : Bool) (wb : Bool) : Statement (.bmm8 d a b wa wb) := of_word rfl (majorOf_formatA _ _ _ _ _ _ _) (by decide)
theorem bdep (d : Opnd) (a : Opnd) (b : Opnd) (wa : Bool) (wb : Bool) : Statement (.bdep d a b wa wb) := of_word rfl (majorOf_formatA _ _ _ _ _ _ _) (by decide)
theorem bext (d : Opnd) (a : Opnd) (b : Opnd) (wa : Bool) (wb : Bool) : Statement (.bext d a b wa wb) := of_word rfl (majorOf_formatA _ _ _ _ _ _ _) (by decide)
theorem bperm (d : Opnd) (a : Opnd) (b : Opnd) (wa : Bool) (wb : Bool) : Statement (.bperm d a b wa wb) := of_word rfl (majorOf_formatA _ _ _ _ _ _ _) (by decide)
theorem brev (d : Opnd) (a : Opnd) (wa : Bool) : Statement (.brev d a wa) := of_word rfl (majorOf_formatA _ _ _ _ _ _ _) (by decide)
theorem shfl (d : Opnd) (a : Opnd) (b : Opnd) (wa : Bool) (wb : Bool) : Statement (.shfl d a b wa wb) := of_word rfl (majorOf_formatA _ _ _ _ _ _ _) (by decide)
theorem shflx (d : Opnd) (a : Opnd) (b : Opnd) (wa : Bool) (wb : Bool) : Statement (.shflx d a b wa wb) := of_word rfl (majorOf_formatA _ _ _ _ _ _ _) (by decide)
theorem shflup (d : Opnd) (a : Opnd) (b : Opnd) (wa : Bool) (wb : Bool) : Statement (.shflup d a b wa wb) := of_word rfl (majorOf_formatA _ _ _ _ _ _ _) (by decide)
theorem shfldn (d : Opnd) (a : Opnd) (b : Opnd) (wa : Bool) (wb : Bool) : Statement (.shfldn d a b wa wb) := of_word rfl (majorOf_formatA _ _ _ _ _ _ _) (by decide)
theorem vall (d : Opnd) (a : Opnd) (wa : Bool) : Statement (.vall d a wa) := of_word rfl (majorOf_formatA _ _ _ _ _ _ _) (by decide)
theorem vany (d : Opnd) (a : Opnd) (wa : Bool) : Statement (.vany d a wa) := of_word rfl (majorOf_formatA _ _ _ _ _ _ _) (by decide)
theorem vbal (d : Opnd) (a : Opnd) (wa : Bool) : Statement (.vbal d a wa) := of_word rfl (majorOf_formatA _ _ _ _ _ _ _) (by decide)
theorem qxch (d : Opnd) (a : Opnd) (b : Opnd) (wa : Bool) (wb : Bool) : Statement (.qxch d a b wa wb) := of_word rfl (majorOf_formatA _ _ _ _ _ _ _) (by decide)
theorem qbcst (d : Opnd) (a : Opnd) (b : Opnd) (wa : Bool) (wb : Bool) : Statement (.qbcst d a b wa wb) := of_word rfl (majorOf_formatA _ _ _ _ _ _ _) (by decide)
theorem matchv (d : Opnd) (a : Opnd) (wa : Bool) : Statement (.matchv d a wa) := of_word rfl (majorOf_formatA _ _ _ _ _ _ _) (by decide)
theorem wred (d : Opnd) (a : Opnd) (op : BitVec 7) (wa : Bool) : Statement (.wred d a op wa) := of_word rfl (majorOf_formatA _ _ _ _ _ _ _) (by decide)
theorem wscan (d : Opnd) (a : Opnd) (op : BitVec 7) (wa : Bool) : Statement (.wscan d a op wa) := of_word rfl (majorOf_formatA _ _ _ _ _ _ _) (by decide)
theorem wrlane (d : Opnd) (a : Opnd) (b : Opnd) (wa : Bool) (wb : Bool) : Statement (.wrlane d a b wa wb) := of_word rfl (majorOf_formatA _ _ _ _ _ _ _) (by decide)
theorem ptload (d : Opnd) (b : Opnd) (wb : Bool) : Statement (.ptload d b wb) := of_word rfl (majorOf_formatA _ _ _ _ _ _ _) (by decide)
theorem movx (d : Opnd) (a : Opnd) (wa : Bool) : Statement (.movx d a wa) := of_word rfl (majorOf_formatA _ _ _ _ _ _ _) (by decide)
theorem expr (d : Opnd) (a : Opnd) (b : Opnd) (c : Opnd) : Statement (.expr d a b c) := of_word rfl (majorOf_formatE _ _ _ _) (by decide)
theorem nset (nd : BitVec 7) (a : Opnd) (b : Opnd) (wa : Bool) (wb : Bool) : Statement (.nset nd a b wa wb) := of_word rfl (majorOf_formatA _ _ _ _ _ _ _) (by decide)
theorem nget (d : Opnd) (na : BitVec 7) (b : Opnd) (wa : Bool) (wb : Bool) : Statement (.nget d na b wa wb) := of_word rfl (majorOf_formatA _ _ _ _ _ _ _) (by decide)
theorem nmov (nd : BitVec 7) (na : BitVec 7) (wa : Bool) : Statement (.nmov nd na wa) := of_word rfl (majorOf_formatA _ _ _ _ _ _ _) (by decide)
theorem nadd (nd : BitVec 7) (na : BitVec 7) (nb : BitVec 7) (wa : Bool) (wb : Bool) : Statement (.nadd nd na nb wa wb) := of_word rfl (majorOf_formatA _ _ _ _ _ _ _) (by decide)
theorem nsub (nd : BitVec 7) (na : BitVec 7) (nb : BitVec 7) (wa : Bool) (wb : Bool) : Statement (.nsub nd na nb wa wb) := of_word rfl (majorOf_formatA _ _ _ _ _ _ _) (by decide)
theorem nneg (nd : BitVec 7) (na : BitVec 7) (wa : Bool) : Statement (.nneg nd na wa) := of_word rfl (majorOf_formatA _ _ _ _ _ _ _) (by decide)
theorem ncmp (d : Opnd) (na : BitVec 7) (nb : BitVec 7) (wa : Bool) (wb : Bool) : Statement (.ncmp d na nb wa wb) := of_word rfl (majorOf_formatA _ _ _ _ _ _ _) (by decide)
theorem nshl (nd : BitVec 7) (na : BitVec 7) (b : Opnd) (wa : Bool) (wb : Bool) : Statement (.nshl nd na b wa wb) := of_word rfl (majorOf_formatA _ _ _ _ _ _ _) (by decide)
theorem nshr (nd : BitVec 7) (na : BitVec 7) (b : Opnd) (wa : Bool) (wb : Bool) : Statement (.nshr nd na b wa wb) := of_word rfl (majorOf_formatA _ _ _ _ _ _ _) (by decide)
theorem nmul (nd : BitVec 7) (na : BitVec 7) (nb : BitVec 7) (wa : Bool) (wb : Bool) : Statement (.nmul nd na nb wa wb) := of_word rfl (majorOf_formatA _ _ _ _ _ _ _) (by decide)
theorem nsqr (nd : BitVec 7) (na : BitVec 7) (wa : Bool) : Statement (.nsqr nd na wa) := of_word rfl (majorOf_formatA _ _ _ _ _ _ _) (by decide)
theorem ndiv (nd : BitVec 7) (na : BitVec 7) (nb : BitVec 7) (wa : Bool) (wb : Bool) : Statement (.ndiv nd na nb wa wb) := of_word rfl (majorOf_formatA _ _ _ _ _ _ _) (by decide)
theorem nrem (nd : BitVec 7) (na : BitVec 7) (nb : BitVec 7) (wa : Bool) (wb : Bool) : Statement (.nrem nd na nb wa wb) := of_word rfl (majorOf_formatA _ _ _ _ _ _ _) (by decide)
theorem nmmul (nd : BitVec 7) (na : BitVec 7) (nb : BitVec 7) (wa : Bool) (wb : Bool) : Statement (.nmmul nd na nb wa wb) := of_word rfl (majorOf_formatA _ _ _ _ _ _ _) (by decide)
theorem nld (nd : BitVec 7) (a : Opnd) (wa : Bool) : Statement (.nld nd a wa) := of_word rfl (majorOf_formatA _ _ _ _ _ _ _) (by decide)
theorem nst (nd : BitVec 7) (a : Opnd) (wa : Bool) : Statement (.nst nd a wa) := of_word rfl (majorOf_formatA _ _ _ _ _ _ _) (by decide)
theorem nalloc (nd : BitVec 7) (a : Opnd) (b : Opnd) (wa : Bool) (wb : Bool) : Statement (.nalloc nd a b wa wb) := of_word rfl (majorOf_formatA _ _ _ _ _ _ _) (by decide)
theorem nfree (nd : BitVec 7) : Statement (.nfree nd) := of_word rfl (majorOf_formatA _ _ _ _ _ _ _) (by decide)
theorem nnorm (nd : BitVec 7) (na : BitVec 7) (wa : Bool) : Statement (.nnorm nd na wa) := of_word rfl (majorOf_formatA _ _ _ _ _ _ _) (by decide)
theorem nttf (nd : BitVec 7) (na : BitVec 7) (b : Opnd) (wa : Bool) (wb : Bool) : Statement (.nttf nd na b wa wb) := of_word rfl (majorOf_formatA _ _ _ _ _ _ _) (by decide)
theorem ntti (nd : BitVec 7) (na : BitVec 7) (b : Opnd) (wa : Bool) (wb : Bool) : Statement (.ntti nd na b wa wb) := of_word rfl (majorOf_formatA _ _ _ _ _ _ _) (by decide)
theorem npmul (nd : BitVec 7) (na : BitVec 7) (nb : BitVec 7) (wa : Bool) (wb : Bool) : Statement (.npmul nd na nb wa wb) := of_word rfl (majorOf_formatA _ _ _ _ _ _ _) (by decide)
theorem ncrt (nd : BitVec 7) (na : BitVec 7) (b : Opnd) (wa : Bool) (wb : Bool) : Statement (.ncrt nd na b wa wb) := of_word rfl (majorOf_formatA _ _ _ _ _ _ _) (by decide)
theorem nred (d : Opnd) (na : BitVec 7) (wa : Bool) : Statement (.nred d na wa) := of_word rfl (majorOf_formatA _ _ _ _ _ _ _) (by decide)
theorem aopen (t : BitVec 7) (a : Opnd) (wa : Bool) : Statement (.aopen t a wa) := of_word rfl (majorOf_formatA _ _ _ _ _ _ _) (by decide)
theorem aclose (t : BitVec 7) : Statement (.aclose t) := of_word rfl (majorOf_formatA _ _ _ _ _ _ _) (by decide)
theorem azero (t : BitVec 7) : Statement (.azero t) := of_word rfl (majorOf_formatA _ _ _ _ _ _ _) (by decide)
theorem mma (t : BitVec 7) (fa : BitVec 7) (fb : BitVec 7) : Statement (.mma t fa fb) := of_word rfl (majorOf_formatA _ _ _ _ _ _ _) (by decide)
theorem lmma (t : BitVec 7) (fa : BitVec 7) (fb : BitVec 7) : Statement (.lmma t fa fb) := of_word rfl (majorOf_formatA _ _ _ _ _ _ _) (by decide)
theorem ard (d : Opnd) (t : BitVec 7) (b : Opnd) (wb : Bool) : Statement (.ard d t b wb) := of_word rfl (majorOf_formatA _ _ _ _ _ _ _) (by decide)
theorem awr (t : BitVec 7) (a : Opnd) (b : Opnd) (wa : Bool) (wb : Bool) : Statement (.awr t a b wa wb) := of_word rfl (majorOf_formatA _ _ _ _ _ _ _) (by decide)
theorem cres (nd : BitVec 7) (t : BitVec 7) (b : Opnd) (wb : Bool) : Statement (.cres nd t b wb) := of_word rfl (majorOf_formatA _ _ _ _ _ _ _) (by decide)
theorem adrain (t : BitVec 7) (a : Opnd) (wa : Bool) : Statement (.adrain t a wa) := of_word rfl (majorOf_formatA _ _ _ _ _ _ _) (by decide)
theorem astat (d : Opnd) (t : BitVec 7) (b : Opnd) : Statement (.astat d t b) := of_word rfl (majorOf_formatA _ _ _ _ _ _ _) (by decide)
theorem fqry (d : Opnd) (f : BitVec 7) : Statement (.fqry d f) := of_word rfl (majorOf_formatA _ _ _ _ _ _ _) (by decide)
theorem fdisc (f : BitVec 7) : Statement (.fdisc f) := of_word rfl (majorOf_formatA _ _ _ _ _ _ _) (by decide)
theorem qblk (d : Opnd) (a : Opnd) (ty : BitVec 7) (wa : Bool) : Statement (.qblk d a ty wa) := of_word rfl (majorOf_formatA _ _ _ _ _ _ _) (by decide)
theorem dqblk (d : Opnd) (a : Opnd) (ty : BitVec 7) (wa : Bool) : Statement (.dqblk d a ty wa) := of_word rfl (majorOf_formatA _ _ _ _ _ _ _) (by decide)
theorem cpy (d : Opnd) (a : Opnd) (wa : Bool) : Statement (.cpy d a wa) := of_word rfl (majorOf_formatA _ _ _ _ _ _ _) (by decide)
theorem cpyt (d : Opnd) (a : Opnd) (wa : Bool) : Statement (.cpyt d a wa) := of_word rfl (majorOf_formatA _ _ _ _ _ _ _) (by decide)
theorem cpyf (d : Opnd) (a : Opnd) (f : BitVec 7) (wa : Bool) : Statement (.cpyf d a f wa) := of_word rfl (majorOf_formatA _ _ _ _ _ _ _) (by decide)
theorem cpyq (d : Opnd) (a : Opnd) (wa : Bool) : Statement (.cpyq d a wa) := of_word rfl (majorOf_formatA _ _ _ _ _ _ _) (by decide)
theorem cpyx (d : Opnd) (a : Opnd) (wa : Bool) : Statement (.cpyx d a wa) := of_word rfl (majorOf_formatA _ _ _ _ _ _ _) (by decide)
theorem cstat (d : Opnd) (a : Opnd) (wa : Bool) : Statement (.cstat d a wa) := of_word rfl (majorOf_formatA _ _ _ _ _ _ _) (by decide)
theorem ccan (a : Opnd) (wa : Bool) : Statement (.ccan a wa) := of_word rfl (majorOf_formatA _ _ _ _ _ _ _) (by decide)
theorem binit (a : Opnd) (b : Opnd) (wa : Bool) (wb : Bool) : Statement (.binit a b wa wb) := of_word rfl (majorOf_formatA _ _ _ _ _ _ _) (by decide)
theorem bexp (a : Opnd) (b : Opnd) (wa : Bool) (wb : Bool) : Statement (.bexp a b wa wb) := of_word rfl (majorOf_formatA _ _ _ _ _ _ _) (by decide)
theorem barr (d : Opnd) (a : Opnd) (wa : Bool) : Statement (.barr d a wa) := of_word rfl (majorOf_formatA _ _ _ _ _ _ _) (by decide)
theorem bwait (a : Opnd) (b : Opnd) (wa : Bool) (wb : Bool) : Statement (.bwait a b wa wb) := of_word rfl (majorOf_formatA _ _ _ _ _ _ _) (by decide)
theorem btest (d : Opnd) (a : Opnd) (b : Opnd) (wa : Bool) (wb : Bool) : Statement (.btest d a b wa wb) := of_word rfl (majorOf_formatA _ _ _ _ _ _ _) (by decide)
theorem gsync : Statement .gsync := of_word rfl (majorOf_formatA _ _ _ _ _ _ _) (by decide)
theorem csync : Statement .csync := of_word rfl (majorOf_formatA _ _ _ _ _ _ _) (by decide)
theorem xst (a : Opnd) (b : Opnd) (wa : Bool) (wb : Bool) : Statement (.xst a b wa wb) := of_word rfl (majorOf_formatA _ _ _ _ _ _ _) (by decide)
theorem mcst (a : Opnd) (b : Opnd) (wa : Bool) (wb : Bool) : Statement (.mcst a b wa wb) := of_word rfl (majorOf_formatA _ _ _ _ _ _ _) (by decide)
theorem cred (d : Opnd) (a : Opnd) (b : Opnd) (wa : Bool) (wb : Bool) : Statement (.cred d a b wa wb) := of_word rfl (majorOf_formatA _ _ _ _ _ _ _) (by decide)
theorem rdtim (d : Opnd) : Statement (.rdtim d) := of_word rfl (majorOf_formatA _ _ _ _ _ _ _) (by decide)
theorem rdcyc (d : Opnd) : Statement (.rdcyc d) := of_word rfl (majorOf_formatA _ _ _ _ _ _ _) (by decide)
theorem ld (scope : BitVec 3) (order : BitVec 2) (d : Opnd) (a : Opnd) (base : BitVec 3) (wd : Bool) (wa : Bool) : Statement (.ld scope order d a base wd wa) := of_word rfl (majorOf_formatM _ _ _ _ _ _ _ _ _) (by decide)
theorem st (scope : BitVec 3) (order : BitVec 2) (d : Opnd) (a : Opnd) (base : BitVec 3) (wd : Bool) (wa : Bool) : Statement (.st scope order d a base wd wa) := of_word rfl (majorOf_formatM _ _ _ _ _ _ _ _ _) (by decide)
theorem ldc (scope : BitVec 3) (order : BitVec 2) (d : Opnd) (a : Opnd) (base : BitVec 3) (wd : Bool) (wa : Bool) : Statement (.ldc scope order d a base wd wa) := of_word rfl (majorOf_formatM _ _ _ _ _ _ _ _ _) (by decide)
theorem atadd (scope : BitVec 3) (order : BitVec 2) (d : Opnd) (a : Opnd) (base : BitVec 3) (wd : Bool) (wa : Bool) : Statement (.atadd scope order d a base wd wa) := of_word rfl (majorOf_formatM _ _ _ _ _ _ _ _ _) (by decide)
theorem atmin (scope : BitVec 3) (order : BitVec 2) (d : Opnd) (a : Opnd) (base : BitVec 3) (wd : Bool) (wa : Bool) : Statement (.atmin scope order d a base wd wa) := of_word rfl (majorOf_formatM _ _ _ _ _ _ _ _ _) (by decide)
theorem atmax (scope : BitVec 3) (order : BitVec 2) (d : Opnd) (a : Opnd) (base : BitVec 3) (wd : Bool) (wa : Bool) : Statement (.atmax scope order d a base wd wa) := of_word rfl (majorOf_formatM _ _ _ _ _ _ _ _ _) (by decide)
theorem atand (scope : BitVec 3) (order : BitVec 2) (d : Opnd) (a : Opnd) (base : BitVec 3) (wd : Bool) (wa : Bool) : Statement (.atand scope order d a base wd wa) := of_word rfl (majorOf_formatM _ _ _ _ _ _ _ _ _) (by decide)
theorem ator (scope : BitVec 3) (order : BitVec 2) (d : Opnd) (a : Opnd) (base : BitVec 3) (wd : Bool) (wa : Bool) : Statement (.ator scope order d a base wd wa) := of_word rfl (majorOf_formatM _ _ _ _ _ _ _ _ _) (by decide)
theorem atxor (scope : BitVec 3) (order : BitVec 2) (d : Opnd) (a : Opnd) (base : BitVec 3) (wd : Bool) (wa : Bool) : Statement (.atxor scope order d a base wd wa) := of_word rfl (majorOf_formatM _ _ _ _ _ _ _ _ _) (by decide)
theorem atswp (scope : BitVec 3) (order : BitVec 2) (d : Opnd) (a : Opnd) (base : BitVec 3) (wd : Bool) (wa : Bool) : Statement (.atswp scope order d a base wd wa) := of_word rfl (majorOf_formatM _ _ _ _ _ _ _ _ _) (by decide)
theorem atcas (scope : BitVec 3) (order : BitVec 2) (d : Opnd) (a : Opnd) (base : BitVec 3) (wd : Bool) (wa : Bool) : Statement (.atcas scope order d a base wd wa) := of_word rfl (majorOf_formatM _ _ _ _ _ _ _ _ _) (by decide)
theorem fence (scope : BitVec 3) (order : BitVec 2) : Statement (.fence scope order) := of_word rfl (majorOf_formatM _ _ _ _ _ _ _ _ _) (by decide)
theorem acqr (scope : BitVec 3) (order : BitVec 2) (d : Opnd) (a : Opnd) (base : BitVec 3) (wd : Bool) (wa : Bool) : Statement (.acqr scope order d a base wd wa) := of_word rfl (majorOf_formatM _ _ _ _ _ _ _ _ _) (by decide)
theorem spk (scope : BitVec 3) (order : BitVec 2) (d : Opnd) (a : Opnd) (base : BitVec 3) (wd : Bool) (wa : Bool) : Statement (.spk scope order d a base wd wa) := of_word rfl (majorOf_formatM _ _ _ _ _ _ _ _ _) (by decide)
theorem pref (scope : BitVec 3) (order : BitVec 2) (a : Opnd) (base : BitVec 3) (wa : Bool) : Statement (.pref scope order a base wa) := of_word rfl (majorOf_formatM _ _ _ _ _ _ _ _ _) (by decide)
theorem lds (scope : BitVec 3) (order : BitVec 2) (d : Opnd) (a : Opnd) (base : BitVec 3) (wd : Bool) (wa : Bool) : Statement (.lds scope order d a base wd wa) := of_word rfl (majorOf_formatM _ _ _ _ _ _ _ _ _) (by decide)
theorem sts (scope : BitVec 3) (order : BitVec 2) (d : Opnd) (a : Opnd) (base : BitVec 3) (wd : Bool) (wa : Bool) : Statement (.sts scope order d a base wd wa) := of_word rfl (majorOf_formatM _ _ _ _ _ _ _ _ _) (by decide)
theorem atsadd (scope : BitVec 3) (order : BitVec 2) (d : Opnd) (a : Opnd) (base : BitVec 3) (wd : Bool) (wa : Bool) : Statement (.atsadd scope order d a base wd wa) := of_word rfl (majorOf_formatM _ _ _ _ _ _ _ _ _) (by decide)
theorem atsmin (scope : BitVec 3) (order : BitVec 2) (d : Opnd) (a : Opnd) (base : BitVec 3) (wd : Bool) (wa : Bool) : Statement (.atsmin scope order d a base wd wa) := of_word rfl (majorOf_formatM _ _ _ _ _ _ _ _ _) (by decide)
theorem atsmax (scope : BitVec 3) (order : BitVec 2) (d : Opnd) (a : Opnd) (base : BitVec 3) (wd : Bool) (wa : Bool) : Statement (.atsmax scope order d a base wd wa) := of_word rfl (majorOf_formatM _ _ _ _ _ _ _ _ _) (by decide)
theorem atscas (scope : BitVec 3) (order : BitVec 2) (d : Opnd) (a : Opnd) (base : BitVec 3) (wd : Bool) (wa : Bool) : Statement (.atscas scope order d a base wd wa) := of_word rfl (majorOf_formatM _ _ _ _ _ _ _ _ _) (by decide)
theorem qpush (d : Opnd) (a : Opnd) (b : Opnd) (wa : Bool) (wb : Bool) : Statement (.qpush d a b wa wb) := of_word rfl (majorOf_formatA _ _ _ _ _ _ _) (by decide)
theorem qmap (d : Opnd) (a : Opnd) (wa : Bool) : Statement (.qmap d a wa) := of_word rfl (majorOf_formatA _ _ _ _ _ _ _) (by decide)
theorem qunmap (d : Opnd) : Statement (.qunmap d) := of_word rfl (majorOf_formatA _ _ _ _ _ _ _) (by decide)
theorem qsig (a : Opnd) (b : Opnd) (wa : Bool) (wb : Bool) : Statement (.qsig a b wa wb) := of_word rfl (majorOf_formatA _ _ _ _ _ _ _) (by decide)
theorem qwait (a : Opnd) (b : Opnd) (wa : Bool) (wb : Bool) : Statement (.qwait a b wa wb) := of_word rfl (majorOf_formatA _ _ _ _ _ _ _) (by decide)
theorem qattach (a : Opnd) (wa : Bool) : Statement (.qattach a wa) := of_word rfl (majorOf_formatA _ _ _ _ _ _ _) (by decide)
theorem qdetach (a : Opnd) (wa : Bool) : Statement (.qdetach a wa) := of_word rfl (majorOf_formatA _ _ _ _ _ _ _) (by decide)
theorem qwr (a : Opnd) (b : Opnd) (wa : Bool) (wb : Bool) : Statement (.qwr a b wa wb) := of_word rfl (majorOf_formatA _ _ _ _ _ _ _) (by decide)
theorem rinj (d : Opnd) (a : Opnd) (b : Opnd) (wa : Bool) (wb : Bool) : Statement (.rinj d a b wa wb) := of_word rfl (majorOf_formatA _ _ _ _ _ _ _) (by decide)
theorem rtake (d : Opnd) (a : Opnd) (b : Opnd) (wa : Bool) (wb : Bool) : Statement (.rtake d a b wa wb) := of_word rfl (majorOf_formatA _ _ _ _ _ _ _) (by decide)
theorem rpass : Statement .rpass := of_word rfl (majorOf_formatA _ _ _ _ _ _ _) (by decide)
theorem rdrop : Statement .rdrop := of_word rfl (majorOf_formatA _ _ _ _ _ _ _) (by decide)
theorem reff (sz : BitVec 7) (a : Opnd) (b : Opnd) (wa : Bool) (wb : Bool) : Statement (.reff sz a b wa wb) := of_word rfl (majorOf_formatA _ _ _ _ _ _ _) (by decide)
theorem rstat (d : Opnd) (a : Opnd) (b : Opnd) (wa : Bool) (wb : Bool) : Statement (.rstat d a b wa wb) := of_word rfl (majorOf_formatA _ _ _ _ _ _ _) (by decide)
theorem rdsys (d : Opnd) (k : BitVec 7) : Statement (.rdsys d k) := of_word rfl (majorOf_formatA _ _ _ _ _ _ _) (by decide)
theorem wrsys (k : BitVec 7) (a : Opnd) (wa : Bool) : Statement (.wrsys k a wa) := of_word rfl (majorOf_formatA _ _ _ _ _ _ _) (by decide)
theorem tretFix : Statement .tretFix := of_word rfl (majorOf_formatA _ _ _ _ _ _ _) (by decide)
theorem tretSkip : Statement .tretSkip := of_word rfl (majorOf_formatA _ _ _ _ _ _ _) (by decide)
theorem tretRetry : Statement .tretRetry := of_word rfl (majorOf_formatA _ _ _ _ _ _ _) (by decide)
theorem tretKillw : Statement .tretKillw := of_word rfl (majorOf_formatA _ _ _ _ _ _ _) (by decide)
theorem tretKillg : Statement .tretKillg := of_word rfl (majorOf_formatA _ _ _ _ _ _ _) (by decide)
theorem tretKillc : Statement .tretKillc := of_word rfl (majorOf_formatA _ _ _ _ _ _ _) (by decide)
theorem bset (bk : BitVec 7) (a : Opnd) (b : Opnd) (wa : Bool) (wb : Bool) : Statement (.bset bk a b wa wb) := of_word rfl (majorOf_formatA _ _ _ _ _ _ _) (by decide)
theorem binv (bk : BitVec 7) : Statement (.binv bk) := of_word rfl (majorOf_formatA _ _ _ _ _ _ _) (by decide)
theorem tagld (d : Opnd) (bk : BitVec 7) (b : Opnd) (wb : Bool) : Statement (.tagld d bk b wb) := of_word rfl (majorOf_formatA _ _ _ _ _ _ _) (by decide)
theorem tagst (bk : BitVec 7) (a : Opnd) (b : Opnd) (wa : Bool) (wb : Bool) : Statement (.tagst bk a b wa wb) := of_word rfl (majorOf_formatA _ _ _ _ _ _ _) (by decide)
theorem tlbinv (a : Opnd) (b : Opnd) (wa : Bool) (wb : Bool) : Statement (.tlbinv a b wa wb) := of_word rfl (majorOf_formatA _ _ _ _ _ _ _) (by decide)
theorem pgqry (d : Opnd) (a : Opnd) (wa : Bool) : Statement (.pgqry d a wa) := of_word rfl (majorOf_formatA _ _ _ _ _ _ _) (by decide)
theorem halt : Statement .halt := of_word rfl (majorOf_formatA _ _ _ _ _ _ _) (by decide)
theorem bra (off : BitVec 24) : Statement (.bra off) := of_word rfl (majorOf_formatB _ _) (by decide)
theorem brz (off : BitVec 24) : Statement (.brz off) := of_word rfl (majorOf_formatB _ _) (by decide)
theorem brnz (off : BitVec 24) : Statement (.brnz off) := of_word rfl (majorOf_formatB _ _) (by decide)
theorem brneg (off : BitVec 24) : Statement (.brneg off) := of_word rfl (majorOf_formatB _ _) (by decide)
theorem brcy (off : BitVec 24) : Statement (.brcy off) := of_word rfl (majorOf_formatB _ _) (by decide)
theorem breos (off : BitVec 24) : Statement (.breos off) := of_word rfl (majorOf_formatB _ _) (by decide)
theorem call (off : BitVec 24) : Statement (.call off) := of_word rfl (majorOf_formatB _ _) (by decide)
theorem brv (k : BitVec 3) (off : BitVec 24) : Statement (.brv k off) := of_word rfl (majorOf_formatB _ _) (by decide)
theorem create (c : Fin 64) : Statement (.create c) := of_none rfl
theorem commit (c : Fin 64) : Statement (.commit c) := of_none rfl
theorem suspend (c : Fin 64) : Statement (.suspend c) := of_none rfl
theorem resume (c : Fin 64) : Statement (.resume c) := of_none rfl
theorem destroy (c : Fin 64) : Statement (.destroy c) := of_none rfl
theorem release (c : Fin 64) : Statement (.release c) := of_none rfl
theorem ctxcmdBadcmd (c : Fin 64) (cmd : BitVec 3) : Statement (.ctxcmdBadcmd c cmd) := of_none rfl
theorem contextDead (c : Fin 64) : Statement (.contextDead c) := of_none rfl
theorem registerWrite (off : Nat) (size : Nat) (val : Nat) : Statement (.registerWrite off size val) := of_none rfl
theorem savepoolWrite (v : BitVec 64) : Statement (.savepoolWrite v) := of_none rfl
theorem doorbell (q : Fin 256) (t : BitVec 64) : Statement (.doorbell q t) := of_none rfl
theorem bind (q : Fin 256) (c : Fin 64) : Statement (.bind q c) := of_none rfl
theorem unbind (q : Fin 256) : Statement (.unbind q) := of_none rfl
theorem pause (q : Fin 256) : Statement (.pause q) := of_none rfl
theorem unpause (q : Fin 256) : Statement (.unpause q) := of_none rfl
theorem reset (q : Fin 256) : Statement (.reset q) := of_none rfl
theorem qctlBadcmd (q : Fin 256) (cmd : BitVec 3) : Statement (.qctlBadcmd q cmd) := of_none rfl
theorem kernelLoad (q : Fin 256) : Statement (.kernelLoad q) := of_none rfl
theorem launchAdmission : Statement .launchAdmission := of_none rfl
theorem signalRecheck : Statement .signalRecheck := of_none rfl
theorem priorityAgeing (head : Bool) (id : Nat) : Statement (.priorityAgeing head id) := of_none rfl
theorem phaseDrained (l : Nat) : Statement (.phaseDrained l) := of_none rfl
theorem phaseSelection (l : Nat) : Statement (.phaseSelection l) := of_none rfl
theorem groupPlacement : Statement .groupPlacement := of_none rfl
theorem groupRestored (g : Nat) (ok : Bool) : Statement (.groupRestored g ok) := of_none rfl
theorem preemptionStart : Statement .preemptionStart := of_none rfl
theorem rowBlockPreemption (g : Nat) : Statement (.rowBlockPreemption g) := of_none rfl
theorem groupSaved (g : Nat) : Statement (.groupSaved g) := of_none rfl
theorem warpActivate (core : Nat) : Statement (.warpActivate core) := of_none rfl
theorem producerWriteback (id : Nat) : Statement (.producerWriteback id) := of_none rfl
theorem memoryAccessComplete (id : Nat) : Statement (.memoryAccessComplete id) := of_none rfl
theorem retryResume (g : Nat) (w : Nat) : Statement (.retryResume g w) := of_none rfl
theorem migrationLock (id : Nat) : Statement (.migrationLock id) := of_none rfl
theorem migrationMove (id : Nat) : Statement (.migrationMove id) := of_none rfl
theorem migrationPublish (id : Nat) : Statement (.migrationPublish id) := of_none rfl
theorem migratingLeafRecheck (id : Nat) : Statement (.migratingLeafRecheck id) := of_none rfl
theorem migrate : Statement .migrate := of_none rfl
theorem pin : Statement .pin := of_none rfl
theorem unpin : Statement .unpin := of_none rfl
theorem mcmdTlbinv : Statement .mcmdTlbinv := of_none rfl
theorem frameinWrite (p : Fin 8) (pn : BitVec 64) : Statement (.frameinWrite p pn) := of_none rfl
theorem copyLand (id : Nat) (n : Nat) : Statement (.copyLand id n) := of_none rfl
theorem copyDone (id : Nat) : Statement (.copyDone id) := of_none rfl
theorem copyFail (id : Nat) : Statement (.copyFail id) := of_none rfl
theorem exchangeStoreLand (id : Nat) : Statement (.exchangeStoreLand id) := of_none rfl
theorem reductionResult (id : Nat) : Statement (.reductionResult id) := of_none rfl
theorem streamOperationComplete (id : Nat) : Statement (.streamOperationComplete id) := of_none rfl
theorem hodAllocation (id : Nat) : Statement (.hodAllocation id) := of_none rfl
theorem tileOperationRetire (g : Nat) (id : Nat) : Statement (.tileOperationRetire g id) := of_none rfl
theorem recordAssignment (id : Nat) : Statement (.recordAssignment id) := of_none rfl
theorem windowClose (id : Nat) : Statement (.windowClose id) := of_none rfl
theorem recordCommit (id : Nat) (slot : Nat) : Statement (.recordCommit id slot) := of_none rfl
theorem rowAlert (ch : Nat) (row : Nat) (sat : Bool) (corrupt : Bool) : Statement (.rowAlert ch row sat corrupt) := of_none rfl
theorem damperEpisode (ch : Nat) : Statement (.damperEpisode ch) := of_none rfl
theorem flitReceive (dir : Nat) (noise : BitVec 512) : Statement (.flitReceive dir noise) := of_none rfl
theorem replayRequest (dir : Nat) : Statement (.replayRequest dir) := of_none rfl
theorem packetDeliver (dir : Nat) : Statement (.packetDeliver dir) := of_none rfl
theorem laneLoss (link : Nat) (lane : Fin 16) : Statement (.laneLoss link lane) := of_none rfl
theorem replayStorm (link : Nat) : Statement (.replayStorm link) := of_none rfl
theorem retrainComplete (link : Nat) : Statement (.retrainComplete link) := of_none rfl
theorem retrainTimeout (link : Nat) : Statement (.retrainTimeout link) := of_none rfl
theorem linkQuiesce (link : Nat) : Statement (.linkQuiesce link) := of_none rfl
theorem quiesceComplete (link : Nat) : Statement (.quiesceComplete link) := of_none rfl
theorem inboundAccess (r : InboundReq) : Statement (.inboundAccess r) := of_none rfl
theorem inboundTimeout (id : Nat) : Statement (.inboundTimeout id) := of_none rfl
theorem errorResponse (tag : Nat) (timeout : Bool) : Statement (.errorResponse tag timeout) := of_none rfl
theorem remoteTimeout (tag : Nat) : Statement (.remoteTimeout tag) := of_none rfl
theorem hostMemoryAccess (addr : Nat) (data : List (BitVec 8)) : Statement (.hostMemoryAccess addr data) := of_none rfl
theorem qwaitRecheck (g : Nat) (w : Nat) (slot : Bool) : Statement (.qwaitRecheck g w slot) := of_none rfl
theorem powerGood : Statement .powerGood := of_none rfl
theorem romCheckComplete : Statement .romCheckComplete := of_none rfl
theorem bringupComplete : Statement .bringupComplete := of_none rfl
theorem powerLoss : Statement .powerLoss := of_none rfl
theorem thermalTrip (die : Fin 4) : Statement (.thermalTrip die) := of_none rfl
theorem functionLevelReset : Statement .functionLevelReset := of_none rfl
theorem stepChange (die : Fin 4) (up : Bool) : Statement (.stepChange die up) := of_none rfl
theorem clockPauseEnd (die : Fin 4) : Statement (.clockPauseEnd die) := of_none rfl
theorem stepcapWrite (v : BitVec 2) : Statement (.stepcapWrite v) := of_none rfl
theorem mgmtcauseClear (v : BitVec 32) : Statement (.mgmtcauseClear v) := of_none rfl
theorem report : Statement .report := of_none rfl
theorem certs : Statement .certs := of_none rfl
theorem nodeset : Statement .nodeset := of_none rfl
theorem attestationComplete : Statement .attestationComplete := of_none rfl
theorem healthThreshold (u : HealthUnit) : Statement (.healthThreshold u) := of_none rfl
theorem healthWindowEnd (k : HealthKind) : Statement (.healthWindowEnd k) := of_none rfl
theorem patrolRead (addr : Nat) (corrected : Bool) : Statement (.patrolRead addr corrected) := of_none rfl
theorem reservedEncoding (w : BitVec 32) : Statement (.reservedEncoding w) := of_none rfl
theorem flitSlot (dir : Nat) : Statement (.flitSlot dir) := of_none rfl
theorem spillComplete (g : Nat) (w : Nat) (win : Nat) : Statement (.spillComplete g w win) := of_none rfl
theorem thermalWarning (die : Fin 4) : Statement (.thermalWarning die) := of_none rfl
theorem coreRestart (core : Nat) : Statement (.coreRestart core) := of_none rfl
theorem firmwareImageLoad (k : Fin 4) (img : FirmwareImage) : Statement (.firmwareImageLoad k img) := of_none rfl

end Sys2Proof.Laws.Major
end

