-- ==== Sys2Proof/Machine/HostRead.lean ====
section
/-! DEFINITION. What the host reads at each offset of BAR 0 (20 R438 to R446, 05 R98, 06 R112, R113, 15 R361, R363, 16 R375, R382, 18 R421,
R422). A read changes nothing. -/

namespace Sys2Proof.Machine

/-- The 64 bits of a table of bits that begin at a bit, a listed number being a set bit. -/
def bitsFrom (l : List Nat) (lo : Nat) : Nat := ((List.range 64).map (fun i => if l.contains (lo + i) then 2 ^ i else 0)).sum

/-- Numbers of w bits side by side, the first lowest. -/
def pack (w : Nat) : List Nat → Nat
  | [] => 0
  | x :: r => x % 2 ^ w + 2 ^ w * pack w r

/-- DEVSTAT (20 R439). -/
def DevStat.code : DevStat → Nat
  | .off => 0
  | .romcheck => 1
  | .bringup => 2
  | .ready => 3
  | .recovery => 4
  | .unsupported => 5

/-- QSTATE (06 R113). -/
def QState.code : QState → Nat
  | .unbound => 0
  | .idle => 1
  | .active => 2
  | .blocked => 3
  | .paused => 4
  | .error => 5

/-- STATE of a link (18 R421). -/
def LinkState.code : LinkState → Nat
  | .down => 0
  | .training => 1
  | .up => 2
  | .degraded => 3
  | .quiescing => 4
  | .failed => 5
  | .retired => 6

/-! ## One quadword of each window -/

/-- 20 R439: identity and control; POWER and TEMP are free values. -/
def State.identQuad (s : State) (o : Nat) : Nat :=
  let l := s.life
  if o = 0x00 then l.stat.code + 2 ^ 32 * pack 8 (l.step.toList.map BitVec.toNat)
  else if o = 0x08 then l.stepcap.toNat + 2 ^ 32 * (Config.power s.tick % 2 ^ 32)
  else if o = 0x10 then pack 8 ((List.range 4).map (fun d => Config.temp d s.tick)) + 2 ^ 32 * l.mgmt.toNat
  else if o = 0x18 then 2 ^ 32 * l.attstat
  else if o = 0x30 then l.savepool
  else if o = 0x38 then s.saveUsed
  else s.bar o 8

/-- 05 R97, R98: a context's window. -/
def State.ctxQuad (s : State) (o : Nat) : Nat :=
  let x := s.ctxs[Fin.ofNat 64 (o / 256)]
  if o % 256 < 128 then s.bar (0x100000 + o) 8
  else if o % 256 = 0x80 then 2 ^ 32 * (x.st.code + 256 * x.err)
  else 0

/-- 06 R112, R113: a queue's window. -/
def State.queueQuad (s : State) (o : Nat) : Nat :=
  let q := s.queues[Fin.ofNat 256 (o / 64)]
  if o % 64 = 0 then q.base.toNat
  else if o % 64 = 8 then q.size + 2 ^ 32 * (q.ctx + 2 ^ 13 * q.st.code + 2 ^ 16 * q.err)
  else if o % 64 = 0x10 then q.head.toNat
  else if o % 64 = 0x18 then q.tail.toNat
  else 0

/-- 15 R363: the registers of a frame pool. -/
def State.poolQuad (s : State) (o : Nat) : Nat :=
  let p := s.pools[Fin.ofNat 8 (o / 32)]
  if o % 32 = 0 then s.bar (0x300000 + o) 8
  else if o % 32 = 8 then s.bar (0x300000 + o) 4 + 2 ^ 32 * p.frames.length
  else if o % 32 = 24 then p.drops
  else 0

/-- 15 R361: the migration window. -/
def State.migQuad (s : State) (o : Nat) : Nat :=
  if o = 0 then s.bar 0x301000 4
  else if o = 0x18 then s.mstat + 2 ^ 32 * s.bar 0x30101C 4
  else s.bar (0x301000 + o) 8

/-- 16 R382: the status word of a channel; a retired channel reads 0. -/
def State.channelQuad (s : State) (k : Nat) : Nat :=
  if s.persist.channels.contains k then 0
  else
    let c := tgetD s.channels k .idle
    c.episodes.toNat * 2 ^ 32 + min c.corrupt 65535 * 2 ^ 16 + min c.saturated 255 * 2 ^ 8 + c.list.length % 32

/-- WIDTH of a link (18 R421). -/
def widthCode (w : Nat) : Nat := if w = 12 then 1 else if w = 8 then 2 else if w = 4 then 3 else 0

/-- 18 R421: the status pair of a link. -/
def State.linkQuad (s : State) (o : Nat) : Nat :=
  let k := Fin.ofNat 18 (o / 16)
  let l := s.links[k]
  if o % 16 = 0 then
    l.st.code * 2 ^ 61 + widthCode l.width * 2 ^ 59 + (s.persist.retiredLanes k.val).toNat * 2 ^ 32 + l.outlanes.toNat * 2 ^ 16 + min l.retrains 65535
  else l.replays.toNat * 2 ^ 32 + min l.failovers 65535 * 2 ^ 16 + min l.dups 65535

/-- 20 R443: two corrected-event counts of the current windows. -/
def State.healthQuad (s : State) (o : Nat) : Nat :=
  tgetD s.life.health o 0 % 2 ^ 32 + 2 ^ 32 * (tgetD s.life.health (o + 4) 0 % 2 ^ 32)

/-! ## A read (20 R438, R440) -/

/-- 20 R437: the class code of the module's one function: a processing accelerator. -/
def classCode : Byte := 0x12

/-- 20 R437: the vectors of the function's MSI-X table. -/
def msixVectors : Nat := 65

/-- 20 R439: identity and control can be read: whenever the device has power, since DEVSTAT has codes for ROMCHECK and BRINGUP (DEDUCED, log
entry 58: R440 lists what answers from READY, RECOVERY and UNSUPPORTED on). -/
def State.identReads (s : State) : Bool := decide (s.life.stat ≠ .off)

/-- 20 R440: the configuration table and the windows of R443 answer. -/
def State.confLive (s : State) : Bool := decide (s.life.stat = .ready) || decide (s.life.stat = .unsupported)

/-- What eight bytes at an aligned offset of BAR 0 read as, the configuration table and the persistent tables apart: 0 at an offset that no
register has, and in the windows that R440 does not list while the device is not READY. -/
def State.barQuad (s : State) (o : Nat) : Nat :=
  if s.identReads ∧ o < 0x60 then s.identQuad o
  else if s.confLive ∧ 0x380000 ≤ o ∧ o < 0x382000 then s.healthQuad (o - 0x380000)
  else if !s.open_ then 0
  else if 0x8000 ≤ o ∧ o < 0x8410 then s.bar o 8
  else if 0x9000 ≤ o ∧ o < 0x9010 then bitsFrom s.life.irqs (8 * (o - 0x9000))
  else if 0x100000 ≤ o ∧ o < 0x104000 then s.ctxQuad (o - 0x100000)
  else if 0x200000 ≤ o ∧ o < 0x204000 then s.queueQuad (o - 0x200000)
  else if 0x300000 ≤ o ∧ o < 0x300100 then s.poolQuad (o - 0x300000)
  else if 0x301000 ≤ o ∧ o < 0x301020 then s.migQuad (o - 0x301000)
  else if 0x310000 ≤ o ∧ o < 0x320000 then s.bar o 8
  else if 0x320000 ≤ o ∧ o < 0x320200 then (s.ctxs[Fin.ofNat 64 ((o - 0x320000) / 8)]).drains
  else if 0x330000 ≤ o ∧ o < 0x330800 then s.channelQuad ((o - 0x330000) / 8)
  else if 0x340000 ≤ o ∧ o < 0x340120 then s.linkQuad (o - 0x340000)
  else if 0x350000 ≤ o ∧ o < 0x350800 then s.bar o 8
  else if o = 0x360000 then s.node
  else if 0x360100 ≤ o ∧ o < 0x360300 then s.bar o 8
  else 0

/-- The byte at an offset of BAR 0. -/
def State.barByte (s : State) (o : Nat) : Byte :=
  if s.confLive ∧ 0x370000 ≤ o ∧ o < 0x370440 then (s.configTable[o - 0x370000]?).getD 0
  else if s.confLive ∧ 0x382000 ≤ o ∧ o < 0x383000 then (s.persist.table[o - 0x382000]?).getD 0
  else BitVec.ofNat 8 (s.barQuad (o / 8 * 8) / 2 ^ (8 * (o % 8)))

/-- A host read of n bytes at an offset of BAR 0. -/
def State.hostRead (s : State) (o n : Nat) : Nat := leNat ((List.range n).map (fun i => s.barByte (o + i)))

end Sys2Proof.Machine
end

