-- ==== Sys2Proof/WellFormed.lean ====
section
/-! DEFINITION. Which instructions are well formed: the static checks of a word (03 R51, R52, R54; 04 R92; 14 R314) and the
index ranges of an event. A term that is not well formed is still given its meaning: as a word it traps, as an event it does
nothing. -/

namespace Sys2Proof

/-- 03 R53: the operand code is not the reserved 127. -/
def opndOk (o : Opnd) : Bool := decide (o ≠ .reserved)

/-- 03 R54: a field that names one of eight registers holds zeros above bit 2. -/
def idx3Ok (x : BitVec 7) : Bool := decide (x.toNat < 8)

/-- 03 R54: a field that names one of four registers or FIFOs holds zeros above bit 1. -/
def idx2Ok (x : BitVec 7) : Bool := decide (x.toNat < 4)

/-- 11 R272: a block type code. -/
def bfpOk (x : BitVec 7) : Bool := decide (17 ≤ x.toNat) && decide (x.toNat ≤ 23)

/-- 09 R211: the op field of WSCAN. -/
def scanOpOk (x : BitVec 7) : Bool := decide (x.toNat < 16) && decide (x.toNat % 8 < 6)

/-- 03 R58: the fields of a MODE value that SETMODE accepts. -/
def modeOk (x : BitVec 23) : Bool := decide (bits x 17 15 < 5) && decide (bits x 14 10 < 24) && decide (bits x 0 0 = 0)

/-- 05 R108: the numbers that name a system register. -/
def sysregOk (x : BitVec 7) : Bool :=
  let n := x.toNat
  decide (n ≤ 0x05 ∨ (0x07 ≤ n ∧ n ≤ 0x0D) ∨ (0x10 ≤ n ∧ n ≤ 0x1B))

/-- The static checks of an instruction. -/
def wellFormed (i : Instr) : Bool :=
  match i with
  | .nop => true
  | .setmode imm => modeOk imm
  | .ret => true
  | .rcv _ _ => true
  | .waitc _ _ _ => true
  | .yield => true
  | .exit => true
  | .elect _ => true
  | .ldl d _ => opndOk d
  | .ldl2 d _ => opndOk d
  | .ldln d _ => opndOk d
  | .trap _ => true
  | .bkpt _ => true
  | .jmps _ => true
  | .saluMov d a _ => opndOk d && opndOk a
  | .saluAdd d a b _ _ => opndOk d && opndOk a && opndOk b
  | .saluSub d a b _ _ => opndOk d && opndOk a && opndOk b
  | .saluMul d a b _ _ => opndOk d && opndOk a && opndOk b
  | .saluMulh d a b _ _ => opndOk d && opndOk a && opndOk b
  | .saluMad d a b _ _ => opndOk d && opndOk a && opndOk b
  | .saluMin d a b _ _ => opndOk d && opndOk a && opndOk b
  | .saluMax d a b _ _ => opndOk d && opndOk a && opndOk b
  | .saluAbs d a _ => opndOk d && opndOk a
  | .saluNeg d a _ => opndOk d && opndOk a
  | .saluAnd d a b _ _ => opndOk d && opndOk a && opndOk b
  | .saluOr d a b _ _ => opndOk d && opndOk a && opndOk b
  | .saluXor d a b _ _ => opndOk d && opndOk a && opndOk b
  | .saluShl d a b _ _ => opndOk d && opndOk a && opndOk b
  | .saluShr d a b _ _ => opndOk d && opndOk a && opndOk b
  | .saluSar d a b _ _ => opndOk d && opndOk a && opndOk b
  | .saluCmpeq d a b _ _ => opndOk d && opndOk a && opndOk b
  | .saluCmplt d a b _ _ => opndOk d && opndOk a && opndOk b
  | .saluCmple d a b _ _ => opndOk d && opndOk a && opndOk b
  | .saluCmpne d a b _ _ => opndOk d && opndOk a && opndOk b
  | .saluSel d a b _ _ => opndOk d && opndOk a && opndOk b
  | .saluCvt d a ty _ => opndOk d && opndOk a && decide (ty.toNat < 8)
  | .addc d a b _ _ => opndOk d && opndOk a && opndOk b
  | .subb d a b _ _ => opndOk d && opndOk a && opndOk b
  | .rot d a b _ _ => opndOk d && opndOk a && opndOk b
  | .rdlane d a b _ _ => opndOk d && opndOk a && opndOk b
  | .mand d a b _ _ => opndOk d && opndOk a && opndOk b
  | .mor d a b _ _ => opndOk d && opndOk a && opndOk b
  | .saluClz d a _ => opndOk d && opndOk a
  | .saluPopc d a _ => opndOk d && opndOk a
  | .mxor d a b _ _ => opndOk d && opndOk a && opndOk b
  | .idxset xk a _ => idx2Ok xk && opndOk a
  | .valuMov d a _ => opndOk d && opndOk a
  | .valuAdd d a b _ _ => opndOk d && opndOk a && opndOk b
  | .valuSub d a b _ _ => opndOk d && opndOk a && opndOk b
  | .valuMul d a b _ _ => opndOk d && opndOk a && opndOk b
  | .valuMulh d a b _ _ => opndOk d && opndOk a && opndOk b
  | .valuFma d a b _ _ => opndOk d && opndOk a && opndOk b
  | .valuMin d a b _ _ => opndOk d && opndOk a && opndOk b
  | .valuMax d a b _ _ => opndOk d && opndOk a && opndOk b
  | .valuAbs d a _ => opndOk d && opndOk a
  | .valuNeg d a _ => opndOk d && opndOk a
  | .valuAnd d a b _ _ => opndOk d && opndOk a && opndOk b
  | .valuOr d a b _ _ => opndOk d && opndOk a && opndOk b
  | .valuXor d a b _ _ => opndOk d && opndOk a && opndOk b
  | .valuShl d a b _ _ => opndOk d && opndOk a && opndOk b
  | .valuShr d a b _ _ => opndOk d && opndOk a && opndOk b
  | .valuSar d a b _ _ => opndOk d && opndOk a && opndOk b
  | .valuCmpeq d a b _ _ => opndOk d && opndOk a && opndOk b
  | .valuCmplt d a b _ _ => opndOk d && opndOk a && opndOk b
  | .valuCmple d a b _ _ => opndOk d && opndOk a && opndOk b
  | .valuCmpne d a b _ _ => opndOk d && opndOk a && opndOk b
  | .valuSel d a b _ _ => opndOk d && opndOk a && opndOk b
  | .valuCvt d a ty _ => opndOk d && opndOk a && decide (ty.toNat < 24)
  | .rcp d a _ => opndOk d && opndOk a
  | .rsq d a _ => opndOk d && opndOk a
  | .sqrt d a _ => opndOk d && opndOk a
  | .exp2 d a _ => opndOk d && opndOk a
  | .log2 d a _ => opndOk d && opndOk a
  | .vclass d a _ => opndOk d && opndOk a
  | .valuClz d a _ => opndOk d && opndOk a
  | .valuPopc d a _ => opndOk d && opndOk a
  | .div d a b _ _ => opndOk d && opndOk a && opndOk b
  | .bmm8 d a b _ _ => opndOk d && opndOk a && opndOk b
  | .bdep d a b _ _ => opndOk d && opndOk a && opndOk b
  | .bext d a b _ _ => opndOk d && opndOk a && opndOk b
  | .bperm d a b _ _ => opndOk d && opndOk a && opndOk b
  | .brev d a _ => opndOk d && opndOk a
  | .shfl d a b _ _ => opndOk d && opndOk a && opndOk b
  | .shflx d a b _ _ => opndOk d && opndOk a && opndOk b
  | .shflup d a b _ _ => opndOk d && opndOk a && opndOk b
  | .shfldn d a b _ _ => opndOk d && opndOk a && opndOk b
  | .vall d a _ => opndOk d && opndOk a
  | .vany d a _ => opndOk d && opndOk a
  | .vbal d a _ => opndOk d && opndOk a
  | .qxch d a b _ _ => opndOk d && opndOk a && opndOk b
  | .qbcst d a b _ _ => opndOk d && opndOk a && opndOk b
  | .matchv d a _ => opndOk d && opndOk a
  | .wred d a op _ => opndOk d && opndOk a && decide (op.toNat < 6)
  | .wscan d a op _ => opndOk d && opndOk a && scanOpOk op
  | .wrlane d a b _ _ => opndOk d && opndOk a && opndOk b
  | .ptload d b _ => opndOk d && opndOk b
  | .movx d a _ => opndOk d && opndOk a
  | .expr d a b c => opndOk d && opndOk a && opndOk b && opndOk c
  | .nset nd a b _ _ => idx3Ok nd && opndOk a && opndOk b
  | .nget d na b _ _ => opndOk d && idx3Ok na && opndOk b
  | .nmov nd na _ => idx3Ok nd && idx3Ok na
  | .nadd nd na nb _ _ => idx3Ok nd && idx3Ok na && idx3Ok nb
  | .nsub nd na nb _ _ => idx3Ok nd && idx3Ok na && idx3Ok nb
  | .nneg nd na _ => idx3Ok nd && idx3Ok na
  | .ncmp d na nb _ _ => opndOk d && idx3Ok na && idx3Ok nb
  | .nshl nd na b _ _ => idx3Ok nd && idx3Ok na && opndOk b
  | .nshr nd na b _ _ => idx3Ok nd && idx3Ok na && opndOk b
  | .nmul nd na nb _ _ => idx3Ok nd && idx3Ok na && idx3Ok nb
  | .nsqr nd na _ => idx3Ok nd && idx3Ok na
  | .ndiv nd na nb _ _ => idx3Ok nd && idx3Ok na && idx3Ok nb
  | .nrem nd na nb _ _ => idx3Ok nd && idx3Ok na && idx3Ok nb
  | .nmmul nd na nb _ _ => idx3Ok nd && idx3Ok na && idx3Ok nb
  | .nld nd a _ => idx3Ok nd && opndOk a
  | .nst nd a _ => idx3Ok nd && opndOk a
  | .nalloc nd a b _ _ => idx3Ok nd && opndOk a && opndOk b
  | .nfree nd => idx3Ok nd
  | .nnorm nd na _ => idx3Ok nd && idx3Ok na
  | .nttf nd na b _ _ => idx3Ok nd && idx3Ok na && opndOk b
  | .ntti nd na b _ _ => idx3Ok nd && idx3Ok na && opndOk b
  | .npmul nd na nb _ _ => idx3Ok nd && idx3Ok na && idx3Ok nb
  | .ncrt nd na b _ _ => idx3Ok nd && idx3Ok na && opndOk b
  | .nred d na _ => opndOk d && idx3Ok na
  | .aopen t a _ => idx3Ok t && opndOk a
  | .aclose t => idx3Ok t
  | .azero t => idx3Ok t
  | .mma t fa fb => idx3Ok t && idx2Ok fa && idx2Ok fb
  | .lmma t fa fb => idx3Ok t && idx2Ok fa && idx2Ok fb
  | .ard d t b _ => opndOk d && idx3Ok t && opndOk b
  | .awr t a b _ _ => idx3Ok t && opndOk a && opndOk b
  | .cres nd t b _ => idx3Ok nd && idx3Ok t && opndOk b
  | .adrain t a _ => idx3Ok t && opndOk a
  | .astat d t b => opndOk d && idx3Ok t && opndOk b
  | .fqry d f => opndOk d && idx2Ok f
  | .fdisc f => idx2Ok f
  | .qblk d a ty _ => opndOk d && opndOk a && bfpOk ty
  | .dqblk d a ty _ => opndOk d && opndOk a && bfpOk ty
  | .cpy d a _ => opndOk d && opndOk a
  | .cpyt d a _ => opndOk d && opndOk a
  | .cpyf d a f _ => opndOk d && opndOk a && idx2Ok f
  | .cpyq d a _ => opndOk d && opndOk a
  | .cpyx d a _ => opndOk d && opndOk a
  | .cstat d a _ => opndOk d && opndOk a
  | .ccan a _ => opndOk a
  | .binit a b _ _ => opndOk a && opndOk b
  | .bexp a b _ _ => opndOk a && opndOk b
  | .barr d a _ => opndOk d && opndOk a
  | .bwait a b _ _ => opndOk a && opndOk b
  | .btest d a b _ _ => opndOk d && opndOk a && opndOk b
  | .gsync => true
  | .csync => true
  | .xst a b _ _ => opndOk a && opndOk b
  | .mcst a b _ _ => opndOk a && opndOk b
  | .cred d a b _ _ => opndOk d && opndOk a && opndOk b
  | .rdtim d => opndOk d
  | .rdcyc d => opndOk d
  | .ld scope order d a _ _ _ => opndOk d && opndOk a && decide (scope.toNat < 7 ∧ order.toNat < 2)
  | .st scope order d a _ _ _ => opndOk d && opndOk a && decide (scope.toNat < 7 ∧ (order = 0 ∨ order = 2))
  | .ldc _ order d a _ _ _ => opndOk d && opndOk a && decide (order = 0)
  | .atadd scope _ d a _ _ _ => opndOk d && opndOk a && decide (scope.toNat < 7)
  | .atmin scope _ d a _ _ _ => opndOk d && opndOk a && decide (scope.toNat < 7)
  | .atmax scope _ d a _ _ _ => opndOk d && opndOk a && decide (scope.toNat < 7)
  | .atand scope _ d a _ _ _ => opndOk d && opndOk a && decide (scope.toNat < 7)
  | .ator scope _ d a _ _ _ => opndOk d && opndOk a && decide (scope.toNat < 7)
  | .atxor scope _ d a _ _ _ => opndOk d && opndOk a && decide (scope.toNat < 7)
  | .atswp scope _ d a _ _ _ => opndOk d && opndOk a && decide (scope.toNat < 7)
  | .atcas scope _ d a _ _ _ => opndOk d && opndOk a && decide (scope.toNat < 7)
  | .fence scope order => decide (scope.toNat < 7 ∧ order ≠ 0)
  | .acqr scope order d a _ _ _ => opndOk d && opndOk a && decide (order = 1 ∧ 3 ≤ scope.toNat ∧ scope.toNat < 7)
  | .spk scope order d a _ _ _ => opndOk d && opndOk a && decide (scope.toNat < 7 ∧ (order = 0 ∨ order = 2))
  | .pref scope order a _ _ => opndOk a && decide (scope.toNat < 7 ∧ order = 0)
  | .lds scope order d a base _ _ => opndOk d && opndOk a && decide (scope.toNat < 7 ∧ order.toNat < 2) && decide (base.toNat < 3)
  | .sts scope order d a base _ _ => opndOk d && opndOk a && decide (scope.toNat < 7 ∧ (order = 0 ∨ order = 2)) && decide (base.toNat < 3)
  | .atsadd scope _ d a base _ _ => opndOk d && opndOk a && decide (scope.toNat < 7) && decide (base.toNat < 3)
  | .atsmin scope _ d a base _ _ => opndOk d && opndOk a && decide (scope.toNat < 7) && decide (base.toNat < 3)
  | .atsmax scope _ d a base _ _ => opndOk d && opndOk a && decide (scope.toNat < 7) && decide (base.toNat < 3)
  | .atscas scope _ d a base _ _ => opndOk d && opndOk a && decide (scope.toNat < 7) && decide (base.toNat < 3)
  | .qpush d a b _ _ => opndOk d && opndOk a && opndOk b
  | .qmap d a _ => opndOk d && opndOk a
  | .qunmap d => opndOk d
  | .qsig a b _ _ => opndOk a && opndOk b
  | .qwait a b _ _ => opndOk a && opndOk b
  | .qattach a _ => opndOk a
  | .qdetach a _ => opndOk a
  | .qwr a b _ _ => opndOk a && opndOk b
  | .rinj d a b _ _ => opndOk d && opndOk a && opndOk b
  | .rtake d a b _ _ => opndOk d && opndOk a && opndOk b
  | .rpass => true
  | .rdrop => true
  | .reff sz a b _ _ => decide (sz.toNat < 5) && opndOk a && opndOk b
  | .rstat d a b _ _ => opndOk d && opndOk a && opndOk b
  | .rdsys d k => opndOk d && sysregOk k
  | .wrsys k a _ => sysregOk k && opndOk a
  | .tretFix => true
  | .tretSkip => true
  | .tretRetry => true
  | .tretKillw => true
  | .tretKillg => true
  | .tretKillc => true
  | .bset bk a b _ _ => idx3Ok bk && opndOk a && opndOk b
  | .binv bk => idx3Ok bk
  | .tagld d bk b _ => opndOk d && idx3Ok bk && opndOk b
  | .tagst bk a b _ _ => idx3Ok bk && opndOk a && opndOk b
  | .tlbinv a b _ _ => opndOk a && opndOk b
  | .pgqry d a _ => opndOk d && opndOk a
  | .halt => true
  | .bra _ => true
  | .brz _ => true
  | .brnz _ => true
  | .brneg _ => true
  | .brcy _ => true
  | .breos _ => true
  | .call _ => true
  | .brv _ _ => true
  | .create _ => true
  | .commit _ => true
  | .suspend _ => true
  | .resume _ => true
  | .destroy _ => true
  | .release _ => true
  | .ctxcmdBadcmd _ cmd => decide (cmd = 0 ∨ cmd = 7)
  | .contextDead _ => true
  | .registerWrite off size val => decide (size = 4 ∨ size = 8) && decide (off % size = 0) && decide (val < 256 ^ size)
  | .savepoolWrite _ => true
  | .doorbell _ _ => true
  | .bind _ _ => true
  | .unbind _ => true
  | .pause _ => true
  | .unpause _ => true
  | .reset _ => true
  | .qctlBadcmd _ cmd => decide (6 ≤ cmd.toNat)
  | .kernelLoad _ => true
  | .launchAdmission => true
  | .signalRecheck => true
  | .priorityAgeing _ _ => true
  | .phaseDrained _ => true
  | .phaseSelection _ => true
  | .groupPlacement => true
  | .groupRestored _ _ => true
  | .preemptionStart => true
  | .rowBlockPreemption _ => true
  | .groupSaved _ => true
  | .warpActivate core => decide (core < 288)
  | .producerWriteback _ => true
  | .memoryAccessComplete _ => true
  | .retryResume _ _ => true
  | .migrationLock _ => true
  | .migrationMove _ => true
  | .migrationPublish _ => true
  | .migratingLeafRecheck _ => true
  | .migrate => true
  | .pin => true
  | .unpin => true
  | .mcmdTlbinv => true
  | .frameinWrite _ _ => true
  | .copyLand _ _ => true
  | .copyDone _ => true
  | .copyFail _ => true
  | .exchangeStoreLand _ => true
  | .reductionResult _ => true
  | .streamOperationComplete _ => true
  | .hodAllocation _ => true
  | .tileOperationRetire _ _ => true
  | .recordAssignment _ => true
  | .windowClose _ => true
  | .recordCommit _ _ => true
  | .rowAlert ch _ _ _ => decide (ch < 256)
  | .damperEpisode ch => decide (ch < 256)
  | .flitReceive dir _ => decide (dir < 36)
  | .replayRequest dir => decide (dir < 36)
  | .packetDeliver dir => decide (dir < 36)
  | .laneLoss link _ => decide (link < 18)
  | .replayStorm link => decide (link < 18)
  | .retrainComplete link => decide (link < 18)
  | .retrainTimeout link => decide (link < 18)
  | .linkQuiesce link => decide (link < 18)
  | .quiesceComplete link => decide (link < 18)
  | .inboundAccess _ => true
  | .inboundTimeout _ => true
  | .errorResponse _ _ => true
  | .remoteTimeout _ => true
  | .hostMemoryAccess addr data => decide (addr + data.length ≤ 2 ^ 48)
  | .qwaitRecheck _ _ _ => true
  | .powerGood => true
  | .romCheckComplete => true
  | .bringupComplete => true
  | .powerLoss => true
  | .thermalTrip _ => true
  | .functionLevelReset => true
  | .stepChange _ _ => true
  | .clockPauseEnd _ => true
  | .stepcapWrite _ => true
  | .mgmtcauseClear _ => true
  | .report => true
  | .certs => true
  | .nodeset => true
  | .attestationComplete => true
  | .healthThreshold _ => true
  | .healthWindowEnd _ => true
  | .patrolRead addr _ => decide (addr < 2 ^ 42)
  | .reservedEncoding _ => true
  | .flitSlot dir => decide (dir < 36)
  | .spillComplete _ _ _ => true
  | .thermalWarning _ => true
  | .coreRestart core => decide (core < 288)
  | .firmwareImageLoad _ _ => true

end Sys2Proof
end

