-- ==== Sys2Proof/Tests/Slice0.lean ====
section
/-! SUPPORT. Tests. First the checks of WellFormed and the decoder on words written out field by field from the tables of 03 and 04, then a few
single steps with results taken from the rules of the spec, then for every statement with hypotheses concrete states and operands that meet all
of its hypotheses together. -/

namespace Sys2Proof.Tests

set_option Elab.async false

open Sys2Proof Sys2Proof.Machine

/-! ## Small states -/

/-- A module that runs the one warp of the loaded kernel, whose fragment issues (log entry 7). -/
def here : State := { State.reset.loaded with cur := some { g := 1, w := 0, slot := false } }

/-- The same with its warp changed. -/
def hereWith (f : Warp → Warp) : State := here.modWarp 1 0 f

/-- A warp some of whose scalars hold these values. -/
def holding (y : Warp) (l : List (Fin 32 × DWord)) : Warp := l.foldl (fun y e => y.setS e.1 e.2) y

/-- A view to fall back on. -/
def blank : View := (here.cur.bind here.viewOf).get (by decide +kernel)

/-- What the issuing fragment of a state sees. -/
def seen (s : State) : View := (s.cur.bind s.viewOf).getD blank

/-- The issuing fragment of a state can issue. -/
def issuesB (s : State) : Bool := match s.cur.bind s.viewOf with
  | some v => !v.win.spilled && (v.y.intrap || v.y.due.isEmpty)
  | none => false

theorem issues_of {s : State} (h : issuesB s = true) : Issues s (seen s) := by
  unfold issuesB at h
  unfold seen
  cases hv : s.cur.bind s.viewOf with
  | none => simp [hv] at h
  | some v =>
    simp only [hv, Bool.and_eq_true, Bool.or_eq_true, Bool.not_eq_true', List.isEmpty_iff] at h
    exact ⟨hv, h.1, h.2⟩

/-- A result is this value. -/
def isOk {ε α : Type} [DecidableEq α] (x : Except ε α) (a : α) : Bool := match x with
  | .ok b => decide (b = a)
  | .error _ => false

theorem ok_of {ε α : Type} [DecidableEq α] {x : Except ε α} {a : α} (h : isOk x a = true) : x = .ok a := by
  cases x with
  | error e => simp [isOk] at h
  | ok b => simp only [isOk, decide_eq_true_eq] at h; rw [h]

/-- Every member of a list of cases, taken one by one (a decision over the members' whole type would count them all). -/
theorem all_of {α : Type} {l : List α} {p : α → Prop} [∀ e, Decidable (p e)] (h : l.all (fun e => decide (p e)) = true) : ∀ e ∈ l, p e := by
  simpa using h

/-- A field names a source that is FULL and no queue. -/
def srcB (v : View) (k : Kinds) (w : Bool) (o : Opnd) (l : Loc) : Bool :=
  isOk (v.resolve k w o) l && decide (∀ f ∈ v.y.fills l, f = .full) && (match l with
    | .sca i => decide (v.y.mapped i = none)
    | _ => true)

theorem src_of {v : View} {k : Kinds} {w : Bool} {o : Opnd} {l : Loc} (h : srcB v k w o l = true) : v.Src k w o l := by
  simp only [srcB, Bool.and_eq_true, decide_eq_true_eq] at h
  refine ⟨ok_of h.1.1, h.1.2, ?_⟩
  intro i hi
  subst hi
  simpa using h.2

/-- A field names a destination that is not EMPTY. -/
def dstB (v : View) (k : Kinds) (w : Bool) (o : Opnd) (l : Loc) : Bool :=
  isOk (v.resolveDst k w o) l && decide (Fill.empty ∉ v.y.fills l)

theorem dst_of {v : View} {k : Kinds} {w : Bool} {o : Opnd} {l : Loc} (h : dstB v k w o l = true) : v.Dst k w o l := by
  simp only [dstB, Bool.and_eq_true, decide_eq_true_eq] at h
  exact ⟨ok_of h.1, h.2⟩

/-- A result is this error. -/
def isErr {ε α : Type} [DecidableEq ε] (x : Except ε α) (e : ε) : Bool := match x with
  | .ok _ => false
  | .error f => decide (f = e)

theorem err_of {ε α : Type} [DecidableEq ε] {x : Except ε α} {e : ε} (h : isErr x e = true) : x = .error e := by
  cases x with
  | error f => simp only [isErr, decide_eq_true_eq] at h; rw [h]
  | ok b => simp [isErr] at h

/-- A read of the launch unit answers this. -/
def gotB (x : Fetch Nat) (a : Nat) : Bool := match x with
  | .got b => decide (b = a)
  | _ => false

theorem got_of {x : Fetch Nat} {a : Nat} (h : gotB x a = true) : x = .got a := by
  unfold gotB at h
  split at h
  · rw [of_decide_eq_true h]
  · cases h

/-- Where a range of addresses lies. -/
def isPieces (x : Except Stall (List (Nat × Nat))) (l : List (Nat × Nat)) : Bool := match x with
  | .ok a => decide (a = l)
  | .error _ => false

/-! ## WellFormed: for each check a term that it refuses, beside the nearest one that it accepts -/

/-- The first of each pair is refused, the second is well-formed. -/
def edges (l : List (Instr × Instr)) : Bool := l.all (fun e => !wellFormed e.1 && wellFormed e.2)

/-- 03 R53: code 127 in each field of formats A, E, C and M. -/
theorem test_wf_opnd : edges [
    (.saluAdd .reserved .zero .zero false false, .saluAdd .zero .zero .zero false false),
    (.saluAdd .zero .reserved .zero false false, .saluAdd .zero .sx2 .zero false false),
    (.saluAdd .zero .zero .reserved false false, .saluAdd .zero .zero (.vx 1) false false),
    (.expr .zero .zero .zero .reserved, .expr .zero .zero .zero .lane), (.ldl .reserved 0, .ldl (.s 31) 0),
    (.ld 0 0 .reserved .zero 0 false false, .ld 0 0 (.v 79) .zero 0 false false)] = true := by decide +kernel

/-- 03 R54: numbers of registers, tiles, FIFOs and index registers. -/
theorem test_wf_index : edges [
    (.nmov 8 0 false, .nmov 7 0 false), (.nmov 0 8 false, .nmov 0 7 false), (.aclose 8, .aclose 7), (.binv 8, .binv 7),
    (.mma 0 4 0, .mma 0 3 0), (.mma 0 0 4, .mma 0 0 3), (.fdisc 4, .fdisc 3), (.idxset 4 .zero false, .idxset 3 .zero false)] = true := by decide +kernel

/-- 03 R58: RND 5, ETYPE 24 and bit 0 of a MODE value. -/
theorem test_wf_mode : edges [
    (.setmode 0x028800, .setmode 0x020800), (.setmode 0x006000, .setmode 0x005C00), (.setmode 0x000801, .setmode 0x000802)] = true := by decide +kernel

/-- 09 R187, R194, R211, R212, 11 R272: type codes and reductions. -/
theorem test_wf_codes : edges [
    (.saluCvt .zero .zero 8 false, .saluCvt .zero .zero 7 false), (.valuCvt .zero .zero 24 false, .valuCvt .zero .zero 23 false),
    (.wred .zero .zero 6 false, .wred .zero .zero 5 false), (.wscan .zero .zero 6 false, .wscan .zero .zero 5 false),
    (.wscan .zero .zero 16 false, .wscan .zero .zero 13 false), (.qblk .zero .zero 16 false, .qblk .zero .zero 17 false),
    (.dqblk .zero .zero 24 false, .dqblk .zero .zero 23 false), (.reff 5 .zero .zero false false, .reff 4 .zero .zero false false),
    (.rdsys .zero 6, .rdsys .zero 5), (.rdsys .zero 14, .rdsys .zero 13), (.rdsys .zero 28, .rdsys .zero 27)] = true := by decide +kernel

/-- 03 R51, 14 R331: scopes, orders and windows. -/
theorem test_wf_memory : edges [
    (.ld 7 0 .zero .zero 0 false false, .ld 6 0 .zero .zero 7 false false), (.ld 0 2 .zero .zero 0 false false, .ld 0 1 .zero .zero 0 false false),
    (.st 0 1 .zero .zero 0 false false, .st 0 2 .zero .zero 0 false false), (.ldc 7 1 .zero .zero 0 false false, .ldc 7 0 .zero .zero 0 false false),
    (.atadd 7 3 .zero .zero 0 false false, .atadd 6 3 .zero .zero 0 false false), (.fence 0 0, .fence 0 1), (.fence 7 1, .fence 6 3),
    (.acqr 2 1 .zero .zero 0 false false, .acqr 3 1 .zero .zero 0 false false), (.acqr 3 0 .zero .zero 0 false false, .acqr 6 1 .zero .zero 0 false false),
    (.spk 0 3 .zero .zero 0 false false, .spk 0 2 .zero .zero 0 false false), (.pref 0 1 .zero 0 false, .pref 0 0 .zero 0 false),
    (.lds 0 0 .zero .zero 3 false false, .lds 0 0 .zero .zero 2 false false)] = true := by decide +kernel

/-- 05 R98, 06 R113, 20 R438, 16 R382, 18 R421, 15 R347: arguments of commands and events. -/
theorem test_wf_events : edges [
    (.ctxcmdBadcmd 0 1, .ctxcmdBadcmd 0 7), (.qctlBadcmd 0 5, .qctlBadcmd 0 6), (.registerWrite 0 2 0, .registerWrite 0 4 0),
    (.registerWrite 4 8 0, .registerWrite 8 8 0), (.registerWrite 0 4 (2 ^ 32), .registerWrite 0 4 (2 ^ 32 - 1)), (.warpActivate 288, .warpActivate 287),
    (.rowAlert 256 0 false false, .rowAlert 255 0 false false), (.flitSlot 36, .flitSlot 35), (.laneLoss 18 0, .laneLoss 17 0),
    (.hostMemoryAccess (2 ^ 48) [0], .hostMemoryAccess (2 ^ 48 - 1) [0]), (.patrolRead (2 ^ 42) false, .patrolRead (2 ^ 42 - 1) false),
    (.coreRestart 288, .coreRestart 287)] = true := by decide +kernel

/-! ## Decoding

Words written field by field in the formats of 03 R50, with the codes of 04 R90 in its order and the operand codes of 03 R53. -/

/-- Words decode to what stands beside them. -/
def decodes (l : List (Word × Instr)) : Bool := l.all (fun e => isOk (decodeWord e.1) e.2)

/-- 03: the worked encodings of the spec: VALU ADD v3, v1, s4!; EXPR v10, v1, v2, s0; LD; LDL s7; SETMODE; BRNZ back 3 words. -/
theorem test_decode_worked : decodes [
    (0x20830351, .valuAdd (.v 3) (.v 1) (.s 4) false true), (0x41404150, .expr (.v 10) (.v 1) (.v 2) (.s 0)),
    (0x902850C8, .ld 1 1 (.v 5) (.v 6) 2 false false), (0x04570014, .ldl (.s 7) 20), (0x00C82800, .setmode 0x482800),
    (0xD2FFFFFD, .brnz 0xFFFFFD)] = true := by decide +kernel

/-- 04: the words of the annotated listing. -/
theorem test_decode_listing : decodes [
    (0x04D4000D, .ldl2 (.s 4) 13), (0x04D5000E, .ldl2 (.s 5) 14), (0x2082F7EC, .valuAdd (.v 2) .lane .lane false false),
    (0x20820408, .valuAdd (.v 2) (.v 2) (.v 2) false false), (0x20860554, .valuAdd (.v 6) (.v 2) (.s 5) false false),
    (0x20820551, .valuAdd (.v 2) (.v 2) (.s 4) false true), (0x9020105C, .ld 1 0 (.v 1) (.v 2) 7 false false),
    (0x90A830DC, .ld 5 1 (.v 3) (.v 6) 7 false false), (0x00802800, .setmode 0x2800), (0x40604083, .expr (.v 3) (.v 1) (.v 1) (.v 3)),
    (0x91B030DE, .st 5 2 (.v 3) (.v 6) 7 true false), (0xD0000006, .bra 6), (0x00000000, .nop), (0x03000000, .exit)] = true := by decide +kernel

/-- 04 R90, CTRL: codes 0 to 13 of format C. -/
theorem test_decode_ctrl : decodes [
    (0#4 ++ 0#5 ++ 0#23, .nop), (0#4 ++ 1#5 ++ 0x400001#23, .setmode 0x400001), (0#4 ++ 2#5 ++ 0#23, .ret),
    (0#4 ++ 3#5 ++ 1#1 ++ 0x200001#22, .rcv true 0x200001), (0#4 ++ 4#5 ++ 0#13 ++ 1#1 ++ 0#1 ++ 129#8, .waitc true false 129),
    (0#4 ++ 5#5 ++ 0#23, .yield), (0#4 ++ 6#5 ++ 0#23, .exit), (0#4 ++ 7#5 ++ 0#20 ++ 6#3, .elect 6),
    (0#4 ++ 8#5 ++ 81#7 ++ 0x8001#16, .ldl (.s 1) 0x8001), (0#4 ++ 9#5 ++ 81#7 ++ 0x8001#16, .ldl2 (.s 1) 0x8001),
    (0#4 ++ 10#5 ++ 79#7 ++ 0x8001#16, .ldln (.v 79) 0x8001), (0#4 ++ 11#5 ++ 0x400001#23, .trap 0x400001),
    (0#4 ++ 12#5 ++ 0x400001#23, .bkpt 0x400001), (0#4 ++ 13#5 ++ 0#18 ++ 17#5, .jmps 17)] = true := by decide +kernel

/-- 04 R90, EXPR and BRANCH: formats E and B. -/
theorem test_decode_expr_branch : decodes [
    (4#4 ++ 81#7 ++ 79#7 ++ 123#7 ++ 126#7, .expr (.s 1) (.v 79) .lane .sx2),
    (13#4 ++ 0#4 ++ 0x800001#24, .bra 0x800001), (13#4 ++ 1#4 ++ 0x800001#24, .brz 0x800001), (13#4 ++ 2#4 ++ 0x800001#24, .brnz 0x800001),
    (13#4 ++ 3#4 ++ 0x800001#24, .brneg 0x800001), (13#4 ++ 4#4 ++ 0x800001#24, .brcy 0x800001), (13#4 ++ 5#4 ++ 0x800001#24, .breos 0x800001),
    (13#4 ++ 6#4 ++ 0x800001#24, .call 0x800001), (13#4 ++ 8#4 ++ 0x800001#24, .brv 0 0x800001), (13#4 ++ 15#4 ++ 0x800001#24, .brv 7 0x800001)] = true := by
  decide +kernel

/-- 04 R90, SALU (09): every code in its order. -/
theorem test_decode_salu : decodes (
    [(1#4 ++ 0#5 ++ 81#7 ++ 79#7 ++ 0#7 ++ 1#1 ++ 0#1, .saluMov (.s 1) (.v 79) true),
     (1#4 ++ 1#5 ++ 81#7 ++ 79#7 ++ 123#7 ++ 0#1 ++ 1#1, .saluAdd (.s 1) (.v 79) .lane false true),
     (1#4 ++ 2#5 ++ 81#7 ++ 79#7 ++ 123#7 ++ 1#1 ++ 0#1, .saluSub (.s 1) (.v 79) .lane true false),
     (1#4 ++ 3#5 ++ 81#7 ++ 79#7 ++ 123#7 ++ 0#1 ++ 1#1, .saluMul (.s 1) (.v 79) .lane false true),
     (1#4 ++ 4#5 ++ 81#7 ++ 79#7 ++ 123#7 ++ 1#1 ++ 0#1, .saluMulh (.s 1) (.v 79) .lane true false),
     (1#4 ++ 5#5 ++ 81#7 ++ 79#7 ++ 123#7 ++ 0#1 ++ 1#1, .saluMad (.s 1) (.v 79) .lane false true),
     (1#4 ++ 6#5 ++ 81#7 ++ 79#7 ++ 123#7 ++ 1#1 ++ 0#1, .saluMin (.s 1) (.v 79) .lane true false),
     (1#4 ++ 7#5 ++ 81#7 ++ 79#7 ++ 123#7 ++ 0#1 ++ 1#1, .saluMax (.s 1) (.v 79) .lane false true),
     (1#4 ++ 8#5 ++ 81#7 ++ 79#7 ++ 0#7 ++ 1#1 ++ 0#1, .saluAbs (.s 1) (.v 79) true),
     (1#4 ++ 9#5 ++ 81#7 ++ 79#7 ++ 0#7 ++ 0#1 ++ 0#1, .saluNeg (.s 1) (.v 79) false),
     (1#4 ++ 10#5 ++ 81#7 ++ 79#7 ++ 123#7 ++ 1#1 ++ 0#1, .saluAnd (.s 1) (.v 79) .lane true false),
     (1#4 ++ 11#5 ++ 81#7 ++ 79#7 ++ 123#7 ++ 0#1 ++ 1#1, .saluOr (.s 1) (.v 79) .lane false true)] ++
    [(1#4 ++ 12#5 ++ 81#7 ++ 79#7 ++ 123#7 ++ 1#1 ++ 0#1, .saluXor (.s 1) (.v 79) .lane true false),
     (1#4 ++ 13#5 ++ 81#7 ++ 79#7 ++ 123#7 ++ 0#1 ++ 1#1, .saluShl (.s 1) (.v 79) .lane false true),
     (1#4 ++ 14#5 ++ 81#7 ++ 79#7 ++ 123#7 ++ 1#1 ++ 0#1, .saluShr (.s 1) (.v 79) .lane true false),
     (1#4 ++ 15#5 ++ 81#7 ++ 79#7 ++ 123#7 ++ 0#1 ++ 1#1, .saluSar (.s 1) (.v 79) .lane false true),
     (1#4 ++ 16#5 ++ 81#7 ++ 79#7 ++ 123#7 ++ 1#1 ++ 0#1, .saluCmpeq (.s 1) (.v 79) .lane true false),
     (1#4 ++ 17#5 ++ 81#7 ++ 79#7 ++ 123#7 ++ 0#1 ++ 1#1, .saluCmplt (.s 1) (.v 79) .lane false true),
     (1#4 ++ 18#5 ++ 81#7 ++ 79#7 ++ 123#7 ++ 1#1 ++ 0#1, .saluCmple (.s 1) (.v 79) .lane true false),
     (1#4 ++ 19#5 ++ 81#7 ++ 79#7 ++ 123#7 ++ 0#1 ++ 1#1, .saluCmpne (.s 1) (.v 79) .lane false true),
     (1#4 ++ 20#5 ++ 81#7 ++ 79#7 ++ 123#7 ++ 1#1 ++ 0#1, .saluSel (.s 1) (.v 79) .lane true false),
     (1#4 ++ 21#5 ++ 81#7 ++ 79#7 ++ 19#7 ++ 0#1 ++ 0#1, .saluCvt (.s 1) (.v 79) 19 false),
     (1#4 ++ 22#5 ++ 81#7 ++ 79#7 ++ 123#7 ++ 1#1 ++ 0#1, .addc (.s 1) (.v 79) .lane true false),
     (1#4 ++ 23#5 ++ 81#7 ++ 79#7 ++ 123#7 ++ 0#1 ++ 1#1, .subb (.s 1) (.v 79) .lane false true)] ++
    [(1#4 ++ 24#5 ++ 81#7 ++ 79#7 ++ 123#7 ++ 1#1 ++ 0#1, .rot (.s 1) (.v 79) .lane true false),
     (1#4 ++ 25#5 ++ 81#7 ++ 79#7 ++ 123#7 ++ 0#1 ++ 1#1, .rdlane (.s 1) (.v 79) .lane false true),
     (1#4 ++ 26#5 ++ 81#7 ++ 79#7 ++ 123#7 ++ 1#1 ++ 0#1, .mand (.s 1) (.v 79) .lane true false),
     (1#4 ++ 27#5 ++ 81#7 ++ 79#7 ++ 123#7 ++ 0#1 ++ 1#1, .mor (.s 1) (.v 79) .lane false true),
     (1#4 ++ 28#5 ++ 81#7 ++ 79#7 ++ 0#7 ++ 1#1 ++ 0#1, .saluClz (.s 1) (.v 79) true),
     (1#4 ++ 29#5 ++ 81#7 ++ 79#7 ++ 0#7 ++ 0#1 ++ 0#1, .saluPopc (.s 1) (.v 79) false),
     (1#4 ++ 30#5 ++ 81#7 ++ 79#7 ++ 123#7 ++ 1#1 ++ 0#1, .mxor (.s 1) (.v 79) .lane true false),
     (1#4 ++ 31#5 ++ 3#7 ++ 79#7 ++ 0#7 ++ 0#1 ++ 0#1, .idxset 3 (.v 79) false)]) = true := by decide +kernel

/-- 04 R90, VALU (09): every code in its order. -/
theorem test_decode_valu : decodes (
    [(2#4 ++ 0#5 ++ 81#7 ++ 79#7 ++ 0#7 ++ 1#1 ++ 0#1, .valuMov (.s 1) (.v 79) true),
     (2#4 ++ 1#5 ++ 81#7 ++ 79#7 ++ 123#7 ++ 0#1 ++ 1#1, .valuAdd (.s 1) (.v 79) .lane false true),
     (2#4 ++ 2#5 ++ 81#7 ++ 79#7 ++ 123#7 ++ 1#1 ++ 0#1, .valuSub (.s 1) (.v 79) .lane true false),
     (2#4 ++ 3#5 ++ 81#7 ++ 79#7 ++ 123#7 ++ 0#1 ++ 1#1, .valuMul (.s 1) (.v 79) .lane false true),
     (2#4 ++ 4#5 ++ 81#7 ++ 79#7 ++ 123#7 ++ 1#1 ++ 0#1, .valuMulh (.s 1) (.v 79) .lane true false),
     (2#4 ++ 5#5 ++ 81#7 ++ 79#7 ++ 123#7 ++ 0#1 ++ 1#1, .valuFma (.s 1) (.v 79) .lane false true),
     (2#4 ++ 6#5 ++ 81#7 ++ 79#7 ++ 123#7 ++ 1#1 ++ 0#1, .valuMin (.s 1) (.v 79) .lane true false),
     (2#4 ++ 7#5 ++ 81#7 ++ 79#7 ++ 123#7 ++ 0#1 ++ 1#1, .valuMax (.s 1) (.v 79) .lane false true),
     (2#4 ++ 8#5 ++ 81#7 ++ 79#7 ++ 0#7 ++ 1#1 ++ 0#1, .valuAbs (.s 1) (.v 79) true),
     (2#4 ++ 9#5 ++ 81#7 ++ 79#7 ++ 0#7 ++ 0#1 ++ 0#1, .valuNeg (.s 1) (.v 79) false),
     (2#4 ++ 10#5 ++ 81#7 ++ 79#7 ++ 123#7 ++ 1#1 ++ 0#1, .valuAnd (.s 1) (.v 79) .lane true false),
     (2#4 ++ 11#5 ++ 81#7 ++ 79#7 ++ 123#7 ++ 0#1 ++ 1#1, .valuOr (.s 1) (.v 79) .lane false true)] ++
    [(2#4 ++ 12#5 ++ 81#7 ++ 79#7 ++ 123#7 ++ 1#1 ++ 0#1, .valuXor (.s 1) (.v 79) .lane true false),
     (2#4 ++ 13#5 ++ 81#7 ++ 79#7 ++ 123#7 ++ 0#1 ++ 1#1, .valuShl (.s 1) (.v 79) .lane false true),
     (2#4 ++ 14#5 ++ 81#7 ++ 79#7 ++ 123#7 ++ 1#1 ++ 0#1, .valuShr (.s 1) (.v 79) .lane true false),
     (2#4 ++ 15#5 ++ 81#7 ++ 79#7 ++ 123#7 ++ 0#1 ++ 1#1, .valuSar (.s 1) (.v 79) .lane false true),
     (2#4 ++ 16#5 ++ 81#7 ++ 79#7 ++ 123#7 ++ 1#1 ++ 0#1, .valuCmpeq (.s 1) (.v 79) .lane true false),
     (2#4 ++ 17#5 ++ 81#7 ++ 79#7 ++ 123#7 ++ 0#1 ++ 1#1, .valuCmplt (.s 1) (.v 79) .lane false true),
     (2#4 ++ 18#5 ++ 81#7 ++ 79#7 ++ 123#7 ++ 1#1 ++ 0#1, .valuCmple (.s 1) (.v 79) .lane true false),
     (2#4 ++ 19#5 ++ 81#7 ++ 79#7 ++ 123#7 ++ 0#1 ++ 1#1, .valuCmpne (.s 1) (.v 79) .lane false true),
     (2#4 ++ 20#5 ++ 81#7 ++ 79#7 ++ 123#7 ++ 1#1 ++ 0#1, .valuSel (.s 1) (.v 79) .lane true false),
     (2#4 ++ 21#5 ++ 81#7 ++ 79#7 ++ 19#7 ++ 0#1 ++ 0#1, .valuCvt (.s 1) (.v 79) 19 false),
     (2#4 ++ 22#5 ++ 81#7 ++ 79#7 ++ 0#7 ++ 1#1 ++ 0#1, .rcp (.s 1) (.v 79) true),
     (2#4 ++ 23#5 ++ 81#7 ++ 79#7 ++ 0#7 ++ 0#1 ++ 0#1, .rsq (.s 1) (.v 79) false)] ++
    [(2#4 ++ 24#5 ++ 81#7 ++ 79#7 ++ 0#7 ++ 1#1 ++ 0#1, .sqrt (.s 1) (.v 79) true),
     (2#4 ++ 25#5 ++ 81#7 ++ 79#7 ++ 0#7 ++ 0#1 ++ 0#1, .exp2 (.s 1) (.v 79) false),
     (2#4 ++ 26#5 ++ 81#7 ++ 79#7 ++ 0#7 ++ 1#1 ++ 0#1, .log2 (.s 1) (.v 79) true),
     (2#4 ++ 27#5 ++ 81#7 ++ 79#7 ++ 0#7 ++ 0#1 ++ 0#1, .vclass (.s 1) (.v 79) false),
     (2#4 ++ 28#5 ++ 81#7 ++ 79#7 ++ 0#7 ++ 1#1 ++ 0#1, .valuClz (.s 1) (.v 79) true),
     (2#4 ++ 29#5 ++ 81#7 ++ 79#7 ++ 0#7 ++ 0#1 ++ 0#1, .valuPopc (.s 1) (.v 79) false),
     (2#4 ++ 30#5 ++ 81#7 ++ 79#7 ++ 123#7 ++ 1#1 ++ 0#1, .div (.s 1) (.v 79) .lane true false)]) = true := by decide +kernel

/-- 04 R90, BITX (09): every code in its order. -/
theorem test_decode_bitx : decodes (
    [(3#4 ++ 0#5 ++ 81#7 ++ 79#7 ++ 123#7 ++ 1#1 ++ 0#1, .bmm8 (.s 1) (.v 79) .lane true false),
     (3#4 ++ 1#5 ++ 81#7 ++ 79#7 ++ 123#7 ++ 0#1 ++ 1#1, .bdep (.s 1) (.v 79) .lane false true),
     (3#4 ++ 2#5 ++ 81#7 ++ 79#7 ++ 123#7 ++ 1#1 ++ 0#1, .bext (.s 1) (.v 79) .lane true false),
     (3#4 ++ 3#5 ++ 81#7 ++ 79#7 ++ 123#7 ++ 0#1 ++ 1#1, .bperm (.s 1) (.v 79) .lane false true),
     (3#4 ++ 4#5 ++ 81#7 ++ 79#7 ++ 0#7 ++ 1#1 ++ 0#1, .brev (.s 1) (.v 79) true),
     (3#4 ++ 5#5 ++ 81#7 ++ 79#7 ++ 123#7 ++ 0#1 ++ 1#1, .shfl (.s 1) (.v 79) .lane false true),
     (3#4 ++ 6#5 ++ 81#7 ++ 79#7 ++ 123#7 ++ 1#1 ++ 0#1, .shflx (.s 1) (.v 79) .lane true false),
     (3#4 ++ 7#5 ++ 81#7 ++ 79#7 ++ 123#7 ++ 0#1 ++ 1#1, .shflup (.s 1) (.v 79) .lane false true),
     (3#4 ++ 8#5 ++ 81#7 ++ 79#7 ++ 123#7 ++ 1#1 ++ 0#1, .shfldn (.s 1) (.v 79) .lane true false),
     (3#4 ++ 9#5 ++ 81#7 ++ 79#7 ++ 0#7 ++ 0#1 ++ 0#1, .vall (.s 1) (.v 79) false),
     (3#4 ++ 10#5 ++ 81#7 ++ 79#7 ++ 0#7 ++ 1#1 ++ 0#1, .vany (.s 1) (.v 79) true),
     (3#4 ++ 11#5 ++ 81#7 ++ 79#7 ++ 0#7 ++ 0#1 ++ 0#1, .vbal (.s 1) (.v 79) false)] ++
    [(3#4 ++ 12#5 ++ 81#7 ++ 79#7 ++ 123#7 ++ 1#1 ++ 0#1, .qxch (.s 1) (.v 79) .lane true false),
     (3#4 ++ 13#5 ++ 81#7 ++ 79#7 ++ 123#7 ++ 0#1 ++ 1#1, .qbcst (.s 1) (.v 79) .lane false true),
     (3#4 ++ 14#5 ++ 81#7 ++ 79#7 ++ 0#7 ++ 1#1 ++ 0#1, .matchv (.s 1) (.v 79) true),
     (3#4 ++ 15#5 ++ 81#7 ++ 79#7 ++ 5#7 ++ 0#1 ++ 0#1, .wred (.s 1) (.v 79) 5 false),
     (3#4 ++ 16#5 ++ 81#7 ++ 79#7 ++ 5#7 ++ 1#1 ++ 0#1, .wscan (.s 1) (.v 79) 5 true),
     (3#4 ++ 17#5 ++ 81#7 ++ 79#7 ++ 123#7 ++ 0#1 ++ 1#1, .wrlane (.s 1) (.v 79) .lane false true),
     (3#4 ++ 18#5 ++ 81#7 ++ 0#7 ++ 123#7 ++ 0#1 ++ 0#1, .ptload (.s 1) .lane false),
     (3#4 ++ 19#5 ++ 81#7 ++ 79#7 ++ 0#7 ++ 0#1 ++ 0#1, .movx (.s 1) (.v 79) false)]) = true := by decide +kernel

/-- 04 R90, NUM (10): every code in its order. -/
theorem test_decode_num : decodes (
    [(5#4 ++ 0#5 ++ 5#7 ++ 79#7 ++ 123#7 ++ 1#1 ++ 0#1, .nset 5 (.v 79) .lane true false),
     (5#4 ++ 1#5 ++ 81#7 ++ 6#7 ++ 123#7 ++ 0#1 ++ 1#1, .nget (.s 1) 6 .lane false true),
     (5#4 ++ 2#5 ++ 5#7 ++ 6#7 ++ 0#7 ++ 1#1 ++ 0#1, .nmov 5 6 true), (5#4 ++ 3#5 ++ 5#7 ++ 6#7 ++ 3#7 ++ 0#1 ++ 1#1, .nadd 5 6 3 false true),
     (5#4 ++ 4#5 ++ 5#7 ++ 6#7 ++ 3#7 ++ 1#1 ++ 0#1, .nsub 5 6 3 true false), (5#4 ++ 5#5 ++ 5#7 ++ 6#7 ++ 0#7 ++ 0#1 ++ 0#1, .nneg 5 6 false),
     (5#4 ++ 6#5 ++ 81#7 ++ 6#7 ++ 3#7 ++ 1#1 ++ 0#1, .ncmp (.s 1) 6 3 true false),
     (5#4 ++ 7#5 ++ 5#7 ++ 6#7 ++ 123#7 ++ 0#1 ++ 1#1, .nshl 5 6 .lane false true),
     (5#4 ++ 8#5 ++ 5#7 ++ 6#7 ++ 123#7 ++ 1#1 ++ 0#1, .nshr 5 6 .lane true false),
     (5#4 ++ 9#5 ++ 5#7 ++ 6#7 ++ 3#7 ++ 0#1 ++ 1#1, .nmul 5 6 3 false true), (5#4 ++ 10#5 ++ 5#7 ++ 6#7 ++ 0#7 ++ 1#1 ++ 0#1, .nsqr 5 6 true),
     (5#4 ++ 11#5 ++ 5#7 ++ 6#7 ++ 3#7 ++ 0#1 ++ 1#1, .ndiv 5 6 3 false true)] ++
    [(5#4 ++ 12#5 ++ 5#7 ++ 6#7 ++ 3#7 ++ 1#1 ++ 0#1, .nrem 5 6 3 true false),
     (5#4 ++ 13#5 ++ 5#7 ++ 6#7 ++ 3#7 ++ 0#1 ++ 1#1, .nmmul 5 6 3 false true),
     (5#4 ++ 14#5 ++ 5#7 ++ 79#7 ++ 0#7 ++ 1#1 ++ 0#1, .nld 5 (.v 79) true), (5#4 ++ 15#5 ++ 5#7 ++ 79#7 ++ 0#7 ++ 0#1 ++ 0#1, .nst 5 (.v 79) false),
     (5#4 ++ 16#5 ++ 5#7 ++ 79#7 ++ 123#7 ++ 1#1 ++ 0#1, .nalloc 5 (.v 79) .lane true false),
     (5#4 ++ 17#5 ++ 5#7 ++ 0#7 ++ 0#7 ++ 0#1 ++ 0#1, .nfree 5), (5#4 ++ 18#5 ++ 5#7 ++ 6#7 ++ 0#7 ++ 1#1 ++ 0#1, .nnorm 5 6 true),
     (5#4 ++ 19#5 ++ 5#7 ++ 6#7 ++ 123#7 ++ 0#1 ++ 1#1, .nttf 5 6 .lane false true),
     (5#4 ++ 20#5 ++ 5#7 ++ 6#7 ++ 123#7 ++ 1#1 ++ 0#1, .ntti 5 6 .lane true false),
     (5#4 ++ 21#5 ++ 5#7 ++ 6#7 ++ 3#7 ++ 0#1 ++ 1#1, .npmul 5 6 3 false true),
     (5#4 ++ 22#5 ++ 5#7 ++ 6#7 ++ 123#7 ++ 1#1 ++ 0#1, .ncrt 5 6 .lane true false),
     (5#4 ++ 23#5 ++ 81#7 ++ 6#7 ++ 0#7 ++ 0#1 ++ 0#1, .nred (.s 1) 6 false)]) = true := by decide +kernel

/-- 04 R90, TILE (11): every code in its order. -/
theorem test_decode_tile : decodes (
    [(6#4 ++ 0#5 ++ 7#7 ++ 79#7 ++ 0#7 ++ 1#1 ++ 0#1, .aopen 7 (.v 79) true), (6#4 ++ 1#5 ++ 7#7 ++ 0#7 ++ 0#7 ++ 0#1 ++ 0#1, .aclose 7),
     (6#4 ++ 2#5 ++ 7#7 ++ 0#7 ++ 0#7 ++ 0#1 ++ 0#1, .azero 7), (6#4 ++ 3#5 ++ 7#7 ++ 1#7 ++ 2#7 ++ 0#1 ++ 0#1, .mma 7 1 2),
     (6#4 ++ 4#5 ++ 7#7 ++ 1#7 ++ 2#7 ++ 0#1 ++ 0#1, .lmma 7 1 2), (6#4 ++ 5#5 ++ 81#7 ++ 7#7 ++ 123#7 ++ 0#1 ++ 1#1, .ard (.s 1) 7 .lane true),
     (6#4 ++ 6#5 ++ 7#7 ++ 79#7 ++ 123#7 ++ 1#1 ++ 0#1, .awr 7 (.v 79) .lane true false),
     (6#4 ++ 7#5 ++ 5#7 ++ 7#7 ++ 123#7 ++ 0#1 ++ 1#1, .cres 5 7 .lane true),
     (6#4 ++ 8#5 ++ 7#7 ++ 79#7 ++ 0#7 ++ 1#1 ++ 0#1, .adrain 7 (.v 79) true),
     (6#4 ++ 9#5 ++ 81#7 ++ 7#7 ++ 123#7 ++ 0#1 ++ 0#1, .astat (.s 1) 7 .lane), (6#4 ++ 10#5 ++ 81#7 ++ 3#7 ++ 0#7 ++ 0#1 ++ 0#1, .fqry (.s 1) 3),
     (6#4 ++ 11#5 ++ 0#7 ++ 3#7 ++ 0#7 ++ 0#1 ++ 0#1, .fdisc 3)] ++
    [(6#4 ++ 12#5 ++ 81#7 ++ 79#7 ++ 19#7 ++ 1#1 ++ 0#1, .qblk (.s 1) (.v 79) 19 true),
     (6#4 ++ 13#5 ++ 81#7 ++ 79#7 ++ 19#7 ++ 0#1 ++ 0#1, .dqblk (.s 1) (.v 79) 19 false)]) = true := by decide +kernel

/-- 04 R90, COPY (12): every code in its order. -/
theorem test_decode_copy : decodes (
    [(7#4 ++ 0#5 ++ 81#7 ++ 79#7 ++ 0#7 ++ 1#1 ++ 0#1, .cpy (.s 1) (.v 79) true),
     (7#4 ++ 1#5 ++ 81#7 ++ 79#7 ++ 0#7 ++ 0#1 ++ 0#1, .cpyt (.s 1) (.v 79) false),
     (7#4 ++ 2#5 ++ 81#7 ++ 79#7 ++ 3#7 ++ 1#1 ++ 0#1, .cpyf (.s 1) (.v 79) 3 true),
     (7#4 ++ 3#5 ++ 81#7 ++ 79#7 ++ 0#7 ++ 0#1 ++ 0#1, .cpyq (.s 1) (.v 79) false),
     (7#4 ++ 4#5 ++ 81#7 ++ 79#7 ++ 0#7 ++ 1#1 ++ 0#1, .cpyx (.s 1) (.v 79) true),
     (7#4 ++ 5#5 ++ 81#7 ++ 79#7 ++ 0#7 ++ 0#1 ++ 0#1, .cstat (.s 1) (.v 79) false),
     (7#4 ++ 6#5 ++ 0#7 ++ 79#7 ++ 0#7 ++ 1#1 ++ 0#1, .ccan (.v 79) true)]) = true := by decide +kernel

/-- 04 R90, SYNC (13): every code in its order. -/
theorem test_decode_sync : decodes (
    [(8#4 ++ 0#5 ++ 0#7 ++ 79#7 ++ 123#7 ++ 1#1 ++ 0#1, .binit (.v 79) .lane true false),
     (8#4 ++ 1#5 ++ 0#7 ++ 79#7 ++ 123#7 ++ 0#1 ++ 1#1, .bexp (.v 79) .lane false true),
     (8#4 ++ 2#5 ++ 81#7 ++ 79#7 ++ 0#7 ++ 1#1 ++ 0#1, .barr (.s 1) (.v 79) true),
     (8#4 ++ 3#5 ++ 0#7 ++ 79#7 ++ 123#7 ++ 0#1 ++ 1#1, .bwait (.v 79) .lane false true),
     (8#4 ++ 4#5 ++ 81#7 ++ 79#7 ++ 123#7 ++ 1#1 ++ 0#1, .btest (.s 1) (.v 79) .lane true false),
     (8#4 ++ 5#5 ++ 0#7 ++ 0#7 ++ 0#7 ++ 0#1 ++ 0#1, .gsync), (8#4 ++ 6#5 ++ 0#7 ++ 0#7 ++ 0#7 ++ 0#1 ++ 0#1, .csync),
     (8#4 ++ 7#5 ++ 0#7 ++ 79#7 ++ 123#7 ++ 0#1 ++ 1#1, .xst (.v 79) .lane false true),
     (8#4 ++ 8#5 ++ 0#7 ++ 79#7 ++ 123#7 ++ 1#1 ++ 0#1, .mcst (.v 79) .lane true false),
     (8#4 ++ 9#5 ++ 81#7 ++ 79#7 ++ 123#7 ++ 0#1 ++ 1#1, .cred (.s 1) (.v 79) .lane false true),
     (8#4 ++ 10#5 ++ 81#7 ++ 0#7 ++ 0#7 ++ 0#1 ++ 0#1, .rdtim (.s 1)), (8#4 ++ 11#5 ++ 81#7 ++ 0#7 ++ 0#7 ++ 0#1 ++ 0#1, .rdcyc (.s 1))]) = true := by decide +kernel

/-- 04 R90, MEM (14): every code in its order. -/
theorem test_decode_mem : decodes (
    [(9#4 ++ 0#4 ++ 5#3 ++ 1#2 ++ 81#7 ++ 79#7 ++ 6#3 ++ 0#1 ++ 1#1, .ld 5 1 (.s 1) (.v 79) 6 false true),
     (9#4 ++ 1#4 ++ 5#3 ++ 2#2 ++ 81#7 ++ 79#7 ++ 6#3 ++ 1#1 ++ 0#1, .st 5 2 (.s 1) (.v 79) 6 true false),
     (9#4 ++ 2#4 ++ 5#3 ++ 0#2 ++ 81#7 ++ 79#7 ++ 6#3 ++ 0#1 ++ 1#1, .ldc 5 0 (.s 1) (.v 79) 6 false true),
     (9#4 ++ 3#4 ++ 5#3 ++ 1#2 ++ 81#7 ++ 79#7 ++ 6#3 ++ 1#1 ++ 0#1, .atadd 5 1 (.s 1) (.v 79) 6 true false),
     (9#4 ++ 4#4 ++ 5#3 ++ 2#2 ++ 81#7 ++ 79#7 ++ 6#3 ++ 0#1 ++ 1#1, .atmin 5 2 (.s 1) (.v 79) 6 false true),
     (9#4 ++ 5#4 ++ 5#3 ++ 1#2 ++ 81#7 ++ 79#7 ++ 6#3 ++ 1#1 ++ 0#1, .atmax 5 1 (.s 1) (.v 79) 6 true false),
     (9#4 ++ 6#4 ++ 5#3 ++ 2#2 ++ 81#7 ++ 79#7 ++ 6#3 ++ 0#1 ++ 1#1, .atand 5 2 (.s 1) (.v 79) 6 false true),
     (9#4 ++ 7#4 ++ 5#3 ++ 1#2 ++ 81#7 ++ 79#7 ++ 6#3 ++ 1#1 ++ 0#1, .ator 5 1 (.s 1) (.v 79) 6 true false),
     (9#4 ++ 8#4 ++ 5#3 ++ 2#2 ++ 81#7 ++ 79#7 ++ 6#3 ++ 0#1 ++ 1#1, .atxor 5 2 (.s 1) (.v 79) 6 false true),
     (9#4 ++ 9#4 ++ 5#3 ++ 1#2 ++ 81#7 ++ 79#7 ++ 6#3 ++ 1#1 ++ 0#1, .atswp 5 1 (.s 1) (.v 79) 6 true false),
     (9#4 ++ 10#4 ++ 5#3 ++ 2#2 ++ 81#7 ++ 79#7 ++ 6#3 ++ 0#1 ++ 1#1, .atcas 5 2 (.s 1) (.v 79) 6 false true),
     (9#4 ++ 11#4 ++ 5#3 ++ 1#2 ++ 0#7 ++ 0#7 ++ 0#3 ++ 0#1 ++ 0#1, .fence 5 1)] ++
    [(9#4 ++ 12#4 ++ 5#3 ++ 1#2 ++ 81#7 ++ 79#7 ++ 6#3 ++ 0#1 ++ 1#1, .acqr 5 1 (.s 1) (.v 79) 6 false true),
     (9#4 ++ 13#4 ++ 5#3 ++ 2#2 ++ 81#7 ++ 79#7 ++ 6#3 ++ 1#1 ++ 0#1, .spk 5 2 (.s 1) (.v 79) 6 true false),
     (9#4 ++ 14#4 ++ 5#3 ++ 0#2 ++ 0#7 ++ 79#7 ++ 6#3 ++ 0#1 ++ 1#1, .pref 5 0 (.v 79) 6 true)]) = true := by decide +kernel

/-- 04 R90, SPAD (14): every code in its order. -/
theorem test_decode_spad : decodes (
    [(10#4 ++ 0#4 ++ 5#3 ++ 1#2 ++ 81#7 ++ 79#7 ++ 2#3 ++ 0#1 ++ 1#1, .lds 5 1 (.s 1) (.v 79) 2 false true),
     (10#4 ++ 1#4 ++ 5#3 ++ 2#2 ++ 81#7 ++ 79#7 ++ 2#3 ++ 1#1 ++ 0#1, .sts 5 2 (.s 1) (.v 79) 2 true false),
     (10#4 ++ 2#4 ++ 5#3 ++ 2#2 ++ 81#7 ++ 79#7 ++ 2#3 ++ 0#1 ++ 1#1, .atsadd 5 2 (.s 1) (.v 79) 2 false true),
     (10#4 ++ 3#4 ++ 5#3 ++ 1#2 ++ 81#7 ++ 79#7 ++ 2#3 ++ 1#1 ++ 0#1, .atsmin 5 1 (.s 1) (.v 79) 2 true false),
     (10#4 ++ 4#4 ++ 5#3 ++ 2#2 ++ 81#7 ++ 79#7 ++ 2#3 ++ 0#1 ++ 1#1, .atsmax 5 2 (.s 1) (.v 79) 2 false true),
     (10#4 ++ 5#4 ++ 5#3 ++ 1#2 ++ 81#7 ++ 79#7 ++ 2#3 ++ 1#1 ++ 0#1, .atscas 5 1 (.s 1) (.v 79) 2 true false)]) = true := by decide +kernel

/-- 04 R90, QREC (06, 17): every code in its order. -/
theorem test_decode_qrec : decodes (
    [(11#4 ++ 0#5 ++ 81#7 ++ 79#7 ++ 123#7 ++ 1#1 ++ 0#1, .qpush (.s 1) (.v 79) .lane true false),
     (11#4 ++ 1#5 ++ 81#7 ++ 79#7 ++ 0#7 ++ 0#1 ++ 0#1, .qmap (.s 1) (.v 79) false),
     (11#4 ++ 2#5 ++ 81#7 ++ 0#7 ++ 0#7 ++ 0#1 ++ 0#1, .qunmap (.s 1)),
     (11#4 ++ 3#5 ++ 0#7 ++ 79#7 ++ 123#7 ++ 0#1 ++ 1#1, .qsig (.v 79) .lane false true),
     (11#4 ++ 4#5 ++ 0#7 ++ 79#7 ++ 123#7 ++ 1#1 ++ 0#1, .qwait (.v 79) .lane true false),
     (11#4 ++ 5#5 ++ 0#7 ++ 79#7 ++ 0#7 ++ 0#1 ++ 0#1, .qattach (.v 79) false),
     (11#4 ++ 6#5 ++ 0#7 ++ 79#7 ++ 0#7 ++ 1#1 ++ 0#1, .qdetach (.v 79) true),
     (11#4 ++ 7#5 ++ 0#7 ++ 79#7 ++ 123#7 ++ 0#1 ++ 1#1, .qwr (.v 79) .lane false true),
     (11#4 ++ 8#5 ++ 81#7 ++ 79#7 ++ 123#7 ++ 1#1 ++ 0#1, .rinj (.s 1) (.v 79) .lane true false),
     (11#4 ++ 9#5 ++ 81#7 ++ 79#7 ++ 123#7 ++ 0#1 ++ 1#1, .rtake (.s 1) (.v 79) .lane false true),
     (11#4 ++ 10#5 ++ 0#7 ++ 0#7 ++ 0#7 ++ 0#1 ++ 0#1, .rpass), (11#4 ++ 11#5 ++ 0#7 ++ 0#7 ++ 0#7 ++ 0#1 ++ 0#1, .rdrop)] ++
    [(11#4 ++ 12#5 ++ 4#7 ++ 79#7 ++ 123#7 ++ 1#1 ++ 0#1, .reff 4 (.v 79) .lane true false),
     (11#4 ++ 13#5 ++ 81#7 ++ 79#7 ++ 123#7 ++ 0#1 ++ 1#1, .rstat (.s 1) (.v 79) .lane false true)]) = true := by decide +kernel

/-- 04 R90, SYS (05, 19): every code in its order. -/
theorem test_decode_sys : decodes (
    [(12#4 ++ 0#5 ++ 81#7 ++ 27#7 ++ 0#7 ++ 0#1 ++ 0#1, .rdsys (.s 1) 27),
     (12#4 ++ 1#5 ++ 27#7 ++ 79#7 ++ 0#7 ++ 0#1 ++ 0#1, .wrsys 27 (.v 79) false), (12#4 ++ 2#5 ++ 0#7 ++ 0#7 ++ 0#7 ++ 0#1 ++ 0#1, .tretFix),
     (12#4 ++ 2#5 ++ 0#7 ++ 1#7 ++ 0#7 ++ 0#1 ++ 0#1, .tretSkip), (12#4 ++ 2#5 ++ 0#7 ++ 2#7 ++ 0#7 ++ 0#1 ++ 0#1, .tretRetry),
     (12#4 ++ 2#5 ++ 0#7 ++ 3#7 ++ 0#7 ++ 0#1 ++ 0#1, .tretKillw), (12#4 ++ 2#5 ++ 0#7 ++ 4#7 ++ 0#7 ++ 0#1 ++ 0#1, .tretKillg),
     (12#4 ++ 2#5 ++ 0#7 ++ 5#7 ++ 0#7 ++ 0#1 ++ 0#1, .tretKillc),
     (12#4 ++ 3#5 ++ 6#7 ++ 79#7 ++ 123#7 ++ 0#1 ++ 1#1, .bset 6 (.v 79) .lane false true),
     (12#4 ++ 4#5 ++ 6#7 ++ 0#7 ++ 0#7 ++ 0#1 ++ 0#1, .binv 6), (12#4 ++ 5#5 ++ 81#7 ++ 6#7 ++ 123#7 ++ 0#1 ++ 1#1, .tagld (.s 1) 6 .lane true),
     (12#4 ++ 6#5 ++ 6#7 ++ 79#7 ++ 123#7 ++ 1#1 ++ 0#1, .tagst 6 (.v 79) .lane true false)] ++
    [(12#4 ++ 7#5 ++ 0#7 ++ 79#7 ++ 123#7 ++ 0#1 ++ 1#1, .tlbinv (.v 79) .lane false true),
     (12#4 ++ 8#5 ++ 81#7 ++ 79#7 ++ 0#7 ++ 1#1 ++ 0#1, .pgqry (.s 1) (.v 79) true), (12#4 ++ 9#5 ++ 0#7 ++ 0#7 ++ 0#7 ++ 0#1 ++ 0#1, .halt)]) = true := by decide +kernel

/-- 04 R90, R92: majors, minors, ops and kinds that are reserved, and a TRET action that is none (19 R432). -/
theorem test_decode_reserved :
    [14#4 ++ 0#28, 15#4 ++ 0x0100000#28].all (fun w => isErr (decodeWord w) .reservedMajor) = true ∧
    ([0#4 ++ 14#5 ++ 0#23, 0#4 ++ 31#5 ++ 0#23, 2#4 ++ 31#5 ++ 0#23, 3#4 ++ 20#5 ++ 0#23, 5#4 ++ 24#5 ++ 0#23, 6#4 ++ 14#5 ++ 0#23, 7#4 ++ 7#5 ++ 0#23,
      8#4 ++ 12#5 ++ 0#23] ++
     [9#4 ++ 15#4 ++ 0#24, 10#4 ++ 6#4 ++ 0#24, 10#4 ++ 15#4 ++ 0#24, 11#4 ++ 14#5 ++ 0#23, 12#4 ++ 10#5 ++ 0#23, 13#4 ++ 7#4 ++ 0#24]).all
       (fun w => isErr (decodeWord w) .reservedMinor) = true ∧
    isErr (decodeWord (12#4 ++ 2#5 ++ 0#7 ++ 6#7 ++ 0#9)) .tretAction = true := by decide +kernel

/-- 03 R53: the operand codes. -/
theorem test_operand_codes :
    [0, 79, 80, 111, 112, 119, 120, 121, 122, 123, 124, 125, 126, 127].map (fun n => Opnd.ofCode (BitVec.ofNat 7 n)) =
      [.v 0, .v 79, .s 0, .s 31, .m 0, .m 7, .zero, .one, .mone, .lane, .vx 0, .vx 1, .sx2, .reserved] := by decide +kernel

/-- The host's form of the decoder reads the same words. -/
theorem test_decodeTableWord : decodeTableWord 32 0x20830351 = some (.valuAdd (.v 3) (.v 1) (.s 4) false true) ∧ decodeTableWord 32 0xE0000000 = none := by
  decide +kernel

/-! ## Single steps, with results worked out by hand or taken from the worked examples of the spec -/

/-- The state after an instruction. -/
def after (i : Instr) (s : State) : State := match exec i s with
  | .next t => t
  | _ => { s with groups := [] }

/-- A warp with this MODE, these scalars, and these values in lanes 0 up of some vector registers. -/
def having (mode : BitVec 23) (l : List (Fin 32 × DWord)) (v : List (Nat × List Word)) : State := hereWith (fun y =>
  let z := holding { y with mode := mode } l
  { z with phys := v.foldl (fun t e => tput t e.1 { lanes := Vector.ofFn (fun i => e.2.getD i.val 0), fill := .full }) z.phys })

/-- The warp after an instruction. -/
def warpAfter (i : Instr) (s : State) : Warp := ((after i s).warp 1 0).getD blank.y

/-- A scalar and FLAGS 3 to 0 after an instruction. -/
def scalarAfter (i : Instr) (k : Fin 32) (s : State) : Nat × Nat := ((warpAfter i s).s[k].val.toNat, (warpAfter i s).flags.toNat % 16)

/-- The first lanes of a register after an instruction. -/
def lanesAfter (i : Instr) (r n : Nat) (s : State) : List Nat := (((warpAfter i s).vreg r).lanes.toList.take n).map (·.toNat)

/-- 09 R184, R27: 2^64 - 1 plus 1 wraps to 0 with FLAGS as they were; with SAT the signed sum of the bounds clamps. -/
theorem test_salu_add : scalarAfter (.saluAdd (.s 1) (.s 2) .one false false) 1 (having 0x800 [(2, 0xFFFFFFFFFFFFFFFF)] []) = (0, 0) ∧
    (scalarAfter (.saluAdd (.s 1) (.s 2) .one false false) 1 (having 0xA00 [(2, 0x7FFFFFFFFFFFFFFF)] [])).1 = 0x7FFFFFFFFFFFFFFF := by decide +kernel

/-- 09 R186: -1 < 1 signed: 1, N, no borrow as cardinals; ADDC of 2^64 - 1 and 1 without carry: 0, Z and C. -/
theorem test_salu_cmplt_addc :
    scalarAfter (.saluCmplt (.s 1) (.s 2) .one false false) 1 (having 0x800 [(2, 0xFFFFFFFFFFFFFFFF)] []) = (1, 0b0110) ∧
    scalarAfter (.addc (.s 1) (.s 2) .one false false) 1 (having 0x800 [(2, 0xFFFFFFFFFFFFFFFF)] []) = (0, 0b0101) := by decide +kernel

/-- 09 R184, R185: a source that is also the destination; a shift of 64; MULH signed of -1 by -1. -/
theorem test_salu_sub_shl_mulh : (scalarAfter (.saluSub (.s 1) .zero (.s 1) false false) 1 (having 0x800 [(1, 5)] [])).1 = 2 ^ 64 - 5 ∧
    (scalarAfter (.saluShl (.s 1) (.s 2) (.s 3) false false) 1 (having 0x800 [(2, 1), (3, 64)] [])).1 = 0 ∧
    (scalarAfter (.saluSar (.s 1) .mone (.s 3) false false) 1 (having 0x800 [(3, 200)] [])).1 = 2 ^ 64 - 1 ∧
    (scalarAfter (.saluMulh (.s 1) .mone .mone false false) 1 (having 0x800 [] [])).1 = 0 := by decide +kernel

/-- 09 R190, R26: I8 lanes 127 + 1 wrap to -128, sign-extended; C8 lanes 255 + 1 saturate to 255 under SAT. -/
theorem test_valu_add : lanesAfter (.valuAdd (.v 1) (.v 2) .one false false) 1 1 (having 0x000 [] [(2, [127])]) = [0xFFFFFF80] ∧
    lanesAfter (.valuAdd (.v 1) (.v 2) .one false false) 1 1 (having 0x1200 [] [(2, [255])]) = [255] := by decide +kernel

/-- 03 R59: a guard on m2 keeps the lanes outside it: m2 = 2 lets lane 1 alone be written. -/
theorem test_valu_guard : lanesAfter (.valuMov (.v 1) .one false) 1 3
    ((having 0x480800 [] [(1, [7, 7, 7])]).modWarp 1 0 (fun y => { y with m := y.m.set 2 2 })) = [7, 1, 7] := by decide +kernel

/-- 02, worked encodings: -2.5 from F32 to B16, F16, E5M2, E4M3 and, by ties to even, I8; with RND 4 the I8 is -3. -/
theorem test_valu_cvt :
    [9, 8, 13, 12, 0].map (fun t => lanesAfter (.valuCvt (.v 1) (.v 2) 10 false) 1 1 (having (BitVec.ofNat 23 (t * 1024)) [] [(2, [0xC0200000])])) =
      [[0xC020], [0xC100], [0xC1], [0xC2], [0xFFFFFFFE]] ∧
    lanesAfter (.valuCvt (.v 1) (.v 2) 10 false) 1 1 (having 0x020000 [] [(2, [0xC0200000])]) = [0xFFFFFFFD] := by decide +kernel

/-- 09 R195: RCP of -0 is -infinity, RSQ of 4 is 0.5, EXP2 of 3 is 8, LOG2 of 8 is 3. -/
theorem test_valu_functions : lanesAfter (.rcp (.v 1) (.v 2) false) 1 1 (having 0x2800 [] [(2, [0x80000000])]) = [0xFF800000] ∧
    lanesAfter (.rsq (.v 1) (.v 2) false) 1 1 (having 0x2800 [] [(2, [0x40800000])]) = [0x3F000000] ∧
    lanesAfter (.exp2 (.v 1) (.v 2) false) 1 1 (having 0x2800 [] [(2, [0x40400000])]) = [0x41000000] ∧
    lanesAfter (.log2 (.v 1) (.v 2) false) 1 1 (having 0x2800 [] [(2, [0x41000000])]) = [0x40400000] := by decide +kernel

/-- 09 R199: the matrix 0x0102_0408_1020_4080 reverses the bits of each byte: 0x0000_0301 becomes 0x0000_C080. -/
theorem test_bmm8 : lanesAfter (.bmm8 (.v 1) (.v 2) (.s 4) false false) 1 1 (having 0x800 [(4, 0x0102040810204080)] [(2, [0x0301])]) = [0xC080] := by
  decide +kernel

/-- 09 R200: BDEP of 0x5 with mask 0xF0 gives 0x50, and BEXT of 0x50 gives 0x5. -/
theorem test_bdep_bext : lanesAfter (.bdep (.v 1) (.v 2) (.v 3) false false) 1 1 (having 0x800 [] [(2, [5]), (3, [0xF0])]) = [0x50] ∧
    lanesAfter (.bext (.v 1) (.v 2) (.v 3) false false) 1 1 (having 0x800 [] [(2, [0x50]), (3, [0xF0])]) = [5] := by decide +kernel

/-- 09, worked example: 2^24, 1, 1, -2^24 under guard m2 = 0xF: WRED gives 1.0 and WSCAN 2^24, 2^24, 2^24, +0. -/
theorem test_wred_wscan :
    let s := (having 0x482800 [] [(1, [0x4B800000, 0x3F800000, 0x3F800000, 0xCB800000])]).modWarp 1 0 (fun y => { y with m := y.m.set 2 0xF })
    (scalarAfter (.wred (.s 5) (.v 1) 0 false) 5 s).1 = 0x3F800000 ∧
    lanesAfter (.wscan (.v 4) (.v 1) 0 false) 4 4 s = [0x4B800000, 0x4B800000, 0x4B800000, 0] := by decide +kernel

/-- 02, worked block: 7.5, -1.25, 3.0, -6.0, 0.75, 0.25 to BFP4: E = 128 and the image bytes F4, D2. -/
theorem test_qblk : lanesAfter (.qblk (.v 1) (.v 2) 10 false) 1 5
    (having 0x4C00 [] [(2, [0x40F00000, 0xBFA00000, 0x40400000, 0xC0C00000, 0x3F400000, 0x3E800000])]) = [0x80, 0xD2F4, 0, 0, 0] := by decide +kernel

/-- 08 R168: SETMODE writes MODE; 03 R58: with RND 5 it is a trap that leaves MODE. -/
theorem test_setmode : (warpAfter (.setmode 0x482800) here).mode = 0x482800 ∧ (warpAfter (.setmode 0x028800) here).mode = 0x000800 := by decide +kernel

/-- 08 R167, 03 R50: BRNZ back 3 words goes to PC - 12 when Z is 0, and else on. -/
theorem test_brnz : ((warpAfter (.brnz 0xFFFFFD) (having 0x800 [] [])).slot0.map (·.pc)) = some (128 - 12) ∧
    ((warpAfter (.brnz 0xFFFFFD) (hereWith (fun y => { y with flags := 1 }))).slot0.map (·.pc)) = some 132 := by decide +kernel

/-- 13 R310: RDTIM reads the reference timer of the module. -/
theorem test_rdtim : (scalarAfter (.rdtim (.s 1)) 1 { here with life := { here.life with timer := 77 } }).1 = 77 := by decide +kernel

/-- 07, worked example: size word 1,000 selects schedule 1 with min(64, ⌈1,000 / 64⌉) = 16 groups. -/
theorem test_selection :
    let a := loadedKernel.scheds.head (by decide)
    let l : List Schedule := [{ a with limit := 64, groups := 1, gdiv := 0, warps := 4 }, { a with limit := 4096, groups := 64, gdiv := 64, warps := 8 }]
    (selectIn l 40).map (fun e => (e.1.warps, e.2)) = some (4, 1) ∧ (selectIn l 1000).map (fun e => (e.1.warps, e.2)) = some (8, 16) ∧
    (selectIn l 4097).isNone = true := by decide +kernel

/-- 07, worked example: the footprint of schedule 2 is 139,264 bytes. -/
theorem test_footprint : ({ loadedKernel.scheds.head (by decide) with warps := 16, numarea := 4, spad := 65536, exch := 4096 } : Schedule).footprint = 139264 := by
  decide +kernel

/-- 17, worked draw: weights 257, 1 and 683 from L = 0xACE1 give stages 2, 0 and 1. -/
theorem test_draw : lotteryStep 0xACE1 = 0xE270 ∧ lotteryStep 0xE270 = 0x7138 ∧ (drawOrder 3 0xACE1 [(0, 257), (1, 1), (2, 683)]).1 = [2, 0, 1] := by
  decide +kernel

/-- 16, worked example: reads at a stride of 4 KiB reach logical slices 0 and 32 of 64; of 61 slices, 32k mod 61. -/
theorem test_slices :
    let s : State := { here with life := { here.life with dies := [{ DieConf.full with slt := (List.range 64).filter (fun x => x ≠ 7 ∧ x ≠ 8 ∧ x ≠ 40) }] } }
    here.sliceOf 4096 = 32 ∧ here.sliceOf 8192 = 0 ∧ s.sliceOf (4096 * 61) = (s.die 0).slt.getD 0 99 ∧ s.sliceOf (4096 * 62) = (s.die 0).slt.getD 32 99 ∧
    s.sliceOf (4096 * 63) = (s.die 0).slt.getD 3 99 := by decide +kernel

/-- 19 R427, R429: TRAP records its address, and the handler's fragment starts at TVEC. -/
theorem test_trap : (warpAfter (.trap 9) here).intrap = true ∧ (warpAfter (.trap 9) here).trap.fpc = 128 ∧
    ((warpAfter (.trap 9) here).slot0.map (·.pc)) = some 0x2004 := by decide +kernel

/-! ## The hypotheses of the statements about register instructions -/

theorem witness_ScalarTwoSource : Scalar2 here (seen here) (.s 31) (.s 2) .one (.sca 31) (.sca 2) .one ∧ (seen here).plain = true := by
  refine ⟨⟨issues_of ?_, dst_of ?_, src_of ?_, src_of ?_⟩, ?_⟩ <;> decide +kernel

/-- ETYPE 12: a type of neither scalars nor whole lanes. -/
def narrowType : State := hereWith (fun y => { y with mode := 0x003000 })

theorem witness_ScalarUnderNarrowType : Scalar2 narrowType (seen narrowType) (.s 31) (.s 2) .one (.sca 31) (.sca 2) .one ∧
    (seen narrowType).plain = false := by
  refine ⟨⟨issues_of ?_, dst_of ?_, src_of ?_, src_of ?_⟩, ?_⟩ <;> decide +kernel

theorem witness_ScalarMad : Scalar2 here (seen here) (.m 7) (.m 0) .mone (.msk 7) (.msk 0) .mone ∧
    ∀ f ∈ (seen here).y.fills (.msk 7), f = .full := by
  refine ⟨⟨issues_of ?_, dst_of ?_, src_of ?_, src_of ?_⟩, ?_⟩ <;> decide +kernel

theorem witness_ScalarDiscarded : Scalar2 here (seen here) .zero .sx2 .zero .zero (.sca 0) .zero := by
  refine ⟨issues_of ?_, dst_of ?_, src_of ?_, src_of ?_⟩ <;> decide +kernel

theorem witness_CvtRdlaneIdxset : Issues here (seen here) ∧ (seen here).Dst kScalarD false (.s 31) (.sca 31) ∧
    (seen here).Src kScalar false (.s 2) (.sca 2) ∧ (seen here).et < 8 ∧ (seen here).Src kV (tyWide (seen here).et) (.v 79) (.vec [79]) ∧
    (seen here).Src kScalar false (.s 4) (.sca 4) ∧ ((seen here).y.scalarVal (.sca 4)).toNat < 32 ∧ (seen here).Src kSxC false .one .one ∧
    (seen here).Src kScalar false .mone .mone ∧ 32 ≤ ((seen here).y.scalarVal .mone).toNat ∧ (seen here).plain = true := by
  refine ⟨issues_of ?_, dst_of ?_, src_of ?_, ?_, src_of ?_, src_of ?_, ?_, src_of ?_, src_of ?_, ?_, ?_⟩ <;> decide +kernel

theorem witness_VectorTwoSource : Lane2 here (seen here) kVZ kAny kAny false false false (.v 3) (.v 79) .lane (.vec [3]) (.vec [79]) .lane ∧
    tyWide (seen here).et = false ∧ (seen here).plain = true ∧ ∀ f ∈ (seen here).y.fills (.vec [3]), f = .full := by
  refine ⟨⟨issues_of ?_, dst_of ?_, src_of ?_, src_of ?_⟩, ?_, ?_, ?_⟩ <;> decide +kernel

theorem witness_LanesUnderNarrowType :
    Lane2 narrowType (seen narrowType) kVZ kAny kAny (tyWide (seen narrowType).et) (tyWide (seen narrowType).et) (tyWide (seen narrowType).et)
      (.v 3) (.v 79) .lane (.vec [3]) (.vec [79]) .lane ∧
    Lane2 narrowType (seen narrowType) kV kV kAny (tyWide (seen narrowType).et) (tyWide (seen narrowType).et) false
      (.v 3) (.v 79) .lane (.vec [3]) (.vec [79]) .lane ∧ (seen narrowType).plain = false := by
  refine ⟨⟨issues_of ?_, dst_of ?_, src_of ?_, src_of ?_⟩, ⟨issues_of ?_, dst_of ?_, src_of ?_, src_of ?_⟩, ?_⟩ <;> decide +kernel

/-- ETYPE 3: 64-bit lanes in pairs of registers. -/
def wideLanes : State := hereWith (fun y => { y with mode := 0x000C00 })

theorem witness_VectorPairs : Lane2 wideLanes (seen wideLanes) kVZ kAny kAny true true true (.v 2) (.v 78) .one (.vec [2, 3]) (.vec [78, 79]) .one ∧
    tyWide (seen wideLanes).et = true := by
  refine ⟨⟨issues_of ?_, dst_of ?_, src_of ?_, src_of ?_⟩, ?_⟩ <;> decide +kernel

/-- ETYPE 10: 32-bit floating-point lanes. -/
def floatLanes : State := hereWith (fun y => { y with mode := 0x002800 })

theorem witness_VectorOneSource : Issues floatLanes (seen floatLanes) ∧ tyFloat (seen floatLanes).et = true ∧ (seen floatLanes).et < 12 ∧
    (seen floatLanes).Dst kVZ (tyWide (seen floatLanes).et) (.v 3) (.vec [3]) ∧ (seen floatLanes).Dst kVZ false (.v 3) (.vec [3]) ∧
    (seen floatLanes).Src kAny (tyWide (seen floatLanes).et) (.v 79) (.vec [79]) ∧
    (seen floatLanes).Src kAny (decide ((23#7).toNat < 24) && tyWide (23#7).toNat) (.v 79) (.vec [79]) ∧
    (seen floatLanes).Src kAny (decide ((24#7).toNat < 24) && tyWide (24#7).toNat) (.v 79) (.vec [79]) ∧ (seen floatLanes).Src kAny (decide ((0#7).toNat < 24) && tyWide (0#7).toNat) (.v 79) (.vec [79]) := by
  refine ⟨issues_of ?_, ?_, ?_, dst_of ?_, dst_of ?_, src_of ?_, src_of ?_, src_of ?_, src_of ?_⟩ <;> decide +kernel

theorem witness_VectorThirtyTwoBitLanes : Issues here (seen here) ∧ (seen here).et = 2 ∧ mSat (seen here).y.mode = false ∧
    (seen here).Dst kVZ false (.v 3) (.vec [3]) ∧ (seen here).Src kAny false (.v 79) (.vec [79]) ∧ (seen here).Src kAny false (.v 3) (.vec [3]) ∧
    ((seen here).y.vreg 3).fill = .full ∧ tget (seen here).y.phys 3 ≠ none := by
  refine ⟨issues_of ?_, ?_, ?_, dst_of ?_, src_of ?_, src_of ?_, ?_, ?_⟩ <;> decide +kernel

theorem witness_VectorCompareAndDivide : Issues here (seen here) ∧ (seen here).et < 12 ∧ (seen here).Src kAny (tyWide (seen here).et) .lane .lane ∧
    (seen here).Src kAny (tyWide (seen here).et) .mone .mone ∧ (seen here).Dst kVZ (tyWide (seen here).et) (.v 0) (.vec [0]) ∧
    tyFloat (seen here).et = false ∧ ∀ i : Fin 32, (seen here).active.getLsbD i.val = true → ((seen here).laneVals (seen here).et .mone)[i] ≠ 0 := by
  refine ⟨issues_of ?_, ?_, src_of ?_, src_of ?_, dst_of ?_, ?_, ?_⟩ <;> decide +kernel

/-- A division in which lane 0 has a divisor of 0. -/
theorem witness_DivideByZero : (seen here).Src kAny (tyWide (seen here).et) .lane .lane ∧ ((seen here).laneVals (seen here).et .lane)[0] = 0 ∧
    (seen here).active.getLsbD 0 = true := by
  refine ⟨src_of ?_, ?_, ?_⟩ <;> decide +kernel

/-- A kernel with one permutation, the identity, and one expression program of one operation. -/
def tables : State :=
  let s := here
  { s with launches := tmod s.launches 0 (fun l => { l with k := { l.k with perms := [List.range 64], exprs := [0x521#64] } }) }

theorem witness_BitMoves : Issues tables (seen tables) ∧ (seen tables).et < 12 ∧ (seen tables).Dst kV false (.v 4) (.vec [4]) ∧
    (seen tables).Src kVS false (.v 4) (.vec [4]) ∧ (seen tables).Src kSxZ false (.s 4) (.sca 4) ∧
    (seen tables).Src kAny false .lane .lane ∧ (seen tables).Dst kV true (.v 4) (.vec [4, 5]) ∧
    (seen tables).Src kVS true (.v 6) (.vec [6, 7]) ∧ (seen tables).Src kSxZ1 false (.s 4) (.sca 4) ∧
    (seen tables).kernel.bind (fun k => k.perms[((seen tables).y.scalarVal (.sca 4)).toNat]?) = some (List.range 64) ∧
    (seen tables).Src kSxZ1 false .one .one ∧ (seen tables).kernel.bind (fun k => k.perms[((seen tables).y.scalarVal .one).toNat]?) = none := by
  refine ⟨issues_of ?_, ?_, dst_of ?_, src_of ?_, src_of ?_, src_of ?_, dst_of ?_, src_of ?_, src_of ?_, ?_, src_of ?_, ?_⟩ <;> decide +kernel

theorem witness_LaneExchange : mXtrap (seen here).y.mode = false ∧
    Lane2 here (seen here) kV kV kAny (tyWide (seen here).et) (tyWide (seen here).et) false (.v 0) (.v 1) .lane (.vec [0]) (.vec [1]) .lane ∧
    Lane2 here (seen here) kV kV kSxC (tyWide (seen here).et) (tyWide (seen here).et) false (.v 0) (.v 1) (.s 2) (.vec [0]) (.vec [1]) (.sca 2) := by
  refine ⟨?_, ⟨issues_of ?_, dst_of ?_, src_of ?_, src_of ?_⟩, ⟨issues_of ?_, dst_of ?_, src_of ?_, src_of ?_⟩⟩ <;> decide +kernel

/-- XTRAP is 1. -/
def trapping : State := hereWith (fun y => { y with mode := y.mode ||| 0x000080 })

/-- Under XTRAP = 1 a shuffle misses by a source lane above 31 and not by its own lane. -/
theorem witness_ExchangeTraps : mXtrap (seen trapping).y.mode = true ∧ (seen trapping).plain = true ∧
    Lane2 trapping (seen trapping) kV kV kAny (tyWide (seen trapping).et) (tyWide (seen trapping).et) false (.v 0) (.v 1) .mone (.vec [0]) (.vec [1]) .mone ∧
    (seen trapping).missed (fun i => ((seen trapping).laneVals 6 .mone)[i]) ≠ 0 ∧
    (seen trapping).missed (fun i => ((seen trapping).laneVals 6 .lane)[i]) = 0 := by
  refine ⟨?_, ?_, ⟨issues_of ?_, dst_of ?_, src_of ?_, src_of ?_⟩, ?_, ?_⟩ <;> decide +kernel

theorem witness_VoteMatchReduceScan : Issues here (seen here) ∧ (seen here).et < 12 ∧ (seen here).Dst kSMZ false (.m 3) (.msk 3) ∧
    (seen here).Dst kSMZ false (.s 3) (.sca 3) ∧ (seen here).Dst kSMZ false .zero .zero ∧
    (seen here).Src kAny false .lane .lane ∧ (seen here).Dst kV false (.v 9) (.vec [9]) ∧
    (seen here).Src kV (tyWide (seen here).et) (.v 8) (.vec [8]) ∧ (seen here).Src kAny (tyWide (seen here).et) (.v 8) (.vec [8]) ∧
    (seen here).Dst { kVZ with s := true } (tyWide (seen here).et) (.v 9) (.vec [9]) ∧
    (seen here).Dst { kVZ with s := true } (tyWide (seen here).et) (.s 9) (.sca 9) ∧ (seen here).Dst kV (tyWide (seen here).et) (.v 9) (.vec [9]) ∧
    (redOf ((0#7).toNat % 8)).isSome = true ∧ (redOf ((5#7).toNat % 8)).isSome = true ∧ (redOf ((13#7).toNat % 8)).isSome = true ∧
    5 < (6#7).toNat ∧ 15 < (16#7).toNat ∧ 5 < (14#7).toNat % 8 := by
  refine ⟨issues_of ?_, ?_, dst_of ?_, dst_of ?_, dst_of ?_, src_of ?_, dst_of ?_, src_of ?_, src_of ?_, dst_of ?_, dst_of ?_, dst_of ?_, ?_, ?_, ?_, ?_, ?_, ?_⟩ <;>
    decide +kernel

theorem witness_LaneWriteAndExpr : Issues tables (seen tables) ∧ (seen tables).et < 12 ∧
    (seen tables).Dst kV (tyWide (seen tables).et) (.v 1) (.vec [1]) ∧ (seen tables).Src kSxC (tyWide (seen tables).et) (.s 1) (.sca 1) ∧
    (seen tables).Src kSxC (tyWide (seen tables).et) .mone .mone ∧
    (seen tables).Src kSxC false .one .one ∧ ((seen tables).y.scalarVal .one).toNat < 32 ∧
    (seen tables).Dst kV false (.v 1) (.vec [1]) ∧ (seen tables).Src kSxZ1 false .zero .zero ∧
    (seen tables).kernel.bind (fun k => k.perms[((seen tables).y.scalarVal .zero).toNat]?) = some (List.range 64) ∧
    (seen tables).Src kV (tyWide (seen tables).et) (.v 79) (.vec [79]) ∧ (seen tables).Dst kVZ (tyWide (seen tables).et) (.v 1) (.vec [1]) ∧
    (seen tables).Src kAny (tyWide (seen tables).et) (.v 2) (.vec [2]) ∧ (seen tables).Src kAny (tyWide (seen tables).et) .lane .lane ∧
    (∀ f ∈ (seen tables).y.fills (.vec [1]), f = .full) ∧
    ∃ p, (seen tables).kernel.bind (fun k => k.exprs[mXprog (seen tables).y.mode]?) = some p ∧ exprOk p = true := by
  refine ⟨issues_of ?_, ?_, dst_of ?_, src_of ?_, src_of ?_, src_of ?_, ?_, dst_of ?_, src_of ?_, ?_, src_of ?_, dst_of ?_, src_of ?_, src_of ?_, ?_,
    0x521, ?_, ?_⟩ <;> decide +kernel

/-- A lane above 31, an index of no permutation, and a kernel without the program that XPROG names. -/
theorem witness_LaneWriteAndExprTraps : (seen here).plain = true ∧ (seen here).Src kSxC false .mone .mone ∧
    32 ≤ ((seen here).y.scalarVal .mone).toNat ∧ (seen here).Src kSxZ1 false .one .one ∧
    (seen here).kernel.bind (fun k => k.perms[((seen here).y.scalarVal .one).toNat]?) = none ∧
    (seen here).kernel.bind (fun k => k.exprs[mXprog (seen here).y.mode]?) = none := by
  refine ⟨?_, src_of ?_, ?_, src_of ?_, ?_, ?_⟩ <;> decide +kernel

/-! ## Control, branches, traps and returns -/

theorem witness_IssueAdvancesThePc : here.cur.bind here.viewOf = some (seen here) ∧ (seen here).f.replays = [] :=
  ⟨(issues_of (by decide +kernel)).sees, by decide +kernel⟩

theorem witness_NopYieldSetmode : Issues here (seen here) ∧
    (bits (0x027C00#23) 17 15 < 5 ∧ (0x027C00#23).getLsbD 0 = false ∧ 24 ≤ bits (0x027C00#23) 14 10) ∧
    (bits (0x425C00#23) 17 15 < 5 ∧ (0x425C00#23).getLsbD 0 = false ∧ bits (0x425C00#23) 14 10 < 24) ∧
    5 ≤ bits (0x028000#23) 17 15 ∧ (0x000001#23).getLsbD 0 = true :=
  ⟨issues_of (by decide +kernel), by decide +kernel⟩

/-- A warp whose s3 is no multiple of 4 and whose s2 is one. -/
def jumping : State := hereWith (fun y => { y with s := (y.s.set 2 { val := 8, fill := .full }).set 3 { val := 7, fill := .full } })

theorem witness_Branches : Issues jumping (seen jumping) ∧ (seen jumping).y.s[(2 : Fin 32)].fill = .full ∧ (seen jumping).y.mapped 2 = none ∧
    (seen jumping).y.s[(2 : Fin 32)].val.toNat % 4 = 0 ∧ (seen jumping).y.s[(3 : Fin 32)].fill = .full ∧ (seen jumping).y.mapped 3 = none ∧
    (seen jumping).y.s[(3 : Fin 32)].val.toNat % 4 ≠ 0 := by
  refine ⟨issues_of ?_, ?_, ?_, ?_, ?_, ?_, ?_⟩ <;> decide +kernel

/-- A header word of a window of 80 registers, 16 of them shared, stands two words after the call. -/
def calling : State := { here with mem := Memory.wr here.mem 0x40084 4 0xFA100000 }

/-- The same after the call. -/
def called : State := match exec (.call 2) calling with
  | .next t => t
  | _ => here

theorem witness_Call : Issues calling (seen calling) ∧
    (seen calling).headerWord ((seen calling).pc + BitVec.ofInt 64 (4 * (2#24).toInt)) = .ok 0xFA100000 ∧ hdrOk 0xFA100000 = true ∧
    hdrWin 0xFA100000 = 80 ∧ hdrOvl 0xFA100000 = 16 ∧ hdrOvl 0xFA100000 ≤ (seen calling).win.regs.length ∧
    (seen calling).y.winFits (hdrWin 0xFA100000 - hdrOvl 0xFA100000) = true ∧
    (seen calling).s.regsUsed (seen calling).core + (hdrWin 0xFA100000 - hdrOvl 0xFA100000) ≤ 1536 := by
  refine ⟨issues_of ?_, ok_of ?_, ?_⟩ <;> decide +kernel

/-- The word before the target is no header word; and a window already takes the whole spill area. -/
theorem witness_CallTraps : (seen here).headerWord ((seen here).pc + BitVec.ofInt 64 (4 * (2#24).toInt)) = .ok 0 ∧ hdrOk 0 = false ∧
    (let s := calling.modWarp 1 0 (fun y => { y with wins := y.wins.map (fun w => { w with opened := 600 }) })
     Issues s (seen s) ∧ (seen s).headerWord ((seen s).pc + BitVec.ofInt 64 (4 * (2#24).toInt)) = .ok 0xFA100000 ∧
     hdrOvl 0xFA100000 ≤ (seen s).win.regs.length ∧ (seen s).y.winFits (hdrWin 0xFA100000 - hdrOvl 0xFA100000) = false) := by
  refine ⟨ok_of ?_, ?_, issues_of ?_, ok_of ?_, ?_, ?_⟩ <;> decide +kernel

/-- In the callee, JOIN has been armed in its window. -/
theorem witness_ReturnArmed :
    let s := called.modWarp 1 0 (fun y =>
      { y with slot0 := y.slot0.map (fun f => { f with join := some 15 }),
               joins := y.joins.set 15 { valid := true, outer := none, win := ((y.slot0.map (·.win)).getD 0), token := 0, expect := 0, arrived := 0, pc := 0 } })
    Issues s (seen s) ∧ (seen s).win.caller = some 0 ∧ (seen s).f.join = some 15 ∧ (seen s).y.joins[(15 : Fin 16)].win = (seen s).f.win := by
  refine ⟨issues_of ?_, ?_, ?_, ?_⟩ <;> decide +kernel

theorem witness_Return : Issues called (seen called) ∧ (seen called).win.caller = some 0 ∧ (seen called).f.join = none ∧
    Issues here (seen here) ∧ (seen here).win.caller = none := by
  refine ⟨issues_of ?_, ?_, ?_, issues_of ?_, ?_⟩ <;> decide +kernel

/-- A fragment of the upper 20 lanes beside one of the lower 12, with this stack. -/
def diverged (stack : List Frag) (m : Word) : State := hereWith (fun y =>
  { y with slot0 := some (Frag.fresh 128 0xFFFFF000 none 0), slot1 := some (Frag.fresh 0x100 0x00000FFF none 0), stack := stack, m := y.m.set 1 m })

theorem witness_DivergentBranch : Issues here (seen here) ∧ (seen here).f.mask &&& (seen here).y.m[(1 : Fin 8)] = 0 ∧
    (seen here).f.mask &&& (seen here).y.m[(0 : Fin 8)] = (seen here).f.mask ∧
    (let s := hereWith (fun y => { y with m := y.m.set 1 0x80000000 })
     Issues s (seen s) ∧ (seen s).f.mask &&& (seen s).y.m[(1 : Fin 8)] = 0x80000000 ∧ (seen s).f.mask ≠ 0x80000000 ∧ (seen s).y.slot true = none) ∧
    (let s := diverged (List.replicate 63 (Frag.fresh 0 1 none 0)) 0x1000
     Issues s (seen s) ∧ (seen s).f.mask &&& (seen s).y.m[(1 : Fin 8)] = 0x1000 ∧ ((seen s).y.slot true).isSome = true ∧ (seen s).y.stack.length < 64) ∧
    (let s := diverged (List.replicate 64 (Frag.fresh 0 1 none 0)) 0x1000
     Issues s (seen s) ∧ (seen s).f.mask &&& (seen s).y.m[(1 : Fin 8)] = 0x1000 ∧ ((seen s).y.slot true).isSome = true ∧ 64 ≤ (seen s).y.stack.length) := by
  refine ⟨issues_of ?_, ?_, ?_, ⟨issues_of ?_, ?_⟩, ⟨issues_of ?_, ?_⟩, ⟨issues_of ?_, ?_⟩⟩ <;> decide +kernel

/-- A warp whose fragment has join entry 15 for its lanes. -/
def joining (e : JoinEntry) : State := hereWith (fun y =>
  { y with joins := y.joins.set 15 e, slot0 := y.slot0.map (fun f => { f with join := some 15 }) })

theorem witness_Join : Issues here (seen here) ∧ (seen here).y.joins[(0 : Fin 16)].valid = false ∧
    (let s := hereWith (fun y => { y with joins := Vector.replicate 16 { JoinEntry.free with valid := true } })
     Issues s (seen s) ∧ ∀ j : Fin 16, (seen s).y.joins[j].valid = true) ∧
    (let s := joining { valid := true, outer := none, win := 0, token := 5, expect := 0xFFFFFFFF, arrived := 0, pc := 0 }
     Issues s (seen s) ∧ (seen s).f.join = some 15 ∧ (seen s).y.joins[(15 : Fin 16)].token = 5 ∧ (seen s).y.joins[(15 : Fin 16)].win = (seen s).f.win ∧
     (seen s).y.joins[(15 : Fin 16)].arrived ||| (seen s).f.mask = (seen s).y.joins[(15 : Fin 16)].expect) ∧
    (let s := hereWith (fun y => { y with
       joins := y.joins.set 15 { valid := true, outer := none, win := 0, token := 5, expect := 0xFFFFFFFF, arrived := 0, pc := 0 },
       slot0 := some (Frag.fresh 128 0xFFFFF000 (some 15) 0), slot1 := some (Frag.fresh 0x100 0xFFF (some 15) 0) })
     Issues s (seen s) ∧ (seen s).f.join = some 15 ∧ (seen s).y.joins[(15 : Fin 16)].token = 5 ∧ (seen s).y.joins[(15 : Fin 16)].win = (seen s).f.win ∧
     (seen s).y.joins[(15 : Fin 16)].arrived ||| (seen s).f.mask ≠ (seen s).y.joins[(15 : Fin 16)].expect) := by
  refine ⟨issues_of ?_, ?_, ⟨issues_of ?_, ?_⟩, ⟨issues_of ?_, ?_⟩, ⟨issues_of ?_, ?_⟩⟩ <;> decide +kernel

theorem witness_Elect : Issues here (seen here) := issues_of (by decide +kernel)

/-- A store of the warp's fragment that has not ended. -/
def openStore : MemOp :=
  { g := 1, w := 0, mask := 0xFFFFFFFF, pc := 0x80, kind := .store, space := .mem BaseReg.invalid, mode := 0, user := true, scope := 5, acq := false,
    rel := false, lanes := [{ lane := 0, addr := 0, bit := 0, data := 0, new := 0, st := .todo }], scalar := true, dst := .none, deps := [],
    landed := false, failed := false }

theorem witness_Exit : Issues here (seen here) ∧ (seen here).y.due = [] ∧ (seen here).y.slot (seen here).r.slot ≠ none ∧
    (seen here).s.memOpen (seen here).r.g (seen here).r.w (seen here).f.mask = false ∧ ((seen here).y.exitLanes (seen here).r.slot).lanesLeft = 0 ∧
    (let s := diverged [] 0
     Issues s (seen s) ∧ (seen s).y.due = [] ∧ (seen s).y.slot (seen s).r.slot ≠ none ∧ ((seen s).y.exitLanes (seen s).r.slot).lanesLeft ≠ 0) ∧
    (let s : State := { here with memops := [(9, openStore)] }
     Issues s (seen s) ∧ (seen s).y.due = [] ∧ (seen s).y.slot (seen s).r.slot ≠ none ∧ (seen s).s.memOpen (seen s).r.g (seen s).r.w (seen s).f.mask = true) := by
  refine ⟨issues_of ?_, ?_, ?_, ?_, ?_, ⟨issues_of ?_, ?_⟩, ⟨issues_of ?_, ?_⟩⟩ <;> decide +kernel

/-- COPY 3 and REM 2. -/
def counting : State := hereWith (fun y => { y with copyN := 3, remN := 2, erem := 1 })

theorem witness_Waitc : Issues counting (seen counting) ∧ (seen counting).y.copyN + (seen counting).y.remN ≤ (5#8).toNat ∧
    (seen counting).s.remoteDue (seen counting).r.g (seen counting).r.w = 0 ∧ (4#8).toNat < (seen counting).y.copyN + (seen counting).y.remN := by
  refine ⟨issues_of ?_, ?_, ?_, ?_⟩ <;> decide +kernel

/-- A kernel with a pool of 33 words from code word 16 on, the first of them 32. -/
def pooled : State :=
  let s : State := { here with mem := Memory.wr here.mem 0x400C0 4 32 }
  { s with launches := tmod s.launches 0 (fun l => { l with k := { l.k with pools := [(16, 33)] } }) }

/-- The kernel of that state. -/
def pooledKernel : Kernel := { loadedKernel with pools := [(16, 33)] }

theorem witness_LiteralLoads : Issues pooled (seen pooled) ∧ (seen pooled).kernel = some pooledKernel ∧
    (seen pooled).codeIndex pooledKernel (16#16).toInt = some 16 ∧ (seen pooled).Dst { kVSZ with m := true } false (.v 3) (.vec [3]) ∧
    (seen pooled).Dst { kVSZ with m := true } false (.m 3) (.msk 3) ∧ (seen pooled).Dst { kVSZ with m := true } false (.s 3) (.sca 3) ∧
    (seen pooled).poolWords pooledKernel 16 1 = .ok [32] ∧ (seen pooled).Dst kS false (.s 3) (.sca 3) ∧
    (seen pooled).poolWords pooledKernel 16 2 = .ok [32, 0] ∧ (seen pooled).Dst kVO false (.v 3) (.vec [3]) ∧
    (seen pooled).poolWords pooledKernel 16 33 = .ok (32 :: List.replicate 32 0) := by
  refine ⟨issues_of ?_, ?_, ?_, dst_of ?_, dst_of ?_, dst_of ?_, ok_of ?_, dst_of ?_, ok_of ?_, dst_of ?_, ok_of ?_⟩ <;> decide +kernel

theorem witness_LiteralTraps : (seen here).kernel = some loadedKernel ∧ (seen here).codeIndex loadedKernel (16#16).toInt = some 16 ∧
    (seen here).codeIndex loadedKernel (17#16).toInt = some 17 ∧ loadedKernel.pool 16 = none ∧
    (seen here).Dst { kVSZ with m := true } false (.v 3) (.vec [3]) ∧ (seen here).Dst kS false (.s 3) (.sca 3) ∧ (seen here).Dst kVO false (.v 3) (.vec [3]) ∧
    (seen pooled).codeIndex pooledKernel (17#16).toInt = some 17 ∧ (seen pooled).poolWords pooledKernel 17 1 = .ok [0] := by
  refine ⟨?_, ?_, ?_, ?_, dst_of ?_, dst_of ?_, dst_of ?_, ?_, ok_of ?_⟩ <;> decide +kernel

/-- The leaf that maps page 0. -/
def leaf0 : Nat := 2 ^ 52 * stFast + 16 * 64 + 0x31

/-- The warp of a state. -/
def warpOf (s : State) : Warp := (s.warp 1 0).getD blank.y

/-- The group of a state. -/
def groupOf (s : State) : Group := (s.group 1).getD blank.x

theorem witness_TrapInstruction : Issues here (seen here) ∧ (seen here).f.replays = [] ∧ (warpOf here).plvl ≠ 2 ∧
    CanEnter here 1 0 (groupOf here) (warpOf here) false (seen here).f 0xF2000000 := by
  refine ⟨issues_of ?_, ?_, ?_, ?_⟩
  · decide +kernel
  · decide +kernel
  · decide +kernel
  · refine ⟨?_, ?_, ?_, ?_, ?_, ?_, ?_, ?_, ⟨0x42000, leaf0, ?_, ?_, ?_⟩, ?_, ?_, ?_⟩ <;> decide +kernel

/-- The state in which the handler of a TRAP has begun. -/
def trapped : State := match exec (.trap 5) here with
  | .next t => t
  | _ => here

theorem witness_TrapReturn : Issues trapped (seen trapped) ∧ (seen trapped).y.due = [] ∧ (seen trapped).y.plvl = 1 ∧
    ∃ k, (seen trapped).y.kept = some k ∧ (seen trapped).f.win = k.hwin ∧ k.kind ≠ .lane ∧ k.frag.replays = [] ∧ k.frag.mask ≠ 0 := by
  refine ⟨issues_of ?_, ?_, ?_, ((seen trapped).y.kept).get ?_, ?_, ?_, ?_, ?_, ?_⟩ <;> decide +kernel

theorem witness_PrivilegeTraps : Issues here (seen here) ∧ (seen here).y.plvl = 0 ∧ (seen here).resolve kSx false (.s 4) = .ok (.sca 4) ∧
    (seen here).resolve kSxZ false .zero = .ok .zero ∧ (seen here).resolveDst kSZ false .zero = .ok .zero ∧ (seen here).resolve kSC false .mone = .ok .mone := by
  refine ⟨issues_of ?_, ?_, ok_of ?_, ok_of ?_, ok_of ?_, ok_of ?_⟩ <;> decide +kernel

/-- The warp at PL2. -/
def machineLevel : State := hereWith (fun y => { y with plvl := 2 })

theorem witness_SystemRegisters : Issues here (seen here) ∧ (seen here).Dst kSZ false (.s 31) (.sca 31) ∧ sysReadLevel 0x17 = some 0 ∧
    (seen here).Src kSC false (.s 2) (.sca 2) ∧ modeCause (((seen here).y.scalarVal (.sca 2)).setWidth 23) = none ∧
    Issues trapped (seen trapped) ∧ (seen trapped).y.plvl = 1 ∧ sysReadLevel 0x1B = some 1 ∧
    Issues machineLevel (seen machineLevel) ∧ 2 ≤ (seen machineLevel).y.plvl.toNat ∧ (seen machineLevel).Src kSC false .mone .mone ∧
    (seen machineLevel).s.releaseWaits (seen machineLevel).r.g (seen machineLevel).r.w (BitVec.allOnes 32) = false := by
  refine ⟨issues_of ?_, dst_of ?_, ?_, src_of ?_, ?_, issues_of ?_, ?_, ?_, issues_of ?_, ?_, src_of ?_, ?_⟩ <;> decide +kernel

/-- s4 points at the last word of page 0, with a tag. -/
def pointing : State := hereWith (fun y => { y with s := y.s.set 4 { val := 0xF00000000003FF8, fill := .full } })

theorem witness_PageInstructions : Issues pointing (seen pointing) ∧ (seen pointing).Src kSx false (.s 4) (.sca 4) ∧
    (seen pointing).Src kSxZ false .zero .zero ∧ ((seen pointing).y.scalarVal .zero).toNat < 2 ^ 16 ∧
    ((seen pointing).y.scalarVal (.sca 4)).toNat < 2 ^ 60 ∧
    (seen pointing).s.xlateCore (seen pointing).core (seen pointing).c (((seen pointing).y.scalarVal (.sca 4)).toNat % 2 ^ 56) false
      (decide ((seen pointing).y.plvl = 0)) = .ok 0x43FF8 leaf0 ∧
    (seen pointing).Dst kSxZ false (.s 5) (.sca 5) ∧
    (seen pointing).s.pageQuery (seen pointing).c ((seen pointing).y.scalarVal (.sca 4)).toNat = some leaf0 ∧
    Issues trapped (seen trapped) ∧ (seen trapped).Src kSx false (.s 4) (.sca 4) ∧ (seen trapped).Src kSxZ false .zero .zero ∧ (seen trapped).y.plvl ≠ 0 ∧
    (seen trapped).s.releaseWaits (seen trapped).r.g (seen trapped).r.w (seen trapped).f.mask = false := by
  refine ⟨issues_of ?_, src_of ?_, src_of ?_, ?_, ?_, ?_, dst_of ?_, ?_, issues_of ?_, src_of ?_, src_of ?_, ?_, ?_⟩ <;> decide +kernel

/-- s4 holds 2^16, s5 a pointer above 60 bits, s6 a pointer to a page that no leaf maps. -/
theorem witness_BsetTraps :
    let s := hereWith (fun y => holding y [(4, 0x10000), (5, 0x1000000000000000), (6, 0x8000)])
    let v := seen s
    Issues s v ∧ v.Src kSx false (.s 4) (.sca 4) ∧ v.Src kSxZ false (.s 4) (.sca 4) ∧ 2 ^ 16 ≤ (v.y.scalarVal (.sca 4)).toNat ∧
    v.Src kSx false (.s 5) (.sca 5) ∧ v.Src kSxZ false .zero .zero ∧ (v.y.scalarVal .zero).toNat < 2 ^ 16 ∧ 2 ^ 60 ≤ (v.y.scalarVal (.sca 5)).toNat ∧
    v.Src kSx false (.s 6) (.sca 6) ∧ v.s.xlateCore v.core v.c ((v.y.scalarVal (.sca 6)).toNat % 2 ^ 56) false (decide (v.y.plvl = 0)) = .fail 0x08 := by
  refine ⟨issues_of ?_, src_of ?_, src_of ?_, ?_, src_of ?_, src_of ?_, ?_, ?_, src_of ?_, ?_⟩ <;> decide +kernel

theorem witness_ReservedEncoding : Issues here (seen here) ∧ decodeWord (14#4 ++ 0#28) = .error .reservedMajor ∧
    decodeWord (0#4 ++ 14#5 ++ 0#23) = .error .reservedMinor ∧ decodeWord (12#4 ++ 2#5 ++ 0#7 ++ 6#7 ++ 0#9) = .error .tretAction := by
  refine ⟨issues_of ?_, err_of ?_, err_of ?_, err_of ?_⟩ <;> decide +kernel

/-! ## Memory accesses -/

/-- A memory instruction traps at none of its lanes. -/
def soundB (v : View) (q : MemReq) : Bool :=
  (match q.space with
    | .mem b => b.valid
    | _ => true) &&
  (q.kind.isTag || decide (∀ l ∈ v.accsOf q, misaligned q.t l.addr l.bit = false)) &&
  (match v.x.winSize q.space with
    | some n => decide (∀ l ∈ v.accsOf q, l.addr + elemBytes q.t l.bit ≤ n)
    | none => true) &&
  decide (v.y.held.isSome = true → v.x.winSize q.space = none → q.kind.isAtomic = false ∧ v.stageBars q (v.accsOf q) = [])

theorem sound_of {v : View} {q : MemReq} (h : soundB v q = true) : v.Sound q := by
  simp only [soundB, Bool.and_eq_true, Bool.or_eq_true, decide_eq_true_eq] at h
  obtain ⟨⟨⟨h1, h2⟩, h3⟩, h4⟩ := h
  refine ⟨?_, h2, ?_, h4⟩
  · intro b hb; rw [hb] at h1; exact h1
  · intro n hn; rw [hn] at h3; simpa using h3

/-- A memory instruction is accepted. -/
def acceptsB (v : View) (q : MemReq) : Bool :=
  soundB v q && decide (v.x.winSize q.space = none → v.s.entriesUsed v.core + linesOf (v.accsOf q) ≤ 256) &&
  decide (q.space = .spad → ∀ l ∈ v.accsOf q, v.x.absentAt l.addr (elemBytes q.t l.bit) = false) &&
  decide (∀ l ∈ v.accsOf q, v.s.hopFull v.core v.c (v.opOf q) l = false)

theorem accepts_of {v : View} {q : MemReq} (h : acceptsB v q = true) : v.Accepts q := by
  simp only [acceptsB, Bool.and_eq_true, decide_eq_true_eq] at h
  exact ⟨sound_of h.1.1.1, h.1.1.2, h.1.2, h.2⟩

/-- b0 holds a valid base register at address 0x3F80 of page 0, 128 bytes below its end; v9 holds the offsets 0, 4, …, 124; s8 an odd offset, s9 one that is odd too. -/
def basing (mode : BitVec 23) : State := hereWith (fun y =>
  { y with mode := mode, b := y.b.set 0 { BaseReg.invalid with valid := true, va := 0x3F80, w := true, u := true },
           phys := tput y.phys 9 { lanes := Vector.ofFn (fun i => BitVec.ofNat 32 (4 * i.val)), fill := .full },
           s := (y.s.set 8 { val := 124, fill := .full }).set 9 { val := 1, fill := .full } })

/-- A request of a load with v9 as its offsets. -/
def loadReq (s : State) (d : Opnd) (a : Opnd) (la ld : Loc) : MemReq :=
  { kind := .load, space := .mem (seen s).y.b[(0 : Fin 8)], scope := 3, acq := true, rel := false, scalar := scalarAccess d a, t := (seen s).et, off := la,
    data := .zero, new := .zero, dst := ld }

/-- A request of a store. -/
def storeReq (s : State) (d : Opnd) (a : Opnd) (la ld : Loc) : MemReq :=
  { loadReq s d a la .zero with kind := .store, acq := false, rel := true, data := ld }

theorem witness_LoadsAndStores :
    let s := basing 0x000800
    MemFields s (seen s) (.v 3) (.v 9) (.vec [9]) ∧ (seen s).Dst kVSZ (tyWide (seen s).et) (.v 3) (.vec [3]) ∧
    (seen s).Accepts (loadReq s (.v 3) (.v 9) (.vec [9]) (.vec [3])) ∧
    (seen s).Accepts { loadReq s (.v 3) (.v 9) (.vec [9]) (.vec [3]) with space := .spad } ∧
    (seen s).Accepts { loadReq s (.v 3) (.v 9) (.vec [9]) (.vec [3]) with space := .xlive } ∧
    (seen s).Accepts { loadReq s (.v 3) (.v 9) (.vec [9]) (.vec [3]) with space := .numa } ∧
    (seen s).Accepts { loadReq s (.v 3) (.v 9) (.vec [9]) (.vec [3]) with kind := .ldc 7, scope := 2, acq := false } ∧
    winSpace 0 = some .spad ∧ winSpace 1 = some .xlive ∧ winSpace 2 = some .numa ∧
    (seen s).Src kData (tyWide (seen s).et) (.v 3) (.vec [3]) ∧ (seen s).Accepts (storeReq s (.v 3) (.v 9) (.vec [9]) (.vec [3])) ∧
    (seen s).Accepts { storeReq s (.v 3) (.v 9) (.vec [9]) (.vec [3]) with space := .numa } := by
  refine ⟨⟨issues_of ?_, src_of ?_, ?_⟩, dst_of ?_, accepts_of ?_, accepts_of ?_, accepts_of ?_, accepts_of ?_, accepts_of ?_, ?_, ?_, ?_, src_of ?_,
    accepts_of ?_, accepts_of ?_⟩ <;> decide +kernel

theorem witness_ScalarAccess :
    let s := basing 0x000800
    MemFields s (seen s) (.s 3) (.s 8) (.sca 8) ∧ (seen s).Dst kVSZ (tyWide (seen s).et) (.s 3) (.sca 3) ∧
    (seen s).Accepts (loadReq s (.s 3) (.s 8) (.sca 8) (.sca 3)) ∧ (seen s).Src kData (tyWide (seen s).et) .mone .mone ∧
    MemFields s (seen s) .mone .zero .zero ∧ (seen s).Accepts (storeReq s .mone .zero .zero .mone) := by
  refine ⟨⟨issues_of ?_, src_of ?_, ?_⟩, dst_of ?_, accepts_of ?_, src_of ?_, ⟨issues_of ?_, src_of ?_, ?_⟩, accepts_of ?_⟩ <;> decide +kernel

/-- A request of an atomic. -/
def atomicReq (s : State) (op : AtOp) (new : Loc) : MemReq :=
  { loadReq s (.v 3) (.v 9) (.vec [9]) (.vec [3]) with kind := .atomic op, rel := true, data := .vec [3], new := new }

theorem witness_Atomics :
    let s := basing 0x000800
    MemFields s (seen s) (.v 3) (.v 9) (.vec [9]) ∧ (seen s).Dst kVSZ (tyWide (seen s).et) (.v 3) (.vec [3]) ∧ (∀ f ∈ (seen s).y.fills (.vec [3]), f = .full) ∧
    (seen s).et < 12 ∧ (∀ op ∈ [AtOp.add, .min, .max, .and, .or, .xor, .swp, .cas], atTypes op false (seen s).et = true) ∧
    (∀ op ∈ [AtOp.add, .min, .max, .cas], atTypes op true (seen s).et = true) ∧ (seen s).Accepts (atomicReq s .xor .zero) ∧
    (seen s).Accepts { atomicReq s .max .zero with space := .spad } ∧
    (seen s).casNew (tyWide (seen s).et) (.v 3) = .ok (.vec [4]) ∧ (∀ f ∈ (seen s).y.fills (.vec [4]), f = .full) ∧
    (seen s).Accepts (atomicReq s .cas (.vec [4])) ∧ (seen s).Accepts { atomicReq s .cas (.vec [4]) with space := .numa } := by
  refine ⟨⟨issues_of ?_, src_of ?_, ?_⟩, dst_of ?_, ?_, ?_, ?_, ?_, accepts_of ?_, accepts_of ?_, ok_of ?_, ?_, accepts_of ?_, accepts_of ?_⟩ <;> decide +kernel

theorem witness_OtherAccesses :
    let s := basing 0x000800
    let v := seen s
    Issues s v ∧ v.Src kOff false (.s 8) (.sca 8) ∧ v.Dst { kSZ with sx := true } false (.s 3) (.sca 3) ∧ (v.et = 2 ∨ v.et = 3 ∨ v.et = 6 ∨ v.et = 7) ∧
    v.Accepts { loadReq s (.s 3) (.s 8) (.sca 8) (.sca 3) with kind := .acqr } ∧ v.Src kSxC false .one .one ∧
    v.Accepts { storeReq s .one (.s 8) (.sca 8) .one with kind := .spk } ∧
    v.Src kOff false (.v 9) (.vec [9]) ∧ v.Dst kVSZ false (.v 3) (.vec [3]) ∧
    v.Accepts { loadReq s (.v 3) (.v 9) (.vec [9]) (.vec [3]) with kind := .tagld, scope := 5, acq := false, t := 4 } ∧
    v.Src kData false (.v 3) (.vec [3]) ∧
    v.Accepts { storeReq s (.v 3) (.v 9) (.vec [9]) (.vec [3]) with kind := .tagst, scope := 5, rel := false, t := 4 } ∧
    v.Src kData false .one .one ∧
    v.Accepts { storeReq s .one (.v 9) (.vec [9]) .one with kind := .tagst, scope := 5, rel := false, scalar := false, t := 4 } ∧
    v.s.memOpen v.r.g v.r.w v.f.mask = false ∧ v.s.nldOpen v.r.g v.r.w = false ∧ v.s.logOpen v.r.g v.r.w = false ∧ v.s.remoteOpen v.r.g v.r.w = false := by
  refine ⟨issues_of ?_, src_of ?_, dst_of ?_, ?_, accepts_of ?_, src_of ?_, accepts_of ?_, src_of ?_, dst_of ?_, accepts_of ?_, src_of ?_, accepts_of ?_,
    src_of ?_, accepts_of ?_, ?_, ?_, ?_, ?_⟩ <;> decide +kernel

theorem witness_MemoryTraps :
    let s := basing 0x000800
    let v := seen s
    let at_ := fun (start : Nat) (la : Loc) => v.laneAccs v.et start false false la .zero .zero
    MemFields s v (.v 3) (.s 9) (.sca 9) ∧ v.Dst kVSZ (tyWide v.et) (.v 3) (.vec [3]) ∧ (v.y.b[(0 : Fin 8)]).valid = true ∧
    (at_ 0x3F80 (.sca 9)).filter (fun l => misaligned v.et l.addr l.bit) ≠ [] ∧ (v.y.b[(1 : Fin 8)]).valid = false ∧
    v.x.winSize .xlive = some 256 ∧ (at_ 0 (.sca 9)).filter (fun l => misaligned v.et l.addr l.bit) ≠ [] ∧
    (let t := hereWith (fun y => { y with s := y.s.set 9 { val := 256, fill := .full } })
     let u := seen t
     MemFields t u (.v 3) (.s 9) (.sca 9) ∧ (u.laneAccs u.et 0 false false (.sca 9) .zero .zero).filter (fun l => misaligned u.et l.addr l.bit) = [] ∧
     (u.laneAccs u.et 0 false false (.sca 9) .zero .zero).filter (fun l => decide (256 < l.addr + elemBytes u.et l.bit)) ≠ []) := by
  refine ⟨⟨issues_of ?_, src_of ?_, ?_⟩, dst_of ?_, ?_, ?_, ?_, ?_, ?_, ⟨issues_of ?_, src_of ?_, ?_⟩, ?_, ?_⟩ <;> decide +kernel

/-- The state with its warp holding a record of no binding. -/
def inStage (s : State) : State := s.modWarp 1 0 (fun y => { y with held := some { bind := 9, slot := 4 } })

/-- A warp in stage may read memory, and neither write outside its payload nor use an atomic. -/
theorem witness_MemoryInStage :
    let s := inStage (basing 0x000800)
    let v := seen s
    v.y.held.isSome = true ∧ v.Accepts (loadReq s (.v 3) (.v 9) (.vec [9]) (.vec [3])) ∧
    v.stageBars (storeReq s (.v 3) (.v 9) (.vec [9]) (.vec [3])) (v.accsOf (storeReq s (.v 3) (.v 9) (.vec [9]) (.vec [3]))) ≠ [] ∧
    (v.accsOf (storeReq s (.v 3) (.v 9) (.vec [9]) (.vec [3]))).filter (fun l => misaligned v.et l.addr l.bit) = [] ∧
    v.x.winSize (storeReq s (.v 3) (.v 9) (.vec [9]) (.vec [3])).space = none ∧ (atomicReq s .xor .zero).kind.isAtomic = true := by
  refine ⟨?_, accepts_of ?_, ?_, ?_, ?_, ?_⟩ <;> decide +kernel

/-- An access of 256 lines that is outstanding. -/
def wideAccess : MemOp :=
  { openStore with mask := 0, lanes := (List.range 256).map (fun i => { lane := 0, addr := 128 * i, bit := 0, data := 0, new := 0, st := .todo }) }

/-- The core's request entries are all taken. -/
def flooded : State :=
  let s := basing 0x000800
  { s with memops := [(9, wideAccess)] }

/-- The first 1 KiB of the scratchpad is absent. -/
def arriving : State :=
  let s := basing 0x000800
  s.modGroup 1 (fun g => { g with absent := (List.range 8).map (fun i => (i, 1)) })

/-- b0 names page 1, which lies on node 5, and the buffers of the core's flue stations are full. -/
def blocked : State :=
  let s := (basing 0x000800).modWarp 1 0 (fun y => { y with b := y.b.set 0 { BaseReg.invalid with valid := true, va := 0x4000, w := true, u := true } })
  let full := fun (c : LinkClass) => List.replicate 16 ({ cls := c, dst := 0, src := 0, pseq := 0, type := 0, hops := 0, tag := 0, data := [] } : Packet)
  ({ s with mem := Memory.wr s.mem 0x1C008 8 (2 ^ 52 * stPinned + (5 * 2 ^ 34 + 1) * 64 + 0x31),
            stations := (List.range 5).map (fun k => (k, full .log ++ full .ember ++ full .spark)) } : State).setBar 0x36010A 2 0x101

/-- The three waits of an access that traps at no lane. -/
theorem witness_MemoryWaits :
    (let q := loadReq flooded (.v 3) (.v 9) (.vec [9]) (.vec [3])
     Issues flooded (seen flooded) ∧ (seen flooded).Sound q ∧ (seen flooded).x.winSize q.space = none ∧
     256 < (seen flooded).s.entriesUsed (seen flooded).core + linesOf ((seen flooded).accsOf q)) ∧
    (let q : MemReq := { loadReq arriving (.v 3) (.v 9) (.vec [9]) (.vec [3]) with space := .spad }
     Issues arriving (seen arriving) ∧ (seen arriving).Sound q ∧
     ∃ l ∈ (seen arriving).accsOf q, (seen arriving).x.absentAt l.addr (elemBytes q.t l.bit) = true) ∧
    (let q := loadReq blocked (.v 3) (.v 9) (.vec [9]) (.vec [3])
     Issues blocked (seen blocked) ∧ (seen blocked).Sound q ∧ (seen blocked).s.entriesUsed (seen blocked).core + linesOf ((seen blocked).accsOf q) ≤ 256 ∧
     ∃ l ∈ (seen blocked).accsOf q, (seen blocked).s.hopFull (seen blocked).core (seen blocked).c ((seen blocked).opOf q) l = true) := by
  refine ⟨⟨issues_of ?_, sound_of ?_, ?_, ?_⟩, ⟨issues_of ?_, sound_of ?_, ?_⟩, ⟨issues_of ?_, sound_of ?_, ?_, ?_⟩⟩ <;> decide +kernel

/-- Forms of memory instructions that their words shut out: a type, the register after s31, a vector offset. -/
theorem witness_MemoryIllegal :
    let s := basing 0x000000
    let v := seen s
    MemFields s v (.v 3) (.v 9) (.vec [9]) ∧ v.plain = true ∧ atTypes .add false v.et = false ∧ atTypes .cas true v.et = false ∧
    v.Dst kVSZ (tyWide v.et) (.s 31) (.sca 31) ∧ (∀ f ∈ v.y.fills (.sca 31), f = .full) ∧ (v.casNew (tyWide v.et) (.s 31)).toOption = none ∧
    v.Src kOff false (.v 9) (.vec [9]) ∧ isVecOp (.v 9) = true ∧ isScaOp (.s 31) = true ∧ winSpace 3 = none ∧ winSpace 7 = none ∧
    v.resolveDst kVSZ (tyWide v.et) (.s 31) = .ok (.sca 31) ∧ v.resolve kData (tyWide v.et) (.s 31) = .ok (.sca 31) ∧
    (let u := seen (narrowType)
     u.plain = false ∧ u.Src kOff false .zero .zero ∧ u.Src kSxC false .one .one) ∧
    (let u := seen ({ here with memops := [(9, openStore)] })
     u.s.memOpen u.r.g u.r.w u.f.mask = true ∧ u.plain = true) := by
  refine ⟨⟨issues_of ?_, src_of ?_, ?_⟩, ?_, ?_, ?_, dst_of ?_, ?_, ?_, src_of ?_, ?_, ?_, ?_, ?_, ok_of ?_, ok_of ?_, ⟨?_, src_of ?_, src_of ?_⟩, ?_, ?_⟩ <;>
    decide +kernel

/-- A scalar access of type i32 to the last word of page 0, in flight. -/
def oneAccess (k : MemKind) (scope : Nat) (dst : Dest) : MemOp :=
  { g := 1, w := 0, mask := 0xFFFFFFFF, pc := 128, kind := k, space := .mem { BaseReg.invalid with valid := true, va := 0x3F80, w := true, u := true },
    mode := 0x000800, user := true, scope := scope, acq := false, rel := false,
    lanes := [{ lane := 0, addr := 0x3FFC, bit := 0, data := 0xFFFFFFFFFFFFFFFE, new := 0, st := .todo }], scalar := true, dst := dst, deps := [],
    landed := false, failed := false }

/-- The lane of that access. -/
def oneLane : LaneAcc := { lane := 0, addr := 0x3FFC, bit := 0, data := 0xFFFFFFFFFFFFFFFE, new := 0, st := .todo }

/-- The state with the access in flight under number 9. -/
def flying (m : MemOp) : State := { here with memops := [(9, m)] }

theorem memTurn_of {m : MemOp} (h : tget (flying m).memops 9 = some m) (hg : (flying m).group m.g = some (groupOf (flying m)))
    (hr : (groupOf (flying m)).onCore = true ∧ (groupOf (flying m)).st ≠ .killed ∧ (groupOf (flying m)).st ≠ .exited ∧ (groupOf (flying m)).core = some 0)
    (hf : m.failed = false ∧ m.landed = false) (hp : (flying m).mayPerform m = true) (hl : m.lanes = [oneLane] ∧ oneLane.st = .todo ∧ oneLane.bit = 0)
    (hw : ((flying m).warp m.g m.w).all (fun y => y.intrap || y.due.isEmpty) = true) :
    MemTurn (flying m) 9 m (groupOf (flying m)) 0 oneLane :=
  ⟨h, hg, hr, hf, hp, hl, fun y hy => by simpa [hy] using hw⟩

theorem witness_Store :
    let m := oneAccess .store 5 .none
    let s := flying m
    MemTurn s 9 m (groupOf s) 0 oneLane ∧ m.type < 12 ∧
    (∃ te leaf, s.reach (some 0) (cfin (groupOf s).ctx) { BaseReg.invalid with valid := true, va := 0x3F80, w := true, u := true } 0x3FFC true true =
      .to 0x43FFC te leaf ∧ te = false) ∧
    s.locked (cfin (groupOf s).ctx) 0x3FFC 4 true = false ∧ s.isLocal 0x43FFC = true ∧ localPart 0x43FFC + 4 ≤ 2 ^ 48 ∧ homeDie (localPart 0x43FFC) = 0 ∧
    elemBytes m.type 0 = 4 ∧ Memory.wf s.mem = true := by
  refine ⟨memTurn_of ?_ ?_ ?_ ?_ ?_ ?_ ?_, ?_, ⟨false, some leaf0, ?_, ?_⟩, ?_, ?_, ?_, ?_, ?_, ?_⟩ <;> decide +kernel

theorem witness_Load :
    let m := oneAccess .load 3 (.s 31)
    let s := flying m
    MemTurn s 9 m (groupOf s) 0 oneLane ∧ s.warp m.g m.w = some (warpOf s) ∧ (warpOf s).sched ≠ .exited ∧
    (∃ te leaf, s.reach (some 0) (cfin (groupOf s).ctx) { BaseReg.invalid with valid := true, va := 0x3F80, w := true, u := true } 0x3FFC false true =
      .to 0x43FFC te leaf ∧ te = false) ∧
    s.locked (cfin (groupOf s).ctx) 0x3FFC 4 false = false ∧ s.isLocal 0x43FFC = true ∧ localPart 0x43FFC + 4 ≤ 2 ^ 48 ∧ homeDie (localPart 0x43FFC) = 0 ∧
    s.engBad 0x43FFC 4 = false ∧ (∀ q ∈ s.channelReqs (some 0) (cfin (s.ctxOf m.g)) 9 m, (s.channel q.channel).alerted = false) := by
  refine ⟨memTurn_of ?_ ?_ ?_ ?_ ?_ ?_ ?_, ?_, ?_, ⟨false, some leaf0, ?_, ?_⟩, ?_, ?_, ?_, ?_, ?_, ?_⟩ <;> decide +kernel

theorem witness_LoadWriteback :
    let l : LaneAcc := { oneLane with st := .done 0xFFFFFFFE }
    let m : MemOp := { oneAccess .load 3 (.s 31) with lanes := [l], landed := true }
    let s := flying m
    tget s.memops 9 = some m ∧ m.landed = true ∧ m.lanes = [l] ∧ l.lane = 0 ∧ m.dst = .s 31 ∧ s.warp m.g m.w = some (warpOf s) ∧
    (∀ e ∈ s.memops, e.1 ≠ 9 → ¬(e.2.g = m.g ∧ e.2.w = m.w ∧ e.2.dst = .s 31)) := by
  decide +kernel

/-! ## Numbers -/

/-- A descriptor of a number in a register of the entry window (02 R45). -/
def inReg (neg : Bool) (len home : Nat) : BitVec 128 := NDesc.word { res := 1, neg := neg, len := len, cap := 32, loc := home }

/-- n1 holds 5 in v40, n2 holds -3 in v41, n0 and n3 hold 0, n0 with HOME v42 and n3 with none, n5 owns a block of 128 limbs; s10 holds 0x1000, s11 6, s12 2^64 - 1; x3 is given. -/
def numbered (x3 : Byte) : State :=
  let s := hereWith (fun y =>
    { y with n := (((y.n.set 5 { NReg.zero with own := some (0x2000, 128) }).set 0 { NReg.zero with home := some 42 }).set 1 { NReg.zero with desc := inReg false 1 40, home := some 40 }).set 2
                    { NReg.zero with desc := inReg true 1 41, home := some 41 },
             phys := tput (tput (tput y.phys 40 { lanes := Lanes.zero.set 0 5, fill := .full }) 41 { lanes := Lanes.zero.set 0 3, fill := .full }) 42 VReg.zero,
             x := y.x.set 3 x3,
             s := ((y.s.set 10 { val := 0x1000, fill := .full }).set 11 { val := 6, fill := .full }).set 12 { val := 0xFFFFFFFFFFFFFFFF, fill := .full } })
  { s with mem := Memory.wr s.mem 0x41000 4 0x80000002, ctxs := s.ctxs.set 0 { s.ctxs[0] with modtab := 0x1800 } }

theorem witness_NumberRegisterPath :
    let s := numbered 0
    let v := seen s
    v.Src kSxZ1 false (.s 11) (.sca 11) ∧ v.y.homeReg 0 = some 42 ∧ tget v.y.phys 42 ≠ none ∧
    v.y.numArg v.grp v.r.w 1 = .val 5 ∧ v.y.numArg v.grp v.r.w 2 = .val (-3) ∧ NumReady s v (some 0) [1, 2] ∧
    (∀ k ∈ [(1 : Fin 8), 2], (descOf v.y.n[k].desc).res ≤ 1) ∧
    (∀ e ∈ numFast v 0 1 2 (.s 11) (v.y.scalarVal (.sca 11)).toNat false false, e.2.2.2 ≤ 32) := by
  refine ⟨src_of ?_, ?_, ?_, ?_, ?_, ⟨issues_of ?_, ?_, ?_, ?_, ?_, ?_⟩, ?_, ?_⟩ <;> decide +kernel

theorem witness_NumbersStart :
    let s := numbered 63
    let v := seen s
    v.Src kSxZ1 false (.s 11) (.sca 11) ∧ NumReady s v (some 3) [1, 2] ∧
    v.s.argVal v.c (decide (v.y.plvl = 0)) (v.arg 2) = .ok (-3) ∧ v.s.argVal v.c (decide (v.y.plvl = 0)) (v.arg 0) = .ok 0 ∧
    (seen (numbered 1)).x3 % 8 = 1 ∧ NumReady (numbered 1) (seen (numbered 1)) (some 3) [1, 2, 1] ∧
    v.transformSel = .ok fixedPrime ∧ v.Src kSx false (.s 11) (.sca 11) ∧ 6 ≤ (v.y.scalarVal (.sca 11)).toNat ∧ (v.y.scalarVal (.sca 11)).toNat ≤ 16 ∧
    v.len 1 ≤ 2 * 2 ^ (v.y.scalarVal (.sca 11)).toNat ∧ v.Src kSx false (.s 12) (.sca 12) ∧ 16 < (v.y.scalarVal (.sca 12)).toNat ∧
    v.owns 3 32 ∧ v.owns 5 128 ∧ v.registerPath (v.into .mul 3 [1, 2] 2 false false true) = false ∧ v.engineIdle true true ∧
    v.selected = .ok fixedPrime ∧ v.Dst kSxZ false (.s 5) (.sca 5) ∧ NumReady s v none [1] := by
  refine ⟨src_of ?_, ⟨issues_of ?_, ?_, ?_, ?_, ?_, ?_⟩, ok_of ?_, ok_of ?_, ?_, ⟨issues_of ?_, ?_, ?_, ?_, ?_, ?_⟩, ?_, src_of ?_, ?_, ?_, ?_, src_of ?_, ?_,
    ?_, ?_, ?_, ?_, ?_, dst_of ?_, ⟨issues_of ?_, ?_, ?_, ?_, ?_, ?_⟩⟩ <;>
    first | decide +kernel | rfl | (unfold View.engineIdle; decide +kernel)

/-- A modulus table with one entry, 65536 · 2^17 + 1 with the generator 3. -/
def withModulus : State :=
  let s := numbered 0
  { s with mem := Memory.wr s.mem 0x41800 32 (2 ^ 192 + 3 * 2 ^ 64 + (2 ^ 33 + 1)) }

theorem witness_NumberRecombination :
    let s := withModulus
    let v := seen s
    NumReady s v (some 3) [1, 3] ∧ v.Src kSx false (.s 11) (.sca 11) ∧ v.modulus (v.x3 % 32) = .ok { q := 2 ^ 33 + 1, g := 3, inv := 0 } := by
  refine ⟨⟨issues_of ?_, ?_, ?_, ?_, ?_, ?_⟩, src_of ?_, ?_⟩ <;> first | decide +kernel | rfl

theorem witness_NumberCompare :
    let s := numbered 0
    let v := seen s
    NumReady s v none [1, 2] ∧ v.Dst kSxZ false .zero .zero ∧ v.s.argVal v.c (decide (v.y.plvl = 0)) (v.arg 1) = .ok 5 ∧
    v.s.argVal v.c (decide (v.y.plvl = 0)) (v.arg 2) = .ok (-3) ∧ (descOf v.y.n[(1 : Fin 8)].desc).res ≤ 1 ∧ (descOf v.y.n[(2 : Fin 8)].desc).res ≤ 1 := by
  refine ⟨⟨issues_of ?_, ?_, ?_, ?_, ?_, ?_⟩, dst_of ?_, ok_of ?_, ok_of ?_, ?_, ?_⟩ <;> decide +kernel

/-- s20 and on hold the values at which the clauses of the binding instructions meet. -/
def bindingValues : State :=
  (numbered 0).modWarp 1 0 (fun y => holding y [(20, 32), (21, 33), (22, 2 ^ 24 + 1), (23, 2 ^ 64 - 2), (24, 2 ^ 64 - 3), (25, 2 ^ 64 - 4)])

theorem witness_NumberBinding :
    let s := bindingValues
    let v := seen s
    v.homeOf (.v 79) = .ok (.vec [79], some 79) ∧ (∀ f ∈ v.y.fills (.vec [79]), f = .full) ∧ v.homeOf .zero = .ok (.zero, none) ∧
    v.Src kSxZ false (.s 20) (.sca 20) ∧ NumReady s v (some 0) [] ∧ (v.y.scalarVal (.sca 20)).toNat % 64 ≤ 32 ∧
    v.Src kSxZ false (.s 21) (.sca 21) ∧ 32 < (v.y.scalarVal (.sca 21)).toNat % 64 ∧ v.Src kSxZ false (.s 22) (.sca 22) ∧
    2 ^ 24 < (v.y.scalarVal (.sca 22)).toNat ∧ (v.y.scalarVal (.sca 20)).toNat ≤ v.x.slotCap := by
  refine ⟨ok_of ?_, ?_, ok_of ?_, src_of ?_, ⟨issues_of ?_, ?_, ?_, ?_, ?_, ?_⟩, ?_, src_of ?_, ?_, src_of ?_, ?_, ?_⟩ <;> decide +kernel

theorem witness_NumberGet :
    let s := bindingValues
    let v := seen s
    NumReady s v none [1] ∧ v.Dst kNgetD false (.s 5) (.sca 5) ∧ v.Dst kNgetD false (.v 5) (.vec [5]) ∧
    v.Src kSxC false .zero .zero ∧ v.arg 1 = .val 5 ∧ (descOf v.y.n[(1 : Fin 8)].desc).res ≤ 1 ∧ (v.y.scalarVal .zero).toNat < v.len 1 ∧
    v.Src kSxC false .one .one ∧ v.len 1 ≤ (v.y.scalarVal .one).toNat ∧ v.Src kSxC false .mone .mone ∧ (v.y.scalarVal .mone).toNat = 2 ^ 64 - 1 ∧
    v.Src kSxC false (.s 23) (.sca 23) ∧ (v.y.scalarVal (.sca 23)).toNat = 2 ^ 64 - 2 ∧
    v.Src kSxC false (.s 24) (.sca 24) ∧ (v.y.scalarVal (.sca 24)).toNat = 2 ^ 64 - 3 ∧
    v.Src kSxC false (.s 25) (.sca 25) ∧ 2 ^ 24 ≤ (v.y.scalarVal (.sca 25)).toNat ∧ (v.y.scalarVal (.sca 25)).toNat < 2 ^ 64 - 3 ∧ v.engineIdle false false := by
  refine ⟨⟨issues_of ?_, ?_, ?_, ?_, ?_, ?_⟩, dst_of ?_, dst_of ?_, src_of ?_, ?_, ?_, ?_, src_of ?_, ?_, src_of ?_, ?_, src_of ?_, ?_, src_of ?_, ?_, src_of ?_, ?_,
    ?_, ?_⟩ <;> first | decide +kernel | (unfold View.engineIdle; decide +kernel)

/-- n1 holds 5 in its slot of the number area. -/
def inSlot : State :=
  let s := hereWith (fun y => { y with n := y.n.set 1 { NReg.zero with desc := NDesc.word { res := 2, neg := false, len := 1, cap := 32, loc := 128 } } })
  s.modGroup 1 (fun x => { x with numa := Memory.wr x.numa 128 4 5 })

theorem witness_NumberGetFromSlot :
    let s := inSlot
    let v := seen s
    NumReady s v none [1] ∧ v.Src kSxC false .zero .zero ∧ (v.y.scalarVal .zero).toNat < v.len 1 ∧ 2 ≤ (descOf v.y.n[(1 : Fin 8)].desc).res ∧
    v.engineIdle false false := by
  refine ⟨⟨issues_of ?_, ?_, ?_, ?_, ?_, ?_⟩, src_of ?_, ?_, ?_, ?_⟩ <;> first | decide +kernel | (unfold View.engineIdle; decide +kernel)

theorem witness_NumberImages :
    let s := numbered 0
    let v := seen s
    v.Src kSx false (.s 10) (.sca 10) ∧ (v.y.scalarVal (.sca 10)).toNat % 16 = 0 ∧ v.s.memOpen v.r.g v.r.w v.f.mask = false ∧
    v.s.nldOpen v.r.g v.r.w = false ∧ NumReady s v (some 3) [] ∧
    v.s.ptrTo v.core v.c (decide (v.y.plvl = 0)) 0x1000 16 false = .ok 0x41000 leaf0 ∧ v.s.engRd 0x41000 16 = 0x80000002 ∧
    v.s.lockHit v.c (0x1000 % 2 ^ 56) (16 + 4 * 2) false = none ∧ v.owns 3 2 ∧ v.engineIdle false false ∧
    v.Src kSx false (.s 11) (.sca 11) ∧ (v.y.scalarVal (.sca 11)).toNat % 16 ≠ 0 ∧
    NumReady s v none [1] ∧ v.y.held = none ∧ v.s.lockHit v.c (0x1000 % 2 ^ 56) (16 + 4 * v.len 1) true = none ∧
    v.s.argVal v.c (decide (v.y.plvl = 0)) (v.arg 1) = .ok 5 ∧ v.s.pieces v.c (decide (v.y.plvl = 0)) true 0x1000 21 0 20 = .ok [(0x41000, 20)] := by
  refine ⟨src_of ?_, ?_, ?_, ?_, ⟨issues_of ?_, ?_, ?_, ?_, ?_, ?_⟩, ?_, ?_, ?_, ?_, ?_, src_of ?_, ?_, ⟨issues_of ?_, ?_, ?_, ?_, ?_, ?_⟩, ?_, ?_, ok_of ?_, ok_of ?_⟩ <;>
    first | decide +kernel | rfl | (unfold View.engineIdle; decide +kernel)

/-- A header of a number image whose bits 31 to 25 are not in order. -/
theorem witness_BadImage : 2 ^ 32 ≤ (2 ^ 32 : Nat) ∧ (2 ^ 25 : Nat) / 2 ^ 25 % 64 ≠ 0 ∧ 2 ^ 24 < (2 ^ 24 + 1) % 2 ^ 25 := by decide

/-- An operation that computes 5 + -3 for s31, in flight under number 9. -/
def computing : NumOp :=
  { g := 1, w := 0, fn := .add, args := [.val 5, .val (-3)], srcs := [], dst := .s 31, freeOld := none, bellows := false, band := false, user := true }

theorem witness_StreamOperation :
    let s : State := { here with numops := [(9, computing)] }
    tget s.numops 9 = some computing ∧ s.group 1 = some (groupOf s) ∧ (groupOf s).core = some 0 ∧ s.warp 1 0 = some (warpOf s) ∧
    (s.ctxs[cfin (groupOf s).ctx]).st.runs = true ∧ s.argVals (s.ctxOf 1) true computing.args = .ok [5, -3] := by
  refine ⟨?_, ?_, ?_, ?_, ?_, ok_of ?_⟩ <;> decide +kernel

/-- A heap arena of one block of 32 limbs, and a request for 17. -/
def asking : State :=
  { here with ctxs := here.ctxs.set 0 { here.ctxs[0] with heap := 0x2000, heapsize := 128, heapmeta := 0x3000 },
              hods := [(9, { g := 1, w := 0, slot := false, limbs := 17, answer := none })] }

theorem witness_Hod :
    let s := asking
    let c := cfin (s.ctxOf 1)
    tget s.hods 9 = some { g := 1, w := 0, slot := false, limbs := 17, answer := none } ∧ (s.ctxs[c]).st.runs = true ∧ (s.ctxs[c]).heapsize ≠ 0 ∧
    s.metaBad c = none ∧ (s.hodFrees c).findBlock c (4 * blockLimbs 17) = some 0x2000 := by
  refine ⟨?_, ?_, ?_, ?_, ?_⟩
  iterate 4 decide +kernel
  have e : ((asking.hodFrees (cfin (asking.ctxOf 1))).ctxs[cfin (asking.ctxOf 1)]).heap = 0x2000 ∧
      ((asking.hodFrees (cfin (asking.ctxOf 1))).ctxs[cfin (asking.ctxOf 1)]).heapsize = 128 ∧
      (asking.hodFrees (cfin (asking.ctxOf 1))).blockFree (cfin (asking.ctxOf 1)) 0x2000 128 = true := by decide +kernel
  have b : 4 * blockLimbs 17 = 128 := by decide
  simp only [b, State.findBlock, e.1, e.2.1, Nat.lt_irrefl, if_false, Nat.div_self (show 0 < 128 by decide), Nat.mod_one, Nat.mul_zero, Nat.add_zero, e.2.2, if_true]

/-! ## Tiles -/

/-- A tile of 128 rows that is OPEN at 0. -/
def openTile (limb : Bool) : Tile := { Tile.closed with st := .opened, limb := limb, rows := 128 }

/-- A slab of one block of 2-bit mantissas, all 1, with exponent 128. -/
def blockSlab (id : Nat) : Slab :=
  { id := id, copy := 0, size := 32, bytes := leBytes 32 (17 + 2 ^ 16 + 2 ^ 128 * (128 + 2 ^ 32 * 0x5555555555555555)), claimed := false, failed := false }

/-- A slab of one limb row that holds 3. -/
def limbSlab (id : Nat) : Slab :=
  { id := id, copy := 0, size := 272, bytes := leBytes 272 (6 + 2 ^ 16 + 2 ^ 128 * 3), claimed := false, failed := false }

/-- The group has tile 1 OPEN, FIFOs 0 and 2 with a committed slab each, and these operations; s10, s11 and s12 hold words of AOPEN, s13 a selector and s14 a limb row. -/
def tiled (limb : Bool) (tops : List TileOp) : State :=
  let s := hereWith (fun y =>
    let z := holding y [(10, 0x00800200), (11, 0x00810200), (12, 0x00880000), (13, 0x607F), (14, 127)]
    { z with n := y.n.set 5 { NReg.zero with own := some (0x2000, 256) } })
  let q : Fifo := { slabs := [if limb then limbSlab 7 else blockSlab 7], broken := false, next := 8 }
  let t := s.modGroup 1 (fun x => { x with tiles := x.tiles.set 1 (openTile limb), fifos := (x.fifos.set 0 (some q)).set 2 (some q), tops := tops })
  { t with cores := [(0, { Core.idle with engine := tops.filterMap (fun o => if o.queued then some (.tile 1 o.id) else none) })] }

theorem tileFree_of {s : State} {k : Fin 8} {e : Bool} (h : issuesB s = true) (ho : ((seen s).tile k).st = .opened) (hp : (seen s).grp.pend k < 32)
    (hq : e = true → (seen s).s.engineLen (seen s).core < 32) : TileFree s (seen s) k e := ⟨issues_of h, ho, hp, hq⟩

theorem witness_TileControl :
    let s := tiled false []
    let v := seen s
    Issues s v ∧ v.Src kSx false (.s 10) (.sca 10) ∧ (∀ e ∈ v.s.groups, e.2.aopens = []) ∧
    (v.y.scalarVal (.sca 10)).toNat / 2 ^ 16 % 2 ^ 8 = 128 ∧ (v.y.scalarVal (.sca 10)).toNat / 2 ^ 10 % 64 = 0 ∧ (v.tile 0).st = .closed ∧
    v.s.blocksUsed v.core = 16 ∧ v.Src kSx false (.s 11) (.sca 11) ∧ (v.y.scalarVal (.sca 11)).toNat / 2 ^ 16 % 2 ^ 8 % 8 ≠ 0 ∧
    v.Src kSx false (.s 12) (.sca 12) ∧ (v.y.scalarVal (.sca 12)).toNat / 2 ^ 16 % 2 ^ 8 = 136 ∧
    (v.tile 1).st = .opened ∧ TileFree s v 1 true ∧ v.Dst kSxZ false (.s 5) (.sca 5) ∧ v.f.arrived = none ∧ v.grp.pend 1 = 0 ∧
    v.grp.fifos[(1 : Fin 4)] = none ∧
    (∃ q, v.grp.fifos[(0 : Fin 4)] = some q ∧ v.s.inflight v.r.g 0 = 0 ∧ ∀ b ∈ q.slabs, b.claimed = false) := by
  refine ⟨issues_of ?_, src_of ?_, ?_, ?_, ?_, ?_, ?_, src_of ?_, ?_, src_of ?_, ?_, ?_, tileFree_of ?_ ?_ ?_ ?_, dst_of ?_, ?_, ?_, ?_,
    ⟨{ slabs := [blockSlab 7], broken := false, next := 8 }, ?_, ?_, ?_⟩⟩ <;> decide +kernel

/-- Two tiles of 120 rows are OPEN, so that 8 rows are all that can be opened besides. -/
theorem witness_TileRowsFull :
    let s := (hereWith (fun y => holding y [(10, 0x00080000), (11, 0x00100000)])).modGroup 1 (fun x =>
      { x with tiles := (x.tiles.set 1 { openTile false with rows := 120 }).set 2 { openTile false with rows := 120 } })
    let v := seen s
    Issues s v ∧ v.Src kSx false (.s 10) (.sca 10) ∧ v.Src kSx false (.s 11) (.sca 11) ∧ (∀ e ∈ v.s.groups, e.2.aopens = []) ∧
    (((List.finRange 8).filter (· ≠ 0)).map (fun j => if (v.tile j).st = .closed then 0 else (v.tile j).rows)).sum = 240 ∧ v.s.blocksUsed v.core = 30 := by
  refine ⟨issues_of ?_, src_of ?_, src_of ?_, ?_, ?_, ?_⟩ <;> decide +kernel

theorem witness_TileOperations :
    let s := tiled false []
    let v := seen s
    TileFree s v 1 true ∧ (v.tile 1).limb = false ∧ v.oldest 0 7 ∧ v.oldest 2 7 ∧ v.Src kSxZ false (.s 13) (.sca 13) ∧ TileFree s v 1 false ∧
    selects (v.y.scalarVal (.sca 13)).toNat (v.tile 1).rows { word := 0, col0 := 96, row := 127 } ∧ v.Dst kV false (.v 79) (.vec [79]) ∧
    (v.tile 1).err = false ∧ v.Src kV false (.v 79) (.vec [79]) := by
  refine ⟨tileFree_of ?_ ?_ ?_ ?_, ?_, ⟨{ slabs := [blockSlab 7], broken := false, next := 8 }, blockSlab 7, ?_, ?_, ?_⟩,
    ⟨{ slabs := [blockSlab 7], broken := false, next := 8 }, blockSlab 7, ?_, ?_, ?_⟩, src_of ?_, tileFree_of ?_ ?_ ?_ ?_, ?_, dst_of ?_, ?_, src_of ?_⟩ <;>
    first | decide +kernel | (unfold selects; decide +kernel)

theorem witness_LimbOperations :
    let s := tiled true []
    let v := seen s
    TileFree s v 1 true ∧ (v.tile 1).limb = true ∧ v.oldest 0 7 ∧ v.oldest 2 7 ∧ v.Src kSxZ1 false (.s 14) (.sca 14) ∧ TileFree s v 1 false ∧
    NumFree s v 5 ∧ (v.y.scalarVal (.sca 14)).toNat < (v.tile 1).rows ∧ (v.tile 1).err = false ∧ v.owns 5 130 ∧ v.engineIdle false false := by
  refine ⟨tileFree_of ?_ ?_ ?_ ?_, ?_, ⟨{ slabs := [limbSlab 7], broken := false, next := 8 }, limbSlab 7, ?_, ?_, ?_⟩,
    ⟨{ slabs := [limbSlab 7], broken := false, next := 8 }, limbSlab 7, ?_, ?_, ?_⟩, src_of ?_, tileFree_of ?_ ?_ ?_ ?_,
    ⟨issues_of ?_, ?_, ?_, ?_⟩, ?_, ?_, ?_, ?_⟩ <;>
    first | decide +kernel | rfl | (unfold View.engineIdle; decide +kernel)

/-- An operation on tile 1. -/
def topOf (k : TileOpKind) : TileOp := { id := 9, tile := 1, kind := k }

theorem tileTurn_of {s : State} {o : TileOp} (hg : s.group 1 = some (groupOf s)) (ho : (groupOf s).tops.find? (fun q => q.id == o.id) = some o)
    (hp : (groupOf s).core = some 0) (hh : (groupOf s).st ≠ .restoring) (hr : (s.ctxs[cfin (groupOf s).ctx]).st.runs = true)
    (hy : (groupOf s).opReady o = true) (hq : o.queued = true → s.engineHead 0 (.tile 1 o.id) = true) :
    TileTurn s 1 (groupOf s) o 0 := ⟨hg, ho, hp, hh, hr, hy, hq⟩

theorem witness_TileRetire :
    (let o := topOf .azero
     let x := groupOf (tiled false [o])
     TileTurn (tiled false [o]) 1 x o 0 ∧ (x.tiles[o.tile]).st ≠ .closing ∧ x.st ≠ .exited) ∧
    (let o := topOf (.awr Lanes.zero { word := 3, col0 := 96, row := 127 })
     TileTurn (tiled false [o]) 1 (groupOf (tiled false [o])) o 0) ∧
    (let o := topOf (.ard 0 79 { word := 0, col0 := 0, row := 0 })
     let s := tiled false [o]
     TileTurn s 1 (groupOf s) o 0 ∧ ((groupOf s).tiles[o.tile]).err = false ∧ s.warp 1 0 = some (warpOf s) ∧ tget (warpOf s).phys 79 ≠ none) := by
  refine ⟨⟨tileTurn_of ?_ ?_ ?_ ?_ ?_ ?_ ?_, ?_⟩, tileTurn_of ?_ ?_ ?_ ?_ ?_ ?_ ?_, tileTurn_of ?_ ?_ ?_ ?_ ?_ ?_ ?_, ?_, ?_, ?_⟩ <;> decide +kernel

theorem witness_TileProducts :
    (let o := topOf (.mma 0 7 2 7)
     let s := tiled false [o]
     let x := groupOf s
     TileTurn s 1 x o 0 ∧ o.kind = (if (x.tiles[o.tile]).limb then .lmma 0 7 2 7 else .mma 0 7 2 7) ∧ x.slabOf 0 7 = (some (blockSlab 7), false) ∧
     x.slabOf 2 7 = (some (blockSlab 7), false) ∧ (blockSlab 7).size ≤ (blockSlab 7).bytes.length ∧ slabHdr (blockSlab 7).bytes = some (17, 1) ∧
     1 ≤ (x.tiles[o.tile]).rows) ∧
    (let o := topOf (.lmma 0 7 2 7)
     let s := tiled true [o]
     let x := groupOf s
     TileTurn s 1 x o 0 ∧ o.kind = (if (x.tiles[o.tile]).limb then .lmma 0 7 2 7 else .mma 0 7 2 7) ∧ x.slabOf 0 7 = (some (limbSlab 7), false) ∧
     x.slabOf 2 7 = (some (limbSlab 7), false) ∧ (limbSlab 7).size ≤ (limbSlab 7).bytes.length ∧ slabHdr (limbSlab 7).bytes = some (6, 1) ∧
     1 ≤ (x.tiles[o.tile]).rows) := by
  refine ⟨⟨tileTurn_of ?_ ?_ ?_ ?_ ?_ ?_ ?_, ?_, ?_, ?_, ?_, ?_, ?_⟩, ⟨tileTurn_of ?_ ?_ ?_ ?_ ?_ ?_ ?_, ?_, ?_, ?_, ?_, ?_, ?_⟩⟩ <;> decide +kernel

/-- The upper end of the range of an element: 2^95 - 2 and 1. -/
theorem witness_ExactTerm :
    let t := (openTile false).setElem 0 127 { acc := BitVec.ofInt 96 (2 ^ 95 - 2), nan := false };
    0 - 2 ^ 95 ≤ (t.elem 0 127).acc.toInt + 1 * 2 ^ 0 ∧ (t.elem 0 127).acc.toInt + 1 * 2 ^ 0 < 2 ^ 95 ∧ (127 : Nat) < 128 := by decide +kernel

/-- ETYPE 23: blocks of 8-bit mantissas. -/
def blocks : State := hereWith (fun y => { y with mode := 0x005C00 })

theorem witness_BlockConversion :
    let s := blocks
    let v := seen s
    Issues s v ∧ tyBfp v.et = true ∧ v.Dst kV false (.v 1) (.vec [1]) ∧ v.Src kV (tyWide (16#7).toNat) (.v 2) (.vec [2]) ∧
    v.Dst kV (tyWide (3#7).toNat) (.v 2) (.vec [2, 3]) ∧ v.Src kV false (.v 1) (.vec [1]) := by
  refine ⟨issues_of ?_, ?_, dst_of ?_, src_of ?_, dst_of ?_, src_of ?_⟩ <;> decide +kernel

theorem witness_BlockConversionTraps :
    (let v := seen blocks
     17 ≤ (17#7).toNat ∧ v.Src kV (decide ((17#7).toNat < 17) && tyWide (17#7).toNat) (.v 2) (.vec [2]) ∧
     v.Dst kV (decide ((17#7).toNat < 17) && tyWide (17#7).toNat) (.v 2) (.vec [2])) ∧
    (Issues here (seen here) ∧ tyBfp (seen here).et = false) := by
  refine ⟨⟨?_, src_of ?_, dst_of ?_⟩, issues_of ?_, ?_⟩ <;> decide +kernel

/-! ## Copies -/

/-- An engine of the quadrant takes a job. -/
def roomB (v : View) (j : Job) (src : End_) (span : Nat) (dst : End_) (sys : Bool) (k : Nat) : Bool :=
  decide (src.spad = true → 0 < span → src.addr + span ≤ v.x.sched.spad) &&
  decide (j.toSpad = true → 0 < j.lay.span → dst.addr + j.lay.span ≤ v.x.sched.spad) && decide (selfOverlap j.ranges = false) && decide (v.y.held = none) &&
  decide (v.s.releaseWaits v.r.g v.r.w v.f.mask = false ∧ (sys = true → v.s.remoteOpen v.r.g v.r.w = false)) &&
  decide (v.s.freeEngine (coreQuad v.core) = some k) &&
  decide (∀ l ∈ (j.ranges.map v.s.rangeLocks).flatten, ∀ m ∈ v.s.allLocks, l.conflicts m = false) &&
  decide (v.s.lockRoom ((j.ranges.map v.s.rangeLocks).flatten) = true) &&
  decide (j.toSpad = true → ∀ l ∈ linesAt dst.addr (j.lay.from_ 0), tgetD v.grp.absent l 0 < 15) && decide (v.s.creditRoom (coreDie v.core) j.route = true)

theorem room_of {v : View} {j : Job} {src : End_} {span : Nat} {dst : End_} {sys : Bool} {k : Nat} (h : roomB v j src span dst sys k = true) :
    CopyRoom v j src span dst sys k := by
  simp only [roomB, Bool.and_eq_true, decide_eq_true_eq] at h
  obtain ⟨⟨⟨⟨⟨⟨⟨⟨⟨h1, h2⟩, h3⟩, h4⟩, h5⟩, h6⟩, h7⟩, h8⟩, h9⟩, h10⟩ := h
  exact ⟨h1, h2, h3, fun _ _ => h4, h5, h6, h7, h8, h9, h10⟩

/-- s8 to s11 hold the parameter words of a copy. -/
def copying (p0 p1 p2 p3 : DWord) : State := hereWith (fun y => holding y [(8, p0), (9, p1), (10, p2), (11, p3)])

theorem words_of {s : State} {i : Fin 32} {n : Nat} (h : issuesB s = true) (hl : i.val + n ≤ 32)
    (hf : ∀ j, j < n → (seen s).y.s[Fin.ofNat 32 (i.val + j)].fill = .full ∧ (seen s).y.mapped (Fin.ofNat 32 (i.val + j)) = none) :
    CopyWords s (seen s) i n := ⟨issues_of h, hl, hf⟩

/-- 32 bytes of page 0 to the first bytes of the scratchpad, with the last barrier of the group region. -/
def bytesIn : State := copying 0x1000 0x8000000000000000 32 0x80FF000000000000

/-- Its job. -/
def bytesJob : Job :=
  { kind := .cpy, p0 := 0x1000, p1 := 0x8000000000000000, p2 := 32, p3 := 0x80FF000000000000, lay := .ofBytes 16 32,
    ranges := endRange (endOf 0x1000) 0 32 false ++ endRange (endOf 0x8000000000000000) 0 32 true, toSpad := true, bar := some 4080, extra := 0, tile := 0,
    route := [] }

theorem witness_ByteCopy :
    let s := bytesIn
    let v := seen s
    CopyWords s v 8 4 ∧ v.identTo (.s 5) (some 5) ∧ v.identTo .zero none ∧ (v.par 8 0, v.par 8 1, v.par 8 2, v.par 8 3) =
      (0x1000, 0x8000000000000000, 32, 0x80FF000000000000) ∧ v.c = 0 ∧ endOk 0x1000 = true ∧ endOk 0x8000000000000000 = true ∧
    bits (32#64) 63 32 = 0 ∧ bits (32#64) 31 0 = 32 ∧ bits (0x80FF000000000000#64) 47 0 = 0 ∧ v.barOf 0x80FF000000000000 (some 4080) ∧
    CopyRoom v bytesJob (endOf 0x1000) 32 (endOf 0x8000000000000000) false 0 := by
  refine ⟨words_of ?_ ?_ ?_, dst_of ?_, dst_of ?_, ?_, ?_, ?_, ?_, ?_, ?_, ?_, ?_, room_of ?_⟩ <;> first | decide +kernel | (unfold View.barOf; decide +kernel)

theorem witness_EmptyCopy :
    let s := copying 0x1000 0x2000 0 0
    let v := seen s
    let j : Job := { kind := .cpy, p0 := 0x1000, p1 := 0x2000, p2 := 0, p3 := 0, lay := .ofBytes 16 0,
                     ranges := endRange (endOf 0x1000) v.c 0 false ++ endRange (endOf 0x2000) v.c 0 true, toSpad := false, bar := none, extra := 0, tile := 0,
                     route := [] }
    CopyWords s v 8 4 ∧ (v.par 8 0, v.par 8 1, v.par 8 2, v.par 8 3) = (0x1000, 0x2000, 0, 0) ∧ v.barOf 0 none ∧
    CopyRoom v j (endOf 0x1000) 0 (endOf 0x2000) false 0 ∧ ∀ e ∈ v.s.copies, e.1 ≠ v.s.uid := by
  refine ⟨words_of ?_ ?_ ?_, ?_, ?_, room_of ?_, ?_⟩ <;> first | decide +kernel | (unfold View.barOf; decide +kernel)

theorem witness_CopyToContext :
    let s := copying 0x1000 0x2000 32 (0x0000040000000000)
    let v := seen s
    let ranges := endRange (endOf 0x1000) v.c 32 false ++ endRange (endOf 0x2000) 1 32 true
    let j : Job := { kind := .cpyx, p0 := 0x1000, p1 := 0x2000, p2 := 32, p3 := 0x0000040000000000, lay := .ofBytes 16 32, ranges := ranges, toSpad := false,
                     bar := none, extra := 0, tile := 0, route := v.copyRoute 0 ranges }
    CopyWords s v 8 4 ∧ (v.par 8 0, v.par 8 1, v.par 8 2, v.par 8 3) = (0x1000, 0x2000, 32, 0x0000040000000000) ∧
    bits (0x0000040000000000#64) 55 48 = v.s.node ∧ bits (0x0000040000000000#64) 47 42 = 1 ∧ bits (0x0000040000000000#64) 62 56 = 0 ∧
    bits (0x0000040000000000#64) 41 32 = 0 ∧ (endOf 0x2000).spad = false ∧ CopyRoom v j (endOf 0x1000) 32 (endOf 0x2000) false 0 := by
  refine ⟨words_of ?_ ?_ ?_, ?_, ?_, ?_, ?_, ?_, ?_, room_of ?_⟩ <;> decide +kernel

/-- An array copy of 2 rows of 4 elements of type i32 (2), without padding, to the scratchpad. -/
theorem witness_ArrayCopy :
    let p2 : DWord := 0x0020040001000010
    let p3 : DWord := 0x0000100000000000
    let s := copying 0x1000 0x8000000000000000 p2 p3
    let v := seen s
    let lay := Layout.ofElems 32 4 2 16
    let j : Job := { kind := .cpyt, p0 := 0x1000, p1 := 0x8000000000000000, p2 := p2, p3 := p3, lay := lay,
                     ranges := endRange (endOf 0x1000) v.c 32 false ++ endRange (endOf 0x8000000000000000) v.c lay.span true, toSpad := true, bar := none,
                     extra := 0, tile := 0, route := [] }
    CopyWords s v 8 4 ∧ (v.par 8 0, v.par 8 1, v.par 8 2, v.par 8 3) = (0x1000, 0x8000000000000000, p2, p3) ∧ v.barOf p3 none ∧
    bits p2 63 52 = 2 ∧ bits p2 51 40 = 4 ∧ bits p2 39 20 = 16 ∧ bits p2 19 0 = 16 ∧ bits p3 47 43 = 2 ∧ bits p3 42 36 = 0 ∧ bits p3 11 0 = 0 ∧
    lay.len ≤ 16 ∧ CopyRoom v j (endOf 0x1000) 32 (endOf 0x8000000000000000) false 0 := by
  refine ⟨words_of ?_ ?_ ?_, ?_, ?_, ?_, ?_, ?_, ?_, ?_, ?_, ?_, ?_, room_of ?_⟩ <;> first | decide +kernel | (unfold View.barOf; decide +kernel)

/-- A copy that quantises 1 row of 32 elements of type f32 (10) to blocks of ETYPE 23. -/
theorem witness_QuantisingCopy :
    let p2 : DWord := 0x0010200000000000
    let p3 : DWord := 0x0000500000000000
    let s := (copying 0x1000 0x8000000000000000 p2 p3).modWarp 1 0 (fun y => { y with mode := 0x005C00 })
    let v := seen s
    let q := cpyqShape 10 23 1 32 0 0 false
    let j : Job := { kind := .cpyq, p0 := 0x1000, p1 := 0x8000000000000000, p2 := p2, p3 := p3, lay := q.1,
                     ranges := endRange (endOf 0x1000) v.c q.2 false ++ endRange (endOf 0x8000000000000000) v.c q.1.span true, toSpad := true, bar := none,
                     extra := (v.y.b[(0 : Fin 8)]).extra, tile := 0, route := [] }
    CopyWords s v 8 4 ∧ (v.par 8 0, v.par 8 1, v.par 8 2, v.par 8 3) = (0x1000, 0x8000000000000000, p2, p3) ∧ v.barOf p3 none ∧ v.et = 23 ∧
    bits p2 63 52 = 1 ∧ bits p2 51 40 = 32 ∧ bits p2 39 20 = 0 ∧ bits p3 47 43 = 10 ∧ bits p3 38 0 = 0 ∧ bits p3 41 39 = 0 ∧ p3.getLsbD 42 = false ∧
    ¬(tyBfp 10 = true ∧ tyBfp 23 = true) ∧ 32 % 32 = 0 ∧ CopyRoom v j (endOf 0x1000) q.2 (endOf 0x8000000000000000) false 0 := by
  refine ⟨words_of ?_ ?_ ?_, ?_, ?_, ?_, ?_, ?_, ?_, ?_, ?_, ?_, ?_, ?_, ?_, room_of ?_⟩ <;> first | decide +kernel | (unfold View.barOf; decide +kernel)

/-- 63 limb rows to a FIFO that no group owns. -/
theorem witness_FifoCopy :
    let p2 : DWord := 0x0600003F00000000
    let s := copying 0x0 0 p2 0
    let v := seen s
    let j : Job := { kind := .cpyf 1 0, p0 := 0, p1 := 0, p2 := p2, p3 := 0, lay := .ofBytes 16 (slabSize 6 63), ranges := endRange (endOf 0) v.c (63 * 256) false,
                     toSpad := false, bar := none, extra := 0, tile := 0, route := [] }
    CopyWords s v 8 4 ∧ (v.par 8 0, v.par 8 1, v.par 8 2, v.par 8 3) = (0, 0, p2, 0) ∧ v.barOf 0 none ∧ bits p2 63 56 = 6 ∧ bits p2 47 32 = 63 ∧
    bits p2 55 48 = 0 ∧ bits p2 31 0 = 0 ∧ v.s.fifoOwner v.core 1 = none ∧ ((Fifo.fresh.slabs.map (·.size)).sum + slabSize 6 63 ≤ 16384) ∧
    CopyRoom v j (endOf 0) (63 * 256) (endOf 0) false 0 := by
  refine ⟨words_of ?_ ?_ ?_, ?_, ?_, ?_, ?_, ?_, ?_, ?_, ?_, room_of ?_⟩ <;> first | decide +kernel | (unfold View.barOf; decide +kernel)

/-- The last row of tile 1 to the scratchpad, with the last barrier of the group region. -/
theorem witness_Drain :
    let p0 : DWord := 0x8000000000000000
    let p1 : DWord := 0x0000017F00000200
    let p2 : DWord := 0x8000000000000FF0
    let s := (copying p0 p1 p2 0).modGroup 1 (fun x => { x with tiles := x.tiles.set 1 (openTile false) })
    let v := seen s
    let q := drainPar p1 p2 128
    let lay := Layout.ofElems 32 1 128 512
    let j : Job := { kind := .adrain, p0 := p0, p1 := p1, p2 := p2, p3 := 0, lay := lay, ranges := endRange (endOf p0.toNat) v.c lay.span true, toSpad := true,
                     bar := some 4080, extra := (v.y.b[(0 : Fin 8)]).extra, tile := 1, route := [] }
    CopyWords s v 8 3 ∧ (v.par 8 0, v.par 8 1, v.par 8 2) = (p0, p1, p2) ∧ TileFree s v 1 false ∧ drainReserved p0 p1 p2 = false ∧ v.et = 2 ∧ (v.tile 1).err = false ∧
    (v.tile 1).rows = 128 ∧ (q.row0, q.rows, q.cols, q.pitch, q.bar) = (127, 1, 128, 512, some 4080) ∧ q.misaligned (endOf p0.toNat) 32 = none ∧
    CopyRoom v j { spad := false, addr := 0 } 0 (endOf p0.toNat) false 0 := by
  refine ⟨words_of ?_ ?_ ?_, ?_, tileFree_of ?_ ?_ ?_ ?_, ?_, ?_, ?_, ?_, ?_, ?_, room_of ?_⟩ <;> decide +kernel

/-- The copy of bytesIn under way, with this many cells landed. -/
def underWay (units : Nat) (bar : Option Nat) : Copy :=
  { ident := 0x0000000000000001, kind := .cpy, ctx := 0, g := 1, w := 0, user := true, p0 := 0x1000, p1 := 0x8000000000000000, p2 := 32, p3 := 0, mode := 0,
    extra := 0, lay := .ofBytes 16 32, units := units, landed := 16 * units, size := 32, st := .running, cause := 0, bar := bar, barLeft := 32, lines := [0],
    locks := [{ ctx := 0, die := 0, lo := 32, hi := 32, write := false }], route := [], snap := none, snapX := 0, tile := 0, released := false,
    waits := none, stop := none }

/-- The state with a copy under number 9, whose identifier is in s8; s9 holds one of another context. -/
def withCopy (c : Copy) : State :=
  { hereWith (fun y => { holding y [(8, 1), (9, 0x0400000000000001)] with copyN := 1 }) with copies := [(9, c)] }

theorem witness_CopyStatus :
    let s := withCopy (underWay 1 none)
    let v := seen s
    Issues s v ∧ v.Src kS false (.s 8) (.sca 8) ∧ v.Dst kSZ false (.s 5) (.sca 5) ∧ bits (v.y.s[(8 : Fin 32)]).val 63 58 = v.c.val ∧
    v.s.copies.find? (fun e => decide (e.2.ident = (v.y.s[(8 : Fin 32)]).val)) = some (9, underWay 1 none) ∧ tget v.s.copies 9 = some (underWay 1 none) ∧
    (underWay 1 none).st = .running ∧ v.s.copySends 9 = false ∧ v.Src kS false (.s 9) (.sca 9) ∧ bits (v.y.s[(9 : Fin 32)]).val 63 58 ≠ v.c.val ∧
    v.Src kS false (.s 10) (.sca 10) ∧ (∀ e ∈ v.s.copies, e.2.ident ≠ (v.y.s[(10 : Fin 32)]).val) := by
  refine ⟨issues_of ?_, src_of ?_, dst_of ?_, ?_, ?_, ?_, ?_, ?_, src_of ?_, ?_, src_of ?_, ?_⟩ <;> decide +kernel

theorem witness_CopyLand :
    let c := underWay 0 (some 4080)
    let s := withCopy c
    tget s.copies 9 = some c ∧ s.group c.g = some (groupOf s) ∧ s.copyRuns c = true ∧ c.units < c.lay.total ∧ (endOf c.p1.toNat).spad = true ∧
    c.lay.half = false ∧ (s.cellVal c c.units).run [] = .ok (0, [(0x41000, 16)]) ∧ c.lay.total = 2 := by
  refine ⟨?_, ?_, ?_, ?_, ?_, ?_, ok_of ?_, ?_⟩ <;> decide +kernel

theorem witness_CopyDone :
    let c := underWay 2 none
    let s := withCopy c
    tget s.copies 9 = some c ∧ s.group c.g = some (groupOf s) ∧ s.copyRuns c = true ∧ c.lay.total ≤ c.units ∧ s.copySends 9 = false ∧
    c.kind ≠ .cpyx ∧ s.warp c.g c.w = some (warpOf s) := by
  decide +kernel

/-- A cell meets a fatal cause. -/
def failsB (x : Except Stall State) (k a : Nat) : Bool := match x with
  | .error (.fail k' a') => decide (k' = k ∧ a' = a)
  | _ => false

theorem fails_of {x : Except Stall State} {k a : Nat} (h : failsB x k a = true) : x = .error (.fail k a) := by
  unfold failsB at h
  split at h
  · simp only [decide_eq_true_eq] at h; rw [h.1, h.2]
  · cases h

/-- A copy whose source is in no page. -/
theorem witness_CopyFail :
    let c : Copy := { underWay 0 none with p0 := 0x4000 }
    let s := withCopy c
    tget s.copies 9 = some c ∧ s.group c.g = some (groupOf s) ∧ s.copyRuns c = true ∧ c.units < c.lay.total ∧ s.copySends 9 = false ∧
    s.landCell 9 c = .error (.fail cPGPROT 0x4000) := by
  refine ⟨?_, ?_, ?_, ?_, ?_, fails_of ?_⟩ <;> decide +kernel

/-! ## Barriers, meetings, exchanges, reductions and clocks -/

/-- The last barrier object of the group region holds `b`; s8 names it and s9 holds `n`. -/
def barred (b : Bar) (n : DWord) : State :=
  (hereWith (fun y => holding y [(8, 4080), (9, n)])).modGroup 1 (fun x => x.setBar 4080 b)

/-- An object whose phase has one arrival pending. -/
def freshBar : Bar := { pendb := 0, phase := false, broken := false, expect := 1, penda := 1 }

theorem barAt_of {s : State} {a : Opnd} {l : Loc} {o : Nat} (h : issuesB s = true) (hs : srcB (seen s) kSxZ false a l = true)
    (hv : ((seen s).y.scalarVal l).toNat = o) (ha : o % 16 = 0) (hi : o + 16 ≤ (seen s).x.sched.spad) : BarAt s (seen s) a l o :=
  ⟨issues_of h, src_of hs, hv, ha, hi⟩

theorem witness_Barriers :
    let s := barred freshBar 65535
    let v := seen s
    BarAt s v (.s 8) (.sca 8) 4080 ∧ BarAt s v .zero .zero 0 ∧ v.Src kS1 false .one .one ∧ v.Src kS1 false (.s 9) (.sca 9) ∧
    (v.y.scalarVal (.sca 9)).toNat = 65535 ∧ v.Src kSC false .mone .mone ∧ v.Dst kSZ false (.s 5) (.sca 5) ∧ (v.grp.bar 4080).broken = false ∧
    (v.grp.bar 4080).penda ≠ 0 ∧ v.s.releaseWaits v.r.g v.r.w (BitVec.allOnes 32) = false ∧ v.f.arrived = none ∧ (v.grp.bar 0).penda = 0 ∧ v.Src kSZ1 false .one .one ∧ v.Src kSZ1 false .zero .zero ∧
    (v.grp.bar 4080).phase ≠ decide ((v.y.scalarVal .one).toNat % 2 = 1) ∧ (v.grp.bar 4080).phase = decide ((v.y.scalarVal .zero).toNat % 2 = 1) := by
  refine ⟨barAt_of ?_ ?_ ?_ ?_ ?_, barAt_of ?_ ?_ ?_ ?_ ?_, src_of ?_, src_of ?_, ?_, src_of ?_, dst_of ?_, ?_, ?_, ?_, ?_, ?_, src_of ?_, src_of ?_, ?_, ?_⟩ <;>
    decide +kernel

theorem witness_BarrierWaits : ∀ a ∈ [Arrival.bwaitOver, .bwaitBroken 4080],
    let s := hereWith (fun y => { (holding y [(8, 4080)]) with slot0 := y.slot0.map (fun f => { f with arrived := some a }) })
    issuesB s = true ∧ srcB (seen s) kSxZ false (.s 8) (.sca 8) = true ∧ ((seen s).y.scalarVal (.sca 8)).toNat = 4080 ∧
      4080 + 16 ≤ (seen s).x.sched.spad ∧ srcB (seen s) kSZ1 false .one .one = true ∧ (seen s).f.arrived = some a := by
  decide +kernel

theorem witness_BarrierTraps :
    (let s := barred { freshBar with broken := true } 0
     let v := seen s
     BarAt s v (.s 8) (.sca 8) 4080 ∧ (v.grp.bar 4080).broken = true ∧ v.Src kS1 false (.s 9) (.sca 9) ∧ (v.y.scalarVal (.sca 9)).toNat = 0) ∧
    (let s := barred freshBar 65536
     let v := seen s
     BarAt s v (.s 8) (.sca 8) 4080 ∧ v.Src kS1 false (.s 9) (.sca 9) ∧ 65535 < (v.y.scalarVal (.sca 9)).toNat) := by
  refine ⟨⟨barAt_of ?_ ?_ ?_ ?_ ?_, ?_, src_of ?_, ?_⟩, ⟨barAt_of ?_ ?_ ?_ ?_ ?_, src_of ?_, ?_⟩⟩ <;> decide +kernel

/-- The group has a second warp that has not arrived. -/
def twoWarps : State := here.modGroup 1 (fun x => { x with warps := x.warps ++ x.warps })

/-- The warp's fragment stands arrived. -/
def standing (a : Arrival) : State := hereWith (fun y =>
  { y with gsyncN := 1, csyncN := 1, slot0 := y.slot0.map (fun f => { f with arrived := some a }) })

/-- The state after the arrival of a warp. -/
def arrivedAfter (s : State) (cl : Bool) : State :=
  let v := seen s
  (v.put (if cl then { v.y with csyncN := v.y.csyncN + 1 } else { v.y with gsyncN := v.y.gsyncN + 1 })).settleSync v.r.g

theorem witness_Meeting :
    Issues here (seen here) ∧ (seen here).f.arrived = none ∧ (seen here).s.exchOpen (seen here).r.g (seen here).r.w = false ∧
    (seen here).s.releaseWaits (seen here).r.g (seen here).r.w (seen here).f.mask = false ∧
    (((arrivedAfter here false).group (seen here).r.g).getD (seen here).x).gsyncDone 1 = true ∧
    (((arrivedAfter here true).group (seen here).r.g).getD (seen here).x).csyncDone 1 = true ∧
    Issues twoWarps (seen twoWarps) ∧ (seen twoWarps).f.arrived = none ∧ (((arrivedAfter twoWarps false).group 1).getD (seen twoWarps).x).gsyncDone 1 = false ∧
    (((arrivedAfter twoWarps true).group 1).getD (seen twoWarps).x).csyncDone 1 = false ∧
    (let s := standing (.gsync 1)
     Issues s (seen s) ∧ (seen s).f.arrived = some (.gsync 1) ∧ (seen s).grp.gsyncDone 1 = true) ∧
    (let s := (standing (.csync 1)).modGroup 1 (fun x => { x with cswaps := 1 })
     Issues s (seen s) ∧ (seen s).f.arrived = some (.csync 1) ∧ (seen s).grp.csyncDone 1 = true) := by
  refine ⟨issues_of ?_, ?_, ?_, ?_, ?_, ?_, issues_of ?_, ?_, ?_, ?_, ⟨issues_of ?_, ?_, ?_⟩, ⟨issues_of ?_, ?_, ?_⟩⟩ <;> decide +kernel

/-- A launch of two groups, the second of them retired or not; s8 and s9 hold the parameters of an exchange store to group `t`, s10 one of MCST. -/
def exchanging (t : DWord) (st : GroupState) (mode : BitVec 23) : State :=
  let s := hereWith (fun y =>
    { (holding y [(8, t), (9, 0x80FF000000000080), (10, 0x80FF000000000080)]) with mode := mode })
  { s with groups := s.groups ++ (s.groups.map (fun e => (5, { e.2 with num := 1, st := st, warps := [] }))),
           launches := tmod s.launches 0 (fun l => { l with count := 2 }) }

theorem exchange_of {v : View} {x : Nat} {bar : Option Nat} {off : Nat} (h : (x / 2 ^ 19 % 2 ^ 29 = 0 ∧ off = x % 2 ^ 19 ∧
      bar = (if 2 ^ 63 ≤ x then some (x / 2 ^ 48 % 2 ^ 15 * 16) else none) ∧ off + 128 ≤ v.x.sched.exch) ∧
      (bar.all (fun o => decide (o + 16 ≤ v.x.sched.spad)) = true) ∧ off % 4 = 0 ∧ v.y.held = none) : Exchange v x bar off :=
  ⟨h.1.1, h.1.2.1, h.1.2.2.1, h.1.2.2.2, fun o ho => by simpa [ho] using h.2.1, h.2.2.1, h.2.2.2⟩

theorem witness_ExchangeStores :
    let s := exchanging 1 .resident 0x000800
    let v := seen s
    Issues s v ∧ v.Src kV false (.v 79) (.vec [79]) ∧ v.Src kS false (.s 8) (.sca 8) ∧ v.y.s[(9 : Fin 32)].fill = .full ∧ v.y.mapped 9 = none ∧
    v.y.s[(8 : Fin 32)].val.toNat < (v.launch.map (·.count)).getD 0 ∧ Exchange v v.y.s[(9 : Fin 32)].val.toNat (some 4080) 128 ∧
    (∃ q, v.peer 1 = some (5, q) ∧ q.st = .resident) ∧ v.Src kS false (.s 10) (.sca 10) ∧ Exchange v v.y.s[(10 : Fin 32)].val.toNat (some 4080) 128 ∧
    (let s := exchanging 1 .exited 0x000800
     Issues s (seen s) ∧ (∃ q, (seen s).peer 1 = some (5, q) ∧ q.st = .exited) ∧ mXtrap (seen s).y.mode = false) ∧
    (let s := exchanging 1 .exited 0x000880
     Issues s (seen s) ∧ (∃ q, (seen s).peer 1 = some (5, q) ∧ q.st = .exited) ∧ mXtrap (seen s).y.mode = true) := by
  refine ⟨issues_of ?_, src_of ?_, src_of ?_, ?_, ?_, ?_, exchange_of ?_, ⟨((exchanging 1 .resident 0x000800).group 5).get ?_, ?_, ?_⟩, src_of ?_, exchange_of ?_,
    ⟨issues_of ?_, ⟨((exchanging 1 .exited 0x000800).group 5).get ?_, ?_, ?_⟩, ?_⟩,
    ⟨issues_of ?_, ⟨((exchanging 1 .exited 0x000880).group 5).get ?_, ?_, ?_⟩, ?_⟩⟩ <;> decide +kernel

/-- An exchange store to its own group, in flight. -/
def landing : ExchStore := { g := 1, w := 0, tgts := [1], off := 128, mask := 0x80000001, lanes := Lanes.zero.set 31 7, bar := none }

theorem exchImage_of {s : State} {g : Nat} (h : (s.group g).all (fun x => decide (x.st ≠ .saved)) = true) : s.exchImage (some g) = .ok s := by
  cases e : s.group g with
  | none => simp [State.exchImage, e]
  | some x => simp only [e, Option.all_some, decide_eq_true_eq] at h; simp [State.exchImage, e, h]

theorem witness_ExchangeLand :
    let s : State := { here with exchs := [(9, landing)] }
    tget s.exchs 9 = some landing ∧ landing.tgts = [1] ∧ s.exchImage (some 1) = .ok s ∧ s.group 1 = some (groupOf s) ∧ (groupOf s).st ≠ .exited ∧
    (groupOf s).st ≠ .killed ∧ (groupOf s).st ≠ .saved ∧ landing.bar = none ∧ Memory.wf (groupOf s).bank0 = true ∧ Memory.wf (groupOf s).bank1 = true := by
  refine ⟨?_, ?_, ?_, ?_⟩
  iterate 2 decide +kernel
  · exact exchImage_of (by decide +kernel)
  · decide +kernel

/-- s8 holds a CRED word of this COUNT, OP 5 and tag 3. -/
def reducing (count : Nat) : State := hereWith (fun y => holding y [(8, BitVec.ofNat 64 (3 * 2 ^ 32 + count * 2 ^ 8 + 5))])

theorem witness_Reduction :
    (let s := reducing 1
     let v := seen s
     Issues s v ∧ v.Dst kSZ false (.s 5) (.sca 5) ∧ v.Src kSC false .mone .mone ∧ v.Src kS false (.s 8) (.sca 8) ∧ v.f.arrived = none ∧ v.y.held = none ∧ v.et < 12 ∧
     v.y.s[(8 : Fin 32)].val.toNat / 2 ^ 8 % 2 ^ 8 = 1) ∧
    (let s := reducing 16
     let v := seen s
     Issues s v ∧ v.y.s[(8 : Fin 32)].val.toNat < 2 ^ 48 ∧ v.y.s[(8 : Fin 32)].val.toNat % 8 < 6 ∧ v.y.s[(8 : Fin 32)].val.toNat / 8 % 32 = 0 ∧
     v.y.s[(8 : Fin 32)].val.toNat / 2 ^ 8 % 2 ^ 8 = 16 ∧ v.s.liveQuads = 16 ∧ v.s.openRed v.x.launch v.x.phase 3 = none ∧
     v.s.releaseWaits v.r.g v.r.w v.f.mask = false ∧ tget v.s.reds v.s.uid = none) := by
  refine ⟨⟨issues_of ?_, dst_of ?_, src_of ?_, src_of ?_, ?_⟩, ⟨issues_of ?_, ?_⟩⟩ <;> decide +kernel

/-- A reduction of two quadrants by ADD that is complete, with the warp's fragment waiting. -/
def complete : Reduction :=
  { launch := 0, phase := 0, tag := 3, count := 2, op := 0, signed := true, parts := [(0, 5), (1, 0xFFFFFFFFFFFFFFFF)], mixed := false,
    waiters := [(1, 0, false, some 31)], closed := true }

theorem witness_ReductionResult :
    let s : State := { standing (.cred 9) with reds := [(9, complete)] }
    tget s.reds 9 = some complete ∧ complete.closed = true ∧ complete.mixed = false ∧ s.group 1 = some (groupOf s) ∧ (groupOf s).st = .resident ∧
    s.warp 1 0 = some (warpOf s) ∧ (∃ f, (warpOf s).slot false = some f ∧ f.arrived = some (.cred 9) ∧ f.replays = []) ∧ (warpOf s).kept = none ∧
    complete.parts = (0, 5) :: [(1, 0xFFFFFFFFFFFFFFFF)] := by
  refine ⟨?_, ?_, ?_, ?_, ?_, ?_, ⟨((warpOf (standing (.cred 9))).slot0).get ?_, ?_, ?_, ?_⟩, ?_, ?_⟩ <;> decide +kernel

theorem witness_Clocks : Issues here (seen here) ∧ (seen here).Dst kSZ false .zero .zero ∧ (seen here).Dst kSZ false (.s 31) (.sca 31) := by
  refine ⟨issues_of ?_, dst_of ?_, dst_of ?_⟩ <;> decide +kernel

/-! ## Queues, signals and records -/

/-- Scalars: s8 a packet's address, s9 a misaligned one, s10 to s14 addresses in page 0 and numbers of queues and sets. -/
def queueing (q : Queue) (f : Warp → Warp) : State :=
  let s := hereWith (fun y => f (holding y [(8, 0x1000), (9, 0x1001), (10, 255), (11, 256), (12, 0x2800), (13, 2), (14, 3), (15, 1), (16, 12), (17, 11), (18, 8)]))
  { s with queues := s.queues.set 255 q,
           mem := Memory.wr (Memory.wr (Memory.wr s.mem 0x41000 8 2) 0x42800 24 (2 ^ 64 + 2 ^ 128 * 2)) 0x42880 8 77 }

/-- A queue of context 0 at 0x2400 with 16 slots, 15 of them taken. -/
def nearlyFull : Queue := { Queue.unbound with base := 0x2400, size := 16, st := .active, head := 16, tail := 31 }

theorem val_of {v : View} {k : Kinds} {o : Opnd} {x : Nat} (l : Loc) (h : srcB v k false o l = true) (e : (v.y.scalarVal l).toNat = x) : v.Val k o x :=
  ⟨l, src_of h, e⟩

theorem witness_QueuePush :
    let s := queueing nearlyFull id
    let v := seen s
    let q := v.s.queues[(255 : Fin 256)]
    Issues s v ∧ v.Dst kS false (.s 5) (.sca 5) ∧ v.Val kS (.s 10) 255 ∧ v.Val kS (.s 11) 256 ∧ v.Val kS (.s 8) 0x1000 ∧ v.Val kS (.s 9) 0x1001 ∧ v.y.held = none ∧
    v.s.releaseWaits v.r.g v.r.w (BitVec.allOnes 32) = false ∧ v.Lies 0x1000 64 false 0x41000 leaf0 ∧ q.st ≠ .unbound ∧ q.st ≠ .error ∧ cfin q.ctx = v.c ∧
    (v.s.ctxs[v.c]).st.runs = true ∧ (q.tail - q.head).toNat ≠ q.size ∧
    v.s.xlate v.c (q.base.toNat + 64 * (q.tail.toNat % max q.size 1)) true false = .ok 0x427C0 leaf0 := by
  refine ⟨issues_of ?_, dst_of ?_, val_of (.sca 10) ?_ ?_, val_of (.sca 11) ?_ ?_, val_of (.sca 8) ?_ ?_, val_of (.sca 9) ?_ ?_, ?_, ?_, ?_, ?_, ?_, ?_, ?_, ?_, ?_⟩ <;>
    first | decide +kernel | (unfold View.Lies; decide +kernel)

theorem witness_QueuePushRefused :
    (let s := queueing { nearlyFull with tail := 32 } id
     let v := seen s
     Issues s v ∧ ((v.s.queues[(255 : Fin 256)]).tail - (v.s.queues[(255 : Fin 256)]).head).toNat = (v.s.queues[(255 : Fin 256)]).size) ∧
    (let s := queueing .unbound id
     let v := seen s
     Issues s v ∧ ¬((v.s.queues[(255 : Fin 256)]).st ≠ .unbound ∧ (v.s.queues[(255 : Fin 256)]).st ≠ .error)) := by
  refine ⟨⟨issues_of ?_, ?_⟩, ⟨issues_of ?_, ?_⟩⟩ <;> decide +kernel

/-- s12 names a word queue of two words, one of them taken, with no producer; the counter at 0x1000 holds 2. -/
theorem witness_QueuesAndSignals :
    let s := queueing .unbound (fun y => { y with attach := [0x2800, 1, 2] })
    let v := seen s
    Issues s v ∧ v.Val kS (.s 12) 0x2800 ∧ (v.y.s[(28 : Fin 32)]).fill ≠ .empty ∧ (v.y.s[(31 : Fin 32)]).fill ≠ .empty ∧ v.Val kS (.s 8) 0x1000 ∧
    v.Val kSC .mone (2 ^ 64 - 1) ∧ v.y.held = none ∧ v.Free ∧ v.s.remoteOpen v.r.g v.r.w = false ∧ v.s.isLocal 0x41000 = true ∧ v.Lies 0x1000 8 true 0x41000 leaf0 ∧ v.Val kS (.s 13) 2 ∧ v.Val kS (.s 14) 3 ∧
    v.Lies 0x1000 8 false 0x41000 leaf0 ∧ v.s.engRd 0x41000 8 = 2 ∧ v.Lies 0x2800 128 true 0x42800 leaf0 ∧ v.y.attach.length < 4 ∧
    0x2800 ∈ v.y.attach ∧
    ((v.s.qHdr 0x42800).tail + 2 ^ 64 - (v.s.qHdr 0x42800).head) % 2 ^ 64 ≠ (v.s.qHdr 0x42800).cap ∧
    ({ v with s := v.s.tlbFill v.core v.c (0x2800 % 2 ^ 56) leaf0 } : View).Lies (0x2800 + 128 + 8 * ((v.s.qHdr 0x42800).tail % max (v.s.qHdr 0x42800).cap 1)) 8 true
      0x42888 leaf0 := by
  refine ⟨issues_of ?_, val_of (.sca 12) ?_ ?_, ?_, ?_, val_of (.sca 8) ?_ ?_, val_of .mone ?_ ?_, ?_, ?_, ?_, ?_, ?_, val_of (.sca 13) ?_ ?_, val_of (.sca 14) ?_ ?_, ?_, ?_,
    ?_, ?_, ?_, ?_, ?_⟩ <;> first | decide +kernel | (unfold View.Lies; decide +kernel) | (unfold View.Free; decide +kernel)

/-- The entry of page 1, PINNED in page 1 of node 5. -/
def leafFar : Nat := 2 ^ 52 * stPinned + (5 * 2 ^ 34 + 1) * 64 + 0x31

/-- s22 points into page 1, which lies on node 5; port 1 leads there. -/
def signalling : State :=
  let s := queueing .unbound (fun y => holding y [(22, 0x4008)])
  ({ s with mem := Memory.wr s.mem 0x1C008 8 leafFar } : State).setBar 0x36010A 2 0x101

/-- Some state results. -/
theorem some_ok {x : Except Stop State} (h : x.toBool = true) : ∃ u, x = .ok u := by
  cases x with
  | error e => cases h
  | ok u => exact ⟨u, rfl⟩

theorem witness_SignalsAfar :
    let s := signalling
    let v := seen s
    Issues s v ∧ v.Val kS (.s 22) 0x4008 ∧ v.Val kSC .mone (2 ^ 64 - 1) ∧ v.y.held = none ∧ v.Free ∧ v.s.remoteOpen v.r.g v.r.w = false ∧
    v.Lies 0x4008 8 true (5 * 2 ^ 48 + 0x4008) leafFar ∧ v.s.isLocal (5 * 2 ^ 48 + 0x4008) = false ∧
    ∃ u, ({ v with s := v.s.tlbFill v.core v.c (0x4008 % 2 ^ 56) leafFar } : View).sendSignal (5 * 2 ^ 48 + 0x4008) (2 ^ 64 - 1) = .ok u := by
  refine ⟨issues_of ?_, val_of (.sca 22) ?_ ?_, val_of .mone ?_ ?_, ?_, ?_, ?_, ?_, ?_, some_ok ?_⟩ <;>
    first | decide +kernel | (unfold View.Lies; decide +kernel) | (unfold View.Free; decide +kernel)

theorem witness_QueueMapped : (let s := hereWith (fun y => { y with qmap := y.qmap.set 3 (some 0x2800) })
    Issues s (seen s) ∧ (seen s).y.qmap[(3 : Fin 4)] ≠ none) ∧ (seen here).y.qmap[(0 : Fin 4)] = none := by
  refine ⟨⟨issues_of ?_, ?_⟩, ?_⟩ <;> decide +kernel

theorem witness_QueueFull :
    (let s := { queueing .unbound id with mem := Memory.wr here.mem 0x42800 24 (2 * 2 ^ 64 + 2 ^ 128 * 2) }
     let v := seen s
     Issues s v ∧ v.Val kS (.s 12) 0x2800 ∧ ((v.s.qHdr 0x42800).tail + 2 ^ 64 - (v.s.qHdr 0x42800).head) % 2 ^ 64 = (v.s.qHdr 0x42800).cap ∧ 0x2800 ∉ v.y.attach) ∧
    (let s := queueing .unbound (fun y => { y with attach := [1, 2, 3, 4] })
     let v := seen s
     Issues s v ∧ 4 ≤ v.y.attach.length) := by
  refine ⟨⟨issues_of ?_, val_of (.sca 12) ?_ ?_, ?_, ?_⟩, ⟨issues_of ?_, ?_⟩⟩ <;> decide +kernel

/-- A record of SEQ 6. -/
def record (st : RecState) (n : Nat) : Rec :=
  { st := st, pass := false, retry := 0, cur := some 0, cause := 0, done := 0,
    effects := List.replicate n { addr := 0x3000, data := 0xAB, size := 1, stage := 0 }, order := [0, 1], seq := 6, holder := 0, by_ := none, since := 0,
    waiter := none, lost := false }

/-- A stage set of two stages with this record in slot 4. -/
def setOf (r : List (Nat × Rec)) : Binding :=
  { launch := 0, ctx := 0, set := 3, home := 0, pool := 0x2000, slots := 64, psize := 1, win := 4, repro := false, keep := false, nodepth := false, l := 0,
    seq := 7, window := 0, stages := [(4, 0), (8, 0)], stats := [], rate := [0, 0], weights := [[0, 0]], ended := [], closed := false, recs := r,
    nDone := 0, nDropped := 0, takers := [] }

/-- A launch with stage set 3 bound; s14 holds 3 and s19 the word of RINJ for one record. -/
def staged (b : Binding) (f : Warp → Warp) : State :=
  let s := queueing .unbound (fun y => f (holding y [(19, 0x8000000000000103), (20, 0x3000), (21, 8)]))
  { s with binds := [(9, b)],
           launches := tmod s.launches 0 (fun l => { l with k := { l.k with stagesets := [[], [], [], [(4, 0), (8, 0)]] } }) }

/-- The bytes of a store have all landed. -/
def storedB (x : Stored) : Bool := match x with
  | .ok _ => true
  | _ => false

theorem stored_ok {x : Stored} (h : storedB x = true) : ∃ u, x = .ok u := by
  unfold storedB at h
  split at h
  · exact ⟨_, rfl⟩
  · cases h

theorem witness_RecordInject :
    let s := staged (setOf []) id
    let v := seen s
    Issues s v ∧ v.Dst kSxZ false (.s 5) (.sca 5) ∧ v.Val kSx (.s 19) 0x8000000000000103 ∧ v.Val kSx (.s 8) 0x1000 ∧ v.stageSet 3 = .ok [(4, 0), (8, 0)] ∧
    v.bindFor 3 [(4, 0), (8, 0)] = .ok (9, setOf []) ∧ v.y.held = none ∧ v.Free ∧ 1 ≤ (v.s.freeSlotsOf 9 (setOf []) 1).length ∧
    v.readBytes 3 0x1000 64 = .ok (2 :: List.replicate 63 0) ∧
    ∃ u, (v.put (v.y.setScalar (.sca 5) 7)).fillSlots (setOf []) (v.s.freeSlotsOf 9 (setOf []) 1) (2 :: List.replicate 63 0) = .ok u := by
  refine ⟨issues_of ?_, dst_of ?_, val_of (.sca 19) ?_ ?_, val_of (.sca 8) ?_ ?_, ok_of ?_, ok_of ?_, ?_, ?_, ?_, ok_of ?_, stored_ok ?_⟩ <;>
    first | decide +kernel | (unfold View.Free; decide +kernel)

theorem witness_RecordTake :
    (let s := staged (setOf [(4, record .queued 0)]) id
     let v := seen s
     Issues s v ∧ v.Dst kSxZ false (.s 5) (.sca 5) ∧ v.Val kSx (.s 14) 3 ∧ v.Val kSxC .zero 0 ∧ v.Val kSxC .mone (2 ^ 64 - 1) ∧
     v.stageSet 3 = .ok [(4, 0), (8, 0)] ∧ v.s.findBind v.x.launch 3 = some (9, setOf [(4, record .queued 0)]) ∧
     tget v.s.binds 9 = some (setOf [(4, record .queued 0)]) ∧ (setOf [(4, record .queued 0)]).dry = false ∧ v.s.offer (setOf [(4, record .queued 0)]) (some 0) = some (4, record .queued 0) ∧
     v.s.offer (setOf [(4, record .queued 0)]) none = some (4, record .queued 0) ∧ v.y.held = none ∧
     v.s.offer (setOf [(4, record .queued 0)]) (some 1) = none ∧ v.s.waitingAt 0 < 4096 ∧ v.Val kSxC .one 1) ∧
    (let b : Binding := { setOf [] with closed := true }
     let s := staged b id
     let v := seen s
     Issues s v ∧ v.s.findBind v.x.launch 3 = some (9, b) ∧ b.dry = true ∧ mXtrap v.y.mode = false) ∧
    (let b : Binding := { setOf [] with closed := true }
     let s := staged b (fun y => { y with mode := 0x000880 })
     Issues s (seen s) ∧ mXtrap (seen s).y.mode = true) ∧
    (let s := { staged (setOf []) id with binds := [] }
     let v := seen s
     Issues s v ∧ v.stageSet 3 = .ok [(4, 0), (8, 0)] ∧ v.s.findBind v.x.launch 3 = none) := by
  refine ⟨⟨issues_of ?_, dst_of ?_, val_of (.sca 14) ?_ ?_, val_of .zero ?_ ?_, val_of .mone ?_ ?_, ok_of ?_, ?_, ?_, ?_, ?_, ?_, ?_, ?_, ?_, val_of .one ?_ ?_⟩,
    ⟨issues_of ?_, ?_⟩, ⟨issues_of ?_, ?_⟩, ⟨issues_of ?_, ok_of ?_, ?_⟩⟩ <;> decide +kernel

/-- The warp holds the record in slot 4. -/
def holdingRecord (r : Rec) : State := staged (setOf [(4, { r with by_ := some (1, 0) })]) (fun y => { y with held := some { bind := 9, slot := 4 } })

theorem inStage_of {s : State} {b : Binding} {r : Rec} (h : issuesB s = true) (hh : (seen s).y.held = some { bind := 9, slot := 4 })
    (hb : tget (seen s).s.binds 9 = some b) (hr : tget b.recs 4 = some r) (hs : r.st = .instage) (hg : r.by_ = some ((seen s).r.g, (seen s).r.w)) (hw : r.waiter = none)
    (ha : (seen s).f.arrived = none) :
    InStage s (seen s) 9 4 b r := ⟨issues_of h, hh, hb, hr, hs, hg, hw, fun k => by rw [ha]; simp⟩

/-- The record that the warp holds. -/
def held (done : Byte) (n : Nat) : Rec := { record .instage n with done := done, by_ := some (1, 0) }

theorem witness_RecordStages :
    (let s := holdingRecord (held 0 7)
     let v := seen s
     InStage s v 9 4 (setOf [(4, held 0 7)]) (held 0 7) ∧ v.Free ∧
     ((List.range 2).all (fun j => ((held 0 7).done ||| 1#8).getLsbD j)) = false ∧ v.Val kSx (.s 20) 0x3000 ∧ v.Val kSx (.s 21) 8 ∧
     (held 0 7).effects.length < 8 ∧ v.Val kSx (.s 22) 0) ∧
    (let s := holdingRecord (held 2 8)
     InStage s (seen s) 9 4 (setOf [(4, held 2 8)]) (held 2 8) ∧ ((List.range 2).all (fun j => ((held 2 8).done ||| 1#8).getLsbD j)) = true ∧
     8 ≤ (held 2 8).effects.length) ∧
    (Issues here (seen here) ∧ (seen here).y.held = none ∧ (seen here).f.arrived = none) := by
  refine ⟨⟨inStage_of ?_ ?_ ?_ ?_ ?_ ?_ ?_ ?_, ?_, ?_, val_of (.sca 20) ?_ ?_, val_of (.sca 21) ?_ ?_, ?_, val_of (.sca 22) ?_ ?_⟩,
    ⟨inStage_of ?_ ?_ ?_ ?_ ?_ ?_ ?_ ?_, ?_, ?_⟩, ⟨issues_of ?_, ?_, ?_⟩⟩ <;> first | decide +kernel | (unfold View.Free; decide +kernel)

theorem witness_RecordStatus :
    let s := staged (setOf [(4, record .queued 0)]) id
    let v := seen s
    Issues s v ∧ v.Dst kSxZ false (.s 5) (.sca 5) ∧ v.Val kSx (.s 14) 3 ∧ v.Val kSxZ1 (.s 16) 12 ∧ v.Val kSxZ1 (.s 17) 11 ∧ v.Val kSxZ1 (.s 18) 8 ∧
    v.Val kSxZ1 .zero 0 ∧ v.stageSet 3 = .ok [(4, 0), (8, 0)] ∧ v.s.findBind v.x.launch 3 = some (9, setOf [(4, record .queued 0)]) ∧
    (let s := { staged (setOf []) id with binds := [] }
     Issues s (seen s) ∧ (seen s).s.findBind (seen s).x.launch 3 = none) := by
  refine ⟨issues_of ?_, dst_of ?_, val_of (.sca 14) ?_ ?_, val_of (.sca 16) ?_ ?_, val_of (.sca 17) ?_ ?_, val_of (.sca 18) ?_ ?_, val_of .zero ?_ ?_, ok_of ?_, ?_,
    ⟨issues_of ?_, ?_⟩⟩ <;> decide +kernel

/-- An RTAKE of the warp waits. -/
def waitingTake : Taker := { g := 1, w := 0, slot := false, pc := 128, stage := none, dst := some 5 }

theorem witness_RecordAssignment :
    let b : Binding := { setOf [(4, record .queued 0)] with takers := [waitingTake] }
    let s := staged b id
    tget s.binds 9 = some b ∧ (s.ctxs[cfin b.ctx]).st = .running ∧ b.takers = waitingTake :: [] ∧ s.offer b waitingTake.stage = some (4, record .queued 0) ∧
    s.warp 1 0 = some (warpOf s) ∧ (warpOf s).held = none ∧ (warpOf s).standsAt false 128 = true := by
  decide +kernel

theorem witness_WindowClose :
    let b : Binding := { setOf [] with ended := [(0, 4)] }
    tget (staged b id).binds 9 = some b ∧ b.closable = true := by decide +kernel

/-- The effects of a record lie where they are. -/
def effectsReady (e : Effects) (l : List (Nat × Effect)) : Bool := match e with
  | .ready l' => decide (l' = l)
  | _ => false

theorem ready_of {e : Effects} {l : List (Nat × Effect)} (h : effectsReady e l = true) : e = .ready l := by
  unfold effectsReady at h
  split at h
  · rw [of_decide_eq_true h]
  · cases h

theorem witness_RecordCommit :
    let b := setOf [(4, record .committing 1)]
    let s := staged b id
    tget s.binds 9 = some b ∧ tget b.recs 4 = some (record .committing 1) ∧ (record .committing 1).st = .committing ∧ (s.ctxs[cfin b.ctx]).st.works = true ∧
    s.effectsTo (cfin b.ctx) (b.home / 4) (record .committing 1).effects = .ready [(0x43000, { addr := 0x3000, data := 0xAB, size := 1, stage := 0 })] := by
  refine ⟨?_, ?_, ?_, ?_, ready_of ?_⟩ <;> decide +kernel

/-- QWAIT s8, s14 stands at the warp's PC, and waits. -/
def waitingQwait : State :=
  let s := queueing .unbound (fun y => { y with slot0 := y.slot0.map (fun f => { f with status := .blocked true }), sched := .parked })
  { s with mem := Memory.wr s.mem 0x40080 4 (11#4 ++ 4#5 ++ 0#7 ++ 88#7 ++ 94#7 ++ 0#1 ++ 0#1).toNat }

/-- A fetch gives a word. -/
def fetchesB (f : Fetched) (w : Word) : Bool := match f with
  | .word x => decide (x = w)
  | _ => false

theorem fetches_of {f : Fetched} {w : Word} (h : fetchesB f w = true) : f = .word w := by
  unfold fetchesB at h
  split at h
  · rw [of_decide_eq_true h]
  · cases h

theorem viewOf_of {s : State} (h : (s.cur.bind s.viewOf).isSome = true) : s.cur.bind s.viewOf = some (seen s) := by
  unfold seen
  cases hv : s.cur.bind s.viewOf with
  | none => simp [hv] at h
  | some v => rfl

theorem witness_QwaitRecheck :
    let s := waitingQwait
    let v := seen s
    s.cur.bind s.viewOf = some v ∧ s.cur = some { g := 1, w := 0, slot := false } ∧ v.kernel = some loadedKernel ∧
    s.fetchAt v.core v.c loadedKernel v.y.plvl v.pc = .word (11#4 ++ 4#5 ++ 0#7 ++ 88#7 ++ 94#7 ++ 0#1 ++ 0#1) ∧
    decodeWord (11#4 ++ 4#5 ++ 0#7 ++ 88#7 ++ 94#7 ++ 0#1 ++ 0#1) = .ok (.qwait (.s 8) (.s 14) false false) ∧ v.f.status = .blocked true := by
  refine ⟨viewOf_of ?_, ?_, ?_, fetches_of ?_, ok_of ?_, ?_⟩ <;> decide +kernel

/-! ## Where queue and record instructions stop -/

/-- Nothing results. -/
theorem no_ok {ε α : Type} {x : Except ε α} (h : x.toBool = false) : ∀ l, x ≠ .ok l := by
  intro l e
  subst e
  cases h

/-- The warp holds a record. -/
def withRecord (y : Warp) : Warp := { y with held := some { bind := 9, slot := 4 } }

/-- A store of the fragment is open. -/
def storing (s : State) : State := { s with memops := [(9, openStore)] }

/-- s22 points into page 2, which is absent. -/
def astray (y : Warp) : Warp := holding y [(22, 0x8000)]

theorem witness_QueuePushStops :
    (let s := queueing nearlyFull withRecord
     Issues s (seen s) ∧ (seen s).y.held.isSome = true) ∧
    (let s := storing (queueing nearlyFull id)
     let v := seen s
     Issues s v ∧ v.y.held = none ∧ v.s.releaseWaits v.r.g v.r.w (BitVec.allOnes 32) = true ∧ ¬v.Free) ∧
    (let s := queueing nearlyFull astray
     let v := seen s
     Issues s v ∧ v.Val kS (.s 22) 0x8000 ∧ v.s.ptrTo v.core v.c (decide (v.y.plvl = 0)) 0x8000 64 false = .fail 0x08) ∧
    (let s := queueing { nearlyFull with base := 0x8000 } id
     let v := seen s
     let q := v.s.queues[(255 : Fin 256)]
     Issues s v ∧ v.Lies 0x1000 64 false 0x41000 leaf0 ∧ q.st = .active ∧ cfin q.ctx = v.c ∧ (q.tail - q.head).toNat ≠ q.size ∧
     v.s.xlate v.c (q.base.toNat + 64 * (q.tail.toNat % max q.size 1)) true false = .fail 0x08) := by
  refine ⟨⟨issues_of ?_, ?_⟩, ⟨issues_of ?_, ?_, ?_, ?_⟩, ⟨issues_of ?_, val_of (.sca 22) ?_ ?_, ?_⟩, ⟨issues_of ?_, ?_, ?_⟩⟩ <;>
    first | decide +kernel | (unfold View.Lies; decide +kernel) | (unfold View.Free; decide +kernel)

theorem witness_QueueAndSignalStops :
    (let s := queueing .unbound (fun y => astray { y with attach := [0x8000] })
     let v := seen s
     Issues s v ∧ v.Val kS (.s 22) 0x8000 ∧ v.Val kSC .one 1 ∧ v.Val kS (.s 15) 1 ∧ v.y.held = none ∧ v.Free ∧ v.s.remoteOpen v.r.g v.r.w = false ∧
     v.y.attach.length < 4 ∧ 0x8000 ∈ v.y.attach ∧ v.s.ptrTo v.core v.c (decide (v.y.plvl = 0)) 0x8000 8 true = .fail 0x08 ∧
     v.s.ptrTo v.core v.c (decide (v.y.plvl = 0)) 0x8000 8 false = .fail 0x08 ∧ v.s.ptrTo v.core v.c (decide (v.y.plvl = 0)) 0x8000 128 true = .fail 0x08) ∧
    (let s := { queueing .unbound (fun y => { y with attach := [0x2800] }) with bad := [0x41000 / 128, 0x42800 / 128] }
     let v := seen s
     Issues s v ∧ v.y.held = none ∧ v.Free ∧ v.s.ptrTo v.core v.c (decide (v.y.plvl = 0)) 0x1000 8 true = .ok 0x41000 leaf0 ∧
     v.s.engBad 0x41000 8 = true ∧ v.s.ptrTo v.core v.c (decide (v.y.plvl = 0)) 0x2800 128 true = .ok 0x42800 leaf0 ∧ v.s.engBad 0x42800 128 = true) ∧
    (let s := storing (queueing .unbound withRecord)
     let v := seen s
     Issues s v ∧ v.Val kS (.s 9) 0x1001 ∧ ¬v.Free ∧ v.y.held.isSome = true) := by
  refine ⟨⟨issues_of ?_, val_of (.sca 22) ?_ ?_, val_of .one ?_ ?_, val_of (.sca 15) ?_ ?_, ?_, ?_, ?_, ?_⟩, ⟨issues_of ?_, ?_, ?_, ?_⟩,
    ⟨issues_of ?_, val_of (.sca 9) ?_ ?_, ?_, ?_⟩⟩ <;> first | decide +kernel | (unfold View.Free; decide +kernel)

/-- s22 asks for a record of a stage set that the kernel lacks; s23 for five records. -/
def wanting (y : Warp) : Warp := holding y [(22, 0x104), (23, 0x503)]

theorem witness_RecordInjectStops :
    (let s := staged (setOf []) wanting
     let v := seen s
     Issues s v ∧ v.Val kSx (.s 10) 255 ∧ v.Val kSx (.s 22) 0x104 ∧ (∀ l, v.stageSet 4 ≠ .ok l) ∧ v.Val kSx (.s 14) 3 ∧
     v.stageSet 3 = .ok [(4, 0), (8, 0)] ∧ v.bindFor 3 [(4, 0), (8, 0)] = .ok (9, setOf [])) ∧
    (let b : Binding := { setOf [] with closed := true }
     let s := staged b id
     Issues s (seen s) ∧ (seen s).bindFor 3 [(4, 0), (8, 0)] = .ok (9, b)) ∧
    (let s := staged (setOf []) withRecord
     Issues s (seen s) ∧ (seen s).bindFor 3 [(4, 0), (8, 0)] = .ok (9, setOf []) ∧ (seen s).y.held.isSome = true) ∧
    (let s := storing (staged (setOf []) id)
     Issues s (seen s) ∧ (seen s).bindFor 3 [(4, 0), (8, 0)] = .ok (9, setOf []) ∧ (seen s).y.held = none ∧ ¬(seen s).Free) ∧
    (let b : Binding := { setOf [] with slots := 4 }
     let s := staged b wanting
     Issues s (seen s) ∧ (seen s).Val kSx (.s 23) 0x503 ∧ (seen s).bindFor 3 [(4, 0), (8, 0)] = .ok (9, b) ∧ (seen s).Free ∧ b.slots < 5) := by
  refine ⟨⟨issues_of ?_, val_of (.sca 10) ?_ ?_, val_of (.sca 22) ?_ ?_, no_ok ?_, val_of (.sca 14) ?_ ?_, ok_of ?_, ok_of ?_⟩, ⟨issues_of ?_, ok_of ?_⟩,
    ⟨issues_of ?_, ok_of ?_, ?_⟩, ⟨issues_of ?_, ok_of ?_, ?_, ?_⟩, ⟨issues_of ?_, val_of (.sca 23) ?_ ?_, ok_of ?_, ?_, ?_⟩⟩ <;> first | decide +kernel | (unfold View.Free; decide +kernel)

theorem witness_RecordInjectFull (keep : Bool) :
    let b : Binding := { setOf [(0, record .queued 0)] with slots := 1, keep := keep }
    let s := staged b id
    Issues s (seen s) ∧ (seen s).bindFor 3 [(4, 0), (8, 0)] = .ok (9, b) ∧ (seen s).Free ∧ 1 ≤ b.slots ∧ ((seen s).s.freeSlotsOf 9 b 1).length < 1 := by
  refine ⟨issues_of ?_, ok_of ?_, ?_, ?_, ?_⟩ <;> cases keep <;> first | decide +kernel | (unfold View.Free; decide +kernel)

/-- The request of another warp. -/
def olderTake : Taker := { waitingTake with w := 1 }

theorem witness_RecordTakeStops :
    (let s := staged (setOf [(4, record .queued 0)]) withRecord
     let v := seen s
     Issues s v ∧ v.Dst kSxZ false (.s 5) (.sca 5) ∧ v.y.held.isSome = true ∧ v.Val kSxC (.s 13) 2 ∧ v.Val kSx (.s 21) 8 ∧ (∀ l, v.stageSet 8 ≠ .ok l) ∧
     v.stageSet 3 = .ok [(4, 0), (8, 0)] ∧ v.s.findBind v.x.launch 3 = some (9, setOf [(4, record .queued 0)])) ∧
    (let b : Binding := { setOf [(4, record .queued 0)] with takers := [olderTake] }
     let s := staged b id
     let v := seen s
     Issues s v ∧ v.s.findBind v.x.launch 3 = some (9, b) ∧ b.dry = false ∧ v.s.offer b none = some (4, record .queued 0) ∧ olderTake.is v.r v.pc = false ∧
     v.s.servable b olderTake.stage (4, record .queued 0) = true) := by
  refine ⟨⟨issues_of ?_, dst_of ?_, ?_, val_of (.sca 13) ?_ ?_, val_of (.sca 21) ?_ ?_, no_ok ?_, ok_of ?_, ?_⟩, ⟨issues_of ?_, ?_⟩⟩ <;> decide +kernel

/-- A set at which 64 requests wait. -/
def busySet : Binding := { setOf [(4, record .queued 0)] with takers := List.replicate 64 olderTake }

/-- 64 such sets of one quadrant. -/
def busy : State := { staged busySet id with binds := (List.range 64).map (fun i => (i + 9, busySet)) }

theorem witness_RecordTakeCrowded :
    Issues busy (seen busy) ∧ (seen busy).s.findBind (seen busy).x.launch 3 = some (9, busySet) ∧ tget (seen busy).s.binds 9 = some busySet ∧
    busySet.dry = false ∧ (seen busy).s.offer busySet (some 1) = none ∧ (∀ k ∈ busySet.takers, k.is (seen busy).r (seen busy).pc = false) ∧
    4096 ≤ (seen busy).s.waitingAt busySet.home := by
  refine ⟨issues_of ?_, ?_, ?_, ?_, ?_, ?_, ?_⟩ <;> decide +kernel

theorem witness_RecordStageStops :
    (let s := storing (holdingRecord (held 0 7))
     InStage s (seen s) 9 4 (setOf [(4, held 0 7)]) (held 0 7) ∧ ¬(seen s).Free) ∧
    (let s := holdingRecord (held 0 7)
     InStage s (seen s) 9 4 (setOf [(4, held 0 7)]) (held 0 7) ∧ (seen s).Val kSx (.s 19) 0x8000000000000103 ∧ (seen s).Val kSx (.s 9) 0x1001 ∧
     (seen s).Val kSx (.s 21) 8) ∧
    (let s := staged (setOf []) id
     Issues s (seen s) ∧ (seen s).y.held = none ∧ (seen s).Val kSx (.s 20) 0x3000 ∧ (seen s).Val kSx (.s 21) 8 ∧ (∀ l, (seen s).stageSet 8 ≠ .ok l)) := by
  refine ⟨⟨inStage_of ?_ ?_ ?_ ?_ ?_ ?_ ?_ ?_, ?_⟩, ⟨inStage_of ?_ ?_ ?_ ?_ ?_ ?_ ?_ ?_, val_of (.sca 19) ?_ ?_, val_of (.sca 9) ?_ ?_, val_of (.sca 21) ?_ ?_⟩,
    ⟨issues_of ?_, ?_, val_of (.sca 20) ?_ ?_, val_of (.sca 21) ?_ ?_, no_ok ?_⟩⟩ <;>
    first | decide +kernel | (unfold View.Free; decide +kernel)

/-! ## Where NUM instructions wait and stop -/

/-- A result is this trap of the issuing fragment. -/
def trapsB {α : Type} (v : View) (x : Except Stop α) (c a : Nat) : Bool := match x with
  | .error (.trap c' .issue a' m) => decide (c' = c) && decide (a' = a) && decide (m = v.f.mask)
  | _ => false

theorem traps_of {α : Type} {v : View} {x : Except Stop α} {c a : Nat} (h : trapsB v x c a = true) : x = .error (v.trap c a) := by
  unfold trapsB at h
  split at h
  · simp only [Bool.and_eq_true, decide_eq_true_eq] at h
    simp only [View.trap, h.1.1, h.1.2, h.2]
  · cases h

/-- Both stream engines of the core are taken. -/
def enginesTaken (s : State) : State := { s with numops := [(9, computing), (10, computing)] }

/-- The fragment has this request with the Hod. -/
def hodding (s : State) (r : Option (Option (Nat × Nat))) : State := { s with hods := [(9, { g := 1, w := 0, slot := false, limbs := 129, answer := r })] }

/-- n3 is in this state. -/
def waitingNumber (f : Fill) : State := (numbered 0).modWarp 1 0 (fun y => { y with n := y.n.set 3 { NReg.zero with fill := f } })

/-- The shift by 4096 bits of n1 into n3 needs 129 limbs, more than a slot holds. -/
theorem witness_NumbersWait :
    (let s := (numbered 0).modWarp 1 0 (fun y => { y with mode := 0x003000 })
     Issues s (seen s) ∧ tyNarrow (seen s).et = true ∧ (seen s).Src kSxZ1 false (.s 10) (.sca 10)) ∧
    (let s := enginesTaken (numbered 0)
     let v := seen s
     NumReady s v (some 3) [1, 2] ∧ v.owns 3 2 ∧ v.registerPath (v.into .add 3 [1, 2] 2 true false false) = false ∧ ¬v.engineIdle false false) ∧
    (let s := numbered 0
     let v := seen s
     NumReady s v (some 3) [1, 2] ∧ (v.y.scalarVal (.sca 10)).toNat = 4096 ∧ v.len 1 + (4096 + 31) / 32 = 129 ∧ ¬v.owns 3 129 ∧ v.asked = none ∧ v.engineIdle false false) ∧
    (∀ r ∈ [none, some none, some (some (0x2000, 256))], let s := hodding (numbered 0) r
     NumReady s (seen s) (some 3) [1, 2] ∧ (seen s).asked = some (9, { g := 1, w := 0, slot := false, limbs := 129, answer := r })) := by
  refine ⟨⟨issues_of ?_, ?_, src_of ?_⟩, ⟨⟨issues_of ?_, ?_, ?_, ?_, ?_, ?_⟩, ?_, ?_, ?_⟩, ⟨⟨issues_of ?_, ?_, ?_, ?_, ?_, ?_⟩, ?_, ?_, ?_, ?_, ?_⟩, ?_⟩
  case refine_24 =>
    intro r hr
    simp only [List.mem_cons, List.not_mem_nil, or_false] at hr
    rcases hr with rfl | rfl | rfl <;> refine ⟨⟨issues_of ?_, ?_, ?_, ?_, ?_, ?_⟩, ?_⟩ <;> decide +kernel
  all_goals first | decide +kernel | (unfold View.engineIdle; decide +kernel) | (unfold View.owns; decide +kernel)

theorem witness_SelectorsThatTrap :
    (let s := numbered 128
     let v := seen s
     NumReady s v (some 3) [1, 2] ∧ v.transformSel = .error (v.trap 0x02) ∧ v.Src kSx false (.s 11) (.sca 11)) ∧
    (let s := numbered 32
     let v := seen s
     NumReady s v none [1] ∧ v.Dst kSxZ false (.s 5) (.sca 5) ∧ v.selected = .error (v.trap 0x02)) ∧
    (let s := numbered 0
     let v := seen s
     NumReady s v (some 3) [1, 3] ∧ v.Src kSx false (.s 11) (.sca 11) ∧ v.modulus (v.x3 % 32) = .error (v.trap 0x02 0x1800)) ∧
    (let s := enginesTaken (numbered 63)
     NumReady s (seen s) none [1] ∧ (seen s).selected = .ok fixedPrime ∧ ¬(seen s).engineIdle false false) ∧
    (NumReady (waitingNumber .empty) (seen (waitingNumber .empty)) none [1] ∧ (seen (waitingNumber .empty)).y.n[(3 : Fin 8)].fill = .empty ∧
     NumReady (waitingNumber (.orphaned .orphan)) (seen (waitingNumber (.orphaned .orphan))) none [1] ∧
     (seen (waitingNumber (.orphaned .orphan))).y.n[(3 : Fin 8)].fill = .orphaned .orphan) := by
  refine ⟨⟨⟨issues_of ?_, ?_, ?_, ?_, ?_, ?_⟩, traps_of ?_, src_of ?_⟩, ⟨⟨issues_of ?_, ?_, ?_, ?_, ?_, ?_⟩, dst_of ?_, traps_of ?_⟩,
    ⟨⟨issues_of ?_, ?_, ?_, ?_, ?_, ?_⟩, src_of ?_, traps_of ?_⟩, ⟨⟨issues_of ?_, ?_, ?_, ?_, ?_, ?_⟩, ?_, ?_⟩, ⟨issues_of ?_, ?_, ?_, ?_, ?_, ?_⟩, ?_,
    ⟨issues_of ?_, ?_, ?_, ?_, ?_, ?_⟩, ?_⟩ <;> first | decide +kernel | rfl | (unfold View.engineIdle; decide +kernel)

/-- Below the entry window. -/
def below : State := bindingValues.modWarp 1 0 (fun y => { y with wins := y.wins.map (fun w => { w with depth := 1 }) })

theorem witness_NumbersBindOrWait :
    (let s := enginesTaken inSlot
     let v := seen s
     NumReady s v none [1] ∧ ¬((descOf v.y.n[(1 : Fin 8)].desc).res ≤ 1) ∧ ¬v.engineIdle false false ∧ v.Dst kNgetD false (.v 5) (.vec [5]) ∧ v.Src kSxC false .zero .zero) ∧
    (NumReady below (seen below) none [] ∧ (seen below).resolve kVZ false (.v 79) = .ok (.vec [79]) ∧ (seen below).win.depth ≠ 0 ∧
     (seen below).Src kSxZ false (.s 20) (.sca 20)) ∧
    (let s := bindingValues
     let v := seen s
     NumReady s v (some 0) [] ∧ v.homeOf .zero = .ok (.zero, none) ∧ v.Src kSxZ false (.s 10) (.sca 10) ∧ ¬((v.y.scalarVal (.sca 10)).toNat ≤ v.x.slotCap) ∧
     v.asked = none ∧ 2 ^ 19 ≤ (v.y.scalarVal (.sca 22)).toNat) := by
  refine ⟨⟨⟨issues_of ?_, ?_, ?_, ?_, ?_, ?_⟩, ?_, ?_, dst_of ?_, src_of ?_⟩, ⟨⟨issues_of ?_, ?_, ?_, ?_, ?_, ?_⟩, ok_of ?_, ?_, src_of ?_⟩,
    ⟨⟨issues_of ?_, ?_, ?_, ?_, ?_, ?_⟩, ok_of ?_, src_of ?_, ?_, ?_, ?_⟩⟩ <;> first | decide +kernel | (unfold View.engineIdle; decide +kernel)

/-- The image at 0x1000 lies under a range lock. -/
def lockedImage (write : Bool) : State :=
  { numbered 0 with copies := [(9, { underWay 0 none with locks := [{ ctx := 0, die := 0, lo := 32, hi := 32, write := write }] })] }

theorem witness_ImagesWaitOrStop :
    (let s := storing (numbered 0)
     let v := seen s
     NumReady s v (some 3) [] ∧ NumReady s v none [1] ∧ v.y.held = none ∧ v.s.memOpen v.r.g v.r.w v.f.mask = true) ∧
    (let s := lockedImage true
     let v := seen s
     NumReady s v (some 3) [] ∧ v.s.lockHit v.c (0x1000 % 2 ^ 56) (16 + 4 * 2) false = some 0x1000) ∧
    (let s := lockedImage false
     let v := seen s
     NumReady s v none [1] ∧ v.s.lockHit v.c (0x1000 % 2 ^ 56) (16 + 4 * v.len 1) true = some 0x1000) ∧
    (let s := (numbered 0).modWarp 1 0 astray
     let v := seen s
     NumReady s v (some 3) [] ∧ v.Src kSx false (.s 22) (.sca 22) ∧ (v.y.scalarVal (.sca 22)).toNat % 16 = 0 ∧
     v.s.ptrTo v.core v.c (decide (v.y.plvl = 0)) (v.y.scalarVal (.sca 22)).toNat 16 false = .fail 0x08) ∧
    (let s := (numbered 0).modWarp 1 0 withRecord
     NumReady s (seen s) none [1] ∧ (seen s).y.held.isSome = true) ∧
    (let s := hodding { numbered 0 with mem := Memory.wr (numbered 0).mem 0x41000 4 129 } none
     let v := seen s
     NumReady s v (some 3) [] ∧ v.s.engRd 0x41000 16 = 129 ∧ ¬v.owns 3 129 ∧ v.asked = some (9, { g := 1, w := 0, slot := false, limbs := 129, answer := none })) ∧
    (let s := enginesTaken (numbered 0)
     let v := seen s
     NumReady s v (some 3) [] ∧ v.owns 3 2 ∧ ¬v.engineIdle false false) := by
  refine ⟨⟨⟨issues_of ?_, ?_, ?_, ?_, ?_, ?_⟩, ⟨issues_of ?_, ?_, ?_, ?_, ?_, ?_⟩, ?_, ?_⟩, ⟨⟨issues_of ?_, ?_, ?_, ?_, ?_, ?_⟩, ?_⟩,
    ⟨⟨issues_of ?_, ?_, ?_, ?_, ?_, ?_⟩, ?_⟩, ⟨⟨issues_of ?_, ?_, ?_, ?_, ?_, ?_⟩, src_of ?_, ?_, ?_⟩, ⟨⟨issues_of ?_, ?_, ?_, ?_, ?_, ?_⟩, ?_⟩,
    ⟨⟨issues_of ?_, ?_, ?_, ?_, ?_, ?_⟩, ?_, ?_, ?_⟩, ⟨⟨issues_of ?_, ?_, ?_, ?_, ?_, ?_⟩, ?_, ?_⟩⟩ <;>
    first | decide +kernel | (unfold View.engineIdle; decide +kernel) | (unfold View.owns; decide +kernel)

/-! ## Where tile instructions wait and stop -/

/-- Tile 1 is CLOSING. -/
def closingTile (tops : List TileOp) : State := (tiled false tops).modGroup 1 (fun x => { x with tiles := x.tiles.set 1 { openTile false with st := .closing } })

/-- Tile 1 has ERR. -/
def badTile (tops : List TileOp) : State := (tiled false tops).modGroup 1 (fun x => { x with tiles := x.tiles.set 1 { openTile false with err := true } })

/-- Operations that fill the tile order of tile 1. -/
def fullOrder : List TileOp := (List.range 32).map (fun i => { topOf .azero with id := 9 + i })

theorem witness_TileControlWaits :
    (let v := seen (closingTile [topOf .azero])
     Issues (closingTile [topOf .azero]) v ∧ v.Src kSx false (.s 10) (.sca 10) ∧ (∀ e ∈ v.s.groups, e.2.aopens = []) ∧ (v.tile 1).st = .closing ∧
     0 < v.grp.pend 1 ∧ v.Dst kSxZ false (.s 5) (.sca 5) ∧ v.f.arrived = none) ∧
    (let v := seen (tiled false fullOrder)
     Issues (tiled false fullOrder) v ∧ (v.tile 1).st = .opened ∧ 32 ≤ v.grp.pend 1 ∧ v.f.arrived = none) ∧
    (let v := seen (tiled false [topOf .azero])
     Issues (tiled false [topOf .azero]) v ∧ (v.tile 1).st = .opened ∧ 0 < v.grp.pend 1 ∧ v.grp.pend 1 < 32 ∧ v.f.arrived = none) ∧
    (let s := (tiled false []).modWarp 1 0 (fun y => { y with slot0 := y.slot0.map (fun f => { f with arrived := some (.tile 9) }) })
     Issues s (seen s) ∧ (seen s).f.arrived = some (.tile 9)) := by
  refine ⟨⟨issues_of ?_, src_of ?_, ?_, ?_, ?_, dst_of ?_, ?_⟩, ⟨issues_of ?_, ?_⟩, ⟨issues_of ?_, ?_⟩, issues_of ?_, ?_⟩ <;> decide +kernel

/-- Two other groups hold 16 of the core's 31 row blocks. -/
theorem witness_RowBlocksMissing :
    let s := tiled false []
    let t : State := { s with groups := s.groups ++ [(2, { groupOf s with tiles := (Vector.replicate 8 Tile.closed).set 1 (openTile false) })] }
    let v := seen t
    Issues t v ∧ v.Src kSx false (.s 10) (.sca 10) ∧ (∀ e ∈ v.s.groups, e.2.aopens = []) ∧ (v.tile 0).st = .closed ∧ 31 < v.s.blocksUsed v.core + 16 - 0 := by
  refine ⟨issues_of ?_, src_of ?_, ?_, ?_, ?_⟩ <;> decide +kernel

theorem witness_FifoKept :
    (let s := tiled false []
     let q : Fifo := { slabs := [{ blockSlab 7 with claimed := true }], broken := false, next := 8 }
     let t := s.modGroup 1 (fun x => { x with fifos := x.fifos.set 0 (some q) })
     Issues t (seen t) ∧ (seen t).grp.fifos[(0 : Fin 4)] = some q ∧ (seen t).s.inflight (seen t).r.g 0 = 0 ∧ ∃ b ∈ q.slabs, b.claimed = true) := by
  refine ⟨issues_of ?_, ?_, ?_, ?_⟩ <;> decide +kernel

/-- FIFO 3 has no slab; s15 holds a selector of row 128. -/
theorem witness_TileOperationsStop :
    (let s := (tiled false []).modWarp 1 0 (fun y => holding y [(15, 0x80)])
     let v := seen s
     Issues s v ∧ (v.tile 1).st = .opened ∧ (v.tile 1).limb = false ∧ v.oldest 0 7 ∧ (∀ id, ¬v.oldest 3 id) ∧ (∀ id, ¬v.oldest 1 id) ∧ (v.tile 0).st ≠ .opened ∧
     v.Src kSxZ false (.s 15) (.sca 15) ∧ (∀ q, ¬selects (v.y.scalarVal (.sca 15)).toNat (v.tile 1).rows q)) ∧
    (let s := badTile []
     let v := seen s
     Issues s v ∧ v.Src kSxZ false .zero .zero ∧ (v.tile 1).st = .opened ∧ (v.tile 1).err = true ∧ v.Dst kV false (.v 79) (.vec [79]) ∧
     selects (v.y.scalarVal .zero).toNat (v.tile 1).rows { word := 0, col0 := 0, row := 0 }) ∧
    (let s := tiled false fullOrder
     let v := seen s
     v.oldest 0 7 ∧ v.oldest 2 7 ∧ 32 ≤ v.grp.pend 1) := by
  have e : ∀ (v : View) (f : Fin 4), v.grp.fifos[f] = none → ∀ id, ¬v.oldest f id := by
    intro v f h id ⟨q, b, hq, _⟩
    rw [h] at hq
    cases hq
  have o : ∀ s : State, (seen s).grp.fifos[(0 : Fin 4)] = some { slabs := [blockSlab 7], broken := false, next := 8 } → (seen s).oldest 0 7 :=
    fun s h => ⟨_, blockSlab 7, h, by decide, by decide⟩
  refine ⟨⟨issues_of ?_, ?_, ?_, o _ ?_, e _ _ ?_, e _ _ ?_, ?_, src_of ?_, ?_⟩, ⟨issues_of ?_, src_of ?_, ?_, ?_, dst_of ?_, ?_⟩,
    o _ ?_, ⟨{ slabs := [blockSlab 7], broken := false, next := 8 }, blockSlab 7, ?_, ?_, ?_⟩, ?_⟩
  case refine_9 =>
    intro q hq
    have h : q.row = 128 ∧ q.row < 128 := by
      have h1 := hq.2.2.2.2.1
      have h2 := hq.2.2.2.2.2.2
      have h3 : (((seen ((tiled false []).modWarp 1 0 (fun y => holding y [(15, 0x80)]))).y.scalarVal (.sca 15)).toNat % 256 = 128) ∧
        ((seen ((tiled false []).modWarp 1 0 (fun y => holding y [(15, 0x80)]))).tile 1).rows = 128 := by decide +kernel
      exact ⟨h1.trans h3.1, h3.2 ▸ h2⟩
    omega
  all_goals first | decide +kernel | (unfold selects; decide +kernel)

theorem witness_CresStops :
    (let v := seen (tiled false [])
     NumFree (tiled false []) v 5 ∧ (v.tile 1).limb = false ∧ v.Src kSxZ1 false (.s 14) (.sca 14)) ∧
    (let v := seen (tiled true [])
     NumFree (tiled true []) v 4 ∧ (v.tile 1).limb = true ∧ ¬v.owns 4 130 ∧ v.asked = none ∧ (v.tile 1).rows ≤ (v.y.scalarVal (.sca 10)).toNat) ∧
    (let s := enginesTaken (tiled true [])
     NumFree s (seen s) 5 ∧ (seen s).owns 5 130 ∧ ¬((seen s).engineIdle false false ∧ (seen s).grp.pend 1 < 32)) := by
  refine ⟨⟨⟨issues_of ?_, ?_, ?_, ?_⟩, ?_, src_of ?_⟩, ⟨⟨issues_of ?_, ?_, ?_, ?_⟩, ?_⟩, ⟨issues_of ?_, ?_, ?_, ?_⟩, ?_⟩ <;>
    first | decide +kernel | (unfold View.owns; decide +kernel) | (unfold View.owns View.engineIdle; decide +kernel)

theorem witness_TileRetireOtherwise :
    (let o := topOf .azero
     let x := groupOf (closingTile [o])
     TileTurn (closingTile [o]) 1 x o 0 ∧ x.st ≠ .exited ∧ o.isDrain = false ∧ (x.tiles[o.tile]).st = .closing ∧ (x.without o).pend o.tile = 0) ∧
    (let o := topOf (.ard 0 79 { word := 0, col0 := 0, row := 0 })
     let x := groupOf (badTile [o])
     TileTurn (badTile [o]) 1 x o 0 ∧ (x.tiles[o.tile]).err = true ∧ tget (warpOf (badTile [o])).phys 79 ≠ none) ∧
    (let o := topOf (.mma 0 7 2 7)
     let b : Slab := { blockSlab 7 with bytes := List.replicate 32 0 }
     let s := (tiled false [o]).modGroup 1 (fun x => { x with fifos := x.fifos.set 0 (some { slabs := [b], broken := false, next := 8 }) })
     TileTurn s 1 (groupOf s) o 0 ∧ slabGood ((groupOf s).slabOf 0 7) false = none) ∧
    (let o := topOf (.cres 0 4 127 true none)
     let s := tiled true [o]
     TileTurn s 1 (groupOf s) o 0 ∧ ((groupOf s).tiles[o.tile]).err = false ∧ (warpOf s).sched ≠ .exited) ∧
    (let o := topOf (.adrain 9)
     let c : Copy := { underWay 0 none with kind := .adrain, p1 := 0x0000017F00000200, p2 := 0 }
     let s : State := { tiled false [o] with copies := [(9, c)] }
     TileTurn s 1 (groupOf s) o 0 ∧ tget s.copies 9 = some c ∧ c.live = true ∧ ((groupOf s).tiles[o.tile]).err = false) := by
  refine ⟨⟨tileTurn_of ?_ ?_ ?_ ?_ ?_ ?_ ?_, ?_⟩, ⟨tileTurn_of ?_ ?_ ?_ ?_ ?_ ?_ ?_, ?_⟩, ⟨tileTurn_of ?_ ?_ ?_ ?_ ?_ ?_ ?_, ?_⟩,
    ⟨tileTurn_of ?_ ?_ ?_ ?_ ?_ ?_ ?_, ?_⟩, tileTurn_of ?_ ?_ ?_ ?_ ?_ ?_ ?_, ?_⟩ <;> decide +kernel

/-! ## Where copies wait and stop -/

/-- The state with parameter words of a copy, seen: its words can be read, and they are these. -/
def reads4 (s : State) (p : DWord × DWord × DWord × DWord) : Prop :=
  CopyWords s (seen s) 8 4 ∧ (seen s).identTo (.s 5) (some 5) ∧ ((seen s).par 8 0, (seen s).par 8 1, (seen s).par 8 2, (seen s).par 8 3) = p

theorem reads4_of {s : State} {p : DWord × DWord × DWord × DWord} (h : issuesB s = true)
    (hf : ∀ j, j < 4 → (seen s).y.s[Fin.ofNat 32 (8 + j)].fill = .full ∧ (seen s).y.mapped (Fin.ofNat 32 (8 + j)) = none)
    (hd : dstB (seen s) kSZ false (.s 5) (.sca 5) = true)
    (hp : ((seen s).par 8 0, (seen s).par 8 1, (seen s).par 8 2, (seen s).par 8 3) = p) : reads4 s p :=
  ⟨words_of h (by decide) hf, dst_of hd, hp⟩

/-- The job of a CPY between memory addresses. -/
def moveJob (p0 p1 : DWord) (n : Nat) : Job :=
  { kind := .cpy, p0 := p0, p1 := p1, p2 := BitVec.ofNat 64 n, p3 := 0, lay := .ofBytes 16 n,
    ranges := endRange (endOf p0.toNat) 0 n false ++ endRange (endOf p1.toNat) 0 n true, toSpad := (endOf p1.toNat).spad, bar := none, extra := 0, tile := 0, route := [] }

theorem witness_CopiesStop :
    reads4 (copying 0x1000 0x2000 (2 ^ 32) 0) (0x1000, 0x2000, 2 ^ 32, 0) ∧ endOk (2 ^ 60) = false ∧ bits (2 ^ 32 : DWord) 63 32 ≠ 0 ∧
    reads4 (copying 0x1000 0x2000 32 0x8100000000000000) (0x1000, 0x2000, 32, 0x8100000000000000) ∧
    (seen (copying 0x1000 0x2000 32 0x8100000000000000)).barOut 0x8100000000000000 ∧
    (reads4 (copying 0x1000 0x8000000000000FF0 32 0) (0x1000, 0x8000000000000FF0, 32, 0) ∧
     ¬(seen (copying 0x1000 0x8000000000000FF0 32 0)).within (moveJob 0x1000 0x8000000000000FF0 32) (endOf 0x1000) 32 (endOf 0x8000000000000FF0)) ∧
    (reads4 (copying 0x1000 0x1040 32 0) (0x1000, 0x1040, 32, 0) ∧ selfOverlap (moveJob 0x1000 0x1040 32).ranges = true) ∧
    (let s := (copying 0x1000 0x2000 32 0).modWarp 1 0 withRecord
     reads4 s (0x1000, 0x2000, 32, 0) ∧ selfOverlap (moveJob 0x1000 0x2000 32).ranges = false ∧ (moveJob 0x1000 0x2000 32).toSpad = false ∧ (seen s).y.held ≠ none) ∧
    (let s := storing (copying 0x1000 0x2000 32 0)
     reads4 s (0x1000, 0x2000, 32, 0) ∧ (seen s).y.held = none ∧
     ∀ n, ¬CopyRoom (seen s) (moveJob 0x1000 0x2000 32) (endOf 0x1000) 32 (endOf 0x2000) false n) := by
  refine ⟨reads4_of ?_ ?_ ?_ ?_, ?_, ?_, reads4_of ?_ ?_ ?_ ?_, ?_, ⟨reads4_of ?_ ?_ ?_ ?_, ?_⟩, ⟨reads4_of ?_ ?_ ?_ ?_, ?_⟩, ⟨reads4_of ?_ ?_ ?_ ?_, ?_, ?_, ?_⟩,
    reads4_of ?_ ?_ ?_ ?_, ?_, fun n h => absurd h.quiet.1 ?_⟩
  all_goals first | decide +kernel | (unfold View.barOut; decide +kernel) | (unfold View.within; decide +kernel)

theorem witness_CopyRegistersMissing :
    Issues here (seen here) ∧ (seen here).badWords 29 4 ∧ (seen here).badWords 30 3 ∧
    (let s := hereWith (fun y => { y with qmap := y.qmap.set 0 (some 0x2800) })
     Issues s (seen s) ∧ (seen s).badWords 28 4) := by
  refine ⟨issues_of ?_, .inl ?_, .inl ?_, issues_of ?_, .inr ⟨0, ?_, ?_⟩⟩ <;> decide +kernel

/-- Words of CPYT: STYPE 17, a block type; 2 rows of 4 elements of 32 bits at an address that is not aligned; of CPYQ: 2 rows of 5 elements to blocks; of CPYF:
no items. -/
theorem witness_ArrayCopiesStop :
    (let p3 : DWord := 17 * 2 ^ 43
     reads4 (copying 0x1000 0x2000 0x0020040001000010 p3) (0x1000, 0x2000, 0x0020040001000010, p3) ∧ bits p3 47 43 = 17 ∧ tyBfp 17 = true) ∧
    (let p3 : DWord := 2 * 2 ^ 43
     reads4 (copying 0x1001 0x2000 0x0020040001000010 p3) (0x1001, 0x2000, 0x0020040001000010, p3) ∧ (endOf 0x1001).addr % 4 ≠ 0 ∧
     bits (0x0000040001000010 : DWord) 63 52 = 0) ∧
    (let s := (copying 0x1000 0x2000 0x0020050001000010 (10 * 2 ^ 43)).modWarp 1 0 (fun y => { y with mode := 0x005C00 })
     reads4 s (0x1000, 0x2000, 0x0020050001000010, 10 * 2 ^ 43) ∧ (seen s).et = 23 ∧ (5 : Nat) % 32 ≠ 0 ∧ tyBfp 23 = true) ∧
    (reads4 (copying 0 0 0x0600000000000000 0) (0, 0, 0x0600000000000000, 0) ∧ ¬(1 ≤ bits (0x0600000000000000 : DWord) 47 32)) ∧
    (let s := (copying 0 0 0x0600000100000000 0).modGroup 1 (fun x => { x with fifos := x.fifos.set 1 (some { Fifo.fresh with broken := true }) })
     reads4 s (0, 0, 0x0600000100000000, 0) ∧ (seen s).s.fifoOwner (seen s).core 1 = some (seen s).r.g ∧
     (seen s).x.fifos[(1 : Fin 4)] = some { Fifo.fresh with broken := true }) ∧
    (let q : Fifo := { slabs := [{ limbSlab 7 with size := 16384 }], broken := false, next := 8 }
     let s := (copying 0 0 0x0600000100000000 0).modGroup 1 (fun x => { x with fifos := x.fifos.set 1 (some q) })
     reads4 s (0, 0, 0x0600000100000000, 0) ∧ (seen s).s.fifoOwner (seen s).core 1 = some (seen s).r.g ∧ (seen s).x.fifos[(1 : Fin 4)] = some q ∧
     (seen s).barOf 0 none ∧ 16384 < (q.slabs.map (·.size)).sum + slabSize 6 1) := by
  refine ⟨⟨reads4_of ?_ ?_ ?_ ?_, ?_⟩, ⟨reads4_of ?_ ?_ ?_ ?_, ?_⟩, ⟨reads4_of ?_ ?_ ?_ ?_, ?_⟩, ⟨reads4_of ?_ ?_ ?_ ?_, ?_⟩, ⟨reads4_of ?_ ?_ ?_ ?_, ?_⟩,
    reads4_of ?_ ?_ ?_ ?_, ?_, ?_, ?_, ?_⟩ <;> first | decide +kernel | (unfold View.barOf; decide +kernel)

/-- A tile to drain, with these parameters. -/
def draining (t : Tile) (p0 p1 p2 : DWord) : State := (copying p0 p1 p2 0).modGroup 1 (fun x => { x with tiles := x.tiles.set 1 t })

/-- The words of an ADRAIN of row 127 of tile 1, of 128 rows. -/
def drainWord : DWord := 0x0000017F00000200

theorem witness_DrainsStop :
    (let s := draining (openTile false) 0x1000 drainWord 1
     CopyWords s (seen s) 8 3 ∧ ((seen s).tile 1).st = .opened ∧ ((seen s).tile 0).st ≠ .opened ∧ drainReserved 0x1000 drainWord 1 = true) ∧
    (let s := (draining (openTile false) 0x1000 drainWord 0).modWarp 1 0 (fun y => { y with mode := 0x005C00 })
     CopyWords s (seen s) 8 3 ∧ drainReserved 0x1000 drainWord 0 = false ∧ 17 ≤ (seen s).et) ∧
    (let s := draining (openTile false) 0x1000 0x0000027F00000200 0
     CopyWords s (seen s) 8 3 ∧ ¬((drainPar 0x0000027F00000200 0 128).row0 + (drainPar 0x0000027F00000200 0 128).rows ≤ 128)) ∧
    (let s := draining (openTile false) 0x1001 drainWord 0
     CopyWords s (seen s) 8 3 ∧ (drainPar drainWord 0 128).misaligned (endOf 0x1001) 32 = some 0x1001 ∧ (seen s).et = 2) ∧
    (let s := (draining { openTile false with err := true } 0x1000 drainWord 0).modWarp 1 0 withRecord
     CopyWords s (seen s) 8 3 ∧ (drainPar drainWord 0 128).misaligned (endOf 0x1000) 32 = none ∧ ((seen s).tile 1).err = true ∧ (seen s).y.held.isSome = true ∧
     (drainPar drainWord 0 128).cols ≤ 128) ∧
    (let s := (draining (openTile false) 0x1000 drainWord 0).modGroup 1 (fun x => { x with tops := fullOrder })
     CopyWords s (seen s) 8 3 ∧ 32 ≤ (seen s).grp.pend 1 ∧ (seen s).y.held = none ∧ ((seen s).tile 1).err = false) := by
  refine ⟨⟨words_of ?_ ?_ ?_, ?_⟩, ⟨words_of ?_ ?_ ?_, ?_⟩, ⟨words_of ?_ ?_ ?_, ?_⟩, ⟨words_of ?_ ?_ ?_, ?_⟩, ⟨words_of ?_ ?_ ?_, ?_⟩, words_of ?_ ?_ ?_, ?_⟩ <;>
    decide +kernel

/-- Bytes of copy 9 are at another node. -/
def sending (s : State) : State :=
  { s with remotes := [(11, { op := 0, lane := 0, g := 1, w := 0, store := false, copy := some 9, addr := 0, data := [], at_ := 0, inside := none })] }

theorem witness_CancelWaits :
    (let s := sending (withCopy (underWay 1 none))
     Issues s (seen s) ∧ (seen s).s.copySends 9 = true ∧ (seen s).f.arrived = none ∧ tget (seen s).s.copies 9 = some (underWay 1 none)) ∧
    (let s := (withCopy (underWay 1 none)).modWarp 1 0 (fun y => { y with slot0 := y.slot0.map (fun f => { f with arrived := some (.answer 9) }) })
     Issues s (seen s) ∧ (seen s).f.arrived = some (.answer 9) ∧ (((tget (seen s).s.copies 9).map (·.live)).getD false) = true) ∧
    (let s := hereWith (fun y => { y with slot0 := y.slot0.map (fun f => { f with arrived := some (.answer 9) }) })
     Issues s (seen s) ∧ (seen s).f.arrived = some (.answer 9) ∧ (((tget (seen s).s.copies 9).map (·.live)).getD false) = false) := by
  refine ⟨⟨issues_of ?_, ?_⟩, ⟨issues_of ?_, ?_⟩, issues_of ?_, ?_⟩ <;> decide +kernel

/-! ## Where barriers, meetings, exchanges and reductions wait and stop -/

theorem witness_BarrierAddresses :
    (let s := hereWith (fun y => holding y [(8, 4088), (9, 4096)])
     Issues s (seen s) ∧ (seen s).Src kSxZ false (.s 8) (.sca 8) ∧ 4088 % 16 ≠ 0 ∧ ((seen s).y.scalarVal (.sca 8)).toNat = 4088 ∧
     (seen s).Src kSxZ false (.s 9) (.sca 9) ∧ ((seen s).y.scalarVal (.sca 9)).toNat = 4096 ∧ (seen s).x.sched.spad < 4096 + 16 ∧
     (seen s).Src kS1 false .one .one ∧ (seen s).Src kSC false .one .one ∧ (seen s).Src kSZ1 false .one .one ∧ (seen s).Dst kSZ false .zero .zero) ∧
    (let s := storing (barred freshBar 0)
     BarAt s (seen s) (.s 8) (.sca 8) 4080 ∧ ((seen s).grp.bar 4080).broken = false ∧ ((seen s).grp.bar 4080).penda ≠ 0 ∧
     (seen s).s.releaseWaits (seen s).r.g (seen s).r.w (BitVec.allOnes 32) = true) ∧
    (let s := (barred freshBar 0).modWarp 1 0 (fun y => { y with slot0 := y.slot0.map (fun f => { f with arrived := some (.bwait 4080 0) }) })
     BarAt s (seen s) (.s 8) (.sca 8) 4080 ∧ (seen s).f.arrived = some (.bwait 4080 0)) := by
  refine ⟨⟨issues_of ?_, src_of ?_, ?_, ?_, src_of ?_, ?_, ?_, src_of ?_, src_of ?_, src_of ?_, dst_of ?_⟩, ⟨barAt_of ?_ ?_ ?_ ?_ ?_, ?_⟩,
    barAt_of ?_ ?_ ?_ ?_ ?_, ?_⟩ <;> decide +kernel

theorem witness_MeetingWaits :
    (let s : State := { here with exchs := [(9, landing)] }
     Issues s (seen s) ∧ (seen s).f.arrived = none ∧ (seen s).s.exchOpen (seen s).r.g (seen s).r.w = true) ∧
    (let s := storing here
     Issues s (seen s) ∧ (seen s).f.arrived = none ∧ (seen s).s.exchOpen (seen s).r.g (seen s).r.w = false ∧
     (seen s).s.releaseWaits (seen s).r.g (seen s).r.w (seen s).f.mask = true) ∧
    (let s := (standing (.gsync 1)).modGroup 1 (fun x => { x with warps := x.warps ++ x.warps.map (fun y => { y with gsyncN := 0 }) })
     Issues s (seen s) ∧ (seen s).f.arrived = some (.gsync 1) ∧ (seen s).grp.gsyncDone 1 = false) ∧
    (let s := standing (.csync 1)
     Issues s (seen s) ∧ (seen s).f.arrived = some (.csync 1) ∧ (seen s).grp.csyncDone 1 = false) := by
  refine ⟨⟨issues_of ?_, ?_⟩, ⟨issues_of ?_, ?_⟩, ⟨issues_of ?_, ?_⟩, issues_of ?_, ?_⟩ <;> decide +kernel

/-- An exchange store of the warp to these groups: a parameter pair in s8 and s9, and one of MCST in s9. -/
def sendingTo (t x : DWord) (st : GroupState) : State := (exchanging t st 0x000800).modWarp 1 0 (fun y => holding y [(9, x)])

/-- The parts of `odd`: its bits between OFF and BAR, what lies out, and the alignment of OFF. -/
def oddParts (s : State) (x : Nat) : Bool × Bool × Bool :=
  (decide (x / 2 ^ 19 % 2 ^ 29 = 0), decide ((seen s).x.sched.exch < x % 2 ^ 19 + 128 ∨ (2 ^ 63 ≤ x ∧ (seen s).x.sched.spad < x / 2 ^ 48 % 2 ^ 15 * 16 + 16)),
    decide (x % 4 = 0))

theorem witness_ExchangeStops :
    (∀ e ∈ [((1 : DWord), (0x0000000000080080 : DWord), (false, false, true)), (1, 0x0000FFFFFFFC0080, (false, true, true)),
            (1, 0x00000000000000FF, (true, true, false)), (1, 0x8100000000000080, (true, true, true)), (1, 0x00000000000000001, (true, false, false)),
            (2, 0x80, (true, false, true)), (2 ^ 24, 0x80, (true, false, true))],
      let s := sendingTo e.1 e.2.1 .resident
      issuesB s = true ∧ srcB (seen s) kS false (.s 9) (.sca 9) = true ∧ (seen s).y.s[(8 : Fin 32)].val = e.1 ∧ (seen s).y.s[(9 : Fin 32)].val = e.2.1 ∧
        oddParts s e.2.1.toNat = e.2.2) ∧
    (seen (sendingTo 2 0x80 .resident)).launch.map (·.count) = some 2 ∧
    (let s := (sendingTo 1 0x80 .resident).modWarp 1 0 withRecord
     Issues s (seen s) ∧ oddParts s 0x80 = (true, false, true) ∧ (seen s).y.held.isSome = true) ∧
    (let s := sendingTo 1 0x80 .waiting
     Issues s (seen s) ∧ Exchange (seen s) (seen s).y.s[(9 : Fin 32)].val.toNat none 128 ∧ (∃ q, (seen s).peer 1 = some (5, q) ∧ q.st = .waiting)) ∧
    (seen here).Src kS false (.s 31) (.sca 31) := by
  refine ⟨all_of ?_, ?_, ⟨issues_of ?_, ?_⟩, ⟨issues_of ?_, exchange_of ?_, ((sendingTo 1 0x80 .waiting).group 5).get ?_, ?_, ?_⟩, src_of ?_⟩ <;> decide +kernel

theorem witness_ExchangeLandings :
    (let s : State := { exchanging 1 .exited 0x000800 with exchs := [(9, { landing with tgts := [5, 1] })] }
     tget s.exchs 9 = some { landing with tgts := [5, 1] } ∧ (s.group 5).map (·.st) = some .exited ∧ (s.warp 1 0).isSome = true) ∧
    (let s : State := { exchanging 1 .killed 0x000800 with exchs := [(9, { landing with tgts := [5] })] }
     tget s.exchs 9 = some { landing with tgts := [5] } ∧ (s.group 5).map (·.st) = some .killed ∧ (s.warp 1 0).isSome = true) ∧
    (let s : State := { here with exchs := [(9, { landing with tgts := [1, 5], bar := some 4080 })] }
     tget s.exchs 9 = some { landing with tgts := [1, 5], bar := some 4080 } ∧ s.exchImage (some 1) = .ok s ∧ s.group 1 = some (groupOf s) ∧
     (groupOf s).st = .resident ∧ Memory.wf (groupOf s).bank0 = true ∧ Memory.wf (groupOf s).bank1 = true) := by
  refine ⟨?_, ?_, ?_, ?_, ?_⟩
  iterate 3 decide +kernel
  · exact exchImage_of (by decide +kernel)
  · decide +kernel

/-- s8 holds this CRED word; the warp's registers are the smoke kernel's. -/
def redWord (c : DWord) : State := hereWith (fun y => holding y [(8, c)])

/-- A reduction of tag 3 by OP 5 to which a quadrant has contributed. -/
def openedRed (count q : Nat) : Reduction :=
  { launch := 0, phase := 0, tag := 3, count := count, op := 5, signed := true, parts := [(q, 7)], mixed := false, waiters := [(1, 0, false, none)], closed := false }

/-- What CRED tests of its word: it is in order, its OP is one, its ETYPE is of 32 bits or more, its COUNT fits. -/
def credTests (s : State) : Bool × Bool × Bool × Bool :=
  let c := (seen s).y.s[(8 : Fin 32)].val.toNat
  let n := c / 2 ^ 8 % 2 ^ 8
  (decide (c < 2 ^ 48 ∧ c / 2 ^ 16 % 2 ^ 16 = 0 ∧ c / 8 % 32 = 0), decide (c % 8 < 6), decide ((seen s).et < 12),
    decide (1 ≤ n ∧ n ≤ (seen s).s.liveQuads))

theorem witness_ReductionStops :
    (∀ e ∈ [((0x1000000000100 : DWord), (false, true, true, true)), (0x108, (false, true, true, true)), (0x10100, (false, true, true, true)),
            (0x106, (true, false, true, true)), (0x107, (true, false, true, true)), (0x000, (true, true, true, false)), (0x1100, (true, true, true, false))],
      issuesB (redWord e.1) = true ∧ (seen (redWord e.1)).f.arrived = none ∧ credTests (redWord e.1) = e.2) ∧
    (let s := (redWord 0x100).modWarp 1 0 (fun y => { y with mode := 0x003000 })
     Issues s (seen s) ∧ credTests s = (true, true, false, true)) ∧
    (let s := (redWord 0x100).modWarp 1 0 withRecord
     Issues s (seen s) ∧ credTests s = (true, true, true, true) ∧ (seen s).y.held.isSome = true) ∧
    (let s := standing (.cred 9)
     Issues s (seen s) ∧ (seen s).f.arrived = some (.cred 9)) := by
  refine ⟨all_of ?_, ⟨issues_of ?_, ?_⟩, ⟨issues_of ?_, ?_⟩, issues_of ?_, ?_⟩ <;> decide +kernel

theorem witness_OpenReductions :
    (∀ r ∈ [openedRed 15 9, openedRed 16 0, openedRed 16 9],
      let s : State := { reducing 16 with reds := [(9, r)] }
      issuesB s = true ∧ (seen s).s.openRed (seen s).x.launch (seen s).x.phase 3 = some (9, r) ∧ (seen s).y.held = none ∧
        (seen s).s.releaseWaits (seen s).r.g (seen s).r.w (seen s).f.mask = false) ∧
    coreQuad (seen here).core = 0 ∧
    (let s : State := storing { reducing 16 with reds := [(9, openedRed 16 9)] }
     Issues s (seen s) ∧ (seen s).s.releaseWaits (seen s).r.g (seen s).r.w (seen s).f.mask = true) ∧
    (let s := storing (reducing 16)
     Issues s (seen s) ∧ (seen s).s.openRed (seen s).x.launch (seen s).x.phase 3 = none ∧
     (seen s).s.releaseWaits (seen s).r.g (seen s).r.w (seen s).f.mask = true) := by
  refine ⟨?_, ?_, ⟨issues_of ?_, ?_⟩, issues_of ?_, ?_⟩ <;> decide +kernel

/-- Two warps wait for one result, one of them with no destination. -/
theorem witness_ReductionOfTwo :
    let r : Reduction := { complete with waiters := [(1, 0, false, some 31), (1, 1, false, none)] }
    let s : State := { (standing (.cred 9)).modGroup 1 (fun x => { x with warps := x.warps ++ x.warps }) with reds := [(9, r)] }
    tget s.reds 9 = some r ∧ r.closed = true ∧ (r.waiters.map (fun m => (m.1, m.2.1))).Nodup ∧ (groupOf s).st = .resident ∧
      ∀ w < 2, ((s.warp 1 w).bind (·.slot false)).any (fun f => decide (f.arrived = some (.cred 9)) && f.replays.isEmpty) = true ∧
        ((s.warp 1 w).all (fun y => decide (y.kept = none))) = true := by
  decide +kernel

/-! ## Contexts, queues, launches and groups -/

/-- Context 0 in some state, with no group, launch or copy. -/
def ctxIn (st : CtxState) : State :=
  { here with ctxs := here.ctxs.set 0 { (here.ctxs[(0 : Fin 64)]) with st := st }, groups := [], launches := [] }

/-- A descriptor that COMMIT takes, with this SAVESIZE and QUANTUM. -/
def descriptor (size quantum : Nat) : State :=
  let s := ctxIn .building
  let b := (((((s.setBar 0x100000 8 0x10000).setBar 0x100010 8 0x4000).setBar 0x100018 8 0x2004).setBar 0x100028 8 size).setBar 0x100050 4 64).setBar 0x100054 4 quantum
  { b with life := { b.life with savepool := 2 ^ 20 } }

theorem witness_ContextCommands :
    here.life.stat = .ready ∧ ((ctxIn .free).ctxs[(0 : Fin 64)]).st = .free ∧ Memory.wf (ctxIn .free).bar0 = true ∧
    (let s := descriptor 65536 100
     (s.ctxs[(0 : Fin 64)]).st = .building ∧ s.descOk 0 = true ∧ s.saveUsed + s.bar (descAt 0 + 0x28) 8 ≤ s.life.savepool ∧
     notifyOk (s.bar (descAt 0 + 0x60) 8) = true) ∧
    notifyOk (((descriptor 65536 100).setBar 0x100060 8 (2 ^ 48)).bar (descAt 0 + 0x60) 8) = false ∧
    (let s := descriptor 65536 99
     (s.ctxs[(0 : Fin 64)]).st = .building ∧ s.descOk 0 = false) ∧
    (let s := descriptor (2 ^ 20 + 128) 0
     (s.ctxs[(0 : Fin 64)]).st = .building ∧ s.descOk 0 = true ∧ s.life.savepool < s.saveUsed + s.bar (descAt 0 + 0x28) 8) ∧
    ((ctxIn .ready).ctxs[(0 : Fin 64)]).st = .ready ∧ (here.ctxs[(0 : Fin 64)]).st = .running ∧
    (∃ e ∈ here.groups, cfin e.2.ctx = 0 ∧ e.2.onCore = true) ∧ ((ctxIn .suspended).ctxs[(0 : Fin 64)]).st = .suspended ∧
    ((∀ e ∈ (ctxIn .ready).launches, cfin e.2.k.ctx ≠ 0) ∧ ∀ e ∈ (ctxIn .ready).copies, cfin e.2.ctx ≠ 0) ∧
    ((ctxIn .dead).ctxs[(0 : Fin 64)]).st = .dead ∧ CtxState.ready.allows (6#3).toNat = false ∧ CtxState.free.allows (0#3).toNat = false ∧
    (((ctxIn .draining).ctxs[(0 : Fin 64)]).st = .draining ∧ (ctxIn .draining).busy 0 = false) ∧ 120 + 8 ≤ 128 ∧
    (∀ d : Fin 64, ((ctxIn .free).ctxs[d]).st = .free) := by
  refine ⟨?_, ?_, ?_, ?_, ?_, ?_, ?_, ?_, ?_, ⟨here.groups.head (by decide +kernel), by simp, ?_, ?_⟩, ?_, ⟨?_, ?_⟩, ?_, ?_, ?_, ?_, ?_, ?_⟩ <;> decide +kernel

/-- A module with a kernel container at 0x800, its size word at 0x1000, and at 0x2400 a packet for it with `n` waits for counter 0 to reach 5. The counter
holds `v`. -/
def packed (n v : Nat) : State :=
  let s : State := { here with cur := none, agenda := [], ctxs := here.ctxs.set 0 { (here.ctxs[(0 : Fin 64)]) with cblimit := 2 ^ 14 } }
  let s := s.wr 0x40000 8 v
  let s := (((((s.wr 0x40800 4 0x4E4B4450).wr 0x40804 2 1).wr 0x40808 4 384).wr 0x4080C 4 16).wr 0x4081E 1 1)
  let s := ((((s.wr 0x40840 8 100).wr 0x40848 4 4).wr 0x4084C 4 2).wr 0x40854 1 1).wr 0x40980 4 (0xF * 2 ^ 28 + 16 * 2 ^ 21)
  let s := s.wr 0x41000 8 32
  (((((s.wr 0x42400 8 0x800).wr 0x42408 8 0x1000).wr 0x42414 4 5).wr 0x42430 4 0xFFFFFFFF).wr 0x42434 2 1).wr 0x42436 1 (2 + 16 * n)

/-- A queue with one packet to take. -/
def oneWaiting (st : QState) (l : Option Kernel) : Queue :=
  { Queue.unbound with base := 0x2400, size := 16, st := st, head := 0, tail := 1, loaded := l }

/-- The packet's fields. -/
def thePacket (n : Nat) : Packet0 :=
  { kernel := 0x800, params := 0x1000, waits := List.replicate n (5, 0), done := none, phases := 1, prio := 2 }

/-- The kernel of the container. -/
def theKernel : Kernel :=
  { ctx := 0, addr := 0x800, codeOff := 384, codeSize := 16, pools := [], lits := [], patches := [],
    scheds := [{ limit := 100, entry := 4, groups := 2, gdiv := 0, warps := 1, numarea := 0, spad := 0, exch := 0, win := 16 }],
    exprs := [], perms := [], stagesets := [], params := [], sizesVa := 0x1000, phases := 1, done := none, prio := 2, size0 := 32 }

/-- The packed state with its queue 255. -/
def queued (n v : Nat) (q : Queue) : State := (packed n v).withQueue 255 q

theorem witness_KernelLoad :
    (let s := queued 1 5 (oneWaiting .active none)
     let x := s.queues[(255 : Fin 256)]
     s.life.stat = .ready ∧ x.st = .active ∧ x.loaded = none ∧ x.head ≠ x.tail ∧ s.admits (cfin x.ctx) = true ∧ s.headOf x = (some (thePacket 1), .met) ∧
     s.loadKernel (cfin x.ctx) (thePacket 1) = .ok theKernel) ∧
    (let s := (queued 0 0 (oneWaiting .active none)).wr 0x41000 8 101
     let x := s.queues[(255 : Fin 256)]
     s.headOf x = (some (thePacket 0), .met) ∧ s.loadKernel (cfin x.ctx) (thePacket 0) = .error .bad) ∧
    (let s := queued 1 4 (oneWaiting .active none)
     s.headOf s.queues[(255 : Fin 256)] = (some (thePacket 1), .unmet)) ∧
    (let s := queued 1 (2 ^ 63 + 9) (oneWaiting .active none)
     s.headOf s.queues[(255 : Fin 256)] = (some (thePacket 1), .error 6)) := by
  refine ⟨⟨?_, ?_, ?_, ?_, ?_, ?_, ok_of ?_⟩, ⟨?_, err_of ?_⟩, ?_, ?_⟩ <;> decide +kernel

theorem witness_LaunchAdmission :
    let s := queued 1 5 (oneWaiting .active (some theKernel))
    let r := s.readHeads (fun q => decide (q.st = .active) && q.loaded.isSome && s.admits (cfin q.ctx))
    let u : State := { r with queues := r.queues.map r.rejudgeHead }
    s.life.stat = .ready ∧ (u.launches.filter (fun e => e.2.live)).length < 64 ∧ u.bestHead u.admissible = some (255, theKernel) ∧
    selectIn theKernel.scheds theKernel.size0 = some (theKernel.scheds.head (by decide), 2) := by
  decide +kernel

/-- Its packet has been ready for 1 s. -/
def aged : State :=
  let s := queued 1 5 (oneWaiting .active (some theKernel))
  { s with life := { s.life with timer := 10 ^ 9 }, ctxs := s.ctxs.set 0 { (s.ctxs[(0 : Fin 64)]) with quantum := 100 } }

theorem witness_SignalAndAgeing :
    (let s := queued 1 5 (oneWaiting .blocked none)
     ∀ p : Fin 256, (s.queues[p]).st = .blocked → (∀ pg, (s.headOf s.queues[p]).2 ≠ .park pg) ∧ (s.headOf s.queues[p]).2 ≠ .tables) ∧
    (let s := queued 1 5 (oneWaiting .active (some theKernel))
     let x := s.queues[(255 : Fin 256)]
     x.loaded = some theKernel ∧ x.st = .active ∧ (s.headOf x).2 = .met ∧ min 4 (theKernel.prio + x.aged) < 4) ∧
    (let s := aged
     let x := s.queues[(255 : Fin 256)]
     x.loaded = some theKernel ∧ x.st = .active ∧ (s.headOf x).2 = .met ∧ 4 * (s.ctxs[cfin x.ctx]).quantumNs ≤ s.now - x.readySince) := by
  refine ⟨?_, by decide +kernel, by decide +kernel⟩
  intro s p hp
  have hw : ∀ p : Fin 256, (s.queues[p]).st = .blocked → (s.headOf s.queues[p]).2 = .met := by decide +kernel
  rw [hw p hp]
  exact ⟨fun pg => by simp, by simp⟩

/-- The state with this last launch, in this state, its group changed. -/
def launchIn (st : LaunchState) (phases : Nat) (f : Group → Group) : State :=
  let s := ({ here with cur := none, agenda := [] } : State).wr 0x41008 8 64
  { s with launches := tmod s.launches 0 (fun l => { l with st := st, k := { l.k with phases := phases, sizesVa := 0x1000 } }),
           groups := tmod s.groups 1 f }

/-- The launch of a state. -/
def launchOf (s : State) : Launch := (tget s.launches 0).getD { k := loadedKernel, st := .done, phase := 0, size := 0, count := 0, killed := false, prio := 0, order := 0 }

theorem witness_Phases :
    (let s := launchIn .draining 2 (fun g => { g with st := .exited })
     tget s.launches 0 = some (launchOf s) ∧ (launchOf s).st = .draining ∧ s.drained 0 (launchOf s) = true ∧ (launchOf s).killed = false ∧
     (launchOf s).phase + 1 < (launchOf s).k.phases) ∧
    (let s := launchIn .draining 1 (fun g => { g with st := .exited })
     tget s.launches 0 = some (launchOf s) ∧ (launchOf s).st = .draining ∧ s.drained 0 (launchOf s) = true ∧ (launchOf s).killed = false ∧
     (launchOf s).k.phases ≤ (launchOf s).phase + 1) ∧
    (let s := launchIn .selecting 2 (fun g => { g with st := .exited })
     let x := launchOf s
     tget s.launches 0 = some x ∧ x.st = .selecting ∧ gotB (s.fetchMem (cfin x.k.ctx) (x.k.sizesVa + 8 * (x.phase + 1)) 8) 64 = true ∧
     selectIn x.k.scheds 64 = some (x.k.scheds.head (by decide +kernel), 1)) := by
  decide +kernel

/-- A page may be used. -/
def isGood (x : Xlat) : Bool := match x with
  | .park => false
  | .uncorr => false
  | _ => true

theorem witness_Placement :
    (let s := launchIn .launched 1 (fun g => { g with st := .waiting, core := none, warps := [] })
     s.placeHead = some (1, groupOf s) ∧ s.group 1 = some (groupOf s) ∧ s.coreFor (groupOf s) = some 0 ∧
     (s.makeRoom 0 s.uid 0 ((groupOf s).sched.warps * (groupOf s).win)).isSome = true ∧ (groupOf s).st = .waiting ∧
     tget s.launches (groupOf s).launch = some (launchOf s) ∧
     isGood (s.xlate (cfin (groupOf s).ctx) (s.ctxs[cfin (groupOf s).ctx]).cb false false) = true) ∧
    (let s := launchIn .running 1 (fun g => { g with st := .saved, core := none })
     s.placeHead = some (1, groupOf s) ∧ s.group 1 = some (groupOf s) ∧ (s.coreFor (groupOf s)).isSome = true ∧
     (groupOf s).st = .saved) := by
  decide +kernel

/-- A die that has the core 0 alone, 1 s after the timer started: a full group of low priority is resident there and another waits. -/
def crowded : State :=
  let big := fun (g : Group) (n p : Nat) => ({ g with num := n, prio := p, sched := { g.sched with spad := 393216, numarea := 0, exch := 0 } } : Group)
  let s := launchIn .running 1 (fun g => big g 1 0)
  { s with life := { s.life with dies := [{ cores := [[0], [], [], []], slt := [], clt := [], capk := false }], timer := 10 ^ 9 },
           ctxs := s.ctxs.set 0 { (s.ctxs[(0 : Fin 64)]) with quantum := 100, savesize := 2 ^ 40 },
           groups := s.groups ++ [(9, { big (groupOf s) 0 1 with st := .waiting, core := none, warps := [] })], uid := 10 }

/-- The group that waits. -/
def waiter : Group := (crowded.group 9).getD (groupOf crowded)

theorem witness_PreemptionStart :
    crowded.placeHead = some (9, waiter) ∧ crowded.coreFor waiter = none ∧ crowded.victimFor waiter = some 1 ∧
    crowded.group 1 = some (groupOf crowded) ∧ (groupOf crowded).st = .resident := by decide +kernel

/-- A tile of n row blocks. -/
def tileOf (n : Nat) : Tile := { Tile.closed with st := .opened, rows := 8 * n }

/-- Two groups resident on core 0, one with 24 row blocks and one that has waited for 16 more. -/
def rowsWanted : State :=
  let s := launchIn .running 1 (fun g => { g with aopens := [{ w := 0, slot := false, since := 0, need := 16 }] })
  { s with life := { s.life with timer := 10 ^ 9 },
           groups := s.groups ++ [(9, { groupOf s with num := 1, aopens := [], tiles := (groupOf s).tiles.set 0 (tileOf 16) |>.set 1 (tileOf 8) })],
           uid := 10 }

/-- The group with the row blocks. -/
def hoarder : Group := (rowsWanted.group 9).getD (groupOf rowsWanted)

theorem witness_RowBlockPreemption :
    rowsWanted.group 1 = some (groupOf rowsWanted) ∧ (groupOf rowsWanted).core = some 0 ∧ (groupOf rowsWanted).st = .resident ∧
    (∃ r ∈ (groupOf rowsWanted).aopens, (rowsWanted.ctxs[cfin (groupOf rowsWanted).ctx]).quantumNs ≤ rowsWanted.now - r.since ∧
      31 < rowsWanted.blocksUsed 0 + r.need) ∧
    (∀ e ∈ rowsWanted.groups, e.1 ≠ 1 → e.2.core = some 0 → 0 < e.2.blocks → e.2.st ≠ .preempting) ∧
    mostBlocks (rowsWanted.groups.filter (fun e => decide (e.1 ≠ 1) && decide (e.2.core = some 0) && decide (0 < e.2.blocks) && decide (e.2.st = .resident) &&
      decide ((rowsWanted.ctxs[cfin e.2.ctx]).quantumNs ≤ rowsWanted.now - e.2.resSince))) = some (9, hoarder) ∧
    rowsWanted.group 9 = some hoarder := by
  decide +kernel

theorem witness_SaveAndRestore :
    (let s := launchIn .running 1 (fun g => { g with st := .preempting, imgAt := [(0x3FF0, 16)] })
     s.group 1 = some (groupOf s) ∧ (groupOf s).st = .preempting ∧ s.landing 1 = false ∧ (groupOf s).tileReady = false ∧
     storedB (s.putImage (cfin (groupOf s).ctx) (groupOf s).imgAt (s.imageBytes (groupOf s).imageSize)) = true) ∧
    (let s := launchIn .running 1 (fun g => { g with st := .restoring, imgAt := [(0x3FF0, 16)], image := List.replicate 16 0 })
     s.group 1 = some (groupOf s) ∧ (groupOf s).st = .restoring ∧ (s.ctxs[cfin (groupOf s).ctx]).suspending = false ∧
     isOk (s.getImage (cfin (groupOf s).ctx) (groupOf s).imgAt (groupOf s).image.length) (groupOf s).image = true ∧
     ∃ w ∈ (groupOf s).warps, w.sched ≠ .exited) ∧
    (let s := launchIn .running 1 (fun g => { g with st := .saved })
     let t : State := { s with life := { s.life with timer := 10 ^ 9 }, ctxs := s.ctxs.set 0 { (s.ctxs[(0 : Fin 64)]) with quantum := 100 } }
     t.group 1 = some (groupOf s) ∧ (groupOf s).st = .saved ∧
     4 * (t.ctxs[cfin (groupOf s).ctx]).quantumNs ≤ t.now - (groupOf s).waitSince) := by
  decide +kernel

/-- Cause RLOCKED of lane 31 at 0x100. -/
def lockCause : LaneCause := { lane := 31, code := cRLOCKED, addr := 0x100, write := false }

theorem witness_WarpEvents :
    (let s := hereWith (fun y => { y with sched := .pending })
     ((s.coreWarps 0).filter (fun e => decide (e.2.2.sched = .active))).length < 8 ∧ longestPending (s.coreWarps 0) = some (1, 0, warpOf s) ∧
     s.warp 1 0 = some (warpOf s) ∧ (warpOf s).sched = .pending) ∧
    (let s := hereWith (fun y => { y with slot0 := y.slot0.map (fun f => { f with retry := [lockCause] }), sched := .parked })
     s.group 1 = some (groupOf s) ∧ s.warp 1 0 = some (warpOf s) ∧ (warpOf s).intrap = false ∧ (∃ f ∈ (warpOf s).slots, f.retry ≠ []) ∧
     ∀ f ∈ (warpOf s).slots, ∀ k ∈ f.retry, s.causeClear (groupOf s) (warpOf s) f k = true) ∧
    (let s := { called with cur := none }
     s.group 1 = some (groupOf s) ∧ s.warp 1 0 = some (warpOf s) ∧ (groupOf s).onCore = true ∧
     (groupOf s).core = some 0 ∧ ((warpOf s).window 0).isSome = true ∧ s.nextSpill 0 1 0 0 = true) ∧
    (let s : State := here.modCore 3 (fun c => { c with halted := true })
     ∃ c, tget s.cores 3 = some c ∧ c.halted = true) := by
  refine ⟨by decide +kernel, by decide +kernel, by decide +kernel, ⟨(here.modCore 3 (fun c => { c with halted := true })).coreAt 3, by decide +kernel⟩⟩

/-! ## Where queues, launches and groups wait and stop -/

/-- A module in RECOVERY. -/
def notReady : State := { here with life := { here.life with stat := .recovery } }

/-- Context 0 with its group and launch, in this state. -/
def ctxWith (st : CtxState) : State := { here with ctxs := here.ctxs.set 0 { (here.ctxs[(0 : Fin 64)]) with st := st } }

/-- The leaf of page 0 is MIGRATING. -/
def pageMoving (s : State) : State := s.wr 0x1C000 8 (leafSetState leaf0 stMigrating)

/-- The page tables of context 0 are uncorrectable. -/
def tablesBad (s : State) : State := { s with bad := [0x10000 / 128] }

theorem witness_NotReady :
    notReady.life.stat ≠ .ready ∧ CtxState.running.allows (3#3).toNat = true ∧ ((ctxWith .ready).ctxs[(0 : Fin 64)]).st = .ready ∧ (ctxWith .ready).launches ≠ [] := by
  decide +kernel

theorem witness_KernelLoadWaits :
    (let s := pageMoving (queued 1 5 (oneWaiting .active none))
     let x := s.queues[(255 : Fin 256)]
     s.life.stat = .ready ∧ x.st = .active ∧ x.loaded = none ∧ x.head ≠ x.tail ∧ s.admits (cfin x.ctx) = true ∧ s.headOf x = (none, .park 0)) ∧
    (let s := tablesBad (queued 1 5 (oneWaiting .active none))
     let x := s.queues[(255 : Fin 256)]
     s.life.stat = .ready ∧ x.st = .active ∧ x.loaded = none ∧ x.head ≠ x.tail ∧ s.admits (cfin x.ctx) = true ∧ s.headOf x = (none, .tables)) := by
  decide +kernel

/-- 64 launches stand, or no head can be admitted. -/
theorem witness_NoAdmission :
    (let s := queued 1 5 (oneWaiting .active (some theKernel))
     let s : State := { s with launches := (List.replicate 64 (launchOf here)).zipIdx.map (fun e => (e.2, e.1)) }
     let r := s.readHeads (fun q => decide (q.st = .active) && q.loaded.isSome && s.admits (cfin q.ctx))
     64 ≤ (r.launches.filter (fun e => e.2.live)).length) ∧
    (let s := queued 1 4 (oneWaiting .active (some theKernel))
     let r := s.readHeads (fun q => decide (q.st = .active) && q.loaded.isSome && s.admits (cfin q.ctx))
     let u : State := { r with queues := r.queues.map r.rejudgeHead }
     u.bestHead u.admissible = none) := by
  decide +kernel

/-- The launch of a state is ended by a KILLG. -/
def killedLaunch (s : State) : State := { s with launches := tmod s.launches 0 (fun l => { l with killed := true }) }

/-- A store of group 1 is in flight. -/
def storeLeft : MemOp := { openStore with dst := .none }

theorem witness_PhasesStop :
    (let s := killedLaunch (launchIn .draining 2 (fun g => { g with st := .exited }))
     tget s.launches 0 = some (launchOf s) ∧ (launchOf s).st = .draining ∧ s.drained 0 (launchOf s) = true ∧ (launchOf s).killed = true) ∧
    (let s := launchIn .draining 2 id
     tget s.launches 0 = some (launchOf s) ∧ (launchOf s).st = .draining ∧ s.drained 0 (launchOf s) = false) ∧
    (let s := (launchIn .selecting 2 (fun g => { g with st := .exited })).wr 0x41008 8 (2 ^ 32)
     let x := launchOf s
     tget s.launches 0 = some x ∧ x.st = .selecting ∧ gotB (s.fetchMem (cfin x.k.ctx) (x.k.sizesVa + 8 * (x.phase + 1)) 8) (2 ^ 32) = true ∧
     selectIn x.k.scheds (2 ^ 32) = none ∧ s.writesDue 0 (cfin x.k.ctx) = false ∧ (storing s).writesDue 0 (cfin x.k.ctx) = true) := by
  decide +kernel

theorem witness_RestoreStops :
    (let s := launchIn .running 1 (fun g => { g with st := .preempting })
     (storing s).group 1 = some (groupOf s) ∧ (groupOf s).st = .preempting ∧ (storing s).landing 1 = true) ∧
    (let s := launchIn .running 1 (fun g => { g with st := .restoring, imgAt := [(0x3FF0, 16)], image := List.replicate 16 0 })
     let t : State := { s with ctxs := s.ctxs.set 0 { (s.ctxs[(0 : Fin 64)]) with suspending := true } }
     t.group 1 = some (groupOf s) ∧ (groupOf s).st = .restoring ∧ (t.ctxs[cfin (groupOf s).ctx]).suspending = true ∧
     isOk (t.getImage (cfin (groupOf s).ctx) (groupOf s).imgAt (groupOf s).image.length) (groupOf s).image = true ∧
     (∃ w ∈ (groupOf s).warps, w.sched ≠ .exited) ∧ (s.ctxs[cfin (groupOf s).ctx]).st.runs = true) ∧
    (let s := launchIn .running 1 (fun g => { g with st := .restoring, imgAt := [(0x3FF0, 16)], image := List.replicate 16 1 })
     s.group 1 = some (groupOf s) ∧ isOk (s.getImage (cfin (groupOf s).ctx) (groupOf s).imgAt (groupOf s).image.length) (List.replicate 16 0) = true ∧
     List.replicate 16 0 ≠ (groupOf s).image ∧ (s.ctxs[cfin (groupOf s).ctx]).st.runs = true) := by
  decide +kernel

/-- The window of the warp's fragment has been moved out. -/
theorem witness_WindowBack :
    let s := here.modWarp 1 0 (fun y => y.markWin 0 true)
    s.group 1 = some (groupOf s) ∧ s.warp 1 0 = some (warpOf s) ∧ (groupOf s).onCore = true ∧ (groupOf s).core = some 0 ∧
      ((warpOf s).window 0).all (fun q => q.spilled && decide (s.regsUsed 0 + q.opened ≤ 1536)) = true ∧ s.nextSpill 0 1 0 0 = false ∧
      ∃ f ∈ (warpOf s).slots, f.win = 0 := by
  decide +kernel

/-! ## Migrations and page commands -/

/-- The leaf of page 1: an ABSENT page that calls for the fast tier of die 0, with W and U. -/
def absentLeaf : Nat := 2 ^ 57 + 0x31

/-- The leaf of a page in the fast tier at local page 300. -/
def fastLeaf : Nat := 2 ^ 52 * stFast + 300 * 64 + 0x31

/-- A migration of page 1 of context 0. -/
def migration (step : MigStep) (host : Option Nat) (old lock frame dest : Nat) : Migration :=
  { ctx := 0, page := 1, die := 0, host := host, step := step, oldLeaf := old, lockLeaf := lock, frame := frame, dest := dest, soft := false }

/-- The state with this leaf for page 1, this migration under number 9, and frame 200 of the fast tier and frame 2^26 of the capacity tier of die 0 free. -/
def migrating (leaf : Nat) (m : Migration) : State :=
  let s := ({ here with cur := none, agenda := [] } : State).wr 0x1C008 8 leaf
  { s with migs := [(9, m)], mcmd := m.host.map (fun _ => 9), uid := 10,
           pools := (s.pools.set 0 { frames := [200], drops := 0 }).set 1 { frames := [2 ^ 26], drops := 0 } }

theorem witness_MigrationLock :
    (let m := migration .waiting none 0 0 0 0
     let s := migrating absentLeaf m
     tget s.migs 9 = some m ∧ m.step = .waiting ∧ m.soft = false ∧ s.rival 9 m = false ∧ s.unitFull m.die = false ∧
     s.migLeaf m = .leaf 0x1C008 absentLeaf ∧ (leafOf absentLeaf).state ≠ stMigrating ∧ s.wants (cfin m.ctx) m.page (leafOf absentLeaf) = some (0, 1) ∧
     (s.popFrame 0 1).2 = some 200 ∧ (leafOf absentLeaf).run = 0) ∧
    (let m := migration .waiting (some 2) 0 0 0 0
     let s := migrating fastLeaf m
     s.migLeaf m = .leaf 0x1C008 fastLeaf ∧ (leafOf fastLeaf).state ≠ stMigrating ∧ (leafOf fastLeaf).ok = true ∧ (leafOf fastLeaf).state ≠ stPinned ∧
     s.leafFits (leafOf fastLeaf) = true ∧ s.pinned (cfin m.ctx) m.page = false ∧ s.rival 9 m = false ∧ s.unitFull m.die = false ∧
     (s.popFrame (if (leafOf fastLeaf).state = stAbsent ∨ (leafOf fastLeaf).state = stHost then (leafOf fastLeaf).die
       else homeDie (frameLocal (leafOf fastLeaf).frame)) 2).2 = some (2 ^ 26)) ∧
    (let m := migration .waiting (some 0) 0 0 0 0
     let s := migrating fastLeaf m
     s.migLeaf m = .leaf 0x1C008 fastLeaf ∧ (leafOf fastLeaf).ok = true ∧ s.mcmd = some 9) := by
  decide +kernel

/-- The leaf as locked. -/
def lockedLeaf : Nat := leafSetState fastLeaf stMigrating

theorem witness_MigrationMoveAndPublish :
    (let m := migration .locked none fastLeaf lockedLeaf (2 ^ 26) stCap
     let s := migrating lockedLeaf m
     tget s.migs 9 = some m ∧ m.step = .locked ∧ s.sourceBad (frameLocal (leafOf m.oldLeaf).frame) = false ∧ Memory.wf s.mem = true) ∧
    (let m := migration .locked (some 2) fastLeaf lockedLeaf (2 ^ 26) stCap
     let s : State := { migrating lockedLeaf m with bad := [300 * 128 + 127] }
     tget s.migs 9 = some m ∧ m.step = .locked ∧ (leafOf m.oldLeaf).state ≠ stAbsent ∧
     s.sourceBad (frameLocal (leafOf m.oldLeaf).frame) = true ∧ s.mcmd = some 9) ∧
    (let m := migration .moved (some 2) fastLeaf lockedLeaf (2 ^ 26) stCap
     let s := migrating lockedLeaf m
     tget s.migs 9 = some m ∧ m.step = .moved ∧ s.migLeaf m = .leaf 0x1C008 m.lockLeaf ∧ s.mcmd = some 9) ∧
    (let m := migration .moved none fastLeaf lockedLeaf (2 ^ 26) stCap
     let s := migrating fastLeaf m
     tget s.migs 9 = some m ∧ m.step = .moved ∧ s.migLeaf m = .leaf 0x1C008 fastLeaf ∧ fastLeaf ≠ m.lockLeaf ∧ m.host = none) ∧
    (let m := { migration .waiting none 0 0 0 0 with soft := true }
     let s := migrating fastLeaf m
     tget s.migs 9 = some m ∧ m.soft = true ∧ s.migLeaf m = .leaf 0x1C008 fastLeaf ∧ (leafOf fastLeaf).state ≠ stMigrating) := by
  decide +kernel

/-- The host names page 1 of context 0 with a target. -/
def pageCommand (leaf target : Nat) : State :=
  let s := ({ here with cur := none, agenda := [] } : State).wr 0x1C008 8 leaf
  ((s.setBar 0x301008 8 0x4000).setBar 0x301010 8 target)

theorem witness_PageCommands :
    (let s := pageCommand fastLeaf 2
     s.life.stat = .ready ∧ s.mcmd = none ∧ (s.ctxs[s.mctx]).st.runs = true ∧ s.mva < 2 ^ 56 ∧ s.mtarget = 2) ∧
    (let s := pageCommand fastLeaf (2 ^ 48 - 2 ^ 14)
     hostBase ≤ s.mtarget ∧ s.mtarget < 2 ^ 48 ∧ s.mtarget % 2 ^ 14 = 0) ∧
    (let s := pageCommand fastLeaf (2 ^ 48)
     ¬(s.mtarget = 1 ∨ s.mtarget = 2 ∨ (hostBase ≤ s.mtarget ∧ s.mtarget < 2 ^ 48 ∧ s.mtarget % 2 ^ 14 = 0))) ∧
    (let s := (pageCommand fastLeaf 2).setBar 0x301000 4 63
     s.mcmd = none ∧ ¬((s.ctxs[s.mctx]).st.runs = true ∧ s.mva < 2 ^ 56)) ∧
    (let e := leafSetState fastLeaf stPinned
     let s := pageCommand e 0
     s.walk (s.ctxs[s.mctx]).ptroot s.mva = .leaf 0x1C008 e ∧ (leafOf e).ok = true ∧ (leafOf e).state = stPinned ∧
     s.stateOf (leafOf e).frame = some stFast) := by
  decide +kernel

/-! ## The Damper and health -/

/-- A channel whose alert list has n rows. -/
def alerted (n : Nat) : State :=
  { here with channels := [(63, { Channel.idle with list := (List.range n).map (fun i => (i, false, false)) })] }

theorem witness_Damper :
    (let s := alerted 15
     s.life.stat = .ready ∧ s.channelDead 63 = false ∧ (s.channel 63).list.length < 16 ∧ (∀ e ∈ (s.channel 63).list, e.1 ≠ 15) ∧
     (s.channel 63).list = [] ++ (0, false, false) :: (s.channel 63).list.tail ∧ ∀ e ∈ [] ++ (s.channel 63).list.tail, e.1 ≠ 0) ∧
    (let s := alerted 16
     s.channelDead 63 = false ∧ 16 ≤ (s.channel 63).list.length ∧ (∀ e ∈ (s.channel 63).list, e.1 ≠ 16) ∧ (s.channel 63).episodeDue s.now = true ∧
     (∀ r ∈ (s.channel 63).list, r.2.2 = false) ∧ (s.channel 63).asserted = []) := by
  decide +kernel

/-- Channel 0 of stack 0. -/
def unit0 : HealthUnit := .channel 0 0

theorem witness_Health :
    here.life.stat = .ready ∧ here.unitAt 0x40000 = some unit0 ∧ here.poisoned 0x40000 1 = false ∧
    tgetD here.life.health (unitKey unit0) 0 + 1 ≠ threshold unit0 ∧
    (let s : State := { here with life := { here.life with health := [(unitKey unit0, 256)] } }
     s.life.stat = .ready ∧ threshold unit0 ≤ tgetD s.life.health (unitKey unit0) 0) ∧
    (let s : State := { here with bad := [0x40000 / 128] }
     s.unitAt 0x40000 = some unit0 ∧ s.poisoned 0x40000 1 = true ∧ tget s.life.uncorr (unitKey unit0) = none) := by
  decide +kernel

/-! ## Links -/

/-- A packet for a node and die, from node 0 and die 0. -/
def packet (cls : LinkClass) (dst : Word) (type : Byte) (hops n : Nat) : Packet :=
  { cls := cls, dst := dst, src := 0, pseq := 0, type := type, hops := hops, tag := 7, data := List.replicate n 0xA5 }

/-- The loaded module with a link in some state. -/
def linked (k : Fin 18) (f : Link → Link) : State :=
  let s : State := { here with cur := none, agenda := [] }
  s.modLink k (fun l => f { l with st := .up, width := 16 })

/-- The flit that carries a short packet. -/
def oneFlit (fseq ack : Nat) : Flit := mkFlit 1 true true fseq ack ((packet .ember 0x00400000 0 0 8).bytes)

theorem witness_FlitSlot :
    (let s := linked 0 (fun l => { l with out := { l.out with queue := [packet .ember 0x00400000 0 0 8] } })
     let d := s.dir 0
     (s.links[dirLink 0]).carries = true ∧ s.stalled 0 = false ∧ d.pick (bufferSize 0) = some .ember ∧
     ((d.begin_ .ember).inProgress .ember).length = 1) ∧
    (let s := linked 0 (fun l => { l with inn := { l.inn with log := (packet .log 0 0 0 100).flits, logWait := 6 } })
     let d := s.dir 1
     (s.links[dirLink 1]).carries = true ∧ s.stalled 1 = false ∧ d.pick (bufferSize 1) = some .log ∧ ((d.begin_ .log).inProgress .log).length = 3) := by
  decide +kernel

theorem witness_FlitReceive :
    (let s := linked 0 (fun l => { l with out := { l.out with wire := [oneFlit 16383 16383], expect := 16383 } })
     let f := oneFlit 16383 16383
     (s.links[dirLink 0]).carries = true ∧ s.stalled 0 = false ∧ (s.dir 0).wire = [f] ∧ f.good = true ∧ f.cls ≠ 3 ∧ f.fseq = (s.dir 0).expect) ∧
    (let f := oneFlit 5 0
     let s := linked 0 (fun l => { l with out := { l.out with wire := [f] } })
     f.good = true ∧ f.cls ≠ 3 ∧ f.fseq ≠ (s.dir 0).expect) ∧
    (let f := mkFlit 3 false false 0 5 (List.replicate 56 0)
     let s := linked 0 (fun l => { l with out := { l.out with wire := [f] } })
     (s.dir 0).wire = [f] ∧ f.good = true ∧ f.cls = 3 ∧ (s.dir 0).wantReplay = false) ∧
    ((oneFlit 0 0).hit 1).good = false := by
  decide +kernel

theorem witness_ReplayRequest :
    let s := linked 0 (fun l => { l with out := { l.out with wantReplay := true, retry := [oneFlit 0 0], fseq := 1 } })
    (s.links[dirLink 0]).carries = true ∧ (s.dir 0).wantReplay = true ∧ (∀ f ∈ (s.dir 0).wire, f.fseq = (s.dir 0).expect → f.cls = 3) ∧
    (s.dir 0).replayFrom (s.dir 0).expect ≠ [] := by
  decide +kernel

/-- Direction d has received a packet. -/
def received (d : Nat) (p : Packet) : State := (linked (dirLink d) id).modDir d (fun x => { x with arrived := [p] })

/-- The state behind the delivery of that packet. -/
def taken (d : Nat) (p : Packet) : State :=
  (received d p).modDir d (fun x => { x with arrived := [], buffered := tput x.buffered p.cls.code (tgetD x.buffered p.cls.code 0 - p.count) })

/-- The key of the gate station of die 1, quadrant 0, towards the slices. -/
def gate1 : Nat := stationKey 1 0 1 4

theorem witness_PacketArrives :
    (let p : Packet := { packet .ember 0x00400000 1 0 8 with data := List.replicate 8 0 }
     let s := received 0 p
     (s.dir 0).arrived = [p] ∧ dirTo 0 = some 1 ∧ p.to = (s.node, 1) ∧
     ¬32768 ≤ (p.pseq - BitVec.ofNat 16 (tgetD s.pexpect (tripleKey 1 (bits p.src 31 24) (bits p.src 23 22) p.cls.code) 0)).toNat ∧
     (taken 0 p).endStation p = some { die := 1, quad := 0, s := false, num := 0 } ∧ (taken 0 p).stationRoom gate1 p = true ∧
     ((taken 0 p).toStation gate1 (packet .ember 0 0 0 16000)).stationRoom gate1 p = false) ∧
    (let p : Packet := { packet .log 0x00400000 2 0 8 with data := reqData 0x100 1 opCpyx 0 0 [7] }
     (taken 0 p).endStation p = none ∧ ((taken 0 p).arrive p).isSome = true) := by
  decide +kernel

theorem witness_PacketDeliver :
    (let p := { packet .ember 0x00400000 0 0 8 with pseq := 65535 }
     let s := received 0 p
     p.to = (s.node, 1) ∧ 32768 ≤ (p.pseq - BitVec.ofNat 16 (tgetD s.pexpect (tripleKey 1 (bits p.src 31 24) (bits p.src 23 22) p.cls.code) 0)).toNat) ∧
    (let p := packet .ember 0x00C00000 0 0 8
     let s := received 0 p
     p.to.1 = s.node ∧ p.to.2 ≠ 1 ∧ (taken 0 p).hopOf 1 p = .go 8 ∧ (taken 0 p).dirRoom 8 p = true ∧
     ((taken 0 p).modLink 4 (fun l => { l with st := .quiescing })).hopOf 1 p = .go 8 ∧
     ((taken 0 p).modLink 4 (fun l => { l with st := .quiescing })).dirRoom 8 p = false ∧
     (let u := (((taken 0 p).modLink 4 (fun l => { l with st := .failed })).modLink 0 (fun l => { l with st := .failed })).modLink 3
        (fun l => { l with st := .failed })
      u.hopOf 1 p = .none ∧ (u.lostRoute.turnBack 1 p false false).isSome = true)) ∧
    (let p := packet .ember 0x05000000 0 7 8
     let s := (received 13 p).setBar 0x36010A 2 0x101
     p.to.1 ≠ s.node ∧ dirTo 13 = some 0 ∧ p.hops ≠ 8 ∧ ((taken 13 p).setBar 0x36010A 2 0x101).hopOf 0 { p with hops := p.hops + 1 } = .go 14) ∧
    (let p := packet .ember 0x05000000 0 8 8
     p.to.1 ≠ 0 ∧ p.hops = 8 ∧ ((taken 13 p).turnBack 0 p true false).isSome = true) ∧
    dirTo 12 = none := by
  decide +kernel

theorem witness_LinkStates :
    ((linked 17 (fun l => { l with replayAt := List.replicate 16 0 })).links[(17 : Fin 18)]).storm (linked 17 id).now = true ∧
    ((linked 17 id).links[(17 : Fin 18)]).st = .up ∧
    ((linked 17 (fun l => { l with st := .quiescing })).links[(17 : Fin 18)]).st = .quiescing ∧
    (let s := linked 17 (fun l => { l with st := .training, outlanes := 0x1 })
     (s.links[(17 : Fin 18)]).st = .training ∧ s.goodWidth 17 = 12) ∧
    (let s := linked 17 (fun l => { l with st := .training, outlanes := 0x1110, last4 := some 0 })
     s.goodWidth 17 = 4 ∧ (s.links[(17 : Fin 18)]).last4 = some 0 ∧ s.now - 0 < 100000) ∧
    (let s := linked 17 (fun l => { l with st := .training, outlanes := 0x1111, failedBefore := true })
     s.goodWidth 17 = 0 ∧ (let t : State := { s with life := { s.life with stat := .bringup } }
       t.life.stat = .bringup ∧ (t.links[(17 : Fin 18)]).failedBefore = true)) ∧
    (let s := linked 17 (fun l => { l with st := .quiescing })
     let l := s.links[(17 : Fin 18)]
     l.quiesce = false ∧ l.out.empty = true ∧ l.inn.empty = true) := by
  decide +kernel

/-! ## Other nodes -/

/-- A request to another node, of a load or a store of the warp. -/
def remote (store : Bool) (copy : Option Nat) (at_ : Nat) : Remote :=
  { op := 9, lane := 0, g := 1, w := 0, store := store, copy := copy, addr := 2 ^ 48, data := [], at_ := at_, inside := none }

/-- A load of the warp whose lane 0 waits for the answer of that request. -/
def remoteLoad : MemOp := { openStore with kind := .load, dst := .s 5, lanes := [{ lane := 0, addr := 0, bit := 0, data := 0, new := 0, st := .remote 11 }] }

/-- A request to another node is open, 200 µs after its acceptance. -/
def remoteOpen (r : Remote) : State :=
  let s := hereWith (fun y => { y with remN := 1 })
  { s with remotes := [(11, r)], memops := if r.store || r.copy.isSome then [] else [(9, remoteLoad)], life := { s.life with timer := 200000 }, uid := 12 }

theorem witness_Remotes :
    (tget (remoteOpen (remote true none 0)).remotes 11 = some (remote true none 0) ∧
      200000 ≤ (remoteOpen (remote true none 0)).now - (remote true none 0).at_ ∧ tget (remoteOpen (remote true none 0)).memops 9 = none ∧
      (warpOf (remoteOpen (remote true none 0))).due = []) ∧
    (let s : State := { remoteOpen (remote false (some 9) 0) with copies := [(9, underWay 1 none)] }
     tget s.remotes 11 = some (remote false (some 9) 0) ∧ tget s.copies 9 = some (underWay 1 none) ∧ (underWay 1 none).st = .running ∧
     (underWay 1 none).stop = none ∧ (∀ e ∈ tdel s.remotes 11, e.2.copy ≠ some 9) ∧
     let t : State := { s with remotes := s.remotes ++ [(12, remote false (some 9) 0)] }
     ∃ e ∈ tdel t.remotes 11, e.2.copy = some 9) ∧
    (let s := remoteOpen (remote false none 0)
     let r := remote false none 0
     let m := remoteLoad
     tget s.remotes 11 = some r ∧ r.copy = none ∧ r.store = false ∧ tget s.memops r.op = some m ∧ m.g = r.g ∧ m.w = r.w ∧ m.kind.writes = false ∧
     m.failed = false ∧ m.landed = false ∧ (∃ l ∈ m.lanes, l.lane = r.lane) ∧ (∀ l ∈ m.lanes, l.lane = r.lane) ∧ s.warp r.g r.w = some (warpOf s) ∧
     (warpOf s).sched ≠ .exited ∧ (warpOf s).due = []) := by
  decide +kernel

/-- An inbound window over page 16 of device memory for node 3. -/
def windowed : State :=
  let s : State := ({ here with cur := none, agenda := [] } : State).setBar 0x360106 2 0x101
  (((s.setBar 0x350000 8 0x40000).setBar 0x350008 8 0x4000).setBar 0x350010 4 (3 * 256 + 128 + 64))

/-- A request of a node. -/
def request (node : BitVec 8) (k : InboundKind) (addr size : Nat) (data : List Byte) : InboundReq :=
  { node := node, kind := k, addr := addr, size := size, data := data, ctx := 0 }

/-- The answers of a request, good and bad, have a first hop with room. -/
def answers (s : State) (r : InboundReq) : Prop := (s.answer_ r (answerType (reqType r)) [0]).isSome = true ∧ (s.answerError r cRFAULT).isSome = true

theorem witness_Inbound :
    (let s := windowed
     let r := request 3 .read 0x43FFF 1 []
     s.life.stat = .ready ∧ s.admitted r = some 0 ∧ (s.ctxs[cfin 0]).st.runs = true ∧ s.reachable r.addr 1 = true ∧ s.poisoned r.addr (reqSize r) = false ∧
     answers s r) ∧
    (let r := request 3 .write 0x43FFF 0 [1]
     windowed.admitted r = some 0 ∧ windowed.reachable r.addr 1 = true ∧ answers windowed r) ∧
    (let r := request 3 (.atomic 7 0x000800) 0x40000 8 (List.replicate 16 1)
     windowed.admitted r = some 0 ∧ windowed.reachable r.addr (reqSize r) = true ∧ windowed.poisoned r.addr (reqSize r) = false) ∧
    windowed.admitted (request 3 .write 0x43FFF 0 [1, 2]) = none ∧ windowed.admitted (request 4 .read 0x40000 1 []) = none ∧
    (let r := request 3 .cpyx 0x100 0 [1, 2]
     windowed.admitted r = some 0 ∧ isPieces (windowed.pieces 0 false true r.addr (r.data.length + 1) 0 r.data.length) [(0x40100, 2)] = true) ∧
    (let r := request 3 .flag 2 0 []
     windowed.admitted r = some 0 ∧ windowed.engBad 0x40010 8 = false ∧ isPieces (windowed.pieces 0 false true ((windowed.ctxs[(0 : Fin 64)]).cb + 8 * r.addr) 9 0 8) [(0x40010, 8)] = true) ∧
    (let x : Inbound := { req := request 3 .read 0x40000 1 [], ctx := 0, at_ := 0 }
     let s : State := { windowed with inbound := [(4, x)], life := { windowed.life with timer := 80000 } }
     tget s.inbound 4 = some x ∧ 80000 ≤ s.now - x.at_ ∧ (s.answerError x.req cRTIMEOUT).isSome = true) := by
  unfold answers
  decide +kernel

/-! ## Where migrations, health, links and inbound accesses wait and stop -/

theorem witness_MigrationWaits :
    (let m := migration .waiting none 0 0 0 0
     let s : State := { migrating absentLeaf m with
       migs := (9, m) :: (List.range 64).map (fun i => (10 + i, { migration .locked none 0 0 0 0 with page := 2 + i })) }
     tget s.migs 9 = some m ∧ m.step = .waiting ∧ m.soft = false ∧ s.rival 9 m = false ∧ s.unitFull m.die = true) ∧
    (let m := migration .waiting none 0 0 0 0
     let s := migrating lockedLeaf m
     tget s.migs 9 = some m ∧ s.rival 9 m = false ∧ s.unitFull m.die = false ∧ s.migLeaf m = .leaf 0x1C008 lockedLeaf ∧ (leafOf lockedLeaf).ok = true ∧
     (leafOf lockedLeaf).state = stMigrating) ∧
    (let m := migration .waiting none 0 0 0 0
     let s := migrating fastLeaf m
     s.migLeaf m = .leaf 0x1C008 fastLeaf ∧ (leafOf fastLeaf).state ≠ stMigrating ∧ s.wants (cfin m.ctx) m.page (leafOf fastLeaf) = none) ∧
    (let m := migration .moved (some 2) fastLeaf lockedLeaf (2 ^ 26) stCap
     let s := migrating fastLeaf m
     tget s.migs 9 = some m ∧ s.migLeaf m = .leaf 0x1C008 fastLeaf ∧ fastLeaf ≠ m.lockLeaf ∧ m.host.isSome = true) ∧
    (let m := { migration .waiting none 0 0 0 0 with soft := true }
     let s := migrating lockedLeaf m
     tget s.migs 9 = some m ∧ m.soft = true ∧ s.migLeaf m = .leaf 0x1C008 lockedLeaf) := by
  decide +kernel

theorem witness_PageCommandsRefused :
    (let s := pageCommand fastLeaf 0
     s.walk (s.ctxs[s.mctx]).ptroot s.mva = .leaf 0x1C008 fastLeaf ∧ (leafOf fastLeaf).state ≠ stPinned) ∧
    (let s := pageCommand (2 ^ 51) 0
     s.walk (s.ctxs[s.mctx]).ptroot s.mva = .leaf 0x1C008 (2 ^ 51) ∧ (leafOf (2 ^ 51)).ok = false) ∧
    (let s := (pageCommand fastLeaf 0).setBar 0x301008 8 (2 ^ 55)
     s.walk (s.ctxs[s.mctx]).ptroot s.mva = .bad ∧ (s.ctxs[s.mctx]).st.runs = true ∧ s.mva < 2 ^ 56) ∧
    (let s : State := { pageCommand fastLeaf 2 with mcmd := some 9 }
     s.life.stat = .ready ∧ s.mcmd.isSome = true) := by
  decide +kernel

theorem witness_DamperWaits :
    (let s : State := { here with channels := [(63, { Channel.idle with list := [(0, true, true), (1, false, false)] })] }
     (s.channel 63).episodeDue s.now = true ∧ (((s.channel 63).list.take 4).filter (fun r => r.2.2)).length = 1 ∧
     tgetD s.life.health (0xC00 + 4 * 63) 0 + 1 < 256) ∧
    (here.channel 63).episodeDue here.now = false := by
  decide +kernel

theorem witness_HealthEnds :
    (let s : State := { here with life := { here.life with health := [(unitKey unit0, 255)] } }
     s.life.stat = .ready ∧ s.unitAt 0x40000 = some unit0 ∧ s.poisoned 0x40000 1 = false ∧ tgetD s.life.health (unitKey unit0) 0 + 1 = threshold unit0 ∧
     tgetD s.life.health (unitKey unit0) 0 < threshold unit0) ∧
    (let s : State := { here with bad := [0x40000 / 128], life := { here.life with uncorr := [(unitKey unit0, 0)] } }
     s.life.stat = .ready ∧ s.unitAt 0x40000 = some unit0 ∧ s.poisoned 0x40000 1 = true ∧ tget s.life.uncorr (unitKey unit0) = some 0 ∧
     s.now - 0 < 86400 * 10 ^ 9) ∧
    (let s : State := { here with bad := [0x40000 / 128], life := { here.life with uncorr := [(unitKey unit0, 0)], timer := 86400 * 10 ^ 9 } }
     s.poisoned 0x40000 1 = true ∧ tget s.life.uncorr (unitKey unit0) = some 0 ∧ 86400 * 10 ^ 9 ≤ s.now - 0) := by
  decide +kernel

theorem witness_FlitWaits :
    (let s := linked 0 (fun l => { l with st := .training })
     (s.links[dirLink 0]).carries = false) ∧
    (let s := linked 0 id
     let t : State := { s with life := { s.life with paused := s.life.paused.set 1 true } }
     t.stalled 0 = true ∧ t.stalled 1 = true) ∧
    (let s := linked 0 id
     (s.links[dirLink 0]).carries = true ∧ s.stalled 0 = false ∧ (s.dir 0).pick (bufferSize 0) = none) ∧
    (let s := linked 0 (fun l => { l with inn := { l.inn with retry := [oneFlit 4 0], expect := 5, got := true } })
     (s.dir 0).pick (bufferSize 0) = none ∧ ((s.dir 0).idleFlit (s.dir 1)).wire.length = 1) ∧
    (let f := mkFlit 3 false false 0 5 (List.replicate 56 0)
     let s := linked 0 (fun l => { l with out := { l.out with wire := [f], wantReplay := true } })
     (s.dir 0).wire = [f] ∧ f.good = true ∧ f.cls = 3 ∧ (s.dir 0).wantReplay = true) := by
  decide +kernel

/-- A direction whose link is QUIESCING has no room. -/
def noRoom (k : Fin 18) (s : State) : State := s.modLink k (fun l => { l with st := .quiescing })

/-- Links that are FAILED. -/
def without (l : List (Fin 18)) (s : State) : State := l.foldl (fun t k => t.modLink k (fun x => { x with st := .failed })) s

theorem witness_DeliveryWaits :
    (let p : Packet := { packet .log 0 2 0 8 with src := 0x03000000, data := reqData 0x100 1 opCpyx 0 0 [7] }
     let s := ((taken 1 p).setBar 0x360106 2 0x101).toStation 4 (packet .log 0x03000000 0 0 880)
     p.to = (s.node, 0) ∧ s.endStation p = none ∧ (s.arrive p).isNone = true) ∧
    (let p : Packet := { packet .ember 0x00C00000 0 0 8 with src := 0x03000000 }
     let s := noRoom 0 (without [2, 4, 5] ((taken 0 p).setBar 0x360106 2 0x101))
     s.hopOf 1 p = .none ∧ (s.lostRoute.turnBack 1 p false false).isNone = true) ∧
    (let p : Packet := { packet .ember 0x05000000 0 8 8 with src := 0x03000000 }
     let s := noRoom 7 ((taken 13 p).setBar 0x360106 2 0x101)
     p.to.1 ≠ s.node ∧ p.hops = 8 ∧ (s.turnBack 0 p true false).isNone = true) := by
  decide +kernel

theorem witness_LinksThatDoNotChange :
    ((linked 17 (fun l => { l with st := .quiescing, replayAt := List.replicate 16 0 })).links[(17 : Fin 18)]).storm (linked 17 id).now = true ∧
    ((linked 17 id).links[(17 : Fin 18)]).storm (linked 17 id).now = false ∧ ((linked 17 (fun l => { l with st := .down })).links[(17 : Fin 18)]).st = .down ∧
    (remoteOpen (remote true none 1)).now - (remote true none 1).at_ < 200000 := by
  decide +kernel

/-- No answer to node 3 has room at its first hop. -/
def crowdedOut (s : State) : State :=
  (List.range 2).foldl (fun t i => (List.range 3).foldl (fun u k =>
    (u.toStation (stationKey 0 i 0 4) (packet (classOf k) 0x03000000 0 0 880))) t) s

/-- Context 0 of the window is in this state. -/
def windowIn (st : CtxState) : State := { windowed with ctxs := windowed.ctxs.set 0 { (windowed.ctxs[(0 : Fin 64)]) with st := st } }

theorem witness_InboundStops :
    (let s := crowdedOut windowed
     let r := request 3 .read 0x40000 1 []
     s.admitted r = some 0 ∧ (s.answer_ r (answerType (reqType r)) [0]).isNone = true ∧ (s.answerError r cRFAULT).isNone = true ∧
     (s.answerError (request 3 .read 0 1 []) cRFAULT).isNone = true ∧ s.admitted (request 3 .read 0 1 []) = none) ∧
    (let r := request 3 .read 0x40000 1 []
     (windowIn .free).admitted r = some 0 ∧ ((windowIn .free).ctxs[(0 : Fin 64)]).st.reserves = false ∧
     ((windowIn .faulted).ctxs[(0 : Fin 64)]).st.reserves = true ∧ ((windowIn .faulted).ctxs[(0 : Fin 64)]).st.runs = false) ∧
    (let s := windowed.setBar 0x350000 8 (2 ^ 47 - 2 ^ 14)
     let r := request 3 .read (2 ^ 47 - 2 ^ 14) 1 []
     s.admitted r = some 0 ∧ s.reachable r.addr (reqSize r) = false) ∧
    (let s : State := { windowed with bad := [0x40000 / 128] }
     let r := request 3 (.part 3 0x000800) 0x40000 1 [1]
     s.admitted r = some 0 ∧ s.reachable r.addr (reqSize r) = true ∧ s.poisoned r.addr (reqSize r) = true ∧ s.engBad 0x40010 8 = true) ∧
    (let r := request 3 .signal 0x40000 8 (List.replicate 8 1)
     windowed.admitted r = some 0 ∧ windowed.reachable r.addr (reqSize r) = true ∧ windowed.poisoned r.addr (reqSize r) = false) ∧
    (let r := request 3 .cpyx (2 ^ 55) 0 [1]
     windowed.admitted r = some 0 ∧ (match windowed.pieces 0 false true r.addr (r.data.length + 1) 0 r.data.length with
       | .error (.fail _ _) => true
       | _ => false) = true) ∧
    (let r := request 3 .flag (2 ^ 40) 0 []
     windowed.admitted r = some 0 ∧ (match windowed.pieces 0 false true ((windowed.ctxs[(0 : Fin 64)]).cb + 8 * r.addr) 9 0 8 with
       | .error (.fail _ _) => true
       | _ => false) = true) := by
  decide +kernel

/-! ## Power, reset and control -/

/-- A module in some state of its life, with one of this state's images. -/
def living (st : DevStat) (img : FirmwareImage) : State := { State.reset with life := { State.reset.life with stat := st }, persist := { State.reset.persist with images := List.replicate 4 img } }

/-- A firmware image. -/
def image (v : Nat) (rsa : Bool) : FirmwareImage := { version := v, digest := 1, rsaOk := rsa, slhOk := true }

theorem witness_Power :
    State.reset.life.stat = .off ∧
    (let s := living .romcheck (image 0 true)
     s.life.stat = .romcheck ∧ s.persist.images.all (imagePasses s.persist.minVersion) = true) ∧
    (let s := living .romcheck (image 9 false)
     s.life.stat = .romcheck ∧ s.persist.images.all (imagePasses s.persist.minVersion) = false) ∧
    ((living .bringup (image 0 true)).life.stat = .bringup ∧ (living .bringup (image 0 true)).persist.good0 = true) ∧ here.life.stat ≠ .off ∧ Memory.wf here.mem = true ∧
    (let s : State := { here with life := { here.life with step := here.life.step.set 3 3 } }
     s.life.stat ≠ .off ∧ s.life.step[(3 : Fin 4)] = 3) ∧
    here.life.stat = .ready ∧ here.region (2 ^ 48 - 1) = .host ∧ here.region 0x40000 ≠ .host ∧ here.region 0x40000 ≠ .hole ∧ here.joined 0 (homeDie 0x40000) = true ∧
    (let a := 3 * 2 ^ 37
     let s := (((here.modLink 2 (fun l => { l with st := .failed })).modLink 4 (fun l => { l with st := .failed })).modLink 5 (fun l => { l with st := .failed }))
     homeDie a = 3 ∧ s.region a ≠ .host ∧ s.region a ≠ .hole ∧ s.life.stat = .ready ∧ s.joined 0 (homeDie a) = false) ∧
    here.region 0x8000000000 = .hole := by
  decide +kernel

theorem witness_Control :
    (let s : State := { here with life := { here.life with step := here.life.step.set 3 1, stepAt := here.life.stepAt.set 3 (some 0), timer := 100000 } }
     s.life.stat = .ready ∧ (∀ at_, s.life.stepAt[(3 : Fin 4)] = some at_ → 100000 ≤ s.now - at_) ∧
     s.life.stepcap.toNat < (s.life.step[(3 : Fin 4)]).toNat ∧ (s.life.step[(3 : Fin 4)]).toNat < 3) ∧
    here.life.attcmd = 0 ∧
    (let s : State := { here with life := { here.life with attcmd := 3 } }
     s.life.attcmd = 3) ∧
    (let s : State := { here with life := { here.life with attcmd := 1 } }
     s.life.attcmd = 1 ∧ Memory.wf s.mem = true) ∧
    (let s : State := { here with life := { here.life with attcmd := 2 } }
     s.life.attcmd = 2) := by
  refine ⟨⟨?_, ?_, ?_⟩, ?_⟩
  · decide +kernel
  · intro at_ h
    have h2 : at_ = 0 := (Option.some.inj (h.symm.trans (show _ = some 0 by decide +kernel)))
    subst h2
    decide +kernel
  · decide +kernel
  · decide +kernel

/-! ## The machine as a whole -/

/-- The fragment of the loaded module. -/
def ref0 : Ref := { g := 1, w := 0, slot := false }

/-- A module whose next step takes a turn. -/
def turning (l : List Turn) : State := { here with cur := none, agenda := l }

/-- The state after the turn has been taken off. -/
def rest (s : State) : State := s.pass.turn.2

/-- A fetch for a fragment gives a view and a word. -/
def fetchedB (x : Option (View × Fetched)) (w : Word) : Bool := match x with
  | some (_, f) => fetchesB f w
  | none => false

theorem fetched_of {x : Option (View × Fetched)} {w : Word} (h : fetchedB x w = true) : ∃ v, x = some (v, .word w) := by
  cases x with
  | none => simp [fetchedB] at h
  | some p => exact ⟨p.1, by rw [← fetches_of (f := p.2) h]⟩

/-- A step answers a next state. -/
def nextB (o : Host.Outcome State Fault Refusal) : Bool := match o with
  | .next _ => true
  | _ => false

theorem next_of {o : Host.Outcome State Fault Refusal} (h : nextB o = true) : ∃ t, o = .next t := by
  cases o with
  | next t => exact ⟨t, rfl⟩
  | _ => simp [nextB] at h

theorem witness_MemoriesWf : (turning [.issue ref0]).memoriesWf ∧ ∃ t, step (turning [.issue ref0]) = .next t := by
  refine ⟨?_, next_of ?_⟩
  · unfold State.memoriesWf
    decide +kernel
  · decide +kernel

/-- The fragment's turn is next, at a NOP. -/
def atNop : State := turning [.issue ref0]

/-- The fragment's turn is next, at a word of a reserved major. -/
def atReserved : State := atNop.wr 0x40080 4 0xE0000000

theorem fetch_atNop : ∃ v, ((rest atNop).wins ref0).fetchFor ref0 = some (v, .word 0) := fetched_of (by decide +kernel)

theorem fetch_atReserved : ∃ v, ((rest atReserved).wins ref0).fetchFor ref0 = some (v, .word 0xE0000000) := fetched_of (by decide +kernel)

theorem witness_StepIssues :
    atNop.pass.turn.1 = some (.issue ref0) ∧ (rest atNop).canIssue ref0 = true ∧ (∃ v, ((rest atNop).wins ref0).fetchFor ref0 = some (v, .word 0)) ∧
    decodeWord 0 = .ok .nop ∧ atReserved.pass.turn.1 = some (.issue ref0) ∧ (rest atReserved).canIssue ref0 = true ∧
    (∃ v, ((rest atReserved).wins ref0).fetchFor ref0 = some (v, .word 0xE0000000)) ∧ decodeWord 0xE0000000 = .error .reservedMajor :=
  ⟨by decide +kernel, by decide +kernel, fetch_atNop, ok_of (by decide +kernel), by decide +kernel, by decide +kernel, fetch_atReserved,
   err_of (by decide +kernel)⟩

theorem witness_StepFetches :
    (here.viewOf ref0).isSome = true ∧ (seen here).kernel = some loadedKernel ∧ (seen here).y.plvl = 0 ∧ loadedKernel.code ≤ (seen here).pc.toNat ∧
    (seen here).pc.toNat < loadedKernel.code + loadedKernel.codeSize ∧ ((seen here).pc.toNat - loadedKernel.code) % 4 = 0 ∧
    loadedKernel.pool (((seen here).pc.toNat - loadedKernel.code) / 4) = none ∧ loadedKernel.patched (((seen here).pc.toNat - loadedKernel.code) / 4) = none ∧
    here.xlateCore (seen here).core (seen here).c (seen here).pc.toNat false true = .ok 0x40080 leaf0 ∧ here.engBad 0x40080 4 = false := by
  decide +kernel

/-- The clock of die 3 stands at the turn of an event of its. -/
def pausedDie : State :=
  let s := turning [.event (.warpActivate 287)]
  { s with life := { s.life with paused := s.life.paused.set 3 true } }

theorem witness_StepOtherTurns :
    (turning [.event .launchAdmission]).pass.turn.1 = some (.event .launchAdmission) ∧ isWord .launchAdmission = false ∧
    (rest (turning [.event .launchAdmission])).halts ((rest (turning [.event .launchAdmission])).dieOfEvent .launchAdmission) = false ∧
    (let s := pausedDie
     s.pass.turn.1 = some (.event (.warpActivate 287)) ∧ isWord (.warpActivate 287) = false ∧ (rest s).halts ((rest s).dieOfEvent (.warpActivate 287)) = true) ∧
    (turning [.issue { ref0 with slot := true }]).pass.turn.1 = some (.issue { ref0 with slot := true }) ∧
    (rest (turning [.issue { ref0 with slot := true }])).canIssue { ref0 with slot := true } = false := by
  decide +kernel

/-! ## Operands that are not ready -/

/-- s1 is EMPTY, s2, s3 and s4 are ORPHANED, and s28 is mapped onto the word queue at 0x2800. -/
def unready (f : Warp → Warp) : State := queueing .unbound (fun y => f
  { y with s := (((y.s.set 1 { val := 9, fill := .empty }).set 2 { val := 9, fill := .orphaned .orphan }).set 3 { val := 9, fill := .orphaned .rfault }).set 4
             { val := 9, fill := .orphaned .rtimeout }, qmap := y.qmap.set 0 (some 0x2800) })

/-- What a pop of a word queue meets. -/
def popB (x : Pop) (e : Option DWord) (dry : Bool) : Bool := match x with
  | .got _ w => decide (some w = e)
  | .dry => dry
  | .empty => e.isNone && !dry
  | _ => false

theorem witness_OperandReadiness :
    let s := unready id
    let v := seen s
    Issues s v ∧ v.et < 12 ∧ v.Dst kScalarD false (.s 5) (.sca 5) ∧
    isOk (v.resolve kScalar false (.s 1)) (.sca 1) = true ∧ v.y.fills (.sca 1) = [.empty] ∧ v.y.mapped 1 = none ∧ v.f.nowait = none ∧
    v.y.fills (.sca 2) = [.orphaned .orphan] ∧ v.y.fills (.sca 3) = [.orphaned .rfault] ∧ v.y.fills (.sca 4) = [.orphaned .rtimeout] ∧
    v.y.mapped 28 = some 0x2800 ∧ popB (v.s.popQueue v.core v.c (decide (v.y.plvl = 0)) 0x2800) (some 77) false = true ∧
    v.s.popTurn v.c 0x2800 v.r.g v.r.w v.f.mask = true ∧ v.Src kScalar false (.s 5) (.sca 5) ∧ v.y.mapped 5 = none := by
  refine ⟨issues_of ?_, ?_, dst_of ?_, ?_, ?_, ?_, ?_, ?_, ?_, ?_, ?_, ?_, ?_, src_of ?_, ?_⟩ <;> decide +kernel
theorem witness_Pops :
    (let s : State := { unready id with mem := Memory.wr (unready id).mem 0x42800 24 (2 ^ 128 * 2) }
     let v := seen s
     popB (v.s.popQueue v.core v.c (decide (v.y.plvl = 0)) 0x2800) none true = true ∧ mXtrap v.y.mode = false) ∧
    (let s : State := { unready (fun y => { y with mode := 0x000880 }) with mem := Memory.wr (unready id).mem 0x42800 24 (2 ^ 128 * 2) }
     let v := seen s
     popB (v.s.popQueue v.core v.c (decide (v.y.plvl = 0)) 0x2800) none true = true ∧ mXtrap v.y.mode = true) ∧
    (let s : State := { unready id with mem := Memory.wr (unready id).mem 0x42800 24 (2 ^ 160 + 2 ^ 128 * 2) }
     let v := seen s
     popB (v.s.popQueue v.core v.c (decide (v.y.plvl = 0)) 0x2800) none false = true ∧ v.f.nowait = none) ∧
    (let s := unready (fun y => { y with slot0 := y.slot0.map (fun f => { f with nowait := some (Opnd.s 1).toCode.toNat }) })
     Issues s (seen s) ∧ (seen s).f.nowait = some (Opnd.s 1).toCode.toNat) := by
  refine ⟨?_, ?_, ?_, issues_of ?_, ?_⟩ <;>
  decide +kernel

/-! ## Frames -/

theorem witness_RegisterFrame :
    (Instr.saluAdd (.s 31) (.s 2) .one false false ∈
        (scalar2Table (.s 31) (.s 2) .one false false).map (·.1) ++ (scalar1Table (.s 31) (.s 2) false).map (·.1)) ∧
    (∃ t, exec (.saluAdd (.s 31) (.s 2) .one false false) here = .next t) ∧
    (Instr.valuAdd (.v 3) (.v 79) .lane false false ∈
        ((lane2Table (.v 3) (.v 79) .lane false false).filter (fun e => e.2.1 (seen here).et)).map (·.1)) ∧
    (∃ t, exec (.valuAdd (.v 3) (.v 79) .lane false false) here = .next t) ∧
    (Instr.bra 1 ∈ [.nop, .setmode 0x425C00] ++ (branchTable 1).map (·.1)) ∧ (∃ t, exec (.bra 1) here = .next t) := by
  refine ⟨by simp [scalar2Table, scalar1Table], next_of (by decide +kernel), ?_, next_of (by decide +kernel), by simp [branchTable], next_of (by decide +kernel)⟩
  have h : (seen here).et = 2 := by decide +kernel
  rw [h]
  simp [lane2Table, anyType]

theorem witness_MemoryFrame :
    (∃ t, exec (.ld 3 1 (.v 3) (.v 9) 0 false false) (basing 0x000800) = .next t) ∧
    (∃ t, exec (.st 3 2 (.v 3) (.v 9) 0 false false) (basing 0x000800) = .next t) :=
  ⟨next_of (by decide +kernel), next_of (by decide +kernel)⟩

/-! ## Fetches, pops and events without effect -/

/-- The fragment's turn is next, its PC behind the code. -/
def strayed : State := (turning [.issue ref0]).modWarp 1 0 (fun y => { y with slot0 := y.slot0.map (fun f => { f with pc := 0x3000 }) })

/-- The fragment's turn is next, and the page of its code migrates. -/
def codeMoving : State := (turning [.issue ref0]).wr 0x1C000 8 (leafSetState leaf0 stMigrating)

/-- A fetch for a fragment that gives no word, as cause or 0 for one that waits, and address. -/
def stopsB (x : Option (View × Fetched)) : Option (Nat × Nat) := match x with
  | some (_, .trap k a) => some (k, a)
  | some (_, .park a) => some (0, a)
  | _ => none

theorem witness_FetchStops :
    (strayed.pass.turn.1 = some (.issue ref0) ∧ (rest strayed).canIssue ref0 = true ∧ stopsB (((rest strayed).wins ref0).fetchFor ref0) = some (1, 0x3000)) ∧
    (codeMoving.pass.turn.1 = some (.issue ref0) ∧ (rest codeMoving).canIssue ref0 = true ∧
     stopsB (((rest codeMoving).wins ref0).fetchFor ref0) = some (0, 0x80)) := by
  decide +kernel

/-- A pop that a page's migration or a fault stops, as cause or 0 and address. -/
def popStopsB (x : Pop) : Option (Nat × Nat) := match x with
  | .park a => some (0, a)
  | .fail k a => some (k, a)
  | _ => none

theorem witness_PopStops :
    popStopsB ((seen (unready id)).s.popQueue (seen (unready id)).core (seen (unready id)).c true (2 ^ 40)) = some (8, 2 ^ 40) ∧
    (let s := (unready id).wr 0x1C000 8 (leafSetState leaf0 stMigrating)
     popStopsB ((seen s).s.popQueue (seen s).core (seen s).c true 0x2800) = some (0, 0x2800)) ∧
    (let s : State := { unready (fun y => { y with slot1 := y.slot0.map (fun f => { f with mask := 2 }) }) with
       popWaits := [{ ctx := 0, hdr := 0x2800, g := 1, w := 0, mask := 2, pc := 0x80 }] }
     popB ((seen s).s.popQueue (seen s).core (seen s).c true 0x2800) (some 77) false = true ∧
     (seen s).s.popTurn (seen s).c 0x2800 (seen s).r.g (seen s).r.w (seen s).f.mask = false) := by
  decide +kernel

theorem witness_NoEffect :
    here.life.stat ≠ .off ∧ here.life.stat ≠ .romcheck ∧ here.life.stat ≠ .bringup ∧ State.reset.life.stat ≠ .ready ∧ State.reset.life.stat = .off ∧
    here.life.step[(3 : Fin 4)] ≠ 3 ∧
    (let s : State := { here with life := { here.life with stat := .unsupported } }
     s.region 0x40000 ≠ .host ∧ s.life.stat ≠ .ready) ∧
    (let s : State := { here with life := { here.life with stepAt := here.life.stepAt.set 3 (some 1), timer := 100000 } }
     ∃ at_, s.life.stepAt[(3 : Fin 4)] = some at_ ∧ s.now - at_ < 100000) ∧
    (here.life.step[(3 : Fin 4)]).toNat ≤ here.life.stepcap.toNat ∧
    (let s : State := { here with life := { here.life with attcmd := 3 } }
     s.life.stat = .ready ∧ s.life.attcmd ≠ 0) := by
  refine ⟨?_, ?_, ?_, ?_, ?_, ?_, ?_, ⟨1, ?_⟩, ?_, ?_⟩ <;> decide +kernel

end Sys2Proof.Tests
end

section
/-! O56: decoding is the inverse of encoding (03 R50 to R55, 04 R90). Each format gives back the fields it was built from; with that the decoder of
a class finds the constructor that was encoded, and every constructor the decoder answers has a word. -/

namespace Sys2Proof

/-! ## The fields of each format (03 R50) -/

/-- 03 R53: the code of an operand names that operand. -/
@[simp] theorem Opnd.ofCode_toCode (o : Opnd) : Opnd.ofCode o.toCode = o := by
  cases o with
  | v i => revert i; decide
  | s i => revert i; decide
  | m i => revert i; decide
  | vx k => revert k; decide
  | _ => rfl

theorem formatA_fields (maj : BitVec 4) (minor : BitVec 5) (d a b : BitVec 7) (wa wb : Bool) :
    (formatA maj minor d a b wa wb).extractLsb' 28 4 = maj ∧ (formatA maj minor d a b wa wb).extractLsb' 23 5 = minor ∧
    (formatA maj minor d a b wa wb).extractLsb' 16 7 = d ∧ (formatA maj minor d a b wa wb).extractLsb' 9 7 = a ∧
    (formatA maj minor d a b wa wb).extractLsb' 2 7 = b := by
  simp (disch := decide) only [formatA, BitVec.extractLsb'_append_eq_of_le, BitVec.extractLsb'_append_eq_of_add_le, BitVec.extractLsb'_eq_self,
    Nat.reduceSub, and_self]

theorem formatA_waits (maj : BitVec 4) (minor : BitVec 5) (d a b : BitVec 7) (wa wb : Bool) :
    (formatA maj minor d a b wa wb).getLsbD 1 = wa ∧ (formatA maj minor d a b wa wb).getLsbD 0 = wb := by
  simp only [formatA, BitVec.getLsbD_append, BitVec.getLsbD_ofBool]
  simp

theorem formatM_fields (maj op : BitVec 4) (scope : BitVec 3) (order : BitVec 2) (d a : BitVec 7) (base : BitVec 3) (wd wa : Bool) :
    (formatM maj op scope order d a base wd wa).extractLsb' 28 4 = maj ∧ (formatM maj op scope order d a base wd wa).extractLsb' 24 4 = op ∧
    (formatM maj op scope order d a base wd wa).extractLsb' 21 3 = scope ∧ (formatM maj op scope order d a base wd wa).extractLsb' 19 2 = order ∧
    (formatM maj op scope order d a base wd wa).extractLsb' 12 7 = d ∧ (formatM maj op scope order d a base wd wa).extractLsb' 5 7 = a ∧
    (formatM maj op scope order d a base wd wa).extractLsb' 2 3 = base := by
  simp (disch := decide) only [formatM, BitVec.extractLsb'_append_eq_of_le, BitVec.extractLsb'_append_eq_of_add_le, BitVec.extractLsb'_eq_self,
    Nat.reduceSub, and_self]

theorem formatM_waits (maj op : BitVec 4) (scope : BitVec 3) (order : BitVec 2) (d a : BitVec 7) (base : BitVec 3) (wd wa : Bool) :
    (formatM maj op scope order d a base wd wa).getLsbD 1 = wd ∧ (formatM maj op scope order d a base wd wa).getLsbD 0 = wa := by
  simp only [formatM, BitVec.getLsbD_append, BitVec.getLsbD_ofBool]
  simp

theorem formatE_fields (d a b c : BitVec 7) :
    (formatE d a b c).extractLsb' 28 4 = 4#4 ∧ (formatE d a b c).extractLsb' 21 7 = d ∧ (formatE d a b c).extractLsb' 14 7 = a ∧
    (formatE d a b c).extractLsb' 7 7 = b ∧ (formatE d a b c).extractLsb' 0 7 = c := by
  simp (disch := decide) only [formatE, BitVec.extractLsb'_append_eq_of_le, BitVec.extractLsb'_append_eq_of_add_le, BitVec.extractLsb'_eq_self,
    Nat.reduceSub, and_self]

theorem formatB_fields (kind : BitVec 4) (off : BitVec 24) :
    (formatB kind off).extractLsb' 28 4 = 13#4 ∧ (formatB kind off).extractLsb' 24 4 = kind ∧ (formatB kind off).extractLsb' 0 24 = off := by
  simp (disch := decide) only [formatB, BitVec.extractLsb'_append_eq_of_le, BitVec.extractLsb'_append_eq_of_add_le, BitVec.extractLsb'_eq_self,
    Nat.reduceSub, and_self]

theorem formatL_fields (minor : BitVec 5) (d : BitVec 7) (off : BitVec 16) :
    (formatL minor d off).extractLsb' 28 4 = 0#4 ∧ (formatL minor d off).extractLsb' 23 5 = minor ∧ (formatL minor d off).extractLsb' 16 7 = d ∧
    (formatL minor d off).extractLsb' 0 16 = off := by
  simp (disch := decide) only [formatL, BitVec.extractLsb'_append_eq_of_le, BitVec.extractLsb'_append_eq_of_add_le, BitVec.extractLsb'_eq_self,
    Nat.reduceSub, and_self]

theorem formatC_fields (minor : BitVec 5) (imm : BitVec 23) :
    (formatC minor imm).extractLsb' 28 4 = 0#4 ∧ (formatC minor imm).extractLsb' 23 5 = minor ∧ (formatC minor imm).extractLsb' 0 23 = imm := by
  simp (disch := decide) only [formatC, BitVec.extractLsb'_append_eq_of_le, BitVec.extractLsb'_append_eq_of_add_le, BitVec.extractLsb'_eq_self,
    Nat.reduceSub, and_self]

/-- A part of the immediate of a word of format C is that part of the word. -/
theorem formatC_part (minor : BitVec 5) (imm : BitVec 23) {lo len : Nat} (h : lo + len ≤ 23) :
    (formatC minor imm).extractLsb' lo len = imm.extractLsb' lo len :=
  BitVec.extractLsb'_append_eq_of_add_le h

/-- A bit of the immediate of a word of format C is that bit of the word. -/
theorem formatC_bit (minor : BitVec 5) (imm : BitVec 23) {k : Nat} (h : k < 23) : (formatC minor imm).getLsbD k = imm.getLsbD k := by
  simp only [formatC, BitVec.getLsbD_append, h, if_true]

/-! ## Decoding what was encoded -/

/-- 04 R90: the kinds 8 to 15 of a word of format B are BRV of a mask. -/
theorem decodeWord_brv (k : BitVec 3) (off : BitVec 24) : decodeWord (formatB (1#1 ++ k) off) = .ok (.brv k off) := by
  have hk : (formatB (1#1 ++ k) off).extractLsb' 24 3 = k := by
    simp (disch := decide) only [formatB, BitVec.extractLsb'_append_eq_of_le, BitVec.extractLsb'_append_eq_of_add_le, Nat.reduceSub,
      BitVec.extractLsb'_eq_self]
  have kinds : ∀ k : BitVec 3, 8 ≤ (1#1 ++ k).toNat := by decide
  have hkind := kinds k
  simp only [decodeWord, decodeBranch, formatB_fields, hk]
  generalize (1#1 ++ k).toNat = n at hkind
  obtain ⟨j, rfl⟩ := Nat.exists_eq_add_of_le' hkind
  rfl

/-- 03 R50: the word of an instruction decodes to it. -/
theorem decodeWord_encode {i : Instr} {w : Word} (h : encode i = some w) : decodeWord w = .ok i := by
  cases i with
  | rcv | waitc =>
    cases h
    simp (disch := decide) only [decodeWord, decodeCtrl, formatC_fields, formatC_part, formatC_bit, BitVec.ofNat_eq_ofNat, BitVec.reduceToNat,
      BitVec.extractLsb'_append_eq_of_add_le, BitVec.extractLsb'_eq_self, BitVec.getLsbD_append, BitVec.getLsbD_ofBool]
    simp
  | elect | jmps =>
    cases h
    simp (disch := decide) only [decodeWord, decodeCtrl, formatC_fields, formatC_part, BitVec.ofNat_eq_ofNat, BitVec.reduceToNat,
      BitVec.extractLsb'_append_eq_of_add_le, BitVec.extractLsb'_eq_self]
  | brv k off => cases h; exact decodeWord_brv k off
  | _ =>
    cases h <;>
    simp only [decodeWord, decodeCtrl, decodeSalu, decodeValu, decodeBitx, decodeNum, decodeTile, decodeCopy, decodeSync, decodeMem, decodeSpad,
      decodeQrec, decodeSys, decodeTret, decodeBranch, formatA_fields, formatA_waits, formatM_fields, formatM_waits, formatE_fields, formatB_fields,
      formatL_fields, formatC_fields, Opnd.ofCode_toCode, BitVec.ofNat_eq_ofNat, BitVec.reduceToNat]

/-! ## What the decoder answers has a word -/

/-- A decoder's answer is an instruction word: the instruction, if any, has an encoding. -/
def AnswersWord (o : Except Reject Instr) : Prop := ∀ i, o = .ok i → ∃ w, encode i = some w

theorem decodeCtrl_answersWord (w : Word) : AnswersWord (decodeCtrl w) := by
  unfold decodeCtrl; split <;> rintro _ ⟨⟩ <;> exact ⟨_, rfl⟩

theorem decodeSalu_answersWord (w : Word) : AnswersWord (decodeSalu w) := by
  unfold decodeSalu; split <;> rintro _ ⟨⟩ <;> exact ⟨_, rfl⟩

theorem decodeValu_answersWord (w : Word) : AnswersWord (decodeValu w) := by
  unfold decodeValu; split <;> rintro _ ⟨⟩ <;> exact ⟨_, rfl⟩

theorem decodeBitx_answersWord (w : Word) : AnswersWord (decodeBitx w) := by
  unfold decodeBitx; split <;> rintro _ ⟨⟩ <;> exact ⟨_, rfl⟩

theorem decodeNum_answersWord (w : Word) : AnswersWord (decodeNum w) := by
  unfold decodeNum; split <;> rintro _ ⟨⟩ <;> exact ⟨_, rfl⟩

theorem decodeTile_answersWord (w : Word) : AnswersWord (decodeTile w) := by
  unfold decodeTile; split <;> rintro _ ⟨⟩ <;> exact ⟨_, rfl⟩

theorem decodeCopy_answersWord (w : Word) : AnswersWord (decodeCopy w) := by
  unfold decodeCopy; split <;> rintro _ ⟨⟩ <;> exact ⟨_, rfl⟩

theorem decodeSync_answersWord (w : Word) : AnswersWord (decodeSync w) := by
  unfold decodeSync; split <;> rintro _ ⟨⟩ <;> exact ⟨_, rfl⟩

theorem decodeMem_answersWord (w : Word) : AnswersWord (decodeMem w) := by
  unfold decodeMem; split <;> rintro _ ⟨⟩ <;> exact ⟨_, rfl⟩

theorem decodeSpad_answersWord (w : Word) : AnswersWord (decodeSpad w) := by
  unfold decodeSpad; split <;> rintro _ ⟨⟩ <;> exact ⟨_, rfl⟩

theorem decodeQrec_answersWord (w : Word) : AnswersWord (decodeQrec w) := by
  unfold decodeQrec; split <;> rintro _ ⟨⟩ <;> exact ⟨_, rfl⟩

theorem decodeTret_answersWord (w : Word) : AnswersWord (decodeTret w) := by
  unfold decodeTret; split <;> rintro _ ⟨⟩ <;> exact ⟨_, rfl⟩

theorem decodeBranch_answersWord (w : Word) : AnswersWord (decodeBranch w) := by
  unfold decodeBranch; split <;> rintro _ ⟨⟩ <;> exact ⟨_, rfl⟩

theorem decodeSys_answersWord (w : Word) : AnswersWord (decodeSys w) := by
  unfold decodeSys
  split
  case h_3 => exact decodeTret_answersWord w
  all_goals (rintro _ ⟨⟩ <;> exact ⟨_, rfl⟩)

theorem decodeWord_answersWord (w : Word) : AnswersWord (decodeWord w) := by
  unfold decodeWord
  split
  · exact decodeCtrl_answersWord w
  · exact decodeSalu_answersWord w
  · exact decodeValu_answersWord w
  · exact decodeBitx_answersWord w
  · rintro _ ⟨⟩; exact ⟨_, rfl⟩
  · exact decodeNum_answersWord w
  · exact decodeTile_answersWord w
  · exact decodeCopy_answersWord w
  · exact decodeSync_answersWord w
  · exact decodeMem_answersWord w
  · exact decodeSpad_answersWord w
  · exact decodeQrec_answersWord w
  · exact decodeSys_answersWord w
  · exact decodeBranch_answersWord w
  · rintro _ ⟨⟩

/-- Settles O56: a word that was encoded gives back its fields, and an answer of the decoder has a word. -/
theorem decodeOfEncode : Obligations.DecodeOfEncode := by
  refine ⟨fun i w h => decodeWord_encode h, fun w i h => ?_⟩
  obtain ⟨w', hw⟩ := decodeWord_answersWord w i h
  exact ⟨w', hw, decodeWord_encode hw⟩

end Sys2Proof
end

section
/-! O44: what a warp holds when its group starts (03 R56, R57, 08 R145, R164, 02 R45). The first window and the fragment at ENTRY are put on top of
the registers; they change none of them. -/

namespace Sys2Proof.Machine

section
variable (s : State) (k : Kernel) (x : Group) (size w slotNo : Nat)

/-! ## The registers -/

/-- 03 R56: what the scalars of a warp hold when its group starts: group number, warp index, size word, CB, and 0 from s4 on. -/
def State.startScalar (s : State) (x : Group) (size w : Nat) : Nat → Nat
  | 0 => x.num
  | 1 => w
  | 2 => size
  | 3 => s.ctxs[cfin x.ctx].cb
  | _ => 0

theorem State.startWarp_s : (s.startWarp k x size w slotNo).s =
    Vector.ofFn (fun (i : Fin 32) => { val := BitVec.ofNat 64 (s.startScalar x size w i.val), fill := .full }) := by
  unfold State.startWarp; dsimp only; split <;> rfl

theorem State.startWarp_getElem_s (i : Fin 32) :
    (s.startWarp k x size w slotNo).s[i] = { val := BitVec.ofNat 64 (s.startScalar x size w i.val), fill := .full } := by
  rw [State.startWarp_s]
  exact Vector.getElem_ofFn i.isLt

theorem State.startWarp_m :
    (s.startWarp k x size w slotNo).m = (Vector.replicate 8 0#32).set 0 (liveLanes x.sched x.num w size).1 := by
  unfold State.startWarp; dsimp only; split <;> rfl

theorem State.startWarp_b :
    (s.startWarp k x size w slotNo).b = (Vector.replicate 8 BaseReg.invalid).set 7 (s.base7 (cfin x.ctx)) := by
  unfold State.startWarp; dsimp only; split <;> rfl

theorem State.startWarp_zeros :
    let y := s.startWarp k x size w slotNo
    y.n = Vector.replicate 8 .zero ∧ y.x = Vector.replicate 4 0 ∧ y.flags = 0 ∧ y.plvl = 0 ∧ y.nthr = 1024 ∧ y.intrap = false ∧
      y.copyN = 0 ∧ y.remN = 0 ∧ y.stack = [] ∧ y.slot1 = none := by
  unfold State.startWarp; dsimp only; split <;> exact ⟨rfl, rfl, rfl, rfl, rfl, rfl, rfl, rfl, rfl, rfl⟩

/-! ## The fragment -/

/-- A register that a table lists as at warp start, or does not list, reads as at warp start. -/
theorem tgetD_all {α : Type} (l : List Nat) (z : α) (n : Nat) : tgetD (l.map (fun i => (i, z))) n z = z := by
  induction l with
  | nil => rfl
  | cons i l ih =>
    by_cases h : i = n
    · simp [tgetD, tget, h]
    · simpa [tgetD, tget, h] using ih

/-- 08 R146: a warp without a lane has exited. -/
theorem State.startWarp_empty (h : (liveLanes x.sched x.num w size).1 ||| (liveLanes x.sched x.num w size).2 = 0) :
    (s.startWarp k x size w slotNo).sched = .exited ∧ (s.startWarp k x size w slotNo).slot0 = none := by
  simp only [State.startWarp, h, if_true, and_self]

/-- 08 R145, R164: a warp with a lane is PENDING, with one fragment at ENTRY in a window of registers as at warp start. -/
theorem State.startWarp_pending (h : (liveLanes x.sched x.num w size).1 ||| (liveLanes x.sched x.num w size).2 ≠ 0) :
    (s.startWarp k x size w slotNo).sched = .pending ∧ ∃ f win, (s.startWarp k x size w slotNo).slot0 = some f ∧
      f.pc = BitVec.ofNat 64 (k.addr + k.codeOff + x.sched.entry) ∧
      f.mask = (liveLanes x.sched x.num w size).1 ||| (liveLanes x.sched x.num w size).2 ∧ f.join = none ∧
      (s.startWarp k x size w slotNo).wins = [win] ∧ win.id = f.win ∧ win.depth = 0 ∧ win.regs.length = x.win ∧
      ∀ r ∈ win.regs, (s.startWarp k x size w slotNo).vreg r = VReg.zero := by
  simp only [State.startWarp, h, if_false, Warp.openWin, Warp.setSlot, Bool.false_eq_true]
  refine ⟨trivial, _, _, rfl, rfl, rfl, rfl, rfl, rfl, rfl, by simp, fun r _ => ?_⟩
  simpa [Warp.vreg, Function.comp_def] using tgetD_all ((List.range x.win).map (fun i => 0 + i)) VReg.zero r

end

/-- Settles O44: the registers as `startWarp` fills them, and its two cases, with and without a lane. -/
theorem warpStartValues : Obligations.WarpStartValues := by
  intro s k x size w slotNo
  obtain ⟨hn, hx, hflags, hplvl, hnthr, hintrap, hcopy, hrem, hstack, hslot1⟩ := s.startWarp_zeros k x size w slotNo
  have hs := s.startWarp_getElem_s k x size w slotNo
  have hm := s.startWarp_m k x size w slotNo
  have hb := s.startWarp_b k x size w slotNo
  refine ⟨?_, ?_, ?_, ?_, ?_, ?_, ?_, ?_, ?_, ?_, ?_, hflags, hplvl, hnthr, hintrap, hcopy, hrem, hstack, hslot1,
    s.startWarp_empty k x size w slotNo, s.startWarp_pending k x size w slotNo⟩
  · exact congrArg SReg.val (hs 0)
  · exact congrArg SReg.val (hs 1)
  · exact congrArg SReg.val (hs 2)
  · exact congrArg SReg.val (hs 3)
  · intro i hi
    obtain ⟨j, hj⟩ := Nat.exists_eq_add_of_le' hi
    rw [hs, hj]
    rfl
  · exact fun i => congrArg SReg.fill (hs i)
  · simp [hm]
  · intro i hi
    have : (0 : Nat) ≠ i.val := fun h => hi (Fin.ext h.symm)
    simp [hm, this]
  · simp [hx]
  · simp [hn]
  · intro i hi
    have : (7 : Nat) ≠ i.val := fun h => hi (Fin.ext h.symm)
    simp [hb, this, BaseReg.invalid]

end Sys2Proof.Machine
end

section
/-! O54: a step runs what its fragment's word decodes to (03 R48, 08 R148, 13 R312), and O7: what the instruction of a fragment without replays
sees (03 R49, 08 R165). -/

namespace Sys2Proof.Machine

/-! ## A step is the move of the agent whose turn it is -/

/-- What a move comes to, with what follows from it at once. -/
def settled (o : Host.Outcome State Fault Refusal) : Host.Outcome State Fault Refusal := match o with
  | .next u => .next u.settle
  | o => o

theorem step_of_turn {s t : State} {a : Turn} (h : s.pass.turn = (some a, t)) : step s = settled (t.take a) := by
  simp only [step, State.move, h]
  rfl

theorem step_of_no_turn {s t : State} (h : s.pass.turn = (none, t)) : step s = .next t.settle := by
  simp only [step, State.move, h]

theorem step_of_issue {s t : State} {r : Ref} (h : s.pass.turn = (some (.issue r), t)) (hc : t.canIssue r = true) :
    step s = settled ((t.wins r).issueAt r) := by
  simp only [step_of_turn h, State.take, hc, if_true]

theorem instrOf_ok {w : Word} {i : Instr} (h : decodeWord w = .ok i) : instrOf w = i := by simp only [instrOf, h]

theorem instrOf_error {w : Word} {e : Reject} (h : decodeWord w = .error e) : instrOf w = .reservedEncoding w := by simp only [instrOf, h]

theorem State.issueAt_word {s : State} {r : Ref} {v : View} {w : Word} (h : s.fetchFor r = some (v, .word w)) :
    s.issueAt r = exec (instrOf w) { s with cur := some r } := by simp only [State.issueAt, h]

theorem State.issueAt_trap {s : State} {r : Ref} {v : View} {k a : Nat} (h : s.fetchFor r = some (v, .trap k a)) :
    s.issueAt r = .next (v.finish (.error (v.trap k a))) := by simp only [State.issueAt, h]

theorem State.issueAt_park {s : State} {r : Ref} {v : View} {a : Nat} (h : s.fetchFor r = some (v, .park a)) :
    s.issueAt r = .next (v.finish (.error (v.parkPage a))) := by simp only [State.issueAt, h]

/-! ## The word of an instruction (03 R48) -/

/-- 03 R48: a word of memory that a core reads, where its address translates and its data is good. -/
theorem State.fetchCore_ok {s : State} {core : Nat} {c : Fin 64} {va pa : Nat} {user : Bool} {e : Nat}
    (h : s.xlateCore core c va false user = .ok pa e) (hb : s.engBad pa 4 = false) : s.fetchCore core c va user = .got (s.engRd pa 4) := by
  simp [State.fetchCore, h, hb]

/-- 03 R48: at PL0 a word of the code section that no pool holds and no parameter overlays is the word of memory at the PC. -/
theorem State.fetchAt_user {s : State} {core : Nat} {c : Fin 64} {k : Kernel} {pc : DWord} (hlo : k.code ≤ pc.toNat)
    (hhi : pc.toNat < k.code + k.codeSize) (halign : (pc.toNat - k.code) % 4 = 0) (hpool : k.pool ((pc.toNat - k.code) / 4) = none)
    (hpatch : k.patched ((pc.toNat - k.code) / 4) = none) :
    s.fetchAt core c k 0 pc = Fetched.of (s.fetchCore core c pc.toNat true) pc.toNat := by
  have hpc : k.code + 4 * ((pc.toNat - k.code) / 4) = pc.toNat := by omega
  simp [State.fetchAt, hlo, hhi, halign, hpool, State.codeWord, hpatch, hpc]

/-- Settles O54: the step is `take` of the turn, and `take` of a fragment that can issue runs the word that it has fetched. -/
theorem stepRunsTheDecodedWord : Obligations.StepRunsTheDecodedWord := by
  intro s t after
  have hafter : after = settled := rfl
  rw [hafter]
  refine ⟨fun r v w hturn hcan hw => ⟨fun i hi => ?_, fun e he => ?_⟩,
    fun r v hturn hcan => ⟨fun k a hf => ?_, fun a hf => ?_⟩, step_of_no_turn,
    fun r v k pa e hv hk hplvl hlo hhi halign hpool hpatch hx hbad => ?_,
    fun i hturn hi => ⟨fun hrun => ?_, fun hstop => ?_⟩, fun r hturn hcan => ?_⟩
  · rw [step_of_issue hturn hcan, State.issueAt_word hw, instrOf_ok hi]
  · rw [step_of_issue hturn hcan, State.issueAt_word hw, instrOf_error he]
  · rw [step_of_issue hturn hcan, State.issueAt_trap hf]
  · rw [step_of_issue hturn hcan, State.issueAt_park hf]
  · simp only [State.fetchFor, hv, hk, Option.map_some, hplvl, State.fetchAt_user hlo hhi halign hpool hpatch, State.fetchCore_ok hx hbad, Fetched.of]
  · rw [step_of_turn hturn]
    simp only [State.take, hi, hrun, Bool.or_self, Bool.false_eq_true, if_false]
  · rw [step_of_turn hturn]
    simp only [State.take, hstop, Bool.or_true, if_true, settled]
  · rw [step_of_turn hturn]
    simp only [State.take, hcan, Bool.false_eq_true, if_false, settled]

/-! ## The view of an instruction that is no replay -/

theorem Frag.next_of_no_replays {f : Frag} (h : f.replays = []) : f.next = f.pc := by simp only [Frag.next, h]

theorem Frag.issueLanes_of_no_replays {f : Frag} (h : f.replays = []) : f.issueLanes = f.mask := by simp only [Frag.issueLanes, h]

theorem Frag.advance_of_no_replays {f : Frag} (h : f.replays = []) :
    f.advance = { f with pc := f.pc + 4, status := .ready, nowait := none } := by simp only [Frag.advance, h]

/-- 08 R165: the warp of a view and its state, the fragment moved past the instruction. -/
theorem State.viewOf_moved {s : State} {r : Ref} {v : View} (h : s.viewOf r = some v) (hr : v.f.replays = []) :
    ∃ y, s.warp r.g r.w = some y ∧ y.slot r.slot = some v.f ∧ v.s = s.modWarp r.g r.w (fun z => z.setSlot r.slot (some v.f.advance)) ∧
      v.y = y.setSlot r.slot (some v.f.advance) := by
  unfold State.viewOf at h
  split at h
  · cases h
  · rename_i x hx
    split at h
    · cases h
    · rename_i y hy
      split at h
      · cases h
      · rename_i f hf
        cases h
        replace hr : f.replays = [] := hr
        have hw : s.warp r.g r.w = some y := by simp [State.warp, hx, hy]
        have hb : s.beforeReplay r f = s := by simp only [State.beforeReplay, hr]
        exact ⟨y, hw, hf, by simp only [hb], by simp [hb, hw]⟩

/-- Settles O7: the view of an issuing fragment is its state with the fragment past the instruction. -/
theorem issueAdvancesThePc : Obligations.IssueAdvancesThePc := by
  intro s v hv hr
  obtain ⟨r, hcur, hview⟩ := Option.bind_eq_some_iff.mp hv
  obtain ⟨hbase, rfl, -, -, hpc, hlanes⟩ := State.viewOf_spec hview
  obtain ⟨y, hw, hslot, hs, hy⟩ := State.viewOf_moved hview hr
  rw [Frag.next_of_no_replays hr] at hpc
  rw [Frag.issueLanes_of_no_replays hr] at hlanes
  rw [Frag.advance_of_no_replays hr] at hs hy
  exact ⟨hpc, hlanes, hbase, hcur, y, hw, hslot, hs, hy⟩

end Sys2Proof.Machine
end

section
/-! O60: what a scalar instruction of one source does when its operands are not ready (03 R62 to R67, 06 R123). What one source comes to, by its
state; what the instruction comes to, by what its source comes to. -/

namespace Sys2Proof.Machine

/-! ## The values of the scalar instructions of one source (09 R184) -/

theorem intVal_signed (x : DWord) : intVal true 64 x.toNat = x.toInt := by
  have := x.isLt
  simp only [intVal, if_true, toSigned, BitVec.toInt_eq_toNat_cond, Nat.mod_eq_of_lt this]
  rfl

theorem intVal_unsigned (x : DWord) : intVal false 64 x.toNat = x.toNat := by
  have := x.isLt
  simp only [intVal, Bool.false_eq_true, if_false]
  omega

theorem ofNat_ofInt (z : Int) : BitVec.ofNat 64 (ofInt 64 z) = BitVec.ofInt 64 z := by
  apply BitVec.eq_of_toNat_eq
  simp only [BitVec.toNat_ofNat, ofInt, BitVec.toNat_ofInt]
  omega

/-- 02 R27 at 64 bits: a result fitted to its signedness. -/
theorem intFit_64 (sg sat : Bool) (z : Int) : BitVec.ofNat 64 (intFit sg sat 64 z) = fit64 sg sat z := by
  cases sat
  · simp only [intFit, fit64, Bool.false_eq_true, if_false, ofNat_ofInt]
  · cases sg <;> simp only [intFit, fit64, loBound, hiBound, Bool.false_eq_true, if_true, if_false, ofNat_ofInt, Nat.reduceSub]

/-- 02 R27 at 64 bits: the fitted result of a scalar instruction. -/
theorem md64_fit (v : View) (z : Int) : BitVec.ofNat 64 (v.md64.fit z) = fit64 v.sg (mSat v.y.mode) z := by
  have hsg : v.sg = scalarSigned v.et := rfl
  rw [← intFit_64, hsg]
  simp only [Md.fit, View.md64]
  cases scalarSigned v.et <;> rfl

/-- 09 R182: the value of a scalar under the signedness of ETYPE. -/
theorem md64_int (v : View) (x : DWord) : v.md64.int x.toNat = num64 v.sg x := by
  have hsg : v.sg = scalarSigned v.et := rfl
  simp only [Md.int, View.md64, num64, hsg]
  cases scalarSigned v.et
  · exact intVal_unsigned x
  · exact intVal_signed x

theorem md64_not_float (v : View) : tyFloat v.md64.t = false := by
  simp only [View.md64]
  cases scalarSigned v.et <;> rfl

theorem md64_signed (v : View) : tySigned v.md64.t = v.sg := by
  have hsg : v.sg = scalarSigned v.et := rfl
  simp only [View.md64, hsg]
  cases scalarSigned v.et <;> rfl

theorem laneAbs_md64 (v : View) (x : DWord) :
    BitVec.ofNat 64 (laneAbs v.md64 x.toNat) = if v.sg then fit64 v.sg (mSat v.y.mode) (x.toInt.natAbs : Int) else x := by
  simp only [laneAbs, md64_not_float, md64_signed, md64_int, num64, Bool.false_eq_true, if_false]
  cases h : v.sg
  · simp
  · simpa [h] using md64_fit v (x.toInt.natAbs : Int)

theorem laneNeg_md64 (v : View) (x : DWord) :
    BitVec.ofNat 64 (laneNeg v.md64 x.toNat) = fit64 v.sg (mSat v.y.mode) (-(num64 v.sg x)) := by
  simp only [laneNeg, md64_not_float, md64_int, Bool.false_eq_true, if_false, md64_fit]

theorem laneClz_toNat (x : DWord) : laneClz 64 x.toNat = if x = 0 then 64 else 63 - x.toNat.log2 := by
  simp only [laneClz, bitLen, Nat.mod_eq_of_lt x.isLt]
  by_cases h : x = 0
  · simp [h]
  · have : x.toNat ≠ 0 := fun e => h (BitVec.eq_of_toNat_eq e)
    simp only [h, this, if_false]
    omega

/-- The one bits of a number below w, counted by addition, are the positions at which it has a one. -/
theorem lanePopc_eq_length (w a : Nat) : lanePopc w a = ((List.range w).filter (fun i => a.testBit i)).length := by
  unfold lanePopc
  induction w with
  | zero => rfl
  | succ w ih =>
    rw [List.range_succ, List.foldl_append, ih, List.filter_append, List.length_append]
    have hbit := Nat.testBit_eq_decide_div_mod_eq (x := a) (i := w)
    rcases Nat.mod_two_eq_zero_or_one (a / 2 ^ w) with h | h <;> simp [hbit, h]

/-- 09 R184: a scalar instruction of one source is `scalar1` of a function that gives its result. -/
theorem scalar1Table_exec {d a : Opnd} {wa : Bool} {e : Instr × (Bool → Bool → DWord → DWord)} (he : e ∈ scalar1Table d a wa) :
    ∃ f : View → DWord → DWord, (∀ s, exec e.1 s = issue s (fun v => v.scalar1 d a wa (f v))) ∧
      ∀ v x, f v x = e.2 v.sg (mSat v.y.mode) x := by
  simp only [scalar1Table, List.mem_cons, List.not_mem_nil, or_false] at he
  rcases he with rfl | rfl | rfl | rfl | rfl
  · exact ⟨fun _ => id, fun _ => rfl, fun _ _ => rfl⟩
  · exact ⟨fun v x => BitVec.ofNat 64 (laneAbs v.md64 x.toNat), fun _ => rfl, laneAbs_md64⟩
  · exact ⟨fun v x => BitVec.ofNat 64 (laneNeg v.md64 x.toNat), fun _ => rfl, laneNeg_md64⟩
  · exact ⟨fun _ x => BitVec.ofNat 64 (laneClz 64 x.toNat), fun _ => rfl, fun _ x => congrArg (BitVec.ofNat 64) (laneClz_toNat x)⟩
  · exact ⟨fun _ x => BitVec.ofNat 64 (lanePopc 64 x.toNat), fun _ => rfl,
      fun _ x => congrArg (BitVec.ofNat 64) (lanePopc_eq_length 64 x.toNat)⟩

/-! ## One source that is not FULL (03 R62, R63) -/

section
variable {v : View} {l : Loc} {wt : Bool} {c : Nat}

/-- How the sources of an instruction stand before the first is looked at. -/
def View.unread (v : View) : Ready := { v := v, trap := none, block := false, waits := v.base, seen := [] }

/-- What the sources of an instruction come to when all have been looked at. -/
def Ready.answer (r : Ready) : Except Stop View := match r.trap with
  | some t => .error t
  | none => if r.block then .error (.wait r.waits true) else .ok r.v

theorem View.sources_single (v : View) (d : Rd) : v.sources [d] = (v.unread.look d).answer := rfl

/-- 03 R63: one register of a source that is no queue. -/
def Ready.meet (d : Rd) (r : Ready) (f : Fill) : Ready := match f with
  | .full => r
  | .orphaned o => { r with trap := r.trap <|> some (r.v.trap o.code d.code) }
  | .empty => if r.v.f.strict d.wait d.code then { r with trap := r.trap <|> some (r.v.trap cEMPTY d.code) } else { r with block := true }

theorem Ready.look_plain (r : Ready) (d : Rd) (hp : ∀ i, d.loc = .sca i → r.v.y.mapped i = none) :
    r.look d = (r.v.y.fills d.loc).foldl (Ready.meet d) r := by
  unfold Ready.look
  split
  · rename_i i hi
    rw [hp i hi]
    rfl
  · rfl

/-- A source that is one register and no queue. -/
theorem View.sources_register {fill : Fill} (hf : v.y.fills l = [fill]) (hp : ∀ i, l = .sca i → v.y.mapped i = none) :
    v.sources [{ loc := l, wait := wt, code := c }] = (Ready.meet { loc := l, wait := wt, code := c } v.unread fill).answer := by
  rw [View.sources_single, Ready.look_plain v.unread { loc := l, wait := wt, code := c } hp]
  show Ready.answer (List.foldl _ _ (v.y.fills l)) = _
  rw [hf]
  rfl

/-- 03 R63: an EMPTY source read as with wait bit 0 waits. -/
theorem View.sources_empty_waits (hf : v.y.fills l = [.empty]) (hp : ∀ i, l = .sca i → v.y.mapped i = none) (hs : v.f.strict wt c = false) :
    v.sources [{ loc := l, wait := wt, code := c }] = .error (.wait v.base true) := by
  rw [View.sources_register hf hp]
  simp only [Ready.meet, View.unread, hs, Bool.false_eq_true, if_false]
  rfl

/-- 03 R63: an EMPTY source read as with wait bit 1 traps with EMPTY. -/
theorem View.sources_empty_traps (hf : v.y.fills l = [.empty]) (hp : ∀ i, l = .sca i → v.y.mapped i = none) (hs : v.f.strict wt c = true) :
    v.sources [{ loc := l, wait := wt, code := c }] = .error (v.trap cEMPTY c) := by
  rw [View.sources_register hf hp]
  simp only [Ready.meet, View.unread, hs, if_true]
  rfl

/-- 03 R62: an ORPHANED source traps with its cause. -/
theorem View.sources_orphaned {o : Orphan} (hf : v.y.fills l = [.orphaned o]) (hp : ∀ i, l = .sca i → v.y.mapped i = none) :
    v.sources [{ loc := l, wait := wt, code := c }] = .error (v.trap o.code c) := by
  rw [View.sources_register hf hp]
  rfl

/-! ## One source that is a word queue (03 R67, 06 R123) -/

variable {i : Fin 32} {h : DWord}

/-- The place of a fragment among those that wait for a word of a queue. -/
def View.popWait (v : View) (h : DWord) : PopWait := { ctx := v.c, hdr := h, g := v.r.g, w := v.r.w, mask := v.f.mask, pc := v.pc }

/-- The pop of a queue by a view. -/
def View.pop (v : View) (h : DWord) : Pop := v.s.popQueue v.core v.c (decide (v.y.plvl = 0)) h.toNat

/-- The view after a pop that has been made. -/
def View.popped (v : View) (h : DWord) (s : State) (y : Warp) : View :=
  { v with s := (s.delPopWait (v.popWait h)).modWarp v.r.g v.r.w (fun _ => y), y := y }

theorem View.sources_mapped (hm : v.y.mapped i = some h) :
    v.sources [{ loc := .sca i, wait := wt, code := c }] =
      (Ready.popReg { v := v, trap := none, block := false, waits := v.base, seen := [] } i h wt c).answer := by
  rw [View.sources_single]
  unfold Ready.look View.unread
  simp only [hm, List.find?_nil]

theorem View.sources_pop_got {s : State} {x : DWord} (hm : v.y.mapped i = some h) (hpop : v.pop h = .got s x)
    (hturn : v.s.popTurn v.c h v.r.g v.r.w v.f.mask = true) :
    v.sources [{ loc := .sca i, wait := wt, code := c }] = .ok (v.popped h s (v.y.popWord i x)) := by
  unfold View.pop at hpop
  rw [View.sources_mapped hm]
  simp only [Ready.popReg, hpop, hturn, if_true]
  rfl

theorem View.sources_pop_dry (hm : v.y.mapped i = some h) (hpop : v.pop h = .dry) (hx : mXtrap v.y.mode = false) :
    v.sources [{ loc := .sca i, wait := wt, code := c }] = .ok (v.popped h v.s (v.y.popDry i)) := by
  unfold View.pop at hpop
  rw [View.sources_mapped hm]
  simp only [Ready.popReg, hpop, hx, Bool.false_eq_true, if_false]
  rfl

theorem View.sources_pop_dry_traps (hm : v.y.mapped i = some h) (hpop : v.pop h = .dry) (hx : mXtrap v.y.mode = true) :
    v.sources [{ loc := .sca i, wait := wt, code := c }] = .error (v.trap cQDRY) := by
  unfold View.pop at hpop
  rw [View.sources_mapped hm]
  simp only [Ready.popReg, hpop, hx, if_true]
  rfl

/-- 06 R123: there is no word for a fragment: the queue is empty, or an older pop of it is still to be made. -/
def View.noWord (v : View) (h : DWord) : Prop :=
  v.pop h = .empty ∨ ∃ s x, v.pop h = .got s x ∧ v.s.popTurn v.c h v.r.g v.r.w v.f.mask = false

theorem View.sources_pop_waits (hm : v.y.mapped i = some h) (hpop : v.noWord h) (hs : v.f.strict wt c = false) :
    v.sources [{ loc := .sca i, wait := wt, code := c }] = .error (.wait (v.base.addPopWait (v.popWait h)) true) := by
  unfold View.noWord View.pop at hpop
  rw [View.sources_mapped hm]
  rcases hpop with hpop | ⟨s, x, hpop, hturn⟩
  · simp only [Ready.popReg, hpop, hs, Bool.false_eq_true, if_false]
    rfl
  · simp only [Ready.popReg, hpop, hturn, hs, Bool.false_eq_true, if_false]
    rfl

theorem View.sources_pop_empty_traps (hm : v.y.mapped i = some h) (hpop : v.noWord h) (hs : v.f.strict wt c = true) :
    v.sources [{ loc := .sca i, wait := wt, code := c }] = .error (v.trap cEMPTY c) := by
  unfold View.noWord View.pop at hpop
  rw [View.sources_mapped hm]
  rcases hpop with hpop | ⟨s, x, hpop, hturn⟩
  · simp only [Ready.popReg, hpop, hs, if_true]
    rfl
  · simp only [Ready.popReg, hpop, hturn, hs, Bool.false_eq_true, if_false, if_true]
    rfl

theorem View.sources_pop_parks {va : Nat} (hm : v.y.mapped i = some h) (hpop : v.pop h = .park va) :
    v.sources [{ loc := .sca i, wait := wt, code := c }] =
      .error (.wait (v.base.addFault v.c (vpage va) (coreDie v.core) none) true) := by
  unfold View.pop at hpop
  rw [View.sources_mapped hm]
  simp only [Ready.popReg, hpop]
  rfl

theorem View.sources_pop_fails {k n : Nat} (hm : v.y.mapped i = some h) (hpop : v.pop h = .fail k n) :
    v.sources [{ loc := .sca i, wait := wt, code := c }] = .error (v.trap k n) := by
  unfold View.pop at hpop
  rw [View.sources_mapped hm]
  simp only [Ready.popReg, hpop]
  rfl

end

/-! ## The causes of a pop that fails (15 R352, R356, R357; 19 R435) -/

/-- The causes with which an access to memory fails. -/
def memoryCauses : List Nat := [cPGABSENT, cPGPROT, cTAGMIS, cUNCORR]

/-- A translation fails, if it does, with a cause of an access to memory. -/
def Xlat.FailsAsAccess (x : Xlat) : Prop := ∀ k, x = .fail k → k ∈ memoryCauses

@[simp] theorem Xlat.failsAsAccess_ok (pa e : Nat) : (Xlat.ok pa e).FailsAsAccess := by rintro _ ⟨⟩
@[simp] theorem Xlat.failsAsAccess_park : Xlat.park.FailsAsAccess := by rintro _ ⟨⟩
@[simp] theorem Xlat.failsAsAccess_uncorr : Xlat.uncorr.FailsAsAccess := by rintro _ ⟨⟩
@[simp] theorem Xlat.failsAsAccess_fail (k : Nat) : (Xlat.fail k).FailsAsAccess ↔ k ∈ memoryCauses :=
  ⟨fun h => h k rfl, by rintro h _ ⟨⟩; exact h⟩

@[simp] theorem State.parked_failsAsAccess (s : State) (ctx page : Nat) : (s.parked ctx page).FailsAsAccess := by
  unfold State.parked; split <;> simp [memoryCauses]

@[simp] theorem State.judge_failsAsAccess (s : State) (ctx page off entry : Nat) (write user : Bool) :
    (s.judge ctx page off entry write user).FailsAsAccess := by
  unfold State.judge; dsimp only; repeat' split
  all_goals simp [memoryCauses]

@[simp] theorem State.xlate_failsAsAccess (s : State) (c : Fin 64) (va : Nat) (write user : Bool) : (s.xlate c va write user).FailsAsAccess := by
  unfold State.xlate; repeat' split
  all_goals simp [memoryCauses]

@[simp] theorem State.xlateCore_failsAsAccess (s : State) (core : Nat) (c : Fin 64) (va : Nat) (write user : Bool) :
    (s.xlateCore core c va write user).FailsAsAccess := by
  unfold State.xlateCore; repeat' split
  all_goals simp [memoryCauses]

theorem State.ptrTo_failsAsAccess (s : State) (core : Nat) (c : Fin 64) (user : Bool) (p n : Nat) (write : Bool) :
    (s.ptrTo core c user p n write).FailsAsAccess := by
  unfold State.ptrTo
  split
  · simp [memoryCauses]
  · split
    · split
      · simp [memoryCauses]
      · split <;> simp [memoryCauses]
    · simp

/-- 06 R123: a pop fails with a cause of an access to memory, at the header or at the ring. -/
theorem State.popQueue_fail {s : State} {core : Nat} {c : Fin 64} {user : Bool} {hdr k n : Nat} (h : s.popQueue core c user hdr = .fail k n) :
    k ∈ memoryCauses := by
  unfold State.popQueue at h
  split at h
  · cases h
  · rename_i hx
    cases h
    exact State.ptrTo_failsAsAccess _ _ _ _ _ _ _ _ hx
  · cases h
  · dsimp only at h
    split at h
    · cases h; decide
    · split at h
      · split at h <;> cases h
      · split at h
        · cases h
        · rename_i hx
          cases h
          exact State.ptrTo_failsAsAccess _ _ _ _ _ _ _ _ hx
        · cases h
        · cases h

/-! ## A scalar instruction of one source -/

section
variable {v : View} {d a : Opnd} {wa : Bool} {ld la : Loc} {f : DWord → DWord}

/-- 03 R67: a scalar register is a destination unless it is mapped onto a queue. -/
theorem View.resolveDst_scalar (v : View) (i : Fin 32) :
    v.resolveDst kScalarD false (.s i) = if (v.y.mapped i).isSome then .error (v.trap cILLOPND) else .ok (.sca i) := rfl

/-- A destination that its field does not take stops the instruction. -/
theorem View.scalar1_of_dst_error {t : Stop} (hd : v.resolveDst kScalarD false d = .error t) : v.scalar1 d a wa f = .error t := by
  simp only [View.scalar1, hd, Stop.error_bind]

/-- A source that its field does not take stops the instruction. -/
theorem View.scalar1_of_resolve_error {t : Stop} (hd : v.Dst kScalarD false d ld) (ha : v.resolve kScalar false a = .error t) :
    v.scalar1 d a wa f = .error t := by
  simp only [View.scalar1, View.rd, hd.names, ha, Stop.ok_bind, Stop.error_bind]

/-- A source that is not ready stops the instruction. -/
theorem View.scalar1_of_sources_error {t : Stop} (hd : v.Dst kScalarD false d ld) (ht : tyNarrow v.et = false)
    (ha : v.resolve kScalar false a = .ok la) (hs : v.sources [{ loc := la, wait := wa, code := a.toCode.toNat }] = .error t) :
    v.scalar1 d a wa f = .error t := by
  simp only [View.scalar1, View.rd, hd.names, ha, View.plainType_ok ht, hs, Stop.ok_bind, Stop.error_bind]

/-- 03 R64: an EMPTY destination holds the instruction. -/
theorem View.scalar1_of_dst_empty (hd : v.resolveDst kScalarD false d = .ok ld) (ht : tyNarrow v.et = false) (ha : v.Src kScalar false a la)
    (he : Fill.empty ∈ v.y.fills ld) : v.scalar1 d a wa f = .error v.hold := by
  have hr : v.destReady ld = .error v.hold := by simp [View.destReady, he]
  simp only [View.scalar1, hd, ha.rd, View.plainType_ok ht, View.sources_one ha.full ha.plain, hr, Stop.ok_bind, Stop.error_bind]

/-- The warp after a read of a queue-mapped register: its value, FLAGS and what the mapped registers hold as ordinary scalars. -/
def Warp.popInto (y : Warp) (i : Fin 32) (x : DWord) (fl : Byte) (last : Vector DWord 4) : Warp :=
  { y with s := y.s.set i { val := x, fill := .full }, flags := fl, popped := last }

theorem Warp.popWord_eq (y : Warp) (i : Fin 32) (x : DWord) :
    y.popWord i x = y.popInto i x y.flags (y.popped.set (Fin.ofNat 4 (i.val - 28)) x) := rfl

theorem Warp.popDry_eq (y : Warp) (i : Fin 32) : y.popDry i = y.popInto i 0 (y.flags ||| 0x10#8) y.popped := rfl

/-- A pop fills its register and empties none. -/
theorem Warp.popInto_fills {y : Warp} {i : Fin 32} {x : DWord} {fl : Byte} {last : Vector DWord 4} {l : Loc} (h : Fill.empty ∉ y.fills l) :
    Fill.empty ∉ (y.popInto i x fl last).fills l := by
  cases l with
  | sca j =>
    by_cases hij : i = j
    · simp [Warp.fills, Warp.popInto, hij]
    · have : i.val ≠ j.val := fun e => hij (Fin.ext e)
      simpa [Warp.fills, Warp.popInto, Vector.getElem_set, this] using h
  | _ => exact h

theorem Warp.popInto_scalarVal (y : Warp) (i : Fin 32) (x : DWord) (fl : Byte) (last : Vector DWord 4) :
    (y.popInto i x fl last).scalarVal (.sca i) = x := by
  simp [Warp.scalarVal, Warp.popInto]

theorem tmod_tmod {α : Type} (t : Tab α) (k : Nat) (p q : α → α) : tmod (tmod t k p) k q = tmod t k (q ∘ p) := by
  simp only [tmod, List.map_map]
  refine List.map_congr_left (fun e _ => ?_)
  by_cases h : e.1 = k <;> simp [h]

theorem State.modWarp_modWarp (s : State) (g w : Nat) (p q : Warp → Warp) : (s.modWarp g w p).modWarp g w q = s.modWarp g w (q ∘ p) := by
  simp only [State.modWarp, State.modGroup, tmod_tmod]
  congr 2
  funext x
  simp [Group.modWarp, List.modify_modify_eq]

/-- A source that has been popped is read as the word. -/
theorem View.scalar1_of_popped {s : State} {h x : DWord} {i : Fin 32} {fl : Byte} {last : Vector DWord 4} (hd : v.Dst kScalarD false d ld)
    (ht : tyNarrow v.et = false) (ha : v.resolve kScalar false a = .ok (.sca i))
    (hs : v.sources [{ loc := .sca i, wait := wa, code := a.toCode.toNat }] = .ok (v.popped h s (v.y.popInto i x fl last))) :
    v.scalar1 d a wa f = .ok ((s.delPopWait (v.popWait h)).modWarp v.r.g v.r.w (fun _ => (v.y.popInto i x fl last).setScalar ld (f x))) := by
  have hr : (v.popped h s (v.y.popInto i x fl last)).destReady ld = .ok () := by
    have : (v.y.popInto i x fl last).fills ld = (v.popped h s (v.y.popInto i x fl last)).y.fills ld := rfl
    simp [View.destReady, ← this, Warp.popInto_fills hd.free]
  simp only [View.scalar1, View.rd, hd.names, ha, View.plainType_ok ht, hs, hr, Stop.ok_bind]
  simp only [View.popped, View.put, State.modWarp_modWarp, Warp.popInto_scalarVal]
  rfl

end

/-! ## The obligation -/

/-- A view of an issuing fragment stands over the state that it issues in. -/
theorem Issues.base_eq {s : State} {v : View} (h : Issues s v) : v.base = s := by
  obtain ⟨r, -, hv⟩ := Option.bind_eq_some_iff.mp h.sees
  exact (State.viewOf_spec hv).1

/-- An instruction that stops with a trap at issue of another cause than IDXBOUND. -/
theorem issue_trapped {s : State} {v : View} {k : View → Except Stop State} {code n : Nat} (h : Issues s v) (hk : k v = .error (v.trap code n))
    (hc : code ≠ cIDXBOUND) : issue s k = v.trapped code n v.f.mask :=
  issue_trap h hk (fun e => hc e.1)

theorem memoryCauses_ne_idxbound {k : Nat} (h : k ∈ memoryCauses) : k ≠ cIDXBOUND := by
  rintro rfl
  revert h
  decide

theorem Frag.strict_eq_false {f : Frag} {wait : Bool} {code : Nat} (h : wait = false ∨ f.nowait = some code) : f.strict wait code = false := by
  rcases h with h | h <;> simp [Frag.strict, h]

theorem Frag.strict_eq_true {f : Frag} {wait : Bool} {code : Nat} (hw : wait = true) (hn : f.nowait ≠ some code) : f.strict wait code = true := by
  simp [Frag.strict, hw, hn]

/-- Settles O60: each state of the source or the destination decides what `scalar1` answers, and that what the instruction comes to. -/
theorem operandReadiness : Obligations.OperandReadiness := by
  intro s v d a wa hi het e he waits code
  obtain ⟨f, hexec, hval⟩ := scalar1Table_exec he
  have ht : tyNarrow v.et = false := by simp [tyNarrow, het]
  have hbase := hi.base_eq
  rw [hexec]
  refine ⟨fun ld hd => ⟨fun la ha hp => ⟨fun hf hw => ?_, fun hf hw hn => ?_, fun hf => ?_, fun hf => ?_, fun hf => ?_⟩, fun n hn => ?_, fun hn => ?_,
    fun i h hai hm => ?_⟩, fun i la hdi ha hm hf => ?_, fun i h hdi hm => ?_⟩
  · rw [issue_wait hi (View.scalar1_of_sources_error hd ht ha (View.sources_empty_waits hf hp (Frag.strict_eq_false hw))), hbase]
  · exact issue_trapped hi (View.scalar1_of_sources_error hd ht ha (View.sources_empty_traps hf hp (Frag.strict_eq_true hw hn))) (by decide)
  · exact issue_trapped hi (View.scalar1_of_sources_error hd ht ha (View.sources_orphaned hf hp)) (by decide)
  · exact issue_trapped hi (View.scalar1_of_sources_error hd ht ha (View.sources_orphaned hf hp)) (by decide)
  · exact issue_trapped hi (View.scalar1_of_sources_error hd ht ha (View.sources_orphaned hf hp)) (by decide)
  · subst hn
    exact issue_trapped hi (View.scalar1_of_resolve_error hd rfl) (by decide)
  · subst hn
    exact issue_trapped hi (View.scalar1_of_resolve_error hd rfl) (by decide)
  · have ha : v.resolve kScalar false a = .ok (.sca i) := by rw [hai]; rfl
    intro me pop gives
    have hgives : ∀ u x fl last, v.sources [{ loc := .sca i, wait := wa, code := a.toCode.toNat }] = .ok (v.popped h u (v.y.popInto i x fl last)) →
        issue s (fun v => v.scalar1 d a wa (f v)) = gives u x fl last := by
      intro u x fl last hs
      rw [issue_eq hi, View.ordered_ok (View.scalar1_of_popped hd ht ha hs), hval]
      rfl
    refine ⟨fun u x hpop hturn => hgives u x _ _ ?_, fun hpop hx => hgives v.s 0 _ _ ?_, fun hpop hx => ?_,
      fun u x hpop => ⟨fun hw => ?_, fun hw hn => ?_⟩, fun va hpop => ?_, fun k n hpop => ?_⟩
    · exact View.sources_pop_got hm hpop hturn
    · exact View.sources_pop_dry hm hpop hx
    · exact issue_trapped hi (View.scalar1_of_sources_error hd ht ha (View.sources_pop_dry_traps hm hpop hx)) (by decide)
    · have hno : v.noWord h := hpop.imp id (fun hp => ⟨u, x, hp⟩)
      rw [issue_wait hi (View.scalar1_of_sources_error hd ht ha (View.sources_pop_waits hm hno (Frag.strict_eq_false hw))), hbase]
      rfl
    · have hno : v.noWord h := hpop.imp id (fun hp => ⟨u, x, hp⟩)
      exact issue_trapped hi (View.scalar1_of_sources_error hd ht ha (View.sources_pop_empty_traps hm hno (Frag.strict_eq_true hw hn))) (by decide)
    · rw [issue_wait hi (View.scalar1_of_sources_error hd ht ha (View.sources_pop_parks hm hpop)), hbase]
    · exact issue_trapped hi (View.scalar1_of_sources_error hd ht ha (View.sources_pop_fails hm hpop))
        (memoryCauses_ne_idxbound (State.popQueue_fail hpop))
  · have hd : v.resolveDst kScalarD false d = .ok (.sca i) := by
      simp only [hdi, View.resolveDst_scalar, hm, Option.isSome_none, Bool.false_eq_true, if_false]
    rw [issue_wait hi (View.scalar1_of_dst_empty hd ht ha (List.mem_singleton.mpr hf.symm)), hbase]
  · have hd : v.resolveDst kScalarD false d = .error (v.trap cILLOPND) := by
      simp only [hdi, View.resolveDst_scalar, hm, Option.isSome_some, if_true]
    exact issue_trapped hi (View.scalar1_of_dst_error hd) (by decide)

end Sys2Proof.Machine
end

section
/-! O55: sample words of each class (03 R50, 04 R90). A word written field by field is the encoding of its instruction, which decodes to it; a word of a
reserved major is none (04 R92). -/

namespace Sys2Proof

/-- 04 R90, R92: the majors 0xE and 0xF have no instruction, whatever the other fields hold. -/
theorem decodeWord_reservedMajor {w : Word} (h : 14 ≤ (w.extractLsb' 28 4).toNat) : decodeWord w = .error .reservedMajor := by
  unfold decodeWord
  generalize (w.extractLsb' 28 4).toNat = n at h
  obtain ⟨j, rfl⟩ := Nat.exists_eq_add_of_le' h
  rfl

/-- Settles O55: each sample word is the encoding of its instruction, and the last is of a reserved major. -/
theorem sampleWordsDecode : Obligations.SampleWordsDecode := by
  refine ⟨?exit, ?ldl2, ?saluAdd, ?valuFma, ?expr, ?bra, ?tretSkip, ?reserved⟩
  case reserved => exact decodeWord_reservedMajor (by decide)
  all_goals exact decodeWord_encode rfl

end Sys2Proof
end

section
/-! O15 and O16: system registers, HALT, TRET and TLBINV by the level that they run at (05 R106, R108, R110, R111, 15 R369, 19 R432), and words that
are no instruction (04 R92). -/

namespace Sys2Proof.Machine

section
variable {s t : State} {v : View}

/-! ## An instruction that leaves its warp as it is -/

theorem State.viewOf_warp {r : Ref} {y : Warp} (h : s.viewOf r = some v) (hy : v.s.warp v.r.g v.r.w = some y) : v.y = y := by
  unfold State.viewOf at h
  split at h
  · cases h
  · split at h
    · cases h
    · split at h
      · cases h
      · cases h
        exact congrArg (fun o => Option.getD o _) hy

/-- The completion of an instruction that changes no group: its warp takes no trap that it would not have taken before. -/
theorem issue_done_of_groups {k : View → Except Stop State} (h : Issues s v) (hk : k v = .ok t) (hg : t.groups = v.s.groups) :
    issue s k = .next (v.done t) := by
  obtain ⟨r, -, hv⟩ := Option.bind_eq_some_iff.mp h.sees
  refine issue_done h hk (fun y hy => ?_)
  rw [State.warp_congr hg] at hy
  rw [← State.viewOf_warp hv hy]
  exact h.calm

/-- The completion of an instruction, before the traps that its warp then takes. -/
theorem issue_finish {k : View → Except Stop State} (h : Issues s v) (hk : k v = .ok t) : issue s k = .next (v.finish (.ok t)) := by
  rw [issue_eq h, View.ordered_ok hk]

/-! ## The levels of the system registers (05 R108) -/

/-- 05 R108, R110: the registers that PL0 may not read. -/
theorem sysReadLevel_one {k : Nat} (h : (0x08 ≤ k ∧ k ≤ 0x0C) ∨ (0x12 ≤ k ∧ k ≤ 0x15) ∨ (0x18 ≤ k ∧ k ≤ 0x1B)) : sysReadLevel k = some 1 := by
  rw [sysReadLevel, if_neg (by omega), if_pos h]

/-- 05 R108: the numbers of the trap and context registers are not reserved. -/
theorem sysReadLevel_ne_none {k : Nat} (h : k ≤ 0x05 ∨ k = 0x07 ∨ (0x08 ≤ k ∧ k ≤ 0x0D) ∨ (0x10 ≤ k ∧ k ≤ 0x1B)) :
    (sysReadLevel k).isNone = false := by
  unfold sysReadLevel
  split
  · rfl
  · rw [if_pos (by omega)]
    rfl

theorem sysFixed_eq_false {k : Nat} (h : k < 2 ∨ 5 < k) : sysFixed k = false := by
  simp only [sysFixed, Bool.and_eq_false_iff, decide_eq_false_iff_not]
  omega

/-- 05 R110: PL0 writes FLAGS, MODE and NTHR alone. -/
theorem sysWritable_user {k : Nat} (h : (0x08 ≤ k ∧ k ≤ 0x0D) ∨ (0x10 ≤ k ∧ k ≤ 0x1B)) : sysWritable k 0 = false := by
  have hk : ¬(k = 0x00 ∨ k = 0x01 ∨ k = 0x07) := by omega
  simp [sysWritable, hk]

/-- 05 R110: PL2 writes every register that any level may write. -/
theorem sysWritable_context {k : Nat} {pl : BitVec 2} (h : ¬(0x08 ≤ k ∧ k ≤ 0x0B)) (hp : 2 ≤ pl.toNat) : sysWritable k pl = true := by
  have : 1 ≤ pl.toNat := by omega
  simp [sysWritable, h, hp, this]

/-! ## RDSYS and WRSYS (05 R110) -/

section
variable {d a : Opnd} {k : BitVec 7} {wa : Bool} {l : Loc}

theorem exec_rdsys_priv (h : Issues s v) (hd : v.resolveDst kSZ false d = .ok l) {p : Nat} (hk : sysReadLevel k.toNat = some p)
    (hp : v.y.plvl.toNat < p) : exec (.rdsys d k) s = v.trapped cPRIV k.toNat v.f.mask := by
  refine issue_trapped h ?_ (by decide)
  simp only [hd, Stop.ok_bind, hk, hp, if_true]

theorem exec_rdsys (h : Issues s v) (hd : v.Dst kSZ false d l) {p : Nat} (hk : sysReadLevel k.toNat = some p) (hp : p ≤ v.y.plvl.toNat) :
    exec (.rdsys d k) s = .next (v.done (v.put (v.y.setScalar l (BitVec.ofNat 64 (v.sysReg k.toNat))))) := by
  refine issue_put h ?_ (by simp) (by simp)
  simp only [hd.names, Stop.ok_bind, hk, Nat.not_lt.mpr hp, if_false, hd.ready]

theorem exec_wrsys_priv (h : Issues s v) (ha : v.resolve kSC false a = .ok l) (hk : (sysReadLevel k.toNat).isNone = false)
    (hf : sysFixed k.toNat = false) (hw : sysWritable k.toNat v.y.plvl = false) :
    exec (.wrsys k a wa) s = v.trapped cPRIV k.toNat v.f.mask := by
  refine issue_trapped h ?_ (by decide)
  simp [View.rd, ha, hk, hf, hw]

/-- 05 R110: WRSYS of FLAGS, which has seven bits. -/
theorem exec_wrsys_flags (h : Issues s v) (ha : v.Src kSC false a l) :
    exec (.wrsys 0x00 a wa) s = .next (v.done (v.put { v.y with flags := (v.y.scalarVal l).setWidth 8 &&& 0x7F#8 })) := by
  refine issue_put h ?_ rfl rfl
  simp only [ha.rd, View.sources_one ha.full ha.plain, Stop.ok_bind]
  rfl

/-- 05 R110, 03 R58: WRSYS of MODE with a value that MODE takes. -/
theorem exec_wrsys_mode (h : Issues s v) (ha : v.Src kSC false a l) (hm : modeCause ((v.y.scalarVal l).setWidth 23) = none) :
    exec (.wrsys 0x01 a wa) s = .next (v.done (v.put { v.y with mode := (v.y.scalarVal l).setWidth 23 })) := by
  refine issue_put h ?_ rfl rfl
  simp [ha.rd, View.sources_one ha.full ha.plain, sysReadLevel, sysFixed, sysWritable, hm]

/-- 05 R110: WRSYS of NTHR, which is held to its bounds. -/
theorem exec_wrsys_nthr (h : Issues s v) (ha : v.Src kSC false a l) :
    exec (.wrsys 0x07 a wa) s =
      .next (v.done (v.put { v.y with nthr := BitVec.ofNat 25 (max 32 (min (2 ^ 24) (v.y.scalarVal l).toNat)) })) := by
  refine issue_put h ?_ rfl rfl
  simp only [ha.rd, View.sources_one ha.full ha.plain, Stop.ok_bind]
  rfl

/-- 05 R108, R110: WRSYS of a context register; FLOGTAIL is a release and waits for the warp's earlier accesses. -/
theorem exec_wrsys_context (h : Issues s v) (ha : v.Src kSC false a l) (hk : k.toNat = 0x0C ∨ k.toNat = 0x0D ∨ (0x10 ≤ k.toNat ∧ k.toNat ≤ 0x1B))
    (hp : 2 ≤ v.y.plvl.toNat) (hr : k = 0x1A → v.s.releaseWaits v.r.g v.r.w (BitVec.allOnes 32) = false) :
    exec (.wrsys k a wa) s = .next (v.done (v.s.modCtx v.c (fun c => c.setReg k.toNat (v.y.scalarVal l).toNat))) := by
  have hlevel : (sysReadLevel k.toNat).isNone = false := sysReadLevel_ne_none (by omega)
  have hfixed : sysFixed k.toNat = false := sysFixed_eq_false (by omega)
  have hwrite : sysWritable k.toNat v.y.plvl = true := sysWritable_context (by omega) hp
  have hwait : ¬(k.toNat = 0x1A ∧ v.s.releaseWaits v.r.g v.r.w (BitVec.allOnes 32) = true) := fun hn => by
    have := hr (BitVec.eq_of_toNat_eq hn.1)
    simp_all
  refine issue_done_of_groups h ?_ (State.modCtx_groups ..)
  simp only [ha.rd, View.sources_one ha.full ha.plain, Stop.ok_bind, hlevel, hfixed, hwrite, Bool.false_eq_true, or_self, if_false, Bool.not_true]
  split
  · omega
  · omega
  · omega
  · rw [if_neg hwait]

end

/-! ## HALT, TRET and TLBINV at PL0 (05 R111, 15 R369, 19 R432) -/

theorem exec_halt_user (h : Issues s v) (hp : v.y.plvl = 0) : exec .halt s = v.trapped cPRIV 0 v.f.mask := by
  refine issue_trapped h ?_ (by decide)
  simp [hp]

theorem exec_halt_context (h : Issues s v) (hp : v.y.plvl = 1) :
    exec .halt s = .next (v.finish (.ok
      (if v.s.ctxs[v.c].st = .running ∨ v.s.ctxs[v.c].st = .ready then v.s.suspendCtx v.c else v.s))) := by
  refine issue_finish h ?_
  simp [hp]

theorem exec_halt_core (h : Issues s v) (hp : 2 ≤ v.y.plvl.toNat) :
    exec .halt s = .next (v.finish (.ok (v.s.modCore v.core (fun k => { k with halted := true })))) := by
  refine issue_finish h ?_
  split
  · omega
  · omega
  · rfl

theorem issue_tret_user (h : Issues s v) (hp : v.y.plvl = 0) (go : View → Kept → State) :
    issue s (fun v => v.tret (go v)) = v.trapped cPRIV 0 v.f.mask :=
  issue_trapped h (if_pos hp) (by decide)

theorem exec_tlbinv_user {a b : Opnd} {wa wb : Bool} {la lb : Loc} (h : Issues s v) (hp : v.y.plvl = 0) (ha : v.resolve kSx false a = .ok la)
    (hb : v.resolve kSxZ false b = .ok lb) : exec (.tlbinv a b wa wb) s = v.trapped cPRIV 0 v.f.mask := by
  refine issue_trapped h ?_ (by decide)
  simp only [View.rd, ha, hb, Stop.ok_bind, hp, if_true]

/-! ## Words that are no instruction (04 R92) -/

theorem exec_reservedEncoding_illop {w : Word} (h : Issues s v) (hw : decodeWord w = .error .reservedMajor ∨ decodeWord w = .error .reservedMinor) :
    exec (.reservedEncoding w) s = v.trapped cILLOP 0 v.f.mask := by
  show execReservedEncoding w s = _
  rcases hw with hw | hw <;> simp only [execReservedEncoding, hw] <;> exact issue_trapped h rfl (by decide)

theorem exec_reservedEncoding_tret {w : Word} (h : Issues s v) (hw : decodeWord w = .error .tretAction) :
    exec (.reservedEncoding w) s = v.trapped (if v.y.plvl = 0 then cPRIV else cILLOP) 0 v.f.mask := by
  show execReservedEncoding w s = _
  simp only [execReservedEncoding, hw]
  refine issue_trapped h rfl ?_
  split <;> decide

end

/-- Settles O15: each privileged instruction stops at its level before anything else, and a word that is no instruction at once. -/
theorem privilegeAndReservedTraps : Obligations.PrivilegeAndReservedTraps := by
  refine ⟨fun s v hi hp => ⟨?_, fun a b wa wb la lb ha hb => exec_tlbinv_user hi hp ha hb, fun d ld k hd hk => ?_, fun a la wa k ha hk => ?_⟩,
    fun s v w hi => ⟨exec_reservedEncoding_illop hi, exec_reservedEncoding_tret hi⟩⟩
  · have tret := issue_tret_user hi hp
    simp only [List.forall_mem_cons, List.not_mem_nil, false_imp_iff, implies_true, and_true]
    exact ⟨tret _, tret _, tret _, tret _, tret _, tret _, exec_halt_user hi hp⟩
  · exact exec_rdsys_priv hi hd (sysReadLevel_one hk) (by simp [hp])
  · exact exec_wrsys_priv hi ha (sysReadLevel_ne_none (by omega)) (sysFixed_eq_false (by omega)) (by rw [hp]; exact sysWritable_user hk)

/-- Settles O16: the levels allow the access, and the instruction completes with its value. -/
theorem systemRegisterResults : Obligations.SystemRegisterResults := by
  intro s v hi
  refine ⟨fun d ld k p hd hk hp => exec_rdsys hi hd hk hp, fun a la wa ha => ?_, exec_halt_context hi, exec_halt_core hi⟩
  exact ⟨exec_wrsys_flags hi ha, exec_wrsys_mode hi ha, exec_wrsys_nthr hi ha, fun k hk hp hr => exec_wrsys_context hi ha hk hp hr⟩

end Sys2Proof.Machine
end

section
/-! What leaves the STATE of every context: the writes that are due to a context, and the ends of records, copies, warps, groups and launches. So a
context that faults stays FAULTED and one that is destroyed DRAINING while its launches end (05 R101). -/

namespace Sys2Proof.Machine

/-- A fold whose every step keeps a part of its accumulator keeps that part. -/
theorem foldl_keeps {α β γ : Type} (p : α → γ) {f : α → β → α} (h : ∀ a b, p (f a b) = p a) (l : List β) (a : α) : p (l.foldl f a) = p a :=
  List.foldlRecOn (motive := fun b => p b = p a) l f rfl (fun b hb x _ => (h b x).trans hb)

/-! ## What changes no context -/

section
variable (s : State)

@[simp] theorem State.irq_ctxs (n : Nat) : (s.irq n).ctxs = s.ctxs := by
  unfold State.irq; split <;> rfl

@[simp] theorem State.addFault_ctxs (ctx page die : Nat) (host : Option Nat) : (s.addFault ctx page die host).ctxs = s.ctxs := by
  unfold State.addFault; split <;> rfl

@[simp] theorem State.engStore_ctxs (pa : Nat) (l : List Byte) : (s.engStore pa l).ctxs = s.ctxs := by
  induction l generalizing s pa with
  | nil => rfl
  | cons b l ih =>
    rw [State.engStore, ih, State.engPut]
    split <;> rfl

@[simp] theorem State.useRow_ctxs (p : Nat) : (s.useRow p).ctxs = s.ctxs := rfl

@[simp] theorem State.l2Touch_ctxs (p n : Nat) (write : Bool) : (s.l2Touch p n write).ctxs = s.ctxs := by
  simp only [State.l2Touch]
  split
  · rfl
  · split
    · rfl
    · split
      · split <;> rfl
      · rw [apply_ite State.ctxs, State.useRow_ctxs, ite_self]
        split
        · rw [apply_ite State.ctxs, State.useRow_ctxs, ite_self]
        · rfl

@[simp] theorem State.l2Access_ctxs (pa n : Nat) (write : Bool) : (s.l2Access pa n write).ctxs = s.ctxs := by
  unfold State.l2Access
  split
  · exact foldl_keeps State.ctxs (fun t i => State.l2Touch_ctxs ..) _ _
  · rfl

@[simp] theorem State.engPutBytes_ctxs (pa : Nat) (b : List Byte) : (s.engPutBytes pa b).ctxs = s.ctxs := by
  simp only [State.engPutBytes, State.l2Access_ctxs, State.engStore_ctxs]

@[simp] theorem State.recheckSignals_ctxs : s.recheckSignals.ctxs = s.ctxs := rfl
@[simp] theorem State.trimEngine_ctxs : s.trimEngine.ctxs = s.ctxs := rfl
@[simp] theorem State.discard_ctxs (g w : Nat) : (s.discard g w).ctxs = s.ctxs := rfl

@[simp] theorem State.clusterStep_ctxs (l p q : Nat) : (s.clusterStep l p q).ctxs = s.ctxs := by
  simp only [State.clusterStep]
  split
  · rfl
  · split <;> rfl

@[simp] theorem State.joinSettle_ctxs (g : Nat) : (s.joinSettle g).ctxs = s.ctxs := by
  unfold State.joinSettle
  split
  · rfl
  · split <;> rfl

@[simp] theorem State.settleSync_ctxs (g : Nat) : (s.settleSync g).ctxs = s.ctxs := by
  simp only [State.settleSync]
  split
  · rfl
  · split <;> simp

@[simp] theorem State.drainCheck_ctxs (l : Nat) : (s.drainCheck l).ctxs = s.ctxs := by
  simp only [State.drainCheck]
  split
  · rfl
  · split <;> rfl

theorem State.putPieces_ctxs {c : Fin 64} {l : List (Nat × List Byte)} {t : State} (h : s.putPieces c l = .ok t) : t.ctxs = s.ctxs := by
  induction l generalizing t with
  | nil => cases h; rfl
  | cons e l ih =>
    obtain ⟨va, b⟩ := e
    simp only [State.putPieces] at h
    split at h
    · split at h
      · cases h
      · split at h
        · rename_i u hu
          cases h
          rw [State.engPutBytes_ctxs, ih hu]
        · rename_i hno
          exact absurd h (hno t)
    all_goals cases h

/-- 17 R388: a store of the device changes no context. -/
theorem State.putVa_ctxs {c : Fin 64} {va : Nat} {b : List Byte} {t : State} (h : s.putVa c va b = .ok t) : t.ctxs = s.ctxs :=
  s.putPieces_ctxs h

end

/-! ## One context is changed (05 R98, R105) -/

section
variable (s : State) (c d : Fin 64)

theorem State.getElem_modCtx (k : Ctx → Ctx) : (s.modCtx c k).ctxs[d] = if d = c then k s.ctxs[c] else s.ctxs[d] := by
  simp only [State.modCtx, Fin.getElem_fin, Vector.getElem_set, eq_comm (a := d), Fin.ext_iff]

@[simp] theorem State.getElem_modCtx_self (k : Ctx → Ctx) : (s.modCtx c k).ctxs[c] = k s.ctxs[c] := by
  rw [State.getElem_modCtx, if_pos rfl]

variable {c d} in
theorem State.getElem_modCtx_of_ne (h : d ≠ c) (k : Ctx → Ctx) : (s.modCtx c k).ctxs[d] = s.ctxs[d] := by
  rw [State.getElem_modCtx, if_neg h]

/-- 05 R105: a notification changes nothing of the contexts but the count of notifications. -/
theorem State.notify_ctxs : (s.notify c).ctxs = (s.modCtx c (fun y => { y with notifyN := y.notifyN + 1 })).ctxs := by
  simp only [State.notify, State.irq_ctxs]
  split <;> rfl

/-- 05 R101, R105: a change of STATE. -/
theorem State.getElem_setCtx_self (st : CtxState) :
    (s.setCtx c st).ctxs[c] = { s.ctxs[c] with st := st, notifyN := (s.ctxs[c]).notifyN + 1 } := by
  have := congrArg (fun v => v[c]) (State.notify_ctxs (s.modCtx c (fun y => { y with st := st })) c)
  simpa only [State.setCtx, State.getElem_modCtx_self] using this

/-- STATE of a context. -/
def State.stOf (s : State) (c : Fin 64) : CtxState := (s.ctxs[c]).st

theorem State.stOf_congr {s t : State} (h : t.ctxs = s.ctxs) (d : Fin 64) : t.stOf d = s.stOf d := by
  simp only [State.stOf, h]

theorem State.stOf_modCtx {k : Ctx → Ctx} (h : ∀ x, (k x).st = x.st) : (s.modCtx c k).stOf d = s.stOf d := by
  simp only [State.stOf, State.getElem_modCtx]
  split
  · next hd => rw [h, hd]
  · rfl

@[simp] theorem State.stOf_notify : (s.notify c).stOf d = s.stOf d := by
  rw [State.stOf_congr (State.notify_ctxs s c)]
  exact State.stOf_modCtx _ _ _ (fun _ => by rfl)

@[simp] theorem State.stOf_setCtx_self (st : CtxState) : (s.setCtx c st).stOf c = st := by
  simp only [State.stOf, State.getElem_setCtx_self]

/-! ## What leaves the STATE of every context -/

@[simp] theorem State.stOf_owe (o : Owed) : (s.owe c o).stOf d = s.stOf d := State.stOf_modCtx _ _ _ (fun _ => rfl)

@[simp] theorem State.stOf_log (cause source node unit addr ref mask : Nat) :
    (s.log c cause source node unit addr ref mask).stOf d = s.stOf d := State.stOf_owe ..

@[simp] theorem State.stOf_loseLog : (s.loseLog c).stOf d = s.stOf d := State.stOf_modCtx _ _ _ (fun _ => rfl)

@[simp] theorem State.stOf_binds (b : Tab Binding) : ({ s with binds := b } : State).stOf d = s.stOf d := rfl

@[simp] theorem State.stOf_modGroup (g : Nat) (k : Group → Group) : (s.modGroup g k).stOf d = s.stOf d := rfl

@[simp] theorem State.stOf_modWarp (g w : Nat) (k : Warp → Warp) : (s.modWarp g w k).stOf d = s.stOf d := rfl

@[simp] theorem State.stOf_trimEngine : s.trimEngine.stOf d = s.stOf d := State.stOf_congr s.trimEngine_ctxs d

/-! ### Records (17 R386 to R389) -/

@[simp] theorem State.stOf_putRec (id slot : Nat) (r : Rec) : (s.putRec id slot r).stOf d = s.stOf d := by
  simp only [State.putRec]
  split
  · rfl
  · split
    · rfl
    · split <;> simp

@[simp] theorem State.stOf_endRec (id slot : Nat) (r : Rec) : (s.endRec id slot r).stOf d = s.stOf d := by
  simp only [State.endRec, State.stOf_binds, State.stOf_putRec]

@[simp] theorem State.stOf_dropRec (id slot cause addr : Nat) (logged : Bool) : (s.dropRec id slot cause addr logged).stOf d = s.stOf d := by
  simp only [State.dropRec]
  split
  · rfl
  · split
    · rfl
    · split <;> simp

@[simp] theorem State.stOf_failRec (id slot cause addr : Nat) : (s.failRec c id slot cause addr).stOf d = s.stOf d := by
  simp only [State.failRec]
  split
  · simp [State.stOf_modCtx]
  · split <;> simp [State.stOf_modCtx]

@[simp] theorem State.stOf_freeRec (id slot : Nat) : (s.freeRec id slot).stOf d = s.stOf d := by
  simp only [State.freeRec]
  split
  · rfl
  · split
    · rfl
    · split <;> simp

@[simp] theorem State.stOf_returnRec (h : Held) (cause : Nat) (abort : Bool) : (s.returnRec h cause abort).stOf d = s.stOf d := by
  simp only [State.returnRec]
  split
  · rfl
  · split
    · rfl
    · split
      · rfl
      · split
        · exact State.stOf_putRec ..
        · split
          · exact State.stOf_putRec ..
          · exact State.stOf_dropRec ..

@[simp] theorem State.stOf_endBind (id : Nat) : (s.endBind id).stOf d = s.stOf d := by
  simp only [State.endBind]
  split
  · rfl
  · rw [State.stOf_binds, foldl_keeps (State.stOf · d) (fun t e => State.stOf_freeRec ..)]
    refine foldl_keeps (State.stOf · d) (fun t e => ?_) _ _
    split
    · rfl
    · exact State.stOf_dropRec ..

@[simp] theorem State.stOf_endBinds (l : Nat) : (s.endBinds l).stOf d = s.stOf d := by
  refine foldl_keeps (State.stOf · d) (fun t e => ?_) _ _
  split
  · exact State.stOf_endBind ..
  · rfl

/-! ### Writes that are due (05 R104) -/

/-- The state after a due write, whatever became of it. -/
def Pay.state : Pay → State
  | .done t => t
  | .park t => t
  | .fault t _ => t

theorem State.stOf_pay (o : Owed) : (s.pay c o).state.stOf d = s.stOf d := by
  cases o with
  | log b =>
    simp only [State.pay]
    split
    · exact State.stOf_loseLog ..
    · split
      · next h =>
        simp only [Pay.state, State.stOf_notify]
        exact (State.stOf_modCtx _ _ _ (fun _ => by rfl)).trans (State.stOf_congr (s.putVa_ctxs h) d)
      · simp [Pay.state]
      · exact State.stOf_congr (State.addFault_ctxs ..) d
      · simp [Pay.state]
  | signal a v =>
    simp only [State.pay]
    split
    · split
      · exact State.stOf_log ..
      · exact State.stOf_congr ((State.recheckSignals_ctxs _).trans (State.engPutBytes_ctxs ..)) d
    · exact State.stOf_log ..
    · exact State.stOf_congr (State.addFault_ctxs ..) d
    · exact State.stOf_log ..
  | detach q g w =>
    simp only [State.pay]
    split
    · split
      · rfl
      · exact State.stOf_congr (State.engPutBytes_ctxs ..) d
    · exact State.stOf_congr (State.addFault_ctxs ..) d
    · rfl
    · rfl
  | slot a b id slot =>
    simp only [State.pay]
    split
    · next h => exact State.stOf_congr (s.putVa_ctxs h) d
    · exact State.stOf_failRec ..
    · exact State.stOf_congr (State.addFault_ctxs ..) d
    · rfl

theorem State.stOf_payAll (n : Nat) : (State.payAll n s c).1.stOf d = s.stOf d := by
  induction n generalizing s with
  | zero => rfl
  | succ n ih =>
    rw [State.payAll]
    split
    · rfl
    · next o r _ =>
      have hpay := State.stOf_pay (s.modCtx c (fun y => { y with owed := r })) c d o
      replace hpay := hpay.trans (State.stOf_modCtx _ _ _ (fun _ => by rfl))
      split
      · next t ht => rw [ih, ← hpay, ht]; rfl
      · next t ht => rw [← hpay, ht]; exact State.stOf_modCtx _ _ _ (fun _ => by rfl)
      · next t k ht => rw [← hpay, ht]; rfl

@[simp] theorem State.stOf_paid : (s.paid c).stOf d = s.stOf d := State.stOf_payAll ..

/-! ### The ends of copies, warps, groups and launches (07 R140 to R142, 08 R163, R164, 12 R292) -/

@[simp] theorem State.stOf_endCopy (id : Nat) (st : CopyState) (cause addr : Nat) : (s.endCopy id st cause addr).stOf d = s.stOf d := by
  simp only [State.endCopy]
  split
  · rfl
  · split
    · rfl
    · split
      · split
        · exact State.stOf_log ..
        · rfl
      · rfl

@[simp] theorem State.stOf_cancelCopies (p : Copy → Bool) : (s.cancelCopies p).stOf d = s.stOf d := by
  refine foldl_keeps (State.stOf · d) (fun t e => ?_) _ _
  split
  · exact State.stOf_endCopy ..
  · rfl

/-- 10 R229: blocks that go back to the Hod. -/
@[simp] theorem State.stOf_giveBack (y : Warp) (l : List (Nat × Nat)) :
    (s.modCtx c (fun k => (k.freeBlocks y).giveBack l)).stOf d = s.stOf d := by
  refine State.stOf_modCtx _ _ _ (fun x => ?_)
  unfold Ctx.giveBack
  split <;> rfl

@[simp] theorem State.stOf_endWarp (g w cause : Nat) (abort : Bool) : (s.endWarp g w cause abort).stOf d = s.stOf d := by
  simp only [State.endWarp]
  split
  · split
    · rfl
    · rw [State.stOf_congr (State.settleSync_ctxs ..), State.stOf_trimEngine, State.stOf_modGroup, State.stOf_modWarp,
        State.stOf_congr (State.discard_ctxs ..), State.stOf_giveBack,
        foldl_keeps (State.stOf · d) (fun t q => State.stOf_owe ..)]
      split
      · exact State.stOf_returnRec ..
      · rfl
  · rfl

@[simp] theorem State.stOf_freeImage (g : Nat) : (s.freeImage g).stOf d = s.stOf d := by
  simp only [State.freeImage]
  split
  · rfl
  · split
    · exact State.stOf_modCtx _ _ _ (fun _ => by rfl)
    · rfl

/-- 08 R163: what a killed group has lost, before its cluster and its launch go on without it. -/
theorem State.stOf_killed (g : Nat) (l : List Nat) (p : Copy → Bool) (cause : Nat) (abort : Bool) (k : Group → Group) :
    ((((l.foldl (fun t w => t.endWarp g w cause abort) (s.cancelCopies p)).freeImage g).modGroup g k).trimEngine).stOf d = s.stOf d := by
  rw [State.stOf_trimEngine, State.stOf_modGroup, State.stOf_freeImage, foldl_keeps (State.stOf · d) (fun t w => State.stOf_endWarp ..),
    State.stOf_cancelCopies]

@[simp] theorem State.stOf_killGroup (g cause : Nat) (abort : Bool) : (s.killGroup g cause abort).stOf d = s.stOf d := by
  simp only [State.killGroup]
  split
  · rfl
  · split
    · rfl
    · rw [State.stOf_congr (State.drainCheck_ctxs ..)]
      split
      · rw [State.stOf_congr (State.clusterStep_ctxs ..), State.stOf_killed]
      · rw [State.stOf_killed]

@[simp] theorem State.stOf_complete (k : Kernel) (v : Nat) : (s.complete k v).stOf d = s.stOf d := by
  simp only [State.complete]
  split
  · rfl
  · split <;> simp

@[simp] theorem State.stOf_endLaunch (l : Nat) (st : LaunchState) (signal : Bool) : (s.endLaunch l st signal).stOf d = s.stOf d := by
  simp only [State.endLaunch]
  split
  · rfl
  · split
    · rw [State.stOf_complete]
      exact State.stOf_endBinds ..
    · exact State.stOf_endBinds ..

@[simp] theorem State.stOf_abortLaunch (l : Nat) (signal : Bool) : (s.abortLaunch l signal).stOf d = s.stOf d := by
  have hkill : (s.groups.foldl (fun t e => if e.2.launch = l then t.killGroup e.1 0 true else t) s).stOf d = s.stOf d := by
    refine foldl_keeps (State.stOf · d) (fun t e => ?_) _ _
    split
    · exact State.stOf_killGroup ..
    · rfl
  simp only [State.abortLaunch]
  split
  · rfl
  · split
    · split
      · exact (State.stOf_endBinds ..).trans ((State.stOf_cancelCopies ..).trans hkill)
      · rw [State.stOf_endLaunch, State.stOf_cancelCopies, hkill]
    · rfl

/-- The launches of a context are aborted, as a fault and DESTROY abort them. -/
theorem State.stOf_abortLaunches (l : Tab Launch) (signal : Bool) :
    (l.foldl (fun t e => if cfin e.2.k.ctx = c then t.abortLaunch e.1 signal else t) s).stOf d = s.stOf d := by
  refine foldl_keeps (State.stOf · d) (fun t e => ?_) _ _
  split
  · exact State.stOf_abortLaunch ..
  · rfl

/-- 05 R101: a READY, RUNNING or SUSPENDED context that faults is FAULTED. -/
theorem State.stOf_faultContext (h : (s.ctxs[c]).st.runs = true) (cause source unit addr ref mask : Nat) :
    (s.faultContext c cause source unit addr ref mask).stOf c = .faulted := by
  rw [State.faultContext, State.faultFrom, if_pos h]
  exact (State.stOf_paid ..).trans ((State.stOf_log ..).trans
    ((State.stOf_cancelCopies ..).trans ((State.stOf_abortLaunches ..).trans (State.stOf_setCtx_self ..))))

/-- 05 R101: a context that is destroyed while it can run is DRAINING, and its queues are UNBOUND. -/
theorem State.stOf_destroyCtx : (s.destroyCtx c).stOf c = .draining :=
  (State.stOf_cancelCopies ..).trans ((State.stOf_abortLaunches ..).trans (State.stOf_setCtx_self ..))

end
end Sys2Proof.Machine
end

section
/-! O41: the context commands (05 R97 to R103). What each command of CTXCMD comes to in the states that its table lists; what it leaves in the others. -/

namespace Sys2Proof.Machine

/-! ## The descriptor window (05 R97) -/

/-- No byte below the first listed one is listed. -/
theorem Memory.get_below {m : Memory} {lo a : Nat} (hm : Memory.wfFrom lo m = true) (ha : a < lo) : Memory.get m a = 0 := by
  cases m with
  | nil => rfl
  | cons e r =>
    obtain ⟨k, y⟩ := e
    simp only [Memory.wfFrom, Bool.and_eq_true, decide_eq_true_eq] at hm
    obtain ⟨⟨hlo, -⟩, -⟩ := hm
    rw [Memory.get, if_neg (by omega), if_pos (by omega)]

theorem Memory.get_filter {m : Memory} {lo : Nat} (p : Nat → Bool) (a : Nat) (hm : Memory.wfFrom lo m = true) :
    Memory.get (m.filter (fun (e : Host.Cell) => p e.1)) a = if p a = true then Memory.get m a else 0 := by
  induction m generalizing lo with
  | nil => simp [Memory.get]
  | cons e r ih =>
    obtain ⟨k, y⟩ := e
    simp only [Memory.wfFrom, Bool.and_eq_true, decide_eq_true_eq] at hm
    obtain ⟨-, hr⟩ := hm
    have hbelow : a < k → Memory.get r a = 0 := fun h => Memory.get_below hr (by omega)
    by_cases hk : p k = true
    · rw [List.filter_cons_of_pos (p := fun (e : Host.Cell) => p e.1) hk, Memory.get, Memory.get, ih hr]
      by_cases h : k = a
      · subst h; simp [hk]
      · by_cases h2 : a < k <;> simp [h, h2]
    · rw [List.filter_cons_of_neg (p := fun (e : Host.Cell) => p e.1) hk, Memory.get, ih hr]
      by_cases h : k = a
      · subst h; simp [hk]
      · by_cases h2 : a < k
        · simp [h, h2, hbelow h2]
        · simp [h, h2]

/-- Cleared bytes read 0, the others as before. -/
theorem Memory.get_clear {m : Memory} (lo n a : Nat) (hm : Memory.wf m = true) :
    Memory.get (Memory.clear m lo n) a = if lo ≤ a ∧ a < lo + n then 0 else Memory.get m a := by
  rw [Memory.clear, Memory.get_filter (fun k => decide (k < lo) || decide (lo + n ≤ k)) a hm]
  by_cases h : lo ≤ a ∧ a < lo + n
  · rw [if_pos h, if_neg (by simp; omega)]
  · rw [if_neg h, if_pos (by simp; omega)]

/-! ## A command of CTXCMD (05 R98) -/

section
variable {s : State} {c : Fin 64} {cmd : Nat} {act : State → State}

theorem State.ctxCmd_of_not_ready (h : s.life.stat ≠ .ready) : s.ctxCmd c cmd act = s := by
  simp [State.ctxCmd, State.open_, h]

/-- 05 R98: a command that the state table lists clears ERR and acts. -/
theorem State.ctxCmd_of_allowed (h : s.life.stat = .ready) (ha : (s.ctxs[c]).st.allows cmd = true) : s.ctxCmd c cmd act = act (s.setErr c 0) := by
  rw [State.ctxCmd, if_neg (by simp [State.open_, h]), if_pos ha]

theorem next_ctxCmd (h : s.life.stat = .ready) (ha : (s.ctxs[c]).st.allows cmd = true) :
    (.next (s.ctxCmd c cmd act) : Host.Outcome State Fault Refusal) = .next (act (s.setErr c 0)) := by
  rw [State.ctxCmd_of_allowed h ha]

@[simp] theorem State.setErr_self (e : Nat) : (s.setErr c e).ctxs[c] = { s.ctxs[c] with err := e } := State.getElem_modCtx_self ..

theorem State.setErr_of_ne {d : Fin 64} (h : d ≠ c) (e : Nat) : (s.setErr c e).ctxs[d] = s.ctxs[d] := State.getElem_modCtx_of_ne _ h _

@[simp] theorem State.stOf_setErr (d : Fin 64) (e : Nat) : (s.setErr c e).stOf d = s.stOf d := State.stOf_modCtx _ _ _ (fun _ => rfl)

/-- 20 R440: on a device that is not READY the commands change nothing. -/
theorem exec_ctxCommands_of_not_ready (h : s.life.stat ≠ .ready) (code : BitVec 3) :
    exec (.create c) s = .next s ∧ exec (.commit c) s = .next s ∧ exec (.suspend c) s = .next s ∧ exec (.resume c) s = .next s ∧
      exec (.destroy c) s = .next s ∧ exec (.release c) s = .next s ∧ exec (.ctxcmdBadcmd c code) s = .next s := by
  have drops : ∀ n f, (.next (s.ctxCmd c n f) : Host.Outcome State Fault Refusal) = .next s := fun n f => by
    rw [State.ctxCmd_of_not_ready h]
  refine ⟨drops .., drops .., drops .., drops .., drops .., drops .., ?_⟩
  show execCtxcmdBadcmd c code s = _
  simp [execCtxcmdBadcmd, State.open_, h]

/-! ### CREATE -/

/-- 05 R101: CREATE makes a FREE context BUILDING, with a descriptor window of zeros. -/
theorem exec_create (h : s.life.stat = .ready) (hst : (s.ctxs[c]).st = .free) :
    ∃ t, exec (.create c) s = .next t ∧ (t.ctxs[c]).st = .building ∧ (t.ctxs[c]).err = 0 ∧ (∀ d, d ≠ c → t.ctxs[d] = s.ctxs[d]) ∧
      (Memory.wf s.bar0 = true → ∀ a, Memory.get t.bar0 a = if descAt c ≤ a ∧ a < descAt c + 128 then 0 else Memory.get s.bar0 a) := by
  refine ⟨_, next_ctxCmd (cmd := 1) h (by rw [hst]; rfl), ?_, ?_, fun d hd => ?_, fun hw a => Memory.get_clear _ _ _ hw⟩
  · rw [State.getElem_modCtx_self]
  · rw [State.getElem_modCtx_self]; rfl
  · rw [State.getElem_modCtx_of_ne _ hd]
    exact State.setErr_of_ne hd 0

/-! ### COMMIT (05 R97, R99, R100) -/

theorem State.descriptor_setErr (e : Nat) : (s.setErr c e).descriptor c = { s.descriptor c with err := e } := by
  simp only [State.descriptor, State.setErr_self]
  rfl

theorem State.descOk_setErr (e : Nat) : (s.setErr c e).descOk c = s.descOk c := by
  simp only [State.descOk, State.descriptor_setErr]
  rfl

theorem State.saveUsed_setErr (e : Nat) : (s.setErr c e).saveUsed = s.saveUsed := by
  have key : ∀ i : Fin 64, (s.setErr c e).ctxs[i].st = s.ctxs[i].st ∧ (s.setErr c e).ctxs[i].savesize = s.ctxs[i].savesize := fun i => by
    by_cases hi : i = c
    · subst hi; simp only [State.setErr_self, and_self]
    · rw [State.setErr_of_ne hi]; exact ⟨rfl, rfl⟩
  unfold State.saveUsed
  congr 1
  refine List.ext_getElem (by simp) (fun i hi _ => ?_)
  have hlt : i < 64 := by simpa using hi
  obtain ⟨hst, hsize⟩ := key ⟨i, hlt⟩
  simp only [Fin.getElem_fin] at hst hsize
  simp only [List.getElem_map, Vector.getElem_toList, hst, hsize]

/-- 05 R99: a context that COMMIT has made READY stays so, unless the notification of the change faults. -/
theorem State.notifyFault_of_ok (h : notifyOk (s.ctxs[c]).notify = true) : s.notifyFault c = s := if_pos h

theorem State.stOf_notifyFault_of_bad (h : notifyOk (s.ctxs[c]).notify = false) (hst : (s.ctxs[c]).st.runs = true) : (s.notifyFault c).stOf c = .faulted := by
  rw [State.notifyFault, if_neg (by rw [h]; decide)]
  exact State.stOf_faultContext _ _ hst ..

/-- 05 R99, R100: the state in which COMMIT has latched the descriptor of a context and made it READY. -/
def State.latched (s : State) (c : Fin 64) : State :=
  (s.modCtx c (fun _ => { s.descriptor c with
    err := 0, floghead := 0, flogtail := 0, floglost := 0, suspending := false, blocks := [], heapDue := [], imaged := 0, drains := 0, owed := [] })).setCtx
      c .ready

theorem State.commitCtx_latched (hok : s.descOk c = true) (hroom : s.saveUsed + (s.descriptor c).savesize ≤ s.life.savepool) :
    s.commitCtx c = (s.latched c).notifyFault c := by
  rw [State.commitCtx, hok, if_neg (by decide), if_neg (Nat.not_lt.mpr hroom)]
  rfl

theorem State.commitCtx_badDesc (hbad : s.descOk c = false) : s.commitCtx c = s.setErr c 2 := by
  rw [State.commitCtx, hbad]
  rfl

theorem State.commitCtx_noRoom (hok : s.descOk c = true) (hfull : s.life.savepool < s.saveUsed + (s.descriptor c).savesize) :
    s.commitCtx c = s.setErr c 3 := by
  rw [State.commitCtx, hok, if_neg (by decide), if_pos hfull]

theorem State.latched_self : (s.latched c).ctxs[c] =
    { s.descriptor c with
      st := .ready, err := 0, floghead := 0, flogtail := 0, floglost := 0, suspending := false, blocks := [], heapDue := [], imaged := 0, drains := 0,
      owed := [], notifyN := (s.descriptor c).notifyN + 1 } := by
  simp only [State.latched, State.getElem_setCtx_self, State.getElem_modCtx_self]

/-- 05 R98, R99, R100: COMMIT latches the descriptor of a BUILDING context and makes it READY, or sets ERR. -/
theorem exec_commit (h : s.life.stat = .ready) (hst : (s.ctxs[c]).st = .building) :
    ∃ t, exec (.commit c) s = .next t ∧
      (s.descOk c = true → s.saveUsed + s.bar (descAt c + 0x28) 8 ≤ s.life.savepool →
        (notifyOk (s.bar (descAt c + 0x60) 8) = true →
          (t.ctxs[c]).st = .ready ∧ (t.ctxs[c]).err = 0 ∧ (t.ctxs[c]).ptroot = s.bar (descAt c) 8 ∧ (t.ctxs[c]).tvec = s.bar (descAt c + 0x18) 8 ∧
          (t.ctxs[c]).savesize = s.bar (descAt c + 0x28) 8 ∧ (t.ctxs[c]).quantum = s.bar (descAt c + 0x54) 4) ∧
        (notifyOk (s.bar (descAt c + 0x60) 8) = false → (t.ctxs[c]).st = .faulted)) ∧
      (s.descOk c = false → t.ctxs[c] = { s.ctxs[c] with err := 2 }) ∧
      (s.descOk c = true → s.life.savepool < s.saveUsed + s.bar (descAt c + 0x28) 8 → t.ctxs[c] = { s.ctxs[c] with err := 3 }) := by
  have hrun : exec (.commit c) s = .next ((s.setErr c 0).commitCtx c) := next_ctxCmd (cmd := 2) h (by rw [hst]; rfl)
  have hself := State.latched_self (s := s.setErr c 0) (c := c)
  have hlife : (s.setErr c 0).life = s.life := rfl
  have hsize : (s.descriptor c).savesize = s.bar (descAt c + 0x28) 8 := rfl
  have hnotify : (s.descriptor c).notify = s.bar (descAt c + 0x60) 8 := rfl
  rw [State.descriptor_setErr] at hself
  rw [← hsize, ← hnotify]
  refine ⟨_, hrun, fun hok hroom => ?_, fun hbad => ?_, fun hok hfull => ?_⟩
  · rw [State.commitCtx_latched ((State.descOk_setErr 0).trans hok) (by rwa [State.saveUsed_setErr, State.descriptor_setErr, hlife])]
    refine ⟨fun hn => ?_, fun hn => ?_⟩
    · rw [State.notifyFault_of_ok (by rwa [hself]), hself]
      exact ⟨rfl, rfl, rfl, rfl, rfl, rfl⟩
    · exact State.stOf_notifyFault_of_bad (by rwa [hself]) (by rw [hself]; rfl)
  · rw [State.commitCtx_badDesc ((State.descOk_setErr 0).trans hbad), State.setErr_self, State.setErr_self]
  · rw [State.commitCtx_noRoom ((State.descOk_setErr 0).trans hok) (by rwa [State.saveUsed_setErr, State.descriptor_setErr, hlife]),
      State.setErr_self, State.setErr_self]

/-! ### SUSPEND and RESUME (05 R101, R103) -/

/-- 05 R101: SUSPEND of a READY context. -/
theorem exec_suspend_ready (h : s.life.stat = .ready) (hst : (s.ctxs[c]).st = .ready) :
    ∃ t, exec (.suspend c) s = .next t ∧ (t.ctxs[c]).st = .suspended := by
  refine ⟨_, next_ctxCmd (cmd := 3) h (by rw [hst]; rfl), ?_⟩
  have hu : (((s.setErr c 0).discardLoaded c).ctxs[c]).st = .ready := (State.stOf_setErr c 0).trans hst
  rw [State.suspendCtx, if_pos hu]
  exact State.stOf_setCtx_self ..

/-- The groups of a context are pre-empted, as a listing of groups names them. -/
def State.preemptOf (c : Fin 64) (t : State) (e : Nat × Group) : State := if cfin e.2.ctx = c then t.preempt e.1 else t

@[simp] theorem State.preemptOf_ctxs (t : State) (e : Nat × Group) : (t.preemptOf c e).ctxs = t.ctxs := by
  unfold State.preemptOf; split <;> rfl

/-- 08 R163: a group that begins to be pre-empted keeps its place. -/
theorem State.preemptOf_places (t : State) (e : Nat × Group) :
    (t.preemptOf c e).groups.map (fun e => (e.2.ctx, e.2.onCore)) = t.groups.map (fun e => (e.2.ctx, e.2.onCore)) := by
  unfold State.preemptOf
  split
  · simp only [State.preempt, State.modGroup_groups, tmod, List.map_map]
    refine List.map_congr_left (fun x _ => ?_)
    by_cases hk : x.1 = e.1
    · by_cases hr : x.2.st = .resident <;> simp [hk, hr, Group.onCore]
    · simp [hk]
  · rfl

/-- A group that stays RESIDENT is one that was, and no group of the context that the listing names. -/
theorem State.resident_of_preemptOf {l : Tab Group} {t : State} {e : Nat × Group} (he : e ∈ (l.foldl (State.preemptOf c) t).groups)
    (hr : e.2.st = .resident) : e ∈ t.groups ∧ ∀ f ∈ l, f.1 = e.1 → cfin f.2.ctx ≠ c := by
  induction l generalizing t with
  | nil => exact ⟨he, by simp⟩
  | cons f l ih =>
    obtain ⟨hmem, hl⟩ := ih he
    unfold State.preemptOf at hmem
    split at hmem
    · simp only [State.preempt, State.modGroup_groups, tmod, List.mem_map] at hmem
      obtain ⟨x, hx, rfl⟩ := hmem
      have hk : x.1 ≠ f.1 := fun hk => by
        by_cases hres : x.2.st = .resident <;> simp [hk, hres] at hr
      rw [if_neg hk] at hl ⊢
      refine ⟨hx, fun g hg hge => ?_⟩
      rcases List.mem_cons.mp hg with rfl | hg
      · exact absurd hge.symm hk
      · exact hl g hg hge
    · next hf =>
      refine ⟨hmem, fun g hg hge => ?_⟩
      rcases List.mem_cons.mp hg with rfl | hg
      · exact hf
      · exact hl g hg hge

/-- 05 R103: while a group of the context is on a core, its suspension is not over. -/
theorem State.suspendCheck_of_onCore (h : ∃ e ∈ s.groups, cfin e.2.ctx = c ∧ e.2.onCore = true) : s.suspendCheck c = s := by
  obtain ⟨e, he, hc, hon⟩ := h
  refine if_neg (fun ⟨_, hall⟩ => ?_)
  have := List.all_eq_true.mp hall e he
  simp [hc, hon] at this

/-- 05 R101, R103: SUSPEND of a RUNNING context with groups on cores begins to pre-empt them. -/
theorem exec_suspend_running (h : s.life.stat = .ready) (hst : (s.ctxs[c]).st = .running)
    (hon : ∃ e ∈ s.groups, cfin e.2.ctx = c ∧ e.2.onCore = true) :
    ∃ t, exec (.suspend c) s = .next t ∧ (t.ctxs[c]).st = .running ∧ (t.ctxs[c]).suspending = true ∧
      ∀ e ∈ t.groups, cfin e.2.ctx = c → e.2.st ≠ .resident := by
  refine ⟨_, next_ctxCmd (cmd := 3) h (by rw [hst]; rfl), ?_⟩
  have hu : (((s.setErr c 0).discardLoaded c).ctxs[c]).st = .running := (State.stOf_setErr c 0).trans hst
  generalize hv : ((s.setErr c 0).discardLoaded c).modCtx c (fun x => { x with suspending := true }) = v
  have hgroups : v.groups = s.groups := by rw [← hv]; rfl
  have hctx : v.ctxs[c] = { ((s.setErr c 0).discardLoaded c).ctxs[c] with suspending := true } := by rw [← hv, State.getElem_modCtx_self]
  have hplaces := foldl_keeps (fun t : State => t.groups.map (fun e => (e.2.ctx, e.2.onCore))) (fun t e => State.preemptOf_places (c := c) t e) v.groups v
  have hkeeps : (v.groups.foldl (State.preemptOf c) v).ctxs = v.ctxs := foldl_keeps State.ctxs (fun t e => State.preemptOf_ctxs t e) ..
  have hfinal : (s.setErr c 0).suspendCtx c = v.groups.foldl (State.preemptOf c) v := by
    rw [State.suspendCtx, if_neg (by rw [hu]; decide), hv]
    refine State.suspendCheck_of_onCore ?_
    obtain ⟨e, he, hc, hcore⟩ := hon
    have hin : (e.2.ctx, e.2.onCore) ∈ v.groups.map (fun e => (e.2.ctx, e.2.onCore)) := List.mem_map.mpr ⟨e, by rwa [hgroups], rfl⟩
    rw [← hplaces] at hin
    obtain ⟨e', he', heq⟩ := List.mem_map.mp hin
    obtain ⟨hctx', hcore'⟩ := Prod.mk.inj heq
    exact ⟨e', he', by rw [hctx', hc], by rw [hcore', hcore]⟩
  rw [hfinal, hkeeps, hctx]
  refine ⟨hu, rfl, fun e he hc hr => ?_⟩
  obtain ⟨hmem, hnot⟩ := State.resident_of_preemptOf he hr
  exact hnot e hmem rfl hc

/-- 05 R101: RESUME of a SUSPENDED context. -/
theorem exec_resume (h : s.life.stat = .ready) (hst : (s.ctxs[c]).st = .suspended) :
    ∃ t, exec (.resume c) s = .next t ∧ (t.ctxs[c]).st =
      if s.groups.any (fun e => decide (cfin e.2.ctx = c) && (decide (e.2.st = .saved) || decide (e.2.st = .waiting))) then .running else .ready :=
  ⟨_, next_ctxCmd (cmd := 4) h (by rw [hst]; rfl), State.stOf_setCtx_self ..⟩

/-! ### DESTROY and RELEASE (05 R101) -/

theorem State.stOf_freeCtx : (s.freeCtx c).stOf c = .free := by
  simp only [State.freeCtx, State.stOf, State.getElem_modCtx_self]
  rfl

/-- 05 R101: DESTROY of a BUILDING context. -/
theorem exec_destroy_building (h : s.life.stat = .ready) (hst : (s.ctxs[c]).st = .building) :
    ∃ t, exec (.destroy c) s = .next t ∧ (t.ctxs[c]).st = .free := by
  refine ⟨_, next_ctxCmd (cmd := 5) h (by rw [hst]; rfl), ?_⟩
  have hb : ((s.setErr c 0).ctxs[c]).st = .building := (State.stOf_setErr c 0).trans hst
  rw [if_pos hb]
  exact State.stOf_freeCtx

/-- 06 R120: the queues of a destroyed context are UNBOUND. -/
theorem State.destroyCtx_queues {q : Fin 256} (hq : cfin ((s.destroyCtx c).queues[q]).ctx = c) : ((s.destroyCtx c).queues[q]).st = .unbound := by
  simp only [State.destroyCtx, State.unbindAll, Fin.getElem_fin, Vector.getElem_map] at hq ⊢
  split at hq <;> split <;> simp_all

/-- 05 R101: DESTROY of a context that has been committed. -/
theorem exec_destroy_committed (h : s.life.stat = .ready)
    (hst : (s.ctxs[c]).st = .ready ∨ (s.ctxs[c]).st = .running ∨ (s.ctxs[c]).st = .suspended ∨ (s.ctxs[c]).st = .faulted) :
    ∃ t, exec (.destroy c) s = .next t ∧ (∀ q : Fin 256, cfin (t.queues[q]).ctx = c → (t.queues[q]).st = .unbound) ∧ (t.ctxs[c]).st = .draining := by
  have hallow : (s.ctxs[c]).st.allows 5 = true := by rcases hst with h | h | h | h <;> rw [h] <;> rfl
  have hnot : (s.ctxs[c]).st ≠ .building := by rcases hst with h | h | h | h <;> rw [h] <;> decide
  refine ⟨_, next_ctxCmd h hallow, ?_⟩
  have hb : ((s.setErr c 0).ctxs[c]).st ≠ .building := fun hb => hnot ((State.stOf_setErr c 0).symm.trans hb)
  rw [if_neg hb]
  exact ⟨fun q hq => State.destroyCtx_queues hq, State.stOf_destroyCtx ..⟩

/-- 05 R101, 12 R295: RELEASE of a DEAD context: nothing of it is left but the statuses of its copies. -/
theorem exec_release (h : s.life.stat = .ready) (hst : (s.ctxs[c]).st = .dead) :
    ∃ t, exec (.release c) s = .next t ∧ (t.ctxs[c]).st = .free ∧ (∀ e ∈ t.groups, cfin e.2.ctx ≠ c) ∧ (∀ e ∈ t.launches, cfin e.2.k.ctx ≠ c) ∧
      t.copies = s.copies ∧ t.mem = s.mem := by
  refine ⟨_, next_ctxCmd (cmd := 6) h (by rw [hst]; rfl), State.stOf_freeCtx, fun e he => ?_, fun e he => ?_, rfl, rfl⟩
  · simpa using (List.mem_filter.mp he).2
  · simpa using (List.mem_filter.mp he).2

/-! ### Refused commands -/

theorem exec_ctxcmdBadcmd_of_allowed {code : BitVec 3} (ha : (s.ctxs[c]).st.allows code.toNat = true) : exec (.ctxcmdBadcmd c code) s = .next s := by
  show execCtxcmdBadcmd c code s = _
  simp only [execCtxcmdBadcmd, ha, Bool.not_true, Bool.and_false, Bool.false_eq_true, if_false]

/-- 05 R98: a command that the state table does not list sets ERR to BADCMD and changes nothing else. -/
theorem exec_ctxcmdBadcmd (h : s.life.stat = .ready) {code : BitVec 3} (ha : (s.ctxs[c]).st.allows code.toNat = false) :
    exec (.ctxcmdBadcmd c code) s = .next (s.setErr c 1) := by
  show execCtxcmdBadcmd c code s = _
  rw [execCtxcmdBadcmd, State.open_, h, ha]
  rfl

/-! ## The end of a draining context -/

@[simp] theorem State.setCtx_cores (st : CtxState) : (s.setCtx c st).cores = s.cores := by
  simp only [State.setCtx, State.notify, State.irq]
  split <;> split <;> rfl

theorem State.dropMigs_cores (p : Migration → Bool) : (s.dropMigs p).cores = s.cores := by
  simp only [State.dropMigs]
  rw [apply_ite State.cores, ite_self]

/-- 05 R101: a DRAINING context with nothing in flight is DEAD, and no TLB translates for it. -/
theorem exec_contextDead (hst : (s.ctxs[c]).st = .draining) (hbusy : s.busy c = false) :
    ∃ t, exec (.contextDead c) s = .next t ∧ (t.ctxs[c]).st = .dead ∧ ∀ e ∈ t.cores, ∀ b ∈ e.2.tlb, cfin b.ctx ≠ c := by
  refine ⟨_, congrArg Host.Outcome.next (if_pos ⟨hst, by rw [hbusy]; rfl⟩), State.stOf_setCtx_self .., fun e he b hb => ?_⟩
  dsimp only at he
  rw [State.setCtx_cores, State.modCtx_cores, State.dropMigs_cores] at he
  obtain ⟨x, -, rfl⟩ := List.mem_map.mp he
  simpa using (List.mem_filter.mp hb).2

/-! ## Registers (05 R97, R98, R100) -/

/-- 05 R97, R98: a write to a descriptor is stored while its context is BUILDING, and refused otherwise. -/
theorem exec_registerWrite_descriptor (h : s.life.stat = .ready) {o n : Nat} (ho : o < 128) (v : Nat) (hn : o + n ≤ 128) :
    exec (.registerWrite (descAt c + o) n v) s =
      .next (if (s.ctxs[c]).st = .building then s.setBar (descAt c + o) n v else s.setErr c 1) := by
  have hc := c.isLt
  have hlow : (descAt c + o) % 256 = o := by simp only [descAt]; omega
  have hctx : Fin.ofNat 64 ((descAt c + o - 0x100000) / 256) = c := Fin.ext (by simp only [descAt, Fin.ofNat]; omega)
  have hwin : s.open_ ∧ 0x100000 ≤ descAt c + o ∧ descAt c + o < 0x104000 := by
    simp only [State.open_, h, descAt, decide_true, true_and]; omega
  show execRegisterWrite (descAt c + o) n v s = _
  simp only [execRegisterWrite, hwin, and_self, if_true, hlow, ho, hctx, show min n (128 - o) = n by omega]

/-- A write that begins past the descriptor is dropped. -/
theorem exec_registerWrite_past (h : s.life.stat = .ready) (n v : Nat) : exec (.registerWrite (descAt c + 128) n v) s = .next s := by
  have hc := c.isLt
  have hlow : (descAt c + 128) % 256 = 128 := by simp only [descAt]; omega
  have hwin : s.open_ ∧ 0x100000 ≤ descAt c + 128 ∧ descAt c + 128 < 0x104000 := by
    simp only [State.open_, h, descAt, decide_true, true_and]; omega
  show execRegisterWrite (descAt c + 128) n v s = _
  simp only [execRegisterWrite, hwin, and_self, if_true, hlow, Nat.lt_irrefl, if_false]

theorem exec_descriptorWrite (h : s.life.stat = .ready) (o n v : Nat) (hn : o + n ≤ 128) (hw : Memory.wf s.bar0 = true) :
    ∃ t, exec (.registerWrite (descAt c + o) n v) s = .next t ∧
      ((s.ctxs[c]).st = .building → Memory.rd t.bar0 (descAt c + o) n = v % 256 ^ n ∧ t.ctxs = s.ctxs) ∧
      ((s.ctxs[c]).st ≠ .building → 0 < n → t.bar0 = s.bar0 ∧ t.ctxs[c] = { s.ctxs[c] with err := 1 }) := by
  rcases Nat.lt_or_ge o 128 with ho | ho
  · refine ⟨_, exec_registerWrite_descriptor h ho v hn, fun hst => ?_, fun hst _ => ?_⟩
    · rw [if_pos hst]
      exact ⟨Memory.rd_wr _ _ _ _ hw, rfl⟩
    · rw [if_neg hst]
      exact ⟨rfl, State.setErr_self 1⟩
  · obtain rfl : o = 128 := by omega
    obtain rfl : n = 0 := by omega
    exact ⟨_, exec_registerWrite_past h 0 v, fun _ => ⟨(Nat.mod_one v).symm, rfl⟩, fun _ hpos => absurd hpos (by decide)⟩

/-- 05 R100: SAVEPOOL takes a write while every context is FREE. -/
theorem exec_savepoolWrite (h : s.life.stat = .ready) (v : BitVec 64) (hfree : ∀ d : Fin 64, (s.ctxs[d]).st = .free) :
    exec (.savepoolWrite v) s = .next { s with life := { s.life with savepool := v.toNat / 128 * 128 } } := by
  refine congrArg Host.Outcome.next (if_pos ⟨by simp [State.identLive, h], List.all_eq_true.mpr (fun x hx => ?_)⟩)
  obtain ⟨i, hi, rfl⟩ := Vector.mem_iff_getElem.mp (Vector.mem_toList_iff.mp hx)
  exact decide_eq_true (hfree ⟨i, hi⟩)

end

/-- Settles O41: one lemma per row of the state table; DESTROY and a fault at COMMIT end launches and copies, which leave the STATE of every context. -/
theorem contextCommandResults : Obligations.ContextCommandResults := by
  refine ⟨fun s c cmd h => exec_ctxCommands_of_not_ready h cmd, fun s c h => ?_⟩
  exact ⟨exec_create h, exec_commit h, exec_suspend_ready h,
    fun hst ⟨e, he, hc, hon⟩ => exec_suspend_running h hst ⟨e, he, hc, hon⟩, exec_resume h, exec_destroy_building h,
    exec_destroy_committed h, exec_release h, fun _ ha => exec_ctxcmdBadcmd_of_allowed ha,
    fun _ ha => ⟨_, exec_ctxcmdBadcmd h ha, State.setErr_self 1, fun d hd => State.setErr_of_ne hd 1⟩,
    exec_contextDead, exec_descriptorWrite h, exec_savepoolWrite h⟩

end Sys2Proof.Machine
end

section
/-! O42: the doorbell, the commands of a queue and the launch unit's turns (06 R112 to R120, 07 R131 to R133). What each does to its queue in every state
of the table; what the launch unit does with the head that it reads. -/

namespace Sys2Proof.Machine

section
variable {s : State} {q : Fin 256}

/-! ## The doorbell and the commands of QCTL (06 R113, R114, R120) -/

theorem State.onQueue_of_ready (h : s.life.stat = .ready) (f : Queue → Queue) : s.onQueue q f = s.withQueue q (f s.queues[q]) :=
  if_pos (decide_eq_true h)

theorem State.onQueue_of_not_ready (h : s.life.stat ≠ .ready) (f : Queue → Queue) : s.onQueue q f = s :=
  if_neg (by simpa only [State.open_, decide_eq_true_eq] using h)

/-- A turn that changes a queue of a READY device, by what the queue becomes. -/
theorem next_onQueue (h : s.life.stat = .ready) {f : Queue → Queue} {y : Queue} (hy : f s.queues[q] = y) :
    (.next (s.onQueue q f) : Host.Outcome State Fault Refusal) = .next (s.withQueue q y) := by
  rw [State.onQueue_of_ready h, hy]

/-- 20 R440: on a device that is not READY the doorbell and the commands change nothing. -/
theorem exec_queueCommands_of_not_ready (h : s.life.stat ≠ .ready) (c : Fin 64) (cmd : BitVec 3) (t : BitVec 64) :
    exec (.doorbell q t) s = .next s ∧ exec (.bind q c) s = .next s ∧ exec (.unbind q) s = .next s ∧ exec (.pause q) s = .next s ∧
      exec (.unpause q) s = .next s ∧ exec (.reset q) s = .next s ∧ exec (.qctlBadcmd q cmd) s = .next s := by
  have drops : ∀ f, (.next (s.onQueue q f) : Host.Outcome State Fault Refusal) = .next s := fun f => by
    rw [State.onQueue_of_not_ready h]
  exact ⟨drops _, drops _, drops _, drops _, drops _, drops _, drops _⟩

/-- 06 R114: a queue that is bound takes doorbells unless it is in ERROR. -/
theorem QState.takes_iff {st : QState} (h : st ≠ .unbound) : st.takes = true ↔ st ≠ .error := by
  cases st <;> simp [QState.takes] at h ⊢

/-- 06 R114: DOORBELL of a READY device. -/
theorem exec_doorbell (h : s.life.stat = .ready) (t : BitVec 64) :
    let x := s.queues[q]
    exec (.doorbell q t) s = .next (s.withQueue q (
      if x.st = .unbound then { x with err := 3 }
      else if (s.ctxs[cfin x.ctx]).st.runs = false then { x with err := 8 }
      else if x.st ≠ .error ∧ x.tail ≤ t ∧ (t - x.head).toNat ≤ x.size then { x with tail := t, st := if x.st = .idle ∧ t ≠ x.head then .active else x.st }
      else { x with err := 3 })) := by
  refine next_onQueue h (ite_congr rfl (fun _ => rfl) (fun hb => ite_congr ?_ (fun _ => rfl) (fun _ => ite_congr ?_ (fun _ => rfl) (fun _ => rfl))))
  · simp only [CtxState.accepts, Bool.not_eq_true']
  · rw [QState.takes_iff hb]

theorem powerIn_iff {x lo hi : Nat} : powerIn x lo hi = true ↔ lo ≤ x ∧ x ≤ hi ∧ 2 ^ Nat.log2 x = x := by
  simp only [powerIn, Bool.and_eq_true, decide_eq_true_eq, and_assoc]

/-- 06 R113: BIND of a READY device. -/
theorem exec_bind (h : s.life.stat = .ready) (c : Fin 64) :
    let x := s.queues[q]
    exec (.bind q c) s = .next (s.withQueue q (
      if x.st ≠ .unbound then { x with err := 1 }
      else if ¬(16 ≤ x.size ∧ x.size ≤ 65536 ∧ 2 ^ Nat.log2 x.size = x.size) ∨ x.base.toNat % (64 * x.size) ≠ 0 then { x with ctx := c.val, err := 2 }
      else if (s.ctxs[c]).st.runs = false then { x with ctx := c.val, err := 8 }
      else { x with ctx := c.val, st := .idle, head := 0, tail := 0, loaded := none, aged := 0 })) := by
  refine next_onQueue h (ite_congr rfl (fun _ => rfl) (fun _ => ite_congr ?_ (fun _ => rfl) (fun _ => ite_congr ?_ (fun _ => rfl) (fun _ => rfl))))
  · rw [Bool.not_eq_true', ← Bool.not_eq_true, powerIn_iff]
  · simp only [Bool.not_eq_true']

/-! ## The head of a queue (06 R115, R116, 07 R131) -/

/-- 15 R358: a fault for a page puts it on the list of the fault unit, and changes no memory and no queue. -/
theorem State.addFault_lists (ctx page die : Nat) :
    ((s.addFault ctx page die none).migs.any (fun e => decide (e.2.ctx = ctx) && decide (e.2.page = page))) = true ∧
      (s.addFault ctx page die none).queues = s.queues ∧ (s.addFault ctx page die none).mem = s.mem := by
  unfold State.addFault
  split
  · next h =>
    refine ⟨?_, rfl, rfl⟩
    obtain ⟨e, he, hm⟩ := List.any_eq_true.mp h
    simp only [Bool.and_eq_true] at hm
    exact List.any_eq_true.mpr ⟨e, he, by simp only [hm, Bool.and_self]⟩
  · exact ⟨by simp, rfl, rfl⟩

/-- 05 R101: a context that takes launches can run. -/
theorem State.runs_of_admits {c : Fin 64} (h : s.admits c = true) : (s.ctxs[c]).st.runs = true := by
  simp only [State.admits, Bool.and_eq_true, Bool.or_eq_true] at h
  simp only [CtxState.runs, Bool.or_eq_true]
  exact Or.inl h.1

/-- 19 R435: uncorrectable data in the page tables of a context that takes launches faults it. -/
theorem State.launchTables_faulted {c : Fin 64} (h : s.admits c = true) : ((s.launchTables c).ctxs[c]).st = .faulted :=
  State.stOf_faultContext s c (State.runs_of_admits h) ..

/-- The head of a queue is to be loaded: the queue is ACTIVE with a head that is not loaded, and its context takes launches. -/
structure Loads (s : State) (q : Fin 256) : Prop where
  /-- ACTIVE -/
  active : (s.queues[q]).st = .active
  /-- no kernel is loaded -/
  unloaded : (s.queues[q]).loaded = none
  /-- there is a head -/
  waits : (s.queues[q]).head ≠ (s.queues[q]).tail
  /-- the context takes launches -/
  admits : s.admits (cfin (s.queues[q]).ctx) = true

theorem Loads.goes (h : Loads s q) : ¬((s.queues[q]).st ≠ .active ∨ (s.queues[q]).loaded.isSome = true ∨
    (s.queues[q]).head = (s.queues[q]).tail ∨ (!s.admits (cfin (s.queues[q]).ctx)) = true) := by
  rw [h.active, h.unloaded, h.admits]
  simpa using h.waits

/-- 07 R131: the head of a queue is loaded. -/
theorem exec_kernelLoad_loaded (h : Loads s q) {p : Packet0} {k : Kernel} (hr : s.headOf s.queues[q] = (some p, .met))
    (hk : s.loadKernel (cfin (s.queues[q]).ctx) p = .ok k) :
    exec (.kernelLoad q) s = .next (s.withQueue q { s.queues[q] with loaded := some k, readySince := s.now }) := by
  show execKernelLoad q s = _
  simp only [execKernelLoad, h.goes, if_false, hr, hk]
  rfl

/-- 07 R131: the head of a queue is refused. -/
theorem exec_kernelLoad_bad (h : Loads s q) {p : Packet0} (hr : s.headOf s.queues[q] = (some p, .met))
    (hk : s.loadKernel (cfin (s.queues[q]).ctx) p = .error .bad) :
    exec (.kernelLoad q) s = .next (s.withQueue q ((s.queues[q]).fail 7)) := by
  show execKernelLoad q s = _
  simp only [execKernelLoad, h.goes, if_false, hr, hk]
  rfl

/-- 06 R116, R120: the head of a queue is no packet, or names a bad signal. -/
theorem exec_kernelLoad_error (h : Loads s q) {p : Option Packet0} {e : Nat} (hr : s.headOf s.queues[q] = (p, .error e)) :
    exec (.kernelLoad q) s = .next (s.withQueue q ((s.queues[q]).fail e)) := by
  show execKernelLoad q s = _
  simp only [execKernelLoad, h.goes, if_false, hr]
  rfl

/-- 06 R116: a wait of the head is not met. -/
theorem exec_kernelLoad_unmet (h : Loads s q) {p : Option Packet0} (hr : s.headOf s.queues[q] = (p, .unmet)) :
    exec (.kernelLoad q) s = .next (s.withQueue q { s.queues[q] with st := .blocked }) := by
  show execKernelLoad q s = _
  simp only [execKernelLoad, h.goes, if_false, hr]
  rfl

/-- 07 R131: a page of the head, or of the kernel that it names, migrates first. -/
theorem exec_kernelLoad_park (h : Loads s q) {p : Option Packet0} {k : Packet0} {pg : Nat}
    (hr : s.headOf s.queues[q] = (p, .park pg) ∨
      (s.headOf s.queues[q] = (some k, .met) ∧ s.loadKernel (cfin (s.queues[q]).ctx) k = .error (.park pg))) :
    exec (.kernelLoad q) s = .next (s.addFault (cfin (s.queues[q]).ctx) pg 0 none) := by
  show execKernelLoad q s = _
  rcases hr with hr | ⟨hr, hk⟩
  · simp only [execKernelLoad, h.goes, if_false, hr]
  · simp only [execKernelLoad, h.goes, if_false, hr, hk]

/-- 19 R435: the page tables of the context hold uncorrectable data. -/
theorem exec_kernelLoad_tables (h : Loads s q) {p : Option Packet0} {k : Packet0}
    (hr : s.headOf s.queues[q] = (p, .tables) ∨
      (s.headOf s.queues[q] = (some k, .met) ∧ s.loadKernel (cfin (s.queues[q]).ctx) k = .error .tables)) :
    exec (.kernelLoad q) s = .next (s.launchTables (cfin (s.queues[q]).ctx)) := by
  show execKernelLoad q s = _
  rcases hr with hr | ⟨hr, hk⟩
  · simp only [execKernelLoad, h.goes, if_false, hr]
  · simp only [execKernelLoad, h.goes, if_false, hr, hk]

/-! ## Admission (06 R118, R119, 07 R141) -/

/-- The state in which the launch unit has read and judged every loaded head again. -/
def State.judged (s : State) : State :=
  let r := s.readHeads (fun q => decide (q.st = .active) && q.loaded.isSome && s.admits (cfin q.ctx))
  { r with queues := r.queues.map r.rejudgeHead }

/-- 06 R118: with 64 launches admitted, or with no head that can be, nothing is admitted. -/
theorem exec_launchAdmission_none
    (h : 64 ≤ (s.judged.launches.filter (fun e => e.2.live)).length ∨ s.judged.bestHead s.judged.admissible = none) :
    exec .launchAdmission s = .next s.judged := by
  show execLaunchAdmission s = _
  unfold State.judged at h ⊢
  rcases h with hfull | hnone
  · simp only [execLaunchAdmission, Nat.not_lt.mpr hfull, if_false]
  · simp only [execLaunchAdmission, hnone, ite_self]

/-- 06 R118: with fewer than 64 launches admitted the best head is. -/
theorem exec_launchAdmission_some {i : Fin 256} {k : Kernel} (hroom : (s.judged.launches.filter (fun e => e.2.live)).length < 64)
    (h : s.judged.bestHead s.judged.admissible = some (i, k)) : exec .launchAdmission s = .next (s.judged.launchHead i k) := by
  show execLaunchAdmission s = _
  unfold State.judged at hroom h ⊢
  simp only [execLaunchAdmission, hroom, h, if_true]

/-- 06 R118, 07 R141: what the admission of a head leaves: its queue goes on to the next head, and its launch and the WAITING groups of phase 0 stand. -/
theorem State.launchHead_spec {i : Fin 256} {k : Kernel} {sch : Schedule} {n : Nat} (h : selectIn k.scheds k.size0 = some (sch, n)) :
    let t := s.launchHead i k
    (t.queues[i]).head = (s.queues[i]).head + 1 ∧ (t.queues[i]).loaded = none ∧ t.qptr = (s.qptr + 1) % 256 ∧
      (∃ l, l.k = k ∧ l.st = .launched ∧ l.phase = 0 ∧ l.count = n ∧ t.launches = s.launches ++ [(s.uid, l)]) ∧
      t.groups = s.groups ++ (List.range n).map (fun j => (s.uid + 1 + j, waitingGroup s.uid k.ctx 0 j ((s.queues[i]).priority k) s.now sch)) := by
  simp only [State.launchHead, h, State.addGroups, Fin.getElem_fin, Vector.getElem_set_self, true_and]
  exact ⟨⟨_, rfl, rfl, rfl, rfl, rfl⟩, rfl⟩

/-! ## The heads that are read again (06 R116) -/

/-- Heads that neither park nor fault leave the state as it is when they are read again. -/
theorem State.readHeads_eq_self {p : Queue → Bool}
    (h : ∀ i : Fin 256, p s.queues[i] = true → (∀ pg, (s.headOf s.queues[i]).2 ≠ .park pg) ∧ (s.headOf s.queues[i]).2 ≠ .tables) :
    s.readHeads p = s := by
  refine List.foldlRecOn (motive := fun t => t = s) _ _ rfl (fun t ht x hx => ?_)
  obtain ⟨i, hi, rfl⟩ := Vector.mem_iff_getElem.mp (Vector.mem_toList_iff.mp hx)
  subst ht
  split
  · next hp =>
    obtain ⟨hpark, htables⟩ := h ⟨i, hi⟩ hp
    unfold State.readHead
    split
    · next hr => exact absurd hr (hpark _)
    · next hr => exact absurd hr htables
    · rfl
  · rfl

/-- 06 R116: BLOCKED heads that need no page are judged again, and nothing else changes. -/
theorem exec_signalRecheck
    (h : ∀ p : Fin 256, (s.queues[p]).st = .blocked → (∀ pg, (s.headOf s.queues[p]).2 ≠ .park pg) ∧ (s.headOf s.queues[p]).2 ≠ .tables) :
    exec .signalRecheck s = .next s.recheckSignals := by
  refine congrArg (fun t => Host.Outcome.next (State.recheckSignals t)) (State.readHeads_eq_self (fun i hi => h i ?_))
  simpa using hi

theorem State.recheckSignals_queue (p : Fin 256) : s.recheckSignals.queues[p] = s.recheckQueue s.queues[p] := by
  simp only [State.recheckSignals, Fin.getElem_fin, Vector.getElem_map]

/-! ## Ageing (06 R119) -/

theorem exec_priorityAgeing_head {k : Kernel} (hk : (s.queues[q]).loaded = some k) (ha : (s.queues[q]).st = .active)
    (hm : (s.headOf s.queues[q]).2 = .met) (hp : (s.queues[q]).priority k < 4)
    (hd : s.ageStep (cfin (s.queues[q]).ctx) ≤ s.now - (s.queues[q]).readySince) :
    exec (.priorityAgeing true q.val) s = .next (s.withQueue q { s.queues[q] with
      aged := (s.queues[q]).aged + 1, readySince := (s.queues[q]).readySince + s.ageStep (cfin (s.queues[q]).ctx) }) := by
  show execPriorityAgeing true q.val s = _
  have hq : Fin.ofNat 256 q.val = q := Fin.ofNat_val_eq_self q
  simp only [execPriorityAgeing, if_true, q.isLt, hq, hk, ha, hm, hp, hd, and_self]
  rfl

end

/-- Settles O42: one lemma per command; the head of a queue by how its waits stand; admission by the best head. -/
theorem queueCommandResults : Obligations.QueueCommandResults := by
  refine ⟨fun s q c cmd t h => exec_queueCommands_of_not_ready h c cmd t, fun s q h => ⟨exec_doorbell h, exec_bind h, ?unbind, ?pause, ?unpause,
    ?reset, ?badcmd, fun hactive hun hne hadm => ?load, ⟨exec_launchAdmission_none, fun hroom i k sch n hbest hsel => ?launch⟩, fun hb => ?recheck,
    fun k hk hst hmet hprio hd => ?age⟩⟩
  case unbind => exact next_onQueue h rfl
  case pause => exact next_onQueue h rfl
  case unpause => exact next_onQueue h rfl
  case reset => exact next_onQueue h rfl
  case badcmd => exact fun cmd => next_onQueue h rfl
  case load =>
    have hl : Loads s q := ⟨hactive, hun, hne, hadm⟩
    refine ⟨fun p k hr hk => exec_kernelLoad_loaded hl hr hk, fun p hr hk => exec_kernelLoad_bad hl hr hk, fun p k pg hr => ?_, fun p k hr => ?_,
      fun p hr => exec_kernelLoad_unmet hl hr, fun p e hr => exec_kernelLoad_error hl hr⟩
    · obtain ⟨hmigs, hqueues, hmem⟩ := s.addFault_lists (cfin (s.queues[q]).ctx) pg 0
      exact ⟨_, exec_kernelLoad_park hl hr, hqueues, hmem, hmigs⟩
    · exact ⟨_, exec_kernelLoad_tables hl hr, State.launchTables_faulted hadm⟩
  case launch => exact ⟨_, exec_launchAdmission_some hroom hbest, State.launchHead_spec hsel⟩
  case recheck => exact ⟨_, exec_signalRecheck hb, rfl, rfl, fun p => State.recheckSignals_queue p⟩
  case age => exact exec_priorityAgeing_head hk hst hmet hprio hd

end Sys2Proof.Machine
end

section
/-! O38: QPUSH, the word queues and the signals (06 R121 to R130). Each instruction is a chain of checks before one access: what it comes to when a
check stops it, and what the access leaves. -/

namespace Sys2Proof.Machine

/-! ## States that differ in caches, TLBs and rows (15 R355, 16 R371 to R379) -/

/-- The two states differ in what caches, TLBs and rows hold alone. -/
def State.Recached (s t : State) : Prop :=
  ∃ cores channels l2 fills, t = { s with cores := cores, channels := channels, l2 := l2, l2fills := fills }

section
variable {s t u : State}

theorem State.Recached.refl (s : State) : s.Recached s := ⟨s.cores, s.channels, s.l2, s.l2fills, rfl⟩

theorem State.Recached.trans (h : s.Recached t) (k : t.Recached u) : s.Recached u := by
  obtain ⟨_, _, _, _, rfl⟩ := h
  obtain ⟨_, _, _, _, rfl⟩ := k
  exact ⟨_, _, _, _, rfl⟩

theorem State.Recached.mem_eq (h : s.Recached t) : t.mem = s.mem := by obtain ⟨_, _, _, _, rfl⟩ := h; rfl
theorem State.Recached.groups_eq (h : s.Recached t) : t.groups = s.groups := by obtain ⟨_, _, _, _, rfl⟩ := h; rfl
theorem State.Recached.queues_eq (h : s.Recached t) : t.queues = s.queues := by obtain ⟨_, _, _, _, rfl⟩ := h; rfl
theorem State.Recached.ctxs_eq (h : s.Recached t) : t.ctxs = s.ctxs := by obtain ⟨_, _, _, _, rfl⟩ := h; rfl
theorem State.Recached.isLocal_eq (h : s.Recached t) (pa : Nat) : t.isLocal pa = s.isLocal pa := by obtain ⟨_, _, _, _, rfl⟩ := h; rfl
theorem State.Recached.engByte_eq (h : s.Recached t) (pa : Nat) : t.engByte pa = s.engByte pa := by obtain ⟨_, _, _, _, rfl⟩ := h; rfl
theorem State.Recached.xlate_eq (h : s.Recached t) (c : Fin 64) (va : Nat) (write user : Bool) : t.xlate c va write user = s.xlate c va write user := by
  obtain ⟨_, _, _, _, rfl⟩ := h; rfl

theorem State.Recached.engRd_eq (h : s.Recached t) (pa n : Nat) : t.engRd pa n = s.engRd pa n := by
  induction n generalizing pa with
  | zero => rfl
  | succ n ih => rw [State.engRd, State.engRd, h.engByte_eq, ih]

theorem State.Recached.qHdr_eq (h : s.Recached t) (pa : Nat) : t.qHdr pa = s.qHdr pa := by simp only [State.qHdr, h.engRd_eq]

/-- What the caches hold has no part in what memory holds after a store. -/
theorem State.Recached.engStore (h : s.Recached t) (pa : Nat) (b : List Byte) : (s.engStore pa b).Recached (t.engStore pa b) := by
  induction b generalizing s t pa with
  | nil => exact h
  | cons x b ih =>
    refine ih ?_ _
    unfold State.engPut
    rw [h.isLocal_eq]
    obtain ⟨_, _, _, _, rfl⟩ := h
    split <;> exact ⟨_, _, _, _, rfl⟩

end

section
variable (s : State)

theorem State.recached_useRow (p : Nat) : s.Recached (s.useRow p) := ⟨_, _, _, _, rfl⟩

theorem State.Recached.useRow {s t : State} (h : s.Recached t) (p : Nat) : s.Recached (t.useRow p) := h.trans (t.recached_useRow p)

theorem State.Recached.ite {s t u : State} (c : Bool) (ht : s.Recached t) (hu : s.Recached u) : s.Recached (if c then t else u) := by
  cases c <;> assumption

theorem State.recached_l2Touch (p n : Nat) (write : Bool) : s.Recached (s.l2Touch p n write) := by
  simp only [State.l2Touch]
  split
  · exact .refl s
  · split
    · exact s.recached_useRow _
    · split
      · exact .ite _ ⟨_, _, _, _, rfl⟩ (.useRow ⟨_, _, _, _, rfl⟩ _)
      · refine (fun h => .ite _ h (.useRow h _)) ?_
        split
        · split
          · exact ⟨_, _, _, _, rfl⟩
          · exact .useRow ⟨_, _, _, _, rfl⟩ _
        · exact ⟨_, _, _, _, rfl⟩

theorem State.recached_foldl {α : Type} {f : State → α → State} (hf : ∀ (t : State) a, t.Recached (f t a)) (l : List α) :
    s.Recached (l.foldl f s) :=
  List.foldlRecOn (motive := fun t => s.Recached t) l f (.refl s) (fun t h a _ => h.trans (hf t a))

theorem State.recached_l2Access (pa n : Nat) (write : Bool) : s.Recached (s.l2Access pa n write) := by
  unfold State.l2Access
  split
  · exact s.recached_foldl (fun t i => t.recached_l2Touch ..) _
  · exact .refl s

theorem State.recached_tlbFill (core ctx va entry : Nat) : s.Recached (s.tlbFill core ctx va entry) := by
  unfold State.tlbFill
  split
  · exact .refl s
  · exact .trans ⟨_, _, _, _, rfl⟩ (State.recached_foldl _ (fun t a => t.recached_l2Touch ..) _)

theorem State.recached_modCore (core : Nat) (f : Core → Core) : s.Recached (s.modCore core f) := ⟨_, _, _, _, rfl⟩

theorem State.recached_acquire (core scope : Nat) : s.Recached (s.acquire core scope) := by
  unfold State.acquire
  split
  · exact s.recached_modCore ..
  · exact .refl s

theorem State.recached_engPutBytes (pa : Nat) (b : List Byte) : (s.engStore pa b).Recached (s.engPutBytes pa b) := State.recached_l2Access ..

theorem State.recached_homeWrite (core pa : Nat) (b : List Byte) : (s.engStore pa b).Recached (s.homeWrite core pa b) := by
  refine (s.recached_engPutBytes pa b).trans ?_
  simp only [State.homeWrite]
  split
  · exact .refl _
  · exact State.recached_modCore ..

/-- A store writes memory alone. -/
theorem State.engStore_eq (pa : Nat) (b : List Byte) : ∃ m, s.engStore pa b = { s with mem := m } := by
  induction b generalizing s pa with
  | nil => exact ⟨_, rfl⟩
  | cons x b ih =>
    obtain ⟨m, hm⟩ := ih (s.engPut pa x) (pa + 1)
    rw [State.engStore, hm]
    unfold State.engPut
    split <;> exact ⟨_, rfl⟩

@[simp] theorem State.homeWrite_groups (core pa : Nat) (b : List Byte) : (s.homeWrite core pa b).groups = s.groups := by
  obtain ⟨m, hm⟩ := s.engStore_eq pa b
  rw [(s.recached_homeWrite core pa b).groups_eq, hm]

@[simp] theorem State.homeWrite_queues (core pa : Nat) (b : List Byte) : (s.homeWrite core pa b).queues = s.queues := by
  obtain ⟨m, hm⟩ := s.engStore_eq pa b
  rw [(s.recached_homeWrite core pa b).queues_eq, hm]

end

section
variable {s t : State}

/-- Writes at their home leave memory as an engine's writes of the same bytes do, whatever the caches hold. -/
theorem State.Recached.homeWrite_mem (h : s.Recached t) (core pa : Nat) (b : List Byte) : (t.homeWrite core pa b).mem = (s.engPutBytes pa b).mem := by
  rw [(t.recached_homeWrite core pa b).mem_eq, (h.engStore pa b).mem_eq, (s.recached_engPutBytes pa b).mem_eq]

theorem State.Recached.homeWrite_homeWrite_mem (h : s.Recached t) (core pa pb : Nat) (b d : List Byte) :
    ((t.homeWrite core pa b).homeWrite core pb d).mem = ((s.engPutBytes pa b).engPutBytes pb d).mem := by
  have hst := (h.engStore pa b).trans (t.recached_homeWrite core pa b)
  have hs := (s.recached_engPutBytes pa b).engStore pb d
  rw [hst.homeWrite_mem, (State.recached_engPutBytes _ pb d).mem_eq, (State.recached_engPutBytes _ pb d).mem_eq, hs.mem_eq]

end

/-! ## Signals (06 R117) -/

theorem State.engRd_lt (s : State) (pa n : Nat) : s.engRd pa n < 256 ^ n := by
  induction n generalizing pa with
  | zero => exact Nat.one_pos
  | succ n ih =>
    have hb := (s.engByte pa).isLt
    have hr := ih (pa + 1)
    rw [State.engRd, Nat.pow_succ]
    omega

/-- 06 R117: a signal add keeps the error bits and adds the counts. -/
theorem signalAdd_spec {ctr x : Nat} (hc : ctr < 2 ^ 64) (hx : x < 2 ^ 64) :
    signalAdd ctr x < 2 ^ 64 ∧ signalAdd ctr x % 2 ^ 63 = (ctr + x) % 2 ^ 63 ∧ (2 ^ 63 ≤ signalAdd ctr x ↔ 2 ^ 63 ≤ ctr ∨ 2 ^ 63 ≤ x) := by
  simp only [signalAdd]
  split <;> omega

/-! ## The meaning of an instruction of an issuing fragment -/

/-- The instruction is issued, and its meaning for the view is `r`. -/
def Means (s : State) (v : View) (i : Instr) (r : Except Stop State) : Prop := ∃ k, exec i s = issue s k ∧ k v = r

/-- The view after an access at a pointer: the TLB of its core has taken the entry. -/
def View.filled (v : View) (p e : Nat) : View := { v with s := v.s.tlbFill v.core v.c (p % 2 ^ 56) e }

theorem View.recached_filled (v : View) (p e : Nat) : v.s.Recached (v.filled p e).s := v.s.recached_tlbFill ..

/-! ### The warp of a view -/

theorem State.isSome_warp_modWarp {s : State} {g w : Nat} (h : (s.warp g w).isSome = true) (f : Warp → Warp) :
    ((s.modWarp g w f).warp g w).isSome = true := by
  rw [State.warp_modWarp, Option.isSome_map, h]

theorem State.isSome_warp_release {s : State} {g w : Nat} (h : (s.warp g w).isSome = true) (d : Dest) :
    ((s.release g w d).warp g w).isSome = true := by
  unfold State.release
  dsimp only
  split
  · exact h
  · split
    · exact h
    · exact State.isSome_warp_modWarp h _
    · exact State.isSome_warp_modWarp h _

theorem State.isSome_warp_beforeReplay {s : State} {r : Ref} (h : (s.warp r.g r.w).isSome = true) (f : Frag) :
    ((s.beforeReplay r f).warp r.g r.w).isSome = true := by
  unfold State.beforeReplay
  split
  · exact h
  · exact List.foldlRecOn (motive := fun t => (State.warp t r.g r.w).isSome = true) _ _ h (fun t ht d _ => State.isSome_warp_release ht d)

/-- The warp that a view shows is the one in its state. -/
theorem Issues.warp {s : State} {v : View} (h : Issues s v) : v.s.warp v.r.g v.r.w = some v.y := by
  obtain ⟨r, -, hv⟩ := Option.bind_eq_some_iff.mp h.sees
  unfold State.viewOf at hv
  split at hv
  · cases hv
  · next x hx =>
    split at hv
    · cases hv
    · next y hy =>
      split at hv
      · cases hv
      · next f hf =>
        cases hv
        have hw : (s.warp r.g r.w).isSome = true := by simp [State.warp, hx, hy]
        have hsome := State.isSome_warp_modWarp (State.isSome_warp_beforeReplay hw f) (fun y => y.setSlot r.slot (some f.advance))
        obtain ⟨z, hz⟩ := Option.isSome_iff_exists.mp hsome
        simp only [hz, Option.getD_some]

/-! ### What the meaning comes to -/

section
variable {s t : State} {v : View} {i : Instr}

theorem Means.ok (m : Means s v i (.ok t)) (h : Issues s v) : exec i s = .next (v.finish (.ok t)) := by
  obtain ⟨k, hi, hk⟩ := m
  rw [hi, issue_finish h hk]

theorem Means.waits {p : Bool} (m : Means s v i (.error (.wait t p))) (h : Issues s v) :
    exec i s = .next ((t.setStatus v.r (.blocked p)).parkCheck v.r.g v.r.w) := by
  obtain ⟨k, hi, hk⟩ := m
  rw [hi, issue_wait h hk]

theorem Means.holds (m : Means s v i (.error v.hold)) (h : Issues s v) : exec i s = v.waiting false := m.waits h

theorem Means.parks (m : Means s v i (.error v.park)) (h : Issues s v) : Parks s v i := by
  have hw := m.waits h
  rwa [h.base_eq] at hw

theorem Means.traps {code n : Nat} (m : Means s v i (.error (v.trap code n))) (h : Issues s v) (hc : code ≠ cIDXBOUND) :
    exec i s = v.trapped code n v.f.mask := by
  obtain ⟨k, hi, hk⟩ := m
  rw [hi, issue_trapped h hk hc]

theorem Means.done (m : Means s v i (.ok t)) (h : Issues s v) {y : Warp} (hy : t.warp v.r.g v.r.w = some y) (hi : y.intrap = v.y.intrap)
    (hd : y.due = v.y.due) : exec i s = .next (v.done t) := by
  rw [m.ok h, View.finish_ok]
  intro z hz
  obtain rfl : y = z := Option.some.inj (hy.symm.trans hz)
  rw [hi, hd]
  exact h.calm

theorem Means.puts {y : Warp} (m : Means s v i (.ok (v.put y))) (h : Issues s v) (hi : y.intrap = v.y.intrap) (hd : y.due = v.y.due) :
    exec i s = .next (v.done (v.put y)) :=
  m.done h (by rw [View.warp_put, h.warp, Option.map_some]) hi hd

theorem Means.leaves {y : Warp} {u : State} (m : Means s v i (.ok t)) (h : Issues s v) (hy : t.warp v.r.g v.r.w = some y) (hm : t.mem = u.mem) :
    Leaves s v i y u := ⟨t, m.ok h, hy, hm⟩

/-! ### The checks of a queue instruction, one by one (06 R124, 14 R334, 17 R390) -/

variable {p n addr : Nat} {sys : Bool} {k : Unit → Except Stop State}

theorem Means.aligned (m : Means s v i (v.alignedTo p n >>= k)) (hp : p % n = 0) : Means s v i (k ()) := by
  rwa [View.alignedTo, if_pos hp] at m

theorem Means.misaligned (m : Means s v i (v.alignedTo p n >>= k)) (h : Issues s v) (hp : p % n ≠ 0) :
    exec i s = v.trapped cALIGN p v.f.mask := by
  rw [View.alignedTo, if_neg hp] at m
  exact Means.traps m h (by decide)

theorem Means.unstaged (m : Means s v i (v.noStage addr >>= k)) (hh : v.y.held = none) : Means s v i (k ()) := by
  rwa [View.noStage, hh] at m

theorem Means.staged (m : Means s v i (v.noStage addr >>= k)) (h : Issues s v) (hh : v.y.held.isSome = true) :
    exec i s = v.trapped cSTAGEFX addr v.f.mask := by
  rw [View.noStage, if_pos hh] at m
  exact Means.traps m h (by decide)

theorem Means.released (m : Means s v i (v.releases sys >>= k)) (hf : v.Free) (hr : sys = true → v.s.remoteOpen v.r.g v.r.w = false) :
    Means s v i (k ()) := by
  have : (v.s.releaseWaits v.r.g v.r.w v.f.mask || (sys && v.s.remoteOpen v.r.g v.r.w)) = false := by
    cases sys with
    | false => rw [hf]; rfl
    | true => rw [hf, hr rfl]; rfl
  rwa [View.releases, this] at m

theorem Means.unreleased (m : Means s v i (v.releases sys >>= k)) (h : Issues s v)
    (hw : ¬(v.Free ∧ (sys = true → v.s.remoteOpen v.r.g v.r.w = false))) : exec i s = v.waiting false := by
  have : (v.s.releaseWaits v.r.g v.r.w v.f.mask || (sys && v.s.remoteOpen v.r.g v.r.w)) = true := by
    refine eq_true_of_ne_false (fun hno => hw ?_)
    rwa [Bool.or_eq_false_iff, Bool.and_eq_false_imp] at hno
  rw [View.releases, if_pos this] at m
  exact Means.holds m h

end

/-! ### The access (06 R124) -/

section
variable {s : State} {v : View} {i : Instr} {p n pa e : Nat} {write : Bool} {k : View → Nat → Except Stop State}

theorem View.at_of_lies (hl : v.Lies p n write pa e) : v.at_ p n write k = k (v.filled p e) pa := by
  obtain ⟨hx, hb⟩ := hl
  simp only [View.at_, hx, hb, Bool.false_eq_true, if_false]
  rfl

/-- What follows an access sees the view with another state alone. -/
theorem View.at_congr {k' : View → Nat → Except Stop State} (h : ∀ t pa, k { v with s := t } pa = k' { v with s := t } pa) :
    v.at_ p n write k = v.at_ p n write k' := by
  simp only [View.at_, h]

theorem Means.lies (m : Means s v i (v.at_ p n write k)) (hl : v.Lies p n write pa e) : Means s v i (k (v.filled p e) pa) := by
  rwa [View.at_of_lies hl] at m

/-- An access that cannot be made fails every lane, whatever would follow it. -/
theorem Means.stumbles (m : Means s v i (v.at_ p n write k)) (h : Issues s v) : v.stumbles p n write i s := by
  refine ⟨fun c hc => ?_, fun pa e hx hb => ?_⟩
  · have hat : v.at_ p n write k = v.accessFail c p write := by simp only [View.at_, hc]
    rw [hat] at m
    exact m.ok h
  · have hat : v.at_ p n write k = v.accessFail cUNCORR p write := by simp only [View.at_, hx, hb, if_true]
    rw [hat] at m
    exact m.ok h

end

/-! ## The instructions as chains of checks -/

section
variable {s : State} {v : View} {d a b : Opnd} {wa wb : Bool}

/-- QPUSH of a packet at `pa`, to the queue `qi`, once the packet can be read (06 R125). -/
def View.pushAt (l : Loc) (qi : Nat) (u : View) (pa : Nat) : Except Stop State :=
  let q := u.s.queues[Fin.ofNat 256 qi]
  let done := fun (t : State) (st : Nat) => .ok (t.modWarp u.r.g u.r.w (fun _ => u.y.setScalar l (BitVec.ofNat 64 st)))
  if q.st = .unbound ∨ q.st = .error ∨ cfin q.ctx ≠ u.c ∨ !(u.s.ctxs[u.c]).st.accepts then done u.s 2
  else if (q.tail - q.head).toNat = q.size then done u.s 1
  else
    let va := q.base.toNat + 64 * (q.tail.toNat % max q.size 1)
    match u.s.xlate u.c va true false with
    | .ok pt _ =>
      let s1 := u.s.homeWrite u.core pt ((List.range 64).map (fun i => u.s.engByte (pa + i)))
      done { s1 with queues := s1.queues.set (Fin.ofNat 256 qi) (q.ring (q.tail + 1)) } 0
    | .park => .error (u.parkPage va)
    | .fail c => u.accessFail c va true
    | .uncorr => .error .tables

theorem means_qpush {l : Loc} {qi p : Nat} (hd : v.Dst kS false d l) (ha : v.Val kS a qi) (hb : v.Val kS b p) :
    Means s v (.qpush d a b wa wb) (if 255 < qi then .error (v.trap cILLOPND) else do
      v.alignedTo p 64
      v.noStage 0
      v.destReady l
      if v.s.releaseWaits v.r.g v.r.w (BitVec.allOnes 32) then .error v.hold else v.at_ p 64 false (View.pushAt l qi)) := by
  obtain ⟨la, ha, rfl⟩ := ha
  obtain ⟨lb, hb, rfl⟩ := hb
  refine ⟨_, rfl, ?_⟩
  simp only [hd.names, ha.rd, hb.rd, View.sources_two ha.full ha.plain hb.full hb.plain, Stop.ok_bind, View.val]
  rfl

/-- QSIG at a counter (06 R127). -/
def View.signalAt (x : Nat) (u : View) (pa : Nat) : Except Stop State :=
  if u.s.isLocal pa then .ok ((u.s.homeWrite u.core pa (leBytes 8 (signalAdd (u.s.engRd pa 8) x))).recheckSignals) else u.sendSignal pa x

theorem means_qsig {p x : Nat} (ha : v.Val kS a p) (hb : v.Val kSC b x) :
    Means s v (.qsig a b wa wb) (do
      v.alignedTo p 8
      v.noStage p
      v.releases true
      v.at_ p 8 true (View.signalAt x)) := by
  obtain ⟨la, ha, rfl⟩ := ha
  obtain ⟨lb, hb, rfl⟩ := hb
  refine ⟨_, rfl, ?_⟩
  simp only [ha.rd, hb.rd, View.sources_two ha.full ha.plain hb.full hb.plain, Stop.ok_bind, View.val]
  exact congrArg _ (funext fun _ => congrArg _ (funext fun _ => congrArg _ (funext fun _ => View.at_congr (fun _ _ => rfl))))

/-- QWAIT at a counter (06 R128). -/
def View.waitAt (x : Nat) (u : View) (pa : Nat) : Except Stop State :=
  if u.s.engRd pa 8 < x then .error u.park
  else .ok ((u.put { u.y with flags := setZNCV u.y.flags (decide (u.s.engRd pa 8 / 2 ^ 63 % 2 = 1)) false false false }).acquire u.core 6)

theorem means_qwait {p x : Nat} (ha : v.Val kS a p) (hb : v.Val kS b x) :
    Means s v (.qwait a b wa wb) (do
      v.alignedTo p 8
      v.at_ p 8 false (View.waitAt x)) := by
  obtain ⟨la, ha, rfl⟩ := ha
  obtain ⟨lb, hb, rfl⟩ := hb
  refine ⟨_, rfl, ?_⟩
  simp only [ha.rd, hb.rd, View.sources_two ha.full ha.plain hb.full hb.plain, Stop.ok_bind, View.val]
  exact congrArg _ (funext fun _ => View.at_congr (fun _ _ => rfl))

/-- QATTACH at a header (06 R129). -/
def View.attachAt (p : Nat) (u : View) (pa : Nat) : Except Stop State :=
  .ok ((u.s.homeWrite u.core (pa + 20) (leBytes 4 (u.s.engRd (pa + 20) 4 + 1))).modWarp u.r.g u.r.w
    (fun _ => { u.y with attach := u.y.attach ++ [BitVec.ofNat 64 p], flags := setZ u.y.flags false }))

theorem means_qattach {p : Nat} (ha : v.Val kS a p) :
    Means s v (.qattach a wa) (do
      v.alignedTo p 128
      if 4 ≤ v.y.attach.length then .error (v.trap cILLOP) else v.at_ p 128 true (View.attachAt p)) := by
  obtain ⟨la, ha, rfl⟩ := ha
  refine ⟨_, rfl, ?_⟩
  simp only [ha.rd, View.sources_one ha.full ha.plain, Stop.ok_bind, View.val]
  rfl

/-- QDETACH at a header (06 R129). -/
def View.detachAt (p : Nat) (u : View) (pa : Nat) : Except Stop State :=
  .ok ((u.s.homeWrite u.core (pa + 20) (leBytes 4 (u.s.engRd (pa + 20) 4 + 2 ^ 32 - 1))).modWarp u.r.g u.r.w
    (fun _ => { u.y with attach := u.y.attach.erase (BitVec.ofNat 64 p), flags := setZ u.y.flags false }))

theorem means_qdetach {p : Nat} (ha : v.Val kS a p) :
    Means s v (.qdetach a wa) (do
      v.alignedTo p 128
      v.releases false
      if v.y.attach.contains (BitVec.ofNat 64 p) then v.at_ p 128 true (View.detachAt p)
      else .ok (v.put { v.y with flags := setZ v.y.flags true })) := by
  obtain ⟨la, ha, rfl⟩ := ha
  refine ⟨_, rfl, ?_⟩
  simp only [ha.rd, View.sources_one ha.full ha.plain, Stop.ok_bind, View.val]
  rfl

/-- QWR at a header: the word goes to the tail, unless the ring is full (06 R130). -/
def View.writeAt (p x : Nat) (u : View) (pa : Nat) : Except Stop State :=
  let h := u.s.qHdr pa
  if (h.tail + 2 ^ 64 - h.head) % 2 ^ 64 = h.cap then .error u.park
  else u.at_ (h.slot p h.tail) 8 true (fun w pw =>
    .ok ((w.s.homeWrite w.core pw (leBytes 8 x)).homeWrite w.core (pa + 8) (leBytes 8 (h.tail + 1))))

theorem means_qwr {p x : Nat} (ha : v.Val kS a p) (hb : v.Val kSC b x) :
    Means s v (.qwr a b wa wb) (do
      v.alignedTo p 128
      v.noStage p
      v.releases false
      v.at_ p 128 true (View.writeAt p x)) := by
  obtain ⟨la, ha, rfl⟩ := ha
  obtain ⟨lb, hb, rfl⟩ := hb
  refine ⟨_, rfl, ?_⟩
  simp only [ha.rd, hb.rd, View.sources_two ha.full ha.plain hb.full hb.plain, Stop.ok_bind, View.val]
  refine congrArg _ (funext fun _ => congrArg _ (funext fun _ => congrArg _ (funext fun _ => View.at_congr (fun _ _ => ?_))))
  simp only [View.writeAt]
  split
  · rfl
  · exact View.at_congr (fun _ _ => rfl)

theorem means_qmap {k : Fin 4} {i : Fin 32} {p : Nat} (hd : v.mapReg d = .ok (k, i)) (ha : v.Val kS a p) :
    Means s v (.qmap d a wa) (do
      v.alignedTo p 128
      v.destReady (.sca i)
      .ok (v.put (v.y.mapTo k i (BitVec.ofNat 64 p)))) := by
  obtain ⟨la, ha, rfl⟩ := ha
  refine ⟨_, rfl, ?_⟩
  simp only [hd, ha.rd, View.sources_one ha.full ha.plain, Stop.ok_bind, View.val]

theorem means_qunmap {k : Fin 4} {i : Fin 32} (hd : v.mapReg d = .ok (k, i)) :
    Means s v (.qunmap d) (.ok (v.put (v.y.unmap k i))) := by
  refine ⟨_, rfl, ?_⟩
  simp only [hd, Stop.ok_bind]

/-- 06 R126: one of s28 to s31 can be mapped. -/
theorem View.mapReg_queue (v : View) (k : Fin 4) : v.mapReg (.s (Fin.ofNat 32 (28 + k.val))) = .ok (k, Fin.ofNat 32 (28 + k.val)) := by
  have hk : (Fin.ofNat 32 (28 + k.val)).val = 28 + k.val := Nat.mod_eq_of_lt (by omega)
  rw [View.mapReg, if_pos (by omega), hk, Nat.add_sub_cancel_left, Fin.ofNat_val_eq_self]

/-- 06 R126: no other register can. -/
theorem View.mapReg_low (v : View) {i : Fin 32} (hi : i.val < 28) : v.mapReg (.s i) = .error (v.trap cILLOPND) := if_neg (Nat.not_le.mpr hi)

end

/-! ## What an instruction leaves in its warp -/

section
variable {s t : State} {v : View}

theorem Issues.warp_of_groups (h : Issues s v) (hg : t.groups = v.s.groups) : t.warp v.r.g v.r.w = some v.y := by
  rw [State.warp_congr hg, h.warp]

theorem Issues.warp_put (h : Issues s v) (hg : t.groups = v.s.groups) (y : Warp) :
    (t.modWarp v.r.g v.r.w (fun _ => y)).warp v.r.g v.r.w = some y := by
  rw [State.warp_modWarp, h.warp_of_groups hg, Option.map_some]

end

/-! ## QPUSH (06 R125) -/

/-- 06 R125: a queue that takes packets of the context. -/
def View.pushes (v : View) (q : Queue) : Prop := q.st ≠ .unbound ∧ q.st ≠ .error ∧ cfin q.ctx = v.c ∧ (v.s.ctxs[v.c]).st.runs = true

/-- The address of the ring slot at the tail of a queue (06 R114). -/
def Queue.tailVa (q : Queue) : Nat := q.base.toNat + 64 * (q.tail.toNat % max q.size 1)

section
variable {u : View} {q : Queue} {l : Loc} {qi pa : Nat}

theorem View.not_pushes_iff : (q.st = .unbound ∨ q.st = .error ∨ cfin q.ctx ≠ u.c ∨ (!(u.s.ctxs[u.c]).st.accepts) = true) ↔ ¬u.pushes q := by
  simp only [View.pushes, CtxState.accepts, Classical.not_and_iff_not_or_not, Classical.not_not, Bool.not_eq_true', Bool.not_eq_true, ne_eq]

theorem View.pushAt_refused (hq : u.s.queues[Fin.ofNat 256 qi] = q) (ho : ¬u.pushes q) :
    View.pushAt l qi u pa = .ok (u.put (u.y.setScalar l 2)) := by
  simp only [View.pushAt, hq, View.not_pushes_iff, ho, not_false_eq_true, if_true]
  rfl

theorem View.pushAt_full (hq : u.s.queues[Fin.ofNat 256 qi] = q) (ho : u.pushes q) (hf : (q.tail - q.head).toNat = q.size) :
    View.pushAt l qi u pa = .ok (u.put (u.y.setScalar l 1)) := by
  simp only [View.pushAt, hq, View.not_pushes_iff, ho, not_true_eq_false, if_false, hf, if_true]
  rfl

theorem View.pushAt_fails (hq : u.s.queues[Fin.ofNat 256 qi] = q) (ho : u.pushes q) (hf : (q.tail - q.head).toNat ≠ q.size) {c : Nat}
    (hx : u.s.xlate u.c q.tailVa true false = .fail c) : View.pushAt l qi u pa = u.accessFail c q.tailVa true := by
  unfold Queue.tailVa at hx ⊢
  simp only [View.pushAt, hq, View.not_pushes_iff, ho, not_true_eq_false, if_false, hf, hx]

/-- The state in which a packet at `pa` has been pushed to the queue `qi`, whose ring slot lies at `pt`. -/
def View.pushed (u : View) (l : Loc) (qi pa pt : Nat) (q : Queue) : State :=
  let t := u.s.homeWrite u.core pt ((List.range 64).map (fun j => u.s.engByte (pa + j)))
  ({ t with queues := t.queues.set (Fin.ofNat 256 qi) (q.ring (q.tail + 1)) } : State).modWarp u.r.g u.r.w (fun _ => u.y.setScalar l 0)

theorem View.pushAt_stores (hq : u.s.queues[Fin.ofNat 256 qi] = q) (ho : u.pushes q) (hf : (q.tail - q.head).toNat ≠ q.size) {pt z : Nat}
    (hx : u.s.xlate u.c q.tailVa true false = .ok pt z) : View.pushAt l qi u pa = .ok (u.pushed l qi pa pt q) := by
  unfold Queue.tailVa at hx
  simp only [View.pushAt, hq, View.not_pushes_iff, ho, not_true_eq_false, if_false, hf, hx]
  rfl

end

section
variable {s : State} {v : View} {d a b : Opnd} {wa wb : Bool} {i : Fin 32} {qi p pa e : Nat}

theorem means_qpush_checks {l : Loc} (hd : v.Dst kS false d l) (ha : v.Val kS a qi) (hb : v.Val kS b p) (hq : qi ≤ 255) :
    Means s v (.qpush d a b wa wb) (do
      v.alignedTo p 64
      v.noStage 0
      v.destReady l
      if v.s.releaseWaits v.r.g v.r.w (BitVec.allOnes 32) then .error v.hold else v.at_ p 64 false (View.pushAt l qi)) := by
  have m := means_qpush (s := s) (wa := wa) (wb := wb) hd ha hb
  rwa [if_neg (Nat.not_lt.mpr hq)] at m

theorem means_qpush_release {l : Loc} (hd : v.Dst kS false d l) (ha : v.Val kS a qi) (hb : v.Val kS b p) (hq : qi ≤ 255) (hp : p % 64 = 0)
    (hh : v.y.held = none) :
    Means s v (.qpush d a b wa wb)
      (if v.s.releaseWaits v.r.g v.r.w (BitVec.allOnes 32) then .error v.hold else v.at_ p 64 false (View.pushAt l qi)) := by
  have m := ((means_qpush_checks (s := s) (wa := wa) (wb := wb) hd ha hb hq).aligned hp).unstaged hh
  rwa [hd.ready] at m

theorem means_qpush_at {l : Loc} (hd : v.Dst kS false d l) (ha : v.Val kS a qi) (hb : v.Val kS b p) (hq : qi ≤ 255) (hp : p % 64 = 0)
    (hh : v.y.held = none) (hr : v.s.releaseWaits v.r.g v.r.w (BitVec.allOnes 32) = false) :
    Means s v (.qpush d a b wa wb) (v.at_ p 64 false (View.pushAt l qi)) := by
  have m := means_qpush_release (s := s) (wa := wa) (wb := wb) hd ha hb hq hp hh
  rwa [hr] at m

/-- 06 R125: the stops of QPUSH before its access. -/
theorem exec_qpush_stops (h : Issues s v) {l : Loc} (hd : v.Dst kS false d l) (ha : v.Val kS a qi) (hb : v.Val kS b p) :
    let qpush := Instr.qpush d a b wa wb
    (255 < qi → exec qpush s = v.trapped 0x02 0 v.f.mask) ∧
    (qi ≤ 255 → p % 64 ≠ 0 → exec qpush s = v.trapped 0x0B p v.f.mask) ∧
    (qi ≤ 255 → p % 64 = 0 → v.y.held.isSome = true → exec qpush s = v.trapped 0x15 0 v.f.mask) ∧
    (qi ≤ 255 → p % 64 = 0 → v.y.held = none → v.s.releaseWaits v.r.g v.r.w (BitVec.allOnes 32) = true → exec qpush s = v.waiting false) ∧
    (qi ≤ 255 → p % 64 = 0 → v.y.held = none → v.s.releaseWaits v.r.g v.r.w (BitVec.allOnes 32) = false → v.stumbles p 64 false qpush s) := by
  refine ⟨fun hq => ?_, fun hq hp => ?_, fun hq hp hh => ?_, fun hq hp hh hr => ?_, fun hq hp hh hr => ?_⟩
  · have m := means_qpush (s := s) (wa := wa) (wb := wb) hd ha hb
    rw [if_pos hq] at m
    exact m.traps h (by decide)
  · exact (means_qpush_checks hd ha hb hq).misaligned h hp
  · exact ((means_qpush_checks hd ha hb hq).aligned hp).staged h hh
  · have m := means_qpush_release (s := s) (wa := wa) (wb := wb) hd ha hb hq hp hh
    rw [hr] at m
    exact m.holds h
  · exact (means_qpush_at hd ha hb hq hp hh hr).stumbles h

/-- 06 R125: what a push leaves: the packet in the ring, TAIL raised and 0 in the destination. -/
theorem View.pushed_spec (h : Issues s v) (pt : Nat) {q : Queue} :
    let t := (v.filled p e).pushed (.sca i) qi pa pt q
    t.warp v.r.g v.r.w = some (v.y.setS i 0) ∧ t.mem = (v.s.engPutBytes pt ((List.range 64).map (fun j => v.s.engByte (pa + j)))).mem ∧
      t.queues = v.s.queues.set (Fin.ofNat 256 qi) (q.ring (q.tail + 1)) := by
  have hc := v.recached_filled p e
  refine ⟨h.warp_put ((State.homeWrite_groups ..).trans hc.groups_eq) _, ?_, ?_⟩
  · refine (hc.homeWrite_mem ..).trans ?_
    simp only [hc.engByte_eq]
  · exact congrArg (fun x => x.set (Fin.ofNat 256 qi) (q.ring (q.tail + 1))) ((State.homeWrite_queues ..).trans hc.queues_eq)

/-- 06 R125: what QPUSH of a packet that can be read comes to. -/
theorem exec_qpush_access (h : Issues s v) (hm : Means s v (.qpush d a b wa wb) (v.at_ p 64 false (View.pushAt (.sca i) qi)))
    (hl : v.Lies p 64 false pa e) :
    let qpush := Instr.qpush d a b wa wb
    let q := v.s.queues[Fin.ofNat 256 qi]
    (¬v.pushes q → Leaves s v qpush (v.y.setS i 2) v.s) ∧
    (v.pushes q → (q.tail - q.head).toNat = q.size → Leaves s v qpush (v.y.setS i 1) v.s) ∧
    (∀ c, v.pushes q → (q.tail - q.head).toNat ≠ q.size → v.s.xlate v.c q.tailVa true false = .fail c →
      exec qpush s = .next (v.finish ((v.filled p e).accessFail c q.tailVa true))) ∧
    (∀ pt z, v.pushes q → (q.tail - q.head).toNat ≠ q.size → v.s.xlate v.c q.tailVa true false = .ok pt z →
      ∃ (t : State) (q' : Queue), exec qpush s = .next (v.finish (.ok t)) ∧ t.warp v.r.g v.r.w = some (v.y.setS i 0) ∧
        t.mem = (v.s.engPutBytes pt ((List.range 64).map (fun j => v.s.engByte (pa + j)))).mem ∧
        t.queues = v.s.queues.set (Fin.ofNat 256 qi) q' ∧ q'.tail = q.tail + 1 ∧ q'.head = q.head ∧
        q'.st = (if q.st = .idle ∧ q.tail + 1 ≠ q.head then .active else q.st)) := by
  intro qpush q
  have hc := v.recached_filled p e
  have hq : (v.filled p e).s.queues[Fin.ofNat 256 qi] = q := by rw [hc.queues_eq]
  have ho : (v.filled p e).pushes q ↔ v.pushes q := by
    unfold View.pushes
    rw [hc.ctxs_eq]
    rfl
  have hx : ∀ x, v.s.xlate v.c q.tailVa true false = x → (v.filled p e).s.xlate (v.filled p e).c q.tailVa true false = x :=
    fun x hx => (hc.xlate_eq ..).trans hx
  have hat := hm.lies hl
  refine ⟨fun hno => ?_, fun hyes hf => ?_, fun c hyes hf hfail => ?_, fun pt z hyes hf hok => ?_⟩
  · rw [View.pushAt_refused hq (fun hn => hno (ho.mp hn))] at hat
    exact hat.leaves h (h.warp_put hc.groups_eq _) hc.mem_eq
  · rw [View.pushAt_full hq (ho.mpr hyes) hf] at hat
    exact hat.leaves h (h.warp_put hc.groups_eq _) hc.mem_eq
  · rw [View.pushAt_fails hq (ho.mpr hyes) hf (hx _ hfail)] at hat
    exact hat.ok h
  · rw [View.pushAt_stores hq (ho.mpr hyes) hf (hx _ hok)] at hat
    obtain ⟨hwarp, hmem, hqueues⟩ := View.pushed_spec (p := p) (e := e) (i := i) (qi := qi) (pa := pa) (q := q) h pt
    exact ⟨_, _, hat.ok h, hwarp, hmem, hqueues, rfl, rfl, rfl⟩

end

/-! ## QMAP and QUNMAP (06 R126, 03 R67) -/

section
variable {y : Warp} {k : Fin 4}

theorem Warp.mapTo_unmapped (h : y.qmap[k] = none) (i : Fin 32) (q : DWord) :
    y.mapTo k i q = { y with qmap := y.qmap.set k (some q), popped := y.popped.set k y.s[i].val } := by
  rw [Warp.mapTo, h]
  rfl

theorem Warp.mapTo_mapped (h : y.qmap[k] ≠ none) (i : Fin 32) (q : DWord) :
    y.mapTo k i q = { y with qmap := y.qmap.set k (some q), s := y.s.set i { val := y.popped[k], fill := .full } } :=
  if_pos (Option.isSome_iff_ne_none.mpr h)

theorem Warp.unmap_unmapped (h : y.qmap[k] = none) (i : Fin 32) : y.unmap k i = y := by
  rw [Warp.unmap, h]
  rfl

theorem Warp.unmap_mapped (h : y.qmap[k] ≠ none) (i : Fin 32) :
    y.unmap k i = { y with qmap := y.qmap.set k none, s := y.s.set i { val := y.popped[k], fill := .full } } :=
  if_pos (Option.isSome_iff_ne_none.mpr h)

theorem Warp.mapTo_calm (y : Warp) (k : Fin 4) (i : Fin 32) (q : DWord) : (y.mapTo k i q).intrap = y.intrap ∧ (y.mapTo k i q).due = y.due := by
  unfold Warp.mapTo; split <;> exact ⟨rfl, rfl⟩

theorem Warp.unmap_calm (y : Warp) (k : Fin 4) (i : Fin 32) : (y.unmap k i).intrap = y.intrap ∧ (y.unmap k i).due = y.due := by
  unfold Warp.unmap; split <;> exact ⟨rfl, rfl⟩

end

section
variable {s : State} {v : View} {a : Opnd} {wa : Bool} {p : Nat}

/-- 06 R126: QMAP of one of s28 to s31. -/
theorem exec_qmap (h : Issues s v) (ha : v.Val kS a p) (k : Fin 4) (hp : p % 128 = 0)
    (hf : v.y.s[(Fin.ofNat 32 (28 + k.val) : Fin 32)].fill ≠ .empty) :
    exec (.qmap (.s (Fin.ofNat 32 (28 + k.val))) a wa) s =
      .next (v.done (v.put (v.y.mapTo k (Fin.ofNat 32 (28 + k.val)) (BitVec.ofNat 64 p)))) := by
  have m := (means_qmap (s := s) (wa := wa) (v.mapReg_queue k) ha).aligned hp
  have hd : v.destReady (.sca (Fin.ofNat 32 (28 + k.val))) = .ok () := if_neg (by simpa [Warp.fills] using hf.symm)
  rw [hd] at m
  have hcalm := v.y.mapTo_calm k (Fin.ofNat 32 (28 + k.val)) (BitVec.ofNat 64 p)
  exact Means.puts m h hcalm.1 hcalm.2

/-- 06 R126: QUNMAP of one of s28 to s31. -/
theorem exec_qunmap (h : Issues s v) (k : Fin 4) :
    exec (.qunmap (.s (Fin.ofNat 32 (28 + k.val)))) s = .next (v.done (v.put (v.y.unmap k (Fin.ofNat 32 (28 + k.val))))) := by
  have hcalm := v.y.unmap_calm k (Fin.ofNat 32 (28 + k.val))
  exact (means_qunmap (v.mapReg_queue k)).puts h hcalm.1 hcalm.2

/-- 06 R126, 03 R67: a register whose mapping ends holds the last word popped into it, or, where none was, its value from before the mapping. -/
theorem exec_mapping (h : Issues s v) (ha : v.Val kS a p) (k : Fin 4) :
    let i : Fin 32 := Fin.ofNat 32 (28 + k.val)
    let back := v.y.s.set i { val := v.y.popped[k], fill := .full }
    (p % 128 = 0 → v.y.s[i].fill ≠ .empty →
      let map := v.y.qmap.set k (some (BitVec.ofNat 64 p))
      (v.y.qmap[k] = none → exec (.qmap (.s i) a wa) s =
        .next (v.done (v.put { v.y with qmap := map, popped := v.y.popped.set k v.y.s[i].val }))) ∧
      (v.y.qmap[k] ≠ none → exec (.qmap (.s i) a wa) s = .next (v.done (v.put { v.y with qmap := map, s := back })))) ∧
    (v.y.qmap[k] = none → exec (.qunmap (.s i)) s = .next (v.done (v.put v.y))) ∧
    (v.y.qmap[k] ≠ none → exec (.qunmap (.s i)) s = .next (v.done (v.put { v.y with qmap := v.y.qmap.set k none, s := back }))) := by
  refine ⟨fun hp hf => ⟨fun hk => ?_, fun hk => ?_⟩, fun hk => ?_, fun hk => ?_⟩
  · rw [exec_qmap h ha k hp hf, Warp.mapTo_unmapped hk]
  · rw [exec_qmap h ha k hp hf, Warp.mapTo_mapped hk]
  · rw [exec_qunmap h k, Warp.unmap_unmapped hk]
  · rw [exec_qunmap h k, Warp.unmap_mapped hk]

/-- 06 R126: the other registers are no queue's. -/
theorem exec_mapping_low (h : Issues s v) {i : Fin 32} (hi : i.val < 28) :
    exec (.qmap (.s i) a wa) s = v.trapped 0x02 0 v.f.mask ∧ exec (.qunmap (.s i)) s = v.trapped 0x02 0 v.f.mask := by
  have hlow := v.mapReg_low hi
  have mmap : Means s v (.qmap (.s i) a wa) (.error (v.trap cILLOPND)) := ⟨_, rfl, by simp only [hlow, Stop.error_bind]⟩
  have munmap : Means s v (.qunmap (.s i)) (.error (v.trap cILLOPND)) := ⟨_, rfl, by simp only [hlow, Stop.error_bind]⟩
  exact ⟨mmap.traps h (by decide), munmap.traps h (by decide)⟩

theorem exec_qmap_misaligned (h : Issues s v) (ha : v.Val kS a p) {i : Fin 32} (hi : 28 ≤ i.val) (hp : p % 128 ≠ 0) :
    exec (.qmap (.s i) a wa) s = v.trapped 0x0B p v.f.mask :=
  have hd : v.mapReg (.s i) = .ok (Fin.ofNat 4 (i.val - 28), i) := if_pos hi
  (means_qmap hd ha).misaligned h hp

end

/-! ## Signals (06 R127, R128) -/

section
variable {s : State} {v : View} {a b : Opnd} {wa wb : Bool} {p x pa e : Nat}

theorem means_qsig_at (ha : v.Val kS a p) (hb : v.Val kSC b x) (hp : p % 8 = 0) (hh : v.y.held = none) (hf : v.Free)
    (hr : v.s.remoteOpen v.r.g v.r.w = false) : Means s v (.qsig a b wa wb) (v.at_ p 8 true (View.signalAt x)) :=
  (((means_qsig ha hb).aligned hp).unstaged hh).released hf (fun _ => hr)

/-- 06 R127: QSIG of a counter of this module. -/
theorem exec_qsig_local (h : Issues s v) (hb : v.Val kSC b x) (m : Means s v (.qsig a b wa wb) (v.at_ p 8 true (View.signalAt x)))
    (hl : v.Lies p 8 true pa e) (hlocal : v.s.isLocal pa = true) :
    ∃ n, Leaves s v (.qsig a b wa wb) v.y (v.s.engPutBytes pa (leBytes 8 n)) ∧ n < 2 ^ 64 ∧
      n % 2 ^ 63 = (v.s.engRd pa 8 + x) % 2 ^ 63 ∧ (2 ^ 63 ≤ n ↔ 2 ^ 63 ≤ v.s.engRd pa 8 ∨ 2 ^ 63 ≤ x) := by
  have hc := v.recached_filled p e
  have hx : x < 2 ^ 64 := by
    obtain ⟨l, -, rfl⟩ := hb
    exact (v.y.scalarVal l).isLt
  have hat := m.lies hl
  rw [View.signalAt, hc.isLocal_eq, if_pos hlocal, hc.engRd_eq] at hat
  refine ⟨signalAdd (v.s.engRd pa 8) x, hat.leaves h (h.warp_of_groups ?_) (hc.homeWrite_mem ..), signalAdd_spec (v.s.engRd_lt pa 8) hx⟩
  exact (State.homeWrite_groups ..).trans hc.groups_eq

theorem State.irq_groups (s : State) (n : Nat) : (s.irq n).groups = s.groups := by
  unfold State.irq; split <;> rfl

theorem State.lostRoute_groups (s : State) : s.lostRoute.groups = s.groups := State.irq_groups ..

/-- 06 R127: a signal that leaves for another node changes nothing of the warps but a counter of its own. -/
theorem View.sendSignal_spec {u : View} {t : State} (h : u.sendSignal pa x = .ok t) :
    ∃ (r : State) (k : Warp → Warp), r.groups = u.s.groups ∧ t = r.modWarp u.r.g u.r.w k ∧ ∀ y, (k y).intrap = y.intrap ∧ (k y).due = y.due := by
  simp only [View.sendSignal] at h
  split at h
  · cases h
    exact ⟨_, fun y => { y with erem := y.erem + 1 }, State.lostRoute_groups _, rfl, fun _ => ⟨rfl, rfl⟩⟩
  · split at h
    · cases h
    · cases h
      refine ⟨_, fun y => { y with remN := y.remN + 1 }, ?_, rfl, fun _ => ⟨rfl, rfl⟩⟩
      rfl

/-- 06 R127: QSIG of a counter of another node. -/
theorem exec_qsig_remote (h : Issues s v) (m : Means s v (.qsig a b wa wb) (v.at_ p 8 true (View.signalAt x))) (hl : v.Lies p 8 true pa e)
    (hremote : v.s.isLocal pa = false) {t : State} (ht : (v.filled p e).sendSignal pa x = .ok t) :
    exec (.qsig a b wa wb) s = .next (v.done t) := by
  have hc := v.recached_filled p e
  have hat := m.lies hl
  rw [View.signalAt, hc.isLocal_eq, hremote, if_neg Bool.false_ne_true, ht] at hat
  obtain ⟨r, k, hg, rfl, hk⟩ := View.sendSignal_spec ht
  have hw := h.warp_of_groups (hg.trans hc.groups_eq)
  refine hat.done h ((State.warp_modWarp r v.r.g v.r.w k).trans ?_) (hk v.y).1 (hk v.y).2
  rw [hw, Option.map_some]

/-- 06 R128: QWAIT goes on once the counter has reached the threshold, and else waits. -/
theorem exec_qwait_access (h : Issues s v) (m : Means s v (.qwait a b wa wb) (v.at_ p 8 false (View.waitAt x))) (hl : v.Lies p 8 false pa e) :
    (x ≤ v.s.engRd pa 8 → Leaves s v (.qwait a b wa wb)
      { v.y with flags := setZNCV v.y.flags (decide (2 ^ 63 ≤ v.s.engRd pa 8)) false false false } v.s) ∧
    (v.s.engRd pa 8 < x → Parks s v (.qwait a b wa wb)) := by
  have hc := v.recached_filled p e
  have hat := m.lies hl
  rw [View.waitAt, hc.engRd_eq] at hat
  refine ⟨fun hx => ?_, fun hx => ?_⟩
  · have hbit : decide (v.s.engRd pa 8 / 2 ^ 63 % 2 = 1) = decide (2 ^ 63 ≤ v.s.engRd pa 8) := by
      have := v.s.engRd_lt pa 8
      exact decide_eq_decide.mpr (by omega)
    rw [if_neg (Nat.not_lt.mpr hx), hbit] at hat
    have ha := State.recached_acquire ((v.filled p e).put { v.y with
      flags := setZNCV v.y.flags (decide (2 ^ 63 ≤ v.s.engRd pa 8)) false false false }) (v.filled p e).core 6
    refine hat.leaves h ?_ (ha.mem_eq.trans hc.mem_eq)
    exact (State.warp_congr ha.groups_eq ..).trans (h.warp_put hc.groups_eq _)
  · rw [if_pos hx] at hat
    exact hat.parks h

end

/-! ## Word queues (06 R129, R130) -/

section
variable {s : State} {v : View} {a b : Opnd} {wa wb : Bool} {p x pa e : Nat}

theorem means_qattach_at (ha : v.Val kS a p) (hp : p % 128 = 0) (hn : v.y.attach.length < 4) :
    Means s v (.qattach a wa) (v.at_ p 128 true (View.attachAt p)) := by
  have m := (means_qattach (s := s) (wa := wa) ha).aligned hp
  rwa [if_neg (Nat.not_le.mpr hn)] at m

/-- 06 R129: a warp is attached to four queues at most. -/
theorem exec_qattach_full (h : Issues s v) (ha : v.Val kS a p) (hp : p % 128 = 0) (hn : 4 ≤ v.y.attach.length) :
    exec (.qattach a wa) s = v.trapped 0x01 0 v.f.mask := by
  have m := (means_qattach (s := s) (wa := wa) ha).aligned hp
  rw [if_pos hn] at m
  exact Means.traps m h (by decide)

/-- 06 R129: QATTACH counts one producer more. -/
theorem exec_qattach (h : Issues s v) (m : Means s v (.qattach a wa) (v.at_ p 128 true (View.attachAt p))) (hl : v.Lies p 128 true pa e) :
    Leaves s v (.qattach a wa) { v.y with attach := v.y.attach ++ [BitVec.ofNat 64 p], flags := setZ v.y.flags false }
      (v.s.engPutBytes (pa + 20) (leBytes 4 (v.s.engRd (pa + 20) 4 + 1))) := by
  have hc := v.recached_filled p e
  have hat := m.lies hl
  rw [View.attachAt, hc.engRd_eq] at hat
  exact hat.leaves h (h.warp_put ((State.homeWrite_groups ..).trans hc.groups_eq) _) (hc.homeWrite_mem ..)

theorem means_qdetach_at (ha : v.Val kS a p) (hp : p % 128 = 0) (hf : v.Free) (hmem : BitVec.ofNat 64 p ∈ v.y.attach) :
    Means s v (.qdetach a wa) (v.at_ p 128 true (View.detachAt p)) := by
  have m := ((means_qdetach (s := s) (wa := wa) ha).aligned hp).released hf (fun hsys => nomatch hsys)
  rwa [if_pos (List.contains_iff_mem.mpr hmem)] at m

/-- 06 R129: QDETACH counts one producer fewer. -/
theorem exec_qdetach (h : Issues s v) (m : Means s v (.qdetach a wa) (v.at_ p 128 true (View.detachAt p))) (hl : v.Lies p 128 true pa e) :
    Leaves s v (.qdetach a wa) { v.y with attach := v.y.attach.erase (BitVec.ofNat 64 p), flags := setZ v.y.flags false }
      (v.s.engPutBytes (pa + 20) (leBytes 4 (v.s.engRd (pa + 20) 4 + 2 ^ 32 - 1))) := by
  have hc := v.recached_filled p e
  have hat := m.lies hl
  rw [View.detachAt, hc.engRd_eq] at hat
  exact hat.leaves h (h.warp_put ((State.homeWrite_groups ..).trans hc.groups_eq) _) (hc.homeWrite_mem ..)

/-- 06 R129: QDETACH of a queue that the warp is not attached to sets Z alone. -/
theorem exec_qdetach_unattached (h : Issues s v) (ha : v.Val kS a p) (hp : p % 128 = 0) (hn : BitVec.ofNat 64 p ∉ v.y.attach) (hf : v.Free) :
    Leaves s v (.qdetach a wa) { v.y with flags := setZ v.y.flags true } v.s := by
  have m := ((means_qdetach (s := s) (wa := wa) ha).aligned hp).released hf (fun hsys => nomatch hsys)
  rw [if_neg (mt List.contains_iff_mem.mp hn)] at m
  exact m.leaves h (h.warp_put rfl _) rfl

theorem means_qwr_at (ha : v.Val kS a p) (hb : v.Val kSC b x) (hp : p % 128 = 0) (hh : v.y.held = none) (hf : v.Free) :
    Means s v (.qwr a b wa wb) (v.at_ p 128 true (View.writeAt p x)) :=
  (((means_qwr ha hb).aligned hp).unstaged hh).released hf (fun hsys => nomatch hsys)

/-- 06 R130: QWR puts the word at the tail, and waits while the ring is full. -/
theorem exec_qwr_access (h : Issues s v) (m : Means s v (.qwr a b wa wb) (v.at_ p 128 true (View.writeAt p x))) (hl : v.Lies p 128 true pa e) :
    let h := v.s.qHdr pa
    ((h.tail + 2 ^ 64 - h.head) % 2 ^ 64 = h.cap → Parks s v (.qwr a b wa wb)) ∧
    (∀ pw e2, (h.tail + 2 ^ 64 - h.head) % 2 ^ 64 ≠ h.cap → (v.filled p e).Lies (h.slot p h.tail) 8 true pw e2 →
      Leaves s v (.qwr a b wa wb) v.y ((v.s.engPutBytes pw (leBytes 8 x)).engPutBytes (pa + 8) (leBytes 8 (h.tail + 1)))) := by
  have hc := v.recached_filled p e
  have hat := m.lies hl
  rw [View.writeAt, hc.qHdr_eq] at hat
  intro hdr
  refine ⟨fun hfull => ?_, fun pw e2 hroom hl2 => ?_⟩
  · rw [if_pos hfull] at hat
    exact hat.parks h
  · rw [if_neg hroom, View.at_of_lies hl2] at hat
    have hc2 := hc.trans ((v.filled p e).recached_filled (hdr.slot p hdr.tail) e2)
    refine hat.leaves h (h.warp_of_groups ?_) (hc2.homeWrite_homeWrite_mem ..)
    exact (State.homeWrite_groups ..).trans ((State.homeWrite_groups ..).trans hc2.groups_eq)

end

/-- Settles O38: each instruction is a chain of checks before its access; each link that fails stops it, and past the last the access decides. -/
theorem launchQueueInstructionResults : Obligations.LaunchQueueInstructionResults := by
  refine ⟨fun s v d a b i qi p pa e wa wb h hd ha hb => ?qpush, fun s v a b p x pa e wa wb h ha => ?_⟩
  case qpush =>
    obtain ⟨hwide, halign, hstage, hwait, hstumbles⟩ := exec_qpush_stops (wa := wa) (wb := wb) h hd ha hb
    exact ⟨hwide, halign, hstage, hwait, hstumbles,
      fun hq hp hh hr hl => exec_qpush_access h (means_qpush_at hd ha hb hq hp hh hr) hl⟩
  refine ⟨exec_mapping h ha, fun i hi => exec_mapping_low h hi, fun i hi hp => exec_qmap_misaligned h ha hi hp, fun hp => ?misaligned128,
    fun hp => ?misaligned8, fun hb hh => ?staged, fun hp hf => ?unreleased, fun hb hp hh hw => ?unreleasedSignal, fun hb hp hh hf hr => ?stumblesSignal,
    fun hb hp => ?stumblesWait, fun hp => ?stumblesQueue, fun hb hp hh hf hr hl => ?signal, fun hb hp hl => ?wait, fun hp hl => ?attach,
    fun hn hp => exec_qattach_full h ha hp hn, fun hp hn hf => exec_qdetach_unattached h ha hp hn hf, fun hb hp hh hf hl => ?write⟩
  case misaligned128 =>
    exact ⟨(means_qattach ha).misaligned h hp, (means_qdetach ha).misaligned h hp, fun hb => (means_qwr ha hb).misaligned h hp⟩
  case misaligned8 => exact ⟨fun hb => (means_qsig ha hb).misaligned h hp, fun hb => (means_qwait ha hb).misaligned h hp⟩
  case staged => exact ⟨fun hp => ((means_qsig ha hb).aligned hp).staged h hh, fun hp => ((means_qwr ha hb).aligned hp).staged h hh⟩
  case unreleased =>
    exact ⟨((means_qdetach ha).aligned hp).unreleased h (fun hn => hf hn.1),
      fun hb hh => (((means_qwr ha hb).aligned hp).unstaged hh).unreleased h (fun hn => hf hn.1)⟩
  case unreleasedSignal => exact (((means_qsig ha hb).aligned hp).unstaged hh).unreleased h (fun hn => hw ⟨hn.1, hn.2 rfl⟩)
  case stumblesSignal => exact (means_qsig_at ha hb hp hh hf hr).stumbles h
  case stumblesWait => exact ((means_qwait ha hb).aligned hp).stumbles h
  case stumblesQueue =>
    exact ⟨fun hn => (means_qattach_at ha hp hn).stumbles h, fun hf hmem => (means_qdetach_at ha hp hf hmem).stumbles h,
      fun hb hh hf => (means_qwr_at ha hb hp hh hf).stumbles h⟩
  case signal =>
    have m := means_qsig_at (s := s) (wa := wa) (wb := wb) ha hb hp hh hf hr
    exact ⟨exec_qsig_local h hb m hl, fun hremote u hu => exec_qsig_remote h m hl hremote hu⟩
  case wait => exact exec_qwait_access h ((means_qwait ha hb).aligned hp) hl
  case attach =>
    exact ⟨fun hn => exec_qattach h (means_qattach_at ha hp hn) hl, fun hmem hf => exec_qdetach h (means_qdetach_at ha hp hf hmem) hl⟩
  case write => exact exec_qwr_access h (means_qwr_at ha hb hp hh hf) hl

end Sys2Proof.Machine
end

section
/-! O43: the phases of a launch, and the placement, pre-emption, saving and restoring of its groups and warps (07 R135 to R141, 08 R143 to R153, R163,
R164). What each shared operation leaves of the launches and of every group comes first; then what each turn comes to. -/

namespace Sys2Proof.Machine

/-! ## What leaves the launches as they are -/

section
variable (s : State)

@[simp] theorem State.irq_launches (n : Nat) : (s.irq n).launches = s.launches := by
  unfold State.irq; split <;> rfl

@[simp] theorem State.setCtx_launches (c : Fin 64) (st : CtxState) : (s.setCtx c st).launches = s.launches := by
  simp only [State.setCtx, State.notify, State.irq_launches]
  split <;> rfl

@[simp] theorem State.idleCheck_launches (c : Fin 64) : (s.idleCheck c).launches = s.launches := by
  unfold State.idleCheck
  split
  · exact s.setCtx_launches ..
  · rfl

@[simp] theorem State.putRec_launches (id slot : Nat) (r : Rec) : (s.putRec id slot r).launches = s.launches := by
  simp only [State.putRec]
  split
  · rfl
  · split
    · rfl
    · split <;> rfl

@[simp] theorem State.dropRec_launches (id slot cause addr : Nat) (logged : Bool) : (s.dropRec id slot cause addr logged).launches = s.launches := by
  simp only [State.dropRec]
  split
  · rfl
  · split
    · rfl
    · split <;> exact s.putRec_launches ..

@[simp] theorem State.freeRec_launches (id slot : Nat) : (s.freeRec id slot).launches = s.launches := by
  simp only [State.freeRec]
  split
  · rfl
  · split
    · rfl
    · split <;> rfl

@[simp] theorem State.endBind_launches (id : Nat) : (s.endBind id).launches = s.launches := by
  simp only [State.endBind]
  split
  · rfl
  · refine (foldl_keeps State.launches (fun t e => State.freeRec_launches ..) ..).trans (foldl_keeps State.launches (fun t e => ?_) ..)
    split
    · rfl
    · exact State.dropRec_launches ..

@[simp] theorem State.endBinds_launches (l : Nat) : (s.endBinds l).launches = s.launches := by
  refine foldl_keeps State.launches (fun t e => ?_) ..
  split
  · exact t.endBind_launches ..
  · rfl

@[simp] theorem State.complete_launches (k : Kernel) (v : Nat) : (s.complete k v).launches = s.launches := by
  simp only [State.complete]
  split
  · rfl
  · split <;> rfl

/-- 07 R141: the end of a launch changes its state, and no other launch. -/
theorem State.tget_endLaunch {l : Nat} {x : Launch} (h : tget s.launches l = some x) (st : LaunchState) (signal : Bool) :
    tget (s.endLaunch l st signal).launches l = some { x with st := st } := by
  simp only [State.endLaunch, h]
  have hput : tget (tput (s.endBinds l).launches l { x with st := st }) l = some { x with st := st } := by rw [tget_tput, if_pos rfl]
  split
  · rw [State.complete_launches, hput]
  · exact hput

end

/-! ## Phases (07 R135 to R141) -/

section
variable {s : State} {l : Nat} {x : Launch}

/-- 16 R375, R376: a drain counts for its context; what it makes evict-first is no part of a context, a launch or a group. -/
theorem State.drainCount_eq (s : State) (c : Fin 64) :
    ∃ bar0 l2, s.drainCount c = { s.modCtx c (fun y => { y with drains := y.drains + 1 }) with bar0 := bar0, l2 := l2 } :=
  List.foldlRecOn (motive := fun t => ∃ bar0 l2, t = { s.modCtx c (fun y => { y with drains := y.drains + 1 }) with bar0 := bar0, l2 := l2 }) _ _
    ⟨_, _, rfl⟩ (by rintro _ ⟨_, _, rfl⟩ _ _; exact ⟨_, _, rfl⟩)

/-- 07 R141: the state in which a drain of a launch has counted, unless its context has faulted. -/
def State.counted (s : State) (c : Fin 64) : State := if (s.ctxs[c]).st.runs then s.drainCount c else s

/-- 07 R141, 16 R375: a drain that counts changes no launch and no group, and is one more of a context that can run. -/
theorem State.counted_spec (s : State) (c : Fin 64) :
    (s.counted c).launches = s.launches ∧ (s.counted c).groups = s.groups ∧
      ((s.ctxs[c]).st.runs = true → ((s.counted c).ctxs[c]).drains = (s.ctxs[c]).drains + 1) := by
  unfold State.counted
  split
  · obtain ⟨bar0, l2, h⟩ := s.drainCount_eq c
    rw [h]
    exact ⟨rfl, rfl, fun _ => by simp only [State.getElem_modCtx_self]⟩
  · next h => exact ⟨rfl, rfl, fun hr => absurd hr h⟩

theorem exec_phaseDrained_waits (h : tget s.launches l = some x) (hd : s.drained l x = false) : exec (.phaseDrained l) s = .next s := by
  show execPhaseDrained l s = _
  simp only [execPhaseDrained, h, hd, Bool.not_false, or_true, if_true]

/-- 07 R139: a phase that has drained goes on to the selection of the next. -/
theorem exec_phaseDrained_next (h : tget s.launches l = some x) (hst : x.st = .draining) (hd : s.drained l x = true) (hk : x.killed = false)
    (hp : x.phase + 1 < x.k.phases) :
    exec (.phaseDrained l) s =
      .next { s.counted (cfin x.k.ctx) with launches := tput (s.counted (cfin x.k.ctx)).launches l { x with st := .selecting } } := by
  show execPhaseDrained l s = _
  simp only [execPhaseDrained, h, hst, hd, hk, hp, ne_eq, not_true_eq_false, Bool.not_true, Bool.false_eq_true, or_self, if_false, if_true]
  rfl

/-- 07 R140, R141: the last phase of a launch, or a killed one, has drained, and the launch ends. -/
theorem exec_phaseDrained_ends (h : tget s.launches l = some x) (hst : x.st = .draining) (hd : s.drained l x = true) {st : LaunchState}
    (he : (x.killed = true ∧ st = .aborted) ∨ (x.killed = false ∧ x.k.phases ≤ x.phase + 1 ∧ st = .done)) :
    ∃ t : State, exec (.phaseDrained l) s = .next (t.flush (cfin x.k.ctx)) ∧ tget t.launches l = some { x with st := st } := by
  refine ⟨((s.counted (cfin x.k.ctx)).endLaunch l st true).idleCheck (cfin x.k.ctx), ?_, ?_⟩
  · show execPhaseDrained l s = _
    rcases he with ⟨hk, rfl⟩ | ⟨hk, hp, rfl⟩
    · simp only [execPhaseDrained, h, hst, hd, hk, ne_eq, not_true_eq_false, Bool.not_true, Bool.false_eq_true, or_self, if_false, if_true]
      rfl
    · simp only [execPhaseDrained, h, hst, hd, hk, Nat.not_lt.mpr hp, ne_eq, not_true_eq_false, Bool.not_true, Bool.false_eq_true, or_self, if_false]
      rfl
  · rw [State.idleCheck_launches, State.tget_endLaunch _ (by rwa [(s.counted_spec _).1])]

section
variable {w : Nat} (h : tget s.launches l = some x) (hst : x.st = .selecting)
  (hw : s.fetchMem (cfin x.k.ctx) (x.k.sizesVa + 8 * (x.phase + 1)) 8 = .got w)
include h hst hw

/-- 07 R136, R141: a launch that no schedule covers ends ABORTED, once its writes have been performed. -/
theorem exec_phaseSelection_uncovered (hn : selectIn x.k.scheds w = none) :
    exec (.phaseSelection l) s =
      .next (if s.writesDue l (cfin x.k.ctx) then s else s.badCount l x (x.k.sizesVa + 8 * (x.phase + 1))) := by
  show execPhaseSelection l s = _
  simp only [execPhaseSelection, h, hst, ne_eq, not_true_eq_false, if_false, hw, hn]

/-- 07 R135, R136: the next phase runs with the schedule that its size word picks. -/
theorem exec_phaseSelection_covered {sch : Schedule} {n : Nat} (hn : selectIn x.k.scheds w = some (sch, n)) :
    exec (.phaseSelection l) s =
      .next (({ s with launches := tput s.launches l { x with st := .running, phase := x.phase + 1, size := w, count := n } } : State).addGroups l x.k.ctx
        (x.phase + 1) x.prio n sch) := by
  show execPhaseSelection l s = _
  simp only [execPhaseSelection, h, hst, ne_eq, not_true_eq_false, if_false, hw, hn]

end

/-- 07 R141: what ends a launch that no schedule covers. -/
theorem State.badCount_spec (h : tget s.launches l = some x) (addr : Nat) :
    ∃ t : State, s.badCount l x addr = t.flush (cfin x.k.ctx) ∧ tget t.launches l = some { x with st := .aborted } := by
  refine ⟨_, rfl, ?_⟩
  rw [State.idleCheck_launches]
  exact State.tget_endLaunch (s.log ..) h ..

end

/-! ## What leaves the groups as they are -/

section
variable (s : State)

@[simp] theorem State.setCtx_groups (c : Fin 64) (st : CtxState) : (s.setCtx c st).groups = s.groups := by
  simp only [State.setCtx, State.notify, State.irq_groups]
  split <;> rfl

@[simp] theorem State.ctxRunning_groups (c : Fin 64) : (s.ctxRunning c).groups = s.groups := by
  unfold State.ctxRunning
  split
  · exact s.setCtx_groups ..
  · rfl

@[simp] theorem State.suspendCheck_groups (c : Fin 64) : (s.suspendCheck c).groups = s.groups := by
  unfold State.suspendCheck
  split
  · exact State.setCtx_groups ..
  · rfl

@[simp] theorem State.drainCheck_groups (l : Nat) : (s.drainCheck l).groups = s.groups := by
  simp only [State.drainCheck]
  split
  · rfl
  · split <;> rfl

@[simp] theorem State.engPutBytes_groups (pa : Nat) (b : List Byte) : (s.engPutBytes pa b).groups = s.groups := by
  obtain ⟨m, hm⟩ := s.engStore_eq pa b
  rw [(s.recached_engPutBytes pa b).groups_eq, hm]

variable {s} {t : State} {c : Fin 64}

theorem State.putPieces_groups {l : List (Nat × List Byte)} (h : s.putPieces c l = .ok t) : t.groups = s.groups := by
  induction l generalizing t with
  | nil => cases h; rfl
  | cons e l ih =>
    obtain ⟨va, b⟩ := e
    simp only [State.putPieces] at h
    split at h
    · split at h
      · cases h
      · split at h
        · next u hu =>
          cases h
          rw [State.engPutBytes_groups, ih hu]
        · next hno => exact absurd h (hno t)
    all_goals cases h

/-- 08 R147: the write of an image changes no group. -/
theorem State.putImage_groups {l : List (Nat × Nat)} {b : List Byte} (h : s.putImage c l b = .ok t) : t.groups = s.groups := by
  induction l generalizing s b with
  | nil => cases h; rfl
  | cons e l ih =>
    obtain ⟨a, n⟩ := e
    rw [State.putImage] at h
    split at h
    · cases h; rfl
    · split at h
      · next u hu => exact (ih h).trans (State.putPieces_groups hu)
      · next hno => exact absurd h (hno t)

end

/-! ## What becomes of each group -/

theorem tget_map {α : Type} (t : Tab α) (f : α → α) (k : Nat) : tget (t.map (fun e => (e.1, f e.2))) k = (tget t k).map f := by
  induction t with
  | nil => rfl
  | cons e t ih =>
    simp only [List.map_cons, tget, ih]
    split <;> rfl

/-- Every group of the first state stands in the second, as the relation says. -/
def State.Groupwise (R : Group → Group → Prop) (s t : State) : Prop := ∀ g x, s.group g = some x → ∃ y, t.group g = some y ∧ R x y

section
variable {s t u : State} {R Q : Group → Group → Prop}

theorem State.Groupwise.of_groups (hR : ∀ x, R x x) (h : t.groups = s.groups) : s.Groupwise R t :=
  fun g x hx => ⟨x, by rwa [State.group, h], hR x⟩

theorem State.Groupwise.trans (hR : ∀ {x y z}, R x y → R y z → R x z) (h : s.Groupwise R t) (k : t.Groupwise R u) : s.Groupwise R u := fun g x hx => by
  obtain ⟨y, hy, hxy⟩ := h g x hx
  obtain ⟨z, hz, hyz⟩ := k g y hy
  exact ⟨z, hz, hR hxy hyz⟩

theorem State.Groupwise.congr (h : s.Groupwise R t) (hu : u.groups = t.groups) : s.Groupwise R u := fun g x hx => by
  rw [State.group, hu]
  exact h g x hx

theorem State.Groupwise.mono (h : s.Groupwise R t) (hQ : ∀ {x y}, R x y → Q x y) : s.Groupwise Q t := fun g x hx =>
  (h g x hx).imp (fun _ ⟨hy, hxy⟩ => ⟨hy, hQ hxy⟩)

theorem State.groupwise_modGroup (hR : ∀ x, R x x) (g : Nat) {k : Group → Group} (hk : ∀ x, R x (k x)) :
    s.Groupwise R (s.modGroup g k) := fun h x hx => by
  rw [State.group_modGroup]
  split
  · next hg => exact ⟨k x, by rw [← hg, hx]; rfl, hk x⟩
  · exact ⟨x, hx, hR x⟩

theorem State.groupwise_map {f : Group → Group} (hf : ∀ x, R x (f x)) (h : t.groups = s.groups.map (fun e => (e.1, f e.2))) : s.Groupwise R t :=
  fun g x hx => ⟨f x, by rw [State.group, h, tget_map]; exact congrArg (Option.map f) hx, hf x⟩

end

/-! ### Barriers that settle (13 R304, R305) -/

/-- The group differs in its exchange banks and its counts of swaps alone. -/
def Group.Swapped (x y : Group) : Prop := ∃ live n m, y = { x with live1 := live, gswaps := n, cswaps := m }

theorem Group.Swapped.refl (x : Group) : x.Swapped x := ⟨_, _, _, rfl⟩

theorem Group.Swapped.trans {x y z : Group} (h : x.Swapped y) (k : y.Swapped z) : x.Swapped z := by
  obtain ⟨_, _, _, rfl⟩ := h
  obtain ⟨_, _, _, rfl⟩ := k
  exact ⟨_, _, _, rfl⟩

theorem Group.swapped_gsyncSettle (x : Group) : x.Swapped x.gsyncSettle := by
  unfold Group.gsyncSettle
  split
  · exact .refl x
  · split
    · exact ⟨_, _, _, rfl⟩
    · exact .refl x

theorem Group.swapped_csyncSwap (k : Nat) (x : Group) : x.Swapped (x.csyncSwap k) := by
  unfold Group.csyncSwap
  split
  · exact ⟨_, _, _, rfl⟩
  · exact .refl x

theorem Group.swapped_csyncSwaps (x : Group) (k : Nat → Nat) (l : List Nat) : x.Swapped (l.foldl (fun h i => h.csyncSwap (k i)) x) :=
  List.foldlRecOn (motive := fun y => x.Swapped y) l _ (.refl x) (fun y hy i _ => hy.trans (y.swapped_csyncSwap (k i)))

theorem State.swapped_clusterStep (s : State) (l p q : Nat) : s.Groupwise Group.Swapped (s.clusterStep l p q) := by
  simp only [State.clusterStep]
  split
  · exact .of_groups .refl rfl
  · split
    · next m _ _ =>
      refine State.groupwise_map (f := fun x => if x.inCluster l p q then
        (List.range (m + 1 - (s.clusterDone l p q + 1))).foldl (fun x i => x.csyncSwap (s.clusterDone l p q + 1 + i)) x else x) (fun x => ?_) rfl
      split
      · exact x.swapped_csyncSwaps ..
      · exact .refl x
    · exact .of_groups .refl rfl

theorem State.swapped_joinSettle (s : State) (g : Nat) : s.Groupwise Group.Swapped (s.joinSettle g) := by
  unfold State.joinSettle
  split
  · exact .of_groups .refl rfl
  · split
    · exact State.groupwise_modGroup .refl g (fun x => x.swapped_csyncSwaps _ _)
    · exact .of_groups .refl rfl

/-- 13 R304, R305: barriers that settle change nothing of a group but its banks. -/
theorem State.swapped_settleSync (s : State) (g : Nat) : s.Groupwise Group.Swapped (s.settleSync g) := by
  have hg : s.Groupwise Group.Swapped (s.modGroup g Group.gsyncSettle) := State.groupwise_modGroup .refl g Group.swapped_gsyncSettle
  have hj := hg.trans .trans (State.swapped_joinSettle _ g)
  simp only [State.settleSync]
  split
  · exact hg
  · split
    · exact hj
    · exact hj.trans .trans (State.swapped_clusterStep _ _ _ _)

/-! ### A group whose warps may all have exited (08 R163) -/

theorem Group.alive_ne_nil {x : Group} (h : ∃ w ∈ x.warps, w.sched ≠ .exited) : x.alive.isEmpty = false := by
  obtain ⟨w, hw, hs⟩ := h
  have : w ∈ x.alive := List.mem_filter.mpr ⟨hw, by simpa using hs⟩
  cases hx : x.alive with
  | nil => simp [hx] at this
  | cons => rfl

/-- 08 R163: a group with a warp that has not exited goes on. -/
theorem State.exitGroup_of_alive {s : State} {g : Nat} {x : Group} (h : s.group g = some x) (ha : ∃ w ∈ x.warps, w.sched ≠ .exited) :
    s.exitGroup g = s := by
  simp only [State.exitGroup, h, Group.alive_ne_nil ha, Bool.false_eq_true, false_and, if_false]

/-- The group has the same warps. -/
def Group.SameWarps (x y : Group) : Prop := y.warps = x.warps

theorem Group.SameWarps.refl (x : Group) : x.SameWarps x := rfl

theorem Group.SameWarps.trans {x y z : Group} (h : x.SameWarps y) (k : y.SameWarps z) : x.SameWarps z := Eq.trans k h

theorem Group.Swapped.sameWarps {x y : Group} (h : x.Swapped y) : x.SameWarps y := by
  obtain ⟨_, _, _, rfl⟩ := h
  rfl

/-- 08 R147: the image of a group that ends is given up, and its warps stay. -/
theorem State.sameWarps_freeImage (s : State) (g : Nat) : s.Groupwise Group.SameWarps (s.freeImage g) := by
  unfold State.freeImage
  split
  · exact .of_groups .refl rfl
  · split
    · exact .congr (State.groupwise_modGroup .refl g (fun _ => by rfl)) (State.modCtx_groups ..)
    · exact .of_groups .refl rfl

/-- 08 R163, R164: a group that has exited keeps its warps, and with them their registers. -/
theorem State.sameWarps_exitGroup (s : State) (g : Nat) : s.Groupwise Group.SameWarps (s.exitGroup g) := by
  have hmod : ∀ k : Group → Group, (∀ y, Group.SameWarps y (k y)) → s.Groupwise Group.SameWarps ((s.freeImage g).modGroup g k).trimEngine :=
    fun k hk => ((s.sameWarps_freeImage g).trans .trans (State.groupwise_modGroup .refl g hk)).congr rfl
  simp only [State.exitGroup]
  split
  · exact .of_groups .refl rfl
  · split
    · refine .congr ?_ (State.drainCheck_groups ..)
      split
      · refine (hmod _ ?_).trans .trans ((State.swapped_clusterStep _ _ _ _).mono Group.Swapped.sameWarps)
        intro y
        split <;> rfl
      · refine hmod _ ?_
        intro y
        split <;> rfl
    · exact .of_groups .refl rfl

/-! ## Room on a core (08 R160) -/

/-- The group differs in its warps alone. -/
def Group.Rewarped (x y : Group) : Prop := ∃ warps, y = { x with warps := warps }

theorem Group.Rewarped.refl (x : Group) : x.Rewarped x := ⟨_, rfl⟩

theorem Group.Rewarped.trans {x y z : Group} (h : x.Rewarped y) (k : y.Rewarped z) : x.Rewarped z := by
  obtain ⟨_, rfl⟩ := h
  obtain ⟨_, rfl⟩ := k
  exact ⟨_, rfl⟩

section
variable {s t u : State}

theorem State.rewarped_spillUntil {core need : Nat} {l : List Movable} (h : s.spillUntil core need l = some t) : s.Groupwise Group.Rewarped t := by
  induction l generalizing s with
  | nil =>
    rw [State.spillUntil] at h
    split at h
    · cases h; exact .of_groups .refl rfl
    · cases h
  | cons e l ih =>
    rw [State.spillUntil] at h
    split at h
    · cases h; exact .of_groups .refl rfl
    · split at h
      · exact (State.groupwise_modGroup .refl e.g (fun x => ⟨_, rfl⟩)).trans .trans (ih h)
      · cases h

/-- 08 R160: making room moves windows of warps, and changes nothing else of a group. -/
theorem State.rewarped_makeRoom {core g w need : Nat} (h : s.makeRoom core g w need = some t) : s.Groupwise Group.Rewarped t :=
  State.rewarped_spillUntil h

/-- 08 R160: nothing moves where there is room already. -/
theorem State.makeRoom_of_room {core g w need : Nat} (h : s.regsUsed core + need ≤ 1536) : s.makeRoom core g w need = some s := by
  unfold State.makeRoom
  cases s.spillList core g w with
  | nil => exact if_pos h
  | cons => exact if_pos h

theorem State.group_congr (h : t.groups = s.groups) (g : Nat) : t.group g = s.group g := by
  rw [State.group, h, State.group]

theorem State.group_acquire (s : State) (core scope g : Nat) : (s.acquire core scope).group g = s.group g :=
  State.group_congr (s.recached_acquire core scope).groups_eq g

/-- A group of a state whose groups are those of another but that this one has changed. -/
theorem State.group_of_tmod {g : Nat} {x : Group} {k : Group → Group} (h : s.group g = some x) (ht : t.groups = tmod s.groups g k) :
    t.group g = some (k x) := by
  rw [State.group, ht, tget_tmod_self]
  exact congrArg (Option.map k) h

/-! ## Placement (08 R143, R144, R147, R163) -/

variable {g core : Nat} {x : Group}

theorem exec_groupPlacement (hp : s.placeHead = some (g, x)) (hc : s.coreFor x = some core) :
    exec .groupPlacement s = .next (if x.st = .saved then s.placeSaved g x core else s.placeFresh g x core) := by
  show execGroupPlacement s = _
  simp only [execGroupPlacement, hp, hc]

/-- 15 R354: the placement of a new group goes on once CB need not wait for a page. -/
theorem State.placeFresh_eq (hpark : s.xlate (cfin x.ctx) (s.ctxs[cfin x.ctx]).cb false false ≠ .park)
    (huncorr : s.xlate (cfin x.ctx) (s.ctxs[cfin x.ctx]).cb false false ≠ .uncorr) : s.placeFresh g x core = s.placeNew g x core := by
  unfold State.placeFresh
  dsimp only
  split
  · next h => exact absurd h hpark
  · next h => exact absurd h huncorr
  · rfl

/-- 08 R147: the reservation of an image takes no group away. -/
theorem State.group_reserve (s : State) (g : Nat) (x : Group) (hx : (s.group g).isSome = true) : ((s.reserve g x).group g).isSome = true := by
  obtain ⟨y, hy⟩ := Option.isSome_iff_exists.mp hx
  unfold State.reserve
  split
  · exact hx
  · exact Option.isSome_iff_exists.mpr ⟨_, State.group_of_tmod hy ((State.modCtx_groups ..).trans (State.modGroup_groups ..))⟩

/-- 13 R304, R305, 08 R163: a group whose barriers settle, and which ends when all its warps have exited. -/
theorem State.settleSync_exitGroup (h : s.group g = some x) :
    ∃ y, ((s.settleSync g).exitGroup g).group g = some y ∧ y.warps = x.warps ∧ ((∃ w ∈ x.warps, w.sched ≠ .exited) → x.Swapped y) := by
  obtain ⟨z, hz, hxz⟩ := s.swapped_settleSync g g x h
  by_cases ha : ∃ w ∈ x.warps, w.sched ≠ .exited
  · rw [State.exitGroup_of_alive hz (by rwa [hxz.sameWarps])]
    exact ⟨z, hz, hxz.sameWarps, fun _ => hxz⟩
  · obtain ⟨y, hy, hzy⟩ := (s.settleSync g).sameWarps_exitGroup g g z hz
    exact ⟨y, hy, Eq.trans hzy hxz.sameWarps, fun h => absurd h ha⟩

/-- The group is in a state and has a core. -/
def Group.Stands (st : GroupState) (core : Nat) (x : Group) : Prop := x.st = st ∧ x.core = some core

theorem Group.Swapped.stands {y : Group} {st : GroupState} (h : x.Swapped y) (hx : x.Stands st core) : y.Stands st core := by
  obtain ⟨_, _, _, rfl⟩ := h
  exact hx

theorem State.settleSync_exitGroup_stands {n : Nat} {st : GroupState} (h : s.group g = some x) (hx : x.Stands st core) (hn : x.warps.length = n) :
    ∃ y, ((s.settleSync g).exitGroup g).group g = some y ∧ y.warps.length = n ∧ ((∃ w ∈ y.warps, w.sched ≠ .exited) → y.Stands st core) :=
  (State.settleSync_exitGroup h).imp (fun _ ⟨hy, hw, hs⟩ => ⟨hy, hw ▸ hn, fun ha => (hs (hw ▸ ha)).stands hx⟩)

/-- 08 R163: a group as it is placed on a core with its warps. -/
def Group.placedOn (core : Nat) (warps : List Warp) (now : Nat) (x : Group) : Group :=
  { x with st := .resident, core := some core, warps := warps, resSince := now }

/-- 08 R163: a new group has its warps, and is RESIDENT on the core unless none of them has a lane. -/
theorem State.placeNew_spec {l : Launch} (hx : s.group g = some x) (hl : tget s.launches x.launch = some l)
    (hu : s.makeRoom core s.uid 0 (x.sched.warps * x.win) = some u) :
    ∃ y, (s.placeNew g x core).group g = some y ∧ y.warps.length = x.sched.warps ∧
      ((∃ w ∈ y.warps, w.sched ≠ .exited) → y.Stands .resident core) := by
  obtain ⟨x1, hx1, -⟩ := State.rewarped_makeRoom hu g x hx
  obtain ⟨x2, hx2⟩ := Option.isSome_iff_exists.mp (u.group_reserve g x (Option.isSome_iff_exists.mpr ⟨x1, hx1⟩))
  simp only [State.placeNew, hl, hu, State.group_acquire]
  refine State.settleSync_exitGroup_stands (State.group_of_tmod (k := Group.placedOn core _ s.now) hx2 (State.ctxRunning_groups ..)) ⟨rfl, rfl⟩ ?_
  simp only [Group.placedOn, List.length_map, List.length_range]

/-- 08 R163: a SAVED group that is placed is RESTORING on the core. -/
theorem State.placeSaved_spec (hx : s.group g = some x) (hu : s.makeRoom core s.uid 0 (x.sched.warps * x.win) = some u) :
    ∃ y, (s.placeSaved g x core).group g = some y ∧ y.Stands .restoring core := by
  obtain ⟨x1, hx1, -⟩ := State.rewarped_makeRoom hu g x hx
  have hstands : ∀ {t v : State} {y : Group}, t.Groupwise Group.Swapped v → t.group g = some y → y.Stands .restoring core →
      ∃ z, v.group g = some z ∧ z.Stands .restoring core :=
    fun ht hy hs => (ht g _ hy).imp (fun _ ⟨hz, hyz⟩ => ⟨hz, hyz.stands hs⟩)
  simp only [State.placeSaved, hu, State.group_acquire]
  split
  · exact hstands ((State.swapped_settleSync _ g).trans .trans (State.swapped_clusterStep _ _ _ _))
      (State.group_of_tmod hx1 ((State.ctxRunning_groups ..).trans (State.modGroup_groups ..))) ⟨rfl, rfl⟩
  · exact hstands (State.swapped_settleSync _ g) (State.group_of_tmod hx1 ((State.ctxRunning_groups ..).trans (State.modGroup_groups ..))) ⟨rfl, rfl⟩

end

section
variable {s t u : State} {g v core : Nat} {x y : Group}

/-! ## Pre-emption (08 R151, 11 R251) -/

/-- 08 R163: a RESIDENT group begins to be pre-empted. -/
theorem State.group_preempt (h : s.group g = some x) (hst : x.st = .resident) : (s.preempt g).group g = some { x with st := .preempting } := by
  rw [State.preempt, State.group_of_tmod h (State.modGroup_groups ..), if_pos hst]

/-- 08 R151: the first group of the order fits nowhere, and a group that has had its quantum gives way. -/
theorem exec_preemptionStart (hp : s.placeHead = some (g, x)) (hc : s.coreFor x = none) (hv : s.victimFor x = some v) :
    exec .preemptionStart s = .next (s.preempt v) := by
  show execPreemptionStart s = _
  simp only [execPreemptionStart, hp, hc, hv, Option.isSome_none, Bool.false_eq_true, if_false]

theorem mem_of_mostBlocks {l : List (Nat × Group)} {e : Nat × Group} (h : mostBlocks l = some e) : e ∈ l := by
  induction l generalizing e with
  | nil => cases h
  | cons f l ih =>
    rw [mostBlocks] at h
    split at h
    · cases h; exact List.mem_cons_self
    · next d hd =>
      split at h <;> cases h
      · exact List.mem_cons_of_mem _ (ih hd)
      · exact List.mem_cons_self

/-- 11 R251: the groups of a core, other than one, that hold row blocks and have had their quantum. -/
def State.blockHolders (s : State) (g core : Nat) : List (Nat × Group) :=
  s.groups.filter (fun e => decide (e.1 ≠ g) && decide (e.2.core = some core) && decide (0 < e.2.blocks) && decide (e.2.st = .resident) &&
    decide ((s.ctxs[cfin e.2.ctx]).quantumNs ≤ s.now - e.2.resSince))

theorem State.resident_of_blockHolders {e : Nat × Group} (h : e ∈ s.blockHolders g core) : e.2.st = .resident := by
  have hp := (List.mem_filter.mp h).2
  simp only [Bool.and_eq_true, decide_eq_true_eq] at hp
  obtain ⟨⟨_, hres⟩, _⟩ := hp
  exact hres

/-- 11 R251: an AOPEN has waited for a quantum, and the group that holds most row blocks begins to be pre-empted. -/
theorem exec_rowBlockPreemption (hx : s.group g = some x) (hc : x.core = some core) (hst : x.st = .resident)
    (hlong : ∃ r ∈ x.aopens, (s.ctxs[cfin x.ctx]).quantumNs ≤ s.now - r.since ∧ 31 < s.blocksUsed core + r.need)
    (hnone : ∀ e ∈ s.groups, e.1 ≠ g → e.2.core = some core → 0 < e.2.blocks → e.2.st ≠ .preempting)
    (hv : mostBlocks (s.blockHolders g core) = some (v, y)) : exec (.rowBlockPreemption g) s = .next (s.preempt v) := by
  have hany : x.aopens.any (fun r => decide ((s.ctxs[cfin x.ctx]).quantumNs ≤ s.now - r.since) && decide (31 < s.blocksUsed core + r.need)) = true := by
    simpa using hlong
  have hall : (s.groups.filter (fun e => decide (e.1 ≠ g) && decide (e.2.core = some core) && decide (0 < e.2.blocks))).all
      (fun e => decide (e.2.st ≠ .preempting)) = true := by
    refine List.all_eq_true.mpr (fun e he => ?_)
    obtain ⟨hmem, hp⟩ := List.mem_filter.mp he
    simp only [Bool.and_eq_true, decide_eq_true_eq] at hp ⊢
    obtain ⟨⟨hother, hcore⟩, hblocks⟩ := hp
    exact hnone e hmem hother hcore hblocks
  have hholders : (s.groups.filter (fun e => decide (e.1 ≠ g) && decide (e.2.core = some core) && decide (0 < e.2.blocks))).filter
      (fun e => decide (e.2.st = .resident) && decide ((s.ctxs[cfin e.2.ctx]).quantumNs ≤ s.now - e.2.resSince)) = s.blockHolders g core := by
    rw [List.filter_filter]
    exact List.filter_congr (fun e _ => by rw [Bool.and_comm, ← Bool.and_assoc])
  show execRowBlockPreemption g s = _
  simp only [execRowBlockPreemption, hx, hc, hst, hany, hall, hholders, hv, and_self, if_true]

/-! ## Saving (08 R147, R152) -/

@[simp] theorem Warp.markWin_s (y : Warp) (id : Nat) (b : Bool) : (y.markWin id b).s = y.s := rfl

@[simp] theorem Warp.saved_s (y : Warp) : y.saved.s = y.s := by
  refine foldl_keeps Warp.s (fun z w => ?_) ..
  split
  · rfl
  · exact Warp.markWin_s ..

/-- 08 R152: while accepted work has still to land, or a tile operation can retire, a group is not saved. -/
theorem exec_groupSaved_waits (hx : s.group g = some x) (h : s.landing g = true ∨ x.tileReady = true) : exec (.groupSaved g) s = .next s := by
  show execGroupSaved g s = _
  rcases h with h | h <;> simp only [execGroupSaved, hx, h, true_or, or_true, if_true]

theorem exec_groupSaved (hx : s.group g = some x) (hst : x.st = .preempting) (hl : s.landing g = false) (ht : x.tileReady = false)
    (hu : s.putImage (cfin x.ctx) x.imgAt (s.imageBytes x.imageSize) = .ok u) :
    exec (.groupSaved g) s = .next ((u.saveGroup g x (s.imageBytes x.imageSize)).flush (cfin x.ctx)) := by
  show execGroupSaved g s = _
  simp only [execGroupSaved, hx, hst, hl, ht, hu, ne_eq, not_true_eq_false, Bool.false_eq_true, or_self, if_false]

/-- 08 R163: a group as it is saved into an image. -/
def Group.asSaved (image : List Byte) (now : Nat) (x : Group) : Group :=
  { x with st := .saved, lastQuad := x.core.map coreQuad, core := none, warps := x.warps.map Warp.saved, aopens := [], image := image, waitSince := now }

/-- 08 R152, R163: a group that has been saved has left its core with its registers, its scratchpad and its tile operations. -/
theorem State.saveGroup_spec (hx : s.group g = some x) (image : List Byte) :
    ∃ y, (s.saveGroup g x image).group g = some y ∧ y.st = .saved ∧ y.core = none ∧ y.lastQuad = x.core.map coreQuad ∧ y.spad = x.spad ∧
      y.warps.map (·.s) = x.warps.map (·.s) ∧ y.tops = x.tops := by
  refine ⟨_, State.group_of_tmod (k := Group.asSaved image s.now) hx (State.suspendCheck_groups ..), rfl, rfl, rfl, rfl, ?_, rfl⟩
  simp only [Group.asSaved, List.map_map]
  exact List.map_congr_left (fun y _ => y.saved_s)

/-! ## Restoring (08 R153, R163) -/

theorem State.restoreWarp_s (s : State) (c : Fin 64) (y : Warp) : (s.restoreWarp c y).s = y.s := by
  unfold State.restoreWarp
  split <;> rfl

/-- 08 R153: a restore makes no warp exit. -/
theorem State.restoreWarp_exited (s : State) (c : Fin 64) (y : Warp) : (s.restoreWarp c y).sched = .exited ↔ y.sched = .exited := by
  unfold State.restoreWarp
  split
  · rfl
  · dsimp only
    split
    · next h => simp [h]
    · rfl

/-- 08 R163: a group as it is restored, into a state. -/
def Group.asRestored (s : State) (c : Fin 64) (st : GroupState) (x : Group) : Group :=
  { x with st := st, resSince := s.now, warps := x.warps.map (s.restoreWarp c) }

/-- 05 R103: what a restored group is while its context is being suspended, and else. -/
def Ctx.restored (c : Ctx) : GroupState := if c.suspending then .preempting else .resident

theorem Group.asRestored_alive {c : Fin 64} (st : GroupState) (h : ∃ w ∈ x.warps, w.sched ≠ .exited) :
    ∃ w ∈ (x.asRestored s c st).warps, w.sched ≠ .exited := by
  obtain ⟨w, hw, hs⟩ := h
  exact ⟨_, List.mem_map_of_mem hw, fun he => hs ((s.restoreWarp_exited c w).mp he)⟩

/-- 08 R163, 05 R103: a restored group before its barriers settle. -/
theorem State.restoreGroup_eq (hx : s.group g = some x) :
    ∃ t : State, s.restoreGroup g x = (t.settleSync g).exitGroup g ∧
      t.group g = some (x.asRestored s (cfin x.ctx) (s.ctxs[cfin x.ctx]).restored) := by
  have hback : ∀ r : State, r.groups = tmod s.groups g (Group.asRestored s (cfin x.ctx) .resident) → r.ctxs = s.ctxs →
      (if (r.ctxs[cfin x.ctx]).suspending then r.preempt g else r).group g =
        some (x.asRestored s (cfin x.ctx) (s.ctxs[cfin x.ctx]).restored) := fun r hg hc => by
    have hr := State.group_of_tmod hx hg
    rw [hc, Ctx.restored]
    split
    · exact State.group_preempt hr rfl
    · exact hr
  refine ⟨_, rfl, ?_⟩
  dsimp only
  split
  · split <;> exact hback _ rfl rfl
  · exact hback _ rfl rfl

/-- 08 R153, R163: a group with a warp that has not exited goes on where it was saved. -/
theorem State.restoreGroup_spec (hx : s.group g = some x) (ha : ∃ w ∈ x.warps, w.sched ≠ .exited) :
    ∃ y, (s.restoreGroup g x).group g = some y ∧ y.st = (s.ctxs[cfin x.ctx]).restored ∧ y.core = x.core ∧
      y.resSince = s.now ∧ y.spad = x.spad ∧ y.warps.map (·.s) = x.warps.map (·.s) := by
  obtain ⟨t, ht, hg⟩ := State.restoreGroup_eq hx
  obtain ⟨y, hy, -, hs⟩ := State.settleSync_exitGroup hg
  obtain ⟨_, _, _, rfl⟩ := hs (Group.asRestored_alive _ ha)
  rw [ht]
  refine ⟨_, hy, rfl, rfl, rfl, rfl, ?_⟩
  simp only [Group.asRestored, List.map_map]
  exact List.map_congr_left (fun y _ => s.restoreWarp_s _ y)

section
variable (hx : s.group g = some x) (hst : x.st = .restoring)
include hx hst

theorem exec_groupRestored (hi : s.getImage (cfin x.ctx) x.imgAt x.image.length = .ok x.image) :
    exec (.groupRestored g true) s = .next (s.restoreGroup g x) := by
  show execGroupRestored g true s = _
  simp only [execGroupRestored, hx, hst, hi, ne_eq, not_true_eq_false, if_false, and_self, if_true]

/-- 08 R163, 05 R101: an image whose check fails faults the context. -/
theorem exec_groupRestored_fails {ok : Bool} {image : List Byte} (hi : s.getImage (cfin x.ctx) x.imgAt x.image.length = .ok image)
    (hf : ok = false ∨ image ≠ x.image) (hr : (s.ctxs[cfin x.ctx]).st.runs = true) :
    ∃ t, exec (.groupRestored g ok) s = .next t ∧ (t.ctxs[cfin x.ctx]).st = .faulted := by
  have hbad : ¬(ok = true ∧ image = x.image) := fun ⟨ho, he⟩ => hf.elim (fun h => by simp [ho] at h) (absurd he)
  refine ⟨_, ?_, s.stOf_faultContext (cfin x.ctx) hr cUNCORR 7 0 (((x.imgAt.head?).map (·.1)).getD (s.ctxs[cfin x.ctx]).save) 0 0⟩
  show execGroupRestored g ok s = _
  simp only [execGroupRestored, hx, hst, hi, ne_eq, not_true_eq_false, if_false, hbad]

end

/-! ## Ageing (06 R119) -/

/-- 06 R119: a group that has waited four quanta of its context rises in priority. -/
theorem exec_priorityAgeing_group (hx : s.group g = some x) (hst : x.st = .waiting ∨ x.st = .saved)
    (hw : s.ageStep (cfin x.ctx) ≤ s.now - x.waitSince) :
    ∃ t, exec (.priorityAgeing false g) s = .next t ∧
      t.group g = some { x with prio := min 4 (x.prio + 1), waitSince := x.waitSince + s.ageStep (cfin x.ctx) } := by
  refine ⟨_, rfl, ?_⟩
  rw [if_neg Bool.false_ne_true, State.group_of_tmod hx (State.modGroup_groups ..), if_pos ⟨hst, hw⟩]

/-! ## Warps (08 R150, R160, R164, 19 R432) -/

variable {w k : Nat} {z : Warp}

/-- A warp of a state whose groups are those of another but that this warp has changed. -/
theorem State.warp_of_tmod {f : Warp → Warp} (h : s.warp g w = some z) (ht : t.groups = tmod s.groups g (·.modWarp w f)) :
    t.warp g w = some (f z) := by
  rw [State.warp_congr (s := s.modWarp g w f) ht, State.warp_modWarp, h, Option.map_some]

/-- 08 R164: a warp that changes its scheduling state is stamped. -/
theorem State.warp_setSched (hw : s.warp g w = some z) {st : Sched} (hst : z.sched ≠ st) :
    (s.setSched g w st).warp g w = some { z with sched := st, since := s.uid } :=
  (State.warp_of_tmod hw (State.modWarp_groups ..)).trans (congrArg some (if_neg hst))

/-- 08 R150: the warp that has been PENDING longest takes a free active slot. -/
theorem exec_warpActivate (hfree : ((s.coreWarps core).filter (fun e => decide (e.2.2.sched = .active))).length < 8)
    (hl : longestPending (s.coreWarps core) = some (g, w, z)) : exec (.warpActivate core) s = .next (s.setSched g w .active) := by
  show execWarpActivate core s = _
  simp only [execWarpActivate, hfree, hl, if_true]

/-- 19 R432: the fragments of a warp wait for no condition any more. -/
def Warp.retried (z : Warp) : Warp :=
  { z with slot0 := z.slot0.map (fun f => { f with retry := [] }), slot1 := z.slot1.map (fun f => { f with retry := [] }) }

theorem Warp.retried_slots (z : Warp) : z.retried.slots = z.slots.map (fun f => { f with retry := [] }) := by
  simp only [Warp.slots, Warp.retried, List.map_append, Option.toList_map]

/-- 19 R432: once the conditions of a RETRY have cleared, its warp is PENDING and its fragments replay. -/
theorem exec_retryResume (hx : s.group g = some x) (hw : s.warp g w = some z) (hi : z.intrap = false) (hr : ∃ f ∈ z.slots, f.retry ≠ [])
    (hc : ∀ f ∈ z.slots, ∀ k ∈ f.retry, s.causeClear x z f k = true) :
    ∃ t r, exec (.retryResume g w) s = .next t ∧ t.warp g w = some r ∧ r.sched ≠ .parked ∧ r.s = z.s ∧
      r.slots = z.slots.map (fun f => { f with retry := [] }) := by
  have hsome : z.slots.all (fun f => f.retry.isEmpty) = false := by
    rw [List.all_eq_false]
    exact hr.imp (fun f ⟨hf, hne⟩ => ⟨hf, by simpa using hne⟩)
  have hall : z.slots.all (fun f => f.retry.all (s.causeClear x z f)) = true :=
    List.all_eq_true.mpr (fun f hf => List.all_eq_true.mpr (hc f hf))
  have hexec : exec (.retryResume g w) s =
      .next (if z.sched = .parked then (s.modWarp g w Warp.retried).setSched g w .pending else s.modWarp g w Warp.retried) := by
    show execRetryResume g w s = _
    simp only [execRetryResume, hx, hw, hi, hsome, hall, Bool.false_eq_true, Bool.not_true, or_self, if_false]
    rfl
  have hmod : (s.modWarp g w Warp.retried).warp g w = some z.retried := by rw [State.warp_modWarp, hw, Option.map_some]
  rw [hexec]
  split
  · next hp => exact ⟨_, _, rfl, State.warp_setSched hmod (by simp [Warp.retried, hp]), by simp, rfl, z.retried_slots⟩
  · next hp => exact ⟨_, _, rfl, hmod, hp, rfl, z.retried_slots⟩

/-- 08 R160, R161: a window that is marked. -/
theorem Warp.window_markWin {q : Window} (h : z.window k = some q) (b : Bool) :
    (z.markWin k b).window k = some { q with
      spilled := b, packed := if b then (q.regs.drop (q.regs.length - q.opened)).map (fun r => packReg (z.vreg r).lanes) else [] } := by
  have hid : q.id = k := by simpa using List.find?_some h
  simp only [Warp.window, Warp.markWin, List.find?_map] at h ⊢
  rw [show ((fun w : Window => w.id == k) ∘ _) = fun w : Window => w.id == k from funext (fun w => by dsimp only [Function.comp]; split <;> rfl), h]
  simp only [Option.map_some, hid, if_true]

section
variable {q : Window} (hx : s.group g = some x) (hw : s.warp g w = some z) (hon : x.onCore = true) (hc : x.core = some core) (hq : z.window k = some q)
include hx hw hon hc hq

/-- 08 R160: the next window in the order of the spill engine is moved out. -/
theorem exec_spillComplete_out (hn : s.nextSpill core g w k = true) : exec (.spillComplete g w k) s = .next (s.modWarp g w (·.markWin k true)) := by
  show execSpillComplete g w k s = _
  simp only [execSpillComplete, hx, hw, hon, hc, hq, hn, if_true]

/-- 08 R160: a window that a slot fragment uses is brought back where there is room. -/
theorem exec_spillComplete_back (hn : s.nextSpill core g w k = false) (hs : q.spilled = true) (hu : ∃ f ∈ z.slots, f.win = k)
    (hroom : s.regsUsed core + q.opened ≤ 1536) : exec (.spillComplete g w k) s = .next (s.modWarp g w (·.markWin k false)) := by
  have huse : z.slots.any (fun f => f.win == k) = true := by simpa using hu
  show execSpillComplete g w k s = _
  simp only [execSpillComplete, hx, hw, hon, hc, hq, hn, hs, huse, State.makeRoom_of_room hroom, Bool.false_eq_true, if_false, Bool.and_self, if_true]

end

/-! ## A core that HALT stopped (05 R111) -/

theorem exec_coreRestart {c : Core} (hc : tget s.cores core = some c) (hh : c.halted = true) :
    exec (.coreRestart core) s = .next { s with cores := tput s.cores core { c with halted := false } } := by
  have hat : s.coreAt core = c := by rw [State.coreAt, tgetD, hc, Option.getD_some]
  show execCoreRestart core s = _
  simp only [execCoreRestart, hat, hh, if_true, State.modCore]

end

/-- Settles O43: one lemma per turn; a group that settles its barriers keeps all but its banks, and one with a live warp does not end. -/
theorem launchAndGroupEvents : Obligations.LaunchAndGroupEvents := by
  refine ⟨fun s l x hl => ⟨fun hst hd hk => ⟨fun hp => ?next, fun hp => ?done⟩, fun _ hd => exec_phaseDrained_waits hl hd, fun hst hd hk => ?killed,
    fun w hst hw hn => ?uncovered, fun w sch n hst hw hn => exec_phaseSelection_covered hl hst hw hn⟩,
    fun s g core x l hp hx hc hu => ?placement, fun s g v x y hp hc hv hy hst => ?preemption, fun s g core v x y hx hc hst hlong hnone hv hy => ?rowBlocks,
    fun s g x hx => ⟨fun u hst hl ht hu => ?saved, fun _ h => exec_groupSaved_waits hx h, fun hst hi ha => ?restored,
      fun ok image hst hi hf hr => exec_groupRestored_fails hx hst hi hf hr, fun hst hw => exec_priorityAgeing_group hx hst hw⟩,
    fun s core g w y hfree hl hw hst => ?activate, fun s g w x y hx hw => ⟨fun hi hr hc => ?retry, fun core k q hon hc hq hn => ?spillOut,
      fun core k q hon hc hq hn hs hf hroom => ?spillBack⟩, fun s core c hc hh => ?restart⟩
  case next =>
    obtain ⟨-, hgroups, hdrains⟩ := s.counted_spec (cfin x.k.ctx)
    exact ⟨_, exec_phaseDrained_next hl hst hd hk hp, by rw [tget_tput, if_pos rfl], hdrains, hgroups⟩
  case done => exact exec_phaseDrained_ends hl hst hd (.inr ⟨hk, hp, rfl⟩)
  case killed => exact exec_phaseDrained_ends hl hst hd (.inl ⟨hk, rfl⟩)
  case uncovered =>
    have hexec := exec_phaseSelection_uncovered hl hst hw hn
    obtain ⟨t, ht, hend⟩ := State.badCount_spec hl (x.k.sizesVa + 8 * (x.phase + 1))
    exact ⟨fun hdue => by rw [hexec, if_pos hdue], fun hdue => ⟨t, by rw [hexec, hdue, ← ht]; rfl, hend⟩⟩
  case placement =>
    obtain ⟨u, hu⟩ := hu
    have hexec := exec_groupPlacement hp hc
    refine ⟨fun hst hl hpark huncorr => ?_, fun hst => ?_⟩
    · rw [if_neg (by rw [hst]; decide), State.placeFresh_eq hpark huncorr] at hexec
      obtain ⟨y, hy⟩ := State.placeNew_spec hx hl hu
      exact ⟨_, y, hexec, hy⟩
    · rw [if_pos hst] at hexec
      obtain ⟨y, hy⟩ := State.placeSaved_spec hx hu
      exact ⟨_, y, hexec, hy⟩
  case preemption => exact ⟨_, _, exec_preemptionStart hp hc hv, State.group_preempt hy hst, rfl⟩
  case rowBlocks =>
    have hres := State.resident_of_blockHolders (mem_of_mostBlocks hv)
    exact ⟨_, exec_rowBlockPreemption hx hc hst hlong hnone hv, State.group_preempt hy hres⟩
  case saved =>
    have hgroups := State.putImage_groups hu
    obtain ⟨y, hy⟩ := State.saveGroup_spec ((State.group_congr hgroups g).trans hx) (s.imageBytes x.imageSize)
    exact ⟨hgroups, _, y, exec_groupSaved hx hst hl ht hu, hy⟩
  case restored =>
    obtain ⟨y, hy⟩ := State.restoreGroup_spec hx ha
    exact ⟨_, y, exec_groupRestored hx hst hi, hy⟩
  case activate => exact ⟨_, exec_warpActivate hfree hl, State.warp_setSched hw (by rw [hst]; decide)⟩
  case retry =>
    obtain ⟨t, z, hexec, hz, hsched, hs, hslots⟩ := exec_retryResume hx hw hi hr hc
    refine ⟨t, z, hexec, hz, fun f hf => ?_, hsched, hs, ?_, ?_⟩
    · rw [hslots] at hf
      obtain ⟨f', -, rfl⟩ := List.mem_map.mp hf
      rfl
    · rw [hslots, List.map_map]; rfl
    · rw [hslots, List.map_map]; rfl
  case spillOut =>
    exact ⟨_, _, _, exec_spillComplete_out hx hw hon hc hq hn, State.warp_of_tmod hw (State.modWarp_groups ..), Warp.window_markWin hq true, rfl, rfl⟩
  case spillBack =>
    exact ⟨_, _, exec_spillComplete_back hx hw hon hc hq hn hs hf hroom, State.warp_of_tmod hw (State.modWarp_groups ..),
      Warp.window_markWin hq false, rfl⟩
  case restart => exact ⟨_, exec_coreRestart hc hh, by rw [tget_tput, if_pos rfl], rfl⟩

end Sys2Proof.Machine
end

section
/-! What the statements about the control instructions of a group share: the fragment of a view stands in its slot past the instruction, and a completion
that leaves the state as it is. -/

namespace Sys2Proof.Machine

section
variable {s : State} {v : View} {i : Instr}

@[simp] theorem Frag.advance_mask (f : Frag) : f.advance.mask = f.mask := by unfold Frag.advance; split <;> rfl

/-- 08 R165: the state of a view comes from a change of its warp that moves the fragment past the instruction. -/
theorem State.viewOf_advanced {r : Ref} (h : s.viewOf r = some v) :
    ∃ t : State, v.s = t.modWarp v.r.g v.r.w (fun z => z.setSlot v.r.slot (some v.f.advance)) := by
  unfold State.viewOf at h
  split at h
  · cases h
  · split at h
    · cases h
    · split at h
      · cases h
      · cases h
        exact ⟨_, rfl⟩

/-- 08 R165: the slot of an issuing fragment holds it past the instruction. -/
theorem Issues.slot (h : Issues s v) : v.y.slot v.r.slot = some v.f.advance := by
  obtain ⟨r, -, hv⟩ := Option.bind_eq_some_iff.mp h.sees
  obtain ⟨t, ht⟩ := State.viewOf_advanced hv
  have hw := h.warp
  rw [ht, State.warp_modWarp] at hw
  obtain ⟨z, -, hz⟩ := Option.map_eq_some_iff.mp hw
  rw [← hz, Warp.setSlot_slot]

/-- An instruction with no effect but the move past it. -/
theorem Means.nothing (m : Means s v i (.ok v.s)) (h : Issues s v) : exec i s = .next (v.done v.s) := m.done h h.warp rfl rfl

end

end Sys2Proof.Machine
end

section
/-! O12: ELECT (08 R172). The mask that it writes is the lowest bit of its candidates, and of FLAGS it writes Z alone. -/

namespace Sys2Proof.Machine

/-- A bit of `lowestBit` is a bit of the mask with no bit of the mask below it. -/
theorem lowestBit_getLsbD (m : Word) (i : Nat) : (lowestBit m).getLsbD i = (m.getLsbD i && !decide (∃ j < i, m.getLsbD j = true)) := by
  have hneg : 0 - m = -m := BitVec.zero_sub m
  rw [lowestBit, hneg, BitVec.getLsbD_and, BitVec.getLsbD_neg]
  by_cases hi : i < 32
  · cases m.getLsbD i <;> simp [hi]
  · simp [BitVec.getLsbD_of_ge m i (by omega)]

theorem lowestBit_of_lowest {m : Word} {i : Fin 32} (hi : m.getLsbD i.val = true) (hl : ∀ j : Fin 32, j < i → m.getLsbD j.val = false) :
    lowestBit m = BitVec.ofNat 32 (2 ^ i.val) := by
  refine BitVec.eq_of_getLsbD_eq (fun k hk => ?_)
  rw [lowestBit_getLsbD, BitVec.getLsbD_ofNat, Nat.testBit_two_pow]
  rcases Nat.lt_trichotomy k i.val with h | h | h
  · simp [hl ⟨k, hk⟩ h, Nat.ne_of_gt h]
  · subst h
    have hnone : ¬∃ j < i.val, m.getLsbD j = true := fun ⟨j, hj, hm⟩ => by simp [hl ⟨j, by omega⟩ hj] at hm
    simp [hi, hnone]
  · have hsome : ∃ j < k, m.getLsbD j = true := ⟨i.val, h, hi⟩
    simp [hsome, Nat.ne_of_lt h]

theorem setZ_getLsbD_zero (f : Byte) (z : Bool) : (setZ f z).getLsbD 0 = z := by
  cases z <;> simp [setZ, b2n]

/-- Of FLAGS, `setZ` writes bit 0 alone. -/
theorem setZ_getLsbD_succ (f : Byte) (z : Bool) {j : Nat} (hj : 1 ≤ j) : (setZ f z).getLsbD j = f.getLsbD j := by
  by_cases h : j < 8
  · have hbits : ∀ j < 8, 1 ≤ j → (0xFE#8).getLsbD j = true ∧ ∀ z, (BitVec.ofNat 8 (b2n z)).getLsbD j = false := by decide
    obtain ⟨hkept, hclear⟩ := hbits j h hj
    rw [setZ, BitVec.getLsbD_or, BitVec.getLsbD_and, hkept, hclear, Bool.and_true, Bool.or_false]
  · rw [BitVec.getLsbD_of_ge _ j (Nat.not_lt.mp h), BitVec.getLsbD_of_ge _ j (Nat.not_lt.mp h)]

/-- Settles O12: the candidates are the active lanes without the helper lanes, and `lowestBit` of them is written. -/
theorem electResult : Obligations.ElectResult := by
  intro s v k h mask guard c
  have hc : v.active &&& ~~~v.y.helper = c := by
    show v.lanes &&& guard &&& ~~~v.y.helper = c
    rw [BitVec.and_assoc, BitVec.and_comm guard, ← BitVec.and_assoc]
  have m : Means s v (.elect k)
      (.ok (v.put { v.y.setM (Fin.ofNat 8 k.toNat) (lowestBit c) with flags := setZ v.y.flags (decide (c = 0)) })) :=
    ⟨_, rfl, by simp only [hc]⟩
  refine ⟨_, _, m.puts h rfl rfl, setZ_getLsbD_zero _ _, fun j hj => setZ_getLsbD_succ _ _ hj, fun h0 => ?_,
    fun i hi hl => lowestBit_of_lowest hi hl⟩
  rw [h0]
  rfl

end Sys2Proof.Machine
end

section
/-! O9: the branches, JMPS and BRV (08 R157, R175, R177, R178). -/

namespace Sys2Proof.Machine

section
variable {s : State} {v : View}

/-- A fragment that is sent to an address completes there. -/
theorem Means.goes {i : Instr} {pc : DWord} (m : Means s v i (.ok (v.jump pc))) (h : Issues s v) : exec i s = .next (v.done (v.goesTo pc)) :=
  m.puts h (Warp.setSlot_intrap ..) (Warp.setSlot_due ..)

/-! ## Branches and JMPS (08 R175, R177) -/

/-- 08 R177: each branch is `branchIf` of its condition. -/
theorem branchTable_means {off : BitVec 24} {e : Instr × (Byte → Bool)} (he : e ∈ branchTable off) :
    Means s v e.1 (v.branchIf (e.2 v.y.flags) off) := by
  simp only [branchTable, List.mem_cons, List.not_mem_nil, or_false] at he
  rcases he with rfl | rfl | rfl | rfl | rfl | rfl <;> exact ⟨_, rfl, rfl⟩

theorem exec_branch (h : Issues s v) {off : BitVec 24} {e : Instr × (Byte → Bool)} (he : e ∈ branchTable off) :
    exec e.1 s = .next (v.done (if e.2 v.y.flags then v.goesTo (v.target off) else v.s)) := by
  have m : Means s v e.1 (v.branchIf (e.2 v.y.flags) off) := branchTable_means he
  unfold View.branchIf at m
  split
  · next hc =>
    rw [if_pos hc] at m
    exact m.goes h
  · next hc =>
    rw [if_neg hc] at m
    exact m.nothing h

/-- 08 R175: JMPS of a scalar that is FULL and no word queue. -/
theorem means_jmps {k : BitVec 5} (hf : v.y.s[Fin.ofNat 32 k.toNat].fill = .full) (hp : v.y.mapped (Fin.ofNat 32 k.toNat) = none) :
    let x := v.y.s[Fin.ofNat 32 k.toNat].val
    Means s v (.jmps k) (if x.toNat % 4 ≠ 0 then .error (v.trap cALIGN (v.pc + x).toNat) else .ok (v.jump (v.pc + x))) := by
  refine ⟨_, rfl, ?_⟩
  have hsrc := View.sources_one (v := v) (l := .sca (Fin.ofNat 32 k.toNat)) (wt := false) (c := 80 + (Fin.ofNat 32 k.toNat).val)
    (by simpa [Warp.fills] using hf) (fun i hi => by cases hi; exact hp)
  simp only [hsrc, Stop.ok_bind]

/-! ## BRV (08 R157, R178) -/

theorem exec_brv_none (h : Issues s v) {k : BitVec 3} {off : BitVec 24} (ht : v.f.mask &&& v.y.m[Fin.ofNat 8 k.toNat] = 0) :
    exec (.brv k off) s = .next (v.done v.s) :=
  Means.nothing ⟨_, rfl, if_pos ht⟩ h

theorem exec_brv_all (h : Issues s v) {k : BitVec 3} {off : BitVec 24} (h0 : v.f.mask &&& v.y.m[Fin.ofNat 8 k.toNat] ≠ 0)
    (ht : v.f.mask &&& v.y.m[Fin.ofNat 8 k.toNat] = v.f.mask) : exec (.brv k off) s = .next (v.done (v.goesTo (v.target off))) :=
  Means.goes ⟨_, rfl, (if_neg h0).trans (if_pos ht)⟩ h

theorem means_brv_some {k : BitVec 3} {off : BitVec 24} (h0 : v.f.mask &&& v.y.m[Fin.ofNat 8 k.toNat] ≠ 0)
    (ht : v.f.mask &&& v.y.m[Fin.ofNat 8 k.toNat] ≠ v.f.mask) :
    Means s v (.brv k off) (v.split (v.f.mask &&& v.y.m[Fin.ofNat 8 k.toNat])
      (v.f.mask &&& ~~~(v.f.mask &&& v.y.m[Fin.ofNat 8 k.toNat])) (v.target off)) :=
  ⟨_, rfl, (if_neg h0).trans (if_neg ht)⟩

/-- 08 R157: where a split puts the side that leaves the slot. -/
def View.detach (v : View) (stay leave : Frag) : Except Stop State :=
  if (v.y.slot (!v.r.slot)).isSome then
    if 64 ≤ v.y.stack.length then .error (v.trap cFSTACK) else .ok (v.put { (v.y.setSlot v.r.slot (some stay)) with stack := leave :: v.y.stack })
  else .ok (v.put ((v.y.setSlot v.r.slot (some stay)).setSlot (!v.r.slot) (some leave)))

/-- 08 R157: the side with fewer lanes is detached, the taken one when they are equal. -/
theorem View.split_eq (v : View) (t r : Word) (target : DWord) :
    let taken := Frag.fresh target t v.f.join v.f.win
    let rest := Frag.fresh v.here r v.f.join v.f.win
    let fewer := countBits r < countBits t
    v.split t r target = v.detach (if fewer then taken else rest) (if fewer then rest else taken) := by
  intro taken rest fewer
  by_cases hf : countBits r < countBits t
  · simp only [fewer, hf, if_true, View.split, View.detach, Warp.setSlot_other, Warp.setSlot_stack]
    rfl
  · simp only [fewer, hf, if_false, View.split, View.detach, Warp.setSlot_other, Warp.setSlot_stack]
    rfl

section
variable {i : Instr} {stay leave : Frag}

theorem Means.detached_slot (m : Means s v i (v.detach stay leave)) (h : Issues s v) (hn : v.y.slot (!v.r.slot) = none) :
    exec i s = .next (v.done (v.put ((v.y.setSlot v.r.slot (some stay)).setSlot (!v.r.slot) (some leave)))) := by
  simp only [View.detach, hn, Option.isSome_none, Bool.false_eq_true, if_false] at m
  exact m.puts h (by simp) (by simp)

theorem Means.detached_stack (m : Means s v i (v.detach stay leave)) (h : Issues s v) (hn : (v.y.slot (!v.r.slot)).isSome = true)
    (hl : v.y.stack.length < 64) :
    exec i s = .next (v.done (v.put { (v.y.setSlot v.r.slot (some stay)) with stack := leave :: v.y.stack })) := by
  simp only [View.detach, hn, if_true, Nat.not_le.mpr hl, if_false] at m
  exact m.puts h (by simp) (by simp)

theorem Means.detached_full (m : Means s v i (v.detach stay leave)) (h : Issues s v) (hn : (v.y.slot (!v.r.slot)).isSome = true)
    (hl : 64 ≤ v.y.stack.length) : exec i s = v.trapped cFSTACK 0 v.f.mask := by
  simp only [View.detach, hn, if_true, hl] at m
  exact m.traps h (by decide)

end

end

/-- Settles O9: a branch by its condition, JMPS by the alignment of its scalar, BRV by the lanes of m[k]. -/
theorem branchAndDivergenceResults : Obligations.BranchAndDivergenceResults := by
  refine ⟨fun s v off k h => ⟨fun e he => exec_branch h he, fun hf hp => ?_⟩,
    fun s v k off h => ⟨exec_brv_none h, exec_brv_all h, fun h0 ht => ?_⟩⟩
  · have m : Means s v (.jmps k) _ := means_jmps hf hp
    refine ⟨fun hx => ?_, fun hx => ?_⟩
    · rw [if_neg (not_not_intro hx)] at m
      exact m.goes h
    · rw [if_pos hx] at m
      exact m.traps h (by decide)
  · have m := means_brv_some (s := s) (off := off) h0 ht
    rw [View.split_eq] at m
    exact ⟨m.detached_slot h, m.detached_stack h, m.detached_full h⟩

end Sys2Proof.Machine
end

section
/-! O10: CALL and RET (08 R176, R179). What the callee's window holds, and what each instruction comes to by the header word and the link. -/

namespace Sys2Proof.Machine

/-! ## A window that is opened (08 R159) -/

section
variable (y : Warp) (win ovl depth born : Nat) (c : Window) (ret : DWord) (caller : Option Nat)

/-- 08 R159: a window that overlaps another, whose last registers are its first. -/
theorem Warp.openWin_overlapping (hc : ovl ≤ c.regs.length) (hw : ovl ≤ win) :
    ∃ n, (y.openWin win ovl (some c) depth ret caller born).1.wins = y.wins ++ [n] ∧
      n.id = (y.openWin win ovl (some c) depth ret caller born).2 ∧ n.regs.length = win ∧ n.regs.take ovl = c.regs.drop (c.regs.length - ovl) ∧ n.depth = depth ∧ n.ret = ret ∧ n.caller = caller := by
  have hshared : (c.regs.drop (c.regs.length - ovl)).length = ovl := by rw [List.length_drop]; omega
  refine ⟨_, rfl, rfl, ?_, List.take_left' hshared, rfl, rfl, rfl⟩
  simp only [List.length_append, hshared, List.length_map, List.length_range]
  omega

/-- 08 R159, 19 R427: a window that overlaps none. -/
theorem Warp.openWin_apart :
    ∃ n, (y.openWin win 0 none depth ret caller born).1.wins = y.wins ++ [n] ∧ n.id = (y.openWin win 0 none depth ret caller born).2 ∧
      n.regs.length = win :=
  ⟨_, rfl, rfl, by simp⟩

end

/-- 03 R73: a valid header word opens no fewer registers than it shares. -/
theorem hdrOvl_le_hdrWin {h : Nat} (hok : hdrOk h = true) : hdrOvl h ≤ hdrWin h := by
  simp only [hdrOk, Bool.and_eq_true, decide_eq_true_eq] at hok
  obtain ⟨⟨-, hle⟩, -⟩ := hok
  exact hle

/-! ## CALL (08 R179) -/

/-- The callee's window, and the warp that has it. -/
def View.calleeWin (v : View) (h : Nat) : Warp × Nat :=
  v.y.openWin (hdrWin h) (hdrOvl h) (some v.win) (v.win.depth + 1) (v.pc + 4) (some v.f.win) v.s.tick

/-- The warp after a CALL to an address. -/
def View.called (v : View) (t : DWord) (h : Nat) : Warp :=
  (v.calleeWin h).1.setSlot v.r.slot ((v.y.slot v.r.slot).map (fun f => { f with pc := t, win := (v.calleeWin h).2 }))

section
variable {s : State} {v : View} {off : BitVec 24} {h : Nat}

theorem exec_call_invalid (hi : Issues s v) (hw : v.headerWord (v.target off) = .ok h) (hbad : hdrOk h = false ∨ v.win.regs.length < hdrOvl h) :
    exec (.call off) s = v.trapped cILLOP 0 v.f.mask := by
  have hb : (!hdrOk h) = true ∨ v.win.regs.length < hdrOvl h := hbad.imp_left (by simp)
  have m : Means s v (.call off) (.error (v.trap cILLOP)) := ⟨_, rfl, by simp only [hw, Stop.ok_bind, hb, if_true]⟩
  exact m.traps hi (by decide)

theorem exec_call_winfull (hi : Issues s v) (hw : v.headerWord (v.target off) = .ok h) (hok : hdrOk h = true)
    (ho : hdrOvl h ≤ v.win.regs.length) (hfull : v.y.winFits (hdrWin h - hdrOvl h) = false) :
    exec (.call off) s = v.trapped cWINFULL 0 v.f.mask := by
  have m : Means s v (.call off) (.error (v.trap cWINFULL)) := ⟨_, rfl, by simp [hw, hok, Nat.not_lt.mpr ho, hfull]⟩
  exact m.traps hi (by decide)

theorem exec_call (hi : Issues s v) (hw : v.headerWord (v.target off) = .ok h) (hok : hdrOk h = true) (ho : hdrOvl h ≤ v.win.regs.length)
    (hfits : v.y.winFits (hdrWin h - hdrOvl h) = true) (hroom : v.s.regsUsed v.core + (hdrWin h - hdrOvl h) ≤ 1536) :
    exec (.call off) s = .next (v.done (v.put (v.called (v.target off) h))) := by
  have m : Means s v (.call off) (.ok (v.put (v.called (v.target off) h))) := by
    refine ⟨_, rfl, ?_⟩
    simp only [hw, Stop.ok_bind, hok, Bool.not_true, Bool.false_eq_true, Nat.not_lt.mpr ho, or_self, if_false, hfits,
      State.makeRoom_of_room hroom, hi.warp]
    rfl
  exact m.puts hi (Warp.setSlot_intrap ..) (Warp.setSlot_due ..)

/-- 08 R179: the window and the fragment of the callee. -/
theorem View.called_spec (v : View) (t : DWord) {f : Frag} (hf : v.y.slot v.r.slot = some f) (hok : hdrOk h = true)
    (ho : hdrOvl h ≤ v.win.regs.length) :
    ∃ n, (v.called t h).wins = v.y.wins ++ [n] ∧ n.regs.length = hdrWin h ∧
      n.regs.take (hdrOvl h) = v.win.regs.drop (v.win.regs.length - hdrOvl h) ∧ n.depth = v.win.depth + 1 ∧ n.ret = v.pc + 4 ∧
      n.caller = some v.f.win ∧ (v.called t h).slot v.r.slot = some { f with pc := t, win := n.id } := by
  obtain ⟨n, hwins, hid, hlen, htake, hdepth, hret, hcaller⟩ :=
    v.y.openWin_overlapping (hdrWin h) (hdrOvl h) (v.win.depth + 1) v.s.tick v.win (v.pc + 4) (some v.f.win) ho (hdrOvl_le_hdrWin hok)
  refine ⟨n, (Warp.setSlot_wins ..).trans hwins, hlen, htake, hdepth, hret, hcaller, ?_⟩
  rw [View.called, Warp.setSlot_slot, hf, Option.map_some, hid]
  rfl

/-! ## RET (08 R176) -/

theorem exec_ret (hi : Issues s v) {c : Nat} (hc : v.win.caller = some c) (hj : ∀ j, v.f.join = some j → v.y.joins[j].win ≠ v.f.win) :
    exec .ret s = .next (v.done (v.put (v.withFrag (fun f => { f with pc := v.win.ret, win := c })).freeWins)) := by
  have m : Means s v .ret (.ok (v.put (v.withFrag (fun f => { f with pc := v.win.ret, win := c })).freeWins)) := by
    refine ⟨_, rfl, ?_⟩
    cases hjoin : v.f.join with
    | none => simp [hc]
    | some j => simpa [hc] using hj j hjoin
  exact m.puts hi (Warp.setSlot_intrap ..) (Warp.setSlot_due ..)

theorem exec_ret_illop (hi : Issues s v) (hbad : v.win.caller = none ∨ ∃ j, v.f.join = some j ∧ v.y.joins[j].win = v.f.win) :
    exec .ret s = v.trapped cILLOP 0 v.f.mask := by
  have m : Means s v .ret (.error (v.trap cILLOP)) := by
    refine ⟨_, rfl, ?_⟩
    cases hc : v.win.caller with
    | none => rfl
    | some c =>
      obtain ⟨j, hj, hw⟩ := hbad.resolve_left (by simp [hc])
      simpa [hj] using hw
  exact m.traps hi (by decide)

end

/-- Settles O10: CALL by its header word, RET by its link and JOIN. -/
theorem callAndReturnResults : Obligations.CallAndReturnResults := by
  intro s v off h hi
  refine ⟨fun hw hok ho hfits hroom => ?_, fun hw => ⟨exec_call_invalid hi hw, exec_call_winfull hi hw⟩, fun c => exec_ret hi,
    exec_ret_illop hi⟩
  obtain ⟨n, hwins, hlen, htake, hdepth, hret, hcaller, hslot⟩ := v.called_spec (v.target off) hi.slot hok ho
  exact ⟨_, n, _, exec_call hi hw hok ho hfits hroom, hwins, hlen, htake, hdepth, hret, hcaller, hi.slot, hslot, Warp.setSlot_other ..,
    Warp.setSlot_s .., Warp.setSlot_m .., Warp.setSlot_flags .., Warp.setSlot_mode ..⟩

end Sys2Proof.Machine
end

section
/-! O11: RCV and EXIT (08 R158, R169, R171). What moving fragments between slots, stack and join table keeps; with that, that no fragment holds a
lane that has exited. -/

namespace Sys2Proof.Machine

/-! ## Fragments in slots and on the stack (08 R155) -/

section
variable (y : Warp) (b : Bool) (f : Frag)

theorem Warp.slot_setSlot (c : Bool) (o : Option Frag) : (y.setSlot b o).slot c = if c = b then o else y.slot c := by
  cases b <;> cases c <;> rfl

theorem Warp.mem_slots : f ∈ y.slots ↔ ∃ c, y.slot c = some f := by
  simp [Warp.slots, Warp.slot, Option.mem_toList]

/-- 08 R155: the fragment on top of the stack moves into a slot if it is free. -/
def Warp.refillSlot : Warp := match y.slot b, y.stack with
  | none, f :: r => if 0 < y.stacked then { (y.setSlot b (some f)) with stack := r } else y
  | _, _ => y

theorem Warp.refill_eq : y.refill = (y.refillSlot false).refillSlot true := rfl

/-- A slot is filled from the top of the stack, or nothing changes. -/
theorem Warp.refillSlot_cases : y.refillSlot b = y ∨
    ∃ f r, y.slot b = none ∧ y.stack = f :: r ∧ y.refillSlot b = { (y.setSlot b (some f)) with stack := r } := by
  unfold Warp.refillSlot
  split
  · next f r hs hr =>
    split
    · exact .inr ⟨f, r, hs, hr, rfl⟩
    · exact .inl rfl
  · exact .inl rfl

@[simp] theorem Warp.refillSlot_joins : (y.refillSlot b).joins = y.joins := by
  rcases y.refillSlot_cases b with h | ⟨f, r, -, -, h⟩ <;> simp [h]

@[simp] theorem Warp.refillSlot_intrap : (y.refillSlot b).intrap = y.intrap := by
  rcases y.refillSlot_cases b with h | ⟨f, r, -, -, h⟩ <;> simp [h]

@[simp] theorem Warp.refillSlot_due : (y.refillSlot b).due = y.due := by
  rcases y.refillSlot_cases b with h | ⟨f, r, -, -, h⟩ <;> simp [h]

@[simp] theorem Warp.refill_joins : y.refill.joins = y.joins := by simp [Warp.refill_eq]
@[simp] theorem Warp.refill_intrap : y.refill.intrap = y.intrap := by simp [Warp.refill_eq]
@[simp] theorem Warp.refill_due : y.refill.due = y.due := by simp [Warp.refill_eq]

variable {y f}

/-- 08 R155: a slot that holds a fragment keeps it. -/
theorem Warp.refillSlot_slot {c : Bool} (h : y.slot c = some f) : (y.refillSlot b).slot c = some f := by
  rcases y.refillSlot_cases b with he | ⟨g, r, hn, -, he⟩
  · rwa [he]
  · have hcb : c ≠ b := fun e => by simp [e, hn] at h
    rw [he]
    exact ((y.slot_setSlot b c (some g)).trans (if_neg hcb)).trans h

theorem Warp.refill_slot {c : Bool} (h : y.slot c = some f) : y.refill.slot c = some f :=
  Warp.refillSlot_slot true (Warp.refillSlot_slot false h)

end

section
variable (y : Warp) (b : Bool) (f : Frag)

/-- 08 R158: a fragment is put into a slot that was free, or on the stack. -/
theorem Warp.place_cases : (∃ c, y.slot c = none ∧ y.place b f = y.setSlot c (some f)) ∨ y.place b f = { y with stack := f :: y.stack } := by
  unfold Warp.place
  cases hb : y.slot b with
  | none => exact .inl ⟨b, hb, rfl⟩
  | some g =>
    cases hn : y.slot (!b) with
    | none => exact .inl ⟨!b, hn, rfl⟩
    | some g' => exact .inr rfl

@[simp] theorem Warp.place_joins : (y.place b f).joins = y.joins := by
  rcases y.place_cases b f with ⟨c, -, h⟩ | h <;> simp [h]

@[simp] theorem Warp.place_intrap : (y.place b f).intrap = y.intrap := by
  rcases y.place_cases b f with ⟨c, -, h⟩ | h <;> simp [h]

@[simp] theorem Warp.place_due : (y.place b f).due = y.due := by
  rcases y.place_cases b f with ⟨c, -, h⟩ | h <;> simp [h]

variable {y b}

/-- 08 R158: the preferred slot is taken when it is free. -/
theorem Warp.place_slot (h : y.slot b = none) : (y.place b f).slot b = some f := by
  simp [Warp.place, h]

end

/-! ## RCV (08 R169) -/

section
variable {s : State} {v : View} {tok : BitVec 22}

theorem Warp.freeJoin_of_lowest {y : Warp} {j : Fin 16} (hj : y.joins[j].valid = false) (hl : ∀ i : Fin 16, i < j → y.joins[i].valid = true) :
    y.freeJoin = some j := by
  have hfind : (List.range 16).find? (fun i => !y.joins[Fin.ofNat 16 i].valid) = some j.val := by
    rw [List.find?_range_eq_some]
    refine ⟨?_, List.mem_range.mpr j.isLt, fun i hi => ?_⟩
    · simp only [Fin.ofNat_val_eq_self, hj, Bool.not_false]
    · have : Fin.ofNat 16 i < j := by
        rw [Fin.lt_def, Fin.val_ofNat, Nat.mod_eq_of_lt (by omega)]
        exact hi
      rw [hl _ this, Bool.not_true, Bool.not_false]
  rw [Warp.freeJoin, hfind, Option.map_some, Fin.ofNat_val_eq_self]

theorem Warp.freeJoin_of_full {y : Warp} (h : ∀ j : Fin 16, y.joins[j].valid = true) : y.freeJoin = none := by
  rw [Warp.freeJoin, Option.map_eq_none_iff, List.find?_eq_none]
  intro i _
  rw [h, Bool.not_true]
  exact Bool.false_ne_true

/-- The warp after an arming RCV has taken a join entry. -/
def View.armed (v : View) (tok : BitVec 22) (j : Fin 16) : Warp :=
  { v.withFrag (fun f => { f with join := some j }) with
    joins := v.y.joins.set j { valid := true, outer := v.f.join, win := v.f.win, token := tok, expect := v.f.mask, arrived := 0, pc := 0 } }

theorem View.rcvArm_some {j : Fin 16} (hj : v.y.freeJoin = some j) : v.rcvArm tok = .ok (v.put (v.armed tok j)) := by
  simp only [View.rcvArm, hj, View.armed, View.withFrag, Warp.setSlot_joins]

theorem exec_rcv_arm (h : Issues s v) {j : Fin 16} (hj : v.y.freeJoin = some j) :
    exec (.rcv true tok) s = .next (v.done (v.put (v.armed tok j))) :=
  Means.puts ⟨_, rfl, View.rcvArm_some hj⟩ h (Warp.setSlot_intrap ..) (Warp.setSlot_due ..)

theorem exec_rcv_arm_full (h : Issues s v) (hj : v.y.freeJoin = none) : exec (.rcv true tok) s = v.trapped cFSTACK 0 v.f.mask := by
  have m : Means s v (.rcv true tok) (.error (v.trap cFSTACK)) := ⟨_, rfl, by simp only [if_true, View.rcvArm, hj]⟩
  exact m.traps h (by decide)

theorem exec_rcv_join_nop (h : Issues s v) (hj : ∀ j, v.f.join = some j → ¬(v.y.joins[j].token = tok ∧ v.y.joins[j].win = v.f.win)) :
    exec (.rcv false tok) s = .next (v.done v.s) := by
  have m : Means s v (.rcv false tok) (.ok v.s) := by
    refine ⟨_, rfl, ?_⟩
    show v.rcvJoin tok = _
    unfold View.rcvJoin
    split
    · rfl
    · next j hjoin => exact if_neg (hj j hjoin)
  exact m.nothing h

/-- 08 R169: an arrival at a join entry changes no trap of the warp. -/
theorem Warp.arrive_calm (y : Warp) (slot : Bool) (j : Fin 16) (mask : Word) (pc : DWord) :
    (y.arrive slot j mask pc).intrap = y.intrap ∧ (y.arrive slot j mask pc).due = y.due := by
  unfold Warp.arrive Warp.freeWins
  dsimp only
  split <;> simp

theorem exec_rcv_join (h : Issues s v) {j : Fin 16} (hj : v.f.join = some j) (ht : v.y.joins[j].token = tok) (hw : v.y.joins[j].win = v.f.win) :
    exec (.rcv false tok) s = .next (v.done (v.put (v.y.arrive v.r.slot j v.f.mask v.here))) := by
  have m : Means s v (.rcv false tok) (.ok (v.put (v.y.arrive v.r.slot j v.f.mask v.here))) := by
    refine ⟨_, rfl, ?_⟩
    show v.rcvJoin tok = _
    simp only [View.rcvJoin, hj]
    exact if_pos ⟨ht, hw⟩
  obtain ⟨hintrap, hdue⟩ := v.y.arrive_calm v.r.slot j v.f.mask v.here
  exact m.puts h hintrap hdue

section
variable {y : Warp} {slot : Bool} {j : Fin 16} {mask : Word} {pc : DWord}

/-- 08 R169: the last to arrive goes on as the merged fragment, and the entry is free. -/
theorem Warp.arrive_last (h : y.joins[j].arrived ||| mask = y.joins[j].expect) :
    (y.arrive slot j mask pc).slot slot = some (Frag.fresh pc y.joins[j].expect y.joins[j].outer y.joins[j].win) ∧
      (y.arrive slot j mask pc).joins[j] = .free := by
  have hslot : ({ (y.setSlot slot none) with joins := (y.setSlot slot none).joins.set j JoinEntry.free } : Warp).slot slot = none :=
    Warp.setSlot_slot y slot none
  simp only [Warp.arrive, h, if_true]
  refine ⟨Warp.refill_slot (Warp.place_slot _ hslot), ?_⟩
  simp [Warp.freeWins]

/-- 08 R169: an arrival that is not the last is noted in the entry. -/
theorem Warp.arrive_early (h : y.joins[j].arrived ||| mask ≠ y.joins[j].expect) :
    (y.arrive slot j mask pc).joins[j] = { y.joins[j] with arrived := y.joins[j].arrived ||| mask, pc := pc } := by
  simp only [Warp.arrive, h, if_false]
  simp [Warp.freeWins]

end

end

/-! ## Lanes that have exited (08 R158) -/

/-- No fragment of a warp holds one of some lanes, and no join entry waits for one. -/
structure Warp.Clear (l : Word) (y : Warp) : Prop where
  /-- in the slots -/
  slots : ∀ b f, y.slot b = some f → f.mask &&& l = 0
  /-- on the stack -/
  stack : ∀ f ∈ y.stack, f.mask &&& l = 0
  /-- in the join table -/
  joins : ∀ j : Fin 16, y.joins[j].valid = true → y.joins[j].expect &&& l = 0

section
variable {y : Warp} {l : Word}

theorem Warp.Clear.frags (h : y.Clear l) : ∀ f ∈ y.slots ++ y.stack, f.mask &&& l = 0 := by
  intro f hf
  rcases List.mem_append.mp hf with hf | hf
  · obtain ⟨b, hb⟩ := (y.mem_slots f).mp hf
    exact h.slots b f hb
  · exact h.stack f hf

theorem and_not_or_and (m l k : Word) : m &&& ~~~(l ||| k) &&& l = 0 := by
  refine BitVec.eq_of_getLsbD_eq (fun i hi => ?_)
  cases hm : l.getLsbD i <;> simp [hm]

theorem Warp.removeLanes_slot (y : Warp) (l : Word) (b : Bool) :
    (y.removeLanes l).slot b = ((y.slot b).map (fun f => { f with mask := f.mask &&& ~~~l })).filter (fun f => decide (f.mask ≠ 0)) := by
  cases b <;> rfl

/-- A join entry that lanes leave in use was in use before, and waits for the others. -/
theorem Warp.removeLanes_expect {j : Fin 16} (h : (y.removeLanes l).joins[j].valid = true) :
    (y.removeLanes l).joins[j].expect = y.joins[j].expect &&& ~~~l := by
  have hj : (y.removeLanes l).joins[j] = if y.joins[j].valid then
      (if y.joins[j].expect &&& ~~~l = 0 then .free
        else { y.joins[j] with expect := y.joins[j].expect &&& ~~~l, arrived := y.joins[j].arrived &&& ~~~l }) else y.joins[j] :=
    Vector.getElem_map ..
  by_cases hv : y.joins[j].valid = true
  · by_cases he : y.joins[j].expect &&& ~~~l = 0
    · rw [hj, if_pos hv, if_pos he] at h
      exact absurd h Bool.false_ne_true
    · rw [hj, if_pos hv, if_neg he]
  · rw [hj, if_neg hv] at h
    exact absurd h hv

theorem Warp.clear_removeLanes (y : Warp) (l k : Word) : (y.removeLanes (l ||| k)).Clear l where
  slots b f hf := by
    rw [Warp.removeLanes_slot, Option.filter_eq_some_iff, Option.map_eq_some_iff] at hf
    obtain ⟨⟨g, -, rfl⟩, -⟩ := hf
    exact and_not_or_and ..
  stack f hf := by
    obtain ⟨g, -, rfl⟩ := List.mem_map.mp (List.mem_filter.mp hf).1
    exact and_not_or_and ..
  joins j hj := by
    rw [Warp.removeLanes_expect hj]
    exact and_not_or_and ..

theorem Warp.Clear.setSlot (h : y.Clear l) (b : Bool) {o : Option Frag} (ho : ∀ f, o = some f → f.mask &&& l = 0) : (y.setSlot b o).Clear l where
  slots c f hf := by
    rw [Warp.slot_setSlot] at hf
    split at hf
    · exact ho f hf
    · exact h.slots c f hf
  stack := by simpa using h.stack
  joins := by simpa using h.joins

theorem Warp.Clear.restack (h : y.Clear l) {t : List Frag} (ht : ∀ f ∈ t, f.mask &&& l = 0) : ({ y with stack := t } : Warp).Clear l :=
  ⟨h.slots, ht, h.joins⟩

theorem Warp.Clear.place (h : y.Clear l) (b : Bool) {f : Frag} (hf : f.mask &&& l = 0) : (y.place b f).Clear l := by
  rcases y.place_cases b f with ⟨c, -, he⟩ | he <;> rw [he]
  · exact h.setSlot c (fun g hg => by cases hg; exact hf)
  · exact h.restack (List.forall_mem_cons.mpr ⟨hf, h.stack⟩)

theorem Warp.Clear.refillSlot (h : y.Clear l) (b : Bool) : (y.refillSlot b).Clear l := by
  rcases y.refillSlot_cases b with he | ⟨f, r, -, hr, he⟩ <;> rw [he]
  · exact h
  · obtain ⟨hf, ht⟩ := List.forall_mem_cons.mp (hr ▸ h.stack)
    exact (h.setSlot b (fun g hg => by cases hg; exact hf)).restack ht

theorem Warp.Clear.refill (h : y.Clear l) : y.refill.Clear l := (h.refillSlot false).refillSlot true

theorem Warp.Clear.freeWins (h : y.Clear l) : y.freeWins.Clear l := ⟨h.slots, h.stack, h.joins⟩

/-- A join table that differs from a warp's in entries that are free. -/
theorem Warp.Clear.rejoin (h : y.Clear l) {t : Vector JoinEntry 16} (ht : ∀ j : Fin 16, t[j] = y.joins[j] ∨ t[j].valid = false) :
    ({ y with joins := t } : Warp).Clear l where
  slots := h.slots
  stack := h.stack
  joins j hj := by
    rcases ht j with he | he
    · have hj' : t[j].valid = true := hj
      show t[j].expect &&& l = 0
      rw [he] at hj' ⊢
      exact h.joins j hj'
    · exact absurd (he.symm.trans hj) Bool.false_ne_true

/-- 08 R158: one entry of the join table, if it is complete. -/
def Warp.mergeAt (pref : Bool) (y : Warp) (j : Nat) : Warp :=
  let j : Fin 16 := Fin.ofNat 16 j
  let e := y.joins[j]
  if e.valid && decide (e.expect ≠ 0) && decide (e.arrived = e.expect) && (!y.intrap || y.handlerWin e.win) then
    ({ y with joins := y.joins.set j .free }).place pref e.merged
  else y

theorem Warp.mergeAll_eq (y : Warp) (pref : Bool) : y.mergeAll pref = (List.range 16).foldl (Warp.mergeAt pref) y := rfl

theorem Warp.Clear.mergeAt (h : y.Clear l) (pref : Bool) (j : Nat) : (y.mergeAt pref j).Clear l := by
  unfold Warp.mergeAt
  dsimp only
  split
  · next hc =>
    have hv : y.joins[Fin.ofNat 16 j].valid = true := by
      simp only [Bool.and_eq_true] at hc
      exact hc.1.1.1
    refine Warp.Clear.place (h.rejoin (fun i => ?_)) pref (h.joins _ hv)
    rw [Fin.getElem_fin, Vector.getElem_set]
    split
    · exact .inr rfl
    · exact .inl rfl
  · exact h

theorem Warp.Clear.mergeAll (h : y.Clear l) (pref : Bool) : (y.mergeAll pref).Clear l := by
  rw [Warp.mergeAll_eq]
  exact List.foldlRecOn (motive := fun z => Warp.Clear l z) _ _ h (fun _ hz j _ => hz.mergeAt pref j)

theorem Warp.mergeAt_due (pref : Bool) (y : Warp) (j : Nat) : (y.mergeAt pref j).due = y.due := by
  unfold Warp.mergeAt
  dsimp only
  split
  · exact Warp.place_due ..
  · rfl

@[simp] theorem Warp.mergeAll_due (y : Warp) (pref : Bool) : (y.mergeAll pref).due = y.due := by
  rw [Warp.mergeAll_eq]
  exact foldl_keeps Warp.due (Warp.mergeAt_due pref) _ _

theorem Warp.Clear.dropHandler (h : y.Clear l) (k : Kept) : (y.dropHandler k).Clear l := by
  have hslot : (y.setSlot k.slot none).Clear l := h.setSlot k.slot (fun f hf => by cases hf)
  have hslots : (if k.other then y.setSlot k.slot none else (y.setSlot k.slot none).setSlot (!k.slot) none).Clear l := by
    split
    · exact hslot
    · exact hslot.setSlot (!k.slot) (fun f hf => by cases hf)
  unfold Warp.dropHandler
  dsimp only
  generalize (if k.other then _ else _ : Warp) = z at hslots ⊢
  have hdrop := hslots.restack (t := z.stack.drop (z.stack.length - k.below)) (fun f hf => hslots.stack f (List.mem_of_mem_drop hf))
  have hjoins := hdrop.rejoin (t := z.joins.map (fun e => if e.valid && y.handlerWin e.win then .free else e)) (fun j => by
    rw [Fin.getElem_fin, Vector.getElem_map]
    split
    · exact .inr rfl
    · exact .inl rfl)
  exact ⟨hjoins.slots, hjoins.stack, hjoins.joins⟩

@[simp] theorem Warp.dropHandler_due (y : Warp) (k : Kept) : (y.dropHandler k).due = y.due := by
  unfold Warp.dropHandler
  dsimp only
  split <;> simp

theorem Warp.Clear.trapGone (h : y.Clear l) : y.trapGone.Clear l := by
  unfold Warp.trapGone
  split
  · next k _ =>
    split
    · exact h.dropHandler k
    · exact h
  · exact h

@[simp] theorem Warp.trapGone_due (y : Warp) : y.trapGone.due = y.due := by
  unfold Warp.trapGone
  split
  · split <;> simp
  · rfl

/-- 08 R158: when the lanes of a fragment have exited, no fragment holds one of them. -/
theorem Warp.exitLanes_clear {slot : Bool} {f : Frag} (hf : y.slot slot = some f) : (y.exitLanes slot).Clear f.mask := by
  unfold Warp.exitLanes
  simp only [hf]
  exact (((Warp.clear_removeLanes ..).trapGone.mergeAll slot).refill).freeWins

theorem Warp.exitLanes_due (y : Warp) (slot : Bool) : (y.exitLanes slot).due = y.due := by
  simp [Warp.exitLanes, Warp.freeWins, Warp.removeLanes]

end

/-! ## EXIT (08 R171) -/

section
variable {s : State} {v : View}

theorem exec_exit_waits (h : Issues s v) (ho : v.s.memOpen v.r.g v.r.w v.f.mask = true) : exec .exit s = v.waiting false :=
  Means.holds ⟨_, rfl, if_pos ho⟩ h

theorem means_exit (ho : v.s.memOpen v.r.g v.r.w v.f.mask = false) :
    let y := v.y.exitLanes v.r.slot
    Means s v .exit (if y.lanesLeft = 0 then .ok (((v.put y).endWarp v.r.g v.r.w 0x81 false).exitGroup v.r.g) else .ok (v.put y)) :=
  ⟨_, rfl, if_neg (by simp [ho])⟩

theorem exec_exit_some (h : Issues s v) (hd : v.y.due = []) (ho : v.s.memOpen v.r.g v.r.w v.f.mask = false)
    (hl : (v.y.exitLanes v.r.slot).lanesLeft ≠ 0) : exec .exit s = .next (v.done (v.put (v.y.exitLanes v.r.slot))) := by
  have m : Means s v .exit _ := means_exit ho
  rw [if_neg hl] at m
  rw [m.ok h, View.finish_ok]
  intro z hz
  rw [View.warp_put, h.warp, Option.map_some, Option.some.injEq] at hz
  exact .inr (by rw [← hz, Warp.exitLanes_due, hd])

theorem exec_exit_last (h : Issues s v) (ho : v.s.memOpen v.r.g v.r.w v.f.mask = false) (hl : (v.y.exitLanes v.r.slot).lanesLeft = 0) :
    exec .exit s = .next (v.finish (.ok (((v.put (v.y.exitLanes v.r.slot)).endWarp v.r.g v.r.w 0x81 false).exitGroup v.r.g))) := by
  have m : Means s v .exit _ := means_exit ho
  rw [if_pos hl] at m
  exact m.ok h

end

/-- Settles O11: RCV by the join table and the fragment's JOIN, EXIT by the memory instructions and the lanes that are left. -/
theorem joinAndExitResults : Obligations.JoinAndExitResults := by
  refine ⟨fun s v tok h => ⟨fun j hj hl => ?arm, fun hfull => exec_rcv_arm_full h (Warp.freeJoin_of_full hfull), exec_rcv_join_nop h,
    fun j hj ht hw => ?join⟩, fun s v h hd _ => ⟨fun ho => ?exit, exec_exit_waits h⟩⟩
  case arm => exact ⟨v.armed tok j, exec_rcv_arm h (Warp.freeJoin_of_lowest hj hl), Warp.setSlot_slot .., rfl⟩
  case join => exact ⟨_, exec_rcv_join h hj ht hw, Warp.arrive_last, Warp.arrive_early⟩
  case exit =>
    have hclear : (v.y.exitLanes v.r.slot).Clear v.f.mask := by simpa using Warp.exitLanes_clear h.slot
    exact ⟨hclear.frags, exec_exit_some h hd ho, exec_exit_last h ho⟩

end Sys2Proof.Machine
end

section
/-! O8: NOP, YIELD, SETMODE, WAITC and the literal loads (03 R58, R68; 08 R167, R168, R170, R173). -/

namespace Sys2Proof.Machine

section
variable {s : State} {v : View}

/-! ## NOP and YIELD (08 R167) -/

theorem exec_nop (h : Issues s v) : exec .nop s = .next (v.done v.s) := Means.nothing ⟨_, rfl, rfl⟩ h

theorem exec_yield (h : Issues s v) :
    exec .yield s = .next (v.done
      (if v.y.sched = .active ∧ v.y.intrap = false ∧ v.s.pendingOn v.core then v.s.setSched v.r.g v.r.w .pending else v.s)) := by
  have m : Means s v .yield
      (if v.y.sched = .active ∧ !v.y.intrap ∧ v.s.pendingOn v.core then .ok (v.s.setSched v.r.g v.r.w .pending) else .ok v.s) := ⟨_, rfl, rfl⟩
  simp only [Bool.not_eq_true'] at m
  split
  · next hc =>
    rw [if_pos hc] at m
    obtain ⟨hactive, -, -⟩ := hc
    exact m.done h (State.warp_setSched h.warp (by rw [hactive]; decide)) rfl rfl
  · next hc =>
    rw [if_neg hc] at m
    exact m.nothing h

/-! ## SETMODE (03 R58, 08 R168) -/

section
variable {imm : BitVec 23}

/-- 03 R58: a rounding that is none, or a set bit 0, is looked at before the type. -/
theorem modeCause_illop (h : 5 ≤ bits imm 17 15 ∨ imm.getLsbD 0 = true) : modeCause imm = some cILLOP := if_pos h

theorem not_illop_of_legal (hr : bits imm 17 15 < 5) (h0 : imm.getLsbD 0 = false) : ¬(5 ≤ mRnd imm ∨ imm.getLsbD 0 = true) := by
  rintro (h | h)
  · exact Nat.not_le.mpr hr h
  · exact Bool.false_ne_true (h0.symm.trans h)

theorem modeCause_illtype (hr : bits imm 17 15 < 5) (h0 : imm.getLsbD 0 = false) (ht : 24 ≤ bits imm 14 10) : modeCause imm = some cILLTYPE :=
  (if_neg (not_illop_of_legal hr h0)).trans (if_pos ht)

theorem modeCause_none (hr : bits imm 17 15 < 5) (h0 : imm.getLsbD 0 = false) (ht : bits imm 14 10 < 24) : modeCause imm = none :=
  (if_neg (not_illop_of_legal hr h0)).trans (if_neg (Nat.not_le.mpr ht))

theorem exec_setmode (h : Issues s v) (hm : modeCause imm = none) : exec (.setmode imm) s = .next (v.done (v.put { v.y with mode := imm })) :=
  Means.puts ⟨_, rfl, by simp only [hm]⟩ h rfl rfl

theorem exec_setmode_traps (h : Issues s v) {c : Nat} (hm : modeCause imm = some c) (hc : c ≠ cIDXBOUND) :
    exec (.setmode imm) s = v.trapped c 0 v.f.mask :=
  Means.traps ⟨_, rfl, by simp only [hm]⟩ h hc

end

/-! ## WAITC (08 R170) -/

section
variable {rem copy : Bool} {n : BitVec 8}

/-- 08 R170: the sum of the selected counts. -/
def View.waitSum (v : View) (rem copy : Bool) : Nat :=
  (if copy then v.y.copyN else 0) + (if rem then v.y.remN + v.s.remoteDue v.r.g v.r.w else 0)

/-- 08 R170: the warp after a WAITC that has completed. -/
def View.waited (v : View) (rem copy : Bool) : Warp :=
  { v.y with flags := setZNCV v.y.flags (decide ((if copy then v.y.ecopy else 0) + (if rem then v.y.erem else 0) = 0)) false false false,
             ecopy := if copy then 0 else v.y.ecopy, erem := if rem then 0 else v.y.erem }

theorem exec_waitc (h : Issues s v) (hn : v.waitSum rem copy ≤ n.toNat) :
    exec (.waitc rem copy n) s = .next (v.finish (.ok ((v.put (v.waited rem copy)).acquire v.core 6))) :=
  Means.ok ⟨_, rfl, if_neg (Nat.not_lt.mpr hn)⟩ h

theorem exec_waitc_waits (h : Issues s v) (hn : n.toNat < v.waitSum rem copy) : exec (.waitc rem copy n) s = v.waiting true :=
  Means.waits ⟨_, rfl, if_pos hn⟩ h

end

/-! ## The literal loads (03 R68, 08 R173) -/

section
variable {d : Opnd} {off : BitVec 16} {ld : Loc} {k : Kernel} {wi : Nat} {ws : List Nat}

theorem View.litAt_eq (hk : v.kernel = some k) (hw : v.codeIndex k off.toInt = some wi) : v.litAt off = .ok (k, wi) := by
  simp only [View.litAt, hk, hw]

/-- 03 R68: a word outside every pool is no literal. -/
theorem View.poolWords_outside (hp : k.pool wi = none) (n : Nat) : v.poolWords k wi n = .error (v.trap cILLOPND) := by
  simp only [View.poolWords, hp]

theorem Warp.setLit_calm (y : Warp) (l : Loc) (x : Nat) : (y.setLit l x).intrap = y.intrap ∧ (y.setLit l x).due = y.due := by
  cases l <;> simp [Warp.setLit]

/-- A field that takes scalar registers alone names one. -/
theorem View.scalar_of_resolveDst {l : Loc} (h : v.resolveDst kS false d = .ok l) : ∃ i, l = .sca i := by
  cases d with
  | s i =>
    have hq : (if (v.y.mapped i).isSome then .error (v.trap cILLOPND) else .ok (.sca i) : Except Stop Loc) = .ok l := h
    split at hq
    · cases hq
    · exact ⟨i, (Except.ok.inj hq).symm⟩
  | _ => cases h

theorem means_ldl (hk : v.kernel = some k) (hw : v.codeIndex k off.toInt = some wi) (hd : v.Dst { kVSZ with m := true } false d ld) :
    Means s v (.ldl d off) (v.poolWords k wi 1 >>= fun ws => .ok (v.put (v.y.setLit ld (ws.headD 0)))) :=
  ⟨_, rfl, by simp only [View.litDst, hd.names, View.litAt_eq hk hw, hd.ready, Stop.ok_bind]⟩

theorem means_ldl2_odd (hk : v.kernel = some k) (hw : v.codeIndex k off.toInt = some wi) (hd : v.Dst kS false d ld) (hodd : wi % 2 = 1) :
    Means s v (.ldl2 d off) (.error (v.trap cALIGN (k.code + 4 * wi))) :=
  ⟨_, rfl, by simp only [View.litDst, hd.names, View.litAt_eq hk hw, Stop.ok_bind, hodd, if_true]⟩

theorem means_ldl2 (hk : v.kernel = some k) (hw : v.codeIndex k off.toInt = some wi) (hd : v.Dst kS false d ld) (heven : wi % 2 = 0) :
    Means s v (.ldl2 d off) (v.poolWords k wi 2 >>= fun ws => .ok (v.put (v.y.setLit ld (ws.headD 0 + 2 ^ 32 * ws.getD 1 0)))) := by
  have hodd : ¬wi % 2 = 1 := by omega
  exact ⟨_, rfl, by simp only [View.litDst, hd.names, View.litAt_eq hk hw, hd.ready, Stop.ok_bind, hodd, if_false]⟩

/-- 08 R173: the list of LDLN after its count. -/
def View.ldlnList (v : View) (k : Kernel) (wi : Nat) (ld : Loc) (c : Nat) : Except Stop State :=
  if c < 1 ∨ 32 < c then .error (v.trap cILLOPND)
  else v.poolWords k wi (c + 1) >>= fun ws => match ld with
    | .vec names => .ok (v.put (v.y.setLanes names (BitVec.allOnes 32) 6 (Vector.ofFn (fun (i : Fin 32) => (ws.drop 1).getD i.val 0))))
    | _ => .error (v.trap cILLOPND)

theorem means_ldln (hk : v.kernel = some k) (hw : v.codeIndex k off.toInt = some wi) (hd : v.Dst kVO false d ld) :
    Means s v (.ldln d off) (v.poolWords k wi 1 >>= fun ws => v.ldlnList k wi ld (ws.headD 0)) :=
  ⟨_, rfl, by simp only [View.litDst, hd.names, View.litAt_eq hk hw, hd.ready, Stop.ok_bind]; rfl⟩

theorem exec_ldl (h : Issues s v) (hk : v.kernel = some k) (hw : v.codeIndex k off.toInt = some wi) (hd : v.Dst { kVSZ with m := true } false d ld)
    (hws : v.poolWords k wi 1 = .ok ws) : exec (.ldl d off) s = .next (v.done (v.put (v.y.setLit ld (ws.headD 0)))) := by
  have m : Means s v (.ldl d off) _ := means_ldl hk hw hd
  rw [hws] at m
  obtain ⟨hintrap, hdue⟩ := v.y.setLit_calm ld (ws.headD 0)
  exact m.puts h hintrap hdue

theorem exec_ldl2 (h : Issues s v) (hk : v.kernel = some k) (hw : v.codeIndex k off.toInt = some wi) (hd : v.Dst kS false d ld)
    (heven : wi % 2 = 0) (hws : v.poolWords k wi 2 = .ok ws) :
    exec (.ldl2 d off) s = .next (v.done (v.put (v.y.setScalar ld (BitVec.ofNat 64 (ws.headD 0 + 2 ^ 32 * ws.getD 1 0))))) := by
  have m : Means s v (.ldl2 d off) _ := means_ldl2 hk hw hd heven
  rw [hws] at m
  obtain ⟨i, rfl⟩ := View.scalar_of_resolveDst hd.names
  exact m.puts h rfl rfl

theorem exec_ldln (h : Issues s v) (hk : v.kernel = some k) (hw : v.codeIndex k off.toInt = some wi) {l : List Nat} {c : Nat}
    (hd : v.Dst kVO false d (.vec l)) (hc : v.poolWords k wi 1 = .ok [c]) (hlo : 1 ≤ c) (hhi : c ≤ 32) (hws : v.poolWords k wi (c + 1) = .ok ws) :
    exec (.ldln d off) s = .next (v.done (v.put (v.y.setLanes l (BitVec.allOnes 32) 6
      (Vector.ofFn (fun (i : Fin 32) => (ws.drop 1).getD i.val 0))))) := by
  have m : Means s v (.ldln d off) _ := means_ldln hk hw hd
  have hcount : ¬((([c] : List Nat).headD 0) < 1 ∨ 32 < ([c] : List Nat).headD 0) := by simp only [List.headD_cons]; omega
  rw [hc, Stop.ok_bind, View.ldlnList, if_neg hcount, List.headD_cons, hws] at m
  exact m.puts h (Warp.setLanes_intrap ..) (Warp.setLanes_due ..)

theorem exec_ldln_badCount (h : Issues s v) (hk : v.kernel = some k) (hw : v.codeIndex k off.toInt = some wi) {c : Nat}
    (hd : v.Dst kVO false d ld) (hc : v.poolWords k wi 1 = .ok [c]) (hbad : c < 1 ∨ 32 < c) :
    exec (.ldln d off) s = v.trapped cILLOPND 0 v.f.mask := by
  have m : Means s v (.ldln d off) _ := means_ldln hk hw hd
  rw [hc, Stop.ok_bind, View.ldlnList, List.headD_cons, if_pos hbad] at m
  exact m.traps h (by decide)

/-- 08 R173: outside every pool each literal load traps with ILLOPND, LDL2 at an even word. -/
theorem exec_literal_outside (h : Issues s v) (hk : v.kernel = some k) (hw : v.codeIndex k off.toInt = some wi) (hp : k.pool wi = none) :
    (v.Dst { kVSZ with m := true } false d ld → exec (.ldl d off) s = v.trapped cILLOPND 0 v.f.mask) ∧
    (v.Dst kS false d ld → wi % 2 = 0 → exec (.ldl2 d off) s = v.trapped cILLOPND 0 v.f.mask) ∧
    (v.Dst kVO false d ld → exec (.ldln d off) s = v.trapped cILLOPND 0 v.f.mask) := by
  have stops : ∀ {i : Instr} {n : Nat} {go : List Nat → Except Stop State}, Means s v i (v.poolWords k wi n >>= go) →
      exec i s = v.trapped cILLOPND 0 v.f.mask := fun m => by
    rw [View.poolWords_outside hp] at m
    exact m.traps h (by decide)
  exact ⟨fun hd => stops (means_ldl hk hw hd), fun hd heven => stops (means_ldl2 hk hw hd heven), fun hd => stops (means_ldln hk hw hd)⟩

end

end

/-- Settles O8: each instruction by the values that it checks. -/
theorem nopWaitAndLiteralResults : Obligations.NopWaitAndLiteralResults := by
  refine ⟨fun s v imm h => ⟨exec_nop h, exec_yield h, fun hr h0 ht => exec_setmode h (modeCause_none hr h0 ht),
      fun hbad => exec_setmode_traps h (modeCause_illop hbad) (by decide),
      fun hr h0 ht => exec_setmode_traps h (modeCause_illtype hr h0 ht) (by decide)⟩,
    fun s v rem copy n h => ⟨exec_waitc h, exec_waitc_waits h⟩,
    fun s v d off ld k wi ws h hk hw => ⟨fun hd hws => ?ldl, exec_literal_outside h hk hw,
      fun hd hodd => (means_ldl2_odd hk hw hd hodd).traps h (by decide),
      fun c hd hc hbad => exec_ldln_badCount h hk hw hd hc hbad, fun hd heven hws => exec_ldl2 h hk hw hd heven hws,
      fun l c hd hc hlo hhi hws => exec_ldln h hk hw hd hc hlo hhi hws⟩⟩
  case ldl =>
    rw [exec_ldl h hk hw hd hws]
    cases ld <;> rfl

end Sys2Proof.Machine
end

section
/-! O13: TRAP and BKPT enter the handler (08 R174, 19 R427, R429). A trap that falls due in a warp that can enter its handler is taken at once; then
what the warp holds on entry. -/

namespace Sys2Proof.Machine

/-! ## What a change of one warp leaves as it was -/

theorem map_modify_of_eq {α β : Type} {p : α → β} {f : α → α} (h : ∀ a, p (f a) = p a) (l : List α) (n : Nat) :
    (l.modify n f).map p = l.map p := by
  refine List.ext_getElem? (fun i => ?_)
  rw [List.getElem?_map, List.getElem?_map, List.getElem?_modify]
  cases l[i]? with
  | none => rfl
  | some a =>
    simp only [Option.map_eq_map, Option.map_some]
    split <;> simp [h]

section
variable (s : State) (g w : Nat) (k : Warp → Warp)

theorem State.xlateCore_modWarp (core : Nat) (c : Fin 64) (va : Nat) (write user : Bool) :
    (s.modWarp g w k).xlateCore core c va write user = s.xlateCore core c va write user := rfl

theorem State.engBad_modWarp (pa n : Nat) : (s.modWarp g w k).engBad pa n = s.engBad pa n := rfl

theorem State.engRd_modWarp (pa n : Nat) : (s.modWarp g w k).engRd pa n = s.engRd pa n := by
  induction n generalizing pa with
  | zero => rfl
  | succ n ih =>
    rw [State.engRd, State.engRd, ih]
    rfl

variable {k}

/-- 08 R143: a change of a warp that keeps its windows and its state of scheduling keeps the registers in use. -/
theorem State.regsUsed_modWarp (hk : ∀ y, (k y).regsHeld = y.regsHeld) (core : Nat) : (s.modWarp g w k).regsUsed core = s.regsUsed core := by
  have hheld : ∀ x : Group, ((x.modWarp w k).warps.map Warp.regsHeld).sum = (x.warps.map Warp.regsHeld).sum := fun x =>
    congrArg List.sum (map_modify_of_eq hk x.warps w)
  simp only [State.regsUsed, State.onCore, State.modWarp_groups, tmod, List.filter_map, List.map_map]
  have hfilter : ((fun e : Nat × Group => e.2.onCore && decide (e.2.core = some core)) ∘ fun e => if e.1 = g then (e.1, e.2.modWarp w k) else e) =
      fun e => e.2.onCore && decide (e.2.core = some core) := by
    funext e
    by_cases he : e.1 = g <;> simp [he, Group.modWarp, Group.onCore]
  rw [hfilter]
  refine congrArg List.sum (List.map_congr_left (fun e _ => ?_))
  by_cases he : e.1 = g <;> simp [he, hheld]

end

/-! ## The trap that is taken (19 R427, R430) -/

section
variable {y : Warp} {d : Due} {b : Bool} {f : Frag}

/-- 19 R430: the one pending trap, whose fragment is in a slot and shares no lane with the other. -/
theorem Warp.takeable_of_single (hd : y.due = [d]) (hf : y.slot b = some f) (hl : f.mask &&& d.lanes ≠ 0)
    (ha : ∀ f', y.slot (!b) = some f' → f'.mask &&& d.lanes = 0) : y.takeable = some (0, d, b, f) := by
  have hin : (some f).filter (fun f => decide (f.mask &&& d.lanes ≠ 0)) = some f := Option.filter_eq_some_iff.mpr ⟨rfl, decide_eq_true hl⟩
  cases b with
  | false =>
    have h0 : y.slot0 = some f := hf
    simp only [Warp.takeable, hd, List.zipIdx_singleton, List.filterMap_cons, h0, hin]
    rfl
  | true =>
    have h1 : y.slot1 = some f := hf
    have h0 : y.slot0.filter (fun f => decide (f.mask &&& d.lanes ≠ 0)) = none := by
      rw [Option.filter_eq_none_iff]
      intro f' hf'
      simp [ha f' hf']
    simp only [Warp.takeable, hd, List.zipIdx_singleton, List.filterMap_cons, h0, h1, hin]
    rfl

/-- 19 R427: an ACTIVE warp that is in no trap takes its trap when the header word can be read and is valid and the handler's window fits. -/
theorem State.takeDue_enters {s : State} {g w i h pa e : Nat} {x : Group} (hx : s.group g = some x) (hy : s.warp g w = some y)
    (hi : y.intrap = false) (hs : y.sched = .active) (ht : y.takeable = some (i, d, b, f))
    (hpage : s.xlateCore (x.core.getD 0) (cfin x.ctx) (s.ctxs[cfin x.ctx].tvec - 4) false false = .ok pa e) (hgood : s.engBad pa 4 = false)
    (hword : s.engRd pa 4 = h) (hok : hdrOk h = true) (hovl : hdrOvl h = 0) (hfits : y.winFits (hdrWin h) = true)
    (hroom : s.regsUsed (x.core.getD 0) + hdrWin h ≤ 1536) :
    s.takeDue g w = s.modWarp g w (fun z => z.enter i d b f (hdrWin h) s.ctxs[cfin x.ctx].tvec s.tick) := by
  simp only [State.takeDue, hx, hy, hi, hs, ht, hpage, hgood, hword, hok, hovl, hfits, State.makeRoom_of_room hroom, reduceCtorEq, or_self, if_false,
    Bool.false_eq_true, Bool.not_true, ne_eq, not_true_eq_false]

/-- 19 R427, R429: what a warp holds on entry into its handler for a trap that is no lane trap. -/
theorem Warp.enter_spec (hk : d.kind ≠ .lane) (i win tvec born : Nat) :
    let z := y.enter i d b f win tvec born
    z.trap = { cause := BitVec.ofNat 32 (b2n b * 2 ^ 16 + d.kind.code * 2 ^ 8 + d.code % 256), fpc := d.fpc, faddr := d.faddr, fmask := d.fmask } ∧
      z.intrap = true ∧ z.plvl = (if y.plvl = 2 then 2 else 1) ∧ z.s = y.s ∧ z.m = y.m ∧ z.flags = y.flags ∧ z.mode = y.mode ∧
      z.slot (!b) = y.slot (!b) ∧
      ∃ q, z.slot b = some q ∧ q.pc = BitVec.ofNat 64 tvec ∧ q.mask = f.mask ∧ q.join = none ∧ q.status = .ready ∧
        ∃ n, z.wins = y.wins ++ [n] ∧ n.id = q.win ∧ n.regs.length = win := by
  obtain ⟨n, hwins, hid, hlen⟩ := y.openWin_apart win (((y.window f.win).map (·.depth)).getD 0 + 1) born 0 none
  refine ⟨?_, rfl, rfl, Warp.setSlot_s .., Warp.setSlot_m .., Warp.setSlot_flags .., Warp.setSlot_mode .., Warp.setSlot_other ..,
    _, Warp.setSlot_slot .., rfl, rfl, rfl, rfl, n, (Warp.setSlot_wins ..).trans hwins, hid, hlen⟩
  simp [Warp.enter, hk]

end

section
variable {s : State} {r : Ref} {x : Group} {y : Warp} {f : Frag} {h : Nat}

/-- 19 R427: the warp in which a trap has fallen due for the fragment in a slot. -/
def Warp.trapping (y : Warp) (b : Bool) (f : Frag) (d : Due) : Warp := { (y.setSlot b (some { f with status := .ready })) with due := [d] }

theorem Warp.winFits_trapping (y : Warp) (b : Bool) (f : Frag) (d : Due) (n : Nat) : (y.trapping b f d).winFits n = y.winFits n := by
  have hwins : (y.trapping b f d).wins = y.wins := Warp.setSlot_wins ..
  rw [Warp.winFits, Warp.winFits, Warp.winRegs, Warp.winRegs, hwins]

/-- 19 R427: a trap that falls due for the fragment of a warp that can enter its handler is taken at once. -/
theorem CanEnter.raise_enters (c : CanEnter s r.g r.w x y r.slot f h) {d : Due} (hl : d.lanes = f.mask) :
    ((s.setStatus r .ready).raise r.g r.w d).warp r.g r.w =
      some ((y.trapping r.slot f d).enter 0 d r.slot { f with status := .ready } (hdrWin h) s.ctxs[cfin x.ctx].tvec s.tick) := by
  obtain ⟨pa, e, hpage, hgood, hword⟩ := c.header
  obtain ⟨hok, hovl⟩ := c.valid
  have hw : s.warp r.g r.w = some y := by simp [State.warp, c.group, c.warp]
  unfold State.raise State.setStatus
  rw [State.modWarp_modWarp]
  generalize hk : ((fun y => { y with due := y.due ++ [d] }) ∘ fun y : Warp =>
    y.setSlot r.slot ((y.slot r.slot).map (fun f => { f with status := .ready })) : Warp → Warp) = k
  have hky : k y = y.trapping r.slot f d := by simp [← hk, Warp.trapping, c.frag, c.calm]
  have hheld : ∀ z, (k z).regsHeld = z.regsHeld := fun z => by simp [← hk, Warp.regsHeld]
  have hx' := State.group_of_tmod c.group (State.modWarp_groups s r.g r.w k)
  have hw' : (s.modWarp r.g r.w k).warp r.g r.w = some (y.trapping r.slot f d) := by rw [State.warp_modWarp, hw, Option.map_some, hky]
  have htake : (y.trapping r.slot f d).takeable = some (0, d, r.slot, { f with status := .ready }) :=
    Warp.takeable_of_single rfl (Warp.setSlot_slot ..) (by simpa [hl] using c.lanes)
      (fun f' hf' => by rw [hl]; exact c.apart f' ((Warp.setSlot_other ..).symm.trans hf'))
  rw [State.takeDue_enters hx' hw' ((Warp.setSlot_intrap ..).trans c.free) ((Warp.setSlot_sched ..).trans c.lives) htake
    ((State.xlateCore_modWarp ..).trans hpage) ((State.engBad_modWarp ..).trans hgood) ((State.engRd_modWarp ..).trans hword) hok hovl
    ((y.winFits_trapping r.slot f d _).trans c.fits) (by rw [State.regsUsed_modWarp _ _ _ hheld]; exact c.room)]
  rw [State.warp_modWarp, hw', Option.map_some]
  rfl

end

/-- 08 R174: the trap of a TRAP or BKPT: of KIND 2, with the code in FADDR. -/
def View.softwareDue (v : View) (code : Nat) (imm : BitVec 23) : Due :=
  { code := code, kind := .software, fpc := v.pc, faddr := imm.setWidth 64, fmask := v.f.mask, lanes := v.f.mask, causes := [] }

/-- 08 R174: a TRAP or BKPT outside a handler makes its trap fall due. -/
theorem exec_software {s : State} {v : View} {i : Instr} {code : Nat} {imm : BitVec 23} (h : Issues s v) (hi : v.y.intrap = false)
    (he : exec i s = issue s (fun v => .error (.trap code .software imm.toNat v.f.mask))) :
    exec i s = .next ((s.setStatus v.r .ready).raise v.r.g v.r.w (v.softwareDue code imm)) := by
  have hfaddr : BitVec.ofNat 64 imm.toNat = imm.setWidth 64 := BitVec.ofNat_toNat ..
  rw [he, issue_trap (kind := .software) h rfl (fun hc => nomatch hc.2), View.trapIn, if_neg (by simp [hi]), h.base_eq, hfaddr]
  rfl

/-- Settles O13: the trap of TRAP and BKPT is of KIND 2, and the warp takes it at once. -/
theorem trapInstructionEntersHandler : Obligations.TrapInstructionEntersHandler := by
  intro s v x y f h imm hi hr hp c e he
  obtain ⟨hpc, -, -, -, y', hw, hslot, -, hy⟩ := issueAdvancesThePc s v hi.sees hr
  obtain rfl : y' = y := by
    rw [State.warp, c.group, Option.bind_some, c.warp] at hw
    exact (Option.some.inj hw).symm
  obtain rfl : v.f = f := Option.some.inj (hslot.symm.trans c.frag)
  have hintrap : v.y.intrap = false := by rw [hy, Warp.setSlot_intrap, c.free]
  have hexec : exec e.1 s = issue s (fun v => .error (.trap e.2 .software imm.toNat v.f.mask)) ∧ e.2 % 256 = e.2 := by
    simp only [List.mem_cons, List.not_mem_nil, or_false] at he
    rcases he with rfl | rfl <;> exact ⟨rfl, rfl⟩
  obtain ⟨hexec, hcode⟩ := hexec
  refine ⟨_, _, exec_software hi hintrap hexec, c.raise_enters rfl, ?_⟩
  obtain ⟨htrap, hin, hplvl, hs, hm, hflags, hmode, hother, q, hq, hqpc, hmask, hjoin, hready, n, hwins, hid, hlen⟩ :=
    Warp.enter_spec (y := y'.trapping v.r.slot v.f (v.softwareDue e.2 imm)) (b := v.r.slot) (f := { v.f with status := .ready })
      (d := v.softwareDue e.2 imm) (fun hk => nomatch hk) 0 (hdrWin h) s.ctxs[cfin x.ctx].tvec s.tick
  refine ⟨?_, hin, ?_, hs.trans (Warp.setSlot_s ..), hm.trans (Warp.setSlot_m ..), hflags.trans (Warp.setSlot_flags ..),
    hmode.trans (Warp.setSlot_mode ..), hother.trans (Warp.setSlot_other ..), q, hq, hqpc, hmask, hjoin, hready, n, ?_, hid, hlen⟩
  · rw [htrap]
    simp only [View.softwareDue, hcode, hpc]
    rfl
  · rw [hplvl]
    exact if_neg (by simpa [Warp.trapping] using hp)
  · rw [hwins]
    simp [Warp.trapping]

end Sys2Proof.Machine
end

section
/-! O31 fails in one clause: CPY with LEN 0 (12 R287). The statement asks that no copy has the number that the empty copy gets, but not that no request to
another node names that number; in a state with such a request the copy does not end before its answer (12 R284). -/

namespace Sys2Proof.Machine

/-! ## What a trap that is taken leaves of the copies (19 R427) -/

theorem State.spillUntil_copies {s t : State} {core need : Nat} {l : List Movable} (h : s.spillUntil core need l = some t) : t.copies = s.copies := by
  induction l generalizing s with
  | nil =>
    obtain ⟨-, hst⟩ := Option.ite_none_right_eq_some.mp h
    rw [Option.some.inj hst]
  | cons e l ih =>
    rw [State.spillUntil] at h
    split at h
    · rw [Option.some.inj h]
    · exact (ih (Option.ite_none_right_eq_some.mp h).2).trans (State.modWarp_copies ..)

theorem State.makeRoom_copies {s t : State} {core g w need : Nat} (h : s.makeRoom core g w need = some t) : t.copies = s.copies :=
  State.spillUntil_copies h

section
variable (s : State)

@[simp] theorem State.addFault_copies (ctx page die : Nat) (host : Option Nat) : (s.addFault ctx page die host).copies = s.copies := by
  unfold State.addFault; split <;> rfl

/-- A context that cannot run takes no further fault. -/
theorem State.faultContext_copies (c : Fin 64) (cause source unit addr ref mask : Nat) :
    (s.faultContext c cause source unit addr ref mask).copies = s.copies ∨ ∃ d, (s.faultContext c cause source unit addr ref mask).stOf d = .faulted := by
  by_cases h : (s.ctxs[c]).st.runs = true
  · exact .inr ⟨c, s.stOf_faultContext c h ..⟩
  · rw [State.faultContext, State.faultFrom, if_neg h]
    exact .inl rfl

/-- 19 R427: a trap that is taken leaves the copies as they are, unless a context faults. -/
theorem State.takeDue_copies (g w : Nat) : (s.takeDue g w).copies = s.copies ∨ ∃ c, (s.takeDue g w).stOf c = .faulted := by
  simp only [State.takeDue]
  split
  · split
    · exact .inl rfl
    · split
      · exact .inl rfl
      · split
        · exact .inl rfl
        · split
          case h_1 => exact .inl (s.addFault_copies ..)
          case h_2 => exact s.faultContext_copies ..
          case h_3 => exact s.faultContext_copies ..
          case h_4 =>
            split
            · exact s.faultContext_copies ..
            · split
              · exact s.faultContext_copies ..
              · split
                · exact s.faultContext_copies ..
                · split
                  · exact .inl rfl
                  · next hroom => exact .inl ((State.modWarp_copies ..).trans (State.makeRoom_copies hroom))
  · exact .inl rfl

end

/-! ## The counterexample -/

/-- The loaded module, whose warp holds two pointers and a LEN of 0 from s8 on, while a request to another node names the number that the next copy gets. -/
def strayRequest : State :=
  { State.reset.loaded.modWarp 1 0 (fun y => (y.setS 8 0x1000).setS 9 0x2000) with
    cur := some { g := 1, w := 0, slot := false },
    remotes := [(0, { op := 0, lane := 0, g := 0, w := 0, store := false, copy := some State.reset.loaded.uid, addr := 0, data := [], at_ := 0,
                      inside := none })] }

/-- What the issuing fragment of `strayRequest` sees. -/
def strayView : View := (strayRequest.cur.bind strayRequest.viewOf).get (by decide +kernel)

theorem strayView_copyWords : CopyWords strayRequest strayView 8 4 :=
  ⟨⟨Option.some_get _ |>.symm, by decide +kernel, by decide +kernel⟩, by decide, by decide +kernel⟩

/-- The empty CPY, whose identifier goes nowhere. -/
def emptyCpy : Instr := .cpy .zero (.s 8) false

/-- The copy `id` is RUNNING in the next state, and no context has faulted. -/
def copyStillRuns (id : Nat) : Host.Outcome State Fault Refusal → Bool
  | .next u => decide ((tget u.copies id).map (·.st) = some .running) && (List.finRange 64).all (fun c => decide (u.stOf c ≠ .faulted))
  | _ => false

theorem copyStillRuns_emptyCpy : copyStillRuns strayView.s.uid (exec emptyCpy strayRequest) = true := by decide +kernel

/-- The job of the empty CPY. -/
def emptyJob : Job :=
  { kind := .cpy, p0 := 0x1000, p1 := 0x2000, p2 := 0, p3 := 0, lay := .ofBytes 16 0, ranges := [], toSpad := false, bar := none, extra := 0, tile := 0,
    route := [] }

theorem strayView_copyRoom : CopyRoom strayView emptyJob (endOf 0x1000) 0 (endOf 0x2000) false 0 where
  source := by decide
  target := by decide
  apart := rfl
  stage _ _ := by decide +kernel
  quiet := by decide +kernel
  engine := by decide +kernel
  unlocked := by simp [emptyJob]
  tables := by decide +kernel
  present := by simp [emptyJob]
  credits := rfl

/-- A copy that still runs once an instruction has completed was RUNNING in the state that the instruction left. -/
theorem running_of_copyStillRuns {v : View} {t : State} {id : Nat} {c : Copy} (h : copyStillRuns id (.next (v.finish (.ok t))) = true)
    (hc : tget t.copies id = some c) : c.st = .running := by
  simp only [copyStillRuns, Bool.and_eq_true, decide_eq_true_eq, List.all_eq_true, List.mem_finRange, true_implies] at h
  obtain ⟨hrun, hcalm⟩ := h
  rcases State.takeDue_copies (t.modWarp v.r.g v.r.w (fun y => { y with last1 := v.r.slot })) v.r.g v.r.w with hcop | ⟨d, hd⟩
  · rw [View.finish, hcop, State.modWarp_copies, hc, Option.map_some] at hrun
    exact Option.some.inj hrun
  · exact absurd hd (hcalm d)

/-- Refutes O31: a CPY of LEN 0 is not DONE at once in `strayRequest`, where a request to another node names the number that the copy gets: the copy ends
when that request is answered (12 R284). -/
theorem not_copiesAccepted : ¬ Obligations.CopiesAccepted := by
  intro h
  have hdst : strayView.identTo .zero none := ⟨rfl, by decide⟩
  obtain ⟨-, -, -, hcpy⟩ := h.1 strayRequest strayView 8 .zero none false none 0 strayView_copyWords hdst
  obtain ⟨hplain, -⟩ := hcpy (by decide +kernel) (by decide +kernel) (by decide +kernel)
  obtain ⟨haccepted, -⟩ := hplain (by decide +kernel) (by unfold View.barOf; decide +kernel)
  obtain ⟨-, hempty⟩ := haccepted strayView_copyRoom
  obtain ⟨t, c, y, hexec, hc, hdone, -⟩ := hempty (by decide +kernel) (by decide +kernel)
  have hruns := copyStillRuns_emptyCpy
  rw [emptyCpy, hexec] at hruns
  exact absurd (hdone.symm.trans (running_of_copyStillRuns hruns hc)) (by decide)

end Sys2Proof.Machine
end

section
/-! What the end of a copy leaves (12 R284, R292): its record, memory, and the warps and groups that it was issued by. -/

namespace Sys2Proof.Machine

/-! ## What is told to the fragments of a warp (13 R300) -/

/-- The warps differ in their fragments alone. -/
def Warp.Told (y z : Warp) : Prop := ∃ a b k, z = { y with slot0 := a, slot1 := b, kept := k }

/-- The fragments of a group's warps have been told something, and its warps are as they were otherwise. -/
def Group.Tells (g h : Group) : Prop := ∃ f, (∀ y : Warp, y.Told (f y)) ∧ h.warps = g.warps.map f

section
variable {g h i : Group}

theorem Group.Tells.of_warps (hw : h.warps = g.warps) : g.Tells h := ⟨id, fun _ => ⟨_, _, _, rfl⟩, by rw [hw, List.map_id]⟩

theorem Group.Tells.trans (hg : g.Tells h) (hh : h.Tells i) : g.Tells i := by
  obtain ⟨f, hf, hfw⟩ := hg
  obtain ⟨k, hk, hkw⟩ := hh
  refine ⟨k ∘ f, fun y => ?_, by rw [hkw, hfw, List.map_map]⟩
  obtain ⟨_, _, _, hy⟩ := hf y
  obtain ⟨_, _, _, hz⟩ := hk (f y)
  exact ⟨_, _, _, by rw [Function.comp, hz, hy]⟩

theorem Group.tells_setBar (g : Group) (o : Nat) (b : Bar) : g.Tells (g.setBar o b) := ⟨Warp.tell o b, fun _ => ⟨_, _, _, rfl⟩, rfl⟩

theorem Group.tells_barAdd (g : Group) (o n : Nat) : g.Tells (g.barAdd o n) := by
  simp only [Group.barAdd]
  split
  · exact .of_warps rfl
  · exact g.tells_setBar ..

theorem Group.tells_barBreak (g : Group) (o ident : Nat) : g.Tells (g.barBreak o ident) := by
  simp only [Group.barBreak]
  split
  · exact .of_warps rfl
  · exact g.tells_setBar ..

/-- 12 R285: the presence counts are no part of a warp. -/
theorem Group.warps_foldl_present (g : Group) (l : List Nat) : (l.foldl Group.present g).warps = g.warps :=
  foldl_keeps Group.warps (f := Group.present) (fun _ _ => rfl) l g

/-- A warp of a group whose fragments have been told something. -/
theorem State.warp_modGroup_tells {s : State} {n w : Nat} {y : Warp} {k : Group → Group} (hk : ∀ x, Group.Tells x (k x)) (hy : s.warp n w = some y) :
    ∃ z, (s.modGroup n k).warp n w = some z ∧ y.Told z := by
  obtain ⟨x, hx, hxy⟩ := Option.bind_eq_some_iff.mp hy
  obtain ⟨f, hf, hw⟩ := hk x
  refine ⟨f y, ?_, hf y⟩
  rw [State.warp, State.group_modGroup, if_pos rfl, hx, Option.map_some, Option.bind_some, hw, List.getElem?_map, hxy, Option.map_some]

end

/-! ## The end (12 R284, R292) -/

/-- 12 R284 to R286: what the end of a copy is to its group: its lines are present, its barrier has its last bytes or is BROKEN, its slab is there. -/
def Copy.leave (c : Copy) (ok : Bool) (g : Group) : Group :=
  let g1 := c.lines.foldl Group.present g
  let g2 := match c.bar with
    | none => g1
    | some b => if ok then g1.barLand b c.barLeft else g1.barBreak b c.ident.toNat
  match c.kind with
  | .cpyf k n =>
    { g2 with fifos := g2.fifos.set k (g2.fifos[k].map (fun q =>
        { q with slabs := q.slabs.map (fun x => if x.id = n then { x with failed := !ok } else x) })) }
  | _ => g2

/-- 12 R284, R292: the record of a copy that has ended. -/
def Copy.ended (c : Copy) (st : CopyState) (cause : Nat) : Copy :=
  { c with st := st, cause := if st = .failed then cause else 0, lines := [], locks := [], route := [], barLeft := 0, released := true }

/-- 12 R284, R292: COPY and ECOPY of the warp that issued a copy which has ended. -/
def Warp.copyEnded (st : CopyState) (y : Warp) : Warp :=
  { y with copyN := y.copyN - 1, ecopy := if st = .failed then y.ecopy + 1 else y.ecopy }

/-- 12 R284, R292: the state once a copy has ended, before its entry for the fault log. -/
def State.copyEnded (s : State) (id : Nat) (c : Copy) (st : CopyState) (cause : Nat) : State :=
  { ((s.modGroup c.g (c.leave (decide (st = .done)))).modWarp c.g c.w (Warp.copyEnded st)) with copies := tput s.copies id (c.ended st cause) }

theorem Copy.tells_leave (c : Copy) (ok : Bool) (g : Group) : g.Tells (c.leave ok g) := by
  have hpresent : g.Tells (c.lines.foldl Group.present g) := .of_warps (g.warps_foldl_present c.lines)
  have hbar : ∀ o, g.Tells (if ok then (c.lines.foldl Group.present g).barLand o c.barLeft else (c.lines.foldl Group.present g).barBreak o c.ident.toNat) := by
    intro o
    split
    · exact hpresent.trans (Group.tells_barAdd ..)
    · exact hpresent.trans (Group.tells_barBreak ..)
  simp only [Copy.leave]
  cases c.bar with
  | none => split <;> exact hpresent.trans (.of_warps rfl)
  | some o => split <;> exact (hbar o).trans (.of_warps rfl)

/-- 12 R284: the record of a copy that has been told to end, unless it has been told before. -/
def Copy.stopping (c : Copy) (st : CopyState) (cause addr : Nat) : Copy := { c with stop := some (c.stop.getD (st, cause, addr)) }

section
variable {s : State} {id : Nat} {c : Copy}

/-- 12 R284: a copy that has bytes at another node stops, and ends when they are answered. -/
theorem State.endCopy_sending (hc : tget s.copies id = some c) (hl : c.st = .running ∨ c.st = .parked) (hs : s.copySends id = true)
    (st : CopyState) (cause addr : Nat) : s.endCopy id st cause addr = s.putCopy id (c.stopping st cause addr) := by
  simp only [State.endCopy, hc]
  rw [if_pos ⟨hl, hs⟩]
  rfl

/-- 12 R284, R292: any other copy that has not ended ends; a FAILED one leaves an entry for the fault log. -/
theorem State.endCopy_ends (hc : tget s.copies id = some c) (hl : c.st = .running ∨ c.st = .parked) (hs : s.copySends id = false)
    (st : CopyState) (cause addr : Nat) :
    s.endCopy id st cause addr =
      if st = .failed then (s.copyEnded id c st cause).log (cfin c.ctx) cause 1 0 (quadLoc (Machine.identQuad c.ident)) addr c.ident.toNat 0
      else s.copyEnded id c st cause := by
  rw [State.endCopy, hc]
  dsimp only
  rw [if_neg (fun h => absurd h.2 (by rw [hs]; decide)), if_pos hl]
  rfl

theorem State.endCopy_parts (hc : tget s.copies id = some c) (hl : c.st = .running ∨ c.st = .parked) (hs : s.copySends id = false)
    (st : CopyState) (cause addr : Nat) :
    (s.endCopy id st cause addr).copies = tput s.copies id (c.ended st cause) ∧ (s.endCopy id st cause addr).mem = s.mem ∧
      (s.endCopy id st cause addr).groups = ((s.modGroup c.g (c.leave (decide (st = .done)))).modWarp c.g c.w (Warp.copyEnded st)).groups := by
  rw [State.endCopy_ends hc hl hs]
  split <;> exact ⟨rfl, rfl, rfl⟩

/-- 12 R284, R292: the record of the copy that has ended. -/
theorem State.tget_endCopy (hc : tget s.copies id = some c) (hl : c.st = .running ∨ c.st = .parked) (hs : s.copySends id = false)
    (st : CopyState) (cause addr : Nat) : tget (s.endCopy id st cause addr).copies id = some (c.ended st cause) := by
  rw [(State.endCopy_parts hc hl hs st cause addr).1, tget_tput, if_pos rfl]

/-- 12 R284, R292: COPY of the warp that issued the copy, and ECOPY of a FAILED one. -/
theorem State.warp_endCopy (hc : tget s.copies id = some c) (hl : c.st = .running ∨ c.st = .parked) (hs : s.copySends id = false)
    (st : CopyState) (cause addr : Nat) {y : Warp} (hy : s.warp c.g c.w = some y) :
    ∃ z, (s.endCopy id st cause addr).warp c.g c.w = some (z.copyEnded st) ∧ y.Told z := by
  obtain ⟨-, -, hgroups⟩ := State.endCopy_parts hc hl hs st cause addr
  obtain ⟨z, hz, hyz⟩ := State.warp_modGroup_tells (c.tells_leave (decide (st = .done))) hy
  refine ⟨z, ?_, hyz⟩
  rw [State.warp_congr hgroups, State.warp_modWarp, hz, Option.map_some]

end

end Sys2Proof.Machine
end

section
/-! O32: CSTAT and CCAN (12 R295 to R297). -/

namespace Sys2Proof.Machine

/-! ## The state that a view shows (08 R165) -/

/-- The states differ in groups and memory instructions alone. -/
def State.Regrouped (s t : State) : Prop := ∃ groups memops, t = { s with groups := groups, memops := memops }

section
variable {s t u : State}

theorem State.Regrouped.trans (h : s.Regrouped t) (k : t.Regrouped u) : s.Regrouped u := by
  obtain ⟨_, _, rfl⟩ := h
  obtain ⟨_, _, rfl⟩ := k
  exact ⟨_, _, rfl⟩

theorem State.Regrouped.copies_eq (h : s.Regrouped t) : t.copies = s.copies := by obtain ⟨_, _, rfl⟩ := h; rfl
theorem State.Regrouped.mem_eq (h : s.Regrouped t) : t.mem = s.mem := by obtain ⟨_, _, rfl⟩ := h; rfl
theorem State.Regrouped.copySends_eq (h : s.Regrouped t) (id : Nat) : t.copySends id = s.copySends id := by obtain ⟨_, _, rfl⟩ := h; rfl

theorem State.regrouped_release (s : State) (g w : Nat) (d : Dest) : s.Regrouped (s.release g w d) := by
  simp only [State.release]
  split
  · exact ⟨_, _, rfl⟩
  · split <;> exact ⟨_, _, rfl⟩

theorem State.regrouped_beforeReplay (s : State) (r : Ref) (f : Frag) : s.Regrouped (s.beforeReplay r f) := by
  unfold State.beforeReplay
  split
  · exact ⟨_, _, rfl⟩
  · exact List.foldlRecOn (motive := fun t => s.Regrouped t) _ _ ⟨_, _, rfl⟩ (fun t ht d _ => ht.trans (t.regrouped_release ..))

/-- 08 R165, 19 R432: moving the fragment past its instruction changes nothing outside groups and memory instructions. -/
theorem Issues.regrouped {v : View} (h : Issues s v) : s.Regrouped v.s := by
  obtain ⟨r, -, hv⟩ := Option.bind_eq_some_iff.mp h.sees
  unfold State.viewOf at hv
  split at hv
  · cases hv
  · split at hv
    · cases hv
    · split at hv
      · cases hv
      · cases hv
        exact (s.regrouped_beforeReplay ..).trans ⟨_, _, rfl⟩

end

/-! ## The copy that an identifier names (12 R295) -/

section
variable {s : State} {ctx id : Nat} {x : DWord} {c : Copy}

theorem State.copyNamed_of_find (hx : bits x 63 58 = ctx) (hf : s.copies.find? (fun e => decide (e.2.ident = x)) = some (id, c)) :
    s.copyNamed ctx x = some (id, c) := by
  rw [State.copyNamed, if_pos hx, hf]

theorem State.copyNamed_ident {e : Nat × Copy} (h : s.copyNamed ctx x = some e) : bits x 63 58 = ctx ∧ e ∈ s.copies ∧ e.2.ident = x := by
  obtain ⟨hx, hf⟩ := Option.ite_none_right_eq_some.mp h
  exact ⟨hx, List.mem_of_find?_eq_some hf, by simpa using List.find?_some hf⟩

end

/-! ## CSTAT (12 R296) -/

section
variable {s : State} {v : View} {d a : Opnd} {ld : Loc} {j : Fin 32} {wa : Bool}

/-- 12 R296: the status word of a copy. -/
def Copy.status (c : Copy) : Nat := c.st.code * 2 ^ 61 + c.cause % 256 * 2 ^ 48 + c.landed % 2 ^ 40

theorem means_cstat (ha : v.Src kS false a (.sca j)) (hd : v.Dst kSZ false d ld) :
    Means s v (.cstat d a wa) (.ok (v.put (v.y.setScalar ld (BitVec.ofNat 64 (((v.s.copyNamed v.c v.y.s[j].val).map (·.2.status)).getD 0))))) := by
  refine ⟨_, rfl, ?_⟩
  simp only [hd.names, ha.rd, View.sources_one ha.full ha.plain, hd.ready, Stop.ok_bind, Warp.scalarVal]
  cases v.s.copyNamed v.c v.y.s[j].val <;> rfl

theorem CopyState.code_lt (st : CopyState) : st.code < 8 := by cases st <;> decide

/-- 12 R296: the fields of a status word. -/
theorem Copy.status_fields (c : Copy) :
    let w : DWord := BitVec.ofNat 64 c.status
    bits w 63 61 = c.st.code ∧ bits w 60 56 = 0 ∧ bits w 55 48 = c.cause % 256 ∧ bits w 47 40 = 0 ∧ bits w 39 0 = c.landed % 2 ^ 40 := by
  have hcode := c.st.code_lt
  simp only [bits, Copy.status, BitVec.toNat_ofNat, Nat.shiftRight_eq_div_pow]
  omega

theorem exec_cstat (h : Issues s v) (ha : v.Src kS false a (.sca j)) (hd : v.Dst kSZ false d ld) :
    exec (.cstat d a wa) s =
      .next (v.done (v.put (v.y.setScalar ld (BitVec.ofNat 64 (((v.s.copyNamed v.c v.y.s[j].val).map (·.2.status)).getD 0))))) :=
  (means_cstat ha hd).puts h (Warp.setScalar_intrap ..) (Warp.setScalar_due ..)

/-! ## CCAN (12 R297) -/

/-- 12 R297: the state in which the fragment waits until copy `id` is CANCELLED. -/
def View.cancelling (v : View) (t : State) (id : Nat) : State :=
  t.modWarp v.r.g v.r.w (fun y => y.setSlot v.r.slot ((y.slot v.r.slot).map (fun f => { f with arrived := some (.answer id) })))

/-- 12 R297: the warp once its CCAN has cancelled a copy. -/
def Warp.cancelled (y : Warp) : Warp := { y with flags := setZNCV y.flags false false false false }

theorem means_ccan_answer {id : Nat} (hf : v.f.arrived = some (.answer id)) :
    Means s v (.ccan a wa) (if ((tget v.s.copies id).map (·.live)).getD false then .error v.hold
      else .ok (v.put { (v.withFrag (fun f => { f with arrived := none })) with flags := setZNCV v.y.flags false false false false })) := by
  refine ⟨_, rfl, ?_⟩
  simp only [hf]

theorem means_ccan_none (ha : v.Src kS false a (.sca j)) (hf : ∀ n, v.f.arrived ≠ some (.answer n))
    (hn : (v.s.copyNamed v.c v.y.s[j].val).filter (fun e => e.2.live) = none) :
    Means s v (.ccan a wa) (.ok (v.put { v.y with flags := setZNCV v.y.flags true false false false })) := by
  refine ⟨_, rfl, ?_⟩
  split
  · next id hid => exact absurd hid (hf id)
  · simp only [ha.rd, View.sources_one ha.full ha.plain, Stop.ok_bind, Warp.scalarVal, hn]

theorem means_ccan_live {id : Nat} {c : Copy} (ha : v.Src kS false a (.sca j)) (hf : ∀ n, v.f.arrived ≠ some (.answer n))
    (hn : v.s.copyNamed v.c v.y.s[j].val = some (id, c)) (hl : c.live = true) :
    Means s v (.ccan a wa) (if ((tget (v.base.endCopy id .cancelled 0 0).copies id).map (·.live)).getD false then
        .error (.wait (v.cancelling (v.base.endCopy id .cancelled 0 0) id) false)
      else .ok ((v.s.endCopy id .cancelled 0 0).modWarp v.r.g v.r.w Warp.cancelled)) := by
  refine ⟨_, rfl, ?_⟩
  split
  · next id hid => exact absurd hid (hf id)
  · simp only [ha.rd, View.sources_one ha.full ha.plain, Stop.ok_bind, Warp.scalarVal, hn, Option.filter_some, hl, if_true]
    rfl

/-- 12 R297: no copy that CCAN could cancel has the identifier. -/
theorem State.filter_copyNamed_eq_none {ctx : Nat} {x : DWord}
    (h : bits x 63 58 ≠ ctx ∨ ∀ e ∈ s.copies, e.2.ident ≠ x ∨ (e.2.st ≠ .running ∧ e.2.st ≠ .parked)) :
    (s.copyNamed ctx x).filter (fun e => e.2.live) = none := by
  refine Option.filter_eq_none_iff.mpr (fun e he hl => ?_)
  obtain ⟨hx, hmem, hident⟩ := State.copyNamed_ident he
  rcases h with h | h
  · exact h hx
  · rcases h e hmem with hne | ⟨hrun, hpark⟩
    · exact hne hident
    · simp [Copy.live, hrun, hpark] at hl

/-- 12 R297: a copy whose bytes are at another node is told to stop, and the fragment waits. -/
theorem exec_ccan_sending {id : Nat} {c : Copy} (h : Issues s v) (ha : v.Src kS false a (.sca j)) (hf : ∀ n, v.f.arrived ≠ some (.answer n))
    (hn : v.s.copyNamed v.c v.y.s[j].val = some (id, c)) (hc : tget v.s.copies id = some c) (hl : c.st = .running ∨ c.st = .parked)
    (hs : v.s.copySends id = true) :
    exec (.ccan a wa) s = .next (((v.cancelling (s.putCopy id (c.stopping .cancelled 0 0)) id).setStatus v.r
      (.blocked false)).parkCheck v.r.g v.r.w) := by
  have hlive : c.live = true := by simpa [Copy.live] using hl
  rw [h.regrouped.copies_eq] at hc
  rw [h.regrouped.copySends_eq] at hs
  have hstill : ((tget (s.putCopy id (c.stopping .cancelled 0 0)).copies id).map (·.live)).getD false = true := by
    simpa [State.putCopy, tget_tput, Copy.live, Copy.stopping] using hl
  have m := means_ccan_live (s := s) (wa := wa) ha hf hn hlive
  rw [h.base_eq, State.endCopy_sending hc hl hs, if_pos hstill] at m
  exact m.waits h

/-- 12 R297: any other copy that has not ended is CANCELLED at once. -/
theorem exec_ccan_cancels {id : Nat} {c : Copy} (h : Issues s v) (ha : v.Src kS false a (.sca j)) (hf : ∀ n, v.f.arrived ≠ some (.answer n))
    (hn : v.s.copyNamed v.c v.y.s[j].val = some (id, c)) (hc : tget v.s.copies id = some c) (hl : c.st = .running ∨ c.st = .parked)
    (hs : v.s.copySends id = false) :
    exec (.ccan a wa) s = .next (v.finish (.ok ((v.s.endCopy id .cancelled 0 0).modWarp v.r.g v.r.w Warp.cancelled))) := by
  have hlive : c.live = true := by simpa [Copy.live] using hl
  rw [h.regrouped.copies_eq] at hc
  rw [h.regrouped.copySends_eq] at hs
  have m := means_ccan_live (s := s) (wa := wa) ha hf hn hlive
  rw [h.base_eq, State.tget_endCopy hc hl hs] at m
  exact m.ok h

theorem setZNCV_getLsbD_zero (f : Byte) (z n c o : Bool) : (setZNCV f z n c o).getLsbD 0 = z := by
  cases z <;> cases n <;> cases c <;> cases o <;> simp [setZNCV, b2n]

end

/-- Settles O32: CSTAT by the copy that the identifier names; CCAN by its fragment's wait, and by whether that copy has ended and has bytes at
another node. -/
theorem copyStatusAndCancel : Obligations.CopyStatusAndCancel := by
  intro s v d a ld j wa h ha x
  refine ⟨fun hd => ⟨fun id c hx hfind => ?status, fun hno => ?unknown⟩, fun id hid => ⟨fun hl => ?waits, fun hl => ?answered⟩,
    fun id c hf hx hfind hc hl hs => ?sending, fun id c hf hx hfind hc hl hs => ?cancelled, fun hf hno => ?nothing⟩
  case status =>
    have hn := State.copyNamed_of_find hx hfind
    refine ⟨_, exec_cstat h ha hd, ?_⟩
    rw [hn]
    exact c.status_fields
  case unknown =>
    have hn : v.s.copyNamed v.c x = none := by
      refine Option.eq_none_iff_forall_ne_some.mpr (fun e he => ?_)
      obtain ⟨hx, hmem, hident⟩ := State.copyNamed_ident he
      exact hno.elim (fun hne => hne hx) (fun hne => hne e hmem hident)
    rw [exec_cstat h ha hd, hn]
    rfl
  case waits =>
    have m := means_ccan_answer (s := s) (a := a) (wa := wa) hid
    rw [if_pos hl] at m
    exact m.holds h
  case answered =>
    have m := means_ccan_answer (s := s) (a := a) (wa := wa) hid
    rw [if_neg (by rw [hl]; decide)] at m
    refine ⟨_, m.puts h (Warp.setSlot_intrap ..) (Warp.setSlot_due ..), rfl, Warp.setSlot_s .., Warp.setSlot_copyN .., fun f hf => ?_⟩
    have hslot : (v.withFrag (fun f => { f with arrived := none })).slot v.r.slot = some f := hf
    rw [View.withFrag, Warp.setSlot_slot, h.slot] at hslot
    rw [← Option.some.inj hslot]
  case sending =>
    refine ⟨_, c.stopping .cancelled 0 0, exec_ccan_sending h ha hf (State.copyNamed_of_find hx hfind) hc hl hs, ?_, rfl, rfl, rfl⟩
    exact (tget_tput ..).trans (if_pos rfl)
  case cancelled =>
    refine ⟨_, _, exec_ccan_cancels h ha hf (State.copyNamed_of_find hx hfind) hc hl hs, State.tget_endCopy hc hl hs .., rfl, rfl, fun y hy => ?_⟩
    rw [State.warp_modWarp] at hy
    obtain ⟨z, -, rfl⟩ := Option.map_eq_some_iff.mp hy
    exact setZNCV_getLsbD_zero ..
  case nothing =>
    refine ⟨_, (means_ccan_none ha hf (State.filter_copyNamed_eq_none hno)).ok h, rfl, rfl, ?_⟩
    rw [View.warp_put, h.warp, Option.map_some]

end Sys2Proof.Machine
end

section
/-! O33: COPY_LAND, COPY_DONE and COPY_FAIL (12 R284 to R287, R292). -/

namespace Sys2Proof.Machine

/-! ## A cell that lands in scratchpad (12 R285, R286) -/

/-- 13 R299: bytes that are added to a barrier's count are written to its object, unless it is BROKEN. -/
theorem Group.spad_barAdd (g : Group) (o n : Nat) :
    (g.barAdd o n).spad = if (barOf (Memory.rd g.spad o 16)).broken then g.spad else
      Memory.wr g.spad o 16 ({ barOf (Memory.rd g.spad o 16) with pendb := ((barOf (Memory.rd g.spad o 16)).pendb + n) % 2 ^ 64 } : Bar).complete.val :=
  apply_ite Group.spad ..

/-- What counted bytes leave of a scratchpad depends on the scratchpad alone. -/
theorem Group.spad_barAdd_congr {g h : Group} (hs : g.spad = h.spad) (o n : Nat) : (g.barAdd o n).spad = (h.barAdd o n).spad := by
  rw [Group.spad_barAdd, Group.spad_barAdd, hs]

/-- 12 R285: the presence counts are no part of the scratchpad. -/
theorem Group.spad_foldl_present (g : Group) (l : List Nat) : (l.foldl Group.present g).spad = g.spad :=
  foldl_keeps Group.spad (f := Group.present) (fun _ _ => rfl) l g

/-- 12 R285: n bytes written at an offset of the group region. -/
def Group.putSpad (g : Group) (a n v : Nat) : Group := { (g.winHeal 0 .spad a n) with spad := Memory.wr g.spad a n v }

/-- 12 R285, R286: what the landing of a cell of n bytes is to the group: some lines are present, and the bytes of any cell but the last are subtracted
from the barrier. -/
def Copy.landedOn (c : Copy) (gone : List Nat) (n : Nat) (g : Group) : Group :=
  match c.bar with
  | some o => if decide (c.lay.total ≤ c.units + 1) then gone.foldl Group.present g else (gone.foldl Group.present g).barLand o n
  | none => gone.foldl Group.present g

theorem Copy.spad_landedOn (c : Copy) (gone : List Nat) (n : Nat) (g : Group) (h : c.bar = none ∨ c.lay.total ≤ c.units + 1) :
    (c.landedOn gone n g).spad = g.spad := by
  unfold Copy.landedOn
  split
  · next o ho =>
    rw [if_pos (decide_eq_true (h.resolve_left (by rw [ho]; exact Option.some_ne_none o)))]
    exact g.spad_foldl_present gone
  · exact g.spad_foldl_present gone

theorem Copy.spad_landedOn_counted (c : Copy) (gone : List Nat) (n : Nat) (g : Group) {o : Nat} (ho : c.bar = some o) (h : c.units + 1 < c.lay.total) :
    (c.landedOn gone n g).spad = (g.barLand o n).spad := by
  have hlast : ¬decide (c.lay.total ≤ c.units + 1) = true := by simpa using h
  simp only [Copy.landedOn, ho]
  rw [if_neg hlast]
  exact Group.spad_barAdd_congr (g.spad_foldl_present gone) ..

theorem Group.spad_barLand_putSpad (g : Group) (a n v o m : Nat) :
    ((g.putSpad a n v).barLand o m).spad = (({ g with spad := Memory.wr g.spad a n v } : Group).barLand o m).spad :=
  Group.spad_barAdd_congr (g := g.putSpad a n v) (h := { g with spad := Memory.wr g.spad a n v }) rfl ..

section
variable {s : State} {id : Nat} {c : Copy} {x : Group}

theorem State.copyRuns_running (h : s.copyRuns c = true) : c.st = .running := by
  simp only [State.copyRuns, Bool.and_eq_true, decide_eq_true_eq] at h
  obtain ⟨⟨⟨⟨hst, -⟩, -⟩, -⟩, -⟩ := h
  exact hst

/-- 12 R285, R286: a cell of n bytes has landed: it is counted, in the barrier too unless it is the last. -/
theorem State.landed_spec (hx : s.group c.g = some x) (n : Nat) :
    ∃ x' c', (s.landed id c n).group c.g = some x' ∧ tget (s.landed id c n).copies id = some c' ∧
      ((c.bar = none ∨ c.lay.total ≤ c.units + 1 → x'.spad = x.spad) ∧
        ∀ o, c.bar = some o → c.units + 1 < c.lay.total → x'.spad = (x.barLand o n).spad) ∧
      c'.units = c.units + 1 ∧ c'.landed = c.landed + n ∧ c'.st = c.st ∧ (s.landed id c n).mem = s.mem := by
  unfold State.landed
  dsimp only
  generalize List.filter (fun l => !_) c.lines = gone
  split
  · next hstays =>
    obtain ⟨-, hstays⟩ := hstays
    refine ⟨x, _, hx, (tget_tput ..).trans (if_pos rfl), ⟨fun _ => rfl, fun o ho hlt => ?_⟩, rfl, rfl, rfl, rfl⟩
    rw [ho] at hstays
    simp only [Option.isNone_some, Bool.false_eq_true, false_or, decide_eq_true_eq] at hstays
    omega
  · have hgroup : (s.modGroup c.g (c.landedOn gone n)).group c.g = some (c.landedOn gone n x) := by rw [State.group_modGroup, if_pos rfl, hx, Option.map_some]
    exact ⟨_, _, hgroup, (tget_tput ..).trans (if_pos rfl), ⟨c.spad_landedOn gone n x, fun _ => c.spad_landedOn_counted gone n x⟩, rfl, rfl, rfl, rfl⟩

/-- 12 R285: what the caches of the source's homes hold has no part in what a copy leaves. -/
theorem State.recached_reads (s : State) (ps : List (Nat × Nat)) : s.Recached (ps.foldl (fun (t : State) (pa, k) => t.l2Access pa k false) s) :=
  s.recached_foldl (fun t _ => t.recached_l2Access ..) ps

/-- 12 R287: the state in which the next cell of a CPY has been written to scratchpad. -/
def State.cellPut (s : State) (c : Copy) (ps : List (Nat × Nat)) (z : Nat) : State :=
  (ps.foldl (fun (t : State) (pa, k) => t.l2Access pa k false) s).modGroup c.g
    (fun g => g.putSpad ((endOf c.p1.toNat).addr + (c.lay.place c.units).1) (c.lay.place c.units).2 z)

theorem State.cellPut_mem (s : State) (c : Copy) (ps : List (Nat × Nat)) (z : Nat) : (s.cellPut c ps z).mem = s.mem := (s.recached_reads ps).mem_eq

theorem State.cellPut_group (hx : s.group c.g = some x) (ps : List (Nat × Nat)) (z : Nat) :
    (s.cellPut c ps z).group c.g = some (x.putSpad ((endOf c.p1.toNat).addr + (c.lay.place c.units).1) (c.lay.place c.units).2 z) := by
  rw [State.cellPut, State.group_modGroup, if_pos rfl, State.group, (s.recached_reads ps).groups_eq, ← State.group, hx, Option.map_some]

/-- 12 R287: the next cell of a CPY into scratchpad is written there. -/
theorem State.landCell_spad {z : Nat} {ps : List (Nat × Nat)} (hk : c.kind = .cpy) (hsp : (endOf c.p1.toNat).spad = true) (hh : c.lay.half = false)
    (hv : (s.cellVal c c.units).run [] = .ok (z, ps)) : s.landCell id c = .ok ((s.cellPut c ps z).landed id c (c.lay.place c.units).2) := by
  have hdst : c.dst = endOf c.p1.toNat := by rw [Copy.dst, if_neg (by rw [hk]; decide)]
  have hhalf : c.lay.halfCell c.units = false := by rw [Layout.halfCell, hh, Bool.false_and]
  simp only [State.landCell, hv, hhalf]
  show (State.endWr _ id c _ _ z false >>= _) = _
  simp only [State.endWr, hk, hdst, hsp, if_true]
  rfl

/-- 12 R285, R286: COPY_LAND of one cell lands that cell. -/
theorem exec_copyLand_one {t : State} (hc : tget s.copies id = some c) (hr : s.copyRuns c = true) (hu : c.units < c.lay.total)
    (hl : s.landCell id c = .ok t) : exec (.copyLand id 1) s = .next t := by
  show Host.Outcome.next (s.landCells id 1) = _
  simp only [State.landCells, hc, hr, hu, hl, and_self, if_true]

/-! ## The ends of a copy (12 R284, R292) -/

/-- 12 R284: a copy whose cells have all landed, none of its bytes at another node, is DONE. -/
theorem exec_copyDone (hc : tget s.copies id = some c) (hr : s.copyRuns c = true) (hu : c.lay.total ≤ c.units) (hs : s.copySends id = false)
    (hk : c.kind ≠ .cpyx) : exec (.copyDone id) s = .next (s.endCopy id .done 0 0) := by
  have hover : s.copyOver id c = true := by simp [State.copyOver, hr, hu, hs]
  have hflag : s.sendFlag c = .ok s := by simp [State.sendFlag, hk]
  show execCopyDone id s = _
  simp only [execCopyDone, hc, hover, if_true, hflag]

/-- 12 R292: a copy whose next cell meets a fatal cause is FAILED. -/
theorem exec_copyFail {k a : Nat} (hc : tget s.copies id = some c) (hr : s.copyRuns c = true) (hu : c.units < c.lay.total)
    (hf : s.landCell id c = .error (.fail k a)) : exec (.copyFail id) s = .next (((s.loseCells c).endCopy id .failed k a).flush (cfin c.ctx)) := by
  show execCopyFail id s = _
  simp only [execCopyFail, hc, hr, hu, hf, Bool.not_true, Bool.false_eq_true, if_false, if_true]

theorem State.loseCells_copies (s : State) (c : Copy) : (s.loseCells c).copies = s.copies := by
  unfold State.loseCells; split <;> rfl

theorem State.loseCells_remotes (s : State) (c : Copy) : (s.loseCells c).remotes = s.remotes := by
  unfold State.loseCells; split <;> rfl

end

/-- Settles O33: a landing writes its cell and counts it; COPY_DONE and COPY_FAIL are the ends of the copy that `endCopy` gives. -/
theorem copyEvents : Obligations.CopyEvents := by
  intro s id c x hc hx hr
  have hrun := State.copyRuns_running hr
  refine ⟨fun z ps hu hk hsp hh hv => ?land, fun y hu hs hk hy => ?done, fun k a hu hs hf => ?fail⟩
  case land =>
    obtain ⟨x', c', hx', hc', ⟨hstays, hcounts⟩, hunits, hlanded, hst, hmem⟩ :=
      State.landed_spec (id := id) (State.cellPut_group hx ps z) (c.lay.place c.units).2
    exact ⟨_, x', c', exec_copyLand_one hc hr hu (State.landCell_spad hk hsp hh hv), hx', hc',
      ⟨hstays, fun o ho hlt => (hcounts o ho hlt).trans (x.spad_barLand_putSpad ..)⟩, hunits, hlanded, hst.trans hrun, hmem.trans (s.cellPut_mem ..)⟩
  case done =>
    obtain ⟨z, hz, _, _, _, rfl⟩ := State.warp_endCopy hc (.inl hrun) hs .done 0 0 hy
    obtain ⟨-, hmem, -⟩ := State.endCopy_parts hc (.inl hrun) hs .done 0 0
    exact ⟨_, _, _, exec_copyDone hc hr hu hs hk, State.tget_endCopy hc (.inl hrun) hs .., rfl, rfl, hz, rfl, rfl, hmem⟩
  case fail =>
    rw [← s.loseCells_copies c] at hc
    have hsends : (s.loseCells c).copySends id = false := by rw [State.copySends, s.loseCells_remotes c]; exact hs
    exact ⟨exec_copyFail (by rw [← s.loseCells_copies c]; exact hc) hr hu hf, _, State.tget_endCopy hc (.inl hrun) hsends .., rfl, rfl, rfl⟩

end Sys2Proof.Machine
end

section
/-! What the synchronising instructions share (13 R298 to R311): a number out of bounds stops an instruction whose word is one (04 R92). What the word
comes to is seen with every register EMPTY, so a scalar register among its sources stops it. -/

namespace Sys2Proof.Machine

/-! ## Words that are instructions (04 R92) -/

/-- 04 R92: the answer is no trap of a word that is not an instruction. -/
def WellWorded {α : Type} (r : Except Stop α) : Prop := ∀ t, r = .error t → t.malformed = false

theorem WellWorded.of_error {α : Type} {t : Stop} (h : t.malformed = false) : WellWorded (.error t : Except Stop α) := by
  intro u hu
  cases hu
  exact h

/-- An instruction that finds a number out of bounds traps for that when its word is one. -/
theorem exec_outOfBounds {s : State} {v : View} {i : Instr} {k : View → Except Stop State} {n : Nat} (h : Issues s v) (hi : exec i s = issue s k)
    (hk : k v = .error (v.trap cIDXBOUND n)) (hb : WellWorded (k v.blank)) : exec i s = v.trapped cIDXBOUND n v.f.mask := by
  rw [hi, issue_eq h, View.ordered_idx hk hb]
  rfl

/-- 03 R63: the sources looked at so far leave the view as it is, and none has met a trap of a malformed word. -/
def Ready.Sound (v : View) (r : Ready) : Prop := r.v = v ∧ ∀ t, r.trap = some t → t.malformed = false

/-- 03 R63: a source stops the instruction. -/
def Ready.Stuck (r : Ready) : Prop := r.trap.isSome = true ∨ r.block = true

section
variable {v : View} {r : Ready} {d : Rd}

theorem Ready.Sound.trapped (h : r.Sound v) {code n : Nat} (hc : (v.trap code n).malformed = false) :
    Ready.Sound v { r with trap := r.trap <|> some (r.v.trap code n) } := by
  obtain ⟨hv, ht⟩ := h
  refine ⟨hv, fun t hr => ?_⟩
  cases htrap : r.trap with
  | some u => rw [htrap] at hr; exact ht t (by rw [htrap]; exact hr)
  | none => rw [htrap, hv] at hr; cases hr; exact hc

theorem Ready.stuck_trapped (t : Stop) : Ready.Stuck { r with trap := r.trap <|> some t } := by
  unfold Ready.Stuck
  cases r.trap <;> simp

theorem Orphan.malformed_trap (v : View) (o : Orphan) (n : Nat) : (v.trap o.code n).malformed = false := by cases o <;> rfl

/-- 03 R63: where no register is mapped onto a word queue, a source comes to what its registers hold. -/
theorem Ready.look_sound (h : r.Sound v) (hm : ∀ i, v.y.mapped i = none) (d : Rd) :
    (r.look d).Sound v ∧ (r.Stuck → (r.look d).Stuck) := by
  have hm' : ∀ i, r.v.y.mapped i = none := by rw [h.1]; exact hm
  unfold Ready.look
  split
  case' h_1 i _ => rw [hm' i]
  all_goals
    refine List.foldlRecOn (motive := fun q => Ready.Sound v q ∧ (r.Stuck → q.Stuck)) _ _ ⟨h, id⟩ (fun q hq f _ => ?_)
    obtain ⟨hsound, hstuck⟩ := hq
    cases f with
    | full => exact ⟨hsound, hstuck⟩
    | orphaned o => exact ⟨hsound.trapped (o.malformed_trap ..), fun _ => Ready.stuck_trapped _⟩
    | empty =>
      dsimp only
      split
      · exact ⟨hsound.trapped rfl, fun _ => Ready.stuck_trapped _⟩
      · exact ⟨hsound, fun _ => .inr rfl⟩

/-- 03 R63: an EMPTY scalar register stops the instruction. -/
theorem Ready.look_empty {i : Fin 32} (hd : d.loc = .sca i) (hm : r.v.y.mapped i = none) (hf : r.v.y.s[i].fill = .empty) : (r.look d).Stuck := by
  simp only [Ready.look, hd, hm, Warp.fills, hf, List.foldl_cons, List.foldl_nil]
  split
  · exact Ready.stuck_trapped _
  · exact .inr rfl

theorem View.blank_mapped (v : View) (i : Fin 32) : v.blank.y.mapped i = none := by
  unfold Warp.mapped
  split
  · simp [View.blank]
  · rfl

theorem View.blank_fill (v : View) (i : Fin 32) : v.blank.y.s[i].fill = .empty := by simp [View.blank]

/-- The sources looked at while every register is EMPTY. -/
theorem View.blank_looks (v : View) (l : List Rd) {r : Ready} (h : r.Sound v.blank) :
    (l.foldl Ready.look r).Sound v.blank ∧ ((r.Stuck ∨ ∃ d ∈ l, ∃ i, d.loc = .sca i) → (l.foldl Ready.look r).Stuck) := by
  induction l generalizing r with
  | nil => exact ⟨h, fun hr => hr.elim id (fun ⟨_, hd, _⟩ => nomatch hd)⟩
  | cons d l ih =>
    obtain ⟨hsound, hstuck⟩ := Ready.look_sound h v.blank_mapped d
    obtain ⟨hs, hl⟩ := ih hsound
    refine ⟨hs, fun hr => hl ?_⟩
    rcases hr with hr | ⟨e, he, i, hi⟩
    · exact .inl (hstuck hr)
    · rcases List.mem_cons.mp he with rfl | he
      · obtain ⟨hv, -⟩ := h
        exact .inl (Ready.look_empty hi (by rw [hv]; exact v.blank_mapped i) (by rw [hv]; exact v.blank_fill i))
      · exact .inr ⟨e, he, i, hi⟩

theorem View.blank_sources (v : View) (l : List Rd) :
    (v.blank.sources l = .ok v.blank ∧ ∀ d ∈ l, ∀ i, d.loc ≠ .sca i) ∨ ∃ t, v.blank.sources l = .error t ∧ t.malformed = false := by
  obtain ⟨⟨hv, ht⟩, hstuck⟩ := v.blank_looks l
    (r := { v := v.blank, trap := none, block := false, waits := v.blank.base, seen := [] }) ⟨rfl, fun _ h => nomatch h⟩
  unfold View.sources
  generalize l.foldl Ready.look _ = q at hv ht hstuck
  cases htrap : q.trap with
  | some t => exact .inr ⟨t, by simp only [htrap], ht t htrap⟩
  | none =>
    cases hb : q.block with
    | true => exact .inr ⟨.wait q.waits true, by simp only [htrap, hb, if_true], rfl⟩
    | false =>
      refine .inl ⟨by simp only [htrap, hb, Bool.false_eq_true, if_false, hv], fun d hd i hi => ?_⟩
      have := hstuck (.inr ⟨d, hd, i, hi⟩)
      simp [Ready.Stuck, htrap, hb] at this

/-- 04 R92: no check that reads a register is reached in a word with a scalar register among its sources. -/
theorem View.blank_sources_stop {α : Type} (v : View) {l : List Rd} {d : Rd} {i : Fin 32} (hd : d ∈ l) (hi : d.loc = .sca i)
    (k : View → Except Stop α) : WellWorded (v.blank.sources l >>= k) := by
  rcases v.blank_sources l with ⟨-, hno⟩ | ⟨t, ht, hmal⟩
  · exact absurd hi (hno d hd i)
  · rw [ht]
    exact .of_error hmal

theorem View.blank_rd {k : Kinds} {wide : Bool} {o : Opnd} {l : Loc} (h : v.resolve k wide o = .ok l) (wt : Bool) :
    ∃ r, v.blank.rd k wide o wt = .ok r := by
  obtain ⟨l', hl'⟩ := View.blank_resolve h
  exact ⟨_, by rw [View.rd, hl', Stop.ok_bind]⟩

/-- A destination field names a register whatever the index registers hold (04 R92). -/
theorem View.blank_resolveDst {k : Kinds} {wide : Bool} {o : Opnd} {l : Loc} (h : v.resolveDst k wide o = .ok l) :
    ∃ l', v.blank.resolveDst k wide o = .ok l' := by
  unfold View.resolveDst at h ⊢
  cases hr : v.resolve { k with one := false, mone := false, lane := false } wide o with
  | error t => rw [hr] at h; cases h
  | ok l0 =>
    obtain ⟨l', hl'⟩ := View.blank_resolve hr
    rw [hl', Stop.ok_bind]
    cases l' with
    | sca i => exact ⟨_, by simp only [v.blank_mapped, Option.isSome_none, Bool.false_eq_true, if_false]; rfl⟩
    | _ => exact ⟨_, rfl⟩

end

end Sys2Proof.Machine
end

section
/-! O37: RDTIM and RDCYC (13 R310, R311). -/

namespace Sys2Proof.Machine

section
variable {s : State} {v : View} {d : Opnd} {ld : Loc}

theorem means_rdtim (hd : v.Dst kSZ false d ld) : Means s v (.rdtim d) (.ok (v.put (v.y.setScalar ld v.s.life.timer))) :=
  ⟨_, rfl, by simp only [hd.names, hd.ready, Stop.ok_bind]⟩

theorem means_rdcyc (hd : v.Dst kSZ false d ld) :
    Means s v (.rdcyc d) (.ok (v.put (v.y.setScalar ld (BitVec.ofNat 64 (v.s.life.cyc[Fin.ofNat 4 (coreDie v.core)] / 10))))) :=
  ⟨_, rfl, by simp only [hd.names, hd.ready, Stop.ok_bind]⟩

end

/-- Settles O37: both write their destination alone. -/
theorem clockResults : Obligations.ClockResults := fun _ _ _ _ h hd =>
  ⟨(means_rdtim hd).puts h (Warp.setScalar_intrap ..) (Warp.setScalar_due ..),
    (means_rdcyc hd).puts h (Warp.setScalar_intrap ..) (Warp.setScalar_due ..)⟩

end Sys2Proof.Machine
end

section
/-! O34: BINIT, BEXP, BARR, BWAIT and BTEST (13 R298 to R302). -/

namespace Sys2Proof.Machine

/-! ## Writes of an object (13 R299, R300) -/

/-- 13 R300: a fragment that waits on the object learns of its new value. -/
theorem Frag.tell_waiting {o t : Nat} {f : Frag} (hf : f.arrived = some (.bwait o t)) (b : Bar) :
    Frag.tell o b f =
      { f with arrived := some (if b.broken then .bwaitBroken o else if (if b.phase then 1 else 0) ≠ t then .bwaitOver else .bwait o t) } := by
  simp only [Frag.tell, hf, if_true]
  by_cases hb : b.broken = true
  · rw [if_pos hb, if_pos hb]
  · rw [if_neg hb, if_neg hb]
    have hphase : (if b.phase then 1 else 0) = b2n b.phase := rfl
    rw [hphase]
    by_cases ht : b2n b.phase ≠ t
    · rw [if_pos ht, if_pos ht]
    · rw [if_neg ht, if_neg ht, ← hf]

theorem Frag.tell_other {o : Nat} {f : Frag} (hf : ∀ t, f.arrived ≠ some (.bwait o t)) (b : Bar) : Frag.tell o b f = f := by
  unfold Frag.tell
  split
  · next p t hp =>
    have hpo : p ≠ o := by rintro rfl; exact hf t hp
    exact if_neg hpo
  · rfl

theorem Bar.complete_eq (b : Bar) : b.complete = phaseOver b := by
  simp [Bar.complete, phaseOver, and_assoc]

/-- 13 R299: what BEXP does to the object, in the words of R299. -/
theorem Group.barAdd_eq (o n : Nat) : (fun g : Group => g.barAdd o n) =
    fun g => if (g.bar o).broken then g else g.setBar o (phaseOver { g.bar o with pendb := ((g.bar o).pendb + n) % 2 ^ 64 }) := by
  funext g
  simp only [Group.barAdd, Bar.complete_eq]

section
variable {s : State} {v : View} {a b d : Opnd} {la lb ld : Loc} {wa wb : Bool} {o n : Nat} {i : Instr}

/-! ## The object that an instruction names (13 R301) -/

/-- 13 R301: the checks of the offset of a barrier object. -/
def View.objAt (v : View) (p : Nat) : Except Stop Nat :=
  if p % 16 ≠ 0 then .error (v.trap cALIGN p) else if v.x.sched.spad < p + 16 then .error (v.trap cIDXBOUND) else .ok p

theorem View.objAt_misaligned {p : Nat} (h : p % 16 ≠ 0) : v.objAt p = .error (v.trap cALIGN p) := if_pos h

theorem View.objAt_outside {p : Nat} (h : p % 16 = 0) (ho : v.x.sched.spad < p + 16) : v.objAt p = .error (v.trap cIDXBOUND) :=
  (if_neg (Classical.not_not.mpr h)).trans (if_pos ho)

theorem View.objAt_inside {p : Nat} (h : p % 16 = 0) (hi : p + 16 ≤ v.x.sched.spad) : v.objAt p = .ok p :=
  (if_neg (Classical.not_not.mpr h)).trans (if_neg (Nat.not_lt.mpr hi))

/-- A barrier operand that names no scalar register is zero. -/
theorem View.resolve_kSxZ {l : Loc} (h : v.resolve kSxZ false a = .ok l) : (∃ i, l = .sca i) ∨ (a = .zero ∧ l = .zero) := by
  cases a with
  | s i => exact .inl ⟨i, (Except.ok.inj h).symm⟩
  | zero => exact .inr ⟨rfl, (Except.ok.inj h).symm⟩
  | sx2 =>
    simp only [View.resolve, kSxZ, if_true] at h
    split at h
    · exact .inl ⟨_, (Except.ok.inj h).symm⟩
    · cases h
  | _ => cases h

/-- 04 R92: where the object is out of bounds, the word of the instruction is one: its operand is a register, which is not read, or names
offset 0. -/
theorem View.blank_barAt (ha : v.Src kSxZ false a la) (ho : v.x.sched.spad < (v.y.scalarVal la).toNat + 16) (wa : Bool) :
    ∃ ra, v.blank.rd kSxZ false a wa = .ok ra ∧ ∀ (l : List Rd) (k : View → Nat → Except Stop State),
      WellWorded (v.blank.sources (ra :: l) >>= fun u => u.barAt ra >>= k u) := by
  obtain ⟨la', hla⟩ := View.blank_resolve ha.names
  refine ⟨{ loc := la', wait := wa, code := a.toCode.toNat }, by simp only [View.rd, hla, Stop.ok_bind], fun l k => ?_⟩
  rcases View.resolve_kSxZ hla with ⟨i, rfl⟩ | ⟨rfl, rfl⟩
  · exact v.blank_sources_stop List.mem_cons_self rfl _
  · obtain rfl : Loc.zero = la := Except.ok.inj ha.names
    have hout : v.blank.objAt 0 = .error (v.blank.trap cIDXBOUND) := View.objAt_outside (Nat.zero_mod 16) ho
    rcases v.blank_sources ({ loc := .zero, wait := wa, code := Opnd.zero.toCode.toNat } :: l) with ⟨hs, -⟩ | ⟨t, ht, hmal⟩
    · rw [hs]
      show WellWorded (v.blank.objAt 0 >>= k v.blank)
      rw [hout]
      exact .of_error rfl
    · rw [ht]
      exact .of_error hmal

/-- 13 R301: the instruction goes on with the object that its operand `a` names, and its word is one where that object is out of bounds. -/
def OnObject (s : State) (v : View) (i : Instr) (la : Loc) (go : Nat → Except Stop State) : Prop :=
  ∃ k, exec i s = issue s k ∧ k v = (v.objAt (v.y.scalarVal la).toNat >>= go) ∧
    (v.x.sched.spad < (v.y.scalarVal la).toNat + 16 → WellWorded (k v.blank))

/-- 13 R301: an instruction whose object is misaligned or outside the region traps. -/
theorem OnObject.stops {go : Nat → Except Stop State} {out : Host.Outcome State Fault Refusal} (m : OnObject s v i la go)
    (h : Issues s v) (hout : ((v.y.scalarVal la).toNat % 16 ≠ 0 ∧ out = v.trapped cALIGN (v.y.scalarVal la).toNat v.f.mask) ∨
      ((v.y.scalarVal la).toNat % 16 = 0 ∧ v.x.sched.spad < (v.y.scalarVal la).toNat + 16 ∧ out = v.trapped cIDXBOUND 0 v.f.mask)) :
    exec i s = out := by
  obtain ⟨k, hi, hk, hb⟩ := m
  rcases hout with ⟨hmis, rfl⟩ | ⟨hal, hfar, rfl⟩
  · rw [View.objAt_misaligned hmis] at hk
    rw [hi]
    exact issue_trapped h hk (by decide)
  · rw [View.objAt_outside hal hfar] at hk
    exact exec_outOfBounds h hi hk (hb hfar)

/-- 13 R301: an instruction whose object is in order goes on with it. -/
theorem OnObject.means {go : Nat → Except Stop State} (m : OnObject s v i la go) (h : BarAt s v a la o) : Means s v i (go o) := by
  obtain ⟨k, hi, hk, -⟩ := m
  obtain ⟨-, -, rfl, hal, hin⟩ := h
  rw [View.objAt_inside hal hin] at hk
  exact ⟨k, hi, hk⟩

/-! ## The instructions (13 R302) -/

/-- BINIT on the object at `o`. -/
def View.initBar (v : View) (n o : Nat) : Except Stop State :=
  if n = 0 ∨ 65535 < n then .error (v.trap cBADCOUNT)
  else .ok (v.regroup v.y (fun g => g.setBar o { pendb := 0, phase := false, broken := false, expect := n, penda := n }))

/-- BARR on the object at `o`. -/
def View.arriveBar (v : View) (ld : Loc) (o : Nat) : Except Stop State :=
  if (v.grp.bar o).broken then .error (v.trap cBBROKEN o)
  else if (v.grp.bar o).penda = 0 then .error (v.trap cBADCOUNT)
  else if v.s.releaseWaits v.r.g v.r.w (BitVec.allOnes 32) then .error v.hold
  else .ok (v.regroup (v.y.setScalar ld (BitVec.ofNat 64 (b2n (v.grp.bar o).phase))) (fun g =>
    g.setBar o ({ v.grp.bar o with penda := (v.grp.bar o).penda - 1 } : Bar).complete))

/-- BWAIT on the object at `o` with token `t`, before it waits. -/
def View.waitBar (v : View) (t o : Nat) : Except Stop State :=
  if (v.grp.bar o).broken then .error (v.trap cBBROKEN o)
  else if b2n (v.grp.bar o).phase = t then .error (v.stay (.bwait o t)) else .ok (v.put v.y)

/-- What BTEST tells of an object for a token. -/
def Bar.test (b : Bar) (t : Nat) : Nat := if b.broken then 2 else if b2n b.phase ≠ t then 1 else 0

/-- BTEST on the object at `o` with token `t`. -/
def View.testBar (v : View) (ld : Loc) (t o : Nat) : Except Stop State :=
  .ok (v.put { (v.y.setScalar ld (BitVec.ofNat 64 ((v.grp.bar o).test t))) with flags := setZ v.y.flags (decide ((v.grp.bar o).test t = 0)) })

theorem onObject_binit (ha : v.Src kSxZ false a la) (hb : v.Src kS1 false b lb) :
    OnObject s v (.binit a b wa wb) la (v.initBar (v.y.scalarVal lb).toNat) := by
  refine ⟨_, rfl, ?_, fun ho => ?_⟩
  · simp only [ha.rd, hb.rd, View.sources_two ha.full ha.plain hb.full hb.plain, Stop.ok_bind]
    rfl
  · obtain ⟨ra, hra, hw⟩ := View.blank_barAt ha ho wa
    obtain ⟨rb, hrb⟩ := View.blank_rd hb.names wb
    simp only [hra, hrb, Stop.ok_bind]
    exact hw _ _

theorem onObject_bexp (ha : v.Src kSxZ false a la) (hb : v.Src kSC false b lb) :
    OnObject s v (.bexp a b wa wb) la (fun o => .ok (v.regroup v.y (fun g => g.barAdd o (v.y.scalarVal lb).toNat))) := by
  refine ⟨_, rfl, ?_, fun ho => ?_⟩
  · simp only [ha.rd, hb.rd, View.sources_two ha.full ha.plain hb.full hb.plain, Stop.ok_bind]
    rfl
  · obtain ⟨ra, hra, hw⟩ := View.blank_barAt ha ho wa
    obtain ⟨rb, hrb⟩ := View.blank_rd hb.names wb
    simp only [hra, hrb, Stop.ok_bind]
    exact hw _ _

theorem onObject_barr (ha : v.Src kSxZ false a la) (hd : v.Dst kSZ false d ld) : OnObject s v (.barr d a wa) la (v.arriveBar ld) := by
  refine ⟨_, rfl, ?_, fun ho => ?_⟩
  · simp only [hd.names, ha.rd, View.sources_one ha.full ha.plain, hd.ready, Stop.ok_bind]
    rfl
  · obtain ⟨ra, hra, hw⟩ := View.blank_barAt ha ho wa
    obtain ⟨l, hl⟩ := View.blank_resolveDst hd.names
    simp only [hl, hra, Stop.ok_bind]
    exact hw _ _

theorem onObject_bwait (ha : v.Src kSxZ false a la) (hb : v.Src kSZ1 false b lb) (hf : v.f.arrived = none) :
    OnObject s v (.bwait a b wa wb) la (v.waitBar ((v.y.scalarVal lb).toNat % 2)) := by
  refine ⟨_, rfl, ?_, fun ho => ?_⟩
  · simp only [hf, View.bwait, ha.rd, hb.rd, View.sources_two ha.full ha.plain hb.full hb.plain, Stop.ok_bind]
    rfl
  · obtain ⟨ra, hra, hw⟩ := View.blank_barAt ha ho wa
    obtain ⟨rb, hrb⟩ := View.blank_rd hb.names wb
    have hf' : v.blank.f.arrived = none := hf
    simp only [hf', View.bwait, hra, hrb, Stop.ok_bind]
    exact hw _ _

theorem onObject_btest (ha : v.Src kSxZ false a la) (hb : v.Src kSZ1 false b lb) (hd : v.Dst kSZ false d ld) :
    OnObject s v (.btest d a b wa wb) la (v.testBar ld ((v.y.scalarVal lb).toNat % 2)) := by
  refine ⟨_, rfl, ?_, fun ho => ?_⟩
  · simp only [hd.names, ha.rd, hb.rd, View.sources_two ha.full ha.plain hb.full hb.plain, hd.ready, Stop.ok_bind]
    rfl
  · obtain ⟨ra, hra, hw⟩ := View.blank_barAt ha ho wa
    obtain ⟨rb, hrb⟩ := View.blank_rd hb.names wb
    obtain ⟨l, hl⟩ := View.blank_resolveDst hd.names
    simp only [hl, hra, hrb, Stop.ok_bind]
    exact hw _ _

/-! ## A change of the group beside the warp -/

/-- 13 R300: an instruction that puts its warp back and writes an object completes: what the write tells the warp's fragments is no trap. -/
theorem Means.regroups {y : Warp} {k : Group → Group} (m : Means s v i (.ok (v.regroup y k))) (h : Issues s v) (hk : ∀ g, Group.Tells g (k g))
    (hi : y.intrap = v.y.intrap) (hd : y.due = v.y.due) : exec i s = .next (v.done (v.regroup y k)) := by
  have hy : (v.put y).warp v.r.g v.r.w = some y := by rw [View.warp_put, h.warp, Option.map_some]
  obtain ⟨z, hz, _, _, _, rfl⟩ := State.warp_modGroup_tells hk hy
  exact m.done h hz hi hd

/-! ## BWAIT that has waited (13 R300, R302) -/

/-- 13 R302: the state in which the issuing fragment stands with this arrival. -/
def View.stands (v : View) (a : Option Arrival) : State :=
  v.base.modWarp v.r.g v.r.w (fun y => y.setSlot v.r.slot ((y.slot v.r.slot).map (fun f => { f with arrived := a })))

theorem means_bwait_waiting (ha : v.Src kSxZ false a la) (hb : v.Src kSZ1 false b lb) {p t : Nat} (hf : v.f.arrived = some (.bwait p t)) :
    Means s v (.bwait a b wa wb) (.error v.park) :=
  ⟨_, rfl, by simp only [hf, ha.rd, hb.rd, Stop.ok_bind]⟩

theorem means_bwait_over (ha : v.Src kSxZ false a la) (hb : v.Src kSZ1 false b lb) (hf : v.f.arrived = some .bwaitOver) :
    Means s v (.bwait a b wa wb) (.ok (v.put v.leave)) :=
  ⟨_, rfl, by simp only [hf, ha.rd, hb.rd, View.sources_two ha.full ha.plain hb.full hb.plain, Stop.ok_bind]⟩

theorem means_bwait_broken (ha : v.Src kSxZ false a la) (hb : v.Src kSZ1 false b lb) {p : Nat} (hf : v.f.arrived = some (.bwaitBroken p)) :
    Means s v (.bwait a b wa wb) (.error (.late (v.stands none) cBBROKEN p)) :=
  ⟨_, rfl, by simp only [hf, ha.rd, hb.rd, Stop.ok_bind]; rfl⟩

/-- 19 R427: an instruction that traps at issue in a state that it has changed. -/
theorem Means.late {t : State} {code n : Nat} (m : Means s v i (.error (.late t code n))) (h : Issues s v) :
    exec i s = .next (v.trapIn t code .issue n v.f.mask) := by
  obtain ⟨k, hi, hk⟩ := m
  rw [hi, issue_eq h, View.ordered, hk]
  rfl

end

/-! ## The obligation -/

theorem b2n_eq_mod_two (p : Bool) (n : Nat) : b2n p = n % 2 ↔ p = decide (n % 2 = 1) := by
  cases p <;> simp [b2n] <;> omega

section
variable {s : State} {v : View} {a b d : Opnd} {la lb ld : Loc} {wa wb : Bool} {o : Nat}

/-- 13 R302: BINIT writes a fresh object, of a count that an object holds. -/
theorem exec_binit (h : BarAt s v a la o) (hb : v.Src kS1 false b lb) :
    let n := (v.y.scalarVal lb).toNat
    (1 ≤ n → n ≤ 65535 → exec (.binit a b wa wb) s = .next (v.done (v.regroup v.y (fun g =>
      g.setBar o { pendb := 0, phase := false, broken := false, expect := n, penda := n })))) ∧
    (n = 0 ∨ 65535 < n → exec (.binit a b wa wb) s = v.trapped cBADCOUNT 0 v.f.mask) := by
  have m : Means s v (.binit a b wa wb) _ := (onObject_binit h.src hb).means h
  unfold View.initBar at m
  refine ⟨fun hlo hhi => ?_, fun hn => ?_⟩
  · rw [if_neg (by omega)] at m
    exact m.regroups h.issues (fun g => g.tells_setBar ..) rfl rfl
  · rw [if_pos hn] at m
    exact m.traps h.issues (by decide)

theorem exec_bexp (h : BarAt s v a la o) (hb : v.Src kSC false b lb) :
    exec (.bexp a b wa wb) s = .next (v.done (v.regroup v.y (fun g => g.barAdd o (v.y.scalarVal lb).toNat))) :=
  ((onObject_bexp h.src hb).means h).regroups h.issues (fun g => g.tells_barAdd ..) rfl rfl

/-- 13 R302: BARR by the object: BROKEN, with no arrival pending, or with the warp's earlier accesses to be performed. -/
theorem exec_barr (h : BarAt s v a la o) (hd : v.Dst kSZ false d ld) :
    let q := v.grp.bar o
    (q.broken = false → q.penda ≠ 0 → v.s.releaseWaits v.r.g v.r.w (BitVec.allOnes 32) = false →
      exec (.barr d a wa) s = .next (v.done (v.regroup (v.y.setScalar ld (BitVec.ofNat 64 (b2n q.phase))) (fun g =>
        g.setBar o ({ q with penda := q.penda - 1 } : Bar).complete)))) ∧
    (q.broken = false → q.penda ≠ 0 → v.s.releaseWaits v.r.g v.r.w (BitVec.allOnes 32) = true → exec (.barr d a wa) s = v.waiting false) ∧
    (q.broken = true → exec (.barr d a wa) s = v.trapped cBBROKEN o v.f.mask) ∧
    (q.broken = false → q.penda = 0 → exec (.barr d a wa) s = v.trapped cBADCOUNT 0 v.f.mask) := by
  have m : Means s v (.barr d a wa) _ := (onObject_barr h.src hd).means h
  unfold View.arriveBar at m
  refine ⟨fun hbr hp hw => ?_, fun hbr hp hw => ?_, fun hbr => ?_, fun hbr hp => ?_⟩
  · rw [if_neg (Bool.eq_false_iff.mp hbr), if_neg hp, if_neg (Bool.eq_false_iff.mp hw)] at m
    exact m.regroups h.issues (fun g => g.tells_setBar ..) (Warp.setScalar_intrap ..) (Warp.setScalar_due ..)
  · simp only [hbr, hp, hw, Bool.false_eq_true, if_false, if_true] at m
    exact m.holds h.issues
  · rw [if_pos hbr] at m
    exact m.traps h.issues (by decide)
  · simp only [hbr, hp, Bool.false_eq_true, if_false, if_true] at m
    exact m.traps h.issues (by decide)

/-- 13 R302: BWAIT before it waits, by the object. -/
theorem exec_bwait (h : BarAt s v a la o) (hb : v.Src kSZ1 false b lb) (hf : v.f.arrived = none) :
    let q := v.grp.bar o
    let t := (v.y.scalarVal lb).toNat % 2
    (q.broken = false → b2n q.phase ≠ t → exec (.bwait a b wa wb) s = .next (v.done (v.put v.y))) ∧
    (q.broken = false → b2n q.phase = t → exec (.bwait a b wa wb) s =
      .next (((v.stands (some (.bwait o t))).setStatus v.r (.blocked true)).parkCheck v.r.g v.r.w)) ∧
    (q.broken = true → exec (.bwait a b wa wb) s = v.trapped cBBROKEN o v.f.mask) := by
  have m : Means s v (.bwait a b wa wb) _ := (onObject_bwait h.src hb hf).means h
  unfold View.waitBar at m
  refine ⟨fun hbr hp => ?_, fun hbr hp => ?_, fun hbr => ?_⟩
  · simp only [hbr, hp, Bool.false_eq_true, if_false] at m
    exact m.puts h.issues rfl rfl
  · simp only [hbr, hp, Bool.false_eq_true, if_false, if_true] at m
    exact m.waits h.issues
  · rw [if_pos hbr] at m
    exact m.traps h.issues (by decide)

theorem exec_btest (h : BarAt s v a la o) (hb : v.Src kSZ1 false b lb) (hd : v.Dst kSZ false d ld) :
    let x := (v.grp.bar o).test ((v.y.scalarVal lb).toNat % 2)
    exec (.btest d a b wa wb) s =
      .next (v.done (v.put { (v.y.setScalar ld (BitVec.ofNat 64 x)) with flags := setZ v.y.flags (decide (x = 0)) })) :=
  ((onObject_btest h.src hb hd).means h).puts h.issues (Warp.setScalar_intrap ..) (Warp.setScalar_due ..)

end

/-- Settles O34: a write of an object by what it tells; an instruction by the checks of its operand, then by its object. -/
theorem barrierResults : Obligations.BarrierResults := by
  refine ⟨fun g o b f => ⟨rfl, rfl, fun t ht => Frag.tell_waiting ht b, fun hf => Frag.tell_other hf b⟩,
    fun s v a b d la lb ld wa wb h ha out hout => ⟨fun hb => (onObject_binit ha hb).stops h hout, fun hb => (onObject_bexp ha hb).stops h hout,
      fun hd => (onObject_barr ha hd).stops h hout, fun hb => ⟨fun hf => (onObject_bwait ha hb hf).stops h hout,
        fun hd => (onObject_btest ha hb hd).stops h hout⟩⟩, ?object⟩
  intro s v a b d la o wa wb h q
  refine ⟨fun lb hb => exec_binit h hb, fun lb hb => ?bexp, fun ld hd => ?barr, fun lb hb => ?waits⟩
  case bexp =>
    rw [exec_bexp h hb, Group.barAdd_eq]
  case barr =>
    have hphase : (if q.phase then 1 else 0 : DWord) = BitVec.ofNat 64 (b2n q.phase) := by cases q.phase <;> rfl
    rw [hphase, ← Bar.complete_eq]
    exact exec_barr h hd
  case waits =>
    intro token stands
    have hbase : stands = v.stands := by
      funext x
      show _ = v.base.modWarp _ _ _
      rw [h.issues.base_eq]
    have htoken : (if token then 1 else 0) = (v.y.scalarVal lb).toNat % 2 := (b2n_eq_mod_two token _).mpr rfl
    have hphase : b2n q.phase = (v.y.scalarVal lb).toNat % 2 ↔ q.phase = token := b2n_eq_mod_two ..
    rw [hbase, htoken]
    refine ⟨fun hf => ?_, fun p t hf => (means_bwait_waiting h.src hb hf).waits h.issues,
      fun hf => (means_bwait_over h.src hb hf).puts h.issues (Warp.setSlot_intrap ..) (Warp.setSlot_due ..),
      fun p hf => (means_bwait_broken h.src hb hf).late h.issues, fun ld hd => ?_⟩
    · obtain ⟨hover, hstays, hbroken⟩ := exec_bwait h hb hf
      exact ⟨fun hbr hp => hover hbr (mt hphase.mp hp), fun hbr hp => hstays hbr (hphase.mpr hp), hbroken⟩
    · intro x
      have hx : x = q.test ((v.y.scalarVal lb).toNat % 2) := by
        simp only [x, Bar.test, ne_eq, hphase, ite_not]
      rw [hx]
      exact exec_btest h hb hd

end Sys2Proof.Machine
end

section
/-! O35: GSYNC and CSYNC (13 R304 to R306). Both are one meeting of warps, with their own counts and their own test of a count that is done. -/

namespace Sys2Proof.Machine

/-! ## Registers that an instruction leaves alone -/

theorem sameRegisters.refl (y : Warp) : sameRegisters y y := ⟨rfl, rfl, rfl, rfl, rfl, rfl, rfl, rfl⟩

theorem sameRegisters.trans {x y z : Warp} (h : sameRegisters x y) (k : sameRegisters y z) : sameRegisters x z := by
  obtain ⟨hs, hm, hn, hb, hx, hp, hf, hmode⟩ := h
  obtain ⟨ks, km, kn, kb, kx, kp, kf, kmode⟩ := k
  exact ⟨hs.trans ks, hm.trans km, hn.trans kn, hb.trans kb, hx.trans kx, hp.trans kp, hf.trans kf, hmode.trans kmode⟩

theorem sameRegisters_setSlot (y : Warp) (b : Bool) (f : Option Frag) : sameRegisters (y.setSlot b f) y :=
  ⟨Warp.setSlot_s .., Warp.setSlot_m .., Warp.setSlot_n .., Warp.setSlot_b .., Warp.setSlot_x .., Warp.setSlot_phys .., Warp.setSlot_flags ..,
    Warp.setSlot_mode ..⟩

/-! ## A fragment that waits (08 R150, R165) -/

/-- 08 R165: the fragment in a slot is BLOCKED. -/
def Warp.blockedAt (y : Warp) (b : Bool) : Warp := y.setSlot b ((y.slot b).map (fun f => { f with status := .blocked true }))

theorem Warp.blockedAt_slot {y : Warp} {b : Bool} {f : Frag} (h : y.slot b = some f) :
    (y.blockedAt b).slot b = some { f with status := .blocked true } := by
  rw [Warp.blockedAt, Warp.setSlot_slot, h, Option.map_some]

/-- 08 R150: parking changes the scheduling state of the warp and its stamp. -/
theorem State.warp_parkCheck {s : State} {g w : Nat} {y : Warp} (h : s.warp g w = some y) :
    ∃ x n, (s.parkCheck g w).warp g w = some { y with sched := x, since := n } := by
  simp only [State.parkCheck, h]
  split
  · next hp =>
    obtain ⟨hactive, -, -⟩ := hp
    exact ⟨_, _, State.warp_setSched h (by rw [hactive]; decide)⟩
  · exact ⟨y.sched, y.since, h⟩

theorem State.warp_waits {s : State} {r : Ref} {y : Warp} (h : s.warp r.g r.w = some y) :
    ∃ x n, ((s.setStatus r (.blocked true)).parkCheck r.g r.w).warp r.g r.w = some { y.blockedAt r.slot with sched := x, since := n } :=
  State.warp_parkCheck ((State.warp_modWarp ..).trans (by rw [h]; rfl))

theorem Warp.sameRegisters_blockedAt (y : Warp) (b : Bool) (x : Sched) (n : Nat) :
    sameRegisters { y.blockedAt b with sched := x, since := n } y := sameRegisters_setSlot ..

/-- 08 R165: an issuing fragment stands in its slot in the state that it issues in. -/
theorem Issues.stood {s : State} {v : View} (h : Issues s v) : ∃ z, s.warp v.r.g v.r.w = some z ∧ z.slot v.r.slot = some v.f := by
  obtain ⟨r, -, hv⟩ := Option.bind_eq_some_iff.mp h.sees
  obtain ⟨-, rfl, hx, ⟨y, hy, hf⟩, -⟩ := State.viewOf_spec hv
  exact ⟨y, by rw [State.warp, hx, Option.bind_some, hy], hf⟩

/-! ## What the settling of counts leaves (13 R304, R305) -/

theorem State.warp_settleSync {s : State} {g w h : Nat} {y : Warp} (hy : s.warp g w = some y) : (s.settleSync h).warp g w = some y := by
  obtain ⟨x, hx, hxy⟩ := Option.bind_eq_some_iff.mp hy
  obtain ⟨z, hz, _, _, _, rfl⟩ := s.swapped_settleSync h g x hx
  rw [State.warp, hz]
  exact hxy

/-! ## A meeting (13 R306) -/

/-- GSYNC, or CSYNC. -/
def meetInstr (cl : Bool) : Instr := if cl then .csync else .gsync
/-- The warp's count of arrivals. -/
def Warp.meetN (cl : Bool) (y : Warp) : Nat := if cl then y.csyncN else y.gsyncN
/-- The count is done for the group. -/
def Group.meetDone (cl : Bool) (g : Group) (k : Nat) : Bool := if cl then g.csyncDone k else g.gsyncDone k
/-- A fragment that has arrived at a count. -/
def meetMark (cl : Bool) (k : Nat) : Arrival := if cl then .csync k else .gsync k
/-- The scope at which the completion acquires. -/
def meetScope (cl : Bool) : Nat := if cl then 3 else 1
/-- One arrival more. -/
def Warp.meets (cl : Bool) (y : Warp) : Warp := if cl then { y with csyncN := y.csyncN + 1 } else { y with gsyncN := y.gsyncN + 1 }

section
variable {s t : State} {v : View} {cl : Bool} {k : Nat} {y : Warp}

/-- 13 R306: the fragment in a slot has gone on from its arrival. -/
def Warp.wentOn (y : Warp) (b : Bool) : Warp := y.setSlot b ((y.slot b).map (fun f => { f with arrived := none }))

/-- 13 R306: the issuing fragment goes on from its meeting. -/
def View.goesOn (v : View) (cl : Bool) (t : State) : State := (t.modWarp v.r.g v.r.w (·.wentOn v.r.slot)).acquire v.core (meetScope cl)

/-- 13 R304, R305: the state after the arrival of an instruction that goes on. -/
def View.metAt (v : View) (cl : Bool) : State := (v.put (v.y.meets cl)).settleSync v.r.g

/-- 13 R304, R305: the state after the arrival of a fragment that stands. -/
def View.standsMet (v : View) (cl : Bool) : State :=
  (v.base.modWarp v.r.g v.r.w (fun y => (y.meets cl).setSlot v.r.slot
    ((y.slot v.r.slot).map (fun f => { f with arrived := some (meetMark cl (v.y.meetN cl + 1)) })))).settleSync v.r.g

/-- 13 R306: a fragment that has arrived goes on when its count is done, and else waits. -/
theorem means_meet_stood (hf : v.f.arrived = some (meetMark cl k)) :
    Means s v (meetInstr cl) (if v.grp.meetDone cl k then .ok (v.goesOn cl v.s) else .error v.park) := by
  cases cl <;> exact ⟨_, rfl, by simp only [hf, meetMark, if_true, Bool.false_eq_true, if_false]; rfl⟩

/-- 13 R304, R305: a fragment that has not arrived. -/
theorem means_meet (hf : ∀ k, v.f.arrived ≠ some (meetMark cl k)) :
    Means s v (meetInstr cl) (if v.s.exchOpen v.r.g v.r.w then .error v.park
      else if v.s.releaseWaits v.r.g v.r.w v.f.mask then .error v.hold
      else if (((v.metAt cl).group v.r.g).getD v.x).meetDone cl (v.y.meetN cl + 1) then .ok (v.goesOn cl (v.metAt cl))
      else .error (.wait (v.standsMet cl) true)) := by
  cases cl <;>
  · refine ⟨_, rfl, ?_⟩
    split
    · next k hk => exact absurd hk (hf k)
    · rfl

theorem Warp.meets_regs (y : Warp) (cl : Bool) : sameRegisters (y.meets cl) y := by cases cl <;> exact .refl y
theorem Warp.meets_meetN (y : Warp) (cl : Bool) : (y.meets cl).meetN cl = y.meetN cl + 1 := by cases cl <;> rfl
theorem Warp.meets_slot (y : Warp) (cl b : Bool) : (y.meets cl).slot b = y.slot b := by cases cl <;> rfl
theorem Warp.meets_due (y : Warp) (cl : Bool) : (y.meets cl).due = y.due := by cases cl <;> rfl
theorem Warp.meets_intrap (y : Warp) (cl : Bool) : (y.meets cl).intrap = y.intrap := by cases cl <;> rfl
theorem Warp.meetN_setSlot (y : Warp) (cl b : Bool) (f : Option Frag) : (y.setSlot b f).meetN cl = y.meetN cl := by cases cl <;> cases b <;> rfl

theorem View.warp_goesOn (h : t.warp v.r.g v.r.w = some y) : (v.goesOn cl t).warp v.r.g v.r.w = some (y.wentOn v.r.slot) := by
  rw [View.goesOn, State.warp_congr (State.recached_acquire ..).groups_eq, State.warp_modWarp, h, Option.map_some]

theorem View.warp_metAt (h : Issues s v) : (v.metAt cl).warp v.r.g v.r.w = some (v.y.meets cl) :=
  State.warp_settleSync (by rw [View.warp_put, h.warp, Option.map_some])

/-- 13 R306: the issuing fragment has gone on past its meeting, in a warp that has arrived `k` times. -/
def View.Went (v : View) (cl : Bool) (k : Nat) (t : State) : Prop :=
  ∃ f y, v.y.slot v.r.slot = some f ∧ t.warp v.r.g v.r.w = some y ∧ sameRegisters y v.y ∧ y.meetN cl = k ∧
    y.slot v.r.slot = some { f with arrived := none } ∧ y.due = v.y.due ∧ y.intrap = v.y.intrap

/-- 13 R306: what a fragment that goes on leaves of a warp which differs from the view's in its count of arrivals alone. -/
theorem View.went_goesOn (h : Issues s v) (hy : t.warp v.r.g v.r.w = some y) (hregs : sameRegisters y v.y) (hslot : y.slot v.r.slot = v.y.slot v.r.slot)
    (hdue : y.due = v.y.due) (hintrap : y.intrap = v.y.intrap) : v.Went cl (y.meetN cl) (v.goesOn cl t) := by
  refine ⟨_, _, h.slot, View.warp_goesOn hy, (sameRegisters_setSlot ..).trans hregs, Warp.meetN_setSlot .., ?_, (Warp.setSlot_due ..).trans hdue,
    (Warp.setSlot_intrap ..).trans hintrap⟩
  rw [Warp.wentOn, Warp.setSlot_slot, hslot, h.slot, Option.map_some]

/-- 13 R306: the issuing fragment stands arrived, in a warp that has arrived once more. -/
def View.Stood (v : View) (cl : Bool) (s t : State) : Prop :=
  ∃ y z f, t.warp v.r.g v.r.w = some y ∧ s.warp v.r.g v.r.w = some z ∧ y.meetN cl = z.meetN cl + 1 ∧ sameRegisters y z ∧
    y.slot v.r.slot = some f ∧ f.arrived = some (meetMark cl (v.y.meetN cl + 1)) ∧ f.pc = v.f.pc

theorem View.stood_standsMet (h : Issues s v) :
    v.Stood cl s (((v.standsMet cl).setStatus v.r (.blocked true)).parkCheck v.r.g v.r.w) := by
  obtain ⟨z, hz, hf⟩ := h.stood
  have hw : (v.standsMet cl).warp v.r.g v.r.w =
      some ((z.meets cl).setSlot v.r.slot (some { v.f with arrived := some (meetMark cl (v.y.meetN cl + 1)) })) :=
    State.warp_settleSync (by rw [h.base_eq, State.warp_modWarp, hz, Option.map_some, hf, Option.map_some])
  obtain ⟨x, n, hy⟩ := State.warp_waits hw
  refine ⟨_, z, _, hy, hz, ?_, ?_, Warp.blockedAt_slot (Warp.setSlot_slot ..), rfl, rfl⟩
  · exact ((Warp.meetN_setSlot ..).trans (Warp.meetN_setSlot ..)).trans (z.meets_meetN cl)
  · exact ((Warp.sameRegisters_blockedAt ..).trans (sameRegisters_setSlot ..)).trans (z.meets_regs cl)

/-- 13 R306: an arrived fragment goes on when its count is done. -/
theorem exec_meet_stood_done (h : Issues s v) (hf : v.f.arrived = some (meetMark cl k)) (hdone : v.grp.meetDone cl k = true) :
    exec (meetInstr cl) s = .next (v.done (v.goesOn cl v.s)) ∧ v.Went cl (v.y.meetN cl) (v.goesOn cl v.s) := by
  have m : Means s v (meetInstr cl) _ := means_meet_stood hf
  rw [if_pos hdone] at m
  exact ⟨m.done h (View.warp_goesOn h.warp) (Warp.setSlot_intrap ..) (Warp.setSlot_due ..), View.went_goesOn h h.warp (.refl _) rfl rfl rfl⟩

theorem exec_meet_stood_waits (h : Issues s v) (hf : v.f.arrived = some (meetMark cl k)) (hdone : v.grp.meetDone cl k = false) :
    exec (meetInstr cl) s = v.waiting true := by
  have m : Means s v (meetInstr cl) _ := means_meet_stood hf
  rw [if_neg (Bool.eq_false_iff.mp hdone)] at m
  exact m.waits h

section
variable (h : Issues s v) (hf : ∀ k, v.f.arrived ≠ some (meetMark cl k))
include h hf

/-- 13 R304: the arrival waits while exchange stores of the warp are in flight. -/
theorem exec_meet_exchanges (he : v.s.exchOpen v.r.g v.r.w = true) : exec (meetInstr cl) s = v.waiting true := by
  have m : Means s v (meetInstr cl) _ := means_meet hf
  rw [if_pos he] at m
  exact m.waits h

variable (he : v.s.exchOpen v.r.g v.r.w = false)
include he

/-- 13 R304: the arrival waits while accesses of the fragment are in flight. -/
theorem exec_meet_accesses (hr : v.s.releaseWaits v.r.g v.r.w v.f.mask = true) : exec (meetInstr cl) s = v.waiting false := by
  have m : Means s v (meetInstr cl) _ := means_meet hf
  rw [if_neg (Bool.eq_false_iff.mp he), if_pos hr] at m
  exact m.holds h

variable (hr : v.s.releaseWaits v.r.g v.r.w v.f.mask = false)
include hr

/-- 13 R304, R305: the last arrival of a count goes on. -/
theorem exec_meet_last (hdone : (((v.metAt cl).group v.r.g).getD v.x).meetDone cl (v.y.meetN cl + 1) = true) :
    exec (meetInstr cl) s = .next (v.finish (.ok (v.goesOn cl (v.metAt cl)))) ∧ v.Went cl (v.y.meetN cl + 1) (v.goesOn cl (v.metAt cl)) := by
  have m : Means s v (meetInstr cl) _ := means_meet hf
  rw [if_neg (Bool.eq_false_iff.mp he), if_neg (Bool.eq_false_iff.mp hr), if_pos hdone] at m
  refine ⟨m.ok h, ?_⟩
  rw [← v.y.meets_meetN cl]
  exact View.went_goesOn h (View.warp_metAt h) (v.y.meets_regs cl) (v.y.meets_slot ..) (v.y.meets_due cl) (v.y.meets_intrap cl)

/-- 13 R304, R305: an earlier arrival stands. -/
theorem exec_meet_early (hdone : (((v.metAt cl).group v.r.g).getD v.x).meetDone cl (v.y.meetN cl + 1) = false) :
    ∃ t, exec (meetInstr cl) s = .next t ∧ v.Stood cl s t := by
  have m : Means s v (meetInstr cl) _ := means_meet hf
  rw [if_neg (Bool.eq_false_iff.mp he), if_neg (Bool.eq_false_iff.mp hr), if_neg (Bool.eq_false_iff.mp hdone)] at m
  exact ⟨_, m.waits h, View.stood_standsMet h⟩

end

end

/-- Settles O35: a meeting by whether its fragment has arrived, and by whether its count is done. -/
theorem meetingResults : Obligations.MeetingResults := by
  intro s v cl h
  refine ⟨fun k hf hdone => ⟨_, exec_meet_stood_done h hf hdone⟩, fun k hf hdone => exec_meet_stood_waits h hf hdone,
    fun hf => ⟨exec_meet_exchanges h hf, fun he hr => exec_meet_accesses h hf he hr⟩,
    fun hf he hr => ⟨fun hdone => ⟨_, exec_meet_last h hf he hr hdone⟩, fun hdone => ?_⟩⟩
  obtain ⟨t, ht, y, z, f, hstood⟩ := exec_meet_early h hf he hr hdone
  exact ⟨t, y, z, f, ht, hstood⟩

end Sys2Proof.Machine
end

section
/-! Exchange stores (13 R307, R308): XST and MCST by their parameter words, and the landing of a store at its next receiver. -/

namespace Sys2Proof.Machine

/-! ## Parameter words (13 R307) -/

section
variable {s : State} {v : View} {i : Instr} {a : Opnd} {j : Fin 32} {wa wb : Bool} {p x t off : Nat} {bar : Option Nat} {far : Bool}

/-- 13 R307: the bank offset or the barrier of a parameter word lies outside its region. -/
def View.exchOut (v : View) (x : Nat) : Prop :=
  v.x.sched.exch < x % 2 ^ 19 + 128 ∨ (2 ^ 63 ≤ x ∧ v.x.sched.spad < x / 2 ^ 48 % 2 ^ 15 * 16 + 16)

theorem View.exchOk_layout (h : x / 2 ^ 19 % 2 ^ 29 ≠ 0) : v.exchOk x far = .error (v.trap cILLOPND) := if_pos h

/-- 13 R307: the test for what is out of bounds, as `exchOk` makes it. -/
theorem View.exchOut_iff : (far || decide (v.x.sched.exch < x % 2 ^ 19 + 128) ||
    (exchParam x).1.any (fun o => decide (v.x.sched.spad < o + 16))) = true ↔ far = true ∨ v.exchOut x := by
  by_cases hx : 2 ^ 63 ≤ x
  · simp only [exchParam, View.exchOut, hx, if_true, Option.any_some, Bool.or_eq_true, decide_eq_true_eq, true_and, or_assoc]
  · simp only [exchParam, View.exchOut, hx, if_false, Option.any_none, Bool.or_eq_true, Bool.or_false, decide_eq_true_eq, false_and, or_false]

theorem View.exchOk_out (h : x / 2 ^ 19 % 2 ^ 29 = 0) (ho : far = true ∨ v.exchOut x) : v.exchOk x far = .error (v.trap cIDXBOUND) :=
  (if_neg (Classical.not_not.mpr h)).trans (if_pos (View.exchOut_iff.mpr ho))

theorem View.exchOk_misaligned (h : x / 2 ^ 19 % 2 ^ 29 = 0) (ho : ¬(far = true ∨ v.exchOut x)) (ha : x % 4 ≠ 0) :
    v.exchOk x far = .error (v.trap cALIGN (x % 2 ^ 19)) :=
  (if_neg (Classical.not_not.mpr h)).trans ((if_neg (mt View.exchOut_iff.mp ho)).trans (if_pos (show x % 2 ^ 19 % 4 ≠ 0 by omega)))

theorem View.exchOk_inOrder (h : x / 2 ^ 19 % 2 ^ 29 = 0) (ho : ¬(far = true ∨ v.exchOut x)) (ha : x % 4 = 0) : v.exchOk x far = .ok () :=
  (if_neg (Classical.not_not.mpr h)).trans ((if_neg (mt View.exchOut_iff.mp ho)).trans (if_neg (show ¬x % 2 ^ 19 % 4 ≠ 0 by omega)))

/-- 13 R307: a parameter that is in order lies within its bank and its region. -/
theorem Exchange.within (e : Exchange v x bar off) : ¬v.exchOut x := by
  obtain ⟨-, rfl, rfl, hfits, hbar, -, -⟩ := e
  rintro (ho | ⟨hx, ho⟩)
  · omega
  · have := hbar _ (if_pos hx)
    omega

/-! ## The checks of XST and MCST (13 R307, 17 R390) -/

/-- 13 R307: the instruction checks a parameter word and the warp's stage before it goes on, and its word is one where a number is out of bounds. -/
def SendsExch (s : State) (v : View) (i : Instr) (x : Nat) (far : Bool) (go : Unit → Except Stop State) : Prop :=
  ∃ k, exec i s = issue s k ∧ k v = (v.exchOk x far >>= fun _ => v.noStage 0 >>= go) ∧ WellWorded (k v.blank)

variable {go : Unit → Except Stop State}

theorem SendsExch.means (m : SendsExch s v i x far go) : Means s v i (v.exchOk x far >>= fun _ => v.noStage 0 >>= go) := by
  obtain ⟨k, hi, hk, -⟩ := m
  exact ⟨k, hi, hk⟩

/-- 13 R307, 17 R390: what a parameter word that is not in order comes to. -/
theorem SendsExch.stops (m : SendsExch s v i x far go) (h : Issues s v) :
    (x / 2 ^ 19 % 2 ^ 29 ≠ 0 → exec i s = v.trapped cILLOPND 0 v.f.mask) ∧
    (x / 2 ^ 19 % 2 ^ 29 = 0 → far = true ∨ v.exchOut x → exec i s = v.trapped cIDXBOUND 0 v.f.mask) ∧
    (x / 2 ^ 19 % 2 ^ 29 = 0 → ¬(far = true ∨ v.exchOut x) → x % 4 ≠ 0 → exec i s = v.trapped cALIGN (x % 2 ^ 19) v.f.mask) ∧
    (x / 2 ^ 19 % 2 ^ 29 = 0 → ¬(far = true ∨ v.exchOut x) → x % 4 = 0 → v.y.held.isSome = true → exec i s = v.trapped cSTAGEFX 0 v.f.mask) := by
  have hm := m.means
  refine ⟨fun h0 => ?_, fun h0 ho => ?_, fun h0 ho ha => ?_, fun h0 ho ha hh => ?_⟩
  · rw [View.exchOk_layout h0] at hm
    exact Means.traps hm h (by decide)
  · obtain ⟨k, hi, hk, hb⟩ := m
    rw [View.exchOk_out h0 ho] at hk
    exact exec_outOfBounds h hi hk hb
  · rw [View.exchOk_misaligned h0 ho ha] at hm
    exact Means.traps hm h (by decide)
  · rw [View.exchOk_inOrder h0 ho ha] at hm
    exact Means.staged hm h hh

/-- 13 R307: with a parameter in order, to a group that exists, the instruction goes on. -/
theorem SendsExch.goesOn (m : SendsExch s v i x far go) (hfar : far = false) (e : Exchange v x bar off) : Means s v i (go ()) := by
  have hm := m.means
  have hin : ¬(far = true ∨ v.exchOut x) := by
    rw [hfar]
    exact not_or.mpr ⟨Bool.false_ne_true, e.within⟩
  obtain ⟨h0, rfl, -, -, -, ha, hh⟩ := e
  rw [View.exchOk_inOrder h0 hin (by omega)] at hm
  exact Means.unstaged hm hh

/-! ## What goes under way (13 R307) -/

/-- 09 R180: the lanes of one register, as an exchange store reads them. -/
theorem View.laneVals_word (v : View) (p : Nat) : (v.laneVals 6 (.vec [p])).map (fun n => BitVec.ofNat 32 n) = (v.y.vreg p).lanes := by
  ext k hk
  have hlt : ((v.y.vreg p).lanes[k]).toNat % 2 ^ tyWidth 6 = ((v.y.vreg p).lanes[k]).toNat := Nat.mod_eq_of_lt ((v.y.vreg p).lanes[k]).isLt
  simp only [View.laneVals, Warp.lanesOf, Vector.getElem_map, hlt, BitVec.ofNat_toNat, BitVec.setWidth_eq]

theorem Exchange.sendExch (e : Exchange v x bar off) (p : Nat) (tgts : List Nat) : v.sendExch (.vec [p]) x tgts = v.exchanging p bar off tgts := by
  obtain ⟨-, rfl, rfl, -, -, -, -⟩ := e
  simp only [View.sendExch, View.laneVals_word]
  rfl

/-- 13 R307: an exchange store that goes under way. -/
theorem Means.exchanges {tgts : List Nat} (m : Means s v i (.ok (v.exchanging p bar off tgts))) (h : Issues s v) :
    exec i s = .next (v.done (v.exchanging p bar off tgts)) :=
  m.done h (y := { v.y with remN := v.y.remN + 1 })
    ((State.warp_congr (s := v.put { v.y with remN := v.y.remN + 1 }) rfl ..).trans (by rw [View.warp_put, h.warp, Option.map_some])) rfl rfl

/-- 13 R307: XST to group `t` of its phase, its parameter in order. -/
def View.sendTo (v : View) (p x t : Nat) : Except Stop State :=
  match v.peer t with
  | none => .error (v.trap cIDXBOUND)
  | some (g, q) =>
    match q.st with
    | .waiting => .error v.hold
    | .exited | .killed =>
      if mXtrap v.y.mode then .error (v.trap cXDEAD t) else .ok (v.put { v.y with flags := setXdead v.y.flags, erem := v.y.erem + 1 })
    | _ => .ok (v.sendExch (.vec [p]) x [g])

section
variable (ha : v.Src kV false a (.vec [p])) (hb : v.Src kS false (.s j) (.sca j))
include ha hb

theorem sendsExch_mcst : SendsExch s v (.mcst a (.s j) wa wb) v.y.s[j].val.toNat false (fun _ => .ok (v.sendExch (.vec [p]) v.y.s[j].val.toNat
    ((v.s.groups.filter (fun e => e.2.inCluster v.x.launch v.x.phase (coreQuad v.core))).map (·.1)))) := by
  refine ⟨_, rfl, ?_, ?_⟩
  · simp only [ha.rd, hb.rd, View.sources_two ha.full ha.plain hb.full hb.plain, Stop.ok_bind]
    rfl
  · obtain ⟨ra, hra⟩ := View.blank_rd ha.names wa
    have hrb : v.blank.rd kS false (.s j) wb = .ok { loc := .sca j, wait := wb, code := (Opnd.s j).toCode.toNat } := rfl
    simp only [hra, hrb, Stop.ok_bind]
    exact v.blank_sources_stop (List.mem_cons_of_mem _ List.mem_cons_self) rfl _

/-- 13 R307: XST takes a pair of scalars, of which s31 is no first. -/
theorem means_xst_last (hj : j.val = 31) : Means s v (.xst a (.s j) wa wb) (.error (v.trap cILLOPND)) := by
  refine ⟨_, rfl, ?_⟩
  simp only [ha.rd, hb.rd, Stop.ok_bind, hj, Nat.le_refl, if_true]

variable (hj : j.val < 31) (hfull : v.y.s[Fin.ofNat 32 (j.val + 1)].fill = .full) (hplain : v.y.mapped (Fin.ofNat 32 (j.val + 1)) = none)
include hfull hplain

/-- 13 R307: the sources of XST: the lanes, the group and the parameter word. -/
theorem View.sources_xst : v.sources [{ loc := .vec [p], wait := wa, code := a.toCode.toNat }, { loc := .sca j, wait := wb, code := (Opnd.s j).toCode.toNat },
    { loc := .sca (Fin.ofNat 32 (j.val + 1)), wait := wb, code := 81 + j.val }] = .ok v := by
  refine View.sources_full v _ (List.forall_mem_cons.mpr ⟨⟨ha.full, ha.plain⟩, List.forall_mem_cons.mpr ⟨⟨hb.full, hb.plain⟩,
    List.forall_mem_singleton.mpr ⟨List.forall_mem_singleton.mpr hfull, ?_⟩⟩⟩)
  rintro _ ⟨⟩
  exact hplain

include hj

/-- 13 R307: a word that names no group. -/
theorem means_xst_word (ht : 2 ^ 24 ≤ v.y.s[j].val.toNat) : Means s v (.xst a (.s j) wa wb) (.error (v.trap cILLOPND)) := by
  refine ⟨_, rfl, ?_⟩
  simp only [ha.rd, hb.rd, Stop.ok_bind, Nat.not_le.mpr hj, if_false, View.sources_xst ha hb hfull hplain]
  exact if_pos ht

theorem sendsExch_xst (ht : v.y.s[j].val.toNat < 2 ^ 24) :
    SendsExch s v (.xst a (.s j) wa wb) v.y.s[Fin.ofNat 32 (j.val + 1)].val.toNat (decide ((v.launch.map (·.count)).getD 0 ≤ v.y.s[j].val.toNat))
      (fun _ => v.sendTo p v.y.s[Fin.ofNat 32 (j.val + 1)].val.toNat v.y.s[j].val.toNat) := by
  refine ⟨_, rfl, ?_, ?_⟩
  · simp only [ha.rd, hb.rd, Stop.ok_bind, Nat.not_le.mpr hj, if_false, View.sources_xst ha hb hfull hplain]
    exact if_neg (Nat.not_le.mpr ht)
  · obtain ⟨ra, hra⟩ := View.blank_rd ha.names wa
    obtain ⟨rb, hrb⟩ := View.blank_rd hb.names wb
    simp only [hra, hrb, Stop.ok_bind, Nat.not_le.mpr hj, if_false]
    exact v.blank_sources_stop (List.mem_cons_of_mem _ (List.mem_cons_of_mem _ List.mem_cons_self)) rfl _

end

/-- 13 R307, R308: XST by the state of its receiver. -/
theorem Means.sendsTo {g : Nat} {q : Group} (m : Means s v i (v.sendTo p x t)) (h : Issues s v) (e : Exchange v x bar off) (hq : v.peer t = some (g, q)) :
    (q.st = .waiting → exec i s = v.waiting false) ∧
    (q.st ≠ .waiting → q.st ≠ .exited → q.st ≠ .killed → exec i s = .next (v.done (v.exchanging p bar off [g]))) ∧
    (q.st = .exited ∨ q.st = .killed →
      (mXtrap v.y.mode = false → exec i s = .next (v.done (v.put { v.y with flags := v.y.flags ||| 0x40#8, erem := v.y.erem + 1 }))) ∧
      (mXtrap v.y.mode = true → exec i s = v.trapped cXDEAD t v.f.mask)) := by
  simp only [View.sendTo, hq, e.sendExch] at m
  refine ⟨fun hst => ?_, fun hw he hk => ?_, fun hst => ⟨fun hx => ?_, fun hx => ?_⟩⟩
  · rw [hst] at m
    exact m.holds h
  · cases hst : q.st with
    | waiting => exact absurd hst hw
    | exited => exact absurd hst he
    | killed => exact absurd hst hk
    | _ =>
      rw [hst] at m
      exact m.exchanges h
  · have hm : Means s v i (.ok (v.put { v.y with flags := setXdead v.y.flags, erem := v.y.erem + 1 })) := by
      rcases hst with hst | hst <;> simpa only [hst, hx, Bool.false_eq_true, if_false] using m
    exact hm.puts h rfl rfl
  · have hm : Means s v i (.error (v.trap cXDEAD t)) := by
      rcases hst with hst | hst <;> simpa only [hst, hx, if_true] using m
    exact hm.traps h (by decide)

end

end Sys2Proof.Machine
end

section
/-! EXCHANGE_STORE_LAND (13 R303, R307, R308): what a store leaves at a receiver, and at one that has retired. -/

namespace Sys2Proof.Machine

/-! ## The written lanes (13 R303) -/

/-- A read depends on the bytes that it reads alone. -/
theorem Memory.rd_congr {m m' : Memory} {a n : Nat} (h : ∀ b, a ≤ b → b < a + n → Memory.get m b = Memory.get m' b) :
    Memory.rd m a n = Memory.rd m' a n := by
  induction n generalizing a with
  | zero => rfl
  | succ n ih => rw [Memory.rd, Memory.rd, h a (Nat.le_refl a) (by omega), ih (fun b hl hh => h b (by omega) (by omega))]

/-- 13 R303: one lane of an exchange store written to a bank. -/
def ExchStore.putLane (e : ExchStore) (m : Memory) (i : Fin 32) : Memory :=
  if e.mask.getLsbD i.val then Memory.wr m (e.off + 4 * i.val) 4 (e.lanes[i]).toNat else m

section
variable (e : ExchStore) {m : Memory} {l : List (Fin 32)} {i : Fin 32} {b : Nat}

theorem ExchStore.wf_putLane (hm : Memory.wf m = true) (i : Fin 32) : Memory.wf (e.putLane m i) = true := by
  unfold ExchStore.putLane
  split
  · exact Memory.wf_wr _ _ _ hm
  · exact hm

theorem ExchStore.get_putLane_outside (hm : Memory.wf m = true)
    (hb : e.mask.getLsbD i.val = true → b < e.off + 4 * i.val ∨ e.off + 4 * i.val + 4 ≤ b) : Memory.get (e.putLane m i) b = Memory.get m b := by
  unfold ExchStore.putLane
  split
  · next hi => exact Memory.get_wr_outside _ _ _ _ _ hm (hb hi)
  · rfl

/-- 13 R303: the lanes written leave every other byte. -/
theorem ExchStore.get_putLanes_outside (hm : Memory.wf m = true)
    (hb : ∀ i ∈ l, e.mask.getLsbD i.val = true → b < e.off + 4 * i.val ∨ e.off + 4 * i.val + 4 ≤ b) :
    Memory.get (l.foldl e.putLane m) b = Memory.get m b := by
  induction l generalizing m with
  | nil => rfl
  | cons i l ih =>
    rw [List.foldl_cons, ih (e.wf_putLane hm i) (fun k hk => hb k (List.mem_cons_of_mem _ hk))]
    exact e.get_putLane_outside hm (hb i List.mem_cons_self)

/-- 13 R303: each written lane is in its word, since the lanes' words are apart. -/
theorem ExchStore.rd_putLanes (hm : Memory.wf m = true) (hl : l.Nodup) (hi : i ∈ l) (hw : e.mask.getLsbD i.val = true) :
    Memory.rd (l.foldl e.putLane m) (e.off + 4 * i.val) 4 = (e.lanes[i]).toNat := by
  induction l generalizing m with
  | nil => cases hi
  | cons k l ih =>
    obtain ⟨hk, hl⟩ := List.nodup_cons.mp hl
    rw [List.foldl_cons]
    by_cases hik : i = k
    · subst hik
      have hlater : Memory.rd (l.foldl e.putLane (e.putLane m i)) (e.off + 4 * i.val) 4 = Memory.rd (e.putLane m i) (e.off + 4 * i.val) 4 := by
        refine Memory.rd_congr (fun b hlo hhi => e.get_putLanes_outside (e.wf_putLane hm i) (fun j hj _ => ?_))
        have : j.val ≠ i.val := fun hji => hk (Fin.ext hji ▸ hj)
        omega
      rw [hlater, ExchStore.putLane, if_pos hw, Memory.rd_wr _ _ _ _ hm]
      exact Nat.mod_eq_of_lt (e.lanes[i]).isLt
    · exact ih (e.wf_putLane hm k) hl ((List.mem_cons.mp hi).resolve_left hik)

end

/-! ## The receiver (13 R303, R307) -/

/-- 13 R303: the bank that exchange stores land in. -/
def Group.shadowBank (g : Group) : Memory := if g.live1 then g.bank0 else g.bank1
/-- 13 R303: the bank that the group reads. -/
def Group.liveBank (g : Group) : Memory := if g.live1 then g.bank1 else g.bank0

/-- 13 R303: the receiver with the lanes of the store in its shadow bank. -/
def Group.exchWritten (g : Group) (e : ExchStore) : Group :=
  if g.live1 then { g with bank0 := (List.finRange 32).foldl e.putLane g.shadowBank } else { g with bank1 := (List.finRange 32).foldl e.putLane g.shadowBank }

section
variable (g : Group) (e : ExchStore)

theorem Group.exchLand_eq : g.exchLand e = match e.bar with
    | some o => (g.exchWritten e).barLand o (4 * (lanesIn e.mask).length)
    | none => g.exchWritten e := rfl

/-- 13 R299: counted bytes change the region, and what the waiting fragments know. -/
theorem Group.barLand_eq (o n : Nat) : ∃ warps, g.barLand o n = { g with spad := (g.barLand o n).spad, warps := warps } := by
  unfold Group.barLand Group.barAdd
  dsimp only
  split
  · exact ⟨g.warps, rfl⟩
  · exact ⟨_, rfl⟩

theorem Group.exchWritten_spad : (g.exchWritten e).spad = g.spad := by unfold Group.exchWritten; split <;> rfl
theorem Group.exchWritten_live1 : (g.exchWritten e).live1 = g.live1 := by unfold Group.exchWritten; split <;> rfl
theorem Group.exchWritten_liveBank : (g.exchWritten e).liveBank = g.liveBank := by
  unfold Group.exchWritten Group.liveBank
  cases g.live1 <;> simp
theorem Group.exchWritten_shadowBank : (g.exchWritten e).shadowBank = (List.finRange 32).foldl e.putLane g.shadowBank := by
  unfold Group.exchWritten Group.shadowBank
  cases g.live1 <;> simp

/-- 13 R307: the region after a landing counts the bytes at the store's barrier. -/
theorem Group.exchLand_spad : (g.exchLand e).spad = match e.bar with
    | some o => (g.barLand o (4 * (lanesIn e.mask).length)).spad
    | none => g.spad := by
  rw [Group.exchLand_eq]
  cases e.bar with
  | none => exact g.exchWritten_spad e
  | some o => exact Group.spad_barAdd_congr (g.exchWritten_spad e) ..

/-- 13 R303: a landing writes the shadow bank, and leaves the live one. -/
theorem Group.exchLand_banks : (g.exchLand e).live1 = g.live1 ∧ (g.exchLand e).liveBank = g.liveBank ∧
    (g.exchLand e).shadowBank = (List.finRange 32).foldl e.putLane g.shadowBank := by
  have hwritten := And.intro (g.exchWritten_live1 e) (And.intro (g.exchWritten_liveBank e) (g.exchWritten_shadowBank e))
  rw [Group.exchLand_eq]
  cases e.bar with
  | none => exact hwritten
  | some o =>
    obtain ⟨_, hbar⟩ := (g.exchWritten e).barLand_eq o (4 * (lanesIn e.mask).length)
    dsimp only
    rw [hbar]
    exact hwritten

end

theorem Group.wf_shadowBank {g : Group} (h0 : Memory.wf g.bank0 = true) (h1 : Memory.wf g.bank1 = true) : Memory.wf g.shadowBank = true := by
  unfold Group.shadowBank
  split <;> assumption

/-! ## The event (13 R307, R308) -/

/-- 13 R307: the sender once a receiver has been served: a receiver that has retired sets XDEAD, the last one takes the store out of REM. -/
def Warp.exchServed (gone last : Bool) (y : Warp) : Warp :=
  let y1 := if gone then { y with flags := setXdead y.flags, erem := y.erem + 1 } else y
  if last then { y1 with remN := y1.remN - 1 } else y1

/-- 13 R307: the state once a receiver has been served. -/
def State.exchServed (s : State) (id : Nat) (e : ExchStore) (rest : List Nat) (gone : Bool) : State :=
  { (s.modWarp e.g e.w (Warp.exchServed gone rest.isEmpty)) with
      exchs := if rest.isEmpty then tdel s.exchs id else tput s.exchs id { e with tgts := rest } }

section
variable {s u : State} {id g : Nat} {rest : List Nat} {e : ExchStore} {x : Group}

/-- 13 R307: a store that has receivers left stays in flight. -/
theorem State.tget_exchServed (gone : Bool) :
    tget (s.exchServed id e rest gone).exchs id = if rest = [] then none else some { e with tgts := rest } := by
  show tget (if rest.isEmpty then tdel s.exchs id else tput s.exchs id { e with tgts := rest }) id = _
  cases rest with
  | nil => exact (tget_tdel ..).trans (if_pos rfl)
  | cons => exact (tget_tput ..).trans (if_pos rfl)

/-- 13 R308: a receiver that has retired takes nothing. -/
theorem exec_exchangeStoreLand_retired (he : tget s.exchs id = some e) (ht : e.tgts = g :: rest) (hx : s.group g = some x)
    (hst : x.st = .exited ∨ x.st = .killed) : exec (.exchangeStoreLand id) s = .next (s.exchServed id e rest true) := by
  have himg : s.exchImage (some g) = .ok s := by
    have hsaved : x.st ≠ .saved := by rcases hst with h | h <;> rw [h] <;> decide
    simp only [State.exchImage, Option.bind_some, hx]
    exact if_pos hsaved
  have hgone : (decide (x.st = .exited) || decide (x.st = .killed)) = true := by simpa using hst
  show execExchangeStoreLand id s = _
  simp only [execExchangeStoreLand, he, ht, List.head?_cons, List.drop_one, List.tail_cons, Option.bind_some, hx, hgone, himg, if_true]
  rfl

/-- 15 R359: an exchange store finds its receiver as it stands, with the image written anew when it is SAVED. -/
theorem State.exchImage_ok (h : s.exchImage (some g) = .ok u) (hx : u.group g = some x) :
    (x.st ≠ .saved → u = s) ∧ ∃ z, s.group g = some z ∧ z.st = x.st := by
  simp only [State.exchImage, Option.bind_some] at h
  split at h
  · obtain rfl := Except.ok.inj h
    exact ⟨fun _ => rfl, x, hx, rfl⟩
  · next z hz =>
    split at h
    · obtain rfl := Except.ok.inj h
      exact ⟨fun _ => rfl, x, hx, rfl⟩
    · next hsaved =>
      split at h
      · next t ht =>
        obtain rfl := Except.ok.inj h
        rw [Option.getD_some, State.group_modGroup, if_pos rfl, State.group_congr (State.putImage_groups ht), hz] at hx
        obtain rfl := Option.some.inj hx
        exact ⟨fun hne => absurd (Classical.not_not.mp hsaved) hne, z, hz, rfl⟩
      · cases h

/-- 13 R307: a receiver that has not retired takes the store. -/
theorem exec_exchangeStoreLand_lands (he : tget s.exchs id = some e) (ht : e.tgts = g :: rest) (himg : s.exchImage (some g) = .ok u)
    (hx : u.group g = some x) (hexited : x.st ≠ .exited) (hkilled : x.st ≠ .killed) :
    exec (.exchangeStoreLand id) s = .next ((u.modGroup g (·.exchLand e)).exchServed id e rest false) := by
  obtain ⟨-, z, hz, hst⟩ := State.exchImage_ok himg hx
  have hgone : (decide (z.st = .exited) || decide (z.st = .killed)) = false := by simp [hst, hexited, hkilled]
  show execExchangeStoreLand id s = _
  simp only [execExchangeStoreLand, he, ht, List.head?_cons, List.drop_one, List.tail_cons, Option.bind_some, hz, hgone, himg, Bool.false_eq_true,
    if_false]
  rfl

/-- The receiver once it has been served: what tells the sender changes warps alone. -/
theorem State.group_exchServed (hx : s.group g = some x) (gone : Bool) : ∃ warps, (s.exchServed id e rest gone).group g = some { x with warps := warps } := by
  obtain ⟨_, hz, _, rfl⟩ := State.groupwise_modGroup (s := s) Group.Rewarped.refl e.g
    (k := fun y => y.modWarp e.w (Warp.exchServed gone rest.isEmpty)) (fun y => ⟨_, rfl⟩) g x hx
  exact ⟨_, hz⟩

/-- 13 R303, R307: what a landing leaves at a receiver that has not retired. -/
theorem exec_exchangeStoreLand_receiver (he : tget s.exchs id = some e) (ht : e.tgts = g :: rest) (himg : s.exchImage (some g) = .ok u)
    (hx : u.group g = some x) (hexited : x.st ≠ .exited) (hkilled : x.st ≠ .killed) (h0 : Memory.wf x.bank0 = true) (h1 : Memory.wf x.bank1 = true) :
    ∃ t z, exec (.exchangeStoreLand id) s = .next t ∧ t.group g = some z ∧
      tget t.exchs id = (if rest = [] then none else some { e with tgts := rest }) ∧ t.mem = u.mem ∧
      z.spad = (match e.bar with
        | some o => (x.barLand o (4 * (lanesIn e.mask).length)).spad
        | none => x.spad) ∧
      z.liveBank = x.liveBank ∧ z.live1 = x.live1 ∧
      (∀ i : Fin 32, e.mask.getLsbD i.val = true → Memory.rd z.shadowBank (e.off + 4 * i.val) 4 = (e.lanes[i]).toNat) ∧
      (∀ b, (∀ i : Fin 32, e.mask.getLsbD i.val = true → b < e.off + 4 * i.val ∨ e.off + 4 * i.val + 4 ≤ b) →
        Memory.get z.shadowBank b = Memory.get x.shadowBank b) := by
  have hland : (u.modGroup g (·.exchLand e)).group g = some (x.exchLand e) := by rw [State.group_modGroup, if_pos rfl, hx, Option.map_some]
  obtain ⟨_, hz⟩ := State.group_exchServed (id := id) (e := e) (rest := rest) hland false
  obtain ⟨hlive1, hlive, hshadow⟩ := x.exchLand_banks e
  have hwf := Group.wf_shadowBank h0 h1
  refine ⟨_, _, exec_exchangeStoreLand_lands he ht himg hx hexited hkilled, hz, State.tget_exchServed false, rfl, x.exchLand_spad e, hlive, hlive1,
    fun i hi => ?_, fun b hb => ?_⟩
  · exact (congrArg (Memory.rd · _ 4) hshadow).trans (e.rd_putLanes hwf (List.nodup_finRange 32) (List.mem_finRange i) hi)
  · exact (congrArg (Memory.get · b) hshadow).trans (e.get_putLanes_outside hwf (fun i _ => hb i))

end

end Sys2Proof.Machine
end

section
/-! CRED and REDUCTION_RESULT (13 R309): the control word, a contribution, the value of a reduction, and the answers to its participants. -/

namespace Sys2Proof.Machine

/-! ## The control word (13 R309) -/

section
variable {s : State} {v : View} {d a b : Opnd} {la ld : Loc} {j : Fin 32} {wa wb : Bool} {c id : Nat} {r : Reduction}

/-- 13 R309: the control word keeps its layout. -/
def credGood (c : Nat) : Prop := c < 2 ^ 48 ∧ c / 2 ^ 16 % 2 ^ 16 = 0 ∧ c / 8 % 32 = 0

/-- 13 R309: COUNT of a control word. -/
def credCount (c : Nat) : Nat := c / 2 ^ 8 % 2 ^ 8

/-- 13 R309: TAG of a control word. -/
def credTag (c : Nat) : Nat := c / 2 ^ 32 % 2 ^ 16

theorem credGood_iff : ¬(c / 2 ^ 48 ≠ 0 ∨ c / 2 ^ 16 % 2 ^ 16 ≠ 0 ∨ c / 8 % 32 ≠ 0) ↔ credGood c := by
  unfold credGood
  omega

theorem View.credOk_layout (h : ¬credGood c) : v.credOk c = .error (v.trap cILLOPND) := if_pos (Classical.not_not.mp (mt credGood_iff.mp h))

theorem View.credOk_op (h : credGood c) (ho : 6 ≤ c % 8) : v.credOk c = .error (v.trap cILLOP) :=
  (if_neg (credGood_iff.mpr h)).trans (if_pos ho)

theorem View.credOk_type (h : credGood c) (ho : c % 8 < 6) (ht : 12 ≤ v.et) : v.credOk c = .error (v.trap cILLTYPE) :=
  (if_neg (credGood_iff.mpr h)).trans ((if_neg (Nat.not_le.mpr ho)).trans (if_pos ht))

theorem View.credOk_count (h : credGood c) (ho : c % 8 < 6) (ht : v.et < 12) (hn : credCount c = 0 ∨ v.s.liveQuads < credCount c) :
    v.credOk c = .error (v.trap cBADCOUNT) :=
  (if_neg (credGood_iff.mpr h)).trans ((if_neg (Nat.not_le.mpr ho)).trans ((if_neg (Nat.not_le.mpr ht)).trans (if_pos hn)))

theorem View.credOk_inOrder (h : credGood c) (ho : c % 8 < 6) (ht : v.et < 12) (hn : 1 ≤ credCount c) (hq : credCount c ≤ v.s.liveQuads) :
    v.credOk c = .ok () :=
  (if_neg (credGood_iff.mpr h)).trans ((if_neg (Nat.not_le.mpr ho)).trans ((if_neg (Nat.not_le.mpr ht)).trans (if_neg
    (show ¬(credCount c = 0 ∨ v.s.liveQuads < credCount c) by omega))))

/-! ## A contribution (13 R309) -/

/-- 13 R309: the reduction that a CRED begins. -/
def View.newRed (v : View) (c : Nat) : Reduction :=
  { launch := v.x.launch, phase := v.x.phase, tag := credTag c, count := credCount c, op := c % 8, signed := scalarSigned v.et, parts := [],
    mixed := false, waiters := [], closed := false }

/-- 13 R309: the reduction that a CRED finds, or begins. -/
def View.redOf (v : View) (c : Nat) : Nat × Reduction := (v.s.openRed v.x.launch v.x.phase (credTag c)).getD (v.s.uid, v.newRed c)

/-- 13 R309: a reduction with the contribution of the issuing fragment, whose result goes to `l`. -/
def View.joined (v : View) (l : Loc) (x : DWord) (c : Nat) (r : Reduction) : Reduction :=
  { r with
    parts := r.parts ++ [(coreQuad v.core, x)],
    waiters := r.waiters ++ [(v.r.g, v.r.w, v.r.slot, match l with
      | .sca i => some i
      | _ => none)],
    mixed := r.mixed || r.differs (c % 8) (scalarSigned v.et),
    closed := decide (r.parts.length + 1 = credCount c) }

/-- 13 R309: the state in which the issuing fragment has contributed and stands arrived. -/
def View.contributed (v : View) (l : Loc) (x : DWord) (c id : Nat) (r : Reduction) : State :=
  { ((v.put v.y).modWarp v.r.g v.r.w (fun y => y.setSlot v.r.slot (some { v.f with arrived := some (.cred id) }))) with
    reds := tput v.s.reds id (v.joined l x c r), uid := v.s.uid + 1 }

/-- 13 R309: CRED of a COUNT above 1 at a reduction. -/
def View.contribute (v : View) (l : Loc) (x : DWord) (c id : Nat) (r : Reduction) : Except Stop State :=
  if r.count ≠ credCount c then .error (v.trap cBADCOUNT)
  else if r.parts.any (fun p => p.1 == coreQuad v.core) then .error v.park
  else v.releases false >>= fun _ => .error (.wait (v.contributed l x c id r) true)

theorem means_cred_waiting (hf : v.f.arrived = some (.cred id)) : Means s v (.cred d a b wa wb) (.error v.park) :=
  ⟨_, rfl, by simp only [hf]⟩

theorem means_cred (hf : ∀ id, v.f.arrived ≠ some (.cred id)) (hd : v.Dst kSZ false d ld) (ha : v.Src kSC false a la) (hb : v.Src kS false b (.sca j)) :
    Means s v (.cred d a b wa wb) (v.credOk v.y.s[j].val.toNat >>= fun _ => v.noStage 0 >>= fun _ =>
      if credCount v.y.s[j].val.toNat = 1 then .ok (v.put (v.y.setScalar ld (v.y.scalarVal la)))
      else v.contribute ld (v.y.scalarVal la) v.y.s[j].val.toNat (v.redOf v.y.s[j].val.toNat).1 (v.redOf v.y.s[j].val.toNat).2) := by
  refine ⟨_, rfl, ?_⟩
  split
  · next id hid => exact absurd hid (hf id)
  · simp only [hd.names, ha.rd, hb.rd, View.sources_two ha.full ha.plain hb.full hb.plain, hd.ready, Stop.ok_bind]
    rfl

/-- 13 R309, 17 R390: a control word that is not in order, and CRED in stage. -/
theorem exec_cred_stops (h : Issues s v) (hf : ∀ id, v.f.arrived ≠ some (.cred id)) (hd : v.Dst kSZ false d ld) (ha : v.Src kSC false a la)
    (hb : v.Src kS false b (.sca j)) (hc : v.y.s[j].val.toNat = c) :
    let cred := Instr.cred d a b wa wb
    (¬credGood c → exec cred s = v.trapped cILLOPND 0 v.f.mask) ∧ (credGood c → 6 ≤ c % 8 → exec cred s = v.trapped cILLOP 0 v.f.mask) ∧
    (credGood c → c % 8 < 6 → 12 ≤ v.et → exec cred s = v.trapped cILLTYPE 0 v.f.mask) ∧
    (credGood c → c % 8 < 6 → v.et < 12 → credCount c = 0 ∨ v.s.liveQuads < credCount c → exec cred s = v.trapped cBADCOUNT 0 v.f.mask) ∧
    (credGood c → c % 8 < 6 → v.et < 12 → 1 ≤ credCount c → credCount c ≤ v.s.liveQuads → v.y.held.isSome = true →
      exec cred s = v.trapped cSTAGEFX 0 v.f.mask) := by
  have m : Means s v (.cred d a b wa wb) _ := means_cred hf hd ha hb
  rw [hc] at m
  refine ⟨fun hg => ?_, fun hg ho => ?_, fun hg ho ht => ?_, fun hg ho ht hn => ?_, fun hg ho ht hn hq hh => ?_⟩
  · rw [View.credOk_layout hg] at m
    exact Means.traps m h (by decide)
  · rw [View.credOk_op hg ho] at m
    exact Means.traps m h (by decide)
  · rw [View.credOk_type hg ho ht] at m
    exact Means.traps m h (by decide)
  · rw [View.credOk_count hg ho ht hn] at m
    exact Means.traps m h (by decide)
  · rw [View.credOk_inOrder hg ho ht hn hq] at m
    exact Means.staged m h hh

/-- 13 R309: CRED with a control word in order. -/
theorem means_cred_inOrder (hf : ∀ id, v.f.arrived ≠ some (.cred id)) (hd : v.Dst kSZ false d ld) (ha : v.Src kSC false a la)
    (hb : v.Src kS false b (.sca j)) (hc : v.y.s[j].val.toNat = c) (hh : v.y.held = none) (ht : v.et < 12) (hg : credGood c) (ho : c % 8 < 6)
    (hn : 1 ≤ credCount c) (hq : credCount c ≤ v.s.liveQuads) :
    Means s v (.cred d a b wa wb) (if credCount c = 1 then .ok (v.put (v.y.setScalar ld (v.y.scalarVal la)))
      else v.contribute ld (v.y.scalarVal la) c (v.redOf c).1 (v.redOf c).2) := by
  have m : Means s v (.cred d a b wa wb) _ := means_cred hf hd ha hb
  rw [hc, View.credOk_inOrder hg ho ht hn hq] at m
  exact Means.unstaged m hh

theorem View.redOf_some (h : v.s.openRed v.x.launch v.x.phase (credTag c) = some (id, r)) : v.redOf c = (id, r) := by
  rw [View.redOf, h, Option.getD_some]

theorem View.redOf_none (h : v.s.openRed v.x.launch v.x.phase (credTag c) = none) : v.redOf c = (v.s.uid, v.newRed c) := by
  rw [View.redOf, h, Option.getD_none]

theorem State.parkCheck_reds (s : State) (g w : Nat) : (s.parkCheck g w).reds = s.reds := by
  unfold State.parkCheck
  split
  · split <;> rfl
  · rfl

section
variable {i : Instr} {x : DWord} {l : Loc}

theorem Means.contributes_otherCount (m : Means s v i (v.contribute l x c id r)) (h : Issues s v) (hn : r.count ≠ credCount c) :
    exec i s = v.trapped cBADCOUNT 0 v.f.mask := by
  rw [View.contribute, if_pos hn] at m
  exact m.traps h (by decide)

theorem Means.contributes_twice (m : Means s v i (v.contribute l x c id r)) (h : Issues s v) (hn : r.count = credCount c)
    (hq : r.parts.any (fun p => p.1 == coreQuad v.core) = true) : exec i s = v.waiting true := by
  rw [View.contribute, if_neg (Classical.not_not.mpr hn), if_pos hq] at m
  exact m.waits h

theorem Means.contributes_accesses (m : Means s v i (v.contribute l x c id r)) (h : Issues s v) (hn : r.count = credCount c)
    (hq : r.parts.any (fun p => p.1 == coreQuad v.core) = false) (hr : v.s.releaseWaits v.r.g v.r.w v.f.mask = true) : exec i s = v.waiting false := by
  rw [View.contribute, if_neg (Classical.not_not.mpr hn), if_neg (Bool.eq_false_iff.mp hq)] at m
  exact m.unreleased h (fun hfree => Bool.false_ne_true (hfree.1.symm.trans hr))

/-- 13 R309: a contribution is in its reduction, and its fragment stands arrived. -/
theorem Means.contributes (m : Means s v i (v.contribute l x c id r)) (h : Issues s v) (hn : r.count = credCount c)
    (hq : r.parts.any (fun p => p.1 == coreQuad v.core) = false) (hr : v.s.releaseWaits v.r.g v.r.w v.f.mask = false) :
    ∃ t y f, exec i s = .next t ∧ tget t.reds id = some (v.joined l x c r) ∧ t.warp v.r.g v.r.w = some y ∧ sameRegisters y v.y ∧
      y.slot v.r.slot = some f ∧ f.arrived = some (.cred id) ∧ f.pc = v.f.pc := by
  rw [View.contribute, if_neg (Classical.not_not.mpr hn), if_neg (Bool.eq_false_iff.mp hq)] at m
  have hwait := m.released hr (fun hsys => absurd hsys Bool.false_ne_true)
  have hw : (v.contributed l x c id r).warp v.r.g v.r.w = some (v.y.setSlot v.r.slot (some { v.f with arrived := some (.cred id) })) := by
    refine (State.warp_modWarp ..).trans ?_
    rw [View.warp_put, h.warp, Option.map_some, Option.map_some]
  obtain ⟨_, _, hy⟩ := State.warp_waits hw
  refine ⟨_, _, _, hwait.waits h, ?_, hy, (Warp.sameRegisters_blockedAt ..).trans (sameRegisters_setSlot ..),
    Warp.blockedAt_slot (Warp.setSlot_slot ..), rfl, rfl⟩
  rw [State.parkCheck_reds]
  exact (tget_tput ..).trans (if_pos rfl)

end

end

/-! ## The value of a reduction (13 R309) -/

section
variable {r : Reduction} {q : Nat} {z : DWord} {l : List (Nat × DWord)}

/-- 13 R309: the result combines the contributions in their order. -/
theorem Reduction.result_eq (hm : r.mixed = false) (hp : r.parts = (q, z) :: l) (n : Nat) :
    r.result n = l.foldl (fun acc e => redStep r.op r.signed acc e.2) z := by
  simp only [Reduction.result, hm, hp, List.map_cons, List.foldl_map, Bool.false_eq_true, if_false]

/-- A fold that chooses one of two by a total preorder ends at or below each of its values, and at one of them. -/
theorem foldl_select {α : Type} {f : α → α → α} {le : α → α → Prop} (hrefl : ∀ a, le a a) (htrans : ∀ {a b c}, le a b → le b c → le a c)
    (hl : ∀ a b, le (f a b) a) (hr : ∀ a b, le (f a b) b) (hsel : ∀ a b, f a b = a ∨ f a b = b) (l : List α) (z : α) :
    (∀ e ∈ z :: l, le (l.foldl f z) e) ∧ l.foldl f z ∈ z :: l := by
  induction l generalizing z with
  | nil => exact ⟨List.forall_mem_singleton.mpr (hrefl z), List.mem_singleton_self z⟩
  | cons b l ih =>
    obtain ⟨hle, hmem⟩ := ih (f z b)
    obtain ⟨hstart, hrest⟩ := List.forall_mem_cons.mp hle
    refine ⟨List.forall_mem_cons.mpr ⟨htrans hstart (hl z b), List.forall_mem_cons.mpr ⟨htrans hstart (hr z b), hrest⟩⟩, ?_⟩
    rw [List.foldl_cons]
    rcases List.mem_cons.mp hmem with heq | hin
    · rw [heq]
      rcases hsel z b with h | h <;> simp [h]
    · exact List.mem_cons_of_mem _ (List.mem_cons_of_mem _ hin)

/-- 13 R309: the order of MIN and MAX. -/
def redLe (sg : Bool) (a b : DWord) : Prop := if sg then a.toInt ≤ b.toInt else a.toNat ≤ b.toNat

/-- 13 R309: the test of the order, as `redStep` makes it. -/
theorem redLe_iff {sg : Bool} {a b : DWord} : (if sg then decide (a.toInt ≤ b.toInt) else decide (a.toNat ≤ b.toNat)) = true ↔ redLe sg a b := by
  cases sg <;> exact decide_eq_true_iff

theorem redLe_refl (sg : Bool) (a : DWord) : redLe sg a a :=
  match sg with
  | true => Int.le_refl a.toInt
  | false => Nat.le_refl a.toNat

theorem redLe_trans {sg : Bool} {a b c : DWord} (h : redLe sg a b) (k : redLe sg b c) : redLe sg a c :=
  match sg, h, k with
  | true, h, k => Int.le_trans h k
  | false, h, k => Nat.le_trans h k

theorem redLe_of_not {sg : Bool} {a b : DWord} (h : ¬redLe sg a b) : redLe sg b a :=
  match sg, h with
  | true, h => Int.le_of_lt (Int.not_le.mp h)
  | false, h => Nat.le_of_lt (Nat.not_le.mp h)

/-- 13 R309: MIN takes the lesser of two. -/
theorem redStep_min (sg : Bool) (a b : DWord) : (redLe sg a b ∧ redStep 1 sg a b = a) ∨ (¬redLe sg a b ∧ redStep 1 sg a b = b) := by
  by_cases h : redLe sg a b
  · exact .inl ⟨h, if_pos (redLe_iff.mpr h)⟩
  · exact .inr ⟨h, if_neg (mt redLe_iff.mp h)⟩

/-- 13 R309: MAX takes the greater of two. -/
theorem redStep_max (sg : Bool) (a b : DWord) : (redLe sg a b ∧ redStep 2 sg a b = b) ∨ (¬redLe sg a b ∧ redStep 2 sg a b = a) := by
  by_cases h : redLe sg a b
  · exact .inl ⟨h, if_pos (redLe_iff.mpr h)⟩
  · exact .inr ⟨h, if_neg (mt redLe_iff.mp h)⟩

section
variable (hm : r.mixed = false) (hp : r.parts = (q, z) :: l)
include hm hp

/-- 13 R309: a reduction whose step chooses one of two values. -/
theorem Reduction.result_selects {le : DWord → DWord → Prop} (hrefl : ∀ a, le a a) (htrans : ∀ {a b c}, le a b → le b c → le a c)
    (hstep : ∀ a b, le (redStep r.op r.signed a b) a ∧ le (redStep r.op r.signed a b) b ∧
      (redStep r.op r.signed a b = a ∨ redStep r.op r.signed a b = b)) (n : Nat) :
    (∀ e ∈ r.parts, le (r.result n) e.2) ∧ r.result n ∈ r.parts.map (·.2) := by
  have hsel := foldl_select (f := redStep r.op r.signed) hrefl htrans (fun a b => (hstep a b).1) (fun a b => (hstep a b).2.1)
    (fun a b => (hstep a b).2.2) (l.map (·.2)) z
  rw [List.foldl_map, ← Reduction.result_eq hm hp n] at hsel
  rw [hp, List.map_cons]
  exact ⟨fun e he => hsel.1 e.2 (List.mem_map_of_mem (f := Prod.snd) he), hsel.2⟩

theorem Reduction.result_min (ho : r.op = 1) (n : Nat) : (∀ e ∈ r.parts, redLe r.signed (r.result n) e.2) ∧ r.result n ∈ r.parts.map (·.2) := by
  refine Reduction.result_selects hm hp (redLe_refl _) redLe_trans (fun a b => ?_) n
  rw [ho]
  rcases redStep_min r.signed a b with ⟨h, he⟩ | ⟨h, he⟩ <;> rw [he]
  · exact ⟨redLe_refl .., h, .inl rfl⟩
  · exact ⟨redLe_of_not h, redLe_refl .., .inr rfl⟩

theorem Reduction.result_max (ho : r.op = 2) (n : Nat) : (∀ e ∈ r.parts, redLe r.signed e.2 (r.result n)) ∧ r.result n ∈ r.parts.map (·.2) := by
  refine Reduction.result_selects hm hp (le := fun a b => redLe r.signed b a) (redLe_refl _) (fun h k => redLe_trans k h) (fun a b => ?_) n
  rw [ho]
  rcases redStep_max r.signed a b with ⟨h, he⟩ | ⟨h, he⟩ <;> rw [he]
  · exact ⟨h, redLe_refl .., .inr rfl⟩
  · exact ⟨redLe_refl .., redLe_of_not h, .inl rfl⟩

end

end

end Sys2Proof.Machine
end

section
/-! REDUCTION_RESULT (13 R309): the result reaches each participant, which goes on past its CRED. -/

namespace Sys2Proof.Machine

/-- A participant of a reduction: group, warp, slot and destination. -/
abbrev Waiter : Type := Nat × Nat × Bool × Option (Fin 32)

/-- The warp of a participant. -/
def Waiter.key (m : Waiter) : Nat × Nat := (m.1, m.2.1)

/-! ## Other warps -/

section
variable {s : State} {g w a b : Nat}

/-- A change of one warp leaves every other. -/
theorem State.warp_modWarp_other (h : (a, b) ≠ (g, w)) (k : Warp → Warp) : (s.modWarp a b k).warp g w = s.warp g w := by
  unfold State.modWarp State.warp
  rw [State.group_modGroup]
  split
  · next hg =>
    subst hg
    have hw : b ≠ w := fun hb => h (by rw [hb])
    cases hx : s.group g with
    | none => simp
    | some x => simp [Group.modWarp, hw]
  · rfl

theorem State.warp_answer_other (h : (a, b) ≠ (g, w)) (slot : Bool) (p : Frag → Bool) :
    (s.answer { g := a, w := b, slot := slot } p).warp g w = s.warp g w := by
  simp only [State.answer]
  split
  · rfl
  · split
    · split
      · exact (State.warp_congr rfl ..).trans ((State.warp_modWarp_other h _).trans (State.warp_modWarp_other h _))
      · exact State.warp_modWarp_other h _
    · exact State.warp_modWarp_other h _
    · rfl

/-- 14 R340: what a core has cached is no part of a warp. -/
theorem State.warp_acquire (core scope : Nat) : (s.acquire core scope).warp g w = s.warp g w :=
  State.warp_congr (s.recached_acquire core scope).groups_eq ..

end

/-! ## One participant (13 R309) -/

section
variable {s : State} {id : Nat} {x : DWord} {m : Waiter} {y : Warp} {f : Frag}

/-- 13 R309: the result in the destination of a participant. -/
def Warp.takesResult (y : Warp) (dst : Option (Fin 32)) (x : DWord) : Warp := match dst with
  | some i => y.setS i x
  | none => y

/-- 13 R309: the state with the result in the destination of a participant. -/
def State.putResult (s : State) (m : Waiter) (x : DWord) : State := match m.2.2.2 with
  | some i => s.modWarp m.1 m.2.1 (fun y => y.setS i x)
  | none => s

/-- 13 R309, 14 R340: with the result the participant's core acquires. -/
def State.gotResult (s : State) (m : Waiter) (x : DWord) : State :=
  match ((s.putResult m x).group m.1).bind (·.core) with
  | some c => (s.putResult m x).acquire c 5
  | none => s.putResult m x

theorem State.redAnswer_eq (s : State) (id : Nat) (x : DWord) (m : Waiter) :
    s.redAnswer id x m = (s.gotResult m x).answer { g := m.1, w := m.2.1, slot := m.2.2.1 } (·.waitsFor (.cred id)) := rfl

theorem State.warp_gotResult (g w : Nat) : (s.gotResult m x).warp g w = (s.putResult m x).warp g w := by
  unfold State.gotResult
  split
  · exact State.warp_acquire ..
  · rfl

theorem State.warp_putResult (hy : s.warp m.1 m.2.1 = some y) : (s.putResult m x).warp m.1 m.2.1 = some (y.takesResult m.2.2.2 x) := by
  unfold State.putResult Warp.takesResult
  split
  · rw [State.warp_modWarp, hy, Option.map_some]
  · exact hy

/-- 13 R309: a participant's answer leaves the warps of the others. -/
theorem State.warp_redAnswer_other {g w : Nat} (h : m.key ≠ (g, w)) : (s.redAnswer id x m).warp g w = s.warp g w := by
  rw [State.redAnswer_eq, State.warp_answer_other h, State.warp_gotResult]
  unfold State.putResult
  split
  · exact State.warp_modWarp_other h _
  · rfl

theorem State.redAnswer_mem (s : State) (id : Nat) (x : DWord) (m : Waiter) : (s.redAnswer id x m).mem = s.mem := by
  have hgot : (s.gotResult m x).mem = s.mem := by
    have hput : (s.putResult m x).mem = s.mem := by unfold State.putResult; split <;> rfl
    unfold State.gotResult
    split
    · exact (State.recached_acquire ..).mem_eq.trans hput
    · exact hput
  rw [State.redAnswer_eq, ← hgot]
  simp only [State.answer]
  split
  · rfl
  · split
    · split <;> rfl
    · rfl
    · rfl

theorem Warp.takesResult_slot (y : Warp) (dst : Option (Fin 32)) (x : DWord) (b : Bool) : (y.takesResult dst x).slot b = y.slot b := by
  cases dst <;> rfl

/-- 13 R309: the fragment of a participant goes on past its CRED, and its warp wakes. -/
theorem State.warp_redAnswer (hy : s.warp m.1 m.2.1 = some y) (hf : y.slot m.2.2.1 = some f) (hw : f.waitsFor (.cred id) = true) :
    ∃ z n, (s.redAnswer id x m).warp m.1 m.2.1 =
      some { (y.takesResult m.2.2.2 x).setSlot m.2.2.1 (some { f.advance with arrived := none }) with sched := z, since := n } := by
  have hgot : (s.gotResult m x).warp m.1 m.2.1 = some (y.takesResult m.2.2.2 x) := (State.warp_gotResult ..).trans (State.warp_putResult hy)
  have hslot : ((y.takesResult m.2.2.2 x).slot m.2.2.1).filter (·.waitsFor (.cred id)) = some f := by
    rw [Warp.takesResult_slot, hf, Option.filter_some, if_pos hw]
  have hgone : ((s.gotResult m x).modWarp m.1 m.2.1 (fun y => y.setSlot m.2.2.1 (some { f.advance with arrived := none }))).warp m.1 m.2.1 =
      some ((y.takesResult m.2.2.2 x).setSlot m.2.2.1 (some { f.advance with arrived := none })) := by
    rw [State.warp_modWarp, hgot, Option.map_some]
  rw [State.redAnswer_eq]
  simp only [State.answer, hgot, hslot]
  split
  · next hp => exact ⟨_, _, State.warp_setSched hgone (by rw [Warp.setSlot_sched, hp]; decide)⟩
  · exact ⟨_, _, hgone⟩

end

/-! ## All participants (13 R309) -/

section
variable {s : State} {id : Nat} {x : DWord} {l : List Waiter} {m : Waiter} {y : Warp} {f : Frag}

theorem State.warp_redAnswers_other {g w : Nat} (h : ∀ k ∈ l, k.key ≠ (g, w)) :
    (l.foldl (fun (t : State) k => t.redAnswer id x k) s).warp g w = s.warp g w :=
  List.foldlRecOn (motive := fun t => State.warp t g w = s.warp g w) l _ rfl (fun _ ht k hk => (State.warp_redAnswer_other (h k hk)).trans ht)

/-- 13 R309: where each participant is of another warp, each has its answer. -/
theorem State.warp_redAnswers (hl : (l.map Waiter.key).Nodup) (hm : m ∈ l) (hy : s.warp m.1 m.2.1 = some y) (hf : y.slot m.2.2.1 = some f)
    (hw : f.waitsFor (.cred id) = true) : ∃ z n, (l.foldl (fun (t : State) k => t.redAnswer id x k) s).warp m.1 m.2.1 =
      some { (y.takesResult m.2.2.2 x).setSlot m.2.2.1 (some { f.advance with arrived := none }) with sched := z, since := n } := by
  induction l generalizing s with
  | nil => cases hm
  | cons k l ih =>
    rw [List.map_cons] at hl
    obtain ⟨hk, hl⟩ := List.nodup_cons.mp hl
    rw [List.foldl_cons]
    rcases List.mem_cons.mp hm with rfl | hm
    · rw [State.warp_redAnswers_other (fun j hj he => hk ((show j.key = m.key from he) ▸ List.mem_map_of_mem hj))]
      exact State.warp_redAnswer hy hf hw
    · have hne : k.key ≠ (m.1, m.2.1) := fun he => hk ((show k.key = m.key from he) ▸ List.mem_map_of_mem hm)
      exact ih hl hm ((State.warp_redAnswer_other hne).trans hy)

/-! ## The event (13 R309) -/

/-- 13 R309: a participant can take the result: its group is resident, and its fragment waits for it. -/
def State.takesAnswer (s : State) (id : Nat) (m : Waiter) : Bool :=
  match s.group m.1, s.warp m.1 m.2.1 with
  | some x, some y => decide (x.st = .resident) &&
      ((y.slot m.2.2.1).any (·.waitsFor (.cred id)) || y.kept.any (fun k => decide (k.slot = m.2.2.1) && k.frag.waitsFor (.cred id)))
  | _, _ => false

theorem State.takesAnswer_slot {g : Group} (hg : s.group m.1 = some g) (hres : g.st = .resident) (hy : s.warp m.1 m.2.1 = some y)
    (hf : y.slot m.2.2.1 = some f) (hw : f.waitsFor (.cred id) = true) : s.takesAnswer id m = true := by
  simp [State.takesAnswer, hg, hy, hres, hf, hw]

/-- 13 R309: the participants of a reduction that can take its result have taken it. -/
def State.redAnswered (s : State) (id : Nat) (r : Reduction) : State :=
  (r.waiters.filter (s.takesAnswer id)).foldl (fun (t : State) k => t.redAnswer id (r.result s.tick) k) s

theorem exec_reductionResult {r : Reduction} (hr : tget s.reds id = some r) (hc : r.closed = true) :
    exec (.reductionResult id) s = .next { s.redAnswered id r with
      reds := if (r.waiters.filter (fun m => !s.takesAnswer id m)).isEmpty then tdel (s.redAnswered id r).reds id
        else tput (s.redAnswered id r).reds id { r with waiters := r.waiters.filter (fun m => !s.takesAnswer id m) } } := by
  show execReductionResult id s = _
  simp only [execReductionResult, hr, hc, Bool.not_true, Bool.false_eq_true, if_false]
  rfl

/-- 13 R309: a participant whose fragment waits for the reduction: its group, its warp and its fragment. -/
def State.Awaits (s : State) (id : Nat) (m : Waiter) (y : Warp) (f : Frag) : Prop :=
  ∃ x, s.group m.1 = some x ∧ x.st = .resident ∧ s.warp m.1 m.2.1 = some y ∧ y.slot m.2.2.1 = some f ∧ f.arrived = some (.cred id) ∧ f.replays = [] ∧
    y.kept = none

theorem State.Awaits.takes (h : s.Awaits id m y f) :
    s.takesAnswer id m = true ∧ s.warp m.1 m.2.1 = some y ∧ y.slot m.2.2.1 = some f ∧ f.waitsFor (.cred id) = true ∧ f.replays = [] := by
  obtain ⟨g, hg, hres, hy, hf, harrived, hreplays, -⟩ := h
  have hw : f.waitsFor (.cred id) = true := by simp [Frag.waitsFor, harrived, hreplays]
  exact ⟨State.takesAnswer_slot hg hres hy hf hw, hy, hf, hw, hreplays⟩

section
variable {r : Reduction}

/-- 13 R309: a reduction all of whose participants wait for it is over with its answers. -/
theorem State.filter_takesAnswer_eq_nil (h : ∀ m ∈ r.waiters, ∃ y f, s.Awaits id m y f) : r.waiters.filter (fun m => !s.takesAnswer id m) = [] := by
  rw [List.filter_eq_nil_iff]
  intro m hm
  obtain ⟨y, f, hawaits⟩ := h m hm
  simp [hawaits.takes.1]

/-- 13 R309: what the answers leave of a participant that waits: the result, and its fragment past the CRED. -/
theorem State.warp_redAnswered (hn : (r.waiters.map Waiter.key).Nodup) (hm : m ∈ r.waiters) (h : s.Awaits id m y f) :
    ∃ y' f', (s.redAnswered id r).warp m.1 m.2.1 = some y' ∧ y'.slot m.2.2.1 = some f' ∧ f'.pc = f.pc + 4 ∧ f'.arrived = none ∧
      y'.s = (match m.2.2.2 with
        | some i => y.s.set i { val := r.result s.tick, fill := .full }
        | none => y.s) := by
  obtain ⟨htakes, hy, hf, hw, hreplays⟩ := h.takes
  obtain ⟨_, _, hz⟩ := State.warp_redAnswers (x := r.result s.tick) (hn.sublist (List.filter_sublist.map _)) (List.mem_filter.mpr ⟨hm, htakes⟩) hy hf hw
  refine ⟨_, _, hz, Warp.setSlot_slot .., by rw [Frag.advance_of_no_replays hreplays], rfl, (Warp.setSlot_s ..).trans ?_⟩
  unfold Warp.takesResult
  split <;> rfl

theorem State.redAnswered_mem (s : State) (id : Nat) (r : Reduction) : (s.redAnswered id r).mem = s.mem :=
  foldl_keeps State.mem (fun t m => t.redAnswer_mem id _ m) _ s

end

end

end Sys2Proof.Machine
end

section
/-! O36: XST, MCST and CRED (13 R307 to R309), from what each comes to, and the two events. -/

namespace Sys2Proof.Machine

/-- 13 R307: what `odd` of the statement asks of a store's parameter word. -/
theorem SendsExch.odd {s : State} {v : View} {i : Instr} {x : Nat} {far : Bool} {go : Unit → Except Stop State} {p : Prop}
    (m : SendsExch s v i x far go) (h : Issues s v) (hp : far = true ↔ p) :
    let out_ := v.x.sched.exch < x % 2 ^ 19 + 128 ∨ (2 ^ 63 ≤ x ∧ v.x.sched.spad < x / 2 ^ 48 % 2 ^ 15 * 16 + 16)
    (x / 2 ^ 19 % 2 ^ 29 ≠ 0 → exec i s = v.trapped 0x02 0 v.f.mask) ∧
    (x / 2 ^ 19 % 2 ^ 29 = 0 → p ∨ out_ → exec i s = v.trapped 0x04 0 v.f.mask) ∧
    (x / 2 ^ 19 % 2 ^ 29 = 0 → ¬(p ∨ out_) → x % 4 ≠ 0 → exec i s = v.trapped 0x0B (x % 2 ^ 19) v.f.mask) ∧
    (x / 2 ^ 19 % 2 ^ 29 = 0 → ¬(p ∨ out_) → x % 4 = 0 → v.y.held.isSome = true → exec i s = v.trapped 0x15 0 v.f.mask) := by
  have hstops := m.stops h
  rw [hp] at hstops
  exact hstops

/-- Settles O36: each instruction by its checks in their order, then by what it finds; each event by its receivers. -/
theorem exchangeAndReductionResults : Obligations.ExchangeAndReductionResults := by
  refine ⟨⟨?stores, fun s id g rest e x y he ht hx hst hy => ?retired, fun s u id g rest e x he ht himg hx hexited hkilled => ?lands⟩, ?cred,
    fun s id r hr hc hn => ?result, fun r n q z l hm hp => ?value⟩
  case stores =>
    intro s v a p off bar j wa wb h ha hb
    refine ⟨(sendsExch_mcst ha hb).odd h ⟨Bool.false_ne_true, False.elim⟩, fun hj => (means_xst_last ha hb hj).traps h (by decide),
      fun hj hfull hplain => ⟨fun ht => (means_xst_word ha hb hj hfull hplain ht).traps h (by decide),
        fun ht => (sendsExch_xst ha hb hj hfull hplain ht).odd h decide_eq_true_iff, fun ht hcount e g q hq => ?_⟩, fun e => ?_⟩
    · exact ((sendsExch_xst ha hb hj hfull hplain ht).goesOn (decide_eq_false (Nat.not_le.mpr hcount)) e).sendsTo h e hq
    · have m : Means s v (.mcst a (.s j) wa wb) _ := (sendsExch_mcst ha hb).goesOn rfl e
      rw [e.sendExch] at m
      exact m.exchanges h
  case retired =>
    refine ⟨_, _, exec_exchangeStoreLand_retired he ht hx hst, (State.warp_modWarp ..).trans (by rw [hy]; rfl), ?_, ?_, ?_, rfl, ?_,
      State.tget_exchServed true⟩
    all_goals cases rest <;> rfl
  case lands =>
    refine ⟨(State.exchImage_ok himg hx).1, fun h0 h1 => ?_⟩
    exact exec_exchangeStoreLand_receiver he ht himg hx hexited hkilled h0 h1
  case cred =>
    intro s v d a b la ld j wa wb h hd ha hb c n good cred
    refine ⟨fun id hf => (means_cred_waiting hf).waits h, fun hf => exec_cred_stops h hf hd ha hb rfl, fun hf hh ht hg ho hlo hhi => ?_⟩
    have m : Means s v cred (if n = 1 then .ok (v.put (v.y.setScalar ld (v.y.scalarVal la)))
        else v.contribute ld (v.y.scalarVal la) c (v.redOf c).1 (v.redOf c).2) := means_cred_inOrder hf hd ha hb rfl hh ht hg ho hlo hhi
    refine ⟨fun id r hn hopen => ?joins, fun hn hopen hr => ?waits, fun hn => ?own, fun hn hopen hr _ => ?begins⟩
    case joins =>
      rw [if_neg (Nat.ne_of_gt hn), View.redOf_some hopen] at m
      refine ⟨m.contributes_otherCount h, m.contributes_twice h, m.contributes_accesses h, fun hcount hq hr => ?_⟩
      obtain ⟨t, y, f, ht, hred, hstands⟩ := m.contributes h hcount hq hr
      exact ⟨t, _, y, f, ht, hred, hcount, rfl, rfl, rfl, Bool.or_eq_true_iff, hstands⟩
    case waits =>
      rw [if_neg (Nat.ne_of_gt hn), View.redOf_none hopen] at m
      exact m.contributes_accesses h rfl rfl hr
    case own =>
      rw [if_pos hn] at m
      exact m.puts h (Warp.setScalar_intrap ..) (Warp.setScalar_due ..)
    case begins =>
      rw [if_neg (Nat.ne_of_gt hn), View.redOf_none hopen] at m
      obtain ⟨t, y, f, ht, hred, hstands⟩ := m.contributes h rfl rfl hr
      exact ⟨t, _, y, f, ht, hred, rfl, rfl, rfl, rfl, decide_eq_false (Nat.ne_of_lt hn), hstands⟩
  case result =>
    refine ⟨_, exec_reductionResult hr hc, s.redAnswered_mem id r, fun hall => ?_, fun m hm y f hawaits => State.warp_redAnswered hn hm hawaits⟩
    rw [State.filter_takesAnswer_eq_nil hall]
    exact (tget_tdel ..).trans (if_pos rfl)
  case value =>
    have hfold := Reduction.result_eq hm hp n
    refine ⟨fun ho => ?_, fun ho => ?_, fun ho => (Reduction.result_min hm hp ho n).1, fun ho => (Reduction.result_max hm hp ho n).1,
      fun ho => ho.elim (fun ho => (Reduction.result_min hm hp ho n).2) (fun ho => (Reduction.result_max hm hp ho n).2), fun ho => ?_, fun ho => ?_⟩
    all_goals
      rw [ho] at hfold
      exact hfold

end Sys2Proof.Machine
end

section
/-! O57: the machine never stops. -/
namespace Sys2Proof.Machine

/-- What an instruction or an event comes to: a next state, or, for a word alone, the issue of a meaning. -/
inductive Answers (s : State) : Bool → Host.Outcome State Fault Refusal → Prop where
  | next {word : Bool} (t : State) : Answers s word (.next t)
  | issue (k : View → Except Stop State) : Answers s true (issue s k)

theorem execMemoryAccessComplete_answers (s : State) (id : Nat) (word : Bool) : Answers s word (execMemoryAccessComplete id s) := by
  unfold execMemoryAccessComplete
  split
  · constructor
  · split
    · constructor
    · split
      · constructor
      · dsimp only
        split
        · constructor
        · split <;> constructor

theorem execReservedEncoding_answers (s : State) (w : Word) : Answers s true (execReservedEncoding w s) := by
  unfold execReservedEncoding
  split <;> constructor

theorem exec_answers (i : Instr) (s : State) : Answers s (isWord i) (exec i s) := by
  cases i with
  | memoryAccessComplete id => exact execMemoryAccessComplete_answers s id _
  | reservedEncoding w => exact execReservedEncoding_answers s w
  | _ => constructor

/-- An event answers a next state. -/
theorem exec_of_event {i : Instr} (hi : isWord i = false) (s : State) : ∃ t, exec i s = .next t := by
  have h := exec_answers i s
  rw [hi] at h
  generalize exec i s = o at h
  cases h with
  | next t => exact ⟨t, rfl⟩

/-- A word answers a next state where there is a fragment to issue it. -/
theorem exec_of_sees {s : State} {v : View} (hv : s.cur.bind s.viewOf = some v) (i : Instr) : ∃ t, exec i s = .next t := by
  have h := exec_answers i s
  generalize exec i s = o, isWord i = w at h
  cases h with
  | next t => exact ⟨t, rfl⟩
  | issue k => exact ⟨v.finish (v.unspill >>= fun v => v.ordered k), by simp only [issue, hv]⟩

/-- A view is there whichever fragment `State.cur` names. -/
theorem State.isSome_viewOf_cur (s : State) (r : Ref) (c : Option Ref) : (({ s with cur := c } : State).viewOf r).isSome = (s.viewOf r).isSome := by
  simp only [State.viewOf, State.group]
  cases tget s.groups r.g with
  | none => rfl
  | some x =>
    dsimp only
    cases x.warps[r.w]? with
    | none => rfl
    | some y =>
      dsimp only
      cases y.slot r.slot <;> rfl

theorem State.viewOf_of_fetchFor {s : State} {r : Ref} {v : View} {f : Fetched} (h : s.fetchFor r = some (v, f)) : s.viewOf r = some v := by
  unfold State.fetchFor at h
  split at h
  · cases h
  · next u hu =>
    obtain ⟨k, -, hk⟩ := Option.map_eq_some_iff.mp h
    cases hk
    exact hu

theorem State.issueAt_next (s : State) (r : Ref) : ∃ t, s.issueAt r = .next t := by
  unfold State.issueAt
  split
  · exact ⟨_, rfl⟩
  · next v w hf =>
    have hsome := s.isSome_viewOf_cur r (some r)
    rw [State.viewOf_of_fetchFor hf] at hsome
    obtain ⟨u, hu⟩ := Option.isSome_iff_exists.mp hsome
    exact exec_of_sees (s := { s with cur := some r }) hu _
  all_goals exact ⟨_, rfl⟩

theorem State.upset_next (s : State) (r : Ref) (code : BitVec 7) : ∃ t, s.upset r code = .next t := by
  unfold State.upset
  split
  · exact ⟨_, rfl⟩
  · exact s.issueAt_next r

theorem State.take_next (s : State) (a : Turn) : ∃ t, s.take a = .next t := by
  cases a with
  | issue r =>
    simp only [State.take]
    split
    · exact State.issueAt_next ..
    · exact ⟨_, rfl⟩
  | event i =>
    simp only [State.take]
    split
    · exact ⟨_, rfl⟩
    · next h =>
      simp only [Bool.or_eq_true, not_or, Bool.not_eq_true] at h
      exact exec_of_event h.1 s
  | upset r code =>
    simp only [State.take]
    split
    · exact State.upset_next ..
    · exact ⟨_, rfl⟩
  | _ => exact ⟨_, rfl⟩

theorem step_next (s : State) : ∃ t, step s = .next t := by
  rcases h : s.pass.turn with ⟨_ | a, t⟩
  · exact ⟨_, step_of_no_turn h⟩
  · obtain ⟨u, hu⟩ := t.take_next a
    exact ⟨u.settle, by rw [step_of_turn h, hu]; rfl⟩

/-- Settles O57: a word is issued only for a fragment that is there, and every other move answers a state. -/
theorem stepNeverStops : Obligations.StepNeverStops := ⟨step_next, fun _ _ t _ => step_next t⟩

end Sys2Proof.Machine
end

section
/-! O53: the module without power (20 R440). -/

namespace Sys2Proof.Machine

/-- Settles O53: every field is the one that `State.reset` gives. -/
theorem resetLeavesTheModuleOff : Obligations.ResetLeavesTheModuleOff := by
  have hwf : State.reset.memoriesWf := ⟨rfl, rfl, fun e he => absurd he List.not_mem_nil⟩
  refine ⟨rfl, hwf, rfl, rfl, rfl, rfl, fun c => ?_, fun q => ?_, fun k => ?_⟩
  · have hc : State.reset.ctxs[c] = Ctx.free := Vector.getElem_replicate _
    rw [hc]
    exact ⟨rfl, rfl⟩
  · have hq : State.reset.queues[q] = Queue.unbound := Vector.getElem_replicate _
    rw [hq]
    exact ⟨rfl, rfl, rfl, rfl⟩
  · have hk : State.reset.links[k] = Link.down := Vector.getElem_replicate _
    rw [hk]
    exact ⟨rfl, rfl⟩

end Sys2Proof.Machine
end

section
/-! O14: the returns from a trap (19 R432). -/

namespace Sys2Proof.Machine

/-! ## The interrupted fragment is back in its slot -/

/-- 19 R432: the warp is out of its trap and back at PL0, and its slot `b` holds the fragment `f`; no other trap is due. -/
structure Warp.Resumed (y : Warp) (b : Bool) (f : Frag) : Prop where
  /-- out of the trap -/
  free : y.intrap = false
  /-- the level -/
  level : y.plvl = 0
  /-- nothing is kept -/
  dropped : y.kept = none
  /-- no trap is due -/
  quiet : y.due = []
  /-- the fragment -/
  slot : y.slot b = some f

section
variable {y : Warp} {b : Bool} {f : Frag}

/-- A slot that was free takes a fragment, and the slot of the resumed one is not free. -/
theorem Warp.Resumed.setSlot (h : y.Resumed b f) {c : Bool} (hc : y.slot c = none) (g : Option Frag) : (y.setSlot c g).Resumed b f := by
  have hbc : b ≠ c := fun e => by simp [← e, h.slot] at hc
  obtain ⟨hfree, hlevel, hdropped, hquiet, hslot⟩ := h
  exact ⟨by simpa, by simpa, by simpa, by simpa, by rwa [Warp.slot_setSlot, if_neg hbc]⟩

theorem Warp.Resumed.place (h : y.Resumed b f) (pref : Bool) (g : Frag) : (y.place pref g).Resumed b f := by
  rcases y.place_cases pref g with ⟨c, hc, he⟩ | he <;> rw [he]
  · exact h.setSlot hc _
  · exact ⟨h.free, h.level, h.dropped, h.quiet, h.slot⟩

theorem Warp.Resumed.mergeAt (h : y.Resumed b f) (pref : Bool) (j : Nat) : (y.mergeAt pref j).Resumed b f := by
  unfold Warp.mergeAt
  dsimp only
  split
  · have hj : ({ y with joins := y.joins.set (Fin.ofNat 16 j) .free } : Warp).Resumed b f := ⟨h.free, h.level, h.dropped, h.quiet, h.slot⟩
    exact hj.place _ _
  · exact h

theorem Warp.Resumed.mergeAll (h : y.Resumed b f) (pref : Bool) : (y.mergeAll pref).Resumed b f := by
  rw [Warp.mergeAll_eq]
  exact List.foldlRecOn (motive := fun z => Warp.Resumed z b f) _ _ h (fun _ hz j _ => hz.mergeAt pref j)

theorem Warp.Resumed.refillSlot (h : y.Resumed b f) (c : Bool) : (y.refillSlot c).Resumed b f := by
  rcases y.refillSlot_cases c with he | ⟨g, r, hn, -, he⟩ <;> rw [he]
  · exact h
  · have hs := h.setSlot hn (some g)
    exact ⟨hs.free, hs.level, hs.dropped, hs.quiet, hs.slot⟩

theorem Warp.Resumed.refill (h : y.Resumed b f) : y.refill.Resumed b f := (h.refillSlot false).refillSlot true

theorem Warp.Resumed.freeWins (h : y.Resumed b f) : y.freeWins.Resumed b f := ⟨h.free, h.level, h.dropped, h.quiet, h.slot⟩

/-- 19 R432: the warp without its handler, the fragment in its slot. -/
def Kept.putBack (k : Kept) (f : Frag) (y : Warp) : Warp := ((((y.dropHandler k).setSlot k.slot (some f)).mergeAll (!k.slot)).refill).freeWins

/-- A warp at PL1 that leaves its handler has the fragment back that is put into its slot. -/
theorem Kept.putBack_resumed {k : Kept} (hp : y.plvl = 1) (hd : y.due = []) : (k.putBack f y).Resumed k.slot f := by
  have h : ((y.dropHandler k).setSlot k.slot (some f)).Resumed k.slot f :=
    ⟨by simp [Warp.dropHandler], by simp [Warp.dropHandler, hp], by simp [Warp.dropHandler], by simp [hd], by simp⟩
  exact ((h.mergeAll _).refill).freeWins

end

/-! ## The state after the return -/

section
variable {s : State} {g w : Nat} {y : Warp} {b : Bool} {f : Frag}

theorem Warp.Resumed.calm (h : y.Resumed b f) (hy : s.warp g w = some y) : ∀ z, s.warp g w = some z → z.intrap = true ∨ z.due = [] := fun z hz => by
  obtain rfl : y = z := Option.some.inj (hy.symm.trans hz)
  exact .inr h.quiet

theorem Warp.Resumed.setSched (h : y.Resumed b f) (hy : s.warp g w = some y) (x : Sched) :
    ∃ z, (s.setSched g w x).warp g w = some z ∧ z.Resumed b f := by
  refine ⟨if y.sched = x then y else { y with sched := x, since := s.uid }, ?_, ?_⟩
  · show (s.modWarp g w _).warp g w = _
    rw [State.warp_modWarp, hy, Option.map_some]
  · split
    · exact h
    · exact ⟨h.free, h.level, h.dropped, h.quiet, h.slot⟩

/-- 19 R432: TRET of a fragment that was not in a replay: it is back in its slot. -/
theorem State.tretResume_resumed {k : Kept} {skip retry : Bool} (hy : s.warp g w = some y) (hk : y.kept = some k) (hkind : k.kind ≠ .lane)
    (hrep : k.frag.replays = []) (hp : y.plvl = 1) (hd : y.due = []) :
    ∃ z, (s.tretResume g w skip retry).warp g w = some z ∧ z.Resumed k.slot (k.resume y.trap y.causes skip retry) := by
  simp only [State.tretResume, hy, hk, hkind, if_false, hrep, ite_self]
  set f := k.resume y.trap y.causes skip retry
  have hr : (k.putBack f y).Resumed k.slot f := Kept.putBack_resumed hp hd
  have ht : (s.modWarp g w (k.putBack f)).warp g w = some (k.putBack f y) := by rw [State.warp_modWarp, hy, Option.map_some]
  have hback : (fun z => ((((Warp.dropHandler z k).setSlot k.slot (some f)).mergeAll (!k.slot)).refill).freeWins) = k.putBack f := rfl
  simp only [hback, State.takeDue_calm _ _ _ (hr.calm ht), ht]
  split
  · exact hr.setSched ht .parked
  · exact ⟨_, ht, hr⟩

end

/-! ## TRET (19 R432) -/

section
variable {s : State} {v : View} {k : Kept}

/-- A TRET in the handler's own entry window at PL1 does what its action says. -/
theorem issue_tret (h : Issues s v) (hp : v.y.plvl = 1) (hk : v.y.kept = some k) (hw : v.f.win = k.hwin) (go : View → State) :
    issue s (fun v => v.tret (fun _ => go v)) = .next (v.finish (.ok (go v))) := by
  refine issue_finish h ?_
  simp only [View.tret, hp, hk, hw, if_true, ne_eq, not_true_eq_false, if_false]
  rfl

/-- The end of a TRET that resumes a fragment: the warp takes no other trap. -/
theorem View.finish_resumed {t : State} {y : Warp} {b : Bool} {f : Frag} (hy : t.warp v.r.g v.r.w = some y) (h : y.Resumed b f) :
    ∃ z, (v.finish (.ok t)).warp v.r.g v.r.w = some z ∧ z.intrap = false ∧ z.plvl = 0 ∧ z.kept = none ∧ z.slot b = some f := by
  refine ⟨{ y with last1 := v.r.slot }, ?_, h.free, h.level, h.dropped, h.slot⟩
  rw [View.finish_ok v t (h.calm hy), View.done, State.warp_modWarp, hy, Option.map_some]

end

theorem Kept.resume_fix {k : Kept} (t : TrapRegs) (l : List LaneCause) (hk : k.kind ≠ .lane) :
    k.resume t l false false = { k.frag with status := .ready, nowait := none } := by
  unfold Kept.resume
  simp only [Bool.false_eq_true, if_false, false_and]

theorem Kept.resume_skip {k : Kept} (t : TrapRegs) (l : List LaneCause) (hk : k.kind ≠ .lane) (hr : k.frag.replays = []) :
    k.resume t l true false = { k.frag with status := .ready, pc := t.fpc + 4, arrived := none } := by
  unfold Kept.resume
  simp only [if_true, hr]

/-- Settles O14: each TRET does what its action says, and the fragment that FIX and SKIP put back into its slot stays there. -/
theorem trapReturnResults : Obligations.TrapReturnResults := by
  have actions : ∀ (s : State) (v : View) (k : Kept), Issues s v → v.y.plvl = 1 → v.y.kept = some k → v.f.win = k.hwin → ∀ go : View → State,
      issue s (fun v => v.tret (fun _ => go v)) = .next (v.finish (.ok (go v))) := fun s v k h hp hk hw go => issue_tret h hp hk hw go
  refine ⟨fun s v k h hd hp hk hw hkind hrep _ => ⟨?fix, ?skip⟩, fun s v k h hp hk hw => ?_⟩
  case fix =>
    obtain ⟨y, hy, hr⟩ := State.tretResume_resumed (skip := false) (retry := false) h.warp hk hkind hrep hp hd
    rw [Kept.resume_fix _ _ hkind] at hr
    obtain ⟨z, hz, hfacts⟩ := View.finish_resumed hy hr
    exact ⟨_, z, issue_tret h hp hk hw _, hz, hfacts⟩
  case skip =>
    obtain ⟨y, hy, hr⟩ := State.tretResume_resumed (skip := true) (retry := false) h.warp hk hkind hrep hp hd
    rw [Kept.resume_skip _ _ hkind hrep] at hr
    obtain ⟨z, hz, hfacts⟩ := View.finish_resumed hy hr
    exact ⟨_, z, issue_tret h hp hk hw _, hz, hfacts⟩
  · have act := issue_tret h hp hk hw
    exact ⟨act _, act _, act _, act _, act _, act _⟩

end Sys2Proof.Machine
end

section
/-! O17: the page instructions (15 R366, R367, R369, R370). -/

namespace Sys2Proof.Machine

section
variable {s : State} {v : View} {d a b : Opnd} {wa wb : Bool} {ld la lb : Loc}

/-- The field of a register of eight names it (03 R54). -/
theorem View.idx8_ofNat (v : View) (k : Fin 8) : v.idx8 (BitVec.ofNat 7 k.val) = .ok k := by
  have hk : (BitVec.ofNat 7 k.val).toNat = k.val := by rw [BitVec.toNat_ofNat, Nat.mod_eq_of_lt (by omega)]
  rw [View.idx8, hk, if_pos k.isLt, Fin.ofNat_val_eq_self]

/-- 15 R367: BSET of a base register with a pointer and an extra value. -/
def View.bsetAt (v : View) (k : Fin 8) (p e : Nat) : Except Stop State :=
  if 2 ^ 16 ≤ e then .error (v.trap cILLOPND)
  else if 2 ^ 60 ≤ p then .error (v.trap cPGPROT p)
  else match v.s.xlateCore v.core v.c (p % 2 ^ 56) false (decide (v.y.plvl = 0)) with
    | .park => .error (v.parkPage (p % 2 ^ 56))
    | .fail c => .error (v.trap c (p % 2 ^ 56))
    | .uncorr => .error .tables
    | .ok _ leaf =>
      let r := v.s.baseOf (p % 2 ^ 56) (BitVec.ofNat 4 (p / 2 ^ 56)) (BitVec.ofNat 16 e) leaf
      .ok ((v.put { v.y with b := v.y.b.set k r }).tlbFill v.core v.c (p % 2 ^ 56) leaf)

theorem View.bsetAt_ok {k : Fin 8} {p e pa leaf : Nat} (he : e < 2 ^ 16) (hp : p < 2 ^ 60)
    (hx : v.s.xlateCore v.core v.c (p % 2 ^ 56) false (decide (v.y.plvl = 0)) = .ok pa leaf) :
    v.bsetAt k p e = .ok (
      let r := v.s.baseOf (p % 2 ^ 56) (BitVec.ofNat 4 (p / 2 ^ 56)) (BitVec.ofNat 16 e) leaf
      (v.put { v.y with b := v.y.b.set k r }).tlbFill v.core v.c (p % 2 ^ 56) leaf) := by
  rw [View.bsetAt, if_neg (Nat.not_le.mpr he), if_neg (Nat.not_le.mpr hp), hx]

theorem means_bset (k : Fin 8) (ha : v.Src kSx false a la) (hb : v.Src kSxZ false b lb) :
    Means s v (.bset (BitVec.ofNat 7 k.val) a b wa wb) (v.bsetAt k (v.y.scalarVal la).toNat (v.y.scalarVal lb).toNat) := by
  refine ⟨_, rfl, ?_⟩
  simp only [View.idx8_ofNat, ha.rd, hb.rd, View.sources_two ha.full ha.plain hb.full hb.plain, Stop.ok_bind]
  rfl

theorem means_binv (k : Fin 8) :
    Means s v (.binv (BitVec.ofNat 7 k.val)) (.ok (v.put { v.y with b := v.y.b.set k { v.y.b[k] with valid := false, fp := false } })) := by
  refine ⟨_, rfl, ?_⟩
  simp only [View.idx8_ofNat, Stop.ok_bind]

/-- 15 R369: TLBINV above PL0, with nothing outstanding that it waits for. -/
theorem means_tlbinv (ha : v.Src kSx false a la) (hb : v.Src kSxZ false b lb) (hp : v.y.plvl ≠ 0) (hf : v.Free) :
    Means s v (.tlbinv a b wa wb) (
      let n := (v.y.scalarVal lb).toNat
      let page := if n = 0 then 0 else vpage ((v.y.scalarVal la).toNat % 2 ^ 56)
      let count := if n = 0 then 2 ^ 42 else n
      .ok ((v.s.shootdown v.c page count).rejudge v.c page count)) := by
  have hfree : v.s.releaseWaits v.r.g v.r.w v.f.mask = false := hf
  refine ⟨_, rfl, ?_⟩
  simp only [ha.rd, hb.rd, View.sources_two ha.full ha.plain hb.full hb.plain, Stop.ok_bind, hp, if_false, hfree, Bool.false_eq_true]

/-- 15 R370: PGQRY of a pointer whose tables can be read. -/
theorem means_pgqry {x : Nat} (hd : v.Dst kSxZ false d ld) (ha : v.Src kSx false a la) (hx : v.s.pageQuery v.c (v.y.scalarVal la).toNat = some x) :
    Means s v (.pgqry d a wa) (.ok (v.put (v.y.setScalar ld (BitVec.ofNat 64 x)))) := by
  refine ⟨_, rfl, ?_⟩
  simp only [hd.names, ha.rd, View.sources_one ha.full ha.plain, Stop.ok_bind, hd.ready, hx]

end

/-- Settles O17: the fields are read, and each instruction comes to its effect. -/
theorem pageInstructionResults : Obligations.PageInstructionResults := by
  intro s v h
  refine ⟨fun k a b wa wb la lb pa leaf ha hb he hp => ?bset,
    fun k a b wa wb la lb ha hb => ⟨fun he => ?wide, fun he hp => ?high, fun c he hp hx => ?fails⟩,
    fun k => (means_binv k).puts h rfl rfl, fun a b wa wb la lb ha hb hp hf => (means_tlbinv ha hb hp hf).ok h,
    fun d a wa ld la x hd ha hx => (means_pgqry hd ha hx).puts h (by simp) (by simp)⟩
  case bset =>
    intro _ hx _
    have m := means_bset (s := s) (wa := wa) (wb := wb) k ha hb
    rw [View.bsetAt_ok he hp hx] at m
    exact m.ok h
  case wide =>
    refine Means.traps (code := cILLOPND) ?_ h (by decide)
    simpa only [View.bsetAt, he, if_true] using means_bset k ha hb
  case high =>
    refine Means.traps (code := cPGPROT) ?_ h (by decide)
    simpa only [View.bsetAt, he, if_false, hp, if_true] using means_bset k ha hb
  case fails =>
    refine Means.traps ?_ h (memoryCauses_ne_idxbound (State.xlateCore_failsAsAccess _ _ _ _ _ _ _ hx))
    simpa only [View.bsetAt, he, if_false, Nat.not_le.mpr hp, hx] using means_bset k ha hb

end Sys2Proof.Machine
end

section
/-! O18, O19 and O20: the memory instructions at issue (14 R314 to R331, 15 R355, R368). Each reads its fields, checks its order, its scope and its type, and
hands its lanes to the part that they share, which traps, waits or puts them in flight. -/

namespace Sys2Proof.Machine

/-! ## Words that are instructions (04 R92) -/

theorem WellWorded.ok {α : Type} (a : α) : WellWorded (.ok a : Except Stop α) := fun _ h => nomatch h

theorem WellWorded.bind {α β : Type} {r : Except Stop α} {k : α → Except Stop β} (hr : WellWorded r) (hk : ∀ a, r = .ok a → WellWorded (k a)) :
    WellWorded (r >>= k) := by
  cases r with
  | ok a => exact hk a rfl
  | error t => exact .of_error (hr t rfl)

theorem WellWorded.ite {α : Type} {c : Prop} [Decidable c] {r t : Except Stop α} (hr : WellWorded r) (ht : WellWorded t) :
    WellWorded (if c then r else t) := by
  split
  · exact hr
  · exact ht

theorem View.destReady_wellWorded (v : View) (l : Loc) : WellWorded (v.destReady l) := .ite (.of_error rfl) (.ok _)

/-- 04 R92: no check of the lanes asks for another word. -/
theorem View.launchMem_wellWorded (v : View) (q : MemReq) : WellWorded (v.launchMem q) := by
  unfold View.launchMem
  exact .ite (.of_error rfl) (.ite (.of_error rfl) (.ite (.of_error rfl) (.ite (.of_error rfl) (.ite (.of_error rfl) (.ite (.of_error rfl)
    (.ite (.of_error rfl) (.ok _)))))))

/-- 04 R92: the sources, seen with every register EMPTY, before something that asks for no other word. -/
theorem View.blank_sources_bind {α : Type} (v : View) (l : List Rd) {k : View → Except Stop α} (hk : WellWorded (k v.blank)) :
    WellWorded (v.blank.sources l >>= k) := by
  rcases v.blank_sources l with ⟨h, -⟩ | ⟨t, h, ht⟩ <;> rw [h]
  · exact hk
  · exact .of_error ht

/-! ## The lanes of an access (14 R317, R331, R345) -/

/-- 15 R355: the base register is invalid. -/
def MemReq.unbased (q : MemReq) : Bool := match q.space with
  | .mem b => !b.valid
  | _ => false

/-- The lanes that trap with ALIGN: TAGLD and TAGST take any address (15 R368). -/
def View.misFor (v : View) (q : MemReq) : List LaneAcc := if q.kind.isTag then [] else (v.accsOf q).filter (fun l => misaligned q.t l.addr l.bit)

/-- 14 R331: the lanes that reach past the end of their window. -/
def View.outFor (v : View) (q : MemReq) : List LaneAcc := match v.x.winSize q.space with
  | some n => (v.accsOf q).filter (fun l => decide (n < l.addr + elemBytes q.t l.bit))
  | none => []

section
variable {s : State} {v : View} {q : MemReq}

theorem View.launchMem_eq : v.launchMem q =
    if q.unbased then .error (v.trap cPGPROT (lowestAddr (v.accsOf q)))
    else if !(v.misFor q).isEmpty then .error (.trap cALIGN .issue (lowestAddr (v.misFor q)) (v.laneMask q.scalar (v.misFor q)))
    else if !(v.outFor q).isEmpty then .error (.trap cIDXBOUND .issue 0 (v.laneMask q.scalar (v.outFor q)))
    else if (v.x.winSize q.space).isNone ∧ v.y.held.isSome ∧ (q.kind.isAtomic ∨ !(v.stageBars q (v.accsOf q)).isEmpty) then
      .error (.trap cSTAGEFX .issue (lowestAddr (v.stageBars q (v.accsOf q)))
        (if q.kind.isAtomic then v.f.mask else v.laneMask q.scalar (v.stageBars q (v.accsOf q))))
    else if (v.x.winSize q.space).isNone ∧ 256 < v.s.entriesUsed v.core + linesOf (v.accsOf q) then .error v.hold
    else if q.space = .spad ∧ (v.accsOf q).any (fun l => v.x.absentAt l.addr (elemBytes q.t l.bit)) then .error v.park
    else if (v.accsOf q).any (v.s.hopFull v.core v.c (v.opOf q)) then .error v.hold
    else .ok (v.inFlight q) := rfl

/-- The base register of an access is valid, or it has none. -/
def MemReq.Based (q : MemReq) : Prop := ∀ b, q.space = .mem b → b.valid = true

theorem MemReq.Based.unbased (h : q.Based) : q.unbased = false := by
  unfold MemReq.unbased
  split
  · next b hb => simp [h b hb]
  · rfl

theorem MemReq.based_of_winSize {n : Nat} (h : v.x.winSize q.space = some n) : q.Based := fun b hb => by
  rw [hb] at h
  cases h

theorem View.misFor_eq_nil (h : q.kind.isTag = true ∨ (v.accsOf q).filter (fun l => misaligned q.t l.addr l.bit) = []) : v.misFor q = [] := by
  unfold View.misFor
  split
  · rfl
  · next hn => exact h.resolve_left hn

theorem View.misFor_of_plain (h : q.kind.isTag = false) : v.misFor q = (v.accsOf q).filter (fun l => misaligned q.t l.addr l.bit) := by
  simp only [View.misFor, h, Bool.false_eq_true, if_false]

theorem View.outFor_memory (h : v.x.winSize q.space = none) : v.outFor q = [] := by rw [View.outFor, h]

theorem View.outFor_window {n : Nat} (h : v.x.winSize q.space = some n) :
    v.outFor q = (v.accsOf q).filter (fun l => decide (n < l.addr + elemBytes q.t l.bit)) := by rw [View.outFor, h]

theorem View.Sound.misFor (h : v.Sound q) : v.misFor q = [] :=
  View.misFor_eq_nil (h.aligned.imp_right (fun ha => List.filter_eq_nil_iff.mpr (fun l hl => by simp [ha l hl])))

theorem View.Sound.outFor (h : v.Sound q) : v.outFor q = [] := by
  cases hn : v.x.winSize q.space with
  | none => exact View.outFor_memory hn
  | some n =>
    rw [View.outFor_window hn]
    exact List.filter_eq_nil_iff.mpr (fun l hl => by simp [h.inside n hn l hl])

/-! ### Each of the traps and waits -/

theorem View.launchMem_unbased {b : BaseReg} (hb : q.space = .mem b) (hv : b.valid = false) :
    v.launchMem q = .error (v.trap cPGPROT (lowestAddr (v.accsOf q))) := by
  have hu : q.unbased = true := by simp [MemReq.unbased, hb, hv]
  rw [View.launchMem_eq, if_pos hu]

theorem View.launchMem_misaligned (hb : q.Based) (hm : v.misFor q ≠ []) :
    v.launchMem q = .error (.trap cALIGN .issue (lowestAddr (v.misFor q)) (v.laneMask q.scalar (v.misFor q))) := by
  rw [View.launchMem_eq, if_neg (by simp [hb.unbased]), if_pos (by simpa using hm)]

theorem View.launchMem_outside (hb : q.Based) (hm : v.misFor q = []) (ho : v.outFor q ≠ []) :
    v.launchMem q = .error (.trap cIDXBOUND .issue 0 (v.laneMask q.scalar (v.outFor q))) := by
  rw [View.launchMem_eq, if_neg (by simp [hb.unbased]), if_neg (by simp [hm]), if_pos (by simpa using ho)]

theorem View.launchMem_staged (hb : q.Based) (hm : v.misFor q = []) (hw : v.x.winSize q.space = none) (hh : v.y.held.isSome = true)
    (hs : q.kind.isAtomic = true ∨ v.stageBars q (v.accsOf q) ≠ []) :
    v.launchMem q = .error (.trap cSTAGEFX .issue (lowestAddr (v.stageBars q (v.accsOf q)))
      (if q.kind.isAtomic then v.f.mask else v.laneMask q.scalar (v.stageBars q (v.accsOf q)))) := by
  rw [View.launchMem_eq, if_neg (by simp [hb.unbased]), if_neg (by simp [hm]), if_neg (by simp [View.outFor_memory hw]),
    if_pos ⟨by simp [hw], hh, hs.imp id (fun h => by simpa using h)⟩]

/-- An access that traps at no lane waits for entries, for its lines or for its first hop, or goes in flight. -/
theorem View.launchMem_sound (h : v.Sound q) : v.launchMem q =
    if (v.x.winSize q.space).isNone ∧ 256 < v.s.entriesUsed v.core + linesOf (v.accsOf q) then .error v.hold
    else if q.space = .spad ∧ (v.accsOf q).any (fun l => v.x.absentAt l.addr (elemBytes q.t l.bit)) then .error v.park
    else if (v.accsOf q).any (v.s.hopFull v.core v.c (v.opOf q)) then .error v.hold
    else .ok (v.inFlight q) := by
  have hb : q.Based := h.base
  have hstage : ¬((v.x.winSize q.space).isNone ∧ v.y.held.isSome ∧ (q.kind.isAtomic ∨ !(v.stageBars q (v.accsOf q)).isEmpty)) := by
    rintro ⟨hw, hh, hs⟩
    obtain ⟨hatomic, hbars⟩ := h.stage hh (Option.isNone_iff_eq_none.mp hw)
    simp [hatomic, hbars] at hs
  rw [View.launchMem_eq, if_neg (by simp [hb.unbased]), if_neg (by simp [h.misFor]), if_neg (by simp [h.outFor]), if_neg hstage]

/-- 14 R345: the request entries that an access to memory needs are there. -/
def View.Roomy (v : View) (q : MemReq) : Prop := v.x.winSize q.space = none → v.s.entriesUsed v.core + linesOf (v.accsOf q) ≤ 256

/-- 12 R285: no lane touches an absent scratchpad line. -/
def View.Filled (v : View) (q : MemReq) : Prop := q.space = .spad → ∀ l ∈ v.accsOf q, v.x.absentAt l.addr (elemBytes q.t l.bit) = false

theorem View.launchMem_full (h : v.Sound q) (hw : v.x.winSize q.space = none) (hr : 256 < v.s.entriesUsed v.core + linesOf (v.accsOf q)) :
    v.launchMem q = .error v.hold := by
  rw [View.launchMem_sound h, if_pos ⟨by simp [hw], hr⟩]

theorem View.Roomy.not_full (h : v.Roomy q) : ¬((v.x.winSize q.space).isNone ∧ 256 < v.s.entriesUsed v.core + linesOf (v.accsOf q)) := by
  rintro ⟨hw, hn⟩
  exact absurd (h (Option.isNone_iff_eq_none.mp hw)) (Nat.not_le.mpr hn)

theorem View.Filled.not_absent (h : v.Filled q) : ¬(q.space = .spad ∧ (v.accsOf q).any (fun l => v.x.absentAt l.addr (elemBytes q.t l.bit)) = true) := by
  rintro ⟨hs, ha⟩
  obtain ⟨l, hl, hal⟩ := List.any_eq_true.mp ha
  rw [h hs l hl] at hal
  cases hal

theorem View.launchMem_absent (h : v.Sound q) (hs : q.space = .spad) (ha : ∃ l ∈ v.accsOf q, v.x.absentAt l.addr (elemBytes q.t l.bit) = true) :
    v.launchMem q = .error v.park := by
  have hwin : ¬((v.x.winSize q.space).isNone ∧ 256 < v.s.entriesUsed v.core + linesOf (v.accsOf q)) := by simp [hs, Group.winSize]
  rw [View.launchMem_sound h, if_neg hwin, if_pos ⟨hs, List.any_eq_true.mpr ha⟩]

theorem View.launchMem_unsent (h : v.Sound q) (hr : v.Roomy q) (hf : v.Filled q) (ha : ∃ l ∈ v.accsOf q, v.s.hopFull v.core v.c (v.opOf q) l = true) :
    v.launchMem q = .error v.hold := by
  rw [View.launchMem_sound h, if_neg hr.not_full, if_neg hf.not_absent, if_pos (List.any_eq_true.mpr ha)]

theorem View.launchMem_accepted (h : v.Accepts q) : v.launchMem q = .ok (v.inFlight q) := by
  have hr : v.Roomy q := h.room
  have hf : v.Filled q := h.present
  have hhop : ¬(v.accsOf q).any (v.s.hopFull v.core v.c (v.opOf q)) = true := by
    rw [List.any_eq_true]
    rintro ⟨l, hl, ha⟩
    rw [h.hop l hl] at ha
    cases ha
  rw [View.launchMem_sound h.sound, if_neg hr.not_full, if_neg hf.not_absent, if_neg hhop]

/-! ### The warp of an access in flight -/

@[simp] theorem Warp.setEmpty_intrap (y : Warp) (l : Loc) : (y.setEmpty l).intrap = y.intrap := by cases l <;> rfl
@[simp] theorem Warp.setEmpty_due (y : Warp) (l : Loc) : (y.setEmpty l).due = y.due := by cases l <;> rfl

theorem View.warp_inFlight (v : View) (q : MemReq) (h : v.s.warp v.r.g v.r.w = some v.y) :
    (v.inFlight q).warp v.r.g v.r.w = some (v.y.setEmpty q.dst) := by
  have hg : (v.inFlight q).groups = (v.put (v.y.setEmpty q.dst)).groups := rfl
  rw [State.warp_congr hg, View.warp_put, h, Option.map_some]

/-- 17 R390: a warp in stage makes no atomic access to memory. -/
theorem View.stageBars_atomic (hh : v.y.held.isSome = true) (ha : q.kind.isAtomic = true) (ls : List LaneAcc) : v.stageBars q ls = ls := by
  unfold View.stageBars
  obtain ⟨h, hh⟩ := Option.isSome_iff_exists.mp hh
  cases hk : q.kind with
  | atomic op => simp only [hh]
  | _ => rw [hk] at ha; cases ha

/-- What an instruction comes to that hands its lanes to `View.launchMem`. -/
theorem View.accesses_of {i : Instr} {k : View → Except Stop State} (h : Issues s v) (hi : exec i s = issue s k) (hk : k v = v.launchMem q)
    (hb : WellWorded (k v.blank)) : v.accesses q i s := by
  have m : Means s v i (v.launchMem q) := ⟨k, hi, hk⟩
  refine ⟨fun ha => ?accepted, fun b hq hv => ?unbased, fun hbase ht hm => ?misaligned, fun n hn hm ho => ?outside,
    fun hbase hm hw hh => ⟨fun hat => ?atomic, fun hat hbars => ?barred⟩,
    fun hs => ⟨fun hw hr => ?full, fun hq ha => ?absent, fun hr hf ha => ?unsent⟩⟩
  case accepted =>
    rw [View.launchMem_accepted ha] at m
    exact m.done h (View.warp_inFlight v q h.warp) (Warp.setEmpty_intrap ..) (Warp.setEmpty_due ..)
  case unbased =>
    rw [View.launchMem_unbased hq hv] at m
    exact m.traps h (by decide)
  case misaligned =>
    rw [← View.misFor_of_plain ht] at hm ⊢
    rw [hi, issue_trap h (hk.trans (View.launchMem_misaligned hbase hm)) (fun hc => absurd hc.1 (by decide))]
    rfl
  case outside =>
    have hbase : q.Based := MemReq.based_of_winSize hn
    have ho' : v.outFor q ≠ [] := by rwa [View.outFor_window hn]
    rw [hi, issue_eq h, View.ordered_idx (hk.trans (View.launchMem_outside hbase (View.misFor_eq_nil hm) ho')) hb, View.outFor_window hn]
    rfl
  case atomic =>
    have hl : v.stageBars q (v.accsOf q) = v.accsOf q := View.stageBars_atomic hh hat _
    rw [hi, issue_trap h (hk.trans (View.launchMem_staged hbase (View.misFor_eq_nil hm) hw hh (.inl hat))) (fun hc => absurd hc.1 (by decide)), hl,
      if_pos hat]
    rfl
  case barred =>
    rw [hi, issue_trap h (hk.trans (View.launchMem_staged hbase (View.misFor_eq_nil hm) hw hh (.inr hbars))) (fun hc => absurd hc.1 (by decide)),
      if_neg (by simp [hat])]
    rfl
  case full =>
    rw [View.launchMem_full hs hw hr] at m
    exact m.holds h
  case absent =>
    rw [View.launchMem_absent hs hq ha] at m
    exact m.waits h
  case unsent =>
    rw [View.launchMem_unsent hs hr hf ha] at m
    exact m.holds h

end

/-! ## The checks of a memory instruction (14 R314 to R316, R326) -/

section
variable {v : View} {orders : List Nat} {lo : Nat} {scope : BitVec 3} {order : BitVec 2}

theorem View.orderOk_ok (h : orders.contains order.toNat = true ∧ lo ≤ scope.toNat ∧ scope.toNat ≤ 6) :
    v.orderOk orders lo scope order = .ok () := if_pos h

theorem View.orderOk_error (h : ¬(orders.contains order.toNat = true ∧ lo ≤ scope.toNat ∧ scope.toNat ≤ 6)) :
    v.orderOk orders lo scope order = .error (v.trap cILLOP) := if_neg h

theorem View.offOk_ok {d a : Opnd} (h : ¬(isScaOp d = true ∧ isVecOp a = true)) : v.offOk d a = .ok () := by
  rw [View.offOk, if_neg (by simpa using h)]

theorem View.offOk_error {d a : Opnd} (hd : isScaOp d = true) (ha : isVecOp a = true) : v.offOk d a = .error (v.trap cILLOPND) := by
  rw [View.offOk, if_pos (by simp [hd, ha])]

theorem View.winOf_ok {base : BitVec 3} {sp : Space} (h : winSpace base = some sp) (v : View) : v.winOf base = .ok sp := by
  unfold winSpace at h
  split at h <;> cases h <;> rfl

theorem View.winOf_error {base : BitVec 3} (h : winSpace base = none) (v : View) : v.winOf base = .error (v.trap cILLOPND) := by
  unfold winSpace at h
  split at h
  · cases h
  · cases h
  · cases h
  · next h0 h1 h2 =>
    unfold View.winOf
    split
    · next hb => exact absurd (BitVec.eq_of_toNat_eq hb) h0
    · next hb => exact absurd (BitVec.eq_of_toNat_eq hb) h1
    · next hb => exact absurd (BitVec.eq_of_toNat_eq hb) h2
    · rfl

/-- A base field selects a memory or a window, and does so whatever the index registers hold (04 R92). -/
structure View.Selects (v : View) (space : View → Except Stop Space) (sp : Space) : Prop where
  /-- as the registers stand -/
  here : space v = .ok sp
  /-- with every register EMPTY -/
  blank : space v.blank = .ok sp

theorem View.selects_memOf (v : View) (base : BitVec 3) : v.Selects (fun v => v.memOf base) (.mem v.y.b[Fin.ofNat 8 base.toNat]) := ⟨rfl, rfl⟩

theorem View.selects_winOf (v : View) {base : BitVec 3} {sp : Space} (h : winSpace base = some sp) : v.Selects (fun v => v.winOf base) sp :=
  ⟨View.winOf_ok h v, View.winOf_ok h v.blank⟩

theorem View.plainType_eq (v : View) : v.plainType = if v.plain then .ok () else .error (v.trap cILLTYPE) := by
  by_cases h : v.et < 12
  · simp [View.plainType, View.plain, tyNarrow, h, Nat.not_le.mpr h]
  · simp [View.plainType, View.plain, tyNarrow, h, Nat.not_lt.mp h]

theorem View.typeIf_eq (v : View) (f : Nat → Bool) : v.typeIf f = if v.plain && f v.et then .ok () else .error (v.trap cILLTYPE) := by
  by_cases h : v.et < 12
  · cases hf : f v.et <;> simp [View.typeIf, View.plain, tyNarrow, h, Nat.not_le.mpr h, hf]
  · simp [View.typeIf, View.plain, tyNarrow, h, Nat.not_lt.mp h]

end

/-! ## LD, LDS and LDC (14 R321, R322) -/

section
variable {s : State} {v : View} {kind : MemKind} {space : View → Except Stop Space} {sp : Space} {orders : List Nat} {scope : BitVec 3}
  {order : BitVec 2} {d a : Opnd} {wd wa : Bool} {l la : Loc} {i : Instr}

/-- The order and the scope of a load; the scope field of LDC is its count. -/
def View.loadOrder (v : View) (kind : MemKind) (orders : List Nat) (scope : BitVec 3) (order : BitVec 2) : Except Stop Unit :=
  match kind with
  | .ldc _ => if order ≠ 0 then .error (v.trap cILLOP) else .ok ()
  | _ => v.orderOk orders 0 scope order

/-- A load as its words give it. -/
def View.loadReq (v : View) (kind : MemKind) (sp : Space) (scope : BitVec 3) (order : BitVec 2) (d a : Opnd) (l la : Loc) : MemReq :=
  { kind := kind, space := sp, scope := match kind with
      | .ldc _ => 2
      | _ => scope.toNat,
    acq := decide (order.toNat = 1), rel := false, scalar := scalarAccess d a, t := v.et, off := la, data := .zero, new := .zero, dst := l }

/-- A load whose fields name registers. -/
theorem View.load_eq (hl : v.resolveDst kVSZ (tyWide v.et) d = .ok l) (ha : v.resolve kOff false a = .ok la)
    (ho : ¬(isScaOp d = true ∧ isVecOp a = true)) (sp : Except Stop Space) :
    v.load kind sp orders scope order d a wa = (do
      let sp ← sp
      v.loadOrder kind orders scope order
      let v ← v.sources [{ loc := la, wait := wa, code := a.toCode.toNat }]
      v.destReady l
      v.launchMem (v.loadReq kind sp scope order d a l la)) := by
  simp only [View.load, hl, View.rd, ha, View.offOk_ok ho, Stop.ok_bind, View.loadOrder]
  cases sp with
  | error t => rfl
  | ok sp =>
    cases kind with
    | ldc n =>
      by_cases h : order ≠ 0
      · simp only [Stop.ok_bind, if_pos h]
        rfl
      · simp only [Stop.ok_bind, if_neg h]
        rfl
    | _ => rfl

theorem View.load_shape (hl : v.resolveDst kVSZ (tyWide v.et) d = .ok l) (ha : v.resolve kOff false a = .ok la) (hd : isScaOp d = true)
    (hv : isVecOp a = true) (sp : Except Stop Space) : v.load kind sp orders scope order d a wa = .error (v.trap cILLOPND) := by
  simp only [View.load, hl, View.rd, ha, View.offOk_error hd hv, Stop.ok_bind, Stop.error_bind]

theorem View.load_wellWorded (hl : v.resolveDst kVSZ (tyWide v.et) d = .ok l) (ha : v.resolve kOff false a = .ok la)
    (ho : ¬(isScaOp d = true ∧ isVecOp a = true)) {r : Except Stop Space} (hr : r = .ok sp) (hc : v.blank.loadOrder kind orders scope order = .ok ()) :
    WellWorded (v.blank.load kind r orders scope order d a wa) := by
  obtain ⟨l', hl'⟩ := View.blank_resolveDst hl
  obtain ⟨la', ha'⟩ := View.blank_resolve ha
  rw [View.load_eq hl' ha' ho, hr, Stop.ok_bind, hc, Stop.ok_bind]
  exact v.blank_sources_bind _ (.bind (View.destReady_wellWorded _ _) (fun _ _ => View.launchMem_wellWorded _ _))

/-- 14 R321, R322: a load whose fields can be read, of an order and a scope that it takes. -/
theorem View.load_accesses (h : MemFields s v d a la) (hd : v.Dst kVSZ (tyWide v.et) d l) (hs : v.Selects space sp)
    (hc : ∀ u : View, u.loadOrder kind orders scope order = .ok ()) (hi : exec i s = issue s (fun v => v.load kind (space v) orders scope order d a wa)) :
    v.accesses (v.loadReq kind sp scope order d a l la) i s := by
  obtain ⟨hissue, hoff, hshape⟩ := h
  refine View.accesses_of hissue hi ?_ (View.load_wellWorded hd.names hoff.names hshape hs.blank (hc _))
  simp only [View.load_eq hd.names hoff.names hshape, hs.here, hc, View.sources_one hoff.full hoff.plain, hd.ready, Stop.ok_bind]

/-- 14 R314: a load of another order or scope is no instruction. -/
theorem View.load_misordered (h : MemFields s v d a la) (hl : v.resolveDst kVSZ (tyWide v.et) d = .ok l) (hs : space v = .ok sp)
    (hc : v.loadOrder kind orders scope order = .error (v.trap cILLOP))
    (hi : exec i s = issue s (fun v => v.load kind (space v) orders scope order d a wa)) : exec i s = v.trapped cILLOP 0 v.f.mask := by
  obtain ⟨hissue, hoff, hshape⟩ := h
  rw [hi, issue_trapped hissue (code := cILLOP) (n := 0) ?_ (by decide)]
  simp only [View.load_eq hl hoff.names hshape, hs, hc, Stop.ok_bind, Stop.error_bind]

/-- 03 R51: a window field above 2 is no operand. -/
theorem View.load_unwindowed (h : MemFields s v d a la) (hl : v.resolveDst kVSZ (tyWide v.et) d = .ok l) (hs : space v = .error (v.trap cILLOPND))
    (hi : exec i s = issue s (fun v => v.load kind (space v) orders scope order d a wa)) : exec i s = v.trapped cILLOPND 0 v.f.mask := by
  obtain ⟨hissue, hoff, hshape⟩ := h
  rw [hi, issue_trapped hissue (code := cILLOPND) (n := 0) ?_ (by decide)]
  simp only [View.load_eq hl hoff.names hshape, hs, Stop.error_bind]

/-- 14 R316: a scalar destination beside a vector offset is no operand. -/
theorem View.load_misshaped {r : View → Except Stop Space} (h : Issues s v) (hl : v.resolveDst kVSZ (tyWide v.et) d = .ok l)
    (ha : v.resolve kOff false a = .ok la) (hd : isScaOp d = true) (hv : isVecOp a = true)
    (hi : exec i s = issue s (fun v => v.load kind (r v) orders scope order d a wa)) : exec i s = v.trapped cILLOPND 0 v.f.mask := by
  rw [hi, issue_trapped h (View.load_shape hl ha hd hv _) (by decide)]

/-! ## ST and STS (14 R321, R323) -/

/-- A store as its words give it. -/
def View.storeReq (v : View) (sp : Space) (scope : BitVec 3) (order : BitVec 2) (d a : Opnd) (l la : Loc) : MemReq :=
  { kind := .store, space := sp, scope := scope.toNat, acq := false, rel := decide (order.toNat = 2), scalar := scalarAccess d a, t := v.et,
    off := la, data := l, new := .zero, dst := .zero }

theorem View.store_eq (hl : v.resolve kData (tyWide v.et) d = .ok l) (ha : v.resolve kOff false a = .ok la)
    (ho : ¬(isScaOp d = true ∧ isVecOp a = true)) (sp : Except Stop Space) :
    v.store sp scope order d a wd wa = (do
      let sp ← sp
      v.orderOk [0, 2] 0 scope order
      let v ← v.sources [{ loc := l, wait := wd, code := d.toCode.toNat }, { loc := la, wait := wa, code := a.toCode.toNat }]
      v.launchMem (v.storeReq sp scope order d a l la)) := by
  simp only [View.store, View.rd, hl, ha, View.offOk_ok ho, Stop.ok_bind]
  rfl

theorem View.store_shape (hl : v.resolve kData (tyWide v.et) d = .ok l) (ha : v.resolve kOff false a = .ok la) (hd : isScaOp d = true)
    (hv : isVecOp a = true) (sp : Except Stop Space) : v.store sp scope order d a wd wa = .error (v.trap cILLOPND) := by
  simp only [View.store, View.rd, hl, ha, View.offOk_error hd hv, Stop.ok_bind, Stop.error_bind]

theorem View.store_accesses (h : MemFields s v d a la) (hd : v.Src kData (tyWide v.et) d l) (hs : v.Selects space sp)
    (hc : ∀ u : View, u.orderOk [0, 2] 0 scope order = .ok ()) (hi : exec i s = issue s (fun v => v.store (space v) scope order d a wd wa)) :
    v.accesses (v.storeReq sp scope order d a l la) i s := by
  obtain ⟨hissue, hoff, hshape⟩ := h
  refine View.accesses_of hissue hi ?_ ?_
  · simp only [View.store_eq hd.names hoff.names hshape, hs.here, hc, View.sources_two hd.full hd.plain hoff.full hoff.plain, Stop.ok_bind]
  · obtain ⟨l', hl'⟩ := View.blank_resolve hd.names
    obtain ⟨la', ha'⟩ := View.blank_resolve hoff.names
    rw [View.store_eq hl' ha' hshape, hs.blank, Stop.ok_bind, hc, Stop.ok_bind]
    exact v.blank_sources_bind _ (View.launchMem_wellWorded _ _)

theorem View.store_misordered (h : MemFields s v d a la) (hl : v.resolve kData (tyWide v.et) d = .ok l) (hs : space v = .ok sp)
    (hc : v.orderOk [0, 2] 0 scope order = .error (v.trap cILLOP))
    (hi : exec i s = issue s (fun v => v.store (space v) scope order d a wd wa)) : exec i s = v.trapped cILLOP 0 v.f.mask := by
  obtain ⟨hissue, hoff, hshape⟩ := h
  rw [hi, issue_trapped hissue (code := cILLOP) (n := 0) ?_ (by decide)]
  simp only [View.store_eq hl hoff.names hshape, hs, hc, Stop.ok_bind, Stop.error_bind]

theorem View.store_unwindowed (h : MemFields s v d a la) (hl : v.resolve kData (tyWide v.et) d = .ok l) (hs : space v = .error (v.trap cILLOPND))
    (hi : exec i s = issue s (fun v => v.store (space v) scope order d a wd wa)) : exec i s = v.trapped cILLOPND 0 v.f.mask := by
  obtain ⟨hissue, hoff, hshape⟩ := h
  rw [hi, issue_trapped hissue (code := cILLOPND) (n := 0) ?_ (by decide)]
  simp only [View.store_eq hl hoff.names hshape, hs, Stop.error_bind]

theorem View.store_misshaped (h : Issues s v) (hl : v.resolve kData (tyWide v.et) d = .ok l)
    (ha : v.resolve kOff false a = .ok la) (hd : isScaOp d = true) (hv : isVecOp a = true)
    (hi : exec i s = issue s (fun v => v.store (space v) scope order d a wd wa)) : exec i s = v.trapped cILLOPND 0 v.f.mask := by
  rw [hi, issue_trapped h (View.store_shape hl ha hd hv _) (by decide)]

end

/-! ## Atomics (14 R326, R327) -/

section
variable {s : State} {v : View} {op : AtOp} {spad : Bool} {space : View → Except Stop Space} {sp : Space} {scope : BitVec 3} {order : BitVec 2}
  {d a : Opnd} {wd wa : Bool} {l la new : Loc} {i : Instr}

/-- 14 R327: the new value of an atomic, which a compare and swap alone has. -/
def View.atomicNew (v : View) (op : AtOp) (d : Opnd) : Except Stop Loc := if op = .cas then v.casNew (tyWide v.et) d else .ok .zero

/-- An atomic as its words give it. -/
def View.atomicReq (v : View) (op : AtOp) (sp : Space) (scope : BitVec 3) (order : BitVec 2) (d a : Opnd) (l la new : Loc) : MemReq :=
  { kind := .atomic op, space := sp, scope := scope.toNat, acq := order.getLsbD 0, rel := order.getLsbD 1, scalar := scalarAccess d a, t := v.et,
    off := la, data := l, new := new, dst := l }

theorem View.atomic_eq (hl : v.resolveDst kVSZ (tyWide v.et) d = .ok l) (hn : v.atomicNew op d = .ok new) (ha : v.resolve kOff false a = .ok la)
    (ho : ¬(isScaOp d = true ∧ isVecOp a = true)) (sp : Except Stop Space) :
    v.atomic op spad sp scope order d a wd wa = (do
      let sp ← sp
      v.orderOk [0, 1, 2, 3] 0 scope order
      v.typeIf (atTypes op spad)
      let v ← v.sources [{ loc := l, wait := wd, code := d.toCode.toNat }, { loc := new, wait := wd, code := d.toCode.toNat + 1 },
        { loc := la, wait := wa, code := a.toCode.toNat }]
      v.destReady l
      v.launchMem (v.atomicReq op sp scope order d a l la new)) := by
  unfold View.atomicNew at hn
  simp only [View.atomic, hl, View.rd, ha, View.offOk_ok ho, Stop.ok_bind]
  by_cases hcas : op = .cas
  · rw [if_pos hcas] at hn ⊢
    rw [hn]
    rfl
  · rw [if_neg hcas] at hn ⊢
    cases hn
    rfl

/-- 14 R327: a register that has a next one has it whatever the index registers hold (04 R92). -/
theorem Window.name_next {w : Window} {wide : Bool} {i : Nat} {n : List Nat} (h : w.name wide i = some n) {j : Nat} (hj : j ≤ i)
    (he : wide = true → j % 2 = 0) :
    ∃ n', w.name wide j = some n' := by
  unfold Window.name at h ⊢
  cases wide with
  | false =>
    simp only [Bool.false_eq_true, if_false, Option.map_eq_some_iff] at h ⊢
    obtain ⟨a, ha, -⟩ := h
    have hlt := (List.getElem?_eq_some_iff.mp ha).1
    exact ⟨_, w.regs[j], by simp [show j < w.regs.length by omega], rfl⟩
  | true =>
    simp only [if_true] at h ⊢
    split at h
    · next b _ hb =>
      have hlt := (List.getElem?_eq_some_iff.mp hb).1
      exact ⟨[w.regs[j], w.regs[j + 1]], by simp [show j < w.regs.length by omega, show j + 1 < w.regs.length by omega, he rfl]⟩
    · cases h

theorem View.blank_casNew {wide : Bool} (h : v.casNew wide d = .ok new) : ∃ n, v.blank.casNew wide d = .ok n := by
  cases d with
  | vx j =>
    have hx : (v.blank.y.x[if j = 0 then (0 : Fin 4) else 1]).toNat = 0 := by split <;> simp [View.blank]
    have hw : v.blank.vxWin j = v.vxWin j := rfl
    simp only [View.casNew, hw, hx] at h ⊢
    generalize (v.y.x[if j = 0 then (0 : Fin 4) else 1]).toNat = n at h
    split at h
    · cases h
    · split at h
      · next hname =>
        obtain ⟨n, hn⟩ := Window.name_next hname (j := if wide then 2 else 1) (by cases wide <;> simp) (by rintro rfl; rfl)
        exact ⟨.vec n, by cases wide <;> simp_all⟩
      · cases h
  | _ => exact ⟨new, h⟩

/-- A destination is no word queue (03 R67). -/
theorem View.Dst.plain {k : Kinds} {wide : Bool} {o : Opnd} (h : v.Dst k wide o l) (j : Fin 32) (hj : l = .sca j) : v.y.mapped j = none := by
  have hn := h.names
  unfold View.resolveDst at hn
  cases hr : v.resolve { k with one := false, mone := false, lane := false } wide o with
  | error t => rw [hr] at hn; cases hn
  | ok l0 =>
    rw [hr, Stop.ok_bind] at hn
    split at hn
    · next i =>
      split at hn
      · cases hn
      · next hm => cases hn; cases hj; simpa using hm
    · next hne => cases hn; exact absurd hj (hne j)

/-- 14 R314: an atomic takes every order. -/
theorem order_any : ∀ order : BitVec 2, [0, 1, 2, 3].contains order.toNat = true := by decide

theorem View.atomic_accesses (h : MemFields s v d a la) (hd : v.Dst kVSZ (tyWide v.et) d l) (hf : ∀ f ∈ v.y.fills l, f = .full)
    (hn : v.atomicNew op d = .ok new) (hnf : ∀ f ∈ v.y.fills new, f = .full) (hnp : ∀ j, new = .sca j → v.y.mapped j = none)
    (hs : v.Selects space sp) (hc : scope.toNat < 7) (ht : (v.plain && atTypes op spad v.et) = true)
    (hi : exec i s = issue s (fun v => v.atomic op spad (space v) scope order d a wd wa)) :
    v.accesses (v.atomicReq op sp scope order d a l la new) i s := by
  obtain ⟨hissue, hoff, hshape⟩ := h
  have hord : ∀ u : View, u.orderOk [0, 1, 2, 3] 0 scope order = .ok () := fun u => View.orderOk_ok ⟨order_any _, Nat.zero_le _, by omega⟩
  have htype : v.typeIf (atTypes op spad) = .ok () := by rw [View.typeIf_eq, ht, if_pos rfl]
  refine View.accesses_of hissue hi ?_ ?_
  · simp only [View.atomic_eq hd.names hn hoff.names hshape, hs.here, hord, htype, Stop.ok_bind]
    rw [View.sources_full, Stop.ok_bind, hd.ready, Stop.ok_bind]
    simp only [List.forall_mem_cons, List.not_mem_nil, false_imp_iff, implies_true, and_true]
    exact ⟨⟨hf, hd.plain⟩, ⟨hnf, hnp⟩, ⟨hoff.full, hoff.plain⟩⟩
  · obtain ⟨l', hl'⟩ := View.blank_resolveDst hd.names
    obtain ⟨la', ha'⟩ := View.blank_resolve hoff.names
    obtain ⟨n', hn'⟩ : ∃ n, v.blank.atomicNew op d = .ok n := by
      unfold View.atomicNew at hn ⊢
      split at hn
      · next hcas => rw [if_pos hcas]; exact View.blank_casNew hn
      · next hcas => rw [if_neg hcas]; exact ⟨_, rfl⟩
    have htype' : v.blank.typeIf (atTypes op spad) = .ok () := htype
    rw [View.atomic_eq hl' hn' ha' hshape, hs.blank, Stop.ok_bind, hord, Stop.ok_bind, htype', Stop.ok_bind]
    exact v.blank_sources_bind _ (.bind (View.destReady_wellWorded _ _) (fun _ _ => View.launchMem_wellWorded _ _))

/-- 14 R314: scope 7 is no scope. -/
theorem View.atomic_unscoped (h : MemFields s v d a la) (hl : v.resolveDst kVSZ (tyWide v.et) d = .ok l) (hn : v.atomicNew op d = .ok new)
    (hs : space v = .ok sp) (hc : scope = 7) (hi : exec i s = issue s (fun v => v.atomic op spad (space v) scope order d a wd wa)) :
    exec i s = v.trapped cILLOP 0 v.f.mask := by
  obtain ⟨hissue, hoff, hshape⟩ := h
  have hord : v.orderOk [0, 1, 2, 3] 0 scope order = .error (v.trap cILLOP) := View.orderOk_error (fun ho => by simp [hc] at ho)
  rw [hi, issue_trapped hissue (code := cILLOP) (n := 0) ?_ (by decide)]
  simp only [View.atomic_eq hl hn hoff.names hshape, hs, hord, Stop.ok_bind, Stop.error_bind]

/-- 14 R326: a type that the atomic does not take. -/
theorem View.atomic_untyped (h : MemFields s v d a la) (hl : v.resolveDst kVSZ (tyWide v.et) d = .ok l) (hn : v.atomicNew op d = .ok new)
    (hs : space v = .ok sp) (hc : scope.toNat < 7) (ht : (v.plain && atTypes op spad v.et) = false)
    (hi : exec i s = issue s (fun v => v.atomic op spad (space v) scope order d a wd wa)) : exec i s = v.trapped cILLTYPE 0 v.f.mask := by
  obtain ⟨hissue, hoff, hshape⟩ := h
  have hord : v.orderOk [0, 1, 2, 3] 0 scope order = .ok () := View.orderOk_ok ⟨order_any _, Nat.zero_le _, by omega⟩
  have htype : v.typeIf (atTypes op spad) = .error (v.trap cILLTYPE) := by rw [View.typeIf_eq, ht, if_neg Bool.false_ne_true]
  rw [hi, issue_trapped hissue (code := cILLTYPE) (n := 0) ?_ (by decide)]
  simp only [View.atomic_eq hl hn hoff.names hshape, hs, hord, htype, Stop.ok_bind, Stop.error_bind]

theorem View.atomic_unwindowed (h : MemFields s v d a la) (hl : v.resolveDst kVSZ (tyWide v.et) d = .ok l) (hn : v.atomicNew op d = .ok new)
    (hs : space v = .error (v.trap cILLOPND))
    (hi : exec i s = issue s (fun v => v.atomic op spad (space v) scope order d a wd wa)) : exec i s = v.trapped cILLOPND 0 v.f.mask := by
  obtain ⟨hissue, hoff, hshape⟩ := h
  rw [hi, issue_trapped hissue (code := cILLOPND) (n := 0) ?_ (by decide)]
  simp only [View.atomic_eq hl hn hoff.names hshape, hs, Stop.error_bind]

/-- 14 R327: a compare and swap finds its next register, or is none. -/
theorem View.casNew_cases (v : View) (wide : Bool) (d : Opnd) : (∃ n, v.casNew wide d = .ok n) ∨ v.casNew wide d = .error (v.trap cILLOPND) := by
  unfold View.casNew
  dsimp only
  split
  case h_3 =>
    split
    · exact .inl ⟨_, rfl⟩
    · exact .inr rfl
  case h_4 => exact .inr rfl
  case' h_2 j => generalize (v.y.x[if j = 0 then (0 : Fin 4) else 1]).toNat = n
  all_goals
    split
    · exact .inr rfl
    · split
      · exact .inl ⟨_, rfl⟩
      · exact .inr rfl

theorem View.atomic_unpaired (h : Issues s v) (hl : v.resolveDst kVSZ (tyWide v.et) d = .ok l) (hn : ∀ n, v.casNew (tyWide v.et) d ≠ .ok n)
    (hi : exec i s = issue s (fun v => v.atomic .cas spad (space v) scope order d a wd wa)) : exec i s = v.trapped cILLOPND 0 v.f.mask := by
  rw [hi, issue_trapped h (code := cILLOPND) (n := 0) ?_ (by decide)]
  simp only [View.atomic, hl, Stop.ok_bind, if_true, (v.casNew_cases _ d).resolve_left (fun ⟨n, h⟩ => hn n h), Stop.error_bind]

theorem View.atomic_misshaped (h : Issues s v) (hl : v.resolveDst kVSZ (tyWide v.et) d = .ok l) (ho : op ≠ .cas)
    (ha : v.resolve kOff false a = .ok la) (hd : isScaOp d = true) (hv : isVecOp a = true)
    (hi : exec i s = issue s (fun v => v.atomic op spad (space v) scope order d a wd wa)) : exec i s = v.trapped cILLOPND 0 v.f.mask := by
  rw [hi, issue_trapped h (code := cILLOPND) (n := 0) ?_ (by decide)]
  simp only [View.atomic, hl, Stop.ok_bind, if_neg ho, View.rd, ha, View.offOk_error hd hv, Stop.error_bind]

/-- 14 R314, R326: what an atomic comes to whose fields can be read: its scope, its type and its lanes are checked in turn. -/
theorem View.atomic_goes (h : MemFields s v d a la) (hd : v.Dst kVSZ (tyWide v.et) d l) (hf : ∀ f ∈ v.y.fills l, f = .full)
    (hn : v.atomicNew op d = .ok new) (hnf : ∀ f ∈ v.y.fills new, f = .full) (hnp : ∀ j, new = .sca j → v.y.mapped j = none)
    (hs : v.Selects space sp) (hi : exec i s = issue s (fun v => v.atomic op spad (space v) scope order d a wd wa)) :
    (scope = 7 → exec i s = v.trapped 0x01 0 v.f.mask) ∧
    (scope.toNat < 7 → (v.plain && atTypes op spad v.et) = false → exec i s = v.trapped 0x03 0 v.f.mask) ∧
    (scope.toNat < 7 → (v.plain && atTypes op spad v.et) = true → v.accesses (v.atomicReq op sp scope order d a l la new) i s) :=
  ⟨fun hc => View.atomic_unscoped h hd.names hn hs.here hc hi, fun hc ht => View.atomic_untyped h hd.names hn hs.here hc ht hi,
    fun hc ht => View.atomic_accesses h hd hf hn hnf hnp hs hc ht hi⟩

end

/-- 14 R326: the atomics of memory but for the compare and swap. -/
theorem exec_atomicTable {s : State} {scope : BitVec 3} {order : BitVec 2} {d a : Opnd} {base : BitVec 3} {wd wa : Bool} {e : Instr × AtOp}
    (h : e ∈ atomicTable scope order d a base wd wa) :
    e.2 ≠ .cas ∧ exec e.1 s = issue s (fun v => v.atomic e.2 false (v.memOf base) scope order d a wd wa) := by
  simp only [atomicTable, List.mem_cons, List.not_mem_nil, or_false] at h
  rcases h with rfl | rfl | rfl | rfl | rfl | rfl | rfl <;> exact ⟨nofun, rfl⟩

/-- 14 R326: the atomics of a window but for the compare and swap. -/
theorem exec_spadAtomicTable {s : State} {scope : BitVec 3} {order : BitVec 2} {d a : Opnd} {base : BitVec 3} {wd wa : Bool} {e : Instr × AtOp}
    (h : e ∈ spadAtomicTable scope order d a base wd wa) :
    e.2 ≠ .cas ∧ exec e.1 s = issue s (fun v => v.atomic e.2 true (v.winOf base) scope order d a wd wa) := by
  simp only [spadAtomicTable, List.mem_cons, List.not_mem_nil, or_false] at h
  rcases h with rfl | rfl | rfl <;> exact ⟨nofun, rfl⟩

/-- Settles O18: the fields, the order, the scope and the type are checked, and the lanes go as `View.accesses_of` says. -/
theorem memoryAccessesGoInFlight : Obligations.MemoryAccessesGoInFlight := by
  refine ⟨fun s v scope order d a base wd wa la h => ⟨fun ld hd => ?loads, fun ld hd => ?stores⟩,
    fun s v scope order d a base wd wa la ld h hd hf => ?atomics⟩
  case loads =>
    refine ⟨fun ho hc => ?taken, fun hbad => ?misordered, fun hw => View.load_unwindowed h hd.names (View.winOf_error hw v) rfl,
      fun ho => View.load_accesses h hd (v.selects_memOf base) (fun _ => if_neg (by simp [ho])) rfl,
      fun ho => View.load_misordered (kind := .ldc scope.toNat) (orders := [0]) h hd.names (v.selects_memOf base).here (if_pos ho) rfl⟩
    case taken =>
      have hord : ∀ u : View, u.loadOrder .load [0, 1] scope order = .ok () := fun u =>
        View.orderOk_ok ⟨by simpa using by omega, Nat.zero_le _, by omega⟩
      exact ⟨View.load_accesses h hd (v.selects_memOf base) hord rfl, fun sp hsp => View.load_accesses h hd (v.selects_winOf hsp) hord rfl⟩
    case misordered =>
      have hord : v.loadOrder .load [0, 1] scope order = .error (v.trap cILLOP) := View.orderOk_error (fun ⟨ho, _, hc⟩ => by
        have ho : order.toNat = 0 ∨ order.toNat = 1 := by simpa using ho
        rcases hbad with hbad | hbad
        · omega
        · simp [hbad] at hc)
      refine ⟨View.load_misordered h hd.names (v.selects_memOf base).here hord rfl, fun hw => ?_⟩
      obtain ⟨sp, hsp⟩ := Option.isSome_iff_exists.mp hw
      exact View.load_misordered h hd.names (v.selects_winOf hsp).here hord rfl
  case stores =>
    refine ⟨fun ⟨ho, hc⟩ => ?taken, fun hbad => ?misordered, fun hw => View.store_unwindowed h hd.names (View.winOf_error hw v) rfl⟩
    case taken =>
      have hord : ∀ u : View, u.orderOk [0, 2] 0 scope order = .ok () := fun u => by
        refine View.orderOk_ok ⟨?_, Nat.zero_le _, by omega⟩
        rcases ho with rfl | rfl <;> rfl
      exact ⟨View.store_accesses h hd (v.selects_memOf base) hord rfl, fun sp hsp => View.store_accesses h hd (v.selects_winOf hsp) hord rfl⟩
    case misordered =>
      have hord : v.orderOk [0, 2] 0 scope order = .error (v.trap cILLOP) := View.orderOk_error (fun ⟨ho, _, hc⟩ => hbad ⟨?_, by omega⟩)
      · refine ⟨View.store_misordered h hd.names (v.selects_memOf base).here hord rfl, fun hw => ?_⟩
        obtain ⟨sp, hsp⟩ := Option.isSome_iff_exists.mp hw
        exact View.store_misordered h hd.names (v.selects_winOf hsp).here hord rfl
      · have ho : order.toNat = 0 ∨ order.toNat = 2 := by simpa using ho
        exact ho.imp BitVec.eq_of_toNat_eq BitVec.eq_of_toNat_eq
  case atomics =>
    have hzero : ∀ op, op ≠ .cas → v.atomicNew op d = .ok .zero := fun _ ho => if_neg ho
    have hfill : ∀ f ∈ v.y.fills .zero, f = .full := fun _ hf => nomatch hf
    have hplain : ∀ j, Loc.zero = .sca j → v.y.mapped j = none := fun _ hj => nomatch hj
    refine ⟨fun e he => ?memory, fun e he => ⟨fun sp hsp => ?window, fun hw => ?none⟩,
      fun new hn hnf hnp => ⟨?cas, fun sp hsp => ?scas, fun hw => ?unwindowed⟩, fun hn => ?unpaired⟩
    case memory =>
      obtain ⟨hop, hi⟩ := exec_atomicTable he
      exact View.atomic_goes h hd hf (hzero _ hop) hfill hplain (v.selects_memOf base) hi
    case window =>
      obtain ⟨hop, hi⟩ := exec_spadAtomicTable he
      exact View.atomic_goes h hd hf (hzero _ hop) hfill hplain (v.selects_winOf hsp) hi
    case none =>
      obtain ⟨hop, hi⟩ := exec_spadAtomicTable he
      exact View.atomic_unwindowed h hd.names (hzero _ hop) (View.winOf_error hw v) hi
    case cas => exact View.atomic_goes h hd hf hn hnf hnp (v.selects_memOf base) rfl
    case scas => exact View.atomic_goes h hd hf hn hnf hnp (v.selects_winOf hsp) rfl
    case unwindowed => exact View.atomic_unwindowed (op := .cas) h hd.names hn (View.winOf_error hw v) rfl
    case unpaired => exact ⟨View.atomic_unpaired h.issues hd.names hn rfl, View.atomic_unpaired h.issues hd.names hn rfl⟩

/-- Settles O20: a vector load comes to what its lanes say, and a scalar register beside a vector offset is no operand. -/
theorem memoryTrapsAtIssue : Obligations.MemoryTrapsAtIssue := by
  intro s v scope order n a base wd wa la ld h hd ho hc
  have hord : ∀ u : View, u.loadOrder .load [0, 1] scope order = .ok () := fun u =>
    View.orderOk_ok ⟨by simpa using by omega, Nat.zero_le _, by omega⟩
  refine ⟨?memory, fun sp size hsp hsize => ?window, fun d o lo lr ho hd hv => ⟨fun hl i hi => ?loads, fun hl i hi => ?stores⟩⟩
  case memory =>
    obtain ⟨-, hbad, hmis, -⟩ := View.load_accesses (i := .ld scope order (.v n) a base wd wa) h hd (v.selects_memOf base) hord rfl
    exact ⟨fun hb hm => hmis (fun b hq => by cases hq; exact hb) rfl hm, fun hb => hbad _ rfl hb⟩
  case window =>
    obtain ⟨-, -, hmis, hout, -⟩ := View.load_accesses (i := .lds scope order (.v n) a base wd wa) h hd (v.selects_winOf hsp) hord rfl
    have hstart : sp.start = 0 := by cases sp with
      | mem b => cases hsize
      | _ => rfl
    simp only [View.accsOf, View.loadReq, hstart] at hmis hout
    exact ⟨fun hm => hmis (fun b hb => by rw [hb] at hsize; cases hsize) rfl hm, fun hm ho => hout size hsize (.inr hm) ho⟩
  case loads =>
    rcases List.mem_append.mp hi with hi | hi
    · simp only [List.mem_cons, List.not_mem_nil, or_false] at hi
      rcases hi with rfl | rfl | rfl <;> exact View.load_misshaped h.issues hl ho hd hv rfl
    · obtain ⟨e, he, rfl⟩ := List.mem_map.mp hi
      rcases List.mem_append.mp he with he | he
      · obtain ⟨hop, hi⟩ := exec_atomicTable he
        exact View.atomic_misshaped h.issues hl hop ho hd hv hi
      · obtain ⟨hop, hi⟩ := exec_spadAtomicTable he
        exact View.atomic_misshaped h.issues hl hop ho hd hv hi
  case stores =>
    simp only [List.mem_cons, List.not_mem_nil, or_false] at hi
    rcases hi with rfl | rfl <;> exact View.store_misshaped h.issues hl ho hd hv rfl

/-! ## ACQR and SPK (14 R325, R330) -/

section
variable {s : State} {v : View} {scope : BitVec 3} {order : BitVec 2} {d a : Opnd} {base : BitVec 3} {wd wa : Bool} {l la : Loc}

/-- 14 R330: the destination of ACQR. -/
def kAcqr : Kinds := { kSZ with sx := true }

/-- 14 R330: ACQR as its words give it. -/
def View.acqrReq (v : View) (sp : Space) (scope : BitVec 3) (l la : Loc) : MemReq :=
  { kind := .acqr, space := sp, scope := scope.toNat, acq := true, rel := false, scalar := true, t := v.et,
    off := la, data := .zero, new := .zero, dst := l }

/-- 14 R330: the types that ACQR takes. -/
def acqrTypes (t : Nat) : Bool := t == 2 || t == 3 || t == 6 || t == 7

/-- ACQR once its fields name registers. -/
def View.acqrAt (v : View) (scope : BitVec 3) (order : BitVec 2) (a : Opnd) (sp : Space) (wa : Bool) (l la : Loc) : Except Stop State :=
  if isVecOp a then .error (v.trap cILLOPND) else do
    v.orderOk [1] 3 scope order
    v.typeIf acqrTypes
    let v ← v.sources [{ loc := la, wait := wa, code := a.toCode.toNat }]
    v.destReady l
    v.launchMem (v.acqrReq sp scope l la)

theorem exec_acqr (s : State) : ∃ k, exec (.acqr scope order d a base wd wa) s = issue s k ∧
    ∀ v l la, View.resolveDst v kAcqr false d = .ok l → v.resolve kOff false a = .ok la →
      k v = v.acqrAt scope order a (.mem v.y.b[Fin.ofNat 8 base.toNat]) wa l la := by
  refine ⟨_, rfl, fun v l la hl ha => ?_⟩
  have hl' : v.resolveDst { kSZ with sx := true } false d = .ok l := hl
  simp only [hl', View.rd, ha, Stop.ok_bind, View.acqrAt]
  by_cases hv : isVecOp a = true
  · simp only [if_pos hv, Stop.error_bind]
  · simp only [if_neg hv]
    rfl

/-- 14 R325: SPK as its words give it. -/
def View.spkReq (v : View) (sp : Space) (scope : BitVec 3) (order : BitVec 2) (l la : Loc) : MemReq :=
  { kind := .spk, space := sp, scope := scope.toNat, acq := false, rel := decide (order.toNat = 2), scalar := true, t := v.et, off := la,
    data := l, new := .zero, dst := .zero }

/-- SPK once its fields name registers. -/
def View.spkAt (v : View) (scope : BitVec 3) (order : BitVec 2) (d a : Opnd) (sp : Space) (wd wa : Bool) (l la : Loc) : Except Stop State :=
  if isVecOp a then .error (v.trap cILLOPND) else do
    v.orderOk [0, 2] 0 scope order
    v.plainType
    let v ← v.sources [{ loc := l, wait := wd, code := d.toCode.toNat }, { loc := la, wait := wa, code := a.toCode.toNat }]
    v.launchMem (v.spkReq sp scope order l la)

theorem exec_spk (s : State) : ∃ k, exec (.spk scope order d a base wd wa) s = issue s k ∧
    ∀ v l la, View.resolve v kSpk false d = .ok l → v.resolve kOff false a = .ok la →
      k v = v.spkAt scope order d a (.mem v.y.b[Fin.ofNat 8 base.toNat]) wd wa l la := by
  refine ⟨_, rfl, fun v l la hl ha => ?_⟩
  simp only [View.rd, hl, ha, Stop.ok_bind, View.spkAt]
  by_cases hv : isVecOp a = true
  · simp only [if_pos hv, Stop.error_bind]
  · simp only [if_neg hv]
    rfl

/-- 15 R368: TAGLD as its words give it. -/
def View.tagldReq (v : View) (k : Fin 8) (d b : Opnd) (l lb : Loc) : MemReq :=
  { kind := .tagld, space := .mem v.y.b[k], scope := 5, acq := false, rel := false, scalar := scalarAccess d b, t := 4, off := lb,
    data := .zero, new := .zero, dst := l }

theorem exec_tagld (k : Fin 8) (b : Opnd) (wb : Bool) (s : State) : ∃ f, exec (.tagld d (BitVec.ofNat 7 k.val) b wb) s = issue s f ∧
    ∀ v l lb, View.resolveDst v kVSZ false d = .ok l → v.resolve kOff false b = .ok lb → f v = (do
      v.offOk d b
      let v ← v.sources [{ loc := lb, wait := wb, code := b.toCode.toNat }]
      v.destReady l
      v.launchMem (v.tagldReq k d b l lb)) := by
  refine ⟨_, rfl, fun v l la hl ha => ?_⟩
  simp only [View.rd, hl, ha, View.idx8_ofNat, Stop.ok_bind]
  rfl

/-- 15 R368: TAGST as its words give it. -/
def View.tagstReq (v : View) (k : Fin 8) (a b : Opnd) (la lb : Loc) : MemReq :=
  { kind := .tagst, space := .mem v.y.b[k], scope := 5, acq := false, rel := false, scalar := !isVecOp a && !isVecOp b, t := 4, off := lb,
    data := la, new := .zero, dst := .zero }

theorem exec_tagst (k : Fin 8) (b : Opnd) (wb : Bool) (s : State) : ∃ f, exec (.tagst (BitVec.ofNat 7 k.val) a b wa wb) s = issue s f ∧
    ∀ v la lb, View.resolve v kData false a = .ok la → v.resolve kOff false b = .ok lb → f v = (do
      let v ← v.sources [{ loc := la, wait := wa, code := a.toCode.toNat }, { loc := lb, wait := wb, code := b.toCode.toNat }]
      v.launchMem (v.tagstReq k a b la lb)) := by
  refine ⟨_, rfl, fun v l la hl ha => ?_⟩
  simp only [View.rd, hl, ha, View.idx8_ofNat, Stop.ok_bind]
  rfl

/-! ### What they come to -/

theorem View.acqr_accesses (h : Issues s v) (ha : v.Src kOff false a la) (hd : v.Dst kAcqr false d l) (hv : isVecOp a = false)
    (ho : order = 1 ∧ 3 ≤ scope.toNat ∧ scope.toNat < 7) (ht : v.et = 2 ∨ v.et = 3 ∨ v.et = 6 ∨ v.et = 7) :
    v.accesses (v.acqrReq (.mem v.y.b[Fin.ofNat 8 base.toNat]) scope l la) (.acqr scope order d a base wd wa) s := by
  obtain ⟨k, hi, hk⟩ := exec_acqr (scope := scope) (order := order) (d := d) (a := a) (base := base) (wd := wd) (wa := wa) s
  have hvec : ¬isVecOp a = true := by simp [hv]
  have hord : ∀ u : View, u.orderOk [1] 3 scope order = .ok () := fun u => View.orderOk_ok ⟨by rw [ho.1]; rfl, ho.2.1, by omega⟩
  have htype : v.typeIf acqrTypes = .ok () := by
    have : v.plain = true ∧ acqrTypes v.et = true := by rcases ht with ht | ht | ht | ht <;> simp [View.plain, acqrTypes, ht]
    rw [View.typeIf_eq, this.1, this.2]
    rfl
  refine View.accesses_of h hi ?_ ?_
  · rw [hk _ _ _ hd.names ha.names, View.acqrAt, if_neg hvec, hord, htype, View.sources_one ha.full ha.plain]
    simp only [Stop.ok_bind, hd.ready]
  · obtain ⟨l', hl'⟩ := View.blank_resolveDst hd.names
    obtain ⟨la', ha'⟩ := View.blank_resolve ha.names
    have htype' : v.blank.typeIf acqrTypes = .ok () := htype
    rw [hk _ _ _ hl' ha', View.acqrAt, if_neg hvec, hord, htype', Stop.ok_bind, Stop.ok_bind]
    exact v.blank_sources_bind _ (.bind (View.destReady_wellWorded _ _) (fun _ _ => View.launchMem_wellWorded _ _))

theorem View.spk_accesses (h : Issues s v) (ha : v.Src kOff false a la) (hd : v.Src kSpk false d l) (hv : isVecOp a = false)
    (ho : (order = 0 ∨ order = 2) ∧ scope.toNat < 7) (ht : v.plain = true) :
    v.accesses (v.spkReq (.mem v.y.b[Fin.ofNat 8 base.toNat]) scope order l la) (.spk scope order d a base wd wa) s := by
  obtain ⟨k, hi, hk⟩ := exec_spk (scope := scope) (order := order) (d := d) (a := a) (base := base) (wd := wd) (wa := wa) s
  have hvec : ¬isVecOp a = true := by simp [hv]
  have hord : ∀ u : View, u.orderOk [0, 2] 0 scope order = .ok () := fun u => by
    refine View.orderOk_ok ⟨?_, Nat.zero_le _, by omega⟩
    rcases ho.1 with rfl | rfl <;> rfl
  have htype : v.plainType = .ok () := by rw [View.plainType_eq, if_pos ht]
  refine View.accesses_of h hi ?_ ?_
  · rw [hk _ _ _ hd.names ha.names, View.spkAt, if_neg hvec, hord, htype, View.sources_two hd.full hd.plain ha.full ha.plain]
    rfl
  · obtain ⟨l', hl'⟩ := View.blank_resolve hd.names
    obtain ⟨la', ha'⟩ := View.blank_resolve ha.names
    have htype' : v.blank.plainType = .ok () := htype
    rw [hk _ _ _ hl' ha', View.spkAt, if_neg hvec, hord, htype', Stop.ok_bind, Stop.ok_bind]
    exact v.blank_sources_bind _ (View.launchMem_wellWorded _ _)

theorem View.tagld_accesses {k : Fin 8} {b : Opnd} {wb : Bool} {lb : Loc} (h : Issues s v) (hb : v.Src kOff false b lb) (hd : v.Dst kVSZ false d l)
    (ho : ¬(isScaOp d = true ∧ isVecOp b = true)) : v.accesses (v.tagldReq k d b l lb) (.tagld d (BitVec.ofNat 7 k.val) b wb) s := by
  obtain ⟨f, hi, hf⟩ := exec_tagld (d := d) k b wb s
  refine View.accesses_of h hi ?_ ?_
  · rw [hf _ _ _ hd.names hb.names, View.offOk_ok ho, View.sources_one hb.full hb.plain]
    simp only [Stop.ok_bind, hd.ready]
  · obtain ⟨l', hl'⟩ := View.blank_resolveDst hd.names
    obtain ⟨lb', hb'⟩ := View.blank_resolve hb.names
    rw [hf _ _ _ hl' hb', View.offOk_ok ho, Stop.ok_bind]
    exact v.blank_sources_bind _ (.bind (View.destReady_wellWorded _ _) (fun _ _ => View.launchMem_wellWorded _ _))

theorem View.tagst_accesses {k : Fin 8} {b : Opnd} {wb : Bool} {lb : Loc} (h : Issues s v) (ha : v.Src kData false a la) (hb : v.Src kOff false b lb) :
    v.accesses (v.tagstReq k a b la lb) (.tagst (BitVec.ofNat 7 k.val) a b wa wb) s := by
  obtain ⟨f, hi, hf⟩ := exec_tagst (a := a) (wa := wa) k b wb s
  refine View.accesses_of h hi ?_ ?_
  · rw [hf _ _ _ ha.names hb.names, View.sources_two ha.full ha.plain hb.full hb.plain]
    rfl
  · obtain ⟨la', ha'⟩ := View.blank_resolve ha.names
    obtain ⟨lb', hb'⟩ := View.blank_resolve hb.names
    rw [hf _ _ _ ha' hb']
    exact v.blank_sources_bind _ (View.launchMem_wellWorded _ _)

end

/-! ## FENCE and PREF (14 R324, R329, R343) -/

section
variable {s : State} {v : View} {scope : BitVec 3} {order : BitVec 2} {a : Opnd} {base : BitVec 3} {wa : Bool} {la : Loc}

/-- 14 R329, R343: nothing is outstanding that a FENCE waits for. -/
def View.Settled (v : View) (scope : BitVec 3) (order : BitVec 2) : Prop :=
  v.s.memOpen v.r.g v.r.w v.f.mask = false ∧ v.s.nldOpen v.r.g v.r.w = false ∧
    (order.getLsbD 1 = true → v.s.logOpen v.r.g v.r.w = false ∧ (scope.toNat = 6 → v.s.remoteOpen v.r.g v.r.w = false))

theorem fence_waits_iff : (v.s.memOpen v.r.g v.r.w v.f.mask || v.s.nldOpen v.r.g v.r.w || (order.getLsbD 1 && v.s.logOpen v.r.g v.r.w) ||
    (order.getLsbD 1 && decide (scope.toNat = 6) && v.s.remoteOpen v.r.g v.r.w)) = false ↔ v.Settled scope order := by
  unfold View.Settled
  cases order.getLsbD 1 <;> simp [and_assoc]

theorem means_fence : Means s v (.fence scope order) (do
    v.orderOk [1, 2, 3] 0 scope order
    v.plainType
    if v.s.memOpen v.r.g v.r.w v.f.mask || v.s.nldOpen v.r.g v.r.w || (order.getLsbD 1 && v.s.logOpen v.r.g v.r.w) ||
      (order.getLsbD 1 && decide (scope.toNat = 6) && v.s.remoteOpen v.r.g v.r.w) then .error v.hold
    else .ok (if order.getLsbD 0 then v.s.acquire v.core scope.toNat else v.s)) := ⟨_, rfl, rfl⟩

theorem means_pref (ha : v.resolve kOff false a = .ok la) : Means s v (.pref scope order a base wa) (do
    v.orderOk [0] 0 scope order
    v.plainType
    let v ← v.sources [{ loc := la, wait := wa, code := a.toCode.toNat }]
    let acts := (List.finRange 32).filter (fun (i : Fin 32) => v.active.getLsbD i.val)
    .ok (acts.foldl (fun t (i : Fin 32) => t.prefetch v.core v.c v.y.b[Fin.ofNat 8 base.toNat] (decide (v.y.plvl = 0)) (decide (scope.toNat ≤ 2))
      (v.y.b[Fin.ofNat 8 base.toNat].va.toNat + (v.laneVals 6 la)[i])) v.s)) := by
  refine ⟨_, rfl, ?_⟩
  simp only [View.rd, ha, Stop.ok_bind]

/-- The order and the scope of an instruction that takes some are those, or it traps with ILLOP. -/
theorem Means.misordered {i : Instr} {orders : List Nat} {lo : Nat} {k : Unit → Except Stop State} (h : Issues s v)
    (m : Means s v i (v.orderOk orders lo scope order >>= k)) (hn : ¬(orders.contains order.toNat = true ∧ lo ≤ scope.toNat ∧ scope.toNat ≤ 6)) :
    exec i s = v.trapped cILLOP 0 v.f.mask := by
  rw [View.orderOk_error hn] at m
  exact Means.traps m h (by decide)

theorem Means.ordered {i : Instr} {orders : List Nat} {lo : Nat} {k : Unit → Except Stop State}
    (m : Means s v i (v.orderOk orders lo scope order >>= k)) (ho : orders.contains order.toNat = true ∧ lo ≤ scope.toNat ∧ scope.toNat ≤ 6) :
    Means s v i (k ()) := by
  rwa [View.orderOk_ok ho] at m

theorem Means.narrow {i : Instr} {k : Unit → Except Stop State} (h : Issues s v) (m : Means s v i (v.plainType >>= k)) (ht : v.plain = false) :
    exec i s = v.trapped cILLTYPE 0 v.f.mask := by
  rw [View.plainType_eq, ht, if_neg Bool.false_ne_true] at m
  exact Means.traps m h (by decide)

theorem Means.plain {i : Instr} {k : Unit → Except Stop State} (m : Means s v i (v.plainType >>= k)) (ht : v.plain = true) :
    Means s v i (k ()) := by
  rwa [View.plainType_eq, if_pos ht] at m

/-- The orders that a FENCE takes (14 R329). -/
theorem fence_order : ∀ order : BitVec 2, [1, 2, 3].contains order.toNat = true ↔ order ≠ 0 := by decide

theorem acqr_order : ∀ order : BitVec 2, [1].contains order.toNat = true ↔ order = 1 := by decide

theorem store_order : ∀ order : BitVec 2, [0, 2].contains order.toNat = true ↔ order = 0 ∨ order = 2 := by decide

theorem pref_order : ∀ order : BitVec 2, [0].contains order.toNat = true ↔ order = 0 := by decide

end

/-- The scopes are the codes below 7 (14 R314). -/
theorem scope_le_six : ∀ scope : BitVec 3, scope.toNat ≤ 6 ↔ scope ≠ 7 := by decide

/-- Settles O19: each instruction checks its order, its scope and its type, then goes as its lanes say, waits, or has its effect. -/
theorem otherAccessesComplete : Obligations.OtherAccessesComplete := by
  intro s v scope order d a b base wd wa wb h
  refine ⟨fun la ld ha hd => ?acqr, fun la ld ha hd => ?spk, fun k lb hb => ⟨fun ld hd ho => View.tagld_accesses h hb hd ho, fun ld hd hs hv => ?tagld,
    fun la ha => View.tagst_accesses h ha hb⟩, ?fence, fun la ha hbad => ?prefOrder, fun la ha ho hc ht => ?prefType, fun la ha ho hc ht => ?pref⟩
  case acqr =>
    obtain ⟨k, hi, hk⟩ := exec_acqr (scope := scope) (order := order) (d := d) (a := a) (base := base) (wd := wd) (wa := wa) s
    have m : Means s v (.acqr scope order d a base wd wa) (v.acqrAt scope order a (.mem v.y.b[Fin.ofNat 8 base.toNat]) wa ld la) :=
      ⟨k, hi, hk _ _ _ hd.names ha.names⟩
    refine ⟨fun hv => ?_, fun hv ho => ?_, fun hv ho ht => ?_, fun hv ho ht => View.acqr_accesses h ha hd hv ho ht⟩
    · rw [View.acqrAt, if_pos hv] at m
      exact m.traps h (by decide)
    · rw [View.acqrAt, if_neg (by simp [hv])] at m
      exact Means.misordered h m (fun ⟨h1, h2, h3⟩ => ho ⟨(acqr_order _).mp h1, h2, by omega⟩)
    · rw [View.acqrAt, if_neg (by simp [hv])] at m
      have m' := Means.ordered m ⟨(acqr_order _).mpr ho.1, ho.2.1, by omega⟩
      have hno : acqrTypes v.et = false := by simpa [acqrTypes, and_assoc] using ht
      rw [View.typeIf_eq, hno, Bool.and_false, if_neg Bool.false_ne_true] at m'
      exact Means.traps m' h (by decide)
  case spk =>
    obtain ⟨k, hi, hk⟩ := exec_spk (scope := scope) (order := order) (d := d) (a := a) (base := base) (wd := wd) (wa := wa) s
    have m : Means s v (.spk scope order d a base wd wa) (v.spkAt scope order d a (.mem v.y.b[Fin.ofNat 8 base.toNat]) wd wa ld la) :=
      ⟨k, hi, hk _ _ _ hd.names ha.names⟩
    refine ⟨fun hv => ?_, fun hv ho => ?_, fun hv ho ht => ?_, fun hv ho ht => View.spk_accesses h ha hd hv ho ht⟩
    · rw [View.spkAt, if_pos hv] at m
      exact m.traps h (by decide)
    · rw [View.spkAt, if_neg (by simp [hv])] at m
      exact Means.misordered h m (fun ⟨h1, _, h3⟩ => ho ⟨(store_order _).mp h1, by omega⟩)
    · rw [View.spkAt, if_neg (by simp [hv])] at m
      exact Means.narrow h (Means.ordered m ⟨(store_order _).mpr ho.1, Nat.zero_le _, by omega⟩) ht
  case tagld =>
    obtain ⟨f, hi, hf⟩ := exec_tagld (d := d) k b wb s
    have m : Means s v (.tagld d (BitVec.ofNat 7 k.val) b wb) (.error (v.trap cILLOPND)) :=
      ⟨f, hi, by rw [hf _ _ _ hd.names hb.names, View.offOk_error hs hv, Stop.error_bind]⟩
    exact m.traps h (by decide)
  case fence =>
    have m := means_fence (s := s) (v := v) (scope := scope) (order := order)
    have ordered : order ≠ 0 → scope.toNat < 7 → [1, 2, 3].contains order.toNat = true ∧ 0 ≤ scope.toNat ∧ scope.toNat ≤ 6 :=
      fun ho hc => ⟨(fence_order _).mpr ho, Nat.zero_le _, by omega⟩
    refine ⟨fun hbad => Means.misordered h m (fun ⟨h1, _, h3⟩ => ?_), fun ho hc ht => Means.narrow h (Means.ordered m (ordered ho hc)) ht,
      fun ho hc ht hw => ?_, fun ho hc ht hw => ?_⟩
    · exact hbad.elim ((fence_order _).mp h1) ((scope_le_six _).mp h3)
    · have m' := Means.plain (Means.ordered m (ordered ho hc)) ht
      rw [if_pos (eq_true_of_ne_false (fun hno => hw (fence_waits_iff.mp hno)))] at m'
      exact Means.holds m' h
    · have m' := Means.plain (Means.ordered m (ordered ho hc)) ht
      rw [if_neg (by rw [fence_waits_iff.mpr hw]; exact Bool.false_ne_true)] at m'
      exact Means.ok m' h
  case prefOrder =>
    refine Means.misordered h (means_pref ha.names) (fun ⟨h1, _, h3⟩ => ?_)
    exact hbad.elim (fun ho => ho ((pref_order _).mp h1)) ((scope_le_six _).mp h3)
  case prefType => exact Means.narrow h (Means.ordered (means_pref ha.names) ⟨(pref_order _).mpr ho, Nat.zero_le _, by omega⟩) ht
  case pref =>
    have m := Means.ordered (means_pref (s := s) (scope := scope) (order := order) (base := base) (wa := wa) ha.names)
      ⟨(pref_order _).mpr ho, Nat.zero_le _, by omega⟩
    have m' := Means.plain m ht
    rw [View.sources_one ha.full ha.plain] at m'
    exact Means.ok m' h

end Sys2Proof.Machine
end

section
/-! O21 and O22: a scalar store and a scalar load are performed in the memory of this module (14 R319 to R321, 02 R26), and a load is written back (03 R62). -/

namespace Sys2Proof.Machine

/-! ## Elements of whole bytes (14 R313) -/

/-- A type of 8 to 64 bits takes whole bytes. -/
theorem tyWidth_whole : ∀ t < 12, tyWidth t % 8 = 0 ∧ 8 ≤ tyWidth t := by decide

section
variable {t : Nat} (h : t < 12)
include h

theorem elemBytes_whole : elemBytes t 0 = tyWidth t / 8 := by
  have := tyWidth_whole t h
  simp only [elemBytes]
  omega

theorem pow_elemBytes : 256 ^ elemBytes t 0 = 2 ^ tyWidth t := by
  obtain ⟨hmod, -⟩ := tyWidth_whole t h
  rw [elemBytes_whole h, show (256 : Nat) = 2 ^ 8 from rfl, ← Nat.pow_mul, Nat.mul_div_cancel' (Nat.dvd_of_mod_eq_zero hmod)]

theorem elemBytes_pos : 0 < elemBytes t 0 := by
  have := tyWidth_whole t h
  rw [elemBytes_whole h]
  omega

end

theorem elemGet_zero (t raw : Nat) : elemGet t 0 raw = raw % 2 ^ tyWidth t := by simp [elemGet]

/-- An element that fills its bytes replaces them. -/
theorem elemPut_zero {t raw v : Nat} (h : raw < 2 ^ tyWidth t) : elemPut t 0 raw v = v % 2 ^ tyWidth t := by
  simp [elemPut, Nat.mod_one, Nat.div_eq_of_lt h]

/-! ## Bytes of this module at a physical address -/

section
variable {s : State} {pa n : Nat}

/-- The bytes from an address of this module lie in its address space (01 R9). -/
structure State.Holds (s : State) (pa n : Nat) : Prop where
  /-- of this module -/
  here : s.isLocal pa = true
  /-- not across the end -/
  fits : localPart pa + n ≤ 2 ^ 48

theorem State.Holds.next (h : s.Holds pa (n + 1)) (hn : 0 < n) : s.Holds (pa + 1) n ∧ localPart (pa + 1) = localPart pa + 1 := by
  obtain ⟨hhere, hfits⟩ := h
  have hnode : pa / 2 ^ 48 = s.node := by simpa [State.isLocal] using hhere
  have hlocal : localPart pa = pa % 2 ^ 48 := rfl
  have hstep : localPart (pa + 1) = localPart pa + 1 := by unfold localPart at *; omega
  refine ⟨⟨?_, by omega⟩, hstep⟩
  simp only [State.isLocal, decide_eq_true_eq]
  omega

/-- A store of a number at an address of this module (02 R26). -/
theorem State.engStore_leBytes (h : s.Holds pa n) (v : Nat) : s.engStore pa (leBytes n v) = { s with mem := Memory.wr s.mem (localPart pa) n v } := by
  induction n generalizing s pa v with
  | zero => rfl
  | succ n ih =>
    have hput : s.engPut pa (BitVec.ofNat 8 v) = { s with mem := Memory.put s.mem (localPart pa) (BitVec.ofNat 8 v) } := if_pos h.here
    rw [leBytes, State.engStore, hput, Memory.wr]
    cases n with
    | zero => rfl
    | succ n =>
      obtain ⟨hnext, hstep⟩ := h.next (Nat.succ_pos n)
      refine (ih (s := { s with mem := Memory.put s.mem (localPart pa) (BitVec.ofNat 8 v) }) ⟨hnext.here, hnext.fits⟩ _).trans ?_
      rw [hstep]

theorem State.engRd_local (h : s.Holds pa n) : s.engRd pa n = Memory.rd s.mem (localPart pa) n := by
  induction n generalizing pa with
  | zero => rfl
  | succ n ih =>
    have hbyte : s.engByte pa = Memory.get s.mem (localPart pa) := if_pos h.here
    rw [State.engRd, Memory.rd, hbyte]
    cases n with
    | zero => rfl
    | succ n =>
      obtain ⟨hnext, hstep⟩ := h.next (Nat.succ_pos n)
      rw [ih hnext, hstep]

/-- 14 R323: a write at the home leaves memory with the bytes, and changes caches and rows besides. -/
theorem State.writeVia_spec (h : s.Holds pa n) (core : Option Nat) (v : Nat) (sub : Bool) :
    ({ s with mem := Memory.wr s.mem (localPart pa) n v } : State).Recached (s.writeVia core pa n v sub) := by
  have hbytes := s.recached_engPutBytes pa (leBytes n v)
  rw [State.engStore_leBytes h] at hbytes
  unfold State.writeVia
  cases core with
  | none => exact hbytes
  | some k => exact .ite _ hbytes (hbytes.trans (State.recached_modCore _ _ _))

end

/-! ## The turn of a memory instruction (14 R319) -/

section
variable {s t : State} {id core pa : Nat} {m : MemOp} {x : Group} {l : LaneAcc} {b : BaseReg}

theorem MemTurn.performs (h : MemTurn s id m x core l) : (s.group m.g).bind Group.performs = some (some core) := by
  obtain ⟨hon, hk, he, hcore⟩ := h.runs
  simp [h.group, Group.performs, hon, hk, he, hcore]

/-- The state in which the only lane of an instruction stands in a new way. -/
def State.performed (s : State) (id : Nat) (l : LaneAcc) (st : LaneState) : State :=
  { s with memops := tmod s.memops id (fun m => { m with lanes := [{ l with st := st }] }) }

theorem State.tget_performed (hm : t.memops = s.memops) (h : tget s.memops id = some m) (st : LaneState) :
    tget (t.performed id l st).memops id = some { m with lanes := [{ l with st := st }] } := by
  rw [State.performed, tget_tmod_self, hm, h, Option.map_some]

/-- 14 R319: a turn of an instruction of one lane, none of whose channels is alerted: the lane is performed, and the instruction settles. -/
theorem exec_turn {st : LaneState} {u : State} (h : MemTurn s id m x core l)
    (hreq : ∀ q ∈ s.channelReqs (some core) (cfin (s.ctxOf m.g)) id m, (s.channel q.channel).alerted = false)
    (hd : (s.serveBatches (s.channelReqs (some core) (cfin (s.ctxOf m.g)) id m)).doLane (some core) id m l = t.did st)
    (hu : (t.performed id l st).memSettle id = u) (hg : u.groups = s.groups) : exec (.memoryAccessComplete id) s = .next u := by
  obtain ⟨hfailed, hlanded⟩ := h.going
  obtain ⟨hlanes, htodo, -⟩ := h.lane
  have hany : (s.channelReqs (some core) (cfin (s.ctxOf m.g)) id m).any (fun q => (s.channel q.channel).alerted) = false :=
    List.any_eq_false.mpr (fun q hq => by simp [hreq q hq])
  show execMemoryAccessComplete id s = _
  simp only [execMemoryAccessComplete, h.op, h.performs, hfailed, hlanded, h.mayGo, Bool.not_true, Bool.or_false, Bool.false_eq_true, if_false, hany,
    hlanes, State.doLanes, htodo, hd, State.did, State.countLines, List.isEmpty_nil, if_true]
  refine congrArg Host.Outcome.next ((congrArg (State.takeDue · m.g m.w) hu).trans ?_)
  exact State.takeDue_calm _ _ _ (fun y hy => h.calm y ((State.warp_congr hg m.g m.w).symm.trans hy))

/-! ### The lane -/

theorem State.Recached.tagMiss_eq (h : s.Recached t) (pa n tag : Nat) : t.tagMiss pa n tag = s.tagMiss pa n tag := by
  obtain ⟨_, _, _, _, rfl⟩ := h; rfl
theorem State.Recached.locked_eq (h : s.Recached t) (c : Fin 64) (a n : Nat) (w : Bool) : t.locked c a n w = s.locked c a n w := by
  obtain ⟨_, _, _, _, rfl⟩ := h; rfl
theorem State.Recached.engBad_eq (h : s.Recached t) (pa n : Nat) : t.engBad pa n = s.engBad pa n := by
  obtain ⟨_, _, _, _, rfl⟩ := h; rfl
theorem State.Recached.memops_eq (h : s.Recached t) : t.memops = s.memops := by obtain ⟨_, _, _, _, rfl⟩ := h; rfl
theorem State.Recached.warp_eq (h : s.Recached t) (g w : Nat) : t.warp g w = s.warp g w := State.warp_congr h.groups_eq g w
theorem State.Recached.holds (h : s.Recached t) {pa n : Nat} (hp : s.Holds pa n) : t.Holds pa n := ⟨by rw [h.isLocal_eq, hp.here], hp.fits⟩

/-- 14 R319: where no tag, no lock and no bad data stands against an access, it is performed. -/
theorem State.atHome_eq {te : Bool} {n tag : Nat} {c : Fin 64} (h : s.Recached t) (hk : m.kind.isTag = false)
    (htag : te = true → s.tagMiss pa n tag = false) (hlock : s.locked c l.addr n m.kind.writes = false) (hd : s.dataBad m l pa n = false) :
    t.atHome (some core) c tag m l pa n te = t.doLocal (some core) m l pa n := by
  have hmiss : ¬(te = true ∧ t.tagMiss pa n tag = true) := by
    rintro ⟨hte, hm⟩
    rw [h.tagMiss_eq, htag hte] at hm
    cases hm
  have hd' : t.dataBad m l pa n = false := by rw [← hd, State.dataBad, State.dataBad, h.engBad_eq]
  simp only [State.atHome, hk, h.locked_eq, hlock, hd', Bool.not_false, hmiss, Bool.false_eq_true, and_false, if_false]

/-- 14 R319, 01 R10: a lane whose line is homed in the core's own die, and where nothing stands against it, is performed at that home. -/
theorem State.doLane_home (hx : s.group m.g = some x) (hsp : m.space = .mem b) (hk : m.kind.isTag = false) (hl : l.bit = 0)
    (hr : Reaches s x core b m l pa) (hd : s.dataBad m l pa (elemBytes m.type 0) = false) :
    ∃ s1, s.Recached s1 ∧ s.doLane (some core) id m l = s1.doLocal (some core) m l pa (elemBytes m.type 0) := by
  obtain ⟨te, leaf, hreach, htag⟩ := hr.lands
  obtain ⟨hlocal, -, hdie⟩ := hr.here
  have hcross : s.crosses (some core) m pa = false := by simp [State.crosses, hdie]
  have home := fun {t} (h : s.Recached t) => State.atHome_eq (core := core) h hk htag hr.unlocked hd
  simp only [State.doLane, hx, hsp, State.doMem, hreach, hlocal, hcross, hl, Bool.not_true, Bool.false_eq_true, if_false]
  cases leaf with
  | none => exact ⟨s, .refl s, home (.refl s)⟩
  | some e =>
    have hfill := s.recached_tlbFill core (cfin x.ctx) l.addr e
    exact ⟨_, hfill, home hfill⟩

/-! ### A store -/

/-- 14 R321: a store of whole bytes is performed. -/
theorem State.doLocal_store {s1 : State} (h : s.Recached s1) (hk : m.kind = .store) (ht : m.type < 12) (hl : l.bit = 0)
    (hp : s.Holds pa (elemBytes m.type 0)) :
    ∃ t, ({ s with mem := Memory.wr s.mem (localPart pa) (elemBytes m.type 0) (l.data.toNat % 2 ^ tyWidth m.type) } : State).Recached t ∧
      s1.doLocal (some core) m l pa (elemBytes m.type 0) = t.did (.done 0) := by
  have hraw : s1.engRd pa (elemBytes m.type 0) < 2 ^ tyWidth m.type := by
    rw [← pow_elemBytes ht]
    exact s1.engRd_lt pa _
  have hspec := State.writeVia_spec (h.holds hp) (some core) (l.data.toNat % 2 ^ tyWidth m.type) (tySub m.type)
  refine ⟨_, ?_, by simp only [State.doLocal, hk, hl, elemPut_zero hraw]; rfl⟩
  obtain ⟨_, _, _, _, rfl⟩ := h
  exact .trans ⟨_, _, _, _, rfl⟩ hspec

/-- 16 R378: a store of whole bytes needs no channel. -/
theorem State.channelReqs_store (hk : m.kind = .store) (ht : m.type < 12) (hlanes : m.lanes = [l]) (hl : l.bit = 0) (c : Option Nat) (cx : Fin 64) :
    s.channelReqs c cx id m = [] := by
  obtain ⟨hmod, -⟩ := tyWidth_whole m.type ht
  have hreads : m.reads l = false := by
    have hop : m.packetOp l = opPlain := by simp [MemOp.packetOp, hk, hmod, hl]
    simp [MemOp.reads, hop, hk, MemKind.isStore, MemKind.writes, MemKind.isAtomic, opPlain, opPart]
  have hmiss : s.missOf c cx m l = none := by
    unfold State.missOf
    split
    · split
      · simp [hreads]
      · rfl
    · rfl
  simp [State.channelReqs, hlanes, hmiss]

/-- 14 R319, R321: an instruction without a destination whose only lane is done has ended. -/
theorem State.memSettle_ended {d : MemOp} (h : tget s.memops id = some d) (hgo : d.failed = false ∧ d.landed = false) {z : DWord}
    (hl : d.lanes = [{ l with st := .done z }]) (hdst : d.dst = Dest.none) (hacq : d.acq = false) :
    s.memSettle id = { s with memops := tdel s.memops id } := by
  have hopen : d.lanes.any (fun l => l.st.open_) = false := by simp [hl, LaneState.open_]
  have hfail : d.failures = [] := by simp [MemOp.failures, hl]
  have horph : d.orphaned = none := by simp [MemOp.orphaned, hl]
  simp only [State.memSettle, h, hgo, hopen, Bool.or_false, Bool.false_eq_true, if_false, hfail, horph, hdst, if_true, hacq, ite_self]

end

/-- Settles O21: the lane writes its bytes at their home, and with it the instruction ends. -/
theorem storeWritesExactlyItsBytes : Obligations.StoreWritesExactlyItsBytes := by
  intro s id m x core b l pa h hk hsp hdst hacq ht hr hwf n
  obtain ⟨hlanes, htodo, hl⟩ := h.lane
  have hn : elemBytes m.type 0 = n := elemBytes_whole ht
  have hreqs := State.channelReqs_store (s := s) (id := id) hk ht hlanes hl (some core) (cfin (s.ctxOf m.g))
  obtain ⟨hmod, -⟩ := tyWidth_whole m.type ht
  have hbad : s.dataBad m l pa (elemBytes m.type 0) = false := by
    simp [State.dataBad, hk, hmod, hl, MemKind.isStore, MemKind.writes, MemKind.isAtomic]
  have hholds : s.Holds pa (elemBytes m.type 0) := ⟨hr.here.1, hr.here.2.1⟩
  obtain ⟨s1, hs1, hlane⟩ := State.doLane_home (id := id) h.group hsp (by rw [hk]; rfl) hl hr hbad
  obtain ⟨t, hspec, hdo⟩ := State.doLocal_store (core := core) hs1 hk ht hl hholds
  have hexec := exec_turn h (by rw [hreqs]; exact fun q hq => nomatch hq) (by rw [hreqs]; exact hlane.trans hdo)
    (State.memSettle_ended (State.tget_performed hspec.memops_eq h.op _) h.going rfl hdst hacq) hspec.groups_eq
  have hmem : t.mem = Memory.wr s.mem (localPart pa) n (l.data.toNat % 2 ^ tyWidth m.type) := by rw [hspec.mem_eq, hn]
  refine ⟨_, hexec, ?_, fun a ha => ?_, ?_⟩
  · show Memory.rd t.mem _ _ = _
    rw [hmem, Memory.rd_wr _ _ _ _ hwf, ← hn, pow_elemBytes ht, Nat.mod_mod]
  · show Memory.get t.mem _ = _
    rw [hmem, Memory.get_wr_outside _ _ _ _ _ hwf ha]
  · exact (tget_tdel ..).trans (if_pos rfl)

/-! ### A load -/

section
variable {s : State} {id core pa : Nat} {m : MemOp} {x : Group} {l : LaneAcc} {b : BaseReg}

/-- 16 R378: what serves the batches of an instruction leaves the TLBs and the L1s as they are. -/
theorem State.l2Touch_cores (s : State) (p n : Nat) (w : Bool) : (s.l2Touch p n w).cores = s.cores := by
  simp only [State.l2Touch, State.useRow]
  repeat' split
  all_goals rfl

/-- What serving the batches keeps: each fetch, and each channel that waited, changes L2 and the channels alone. -/
theorem State.serveBatches_spec (s : State) (q : List ChannelReq) : s.Recached (s.serveBatches q) ∧ (s.serveBatches q).cores = s.cores := by
  refine List.foldlRecOn (motive := fun t => s.Recached t ∧ t.cores = s.cores) _ _ ⟨.refl s, rfl⟩ (fun t ht ch _ => ?_)
  have hwait : s.Recached (if (t.channel ch).waiting.isSome then
      { t with channels := tput t.channels ch { t.channel ch with waiting := none } } else t) ∧
      (if (t.channel ch).waiting.isSome then
      { t with channels := tput t.channels ch { t.channel ch with waiting := none } } else t : State).cores = s.cores := by
    split
    · exact ⟨ht.1.trans ⟨_, _, _, _, rfl⟩, ht.2⟩
    · exact ht
  refine List.foldlRecOn (motive := fun t => s.Recached t ∧ t.cores = s.cores) _ _ hwait (fun t ht r _ => ?_)
  refine List.foldlRecOn (motive := fun t => s.Recached t ∧ t.cores = s.cores) _ _ ht (fun t ht i _ => ?_)
  exact ⟨ht.1.trans (t.recached_l2Touch ..), (t.l2Touch_cores ..).trans ht.2⟩

/-- The state differs in channels and L2, and in neither a TLB nor an L1: an address leads where it led. -/
theorem Reaches.recached {t : State} (h : Reaches s x core b m l pa) (hs : s.Recached t) (hc : t.cores = s.cores) : Reaches t x core b m l pa := by
  obtain ⟨⟨te, leaf, hreach, htag⟩, hlock, hhere⟩ := h
  obtain ⟨_, _, _, _, rfl⟩ := hs
  cases hc
  exact ⟨⟨te, leaf, hreach, htag⟩, hlock, hhere⟩

/-- 14 R321, R340: a load at a scope wider than CORE reads the home. -/
theorem State.doLocal_load {s1 : State} (h : s.Recached s1) (hk : m.kind = .load) (hs : 2 < m.scope) (hl : l.bit = 0)
    (hp : s.Holds pa (elemBytes m.type 0)) :
    ∃ t, s.Recached t ∧ s1.doLocal (some core) m l pa (elemBytes m.type 0) =
      t.did (.done (BitVec.ofNat 64 (Memory.rd s.mem (localPart pa) (elemBytes m.type 0) % 2 ^ tyWidth m.type))) := by
  have hscope : ¬m.scope ≤ 2 := by omega
  refine ⟨s1.l2Access pa (elemBytes m.type 0) false, h.trans (State.recached_l2Access ..), ?_⟩
  simp only [State.doLocal, hk, hscope, decide_false, State.readVia, Bool.false_and, State.engRd_local (h.holds hp), h.mem_eq, hl, elemGet_zero,
    Bool.false_eq_true, if_false]
  rfl

/-- 14 R321: an instruction with a destination, whose only lane is done, has landed. -/
theorem State.memSettle_landed {d : MemOp} {y : Warp} (h : tget s.memops id = some d) (hgo : d.failed = false ∧ d.landed = false) {z : DWord}
    (hl : d.lanes = [{ l with st := .done z }]) (hdst : d.dst ≠ Dest.none) (hacq : d.acq = false) (hy : s.warp d.g d.w = some y) (hs : y.sched ≠ .exited) :
    s.memSettle id = { s with memops := tput s.memops id { d with landed := true } } := by
  have hopen : d.lanes.any (fun l => l.st.open_) = false := by simp [hl, LaneState.open_]
  have hfail : d.failures = [] := by simp [MemOp.failures, hl]
  have horph : d.orphaned = none := by simp [MemOp.orphaned, hl]
  simp only [State.memSettle, h, hgo, hopen, Bool.or_false, Bool.false_eq_true, if_false, hfail, horph, hdst, hacq, hy, hs, ne_eq, not_false_iff,
    decide_true, Bool.not_true]

/-! ### The write-back of a scalar (03 R62) -/

/-- 03 R62: the value of the first lane goes to the scalar destination, extended by its type. -/
theorem Warp.landLanes_scalar (y : Warp) {z : DWord} {i : Fin 32} (hl : m.lanes = [l]) (h0 : l.lane = 0) (hz : l.st = .done z) (hd : m.dst = .s i) :
    y.landLanes m = { y with s := y.s.set i { y.s[i] with val := BitVec.ofNat 64 (extend64 m.type z.toNat) } } := by
  simp [Warp.landLanes, hl, h0, hz, hd]

/-- 03 R62: a register that no other instruction claims becomes FULL. -/
theorem State.release_scalar {g w : Nat} {i : Fin 32} (h : ∀ e ∈ s.memops, ¬(e.2.g = g ∧ e.2.w = w ∧ e.2.dst = .s i)) :
    s.release g w (.s i) = s.modWarp g w (fun y => { y with s := y.s.set i { y.s[i] with fill := .full } }) := by
  have hc : s.memops.any (fun e => decide (e.2.g = g) && decide (e.2.w = w) && decide (e.2.dst = .s i)) = false :=
    List.any_eq_false.mpr (fun e he => by simpa [and_assoc] using h e he)
  simp only [State.release, hc, Bool.false_eq_true, if_false]

end

/-- Settles O22: the lane reads its bytes at their home; the write-back then fills the register. -/
theorem loadDeliversMemory : Obligations.LoadDeliversMemory := by
  refine ⟨fun s id m x core b l pa i y h hy hsched hk hscope hsp hdst hacq ht hr hbad hreq => ?_, fun s id m l z i y hop hland hl h0 hz hdst hy hfree => ?_⟩
  · intro n
    obtain ⟨hlanes, htodo, hl⟩ := h.lane
    have hn : elemBytes m.type 0 = n := elemBytes_whole ht
    obtain ⟨hserve, hcores⟩ := s.serveBatches_spec (s.channelReqs (some core) (cfin (s.ctxOf m.g)) id m)
    have hbad' : (s.serveBatches (s.channelReqs (some core) (cfin (s.ctxOf m.g)) id m)).dataBad m l pa (elemBytes m.type 0) = false := by
      rw [State.dataBad, hserve.engBad_eq, hbad, Bool.and_false]
    have hgroup : (s.serveBatches (s.channelReqs (some core) (cfin (s.ctxOf m.g)) id m)).group m.g = some x := by
      rw [State.group, hserve.groups_eq]
      exact h.group
    obtain ⟨s1, hs1, hlane⟩ := State.doLane_home (id := id) hgroup hsp (by rw [hk]; rfl) hl (hr.recached hserve hcores) hbad'
    obtain ⟨t, hspec, hdo⟩ := State.doLocal_load (core := core) (hserve.trans hs1) hk hscope hl ⟨hr.here.1, hr.here.2.1⟩
    have hexec := exec_turn h hreq (hlane.trans hdo) (State.memSettle_landed (State.tget_performed hspec.memops_eq h.op _) h.going rfl
      (by rw [hdst]; exact nofun) hacq ((hspec.warp_eq m.g m.w).trans hy) hsched) hspec.groups_eq
    refine ⟨_, hexec, hspec.mem_eq, hspec.warp_eq m.g m.w, ?_⟩
    rw [← hn]
    exact (tget_tput ..).trans (if_pos rfl)
  · have hclaim : ∀ e ∈ tdel s.memops id, ¬(e.2.g = m.g ∧ e.2.w = m.w ∧ e.2.dst = .s i) := fun e he => by
      obtain ⟨he, hne⟩ := List.mem_filter.mp he
      exact hfree e he (by simpa using hne)
    have hexec : exec (.producerWriteback id) s = .next (s.landFull id m) := by
      show execProducerWriteback id s = _
      simp only [execProducerWriteback, hop, hland, if_true]
    have hfull := State.release_scalar (s := { (s.modWarp m.g m.w (fun y => y.landLanes m)) with memops := tdel s.memops id }) hclaim
    have hwarp : State.warp { (s.modWarp m.g m.w (fun y => y.landLanes m)) with memops := tdel s.memops id } m.g m.w = some (y.landLanes m) :=
      (s.warp_modWarp m.g m.w _).trans (by rw [hy, Option.map_some])
    rw [State.landFull, hdst, hfull] at hexec
    refine ⟨_, _, hexec, by rw [State.warp_modWarp, hwarp, Option.map_some], ?_, ?_, ?_, ?_, rfl, (tget_tdel ..).trans (if_pos rfl)⟩
    all_goals simp [Warp.landLanes_scalar y hl h0 hz hdst]

end Sys2Proof.Machine
end

section
/-! O51 and O52: power, reset, the host's access to memory (20 R439 to R441, R444, R447, R450, 14 R344), and the control of the device (20 R439, R441,
R442, R449, 13 R312). -/

namespace Sys2Proof.Machine

theorem next_of_eq {a b : State} (h : a = b) : (Host.Outcome.next a : Host.Outcome State Fault Refusal) = .next b := congrArg _ h

/-! ## Memory read after some bytes were written or dropped -/

theorem Memory.get_putBytes_below {m : Memory} {a x : Nat} (l : List Byte) (hm : Memory.wf m = true) (hx : x < a) :
    Memory.get (Memory.putBytes m a l) x = Memory.get m x := by
  induction l generalizing m a with
  | nil => rfl
  | cons b r ih => rw [Memory.putBytes, ih (Memory.wf_put _ _ hm) (by omega), Memory.get_put _ _ _ _ hm, if_neg (by omega)]

/-- Some bytes read back after they were written. -/
theorem Memory.get_putBytes {m : Memory} {l : List Byte} {i : Nat} {b : Byte} (hm : Memory.wf m = true) (a : Nat) (h : l[i]? = some b) :
    Memory.get (Memory.putBytes m a l) (a + i) = b := by
  induction l generalizing m a i with
  | nil => cases h
  | cons x r ih =>
    cases i with
    | zero =>
      cases h
      rw [Memory.putBytes, Memory.get_putBytes_below _ (Memory.wf_put _ _ hm) (by omega), Memory.get_put _ _ _ _ hm, if_pos (Nat.add_zero a)]
    | succ i =>
      rw [Memory.putBytes, show a + (i + 1) = a + 1 + i by omega]
      exact ih (Memory.wf_put _ _ hm) _ (by simpa using h)

/-! ## What raises an interrupt -/

/-- 20 R439: an interrupt adds its vector and changes nothing else. -/
theorem State.irq_spec (s : State) (n : Nat) : ∃ l, s.irq n = { s with life := { s.life with irqs := l } } ∧ n ∈ l := by
  unfold State.irq
  split
  · next h => exact ⟨s.life.irqs, rfl, by simpa using h⟩
  · exact ⟨_, rfl, by simp⟩

/-- 20 R439: a cause of MGMTCAUSE sets its bit and raises vector 64. -/
theorem State.manage_spec (s : State) (bit : Nat) :
    ∃ l, s.manage bit = { s with life := { s.life with mgmt := s.life.mgmt ||| BitVec.ofNat 4 (2 ^ bit), irqs := l } } ∧ 64 ∈ l :=
  State.irq_spec { s with life := { s.life with mgmt := s.life.mgmt ||| BitVec.ofNat 4 (2 ^ bit) } } 64

/-- 18 R420: setting the links changes them, and besides MGMTCAUSE and the interrupts alone. -/
theorem State.setLinks_spec (s : State) (v : Vector Link 18) :
    ∃ m l, s.setLinks v = { s with links := v, life := { s.life with mgmt := m, irqs := l } } := by
  simp only [State.setLinks]
  split
  · exact ⟨_, _, rfl⟩
  · obtain ⟨l, hl, -⟩ := State.manage_spec { s with links := v } 2
    exact ⟨_, l, hl⟩

/-! ## Boot and bring-up (20 R440 to R448) -/

section
variable {s : State}

theorem exec_romCheck_passed (h : s.life.stat = .romcheck) (hi : s.persist.images.all (imagePasses s.persist.minVersion) = true) :
    ∃ t, exec .romCheckComplete s = .next t ∧ t.life.stat = .bringup ∧ t.life.running = s.persist.images ∧
      ∀ k : Fin 18, (t.links[k]).st = .training ∨ (t.links[k]).st = .retired := by
  obtain ⟨m, l, ht⟩ := State.setLinks_spec (s.modLife (fun l => { l with stat := .bringup, running := s.persist.images }))
    (Vector.ofFn (fun (k : Fin 18) => s.persist.linkAtBoot k.val s.links[k]))
  have hexec : exec .romCheckComplete s = .next ((s.modLife (fun l => { l with stat := .bringup, running := s.persist.images })).setLinks
      (Vector.ofFn (fun (k : Fin 18) => s.persist.linkAtBoot k.val s.links[k]))) := by
    show execRomCheckComplete s = _
    simp only [execRomCheckComplete, h, ne_eq, not_true_eq_false, if_false, hi, if_true]
  refine ⟨_, hexec, by rw [ht]; rfl, by rw [ht]; rfl, fun k => ?_⟩
  have hk : ((s.modLife (fun l => { l with stat := .bringup, running := s.persist.images })).setLinks
      (Vector.ofFn (fun (k : Fin 18) => s.persist.linkAtBoot k.val s.links[k]))).links[k] = s.persist.linkAtBoot k.val s.links[k] := by
    rw [ht]
    exact Vector.getElem_ofFn _
  rw [hk]
  unfold Persist.linkAtBoot
  dsimp only
  split
  · exact .inr rfl
  · exact .inl rfl

theorem exec_romCheck_failed (h : s.life.stat = .romcheck) (hi : s.persist.images.all (imagePasses s.persist.minVersion) = false) :
    exec .romCheckComplete s = .next { s with life := { s.life with stat := .recovery } } := by
  show execRomCheckComplete s = _
  simp only [execRomCheckComplete, h, ne_eq, not_true_eq_false, if_false, hi, Bool.false_eq_true, State.modLife]

/-- 16 R379: ATH is a multiple of 256 within its bounds. -/
theorem Persist.athAtBoot_spec (p : Persist) : p.athAtBoot % 256 = 0 ∧ 256 ≤ p.athAtBoot ∧ p.athAtBoot ≤ 3072 := by
  unfold Persist.athAtBoot
  split
  · assumption
  · decide

/-- 20 R447: every die-to-die link has a width of four lanes at least. -/
theorem linksSupported_iff (v : Vector Link 18) : linksSupported v = true ↔ ∀ k : Fin 18, k.val < 6 → 4 ≤ (v[k]).width := by
  simp only [linksSupported, List.all_eq_true, List.mem_finRange, true_imp_iff, Bool.or_eq_true, decide_eq_true_eq]
  exact forall_congr' (fun k => ⟨fun h hk => h.resolve_left (by omega), fun h => (Nat.lt_or_ge k.val 6).elim (fun hk => .inr (h hk)) .inl⟩)

/-- 20 R448: the visible memory is that of the dies. -/
theorem State.visible_congr {t : State} (h : t.life.dies = s.life.dies) : t.visible = s.visible := by
  have hdie : ∀ d, t.die d = s.die d := fun d => by rw [State.die, State.die, h]
  simp only [State.visible, State.fastLive, State.capLive, hdie]

/-- 20 R447: what bring-up finds supported. -/
def State.bringupOk (s : State) (v : Vector Link 18) : Bool :=
  ((List.range 4).map s.persist.dieConf).all DieConf.supported && linksSupported v && (s.persist.good0 || s.persist.good1)

theorem exec_bringup (h : s.life.stat = .bringup) :
    ∃ t v, exec .bringupComplete s = .next t ∧ t.links = v ∧ t.life.stat = (if s.bringupOk v then .ready else .unsupported) ∧
      t.life.dies = (List.range 4).map s.persist.dieConf ∧ t.life.nodeid = s.persist.nodeid ∧ t.life.timer = s.life.timer ∧
      t.persist = s.persist.mended.retire v ∧ t.life.savepool = t.visible / 4 / 128 * 128 ∧ t.ath = s.persist.athAtBoot := by
  have hexec : exec .bringupComplete s = execBringupComplete s := rfl
  simp only [execBringupComplete, h, ne_eq, not_true_eq_false, if_false] at hexec
  generalize hv : Vector.ofFn (fun (k : Fin 18) => s.persist.trained k.val s.links[k]) = v at hexec
  generalize hu : s.modLife _ = u at hexec
  obtain ⟨m, l, ht⟩ := State.setLinks_spec u v
  rw [ht] at hexec
  subst hu
  exact ⟨_, v, hexec, rfl, rfl, rfl, rfl, rfl, rfl, congrArg (fun n => n / 4 / 128 * 128) (State.visible_congr rfl), rfl⟩

/-! ## Loss of power (20 R440, R450) -/

theorem State.unpowered_spec (s : State) : s.unpowered.Unpowered s.persist s.mem := by
  refine ⟨rfl, rfl, rfl, rfl, rfl, fun c => ?_, fun q => ?_, fun hm a => ?_⟩
  · have hc : s.unpowered.ctxs[c] = Ctx.free := Vector.getElem_replicate _
    rw [hc]
    rfl
  · have hq : s.unpowered.queues[q] = Queue.unbound := Vector.getElem_replicate _
    rw [hq]
    rfl
  · have hget := Memory.get_filter (fun x => decide (hostBase ≤ x)) a hm
    simpa [State.unpowered] using hget

theorem exec_powerLoss (h : s.life.stat ≠ .off) : ∃ t, exec .powerLoss s = .next t ∧ t.Unpowered s.persist s.mem :=
  ⟨s.unpowered, next_of_eq (if_neg h), s.unpowered_spec⟩

/-- 20 R450: a trip is entered in the event log, of which the newest 120 entries stay. -/
theorem exec_thermalTrip {die : Fin 4} (h : s.life.stat ≠ .off) (hd : s.life.step[die] = 3) : ∃ t, exec (.thermalTrip die) s = .next t ∧
    t.Unpowered { s.persist with log := (s.persist.log ++ [(s.now, 6, die.val, 5)]).drop (s.persist.log.length + 1 - 120) } s.mem := by
  have hoff := (s.eventLog 6 die.val 5).unpowered_spec
  have hlen : (s.persist.log ++ [(s.now, 6, die.val, 5)]).length = s.persist.log.length + 1 := List.length_append
  have hlog : (s.eventLog 6 die.val 5).persist =
      { s.persist with log := (s.persist.log ++ [(s.now, 6, die.val, 5)]).drop (s.persist.log.length + 1 - 120) } := by
    simp only [State.eventLog, hlen]
  have hmem : (s.eventLog 6 die.val 5).mem = s.mem := by simp only [State.eventLog]
  rw [hlog, hmem] at hoff
  have hexec : exec (.thermalTrip die) s = .next (s.eventLog 6 die.val 5).unpowered := by
    show execThermalTrip die s = _
    rw [execThermalTrip, if_pos ⟨h, hd⟩]
  exact ⟨_, hexec, hoff⟩

/-! ## Reset (20 R439) -/

/-- 15 R363: a frame that goes back changes its pool alone. -/
theorem State.frameReturn_spec (s : State) (f : Nat) : ∃ p, s.frameReturn f = { s with pools := p } := by
  simp only [State.frameReturn]
  repeat' split
  all_goals exact ⟨_, rfl⟩

/-- 20 R439: what undoing a migration leaves as it is. -/
theorem State.undoMig_keeps (s : State) (m : Migration) : (s.undoMig m).life = s.life ∧ (s.undoMig m).persist = s.persist := by
  have hleaf : ∀ a e, (s.setLeaf a e).life = s.life ∧ (s.setLeaf a e).persist = s.persist := fun a e => by
    obtain ⟨_, _, _, _, h⟩ := (s.wr a 8 e).recached_l2Touch a 8 true
    rw [State.setLeaf, h]
    exact ⟨rfl, rfl⟩
  have hframe : ∀ (t : State) f, (t.frameReturn f).life = t.life ∧ (t.frameReturn f).persist = t.persist := fun t f => by
    obtain ⟨p, hp⟩ := t.frameReturn_spec f
    rw [hp]
    exact ⟨rfl, rfl⟩
  unfold State.undoMig
  split
  · exact ⟨rfl, rfl⟩
  · dsimp only
    rw [(hframe _ _).1, (hframe _ _).2]
    split
    · split
      · exact hleaf _ _
      · exact ⟨rfl, rfl⟩
    · exact ⟨rfl, rfl⟩

theorem exec_functionLevelReset (h : s.life.stat = .ready) : ∃ t, exec .functionLevelReset s = .next t ∧ t.life = s.life ∧ t.persist = s.persist ∧
    t.groups = [] ∧ t.launches = [] ∧ t.copies = [] ∧ t.migs = [] ∧ (∀ c : Fin 64, (t.ctxs[c]).st = .free) ∧
    ∀ q : Fin 256, (t.queues[q]).st = .unbound := by
  have hopen : (!s.open_) = false := by simp [State.open_, h]
  have hexec : exec .functionLevelReset s = execFunctionLevelReset s := rfl
  simp only [execFunctionLevelReset, hopen, Bool.false_eq_true, if_false] at hexec
  have hundo := List.foldlRecOn (motive := fun t => State.life t = s.life ∧ State.persist t = s.persist) s.migs (fun t e => t.undoMig e.2) ⟨rfl, rfl⟩
    (fun t ht e _ => ⟨(t.undoMig_keeps e.2).1.trans ht.1, (t.undoMig_keeps e.2).2.trans ht.2⟩)
  generalize s.migs.foldl (fun t e => t.undoMig e.2) s = u at hexec hundo
  have hdrop : (u.dropMigs (fun _ => true)).life = s.life ∧ (u.dropMigs (fun _ => true)).persist = s.persist ∧ (u.dropMigs (fun _ => true)).migs = [] := by
    have hnil : u.migs.filter (fun _ => !true) = [] := by simp
    simp only [State.dropMigs]
    split
    · exact ⟨hundo.1, hundo.2, hnil⟩
    · exact ⟨hundo.1, hundo.2, hnil⟩
  obtain ⟨hlife, hpersist, hmigs⟩ := hdrop
  refine ⟨_, hexec, hlife, hpersist, rfl, rfl, rfl, hmigs, fun c => ?_, fun q => ?_⟩
  · simp [Ctx.free]
  · simp

end

/-! ## The host's access to memory (14 R344) -/

section
variable {s : State} {a : Nat} {data : List (BitVec 8)}

theorem exec_hostMemoryAccess_host (h : s.region a = .host) :
    exec (.hostMemoryAccess a data) s = .next { s with mem := Memory.putBytes s.mem a data } := by
  show execHostMemoryAccess a data s = _
  simp only [execHostMemoryAccess, h]

theorem exec_hostMemoryAccess_hole (h : s.region a = .hole) : exec (.hostMemoryAccess a data) s = .next s := by
  show execHostMemoryAccess a data s = _
  simp only [execHostMemoryAccess, h]

/-- 14 R344: an access to device memory. -/
theorem exec_hostMemoryAccess_device (h : s.region a ≠ .host) (ho : s.region a ≠ .hole) : exec (.hostMemoryAccess a data) s = .next (
    if !s.open_ || !s.joined 0 (homeDie a) then s
    else if data.isEmpty then s.l2Access (s.node * 2 ^ 48 + a) 1 false
    else ({ s with mem := Memory.putBytes s.mem a data } : State).l2Access (s.node * 2 ^ 48 + a) data.length true) := by
  show execHostMemoryAccess a data s = _
  unfold execHostMemoryAccess
  split
  · next hr => exact absurd hr ho
  · next hr => exact absurd hr h
  · rfl

/-- 14 R344: what a host access of a READY device does that finds a route. -/
theorem exec_hostMemoryAccess_reached (h : s.region a ≠ .host) (ho : s.region a ≠ .hole) (hs : s.life.stat = .ready)
    (hj : s.joined 0 (homeDie a) = true) :
    ∃ t, exec (.hostMemoryAccess a data) s = .next t ∧ t.mem = Memory.putBytes s.mem a data ∧ t.groups = s.groups := by
  have hexec := exec_hostMemoryAccess_device (data := data) h ho
  simp only [State.open_, hs, decide_true, hj, Bool.not_true, Bool.or_self, Bool.false_eq_true, if_false] at hexec
  cases data with
  | nil =>
    rw [List.isEmpty_nil, if_pos rfl] at hexec
    exact ⟨_, hexec, (s.recached_l2Access ..).mem_eq, (s.recached_l2Access ..).groups_eq⟩
  | cons b r =>
    rw [List.isEmpty_cons, if_neg Bool.false_ne_true] at hexec
    exact ⟨_, hexec, (State.recached_l2Access ..).mem_eq, (State.recached_l2Access ..).groups_eq⟩

end

/-- Settles O51: each event has its effect in the states of the device that it is for, and no other. -/
theorem powerAndResetEvents : Obligations.PowerAndResetEvents := by
  intro s
  refine ⟨fun h => ⟨next_of_eq (if_pos h), next_of_eq (if_pos h)⟩, fun h => next_of_eq (if_neg h), fun h => next_of_eq (if_pos h),
    fun h => next_of_eq (if_pos h), fun h => next_of_eq (if_pos (by simpa [State.open_] using h)),
    fun die h => next_of_eq (if_neg (by rintro ⟨hs, hd⟩; exact h.elim hs (· hd))),
    fun h => ⟨exec_romCheck_passed h, exec_romCheck_failed h⟩, fun h => ?bringup, fun h => exec_powerLoss h,
    fun die h hstep => exec_thermalTrip h hstep, exec_functionLevelReset, fun a data => ?host⟩
  case bringup =>
    obtain ⟨t, v, hexec, rfl, hstat, hdies, hnode, htimer, hpersist, hpool, hath⟩ := exec_bringup h
    refine ⟨t, hexec, hdies, hnode, htimer, hpersist, hpool, hath ▸ s.persist.athAtBoot_spec, ?_, ?_⟩
    · rw [hstat, ← linksSupported_iff]
      by_cases hok : s.bringupOk t.links = true
      · rw [if_pos hok]
        simpa [State.bringupOk, and_assoc, and_comm] using hok
      · rw [if_neg hok]
        simpa [State.bringupOk, and_assoc, and_comm] using hok
    · rw [hstat]
      split
      · exact fun hn => absurd rfl hn
      · exact fun _ => rfl
  case host =>
    intro far
    refine ⟨exec_hostMemoryAccess_host, fun h ho hs => ⟨fun hj => exec_hostMemoryAccess_reached h ho hs (by simpa [far] using hj), fun hj => ?_⟩,
      fun h hs => ?_, exec_hostMemoryAccess_hole⟩
    · have hfar : s.joined 0 (homeDie a) = false := hj
      rw [exec_hostMemoryAccess_device h ho, if_pos (by simp [hfar])]
    · by_cases ho : s.region a = .hole
      · exact exec_hostMemoryAccess_hole ho
      · rw [exec_hostMemoryAccess_device h ho, if_pos (by simp [State.open_, hs])]

/-! ## Steps (13 R312, 20 R449) -/

section
variable {s : State}

/-- 20 R440: identity and control answer in three states of the device. -/
theorem State.identLive_iff (s : State) : s.identLive = true ↔ s.life.stat = .ready ∨ s.life.stat = .recovery ∨ s.life.stat = .unsupported := by
  simp only [State.identLive, Bool.or_eq_true, decide_eq_true_eq, or_assoc]

/-- 20 R449: a die's last change of step lies 100 µs back. -/
def State.stepDue (s : State) (die : Fin 4) : Bool := match s.life.stepAt[die] with
  | some t => decide (100000 ≤ s.now - t)
  | none => true

theorem State.stepDue_iff (s : State) (die : Fin 4) : s.stepDue die = true ↔ ∀ t, s.life.stepAt[die] = some t → 100000 ≤ s.now - t := by
  unfold State.stepDue
  split
  · next t ht => simp [ht]
  · next hn => simp [hn]

/-- 20 R449: a die has a step to go to. -/
def State.stepRoom (s : State) (die : Fin 4) (up : Bool) : Bool :=
  if up then decide (s.life.stepcap.toNat < s.life.step[die].toNat) else decide (s.life.step[die].toNat < 3)

theorem exec_stepChange (die : Fin 4) (up : Bool) : exec (.stepChange die up) s = .next (
    if decide (s.life.stat = .ready) && s.stepDue die && s.stepRoom die up then
      (s.modLife (fun l =>
        { l with step := l.step.set die (BitVec.ofNat 2 (if up then s.life.step[die].toNat - 1 else s.life.step[die].toNat + 1)),
                 paused := l.paused.set die true, stepAt := l.stepAt.set die (some s.now) })).manage 1
    else s) := rfl

/-- 13 R312: a step down or up is one code more or less. -/
theorem ofNat_step {x : BitVec 2} {up : Bool} (h : if up then 0 < x.toNat else x.toNat < 3) :
    BitVec.ofNat 2 (if up then x.toNat - 1 else x.toNat + 1) = if up then x - 1 else x + 1 := by
  cases up <;> simp only [Bool.false_eq_true, if_false, if_true] at h ⊢ <;> bv_omega

theorem exec_stepChange_taken {die : Fin 4} {up : Bool} (h : s.life.stat = .ready) (hd : ∀ t, s.life.stepAt[die] = some t → 100000 ≤ s.now - t)
    (hr : if up then s.life.stepcap.toNat < (s.life.step[die]).toNat else (s.life.step[die]).toNat < 3) :
    ∃ t, exec (.stepChange die up) s = .next t ∧ t.life.paused[die] = true ∧ t.life.stepAt[die] = some s.now ∧ t.life.mgmt.getLsbD 1 = true ∧
      t.life.step = s.life.step.set die (if up then s.life.step[die] - 1 else s.life.step[die] + 1) := by
  have hroom : s.stepRoom die up = true := by cases up <;> simpa [State.stepRoom] using hr
  have hexec := exec_stepChange (s := s) die up
  rw [h, (s.stepDue_iff die).mpr hd, hroom, if_pos (by decide)] at hexec
  refine ⟨_, hexec, ?_⟩
  obtain ⟨l, ht, -⟩ := State.manage_spec (s.modLife (fun l =>
    { l with step := l.step.set die (BitVec.ofNat 2 (if up then s.life.step[die].toNat - 1 else s.life.step[die].toNat + 1)),
             paused := l.paused.set die true, stepAt := l.stepAt.set die (some s.now) })) 1
  rw [ht]
  refine ⟨by simp [State.modLife], by simp [State.modLife], ?_, ?_⟩
  · simp
  · have hstep := ofNat_step (x := s.life.step[die]) (up := up) (by cases up <;> simp_all; omega)
    simp only [State.modLife, hstep]

theorem exec_stepChange_refused {die : Fin 4} {up : Bool} (h : s.life.stat ≠ .ready ∨ (∃ t, s.life.stepAt[die] = some t ∧ s.now - t < 100000) ∨
    (if up then (s.life.step[die]).toNat ≤ s.life.stepcap.toNat else (s.life.step[die]).toNat = 3)) : exec (.stepChange die up) s = .next s := by
  rw [exec_stepChange, if_neg]
  simp only [Bool.and_eq_true, decide_eq_true_eq, s.stepDue_iff, not_and]
  rintro ⟨hs, hd⟩ hr
  rcases h with h | ⟨t, ht, hlt⟩ | h
  · exact h hs
  · have := hd t ht
    omega
  · cases up <;> simp [State.stepRoom] at h hr <;> omega

/-! ## Attestation (20 R442) -/

theorem State.attCmd_refused (h : s.identLive = true) (ha : s.life.attcmd ≠ 0) (n : Nat) : s.attCmd n = { s with life := { s.life with attstat := 3 } } := by
  simp only [State.attCmd, h, Bool.not_true, Bool.false_eq_true, if_false, ha, ne_eq, not_false_iff, if_true, State.modLife]

theorem State.attCmd_started (h : s.identLive = true) (ha : s.life.attcmd = 0) (n : Nat) :
    s.attCmd n = { s with life := { s.life with attcmd := n, attstat := 1 } } := by
  simp only [State.attCmd, h, Bool.not_true, Bool.false_eq_true, if_false, ha, ne_eq, not_true_eq_false, State.modLife]

theorem State.attCmd_deaf (h : ¬s.identLive = true) (n : Nat) : s.attCmd n = s := by simp [State.attCmd, h]

/-- ATTESTATION_COMPLETE ends the command under way, whatever it has written. -/
def State.attested (s : State) (t : State) : State := t.modLife (fun l => { l with attcmd := 0, attstat := 2, attests := s.life.attests + 1 })

theorem exec_attestation_report (h : s.life.attcmd = 1) : exec .attestationComplete s = .next (s.attested
    { s with mem := Memory.putBytes s.mem s.attbuf (s.reportBytes ++ freeBytes s.life.attests 0x170 (384 + 16224)) }) := by
  show execAttestationComplete s = _
  rw [execAttestationComplete]
  simp only [h]
  rfl

theorem exec_attestation_certs (h : s.life.attcmd = 2) : exec .attestationComplete s =
    .next (s.attested { s with mem := Memory.putBytes s.mem s.attbuf (freeBytes s.life.attests 0 20480) }) := by
  show execAttestationComplete s = _
  rw [execAttestationComplete]
  simp only [h]
  rfl

theorem exec_attestation_nodeset (h : s.life.attcmd = 3) : exec .attestationComplete s =
    .next (s.attested { s with persist := { s.persist with nodeid := BitVec.ofNat 8 (s.bar 0x28 4) } }) := by
  show execAttestationComplete s = _
  rw [execAttestationComplete]
  simp only [h]
  rfl

/-- 20 R442: the bytes at the start of what a command writes to ATTBUF read back, whatever follows them. -/
theorem State.get_attested (hm : Memory.wf s.mem = true) (a : Nat) (l r : List Byte) (i : Nat) (b : Byte) (hb : l[i]? = some b) :
    Memory.get (s.attested { s with mem := Memory.putBytes s.mem a (l ++ r) }).mem (a + i) = b := by
  have hlt : i < l.length := (List.getElem?_eq_some_iff.mp hb).1
  exact Memory.get_putBytes hm _ ((List.getElem?_append_left hlt).trans hb)

end

/-- Settles O52: each command and each event of control is taken in its states of the device and changes what it is for. -/
theorem controlEvents : Obligations.ControlEvents := by
  intro s live
  have hlive : live ↔ s.identLive = true := (s.identLive_iff).symm
  refine ⟨fun die up h hd hr => exec_stepChange_taken h hd hr, fun die up h => exec_stepChange_refused h, fun h => ?deaf, fun h ha i hi => ?refused,
    fun h => next_of_eq (if_pos h), fun h => ⟨fun die => next_of_eq (if_pos h), fun k img => next_of_eq (if_pos h)⟩, fun die => rfl, fun h => ?commands,
    fun die h => ?warning, fun h => ⟨_, exec_attestation_nodeset h, rfl, rfl, rfl, rfl⟩, fun h hm => ⟨_, exec_attestation_report h, rfl, rfl, ?report⟩,
    fun h => ⟨_, exec_attestation_certs h, rfl, rfl⟩, fun k img h => ⟨_, next_of_eq (if_neg h), rfl, rfl, rfl⟩⟩
  case deaf =>
    have hno : ¬s.identLive = true := fun hi => h (hlive.mpr hi)
    exact ⟨fun v => next_of_eq (if_neg hno), fun v => next_of_eq (if_neg hno), next_of_eq (State.attCmd_deaf hno 1), next_of_eq (State.attCmd_deaf hno 2),
      next_of_eq (State.attCmd_deaf hno 3)⟩
  case refused =>
    have refuses := State.attCmd_refused (hlive.mp h) ha
    simp only [List.mem_cons, List.not_mem_nil, or_false] at hi
    rcases hi with rfl | rfl | rfl
    · exact next_of_eq (refuses 1)
    · exact next_of_eq (refuses 2)
    · exact next_of_eq (refuses 3)
  case commands =>
    have starts := fun ha => State.attCmd_started (hlive.mp h) ha
    refine ⟨fun v => next_of_eq (if_pos (hlive.mp h)), fun v => ⟨_, next_of_eq (if_pos (hlive.mp h)), fun b hb => ?_⟩,
      fun ha => ⟨next_of_eq (starts ha 1), next_of_eq (starts ha 2), next_of_eq (starts ha 3)⟩⟩
    simp [State.modLife, hb]
  case warning =>
    obtain ⟨l, ht, hl⟩ := s.manage_spec 3
    have hexec : exec (.thermalWarning die) s = .next (s.manage 3) := next_of_eq (if_neg h)
    refine ⟨_, hexec, ?_⟩
    rw [ht]
    exact ⟨by simp, hl⟩
  case report =>
    exact State.get_attested hm s.attbuf s.reportBytes _

end Sys2Proof.Machine
end

section
/-! O46 and O45: the host's page commands and the frames (15 R360, R361, R363, R369), and migrations (15 R358, R359). -/

namespace Sys2Proof.Machine

variable {s : State}

/-! ## Translations shot down (15 R355) and accesses judged again (15 R358) -/

/-- 15 R355: no core keeps a translation that meets the pages shot down. -/
theorem State.tlb_shootdown {ctx page n : Nat} {c : Nat × Core} (hc : c ∈ (s.shootdown ctx page n).cores) {b : TlbEnt} (hb : b ∈ c.2.tlb)
    (hx : b.ctx = ctx) : ¬(b.page < page + n ∧ page < b.page + b.pages) := by
  obtain ⟨x, -, rfl⟩ := List.mem_map.mp hc
  have hkeep := (List.mem_filter.mp hb).2
  simp only [hx, decide_true, Bool.true_and, Bool.not_eq_true', Bool.and_eq_false_iff, decide_eq_false_iff_not] at hkeep
  exact fun hmeets => hkeep.elim (· hmeets.1) (· hmeets.2)

/-- 15 R358: accesses judged again are the only change. -/
theorem State.unparkAll_spec (ctx : Nat) (l : List (Nat × Migration)) (s : State) :
    ∃ o c, l.foldl (fun t e => t.unpark ctx e.2.page) s = { s with memops := o, copies := c } := by
  induction l generalizing s with
  | nil => exact ⟨s.memops, s.copies, rfl⟩
  | cons e r ih =>
    obtain ⟨o, c, h⟩ := ih (s.unpark ctx e.2.page)
    exact ⟨o, c, h⟩

/-- 15 R359: TLBINV has the accesses and the migrations that wait for software judged again. -/
theorem State.rejudge_spec (s : State) (ctx page n : Nat) :
    ∃ g o c, s.rejudge ctx page n = { s with migs := g, memops := o, copies := c } := by
  obtain ⟨o, c, h⟩ := State.unparkAll_spec ctx _ _
  exact ⟨_, o, c, h⟩

theorem State.recached_setLeaf (s : State) (a e : Nat) : (s.wr a 8 e).Recached (s.setLeaf a e) := State.recached_l2Touch ..

/-! ## The host's page commands (15 R360, R361, R369) -/

/-- 15 R361: a request that can be acts. -/
theorem State.pageCmd_good (h : s.life.stat = .ready) (hm : s.mcmd = none) (hc : (s.ctxs[s.mctx]).st.runs = true) (hv : s.mva < 2 ^ 56)
    (act : State → State) : s.pageCmd act = act s := by
  rw [State.pageCmd, if_neg (by simp [State.open_, h, hm]), if_neg (by rw [hc]; simpa using hv)]

/-- 15 R361: a request that cannot be is BADREQ. -/
theorem State.pageCmd_bad (h : s.life.stat = .ready) (hm : s.mcmd = none) (hb : ¬((s.ctxs[s.mctx]).st.runs = true ∧ s.mva < 2 ^ 56))
    (act : State → State) : s.pageCmd act = { s with mstat := 3 } := by
  rw [State.pageCmd, if_neg (by simp [State.open_, h, hm]), if_pos]
  by_contra hn
  simp only [not_or, Bool.not_eq_true', Bool.not_eq_false, Nat.not_le] at hn
  exact hb hn

/-- 15 R361: a request while a command is BUSY, or of a device that is not READY, is refused. -/
theorem State.pageCmd_refused (h : s.life.stat ≠ .ready ∨ s.mcmd.isSome = true) (act : State → State) : s.pageCmd act = s :=
  if_pos (h.imp_left fun h => by simpa [State.open_] using h)

/-- 15 R361: MIGRATE and PIN become the command that is BUSY. -/
theorem State.startMig_spec (s : State) (target : Nat) : (s.startMig target).mcmd = some s.uid ∧ (s.startMig target).mstat = 1 ∧
    (s.startMig target).mem = s.mem ∧ ∃ m, (s.uid, m) ∈ (s.startMig target).migs ∧ m.ctx = s.mctx.val ∧ m.page = s.mva / 2 ^ 14 ∧
      m.host = some target ∧ m.step = .waiting :=
  ⟨rfl, rfl, rfl, _, List.mem_append_right _ (List.mem_singleton_self _), rfl, rfl, rfl, rfl⟩

section
variable (h : s.life.stat = .ready) (hm : s.mcmd = none) (hc : (s.ctxs[s.mctx]).st.runs = true) (hv : s.mva < 2 ^ 56)
include h hm hc hv

theorem exec_migrate_good : exec .migrate s = .next (
    if s.mtarget = 1 ∨ s.mtarget = 2 ∨ (hostBase ≤ s.mtarget ∧ s.mtarget < 2 ^ 48 ∧ s.mtarget % 2 ^ 14 = 0) then s.startMig s.mtarget
    else { s with mstat := 3 }) := next_of_eq (State.pageCmd_good h hm hc hv _)

theorem exec_pin_good : exec .pin s = .next (s.startMig 0) := next_of_eq (State.pageCmd_good h hm hc hv _)

/-- 15 R360: UNPIN of a PINNED leaf gives it the state of its frame. -/
theorem exec_unpin_pinned {a e st : Nat} (hw : s.walk (s.ctxs[s.mctx]).ptroot s.mva = .leaf a e) (hok : (leafOf e).ok = true)
    (hp : (leafOf e).state = stPinned) (hst : s.stateOf (leafOf e).frame = some st) : exec .unpin s = .next
      { ((s.setLeaf a (leafSetState e st)).shootdown s.mctx (vpage s.mva) 1) with mstat := 0 } := by
  refine next_of_eq ((State.pageCmd_good h hm hc hv _).trans ?_)
  simp only [hw, hok, hp, hst, decide_true]

/-- 15 R361: UNPIN of another leaf is BADREQ. -/
theorem exec_unpin_other {a e : Nat} (hw : s.walk (s.ctxs[s.mctx]).ptroot s.mva = .leaf a e)
    (hno : (leafOf e).ok = false ∨ (leafOf e).state ≠ stPinned ∨ s.stateOf (leafOf e).frame = none) :
    exec .unpin s = .next { s with mstat := 3 } := by
  refine next_of_eq ((State.pageCmd_good h hm hc hv _).trans ?_)
  simp only [hw]
  split
  · next st hok hp hst =>
    rcases hno with hno | hno | hno
    · exact absurd (hok.symm.trans hno) (by decide)
    · exact absurd (of_decide_eq_true hp) hno
    · exact absurd (hst.symm.trans hno) nofun
  · rfl

theorem exec_unpin_unmapped (hw : s.walk (s.ctxs[s.mctx]).ptroot s.mva = .bad) : exec .unpin s = .next { s with mstat := 3 } := by
  refine next_of_eq ((State.pageCmd_good h hm hc hv _).trans ?_)
  simp only [hw]

/-- 15 R369: MCMD TLBINV drops the translations of a run of pages, of all pages for a count of 0. -/
theorem exec_mcmdTlbinv_good : ∃ t, exec .mcmdTlbinv s = .next t ∧ t.mstat = 0 ∧ t.mem = s.mem ∧
    t.cores = (s.shootdown s.mctx (if s.mtarget = 0 then 0 else vpage s.mva) (if s.mtarget = 0 then 2 ^ 42 else s.mtarget)).cores := by
  refine ⟨_, next_of_eq (State.pageCmd_good h hm hc hv _), ?_⟩
  obtain ⟨_, _, _, hr⟩ := (s.shootdown s.mctx (if s.mtarget = 0 then 0 else vpage s.mva)
    (if s.mtarget = 0 then 2 ^ 42 else s.mtarget)).rejudge_spec s.mctx (if s.mtarget = 0 then 0 else vpage s.mva)
    (if s.mtarget = 0 then 2 ^ 42 else s.mtarget)
  simp only [hr]
  exact ⟨trivial, rfl, trivial⟩

end

/-! ## Frames (15 R363) -/

/-- 15 R363: a frame written to FRAMEIN joins its pool while the ring has room. -/
theorem exec_frameinWrite (h : s.life.stat = .ready) (p : Fin 8) (pn : BitVec 64) : exec (.frameinWrite p pn) s = .next (
    if s.poolHas p pn.toNat = true ∧ (s.pools[p]).frames.length < s.bar (0x300008 + 32 * p.val) 4 then
      { s with pools := s.pools.set p { s.pools[p] with frames := (s.pools[p]).frames ++ [pn.toNat] } } else s) := by
  show execFrameinWrite p pn s = _
  simp only [execFrameinWrite, State.open_, h, decide_true, true_and, State.poolSize]

theorem exec_frameinWrite_closed (h : s.life.stat ≠ .ready) (p : Fin 8) (pn : BitVec 64) : exec (.frameinWrite p pn) s = .next s :=
  next_of_eq (if_neg (fun hopen => h (of_decide_eq_true hopen.1)))

/-- Settles O46: each command by whether the device is READY, another command is BUSY, and its request can be. -/
theorem pageCommandResults : Obligations.PageCommandResults := by
  refine ⟨fun s h hm => ?_, fun s h => ⟨?_, ?_, ?_, ?_⟩, fun s p pn h => exec_frameinWrite_closed h p pn, fun s p pn h => exec_frameinWrite h p pn⟩
  case refine_1 =>
    refine ⟨fun hb => ?_, ?_⟩
    · have hrefused := State.pageCmd_bad h hm hb
      exact ⟨next_of_eq (hrefused _), next_of_eq (hrefused _), next_of_eq (hrefused _), next_of_eq (hrefused _)⟩
    · rintro ⟨hc, hv⟩
      refine ⟨fun ht => ⟨_, (exec_migrate_good h hm hc hv).trans (next_of_eq (if_pos ht)), s.startMig_spec _⟩,
        fun ht => (exec_migrate_good h hm hc hv).trans (next_of_eq (if_neg ht)), ⟨_, exec_pin_good h hm hc hv, s.startMig_spec 0⟩,
        fun a e st hw hok hp hst => ⟨_, exec_unpin_pinned h hm hc hv hw hok hp hst, rfl, (s.recached_setLeaf a _).mem_eq⟩,
        fun a e hw hno => exec_unpin_other h hm hc hv hw hno, exec_unpin_unmapped h hm hc hv, ?_⟩
      obtain ⟨t, ht, hstat, hmem, hcores⟩ := exec_mcmdTlbinv_good h hm hc hv
      refine ⟨t, ht, hstat, hmem, fun c hcm b hb hx => ?_⟩
      have hgone := State.tlb_shootdown (hcores ▸ hcm) hb hx
      by_cases hn : s.mtarget = 0
      · simpa [hn] using hgone
      · simpa [hn, vpage] using hgone
  all_goals exact next_of_eq (State.pageCmd_refused h _)

end Sys2Proof.Machine
end

section
/-! O45: migrations (15 R358, R359). What fails the accesses that wait for a page, up to the fault of a context, leaves the host's command under way. -/

namespace Sys2Proof.Machine

/-! ## What the ends of accesses and the faults of contexts leave as it is (15 R361, 18 R420, 20 R443) -/

/-- The host's command that is BUSY, the links, the persistent tables, and the requests at other dies and nodes. -/
def State.aside (s : State) : Option Nat × Vector Link 18 × Persist × Tab Remote := (s.mcmd, s.links, s.persist, s.remotes)

theorem State.aside_eq_iff {s t : State} : t.aside = s.aside ↔ t.mcmd = s.mcmd ∧ t.links = s.links ∧ t.persist = s.persist ∧ t.remotes = s.remotes := by
  simp only [State.aside, Prod.mk.injEq]

@[simp] theorem State.aside_mk {life persist mem bad bar0 ctxs queues qptr launches groups cores memops numops popWaits hods copies engines exchs
    clusters reds remotes migs pins pools mstat mcmd binds l2 l2fills through channels ath links psend pexpect stations inbound ready lostPage cur agenda
    tick uid} :
    (State.mk life persist mem bad bar0 ctxs queues qptr launches groups cores memops numops popWaits hods copies engines exchs
      clusters reds remotes migs pins pools mstat mcmd binds l2 l2fills through channels ath links psend pexpect stations inbound ready lostPage cur agenda
      tick uid).aside = (mcmd, links, persist, remotes) := rfl

@[simp] theorem State.aside_eta (s : State) : (s.mcmd, s.links, s.persist, s.remotes) = s.aside := rfl

section
variable (s : State)

@[simp] theorem State.modCtx_aside (c : Fin 64) (f : Ctx → Ctx) : (s.modCtx c f).aside = s.aside := rfl

@[simp] theorem State.modGroup_aside (g : Nat) (f : Group → Group) : (s.modGroup g f).aside = s.aside := rfl

@[simp] theorem State.modWarp_aside (g w : Nat) (f : Warp → Warp) : (s.modWarp g w f).aside = s.aside := rfl

@[simp] theorem State.wr_aside (a n v : Nat) : (s.wr a n v).aside = s.aside := rfl

@[simp] theorem State.irq_aside (v : Nat) : (s.irq v).aside = s.aside := by
  unfold State.irq
  split <;> rfl

@[simp] theorem State.notify_aside (c : Fin 64) : (s.notify c).aside = s.aside := by
  simp only [State.notify]
  repeat' split
  all_goals simp

@[simp] theorem State.setCtx_aside (c : Fin 64) (st : CtxState) : (s.setCtx c st).aside = s.aside := by
  simp [State.setCtx]

@[simp] theorem State.addFault_aside (ctx page die : Nat) (host : Option Nat) : (s.addFault ctx page die host).aside = s.aside := by
  unfold State.addFault
  split <;> rfl

@[simp] theorem State.engStore_aside (pa : Nat) (b : List Byte) : (s.engStore pa b).aside = s.aside := by
  induction b generalizing s pa with
  | nil => rfl
  | cons x r ih =>
    rw [State.engStore, ih, State.engPut]
    split <;> rfl

@[simp] theorem State.useRow_aside (p : Nat) : (s.useRow p).aside = s.aside := rfl

@[simp] theorem State.l2Touch_aside (p n : Nat) (write : Bool) : (s.l2Touch p n write).aside = s.aside := by
  simp only [State.l2Touch]
  repeat' split
  all_goals rfl

@[simp] theorem State.l2Access_aside (pa n : Nat) (write : Bool) : (s.l2Access pa n write).aside = s.aside := by
  unfold State.l2Access
  split
  · exact foldl_keeps State.aside (fun t i => State.l2Touch_aside ..) _ _
  · rfl

@[simp] theorem State.engPutBytes_aside (pa : Nat) (b : List Byte) : (s.engPutBytes pa b).aside = s.aside := by
  simp [State.engPutBytes]

@[simp] theorem State.recheckSignals_aside : (s.recheckSignals).aside = s.aside := rfl

@[simp] theorem State.trimEngine_aside : (s.trimEngine).aside = s.aside := rfl

@[simp] theorem State.discard_aside (g w : Nat) : (s.discard g w).aside = s.aside := rfl

@[simp] theorem State.clusterStep_aside (launch phase q : Nat) : (s.clusterStep launch phase q).aside = s.aside := by
  simp only [State.clusterStep]
  repeat' split
  all_goals rfl

@[simp] theorem State.joinSettle_aside (g : Nat) : (s.joinSettle g).aside = s.aside := by
  simp only [State.joinSettle]
  repeat' split
  all_goals rfl

@[simp] theorem State.settleSync_aside (g : Nat) : (s.settleSync g).aside = s.aside := by
  simp only [State.settleSync]
  repeat' split
  all_goals simp

@[simp] theorem State.drainCheck_aside (l : Nat) : (s.drainCheck l).aside = s.aside := by
  simp only [State.drainCheck]
  repeat' split
  all_goals rfl

@[simp] theorem State.owe_aside (c : Fin 64) (o : Owed) : (s.owe c o).aside = s.aside := rfl

@[simp] theorem State.log_aside (c : Fin 64) (cause source node unit addr ref mask : Nat) :
    (s.log c cause source node unit addr ref mask).aside = s.aside := rfl

@[simp] theorem State.loseLog_aside (c : Fin 64) : (s.loseLog c).aside = s.aside := rfl

@[simp] theorem State.putRec_aside (id slot : Nat) (r : Rec) : (s.putRec id slot r).aside = s.aside := by
  simp only [State.putRec]
  repeat' split
  all_goals rfl

@[simp] theorem State.endRec_aside (id slot : Nat) (r : Rec) : (s.endRec id slot r).aside = s.aside := by
  simp [State.endRec]

@[simp] theorem State.dropRec_aside (id slot cause addr : Nat) (logged : Bool) : (s.dropRec id slot cause addr logged).aside = s.aside := by
  simp only [State.dropRec]
  repeat' split
  all_goals simp

@[simp] theorem State.failRec_aside (c : Fin 64) (id slot cause addr : Nat) : (s.failRec c id slot cause addr).aside = s.aside := by
  simp only [State.failRec]
  repeat' split
  all_goals rfl

@[simp] theorem State.freeRec_aside (id slot : Nat) : (s.freeRec id slot).aside = s.aside := by
  simp only [State.freeRec]
  repeat' split
  all_goals rfl

@[simp] theorem State.returnRec_aside (h : Held) (cause : Nat) (abort : Bool) : (s.returnRec h cause abort).aside = s.aside := by
  simp only [State.returnRec]
  repeat' split
  all_goals simp

@[simp] theorem State.endBind_aside (id : Nat) : (s.endBind id).aside = s.aside := by
  simp only [State.endBind]
  split
  · rfl
  · refine Eq.trans (foldl_keeps State.aside (fun t e => State.freeRec_aside ..) _ _) (foldl_keeps State.aside (fun t e => ?_) _ _)
    split
    · rfl
    · exact State.dropRec_aside ..

@[simp] theorem State.endBinds_aside (launch : Nat) : (s.endBinds launch).aside = s.aside := by
  refine foldl_keeps State.aside (fun t e => ?_) _ _
  split
  · exact State.endBind_aside ..
  · rfl

theorem State.putPieces_aside {c : Fin 64} {l : List (Nat × List Byte)} {t : State} (h : s.putPieces c l = .ok t) : t.aside = s.aside := by
  induction l generalizing t with
  | nil => cases h; rfl
  | cons e l ih =>
    obtain ⟨va, b⟩ := e
    simp only [State.putPieces] at h
    split at h
    · split at h
      · cases h
      · split at h
        · rename_i u hu
          cases h
          rw [State.engPutBytes_aside, ih hu]
        · rename_i hno
          exact absurd h (hno t)
    all_goals cases h

theorem State.putVa_aside {c : Fin 64} {va : Nat} {b : List Byte} {t : State} (h : s.putVa c va b = .ok t) : t.aside = s.aside :=
  s.putPieces_aside h

theorem State.pay_aside (c : Fin 64) (o : Owed) : (s.pay c o).state.aside = s.aside := by
  cases o with
  | log b =>
    simp only [State.pay]
    split
    · exact State.loseLog_aside ..
    · split
      · next h => exact (State.notify_aside ..).trans ((State.modCtx_aside ..).trans (State.putVa_aside _ h))
      · exact (State.notify_aside ..).trans (State.loseLog_aside ..)
      · exact State.addFault_aside ..
      · exact (State.notify_aside ..).trans (State.loseLog_aside ..)
  | signal a v =>
    simp only [State.pay]
    split
    · split
      · exact State.log_aside ..
      · exact (State.recheckSignals_aside _).trans (State.engPutBytes_aside ..)
    · exact State.log_aside ..
    · exact State.addFault_aside ..
    · exact State.log_aside ..
  | detach q g w =>
    simp only [State.pay]
    split
    · split
      · rfl
      · exact State.engPutBytes_aside ..
    · exact State.addFault_aside ..
    · rfl
    · rfl
  | slot a b id slot =>
    simp only [State.pay]
    split
    · next h => exact State.putVa_aside _ h
    · exact State.failRec_aside ..
    · exact State.addFault_aside ..
    · rfl

theorem State.payAll_aside (n : Nat) (c : Fin 64) : (State.payAll n s c).1.aside = s.aside := by
  induction n generalizing s with
  | zero => rfl
  | succ n ih =>
    rw [State.payAll]
    split
    · rfl
    · next o r _ =>
      have hpay := State.pay_aside (s.modCtx c (fun y => { y with owed := r })) c o
      rw [State.modCtx_aside] at hpay
      split
      · next t ht => rw [ih, ← hpay, ht]; rfl
      · next t ht => rw [← hpay, ht]; rfl
      · next t k ht => rw [← hpay, ht]; rfl

@[simp] theorem State.paid_aside (c : Fin 64) : (s.paid c).aside = s.aside := State.payAll_aside ..

@[simp] theorem State.endCopy_aside (id : Nat) (st : CopyState) (cause addr : Nat) : (s.endCopy id st cause addr).aside = s.aside := by
  simp only [State.endCopy]
  repeat' split
  all_goals simp

@[simp] theorem State.cancelCopies_aside (p : Copy → Bool) : (s.cancelCopies p).aside = s.aside := by
  refine foldl_keeps State.aside (fun t e => ?_) _ _
  split
  · exact State.endCopy_aside ..
  · rfl

@[simp] theorem State.endWarp_aside (g w cause : Nat) (abort : Bool) : (s.endWarp g w cause abort).aside = s.aside := by
  simp only [State.endWarp]
  split
  · split
    · rfl
    · simp only [State.settleSync_aside, State.trimEngine_aside, State.modGroup_aside, State.modWarp_aside, State.discard_aside, State.modCtx_aside]
      rw [foldl_keeps State.aside (fun t q => State.owe_aside ..)]
      split
      · exact State.returnRec_aside ..
      · rfl
  · rfl

@[simp] theorem State.freeImage_aside (g : Nat) : (s.freeImage g).aside = s.aside := by
  simp only [State.freeImage]
  repeat' split
  all_goals simp

@[simp] theorem State.killGroup_aside (g cause : Nat) (abort : Bool) : (s.killGroup g cause abort).aside = s.aside := by
  have hwarps (l : List Nat) (p : Copy → Bool) :
      (l.foldl (fun t w => t.endWarp g w cause abort) (s.cancelCopies p)).aside = s.aside :=
    (foldl_keeps State.aside (fun t w => State.endWarp_aside ..) _ _).trans (State.cancelCopies_aside ..)
  simp only [State.killGroup]
  split
  · rfl
  · split
    · rfl
    · split <;> simp [hwarps]

@[simp] theorem State.complete_aside (k : Kernel) (v : Nat) : (s.complete k v).aside = s.aside := by
  simp only [State.complete]
  repeat' split
  all_goals simp

@[simp] theorem State.endLaunch_aside (l : Nat) (st : LaunchState) (signal : Bool) : (s.endLaunch l st signal).aside = s.aside := by
  simp only [State.endLaunch]
  repeat' split
  all_goals simp

@[simp] theorem State.abortLaunch_aside (l : Nat) (signal : Bool) : (s.abortLaunch l signal).aside = s.aside := by
  have hkill : (s.groups.foldl (fun t e => if e.2.launch = l then t.killGroup e.1 0 true else t) s).aside = s.aside := by
    refine foldl_keeps State.aside (fun t e => ?_) _ _
    split
    · exact State.killGroup_aside ..
    · rfl
  simp only [State.abortLaunch]
  split
  · rfl
  · split
    · split <;> simp [hkill]
    · rfl

@[simp] theorem State.faultFrom_aside (node : Nat) (c : Fin 64) (cause source unit addr ref mask : Nat) :
    (s.faultFrom node c cause source unit addr ref mask).aside = s.aside := by
  have habort (l : Tab Launch) (t : State) :
      (l.foldl (fun t e => if cfin e.2.k.ctx = c then t.abortLaunch e.1 true else t) t).aside = t.aside := by
    refine foldl_keeps State.aside (fun t e => ?_) _ _
    split
    · exact State.abortLaunch_aside ..
    · rfl
  simp only [State.faultFrom]
  split
  · simp [habort]
  · rfl

@[simp] theorem State.faultContext_aside (c : Fin 64) (cause source unit addr ref mask : Nat) :
    (s.faultContext c cause source unit addr ref mask).aside = s.aside := by
  simp [State.faultContext]

@[simp] theorem State.setSched_aside (g w : Nat) (x : Sched) : (s.setSched g w x).aside = s.aside := rfl

theorem State.spillUntil_aside {core need : Nat} {l : List Movable} {t : State} (h : s.spillUntil core need l = some t) : t.aside = s.aside := by
  induction l generalizing s with
  | nil =>
    simp only [State.spillUntil] at h
    split at h
    · cases h; rfl
    · cases h
  | cons e r ih =>
    simp only [State.spillUntil] at h
    split at h
    · cases h; rfl
    · split at h
      · exact (ih _ h).trans (State.modWarp_aside ..)
      · cases h

@[simp] theorem State.takeDue_aside (g w : Nat) : (s.takeDue g w).aside = s.aside := by
  simp only [State.takeDue]
  repeat' split
  all_goals simp
  next h => exact s.spillUntil_aside h

@[simp] theorem State.handlerFault_aside (g w code addr : Nat) (pc : DWord) (mask : Word) : (s.handlerFault g w code addr pc mask).aside = s.aside := by
  simp [State.handlerFault]

@[simp] theorem State.laneFail_aside (g w : Nat) (pl0 : Bool) (pc : DWord) (lanes : Word) (causes : List LaneCause) :
    (s.laneFail g w pl0 pc lanes causes).aside = s.aside := by
  simp only [State.laneFail]
  repeat' split
  all_goals simp

@[simp] theorem State.modCore_aside (c : Nat) (f : Core → Core) : (s.modCore c f).aside = s.aside := rfl

@[simp] theorem State.acquire_aside (core scope : Nat) : (s.acquire core scope).aside = s.aside := by
  simp only [State.acquire]
  repeat' split
  all_goals simp

@[simp] theorem State.memSettle_aside (id : Nat) : (s.memSettle id).aside = s.aside := by
  simp only [State.memSettle]
  repeat' split
  all_goals simp

@[simp] theorem State.loseCells_aside (c : Copy) : (s.loseCells c).aside = s.aside := by
  simp only [State.loseCells]
  repeat' split
  all_goals simp

@[simp] theorem State.frameReturn_aside (f : Nat) : (s.frameReturn f).aside = s.aside := by
  obtain ⟨_, h⟩ := s.frameReturn_spec f
  exact h ▸ rfl

@[simp] theorem State.failWaiters_aside (ctx page : Nat) : (s.failWaiters ctx page).aside = s.aside := by
  have hlane (t : State) (e : Nat × MemOp) :
      ((({ t with memops := tmod t.memops e.1 (fun m => m.failParked page) } : State).memSettle e.1).takeDue e.2.g e.2.w).aside = t.aside := by simp
  refine (foldl_keeps State.aside (fun t e => ?_) _ _).trans (foldl_keeps State.aside hlane _ _)
  simp

end

/-! ## What moving and publishing a page leaves as it is -/

section
variable {s t : State}

theorem State.Recached.pools_eq (h : s.Recached t) : t.pools = s.pools := by obtain ⟨_, _, _, _, rfl⟩ := h; rfl
theorem State.Recached.migs_eq (h : s.Recached t) : t.migs = s.migs := by obtain ⟨_, _, _, _, rfl⟩ := h; rfl
theorem State.Recached.mcmd_eq (h : s.Recached t) : t.mcmd = s.mcmd := by obtain ⟨_, _, _, _, rfl⟩ := h; rfl
theorem State.Recached.life_eq (h : s.Recached t) : t.life = s.life := by obtain ⟨_, _, _, _, rfl⟩ := h; rfl
theorem State.Recached.now_eq (h : s.Recached t) : t.now = s.now := by obtain ⟨_, _, _, _, rfl⟩ := h; rfl

end

variable {s : State} {id : Nat} {m : Migration}

/-! ## The end of a migration (15 R361) -/

/-- 15 R361: a migration that ends is listed no more. -/
theorem State.tget_endMig (s : State) (id code : Nat) : tget (s.endMig id code).migs id = none := by
  rw [State.endMig, apply_ite State.migs, ite_self, tget_tdel, if_pos rfl]

/-- 15 R361: the host command that waited for the migration has ended with a code. -/
theorem State.mcmd_endMig (h : s.mcmd = some id) (code : Nat) : (s.endMig id code).mcmd = none ∧ (s.endMig id code).mstat = code := by
  rw [State.endMig, if_pos h]
  exact ⟨rfl, rfl⟩

@[simp] theorem State.mem_endMig (s : State) (id code : Nat) : (s.endMig id code).mem = s.mem := by
  rw [State.endMig, apply_ite State.mem, ite_self]

@[simp] theorem State.pools_endMig (s : State) (id code : Nat) : (s.endMig id code).pools = s.pools := by
  rw [State.endMig, apply_ite State.pools, ite_self]

@[simp] theorem State.pins_endMig (s : State) (id code : Nat) : (s.endMig id code).pins = s.pins := by
  rw [State.endMig, apply_ite State.pins, ite_self]

/-- 15 R358: a fault that is given up is no migration any more, and memory and the pools are as before. -/
theorem State.dropFault_spec (s : State) (id : Nat) (m : Migration) :
    tget (s.dropFault id m).migs id = none ∧ (s.dropFault id m).mem = s.mem ∧ (s.dropFault id m).pools = s.pools :=
  ⟨s.tget_endMig id 0, s.mem_endMig id 0, s.pools_endMig id 0⟩

/-! ## The lock (15 R358 steps 1 to 3, R360 to R362) -/

theorem State.pools_setLeaf (s : State) (a e : Nat) : (s.setLeaf a e).pools = s.pools := (s.recached_setLeaf a e).pools_eq

theorem State.pools_splitRun (s : State) (c : Fin 64) (page run : Nat) : (s.splitRun c page run).pools = s.pools := by
  rw [State.splitRun]
  split
  · rfl
  · refine foldl_keeps State.pools (fun t i => ?_) _ _
    split
    · exact State.pools_setLeaf ..
    · rfl

/-- 15 R358: a frame taken from its pool changes the pools alone. -/
theorem State.popFrame_mem {die dest : Nat} {u : State} {f : Option Nat} (h : s.popFrame die dest = (u, f)) : u.mem = s.mem := by
  simp only [State.popFrame] at h
  split at h <;> cases h <;> rfl

/-- 15 R358 steps 1 to 3: the locked migration, its pools, its leaf and the translations of its page. -/
theorem State.lockPage_spec (s : State) (id : Nat) (m : Migration) (a e frame dest : Nat) :
    let t := s.lockPage id m a e frame dest
    t.pools = s.pools ∧
      tget t.migs id = some { m with step := .locked, oldLeaf := e, lockLeaf := leafSplit (leafSetState e stMigrating), frame := frame,
                                     dest := dest, soft := false } ∧
      ((leafOf e).run = 0 → t.mem = Memory.wr s.mem a 8 (leafSetState e stMigrating)) ∧
      (∀ c ∈ t.cores, ∀ b ∈ c.2.tlb, b.ctx = m.ctx → ¬(b.page ≤ m.page ∧ m.page < b.page + b.pages)) := by
  refine ⟨(State.pools_splitRun ..).trans (State.pools_setLeaf ..), ?_, fun hrun => ?_, fun c hc b hb hx => ?_⟩
  · rw [State.lockPage, tget_tput, if_pos rfl]
  · show ((s.setLeaf a (leafSetState e stMigrating)).splitRun (cfin m.ctx) m.page (leafOf e).run).mem = _
    rw [State.splitRun, if_pos hrun]
    exact (s.recached_setLeaf a _).mem_eq
  · rw [← Nat.lt_succ_iff]
    exact State.tlb_shootdown hc hb hx

/-- A migration that is judged: it waits for its unit, no other of its page is under way, and the unit has room. -/
structure State.Judged (s : State) (id : Nat) (m : Migration) : Prop where
  /-- it is listed -/
  listed : tget s.migs id = some m
  /-- it waits for its unit -/
  waits : m.step = .waiting
  /-- software has not locked its leaf -/
  free : m.soft = false
  /-- no other of its page is under way -/
  first : s.rival id m = false
  /-- its unit has room -/
  room : s.unitFull m.die = false

theorem exec_migrationLock (h : s.Judged id m) : exec (.migrationLock id) s = .next (match s.migLeaf m, m.host with
    | .leaf a e, some t => s.hostLock id m t a e
    | .leaf a e, none =>
      if (leafOf e).ok ∧ (leafOf e).state = stMigrating then { s with migs := tput s.migs id { m with soft := true } }
      else
        (match s.wants (cfin m.ctx) m.page (leafOf e) with
        | none => s.dropFault id m
        | some (die, dest) => match s.popFrame die dest with
          | (_, none) => s.dropFault id m
          | (t, some f) => t.lockPage id m a e f (if dest = 1 then stFast else stCap))
    | .bad, some _ => s.endMig id 3
    | .bad, none => s.dropFault id m
    | .uncorr, _ => (s.faultContext (cfin m.ctx) cUNCORR 7 0 (m.page * 2 ^ 14) 0 0).endMig id 6) := by
  show execMigrationLock id s = _
  simp only [execMigrationLock, h.listed, h.waits, h.free, h.first, h.room]
  rfl

section
variable (h : s.Judged id m) {a e : Nat} (hw : s.migLeaf m = .leaf a e)
include h hw

/-- 15 R359: a leaf that software has locked is waited for. -/
theorem exec_migrationLock_soft (hd : m.host = none) (hok : (leafOf e).ok = true) (hst : (leafOf e).state = stMigrating) :
    exec (.migrationLock id) s = .next { s with migs := tput s.migs id { m with soft := true } } := by
  rw [exec_migrationLock h]
  simp only [hw, hd, if_pos (And.intro hok hst)]

/-- 15 R358: a leaf that calls for no migration gives the fault up. -/
theorem exec_migrationLock_unwanted (hd : m.host = none) (hst : (leafOf e).state ≠ stMigrating) (hn : s.wants (cfin m.ctx) m.page (leafOf e) = none) :
    exec (.migrationLock id) s = .next (s.dropFault id m) := by
  rw [exec_migrationLock h]
  simp only [hw, hd, hst, and_false, if_false, hn]

/-- 15 R358: a device fault locks its leaf with a frame of the pool that the leaf calls for. -/
theorem exec_migrationLock_device (hd : m.host = none) (hst : (leafOf e).state ≠ stMigrating) {die dest f : Nat} {u : State}
    (hn : s.wants (cfin m.ctx) m.page (leafOf e) = some (die, dest)) (hu : s.popFrame die dest = (u, some f)) :
    exec (.migrationLock id) s = .next (u.lockPage id m a e f (if dest = 1 then stFast else stCap)) := by
  rw [exec_migrationLock h]
  simp only [hw, hd, hst, and_false, if_false, hn, hu]

/-- 15 R361: a host command judges the leaf it meets. -/
theorem exec_migrationLock_host {target : Nat} (hd : m.host = some target) :
    exec (.migrationLock id) s = .next (s.hostLock id m target a e) := by
  rw [exec_migrationLock h]
  simp only [hw, hd]

end

/-- 15 R361: MIGRATE to a tier of the device locks the leaf with a frame of that tier. -/
theorem State.hostLock_tier {target a e f : Nat} {u : State} (ht : target = 1 ∨ target = 2) (hok : (leafOf e).ok = true)
    (hst : (leafOf e).state ≠ stMigrating) (hp : (leafOf e).state ≠ stPinned) (hf : s.leafFits (leafOf e) = true)
    (hpin : s.pinned (cfin m.ctx) m.page = false)
    (hu : s.popFrame (if (leafOf e).state = stAbsent ∨ (leafOf e).state = stHost then (leafOf e).die else homeDie (frameLocal (leafOf e).frame))
      target = (u, some f)) :
    s.hostLock id m target a e = u.lockPage id m a e f (if target = 1 then stFast else stCap) := by
  have h0 : target ≠ 0 := by omega
  have h2 : ¬2 < target := by omega
  simp only [State.hostLock, hok, hst, hp, hf, hpin, h0, h2, hu, Bool.not_true, Bool.false_eq_true, if_false, or_self]

/-- 15 R360: PIN writes the leaf PINNED and ends. -/
theorem State.hostLock_pin {a e : Nat} (hok : (leafOf e).ok = true) (hst : (leafOf e).state ≠ stMigrating) :
    s.hostLock id m 0 a e = s.pinPage id m a e := by
  simp only [State.hostLock, hok, hst, Bool.not_true, Bool.false_eq_true, if_false, if_true]

theorem State.pinPage_spec (s : State) (id : Nat) (m : Migration) (a e : Nat) :
    tget (s.pinPage id m a e).migs id = none ∧ (s.pinPage id m a e).mem = Memory.wr s.mem a 8 (leafSetState e stPinned) ∧
      (s.mcmd = some id → (s.pinPage id m a e).mcmd = none ∧ (s.pinPage id m a e).mstat = 0) := by
  refine ⟨State.tget_endMig .., (State.mem_endMig ..).trans (s.recached_setLeaf a _).mem_eq, fun hm => State.mcmd_endMig ?_ 0⟩
  exact (s.recached_setLeaf a _).mcmd_eq.trans hm

/-! ## The move (15 R358 step 4) -/

/-- The bytes of a list of cells, put at an offset, read there as the list holds them. -/
theorem Memory.get_putCells {l : Memory} {lo src dst i : Nat} (hl : Memory.wfFrom lo l = true) (hlo : src ≤ lo) {acc : Memory}
    (ha : Memory.wf acc = true) :
    Memory.get (l.foldl (fun acc c => Memory.put acc (dst + (c.1 - src)) c.2) acc) (dst + i) =
      if Memory.get l (src + i) = 0 then Memory.get acc (dst + i) else Memory.get l (src + i) := by
  induction l generalizing lo acc with
  | nil => rfl
  | cons c r ih =>
    obtain ⟨k, b⟩ := c
    simp only [Memory.wfFrom, Bool.and_eq_true, decide_eq_true_eq] at hl
    obtain ⟨⟨hk, hb⟩, hr⟩ := hl
    rw [List.foldl_cons, ih hr (by omega) (Memory.wf_put _ _ ha), Memory.get_put _ _ _ _ ha, Memory.get]
    have hhere : dst + i = dst + (k - src) ↔ k = src + i := by omega
    have hbelow : src + i ≤ k → Memory.get r (src + i) = 0 := fun h => Memory.get_below hr (by omega)
    simp only [hhere]
    rcases Nat.lt_trichotomy (src + i) k with hlt | rfl | hgt
    · simp only [hbelow hlt.le, show ¬k = src + i by omega, hlt, if_true, if_false]
    · simp only [hbelow le_rfl, hb, if_true, if_false]
    · simp only [show ¬k = src + i by omega, show ¬src + i < k by omega, if_false]

/-- Every listed cell of a memory lies above a bound that its filter keeps. -/
theorem Memory.wfFrom_filter_above {l : Memory} {lo src : Nat} (p : Host.Cell → Bool) (hl : Memory.wfFrom lo l = true)
    (hp : ∀ c, p c = true → src ≤ c.1) : Memory.wfFrom src (l.filter p) = true := by
  induction l generalizing lo with
  | nil => rfl
  | cons c r ih =>
    obtain ⟨k, b⟩ := c
    simp only [Memory.wfFrom, Bool.and_eq_true, decide_eq_true_eq] at hl
    obtain ⟨⟨-, hb⟩, hr⟩ := hl
    by_cases hk : p (k, b) = true
    · rw [List.filter_cons_of_pos hk]
      have hrest : Memory.wfFrom (k + 1) (r.filter p) = true := Memory.wfFrom_filter p hr
      simp only [Memory.wfFrom, hrest, decide_eq_true (hp _ hk), decide_eq_true hb, Bool.and_self]
    · rw [List.filter_cons_of_neg hk]
      exact ih hr

/-- Bytes that are copied read at their new place as they read at the old one. -/
theorem Memory.get_move {l : Memory} (hl : Memory.wf l = true) {src dst n i : Nat} (hi : i < n) :
    Memory.get (Memory.move l src dst n) (dst + i) = Memory.get l (src + i) := by
  have habove := Memory.wfFrom_filter_above (src := src) (fun c => decide (src ≤ c.1) && decide (c.1 < src + n)) hl
    (fun c hc => of_decide_eq_true (Bool.and_eq_true_iff.mp hc).1)
  have hcells : Memory.get (l.filter (fun c => decide (src ≤ c.1) && decide (c.1 < src + n))) (src + i) = Memory.get l (src + i) := by
    rw [Memory.get_filter (fun k => decide (src ≤ k) && decide (k < src + n)) _ hl]
    exact if_pos (by simpa using hi)
  have hcleared : Memory.get (Memory.clear l dst n) (dst + i) = 0 := by
    rw [Memory.get_clear _ _ _ hl]
    exact if_pos (by omega)
  rw [Memory.move, Memory.get_putCells habove le_rfl (Memory.wf_clear _ _ hl), hcells, hcleared]
  split
  · next h0 => exact h0.symm
  · rfl

theorem State.tagPlace_congr {t : State} (h : t.life = s.life) (p : Nat) : t.tagPlace p = s.tagPlace p := by
  have hdie : t.die = s.die := by funext d; rw [State.die, State.die, h]
  have hfast : t.fastLive = s.fastLive := by unfold State.fastLive; rw [hdie]
  have hcap : t.capLive = s.capLive := by unfold State.capLive; rw [hdie]
  have hregion : t.region p = s.region p := by unfold State.region; rw [hfast, hcap]
  unfold State.tagPlace
  rw [hregion, hfast, hcap]

/-- 15 R348: writing tags leaves a byte that holds none of them. -/
theorem State.get_moveTags {u : State} (hu : u.life = s.life) (hs : Memory.wf u.mem = true) (src : Option Nat) (dst : Nat) {x : Nat}
    (hx : ∀ p q b, s.tagPlace p = some (q, b) → x ≠ q) : Memory.get (u.moveTags src dst).mem x = Memory.get u.mem x := by
  refine (List.foldlRecOn (motive := fun (t : State) => t.life = s.life ∧ Memory.wf t.mem = true ∧ Memory.get t.mem x = Memory.get u.mem x) _ _
    ⟨hu, hs, rfl⟩ ?_).2.2
  rintro t ⟨hlife, hwf, hget⟩ i -
  simp only [State.setTag]
  split
  · next a hi hplace =>
    rw [State.tagPlace_congr hlife] at hplace
    exact ⟨hlife, Memory.wf_put _ _ hwf, by rw [Memory.get_put _ _ _ _ hwf, if_neg (hx _ _ _ hplace), hget]⟩
  · exact ⟨hlife, hwf, hget⟩

theorem State.recached_touchPage (s : State) (p : Nat) (write : Bool) : s.Recached (s.touchPage p write) := by
  have hlines (s : State) (a n : Nat) : s.Recached ((List.range n).foldl (fun (t : State) i => t.l2Touch (a + 128 * i) 128 write) s) :=
    State.recached_foldl s (fun (t : State) i => t.recached_l2Touch ..) _
  simp only [State.touchPage]
  split
  · exact (hlines s p 128).trans (hlines ..)
  · exact hlines s p 128

/-- 15 R358 step 4: the bytes of the new frame are those of the page. -/
theorem State.get_movePage (hs : Memory.wf s.mem = true)
    (hx : ∀ p q b, s.tagPlace p = some (q, b) → ¬(frameLocal m.frame ≤ q ∧ q < frameLocal m.frame + 2 ^ 14)) {i : Nat} (hi : i < 2 ^ 14) :
    Memory.get (s.movePage m).mem (frameLocal m.frame + i) =
      if (leafOf m.oldLeaf).state = stAbsent then 0 else Memory.get s.mem (frameLocal (leafOf m.oldLeaf).frame + i) := by
  have hout : ∀ p q b, s.tagPlace p = some (q, b) → frameLocal m.frame + i ≠ q := fun p q b hp heq => hx p q b hp (by omega)
  have hkeep {l : Memory} (hl : Memory.wf l = true) (b : List Nat) (src : Option Nat) :
      Memory.get (({ s with mem := l, bad := b } : State).moveTags src (frameLocal m.frame)).mem (frameLocal m.frame + i) =
        Memory.get l (frameLocal m.frame + i) := State.get_moveTags rfl hl _ _ hout
  simp only [State.movePage]
  show Memory.get (State.touchPage _ _ _).mem _ = _
  rw [(State.recached_touchPage _ _ _).mem_eq, apply_ite State.mem, (State.recached_touchPage _ _ _).mem_eq, ite_self]
  split
  · next habsent =>
    rw [hkeep (Memory.wf_clear _ _ hs), Memory.get_clear _ _ _ hs, if_pos (by omega)]
  · rw [hkeep (Memory.wf_move _ _ _ hs), Memory.get_move hs hi]

/-- 15 R358 step 4: a page whose bytes and tags are good data is moved. -/
theorem exec_migrationMove (h : tget s.migs id = some m) (hst : m.step = .locked)
    (hgood : (leafOf m.oldLeaf).state = stAbsent ∨ s.sourceBad (frameLocal (leafOf m.oldLeaf).frame) = false) :
    ∃ t, exec (.migrationMove id) s = .next t ∧ tget t.migs id = some { m with step := .moved } ∧ t.mem = (s.movePage m).mem := by
  refine ⟨{ s.movePage m with migs := tput (s.movePage m).migs id { m with step := .moved } }, ?_, ?_, rfl⟩
  · show execMigrationMove id s = _
    simp only [execMigrationMove, h, hst, ne_eq, not_true_eq_false, if_false]
    refine next_of_eq (if_neg ?_)
    rintro ⟨hstate, hbad⟩
    exact hgood.elim hstate (fun hg => absurd (hg.symm.trans hbad) (by decide))
  · simp only [tget_tput, if_true]

/-- 15 R358 step 4: a move of uncorrectable data is given up. -/
theorem exec_migrationMove_bad (h : tget s.migs id = some m) (hst : m.step = .locked) (hstate : (leafOf m.oldLeaf).state ≠ stAbsent)
    (hbad : s.sourceBad (frameLocal (leafOf m.oldLeaf).frame) = true) :
    exec (.migrationMove id) s = .next ((s.abortMove id m).flush (cfin m.ctx)) := by
  show execMigrationMove id s = _
  simp only [execMigrationMove, h, hst, ne_eq, not_true_eq_false, if_false]
  exact next_of_eq (if_pos ⟨hstate, hbad⟩)

theorem State.abortMove_spec (s : State) (id : Nat) (m : Migration) : tget (s.abortMove id m).migs id = none ∧
    (s.abortMove id m).lostPage = some (m.ctx, m.page) ∧ (s.mcmd = some id → (s.abortMove id m).mcmd = none ∧ (s.abortMove id m).mstat = 6) := by
  refine ⟨State.tget_endMig .., rfl, fun hm => State.mcmd_endMig ?_ 6⟩
  rw [(State.aside_eq_iff.1 ((State.failWaiters_aside ..).trans (State.frameReturn_aside ..))).1, ← hm]
  split
  · split
    · exact (s.recached_setLeaf _ _).mcmd_eq
    · rfl
  · rfl

/-! ## Publishing (15 R358 steps 5 and 6, R359) -/

/-- 15 R358 step 5: the leaf that is still locked names the new frame, and the page is in the pin table of its die. -/
theorem State.publish_spec (s : State) (id : Nat) (m : Migration) (a : Nat) : tget (s.publish id m a).migs id = none ∧
    (s.publish id m a).mem = Memory.wr s.mem a 8 (leafSetFrame (leafSetState m.lockLeaf m.dest) m.frame) ∧
    (m.die, m.ctx, m.page, s.now) ∈ (s.publish id m a).pins ∧
    (s.mcmd = some id → (s.publish id m a).mcmd = none ∧ (s.publish id m a).mstat = 0) := by
  have hleaf := s.recached_setLeaf a (leafSetFrame (leafSetState m.lockLeaf m.dest) m.frame)
  obtain ⟨p, hp⟩ := (s.setLeaf a (leafSetFrame (leafSetState m.lockLeaf m.dest) m.frame)).frameReturn_spec (leafOf m.oldLeaf).frame
  refine ⟨State.tget_endMig .., (State.mem_endMig ..).trans ?_, ?_, fun hm => State.mcmd_endMig ?_ 0⟩
  · show (ite _ _ _ : State).mem = _
    rw [hp, apply_ite State.mem, ite_self]
    exact hleaf.mem_eq
  · rw [State.publish, State.pins_endMig]
    refine List.mem_append_right _ (List.mem_singleton.mpr ?_)
    rw [hp, apply_ite State.now]
    exact congrArg (m.die, m.ctx, m.page, ·) (hleaf.now_eq.symm.trans (ite_self _).symm)
  · show (ite _ _ _ : State).mcmd = _
    rw [hp, apply_ite State.mcmd, ite_self]
    exact hleaf.mcmd_eq.trans hm

/-- 15 R359: a leaf that software has written meanwhile changes no memory; a host command is judged again. -/
theorem State.unpublish_spec (s : State) (id : Nat) (m : Migration) : (s.unpublish id m).mem = s.mem ∧
    tget (s.unpublish id m).migs id = if m.host.isSome = true then some { m with step := .waiting } else none := by
  obtain ⟨p, hp⟩ := s.frameReturn_spec m.frame
  simp only [State.unpublish, hp]
  split
  · exact ⟨rfl, by rw [tget_tput, if_pos rfl]⟩
  · exact ⟨rfl, by rw [tget_tdel, if_pos rfl]⟩

section
variable (h : tget s.migs id = some m) {a e : Nat}
include h

theorem exec_migrationPublish (hst : m.step = .moved) (hw : s.migLeaf m = .leaf a e) :
    exec (.migrationPublish id) s = .next (if e = m.lockLeaf then s.publish id m a else s.unpublish id m) := by
  show execMigrationPublish id s = _
  simp only [execMigrationPublish, h, hst, hw, ne_eq, not_true_eq_false, if_false]

/-- 15 R359: the leaf that software has locked is read again. -/
theorem exec_migratingLeafRecheck (hsoft : m.soft = true) (hw : s.migLeaf m = .leaf a e) : exec (.migratingLeafRecheck id) s =
    .next (if (leafOf e).ok ∧ (leafOf e).state = stMigrating then s else s.dropFault id m) := by
  show execMigratingLeafRecheck id s = _
  simp only [execMigratingLeafRecheck, h, hsoft, hw, Bool.not_true, Bool.false_eq_true, if_false]

end

/-- Settles O45: each step of a migration by its leaf, its host command and the data of its page. -/
theorem migrationEvents : Obligations.MigrationEvents := by
  intro s id m h
  refine ⟨fun a e hst hsoft hr hroom hw hmig u f => ?_, fun hst hsoft hr hfull => ?_,
    fun a e hst hsoft hr hroom hw hd => ?_, fun hst => ⟨fun hgood => ?_, fun hstate hbad => ?_⟩,
    fun hst => ⟨fun a hw => ?_, fun a e hw hne hd => ?_, fun a e hw hne hd => ?_⟩, fun a e hsoft hw hok hmig => ?_, fun a e hsoft hw hmig => ?_⟩
  · have hj : s.Judged id m := ⟨h, hst, hsoft, hr, hroom⟩
    refine ⟨fun die dest hd hn hu => ?_, fun tier hd ht hok hp hf hpin hu => ?_, fun hd hok => ?_⟩
    · have hlock := u.lockPage_spec id m a e f (if dest = 1 then stFast else stCap)
      rw [State.popFrame_mem hu] at hlock
      exact ⟨_, exec_migrationLock_device hj hw hd hmig hn hu, hlock⟩
    · obtain ⟨hpools, hlocked, -⟩ := u.lockPage_spec id m a e f (if tier = 1 then stFast else stCap)
      exact ⟨_, (exec_migrationLock_host hj hw hd).trans (next_of_eq (State.hostLock_tier ht hok hmig hp hf hpin hu)), hpools, hlocked⟩
    · exact ⟨_, (exec_migrationLock_host hj hw hd).trans (next_of_eq (State.hostLock_pin hok hmig)), s.pinPage_spec id m a e⟩
  · show execMigrationLock id s = _
    simp [execMigrationLock, h, hst, hsoft, hr, hfull]
  · have hj : s.Judged id m := ⟨h, hst, hsoft, hr, hroom⟩
    exact ⟨exec_migrationLock_soft hj hw hd, fun hmig hn => ⟨_, exec_migrationLock_unwanted hj hw hd hmig hn, s.dropFault_spec id m⟩⟩
  · obtain ⟨t, ht, hmoved, hmem⟩ := exec_migrationMove h hst hgood
    exact ⟨t, ht, hmoved, fun hs hx i hi => by rw [hmem, State.get_movePage hs hx hi]⟩
  · exact ⟨_, exec_migrationMove_bad h hst hstate hbad, s.abortMove_spec id m⟩
  · exact ⟨_, (exec_migrationPublish h hst hw).trans (next_of_eq (if_pos rfl)), s.publish_spec id m a⟩
  · obtain ⟨hmem, hgone⟩ := s.unpublish_spec id m
    exact ⟨_, (exec_migrationPublish h hst hw).trans (next_of_eq (if_neg hne)), hgone.trans (if_neg (by simp [hd])), hmem⟩
  · obtain ⟨hmem, hback⟩ := s.unpublish_spec id m
    exact ⟨_, (exec_migrationPublish h hst hw).trans (next_of_eq (if_neg hne)), hback.trans (if_pos hd), hmem⟩
  · exact (exec_migratingLeafRecheck h hsoft hw).trans (next_of_eq (if_pos ⟨hok, hmig⟩))
  · obtain ⟨hgone, hmem, -⟩ := s.dropFault_spec id m
    exact ⟨_, (exec_migratingLeafRecheck h hsoft hw).trans (next_of_eq (if_neg fun hl => hmig hl.2)), hgone, hmem⟩

end Sys2Proof.Machine
end

section
/-! O47: row alerts and refresh episodes (16 R379 to R382), patrol reads, thresholds and the health windows (19 R436). -/

namespace Sys2Proof.Machine

/-! ## A channel's list (16 R380, R381) -/

section
variable {c : Channel} {row : Nat} {sat bad : Bool}

theorem mem_listRow (r : Nat × Bool × Bool) (l : List (Nat × Bool × Bool)) : r ∈ listRow r l := by
  unfold listRow
  split <;> simp

theorem length_listRow (r : Nat × Bool × Bool) (l : List (Nat × Bool × Bool)) : (listRow r l).length = l.length + 1 := by
  unfold listRow
  split
  · have hsplit := congrArg List.length (List.takeWhile_append_dropWhile (p := fun (e : Nat × Bool × Bool) => e.2.1) (l := l))
    rw [List.length_append] at hsplit ⊢
    rw [List.length_cons]
    omega
  · simp

theorem Channel.lists_of_absent (h : ∀ e ∈ c.list, e.1 ≠ row) (x : Bool × Bool) : c.lists (row, x) = false := by
  rw [Channel.lists, List.any_eq_false]
  intro e he
  simp [h e he]

theorem Channel.any_row_of_absent (h : ∀ e ∈ c.list, e.1 ≠ row) : c.list.any (fun e => e.1 == row) = false := by
  rw [List.any_eq_false]
  intro e he
  simpa using h e he

theorem filter_row_of_absent {l : List (Nat × Bool × Bool)} (h : ∀ e ∈ l, e.1 ≠ row) : l.filter (fun e => e.1 != row) = l :=
  List.filter_eq_self.mpr (fun e he => by simpa using h e he)

theorem Channel.alerted_alert (c : Channel) (r : Nat × Bool × Bool) : (c.alert r).alerted = true := rfl

theorem Channel.counters_add (c : Channel) (r : Nat × Bool × Bool) : (c.add r).counters = c.counters := by
  unfold Channel.add
  split <;> rfl

theorem Channel.counters_alert (c : Channel) (r : Nat × Bool × Bool) : (c.alert r).counters = c.counters := by
  simp only [Channel.alert]
  split
  · exact c.counters_add r
  · rfl

theorem Channel.asserted_add (c : Channel) (r : Nat × Bool × Bool) : (c.add r).asserted = c.asserted := by
  unfold Channel.add
  split <;> rfl

/-- 16 R380: a row that is not listed enters a list that has room. -/
theorem Channel.alert_room (h : ∀ e ∈ c.list, e.1 ≠ row) (hl : c.list.length < 16) (x : Bool × Bool) :
    (c.alert (row, x)).list = listRow (row, x) c.list ∧ (c.alert (row, x)).asserted = c.asserted := by
  simp only [Channel.alert, hl, decide_true, Bool.true_or, if_true]
  refine ⟨?_, c.asserted_add _⟩
  rw [Channel.add, Channel.lists_of_absent h, if_neg Bool.false_ne_true, filter_row_of_absent h]

/-- 16 R380: while the list is full, an alert for a row that is not listed stays asserted. -/
theorem Channel.alert_full (h : ∀ e ∈ c.list, e.1 ≠ row) (hl : 16 ≤ c.list.length) (x : Bool × Bool) :
    (c.alert (row, x)).list = c.list ∧ (c.alert (row, x)).asserted = c.asserted ++ [(row, x)] := by
  have hroom : (decide (c.list.length < 16) || c.list.any (fun e => e.1 == row)) = false := by
    rw [Channel.any_row_of_absent h, Bool.or_false, decide_eq_false (by omega)]
  simp only [Channel.alert, hroom, Bool.false_eq_true, if_false, and_self]

/-- 16 R381: a row that is listed stands once, ahead when it turns out saturated or corrupt. -/
theorem Channel.alert_listed {a b : List (Nat × Bool × Bool)} (hl : c.list = a ++ (row, false, false) :: b) (h : ∀ e ∈ a ++ b, e.1 ≠ row)
    (x y : Bool) (hxy : y = true → x = true) :
    (c.alert (row, x, y)).asserted = c.asserted ∧ (c.alert (row, x, y)).list = if x then listRow (row, true, y) (a ++ b) else c.list := by
  have hany : c.list.any (fun e => e.1 == row) = true := List.any_eq_true.mpr ⟨(row, false, false), by simp [hl], by simp⟩
  have hlists : c.lists (row, x, y) = !x := by
    cases x with
    | false =>
      have hy : y = false := by simpa using hxy
      exact List.any_eq_true.mpr ⟨(row, false, false), by simp [hl], by simp [hy]⟩
    | true =>
      refine List.any_eq_false.mpr fun e he => ?_
      rw [hl] at he
      rcases List.mem_append.mp he with ha | hb
      · simp [h e (List.mem_append_left _ ha)]
      · rcases List.mem_cons.mp hb with rfl | hb
        · simp
        · simp [h e (List.mem_append_right _ hb)]
  have hfilter : c.list.filter (fun e => e.1 != row) = a ++ b := by
    rw [hl, List.filter_append, List.filter_cons_of_neg (by simp), ← List.filter_append, filter_row_of_absent h]
  simp only [Channel.alert, hany, Bool.or_true, if_true]
  refine ⟨c.asserted_add _, ?_⟩
  rw [Channel.add, hlists]
  cases x with
  | false => rfl
  | true => rw [hfilter]; rfl

/-- 16 R380: alerts that enter the list change neither the count of episodes, the counters nor that the channel waits for one. -/
theorem Channel.refill_keeps (n : Nat) (c : Channel) : (Channel.refill n c).episodes = c.episodes ∧ (Channel.refill n c).counters = c.counters ∧
    (Channel.refill n c).alerted = c.alerted := by
  induction n generalizing c with
  | zero => exact ⟨rfl, rfl, rfl⟩
  | succ n ih =>
    rw [Channel.refill]
    split
    · split
      · obtain ⟨he, hc, ha⟩ := ih (({ c with asserted := _ } : Channel).add _)
        rw [he, hc, ha, Channel.add]
        split <;> exact ⟨rfl, rfl, rfl⟩
      · exact ⟨rfl, rfl, rfl⟩
    · exact ⟨rfl, rfl, rfl⟩

end

/-! ## Units of health (19 R436) -/

section
variable {s t : State}

/-- The persistent tables are as before, and bit 0 of MGMTCAUSE has not been cleared. -/
def State.KeepsTables (s t : State) : Prop := t.persist = s.persist ∧ (s.life.mgmt.getLsbD 0 = true → t.life.mgmt.getLsbD 0 = true)

theorem State.KeepsTables.of_same (hp : t.persist = s.persist) (hl : t.life = s.life) : s.KeepsTables t := ⟨hp, by rw [hl]; exact id⟩

theorem State.KeepsTables.trans {u : State} (h : s.KeepsTables t) (k : t.KeepsTables u) : s.KeepsTables u :=
  ⟨k.1.trans h.1, fun hb => k.2 (h.2 hb)⟩

theorem State.KeepsTables.foldl {α : Type} {f : State → α → State} (h : ∀ (t : State) a, t.KeepsTables (f t a)) (l : List α) (s : State) :
    s.KeepsTables (l.foldl f s) :=
  List.foldlRecOn (motive := fun t => s.KeepsTables t) l f (.of_same rfl rfl) (fun t ht a _ => ht.trans (h t a))

theorem State.keepsTables_manage (s : State) (bit : Nat) : s.KeepsTables (s.manage bit) := by
  obtain ⟨l, hl, -⟩ := s.manage_spec bit
  rw [hl]
  exact ⟨rfl, fun hb => by rw [BitVec.getLsbD_or, hb, Bool.true_or]⟩

theorem State.keepsTables_setLeaf (s : State) (a e : Nat) : s.KeepsTables (s.setLeaf a e) := by
  obtain ⟨_, _, _, _, h⟩ := s.recached_setLeaf a e
  rw [h]
  exact .of_same rfl rfl

theorem State.keepsTables_retireAll (s : State) : s.KeepsTables s.retireAll := by
  refine State.KeepsTables.foldl (fun t c => ?_) _ _
  split
  · refine State.KeepsTables.foldl (fun u e => ?_) _ _
    dsimp only
    split
    · exact u.keepsTables_setLeaf _ _
    · exact .of_same rfl rfl
  · exact .of_same rfl rfl

theorem State.keepsTables_retrain (s : State) (k : Fin 18) : s.KeepsTables (s.retrain k) := by
  simp only [State.retrain]
  split
  · exact (State.KeepsTables.of_same rfl rfl : s.KeepsTables (s.modLink k _)).trans (State.keepsTables_manage ..)
  · split <;> exact .of_same rfl rfl

theorem Persist.log_enter (p : Persist) (u : HealthUnit) : (p.enter u).log = p.log := by cases u <;> rfl

/-- 20 R439: a unit that is entered sets bit 0 of MGMTCAUSE. -/
theorem State.manage_zero (s : State) : (s.manage 0).persist = s.persist ∧ (s.manage 0).life.mgmt.getLsbD 0 = true := by
  obtain ⟨l, hl, -⟩ := s.manage_spec 0
  rw [hl]
  exact ⟨rfl, by rw [BitVec.getLsbD_or]; exact Bool.or_true _⟩

/-- 19 R436, 20 R443: the tables, the event log and MGMTCAUSE at the entry of a unit, before what the entry does besides. -/
theorem State.entered_manage (s : State) (u : HealthUnit) (reason : Nat) :
    Entered s ((({ s with persist := s.persist.enter u } : State).eventLog (unitCode u).1 (unitCode u).2 reason).manage 0) u reason := by
  obtain ⟨hp, hb⟩ := (({ s with persist := s.persist.enter u } : State).eventLog (unitCode u).1 (unitCode u).2 reason).manage_zero
  refine ⟨hb, hp.trans ?_⟩
  simp only [State.eventLog, Persist.log_enter, List.length_append, List.length_singleton]
  rfl

theorem Entered.keeps {u : HealthUnit} {reason : Nat} (h : Entered s t u reason) {x : State} (k : t.KeepsTables x) : Entered s x u reason :=
  ⟨k.2 h.1, k.1.trans h.2⟩

/-- 19 R436: a unit that is entered stands in the tables and in the event log. -/
theorem State.entered_enterUnit (s : State) (u : HealthUnit) (reason : Nat) : Entered s (s.enterUnit u reason) u reason := by
  have h := s.entered_manage u reason
  cases u with
  | core d q c => exact h
  | slice d x => exact h.keeps (.of_same rfl rfl)
  | channel st ch => exact h.keeps (State.keepsTables_retireAll _)
  | capctl d k => exact h.keeps (State.keepsTables_retireAll _)
  | lane i l =>
    exact h.keeps (State.KeepsTables.trans (.of_same rfl rfl) (State.keepsTables_retrain ((State.manage _ 0).modLink i _) i))

/-- 19 R436: a corrected event below the threshold is counted. -/
theorem State.corrected_below {u : HealthUnit} (h : tgetD s.life.health (unitKey u) 0 + 1 ≠ threshold u) : s.corrected u =
    { s with life := { s.life with health := tput s.life.health (unitKey u) (tgetD s.life.health (unitKey u) 0 + 1) } } := if_neg h

theorem State.corrected_reached {u : HealthUnit} (h : tgetD s.life.health (unitKey u) 0 + 1 = threshold u) : Entered s (s.corrected u) u 1 := by
  rw [State.corrected]
  simp only [h, if_true]
  exact State.entered_enterUnit { s with life := { s.life with health := tput s.life.health (unitKey u) (threshold u) } } u 1

theorem tgetD_tput (t : Tab Nat) (k j x d : Nat) : tgetD (tput t k x) j d = if j = k then x else tgetD t j d := by
  rw [tgetD, tget_tput, apply_ite (fun o => Option.getD o d)]
  rfl

/-- 16 R381, 19 R436: events of a unit that stay below its threshold are counted, and nothing else happens. -/
theorem State.correctedAll {α : Type} {u : HealthUnit} (l : List α) (s : State)
    (h : l.length = 0 ∨ tgetD s.life.health (unitKey u) 0 + l.length < threshold u) :
    ∃ z, l.foldl (fun t _ => t.corrected u) s = { s with life := { s.life with health := z } } ∧
      tgetD z (unitKey u) 0 = tgetD s.life.health (unitKey u) 0 + l.length := by
  induction l generalizing s with
  | nil => exact ⟨s.life.health, rfl, rfl⟩
  | cons a r ih =>
    replace h : tgetD s.life.health (unitKey u) 0 + (r.length + 1) < threshold u := h.resolve_left (by simp)
    rw [List.foldl_cons, State.corrected_below (by omega)]
    have hcount : tgetD (tput s.life.health (unitKey u) (tgetD s.life.health (unitKey u) 0 + 1)) (unitKey u) 0 =
        tgetD s.life.health (unitKey u) 0 + 1 := by rw [tgetD_tput, if_pos rfl]
    obtain ⟨z, hz, hn⟩ := ih
      { s with life := { s.life with health := tput s.life.health (unitKey u) (tgetD s.life.health (unitKey u) 0 + 1) } }
      (Or.inr (by simp only [hcount]; omega))
    refine ⟨z, hz, hn.trans ?_⟩
    simp only [hcount, List.length_cons]
    omega

end

/-! ## The events -/

section
variable {s : State} {ch : Nat}

theorem State.channel_tput (s : State) (ch : Nat) (c : Channel) (u : State) (h : u.channels = tput s.channels ch c) : u.channel ch = c := by
  rw [State.channel, h, tgetD, tget_tput, if_pos rfl]
  rfl

/-- 16 R379, R381: the channel after an alert. -/
theorem exec_rowAlert (h : s.life.stat = .ready) (hd : s.channelDead ch = false) (row : Nat) (sat bad : Bool) :
    ∃ (t : State) (c : Channel), exec (.rowAlert ch row sat bad) s = .next t ∧ t.mem = s.mem ∧ t.channel ch = c.alert (row, sat || bad, bad) ∧
      c.list = (s.channel ch).list ∧ c.asserted = (s.channel ch).asserted ∧ tget c.counters row = some (if sat || bad then 4095 else s.ath) := by
  have hopen : ¬(s.life.stat ≠ .ready ∨ s.channelDead ch = true) := by simp [h, hd]
  refine ⟨_, _, next_of_eq (if_neg hopen), rfl, s.channel_tput ch _ _ rfl, rfl, rfl, ?_⟩
  simp only [tget_tput, if_true]

theorem tget_tdels {l : List (Nat × Bool × Bool)} {r : Nat × Bool × Bool} (hr : r ∈ l) (t : Tab Nat) :
    tget (l.foldl (fun t r => tdel t r.1) t) r.1 = none := by
  have hstays (l : List (Nat × Bool × Bool)) (t : Tab Nat) (h : tget t r.1 = none) : tget (l.foldl (fun t r => tdel t r.1) t) r.1 = none :=
    List.foldlRecOn (motive := fun t => tget t r.1 = none) l _ h (fun t ht a _ => by rw [tget_tdel, ht, ite_self])
  induction l generalizing t with
  | nil => cases hr
  | cons a l ih =>
    rcases List.mem_cons.mp hr with rfl | hr
    · exact hstays l _ (by rw [tget_tdel, if_pos rfl])
    · exact ih hr _

/-- 19 R436: the key of a channel's count. -/
theorem unitKey_channel (h : ch < 256) : unitKey (.channel (Fin.ofNat 8 (ch / 32)) (Fin.ofNat 32 ch)) = 0xC00 + 4 * ch := by
  simp only [unitKey, Fin.ofNat]
  omega

/-- 16 R380: a channel whose first four rows have been served, before the alerts that are asserted enter its list. -/
def Channel.served (c : Channel) (now : Nat) : Channel :=
  { c with list := c.list.drop 4, episodes := c.episodes + 1, counters := (c.list.take 4).foldl (fun t r => tdel t r.1) c.counters,
           corruptRows := c.corruptRows.filter (fun r => !(c.list.take 4).any (fun e => e.1 == r)), alerted := false,
           waiting := c.waiting.map (· + 1), episodeAt := some now }

/-- 16 R380, R381: an episode that is due. -/
theorem exec_damperEpisode_due (hdue : (s.channel ch).episodeDue s.now = true) : exec (.damperEpisode ch) s = .next (
    (((s.channel ch).list.take 4).filter (fun r => r.2.2)).foldl (fun t _ => t.corrected (.channel (Fin.ofNat 8 (ch / 32)) (Fin.ofNat 32 ch)))
      { s with channels := tput s.channels ch (Channel.refill ((s.channel ch).served s.now).asserted.length ((s.channel ch).served s.now)) }) :=
  next_of_eq (if_neg (by simp [hdue]))

/-- 16 R380, R381: an episode that is due serves four rows at most and counts its corrupt counters. -/
theorem exec_damperEpisode (h : ch < 256) (hdue : (s.channel ch).episodeDue s.now = true)
    (hc : (((s.channel ch).list.take 4).filter (fun r => r.2.2)).length = 0 ∨
      tgetD s.life.health (0xC00 + 4 * ch) 0 + (((s.channel ch).list.take 4).filter (fun r => r.2.2)).length < 256) :
    ∃ t, exec (.damperEpisode ch) s = .next t ∧ t.mem = s.mem ∧ (t.channel ch).episodes = (s.channel ch).episodes + 1 ∧
      (t.channel ch).alerted = false ∧ (∀ r ∈ (s.channel ch).list.take 4, tget (t.channel ch).counters r.1 = none) ∧
      tgetD t.life.health (0xC00 + 4 * ch) 0 =
        tgetD s.life.health (0xC00 + 4 * ch) 0 + (((s.channel ch).list.take 4).filter (fun r => r.2.2)).length ∧
      ((s.channel ch).asserted = [] → (t.channel ch).list = (s.channel ch).list.drop 4) := by
  rw [← unitKey_channel h] at hc ⊢
  rw [exec_damperEpisode_due hdue]
  obtain ⟨he, hcounters, ha⟩ := Channel.refill_keeps ((s.channel ch).served s.now).asserted.length ((s.channel ch).served s.now)
  have hlist : (s.channel ch).asserted = [] →
      (Channel.refill ((s.channel ch).served s.now).asserted.length ((s.channel ch).served s.now)).list = (s.channel ch).list.drop 4 := by
    intro hnone
    rw [show ((s.channel ch).served s.now).asserted = [] from hnone]
    rfl
  generalize Channel.refill ((s.channel ch).served s.now).asserted.length ((s.channel ch).served s.now) = k at *
  obtain ⟨z, hz, hn⟩ := State.correctedAll (u := .channel (Fin.ofNat 8 (ch / 32)) (Fin.ofNat 32 ch))
    (((s.channel ch).list.take 4).filter (fun r => r.2.2)) { s with channels := tput s.channels ch k } hc
  refine ⟨_, next_of_eq hz, rfl, ?_⟩
  rw [State.channel_tput s ch k { s with life := { s.life with health := z }, channels := tput s.channels ch k } rfl, he, hcounters, ha]
  exact ⟨rfl, rfl, fun r hr => tget_tdels hr _, hn, hlist⟩

theorem exec_patrolRead (h : s.life.stat = .ready) {a : Nat} {u : HealthUnit} (hu : s.unitAt a = some u) (c : Bool) :
    exec (.patrolRead a c) s = .next (if s.poisoned a 1 then s.uncorrected u else if c then s.corrected u else s) := by
  refine next_of_eq ((if_neg (by simp [h])).trans ?_)
  simp only [hu]

theorem uncorrected_first {u : HealthUnit} (h : ∀ b, tget s.life.uncorr (unitKey u) = some b → 86400 * 10 ^ 9 ≤ s.now - b) :
    s.uncorrected u = { s with life := { s.life with uncorr := tput s.life.uncorr (unitKey u) s.now } } := by
  rw [State.uncorrected]
  cases hb : tget s.life.uncorr (unitKey u) with
  | none => rfl
  | some b => exact if_neg (by simpa using h b hb)

theorem uncorrected_again {u : HealthUnit} {b : Nat} (hb : tget s.life.uncorr (unitKey u) = some b) (h : s.now - b < 86400 * 10 ^ 9) :
    Entered s (s.uncorrected u) u 2 := by
  simp only [State.uncorrected, hb, h, decide_true, if_true]
  exact State.entered_enterUnit { s with life := { s.life with uncorr := tput s.life.uncorr (unitKey u) s.now } } u 2

end

/-- Settles O47: alerts by whether their row is listed and the list has room, events of a unit by its threshold. -/
theorem damperAndHealthEvents : Obligations.DamperAndHealthEvents := by
  refine ⟨fun s ch row sat bad h hd => ?_, fun s ch hch hdue => fun hc => exec_damperEpisode hch hdue hc, fun s ch h => ?_, fun s a u c h hu => ?_,
    fun s u h hn => ?_, fun s u h => ?_, fun s k => ?_⟩
  · obtain ⟨t, c, ht, hmem, hch, hlist, hasserted, hcount⟩ := exec_rowAlert h hd row sat bad
    rw [← hlist, ← hasserted]
    refine ⟨t, ht, hmem, by rw [hch, Channel.counters_alert, hcount], by rw [hch]; rfl, fun habsent => ⟨fun hroom => ?_, fun hfull => ?_⟩,
      fun a b hl hother => ?_⟩
    · obtain ⟨hl, ha⟩ := Channel.alert_room habsent hroom (sat || bad, bad)
      rw [hch, hl, ha]
      refine ⟨mem_listRow _ _, rfl, length_listRow _ _, fun hno => ?_⟩
      have hclean : sat = false ∧ bad = false := by simpa using hno
      simp [listRow, hclean]
    · rw [hch]
      exact Channel.alert_full habsent hfull _
    · rw [hch]
      exact Channel.alert_listed hl hother _ _ (fun hb => by rw [hb, Bool.or_true])
  · refine next_of_eq (if_pos ?_)
    simp [h]
  · rw [exec_patrolRead h hu]
    refine ⟨fun hp hc hn => ?_, fun hp hc => ?_, fun hp hc hn => ⟨_, ?_, State.corrected_reached hn⟩, fun hp hb => ?_,
      fun hp b hb hnow => ⟨_, ?_, uncorrected_again hb hnow⟩⟩
    · rw [hp, hc, if_neg Bool.false_ne_true, if_pos rfl, State.corrected_below hn]
    · rw [hp, hc, if_neg Bool.false_ne_true, if_neg Bool.false_ne_true]
    · rw [hp, hc, if_neg Bool.false_ne_true, if_pos rfl]
    · rw [hp, if_pos rfl, uncorrected_first hb]
    · rw [hp, if_pos rfl]
  · exact ⟨_, next_of_eq (if_pos ⟨h, hn⟩), s.entered_enterUnit u 1⟩
  · exact next_of_eq (if_neg fun hreached => absurd hreached.2 (by omega))
  · have hkind : s.life.health.filter (fun e => !inWindowKind k e.1) = s.life.health.filter (fun e => match k with
        | .day => decide (0xC00 ≤ e.1)
        | .hour => decide (e.1 < 0xC00) || decide (0x1100 ≤ e.1)
        | .second => decide (e.1 < 0x1100)) := by
      refine List.filter_congr fun e _ => Bool.eq_iff_iff.mpr ?_
      cases k with
      | day => simp [inWindowKind]
      | hour => simp [inWindowKind]
      | second => simp [inWindowKind]
    exact next_of_eq (congrArg (fun z => ({ s with life := { s.life with health := z } } : State)) hkind)

end Sys2Proof.Machine
end

section
/-! What the Draught does to a binding and its records (17 R386 to R397), and O40: assignment, windows, commits and the recheck of QWAIT. -/

namespace Sys2Proof.Machine

variable {s : State} {id slot : Nat} {b : Binding} {r : Rec}

theorem State.Recached.binds_eq {t : State} (h : s.Recached t) : t.binds = s.binds := by obtain ⟨_, _, _, _, rfl⟩ := h; rfl

/-! ## Records in their binding (17 R386, R394) -/

/-- 17 R386: a record is stored in its binding; its writes fall due to its context, and nothing else changes. -/
theorem State.putRec_spec (h : tget s.binds id = some b) (slot : Nat) (r : Rec) :
    ∃ c, s.putRec id slot r = { s with binds := tput s.binds id { b with recs := tput b.recs slot r }, ctxs := c } := by
  simp only [State.putRec, h]
  repeat' split
  all_goals exact ⟨_, rfl⟩

/-- 17 R386: a record that is stored stands in its binding; groups and memory are as before. -/
theorem State.stored_putRec (h : tget s.binds id = some b) (slot : Nat) (r : Rec) : ∃ b', tget (s.putRec id slot r).binds id = some b' ∧
    tget b'.recs slot = some r ∧ (s.putRec id slot r).mem = s.mem ∧ (s.putRec id slot r).groups = s.groups := by
  obtain ⟨c, hc⟩ := State.putRec_spec h slot r
  rw [hc]
  exact ⟨_, (tget_tput ..).trans (if_pos rfl), (tget_tput ..).trans (if_pos rfl), rfl, rfl⟩

/-- 17 R389, R394: a record that has ended is stored and counted. -/
theorem State.endRec_spec (h : tget s.binds id = some b) (slot : Nat) (r : Rec) : ∃ x c, s.endRec id slot r = { s with binds := x, ctxs := c } ∧
    tget x id = some (({ b with recs := tput b.recs slot r } : Binding).tally r) := by
  obtain ⟨c, hc⟩ := State.putRec_spec h slot r
  refine ⟨_, c, by rw [State.endRec, hc], ?_⟩
  simp only [tget_tmod_self, tget_tput, if_true, Option.map_some]

@[simp] theorem Binding.recs_tally (b : Binding) (r : Rec) : (b.tally r).recs = b.recs := rfl

/-- 17 R395: routing a record changes the lottery register of its binding alone. -/
theorem Binding.route_spec (b : Binding) (r : Rec) : ∃ l o k, b.route r = ({ b with l := l }, { r with order := o, cur := k }) := by
  simp only [Binding.route]
  repeat' split
  all_goals exact ⟨_, _, _, rfl⟩

/-- 17 R395: what routing a record leaves of it. -/
theorem Binding.route_keeps (b : Binding) (r : Rec) : (b.route r).2.st = r.st ∧ (b.route r).2.done = r.done ∧ (b.route r).2.by_ = r.by_ ∧
    (b.route r).2.effects = r.effects := by
  obtain ⟨l, o, k, h⟩ := b.route_spec r
  rw [h]
  exact ⟨rfl, rfl, rfl, rfl⟩

/-! ## A record goes to a warp (17 R389, R397) -/

section
variable {g w : Nat} {y : Warp} {dst : Option (Fin 32)}

/-- 17 R397: a warp with the record that an RTAKE gives it, and the scalar that receives its handle. -/
def Warp.taking (y : Warp) (id slot : Nat) (dst : Option (Fin 32)) (x : DWord) : Warp :=
  match dst with
  | some i => ({ y with held := some { bind := id, slot := slot } } : Warp).setS i x
  | none => { y with held := some { bind := id, slot := slot } }

/-- 17 R389: a record as the warp takes it. -/
def Rec.taken (r : Rec) (loc : Nat) (g w now : Nat) : Rec :=
  { r with st := .instage, holder := BitVec.ofNat 32 loc, by_ := some (g, w), since := now }

/-- 17 R389, R397: the record is INSTAGE, its warp holds it, and memory is as before. -/
theorem State.assign_spec (h : tget s.binds id = some b) (hy : s.warp g w = some y) (dst : Option (Fin 32)) (slot : Nat) (r : Rec) :
    ∃ (t : State) (b' : Binding), s.assign id g w dst (slot, r) = t.flush (cfin b.ctx) ∧
      t.warp g w = some (y.taking id slot dst (BitVec.ofNat 64 (b.handle slot r))) ∧ tget t.binds id = some b' ∧
      tget b'.recs slot = some (r.taken (s.hwlocOf g w) g w s.now) ∧ t.mem = s.mem := by
  have hassign : ∃ c, ∃ u : State, State.Recached (({ s with
      binds := tput s.binds id { b with recs := tput b.recs slot (r.taken (s.hwlocOf g w) g w s.now) }, ctxs := c } : State).modWarp g w
        (fun y => y.taking id slot dst (BitVec.ofNat 64 (b.handle slot r)))) u ∧ s.assign id g w dst (slot, r) = u.flush (cfin b.ctx) := by
    obtain ⟨c, hput⟩ := State.putRec_spec h slot (r.taken (s.hwlocOf g w) g w s.now)
    rw [Rec.taken] at hput
    simp only [State.assign, h, hput]
    split
    · exact ⟨_, _, State.recached_acquire .., rfl⟩
    · exact ⟨_, _, .refl _, rfl⟩
  obtain ⟨c, u, hu, hs⟩ := hassign
  refine ⟨u, { b with recs := tput b.recs slot (r.taken (s.hwlocOf g w) g w s.now) }, hs, ?_, ?_, ?_, hu.mem_eq⟩
  · rw [hu.warp_eq, State.warp_modWarp]
    exact congrArg (Option.map _) hy
  · rw [hu.binds_eq]
    exact (tget_tput ..).trans (if_pos rfl)
  · rw [tget_tput, if_pos rfl]

/-- 17 R397: an answered fragment leaves the registers of its warp, the bindings, the contexts and memory as they are. -/
theorem State.answer_spec {q : Ref} (hy : s.warp q.g q.w = some y) (p : Frag → Bool) :
    (∃ y', (s.answer q p).warp q.g q.w = some y' ∧ y'.s = y.s) ∧ (s.answer q p).binds = s.binds ∧ (s.answer q p).ctxs = s.ctxs ∧
      (s.answer q p).mem = s.mem := by
  simp only [State.answer, hy]
  split
  · next f _ =>
    have hmoved : (s.modWarp q.g q.w (fun y => y.setSlot q.slot (some { f.advance with arrived := none }))).warp q.g q.w =
        some (y.setSlot q.slot (some { f.advance with arrived := none })) := by rw [State.warp_modWarp, hy, Option.map_some]
    split
    · next hparked =>
      exact ⟨⟨_, State.warp_setSched hmoved (by simp [hparked]), by simp⟩, rfl, rfl, rfl⟩
    · exact ⟨⟨_, hmoved, by simp⟩, rfl, rfl, rfl⟩
  · exact ⟨⟨_, (State.warp_modWarp ..).trans (congrArg (Option.map _) hy), rfl⟩, rfl, rfl, rfl⟩
  · exact ⟨⟨y, hy, rfl⟩, rfl, rfl, rfl⟩

/-- 17 R397: a request that is answered is waiting no more. -/
theorem State.tget_dropTaker (h : tget s.binds id = some b) (q : Ref) (pc : DWord) :
    tget (s.dropTaker q pc).binds id = some { b with takers := b.takers.filter (fun t => !t.is q pc) } := by
  rw [State.dropTaker, tget_map s.binds (fun b => { b with takers := b.takers.filter (fun t => !t.is q pc) }), h, Option.map_some]

/-- 17 R397: the oldest waiting RTAKE that a record serves has it. -/
theorem exec_recordAssignment (h : tget s.binds id = some b) (hc : (s.ctxs[cfin b.ctx]).st = .running) {k : Taker} {rest : List Taker}
    (ht : b.takers = k :: rest) (ho : s.offer b k.stage = some (slot, r)) (hy : s.warp k.g k.w = some y) (hheld : y.held = none)
    (hst : y.standsAt k.slot k.pc = true) : exec (.recordAssignment id) s = .next
      (((s.dropTaker { g := k.g, w := k.w, slot := k.slot } k.pc).answer { g := k.g, w := k.w, slot := k.slot } (·.waitsAt k.pc)).assign id k.g k.w k.dst
        (slot, r)) := by
  show execRecordAssignment id s = _
  have hserved : s.firstServed b b.takers = some (k, (slot, r)) := by rw [ht, State.firstServed, ho]
  simp only [execRecordAssignment, h, hc, hserved, hy, hheld, hst, ne_eq, not_true_eq_false, if_false, Option.isSome_none, Bool.not_true,
    Bool.or_self, Bool.false_eq_true]

end

/-! ## Windows (17 R394, R395) -/

/-- 17 R395: records that waited for a window are routed, and nothing changes but the records and the lottery of their binding. -/
theorem State.routeWaiting_spec (n : Nat) (h : tget s.binds id = some b) : ∃ b', tget (s.routeWaiting id n).binds id = some b' ∧
    b'.window = b.window ∧ b'.weights = b.weights ∧ b'.seq = b.seq ∧ (s.routeWaiting id n).groups = s.groups ∧
    (s.routeWaiting id n).mem = s.mem := by
  induction n generalizing s b with
  | zero => exact ⟨b, h, rfl, rfl, rfl, rfl, rfl⟩
  | succ n ih =>
    simp only [State.routeWaiting, h]
    split
    · exact ⟨b, h, rfl, rfl, rfl, rfl, rfl⟩
    · next slot r _ =>
      obtain ⟨l, o, k, hroute⟩ := b.route_spec r
      have hbind : tget (s.putBind id { b with l := l }).binds id = some { b with l := l } := (tget_tput ..).trans (if_pos rfl)
      obtain ⟨c, hput⟩ := State.putRec_spec hbind slot { r with order := o, cur := k }
      rw [hroute]
      simp only [hput]
      exact ih (b := { b with l := l, recs := tput b.recs slot { r with order := o, cur := k } }) ((tget_tput ..).trans (if_pos rfl))

/-- 17 R394: a window that may close is followed by the next. -/
theorem exec_windowClose (h : tget s.binds id = some b) (hc : b.closable = true) : ∃ (t : State) (b' : Binding),
    exec (.windowClose id) s = .next (t.flush (cfin b.ctx)) ∧ tget t.binds id = some b' ∧ b'.window = b.window + 1 ∧
      b'.weights.length = b.weights.length + 1 ∧ b'.seq = b.seq ∧ t.groups = s.groups ∧ t.mem = s.mem := by
  obtain ⟨b', hb, hwin, hweights, hseq, hg, hm⟩ :=
    State.routeWaiting_spec (s := s.putBind id b.close) (b := b.close) b.recs.length ((tget_tput ..).trans (if_pos rfl))
  refine ⟨_, b', ?_, hb, hwin, by rw [hweights]; exact List.length_append, hseq, hg, hm⟩
  show execWindowClose id s = _
  simp only [execWindowClose, h, hc, if_true]

/-! ## Commits (17 R392) -/

/-- 17 R392: the effects of a record, stored in stage order, leave the bindings as they are. -/
theorem State.binds_effects (l : List (Nat × Effect)) (s : State) :
    (l.foldl (fun u e => u.engPutBytes e.1 (leBytes e.2.size e.2.data.toNat)) s).binds = s.binds := by
  have hstore (l : List Byte) (t : State) (pa : Nat) : (t.engStore pa l).binds = t.binds := by
    induction l generalizing t pa with
    | nil => rfl
    | cons b r ih =>
      rw [State.engStore, ih, State.engPut]
      split <;> rfl
  exact foldl_keeps State.binds (fun t e => (t.recached_engPutBytes _ _).binds_eq.trans (hstore _ t _)) _ _

/-- 17 R392: a record whose effects all translate is DONE. -/
theorem exec_recordCommit (h : tget s.binds id = some b) (hr : tget b.recs slot = some r) (hst : r.st = .committing)
    (hc : (s.ctxs[cfin b.ctx]).st.works = true) {l : List (Nat × Effect)} (hl : s.effectsTo (cfin b.ctx) (b.home / 4) r.effects = .ready l) :
    exec (.recordCommit id slot) s = .next ((((stageSorted l).foldl (fun t e => t.engPutBytes e.1 (leBytes e.2.size e.2.data.toNat)) s).endRec id slot
      { r with st := .done }).recFlush (cfin b.ctx) id slot) := by
  show execRecordCommit id slot s = _
  have hgo : ¬(r.st ≠ .committing ∨ (!(s.ctxs[cfin b.ctx]).st.works) = true) := by rw [hst, hc]; simp
  simp only [execRecordCommit, h, hr, if_neg hgo, hl]

/-! ## The recheck of QWAIT (06 R128) -/

theorem State.sched_release {g w : Nat} (d : Dest) : ((s.release g w d).warp g w).map (·.sched) = (s.warp g w).map (·.sched) := by
  simp only [State.release]
  split
  · rfl
  · split
    · rfl
    · rw [State.warp_modWarp, Option.map_map]; rfl
    · rw [State.warp_modWarp, Option.map_map]; rfl

/-- 08 R165: the warp of a view is scheduled as the warp is whose fragment issues. -/
theorem State.viewOf_sched {q : Ref} {v : View} (h : s.viewOf q = some v) :
    ∃ y, s.warp q.g q.w = some y ∧ y.slot q.slot = some v.f ∧ v.y.sched = y.sched := by
  unfold State.viewOf at h
  split at h
  · cases h
  · next x hx =>
    split at h
    · cases h
    · next y hy =>
      split at h
      · cases h
      · next f hf =>
        cases h
        have hw : s.warp q.g q.w = some y := by simp [State.warp, hx, hy]
        have hkept : ((s.beforeReplay q f).warp q.g q.w).map (·.sched) = some y.sched := by
          unfold State.beforeReplay
          split
          · rw [hw]; rfl
          · refine List.foldlRecOn (motive := fun (t : State) => (t.warp q.g q.w).map (·.sched) = some y.sched) _ _ ?_
              (fun t ht d _ => (State.sched_release d).trans ht)
            rw [← Option.map_some (f := Warp.sched), ← hw]
            rfl
        refine ⟨y, hw, hf, ?_⟩
        obtain ⟨z, hz, hsched⟩ := Option.map_eq_some_iff.mp hkept
        simp only [State.warp_modWarp, hz, Option.map_some, Option.getD_some, Warp.setSlot_sched, hsched]

/-- 06 R128: a QWAIT that waits is READY to issue again, and its warp is not PARKED. -/
theorem exec_qwaitRecheck {g w : Nat} {c : Bool} {v : View} {k : Kernel} {x : Word} {a b : Opnd} {wa wb : Bool}
    (hv : s.viewOf { g := g, w := w, slot := c } = some v) (hk : v.kernel = some k) (hf : s.fetchAt v.core v.c k v.y.plvl v.pc = .word x)
    (hd : decodeWord x = .ok (.qwait a b wa wb)) (hst : v.f.status = .blocked true) : ∃ (t : State) (y : Warp),
    exec (.qwaitRecheck g w c) s = .next t ∧ t.warp g w = some y ∧ y.slot c = some { v.f with status := .ready } ∧ y.sched ≠ .parked ∧
      t.mem = s.mem := by
  have hexec : exec (.qwaitRecheck g w c) s = .next (if v.y.sched = .parked then (s.setStatus v.r .ready).setSched g w .pending
      else s.setStatus v.r .ready) := by
    show execQwaitRecheck g w c s = _
    simp only [execQwaitRecheck, hv, hk, hf, hd, Frag.parks, hst, if_true]
  obtain ⟨y, hy, hslot, hsched⟩ := State.viewOf_sched hv
  obtain ⟨-, hr, -⟩ := State.viewOf_spec hv
  have hready : (s.setStatus v.r .ready).warp g w = some (y.setSlot c (some { v.f with status := .ready })) := by
    rw [hr, State.setStatus, State.warp_modWarp, hy, Option.map_some, hslot]
    rfl
  rw [hsched] at hexec
  by_cases hp : y.sched = .parked
  · rw [if_pos hp] at hexec
    refine ⟨_, _, hexec, State.warp_setSched hready (by simp [hp]), ?_, by simp, rfl⟩
    cases c <;> rfl
  · rw [if_neg hp] at hexec
    exact ⟨_, _, hexec, hready, by simp, by simpa using hp, rfl⟩

/-- Settles O40: each event of the Draught by the binding and the record that it finds. -/
theorem draughtEvents : Obligations.DraughtEvents := by
  refine ⟨fun s id b k rest slot r y dst h hc ht ho hy hheld hst hdst => ?_, fun s id b h hc => exec_windowClose h hc,
    fun s id slot b r l h hr hst hc hl => ?_, fun s g w c v k x a b wa wb hv hk hf hd hst => exec_qwaitRecheck hv hk hf hd hst⟩
  · subst hdst
    obtain ⟨⟨y', hy', hregs⟩, hbinds, -, hmem⟩ :=
      State.answer_spec (s := s.dropTaker { g := k.g, w := k.w, slot := k.slot } k.pc) (q := { g := k.g, w := k.w, slot := k.slot }) hy (·.waitsAt k.pc)
    obtain ⟨t, b', ht', hw, hb', hrec, hm⟩ := State.assign_spec (hbinds ▸ State.tget_dropTaker h _ k.pc) hy' k.dst slot r
    refine ⟨t, _, b', _, (exec_recordAssignment h hc ht ho hy hheld hst).trans (next_of_eq ht'), hw, ?_, ?_, hb', hrec, rfl, rfl, hm.trans hmem⟩
    · cases k.dst <;> rfl
    · rw [← hregs]
      cases k.dst <;> rfl
  · have hbinds := State.binds_effects (stageSorted l) s
    obtain ⟨bs, c, hend, hb⟩ := State.endRec_spec (h ▸ congrArg (tget · id) hbinds) slot { r with st := .done }
    refine ⟨_, ({ b with recs := tput b.recs slot { r with st := .done } } : Binding).tally { r with st := .done }, { r with st := .done },
      exec_recordCommit h hr hst hc hl, ?_, rfl, rfl, (tget_tput ..).trans (if_pos rfl), rfl, ?_⟩
    · rw [hend]
      exact hb
    · rw [hend]
      rfl

end Sys2Proof.Machine
end

section
/-! O39: RINJ, RTAKE, RPASS, RDROP, REFF and RSTAT (17 R385, R397 to R403). -/

namespace Sys2Proof.Machine

variable {s : State} {v : View} {d a b : Opnd} {wa wb : Bool} {ld la lb : Loc}

/-! ## The operands of a record instruction -/

/-- A source that is a scalar register names one. -/
theorem View.resolve_kSx {l : Loc} (h : v.resolve kSx false a = .ok l) : ∃ i, l = .sca i := by
  cases a with
  | s i => exact ⟨i, (Except.ok.inj h).symm⟩
  | sx2 =>
    simp only [View.resolve, kSx, if_true] at h
    split at h
    · exact ⟨_, (Except.ok.inj h).symm⟩
    · cases h
  | _ => cases h

/-- A destination that is a scalar register or zero. -/
theorem View.Dst.scalar_or_zero (h : v.Dst kSxZ false d ld) : (∃ i, ld = .sca i) ∨ ld = .zero := by
  have hn := h.names
  unfold View.resolveDst at hn
  cases hr : v.resolve { kSxZ with one := false, mone := false, lane := false } false d with
  | error t => rw [hr] at hn; cases hn
  | ok l =>
    rw [hr, Stop.ok_bind] at hn
    rcases View.resolve_kSxZ hr with ⟨i, rfl⟩ | ⟨-, rfl⟩
    · dsimp only at hn
      split at hn
      · cases hn
      · exact .inl ⟨i, (Except.ok.inj hn).symm⟩
    · exact .inr (Except.ok.inj hn).symm

/-- A word whose first source is a scalar register is one, whatever follows its sources (04 R92). -/
theorem View.blank_sources_kSx {r : Rd} (h : v.blank.rd kSx false a wa = .ok r) (l : List Rd) (k : View → Except Stop State) :
    WellWorded (v.blank.sources (r :: l) >>= k) := by
  unfold View.rd at h
  cases hr : v.blank.resolve kSx false a with
  | error t => rw [hr] at h; cases h
  | ok x =>
    obtain ⟨i, rfl⟩ := View.resolve_kSx hr
    rw [hr] at h
    obtain rfl := Except.ok.inj h
    exact v.blank_sources_stop List.mem_cons_self rfl k

/-- 17 R385: a set that the kernel does not name stops the instruction. -/
theorem View.stageSet_none {j : Nat} (h : ∀ l, v.stageSet j ≠ .ok l) : v.stageSet j = .error (v.trap cILLOPND) := by
  unfold View.stageSet at h ⊢
  split
  · next l hl => exact absurd (by rw [hl]) (h l)
  · rfl

/-! ## RINJ (17 R399) -/

theorem length_tput_new {α : Type} {t : Tab α} {k : Nat} (h : tget t k = none) (x : α) : (tput t k x).length = t.length + 1 := by
  induction t with
  | nil => rfl
  | cons e r ih =>
    obtain ⟨j, y⟩ := e
    rw [tget] at h
    split at h
    · cases h
    · next hj => rw [tput, if_neg hj, List.length_cons, ih h, List.length_cons]

/-- 17 R399: the payloads that are copied into their slots change no warp. -/
theorem State.fillSlots_groups {bd : Binding} {slots : List Nat} {bytes : List Byte} {u : State} (h : s.fillSlots bd slots bytes = .ok u) :
    u.groups = s.groups := by
  induction slots generalizing s bytes with
  | nil => cases h; rfl
  | cons slot r ih =>
    rw [State.fillSlots] at h
    split at h
    · next t ht => exact (ih h).trans (State.putPieces_groups ht)
    · next hno => exact absurd h (hno u)

/-- 17 R399: the slots become records of the binding with rising SEQ. -/
theorem State.inject_spec {id : Nat} {slots : List Nat} {bd : Binding} (hn : slots.Nodup) (hfree : ∀ i ∈ slots, tget bd.recs i = none)
    (h : tget s.binds id = some bd) : ∃ b', tget (s.inject id slots).binds id = some b' ∧ b'.seq = bd.seq + slots.length ∧
      b'.recs.length = bd.recs.length + slots.length ∧ b'.closed = bd.closed ∧ (s.inject id slots).groups = s.groups ∧
      (s.inject id slots).mem = s.mem := by
  induction slots generalizing s bd with
  | nil => exact ⟨bd, h, rfl, rfl, rfl, rfl, rfl⟩
  | cons slot r ih =>
    obtain ⟨hslot, hr⟩ := List.nodup_cons.mp hn
    obtain ⟨l, o, k, hroute⟩ := bd.route_spec (Rec.new bd.seq)
    have hbind : tget ({ s with binds := tput s.binds id { bd with l := l, seq := bd.seq + 1 } } : State).binds id =
        some { bd with l := l, seq := bd.seq + 1 } := (tget_tput ..).trans (if_pos rfl)
    obtain ⟨c, hput⟩ := State.putRec_spec hbind slot { Rec.new bd.seq with order := o, cur := k }
    simp only [State.inject, h, hroute, hput]
    obtain ⟨b', hb', hseq, hlen, hclosed, hg, hm⟩ := ih (s := { s with
      binds := tput (tput s.binds id { bd with l := l, seq := bd.seq + 1 }) id
        { bd with l := l, seq := bd.seq + 1, recs := tput bd.recs slot { Rec.new bd.seq with order := o, cur := k } }, ctxs := c })
      (bd := { bd with l := l, seq := bd.seq + 1, recs := tput bd.recs slot { Rec.new bd.seq with order := o, cur := k } }) hr
      (fun i hi => ((tget_tput ..).trans (if_neg (fun (heq : i = slot) => hslot (heq ▸ hi)))).trans (hfree i (List.mem_cons_of_mem _ hi)))
      ((tget_tput ..).trans (if_pos rfl))
    refine ⟨b', hb', hseq.trans ?_, hlen.trans ?_, hclosed, hg, hm⟩
    · show bd.seq + 1 + r.length = bd.seq + (slot :: r).length
      rw [List.length_cons]; omega
    · rw [length_tput_new (hfree slot List.mem_cons_self), List.length_cons]; omega

/-- 17 R399: the slots that RINJ takes are distinct, none holds a record, and there are at most as many as it wants. -/
theorem State.freeSlotsOf_spec (s : State) (id : Nat) (bd : Binding) (n : Nat) : (s.freeSlotsOf id bd n).Nodup ∧
    (∀ i ∈ s.freeSlotsOf id bd n, tget bd.recs i = none) ∧ (s.freeSlotsOf id bd n).length ≤ n := by
  refine ⟨(List.nodup_range.filter _).sublist (List.take_sublist _ _), fun i hi => ?_, List.length_take_le _ _⟩
  have hfree := (List.mem_filter.mp (List.mem_of_mem_take hi)).2
  exact Option.isNone_iff_eq_none.mp (Bool.and_eq_true_iff.mp hfree).1

/-- RINJ with its slots: the payloads are copied into them and they become records (17 R399). -/
def View.rinjSlots (v : View) (l : Loc) (cnt : Nat) (close : Bool) (z id : Nat) (bd : Binding) : Except Stop State :=
  match v.readBytes (cnt + 2) z (64 * bd.psize * cnt) with
  | .error r => r
  | .ok bytes => match (v.put (v.y.setScalar l (BitVec.ofNat 64 bd.seq))).fillSlots bd (v.s.freeSlotsOf id bd cnt) bytes with
    | .park p => .error (v.parkPage (p * 2 ^ 14))
    | .fail c va => v.accessFail c va true
    | .tables _ => .error .tables
    | .ok s2 =>
      let s4 := ({ s2 with binds := tput s2.binds id bd, uid := s2.uid + 1 } : State).inject id (v.s.freeSlotsOf id bd cnt)
      .ok (({ s4 with binds := tmod s4.binds id (fun q => { q with closed := q.closed || close }) } : State).flush v.c)

/-- RINJ with its binding: `cnt` payloads from an address, and whether the set is closed (17 R399). -/
def View.rinjInto (v : View) (l : Loc) (cnt : Nat) (close : Bool) (z id : Nat) (bd : Binding) : Except Stop State :=
  if bd.closed then .error (v.trap cILLOP)
  else v.noStage 0 >>= fun _ => v.releases false >>= fun _ =>
    if bd.slots < cnt then .error (v.trap cHEAPFULL)
    else if (v.s.freeSlotsOf id bd cnt).length < cnt then .error (if bd.keep then v.trap cHEAPFULL else v.hold)
    else v.destReady l >>= fun _ => v.rinjSlots l cnt close z id bd

/-- RINJ with its operands: a control word and the address of the payloads (17 R399). -/
def View.rinjWith (v : View) (l : Loc) (x z : Nat) : Except Stop State :=
  if x % 2 ^ 63 / 2 ^ 16 ≠ 0 ∨ x / 16 % 16 ≠ 0 ∨ 64 < x / 2 ^ 8 % 2 ^ 8 then .error (v.trap cILLOPND)
  else v.stageSet (x % 16) >>= fun stages => v.bindFor (x % 16) stages >>= fun e =>
    if x / 2 ^ 8 % 2 ^ 8 = 0 ∧ !decide (2 ^ 63 ≤ x) then .error (v.trap cILLOPND)
    else v.rinjInto l (x / 2 ^ 8 % 2 ^ 8) (decide (2 ^ 63 ≤ x)) z e.1 e.2

theorem means_rinj {x z : Nat} (hd : v.Dst kSxZ false d ld) (ha : v.Val kSx a x) (hb : v.Val kSx b z) :
    Means s v (.rinj d a b wa wb) (v.rinjWith ld x z) := by
  obtain ⟨la, ha, rfl⟩ := ha
  obtain ⟨lb, hb, rfl⟩ := hb
  refine ⟨_, rfl, ?_⟩
  simp only [hd.names, ha.rd, hb.rd, View.sources_two ha.full ha.plain hb.full hb.plain, Stop.ok_bind]
  rfl

/-- 17 R399: the word of RINJ is one. -/
theorem View.rinjWith_sound {x : Nat} (hx : x % 2 ^ 63 < 2 ^ 16 ∧ x / 16 % 16 = 0 ∧ x / 2 ^ 8 % 2 ^ 8 ≤ 64) (l : Loc) (z : Nat) :
    v.rinjWith l x z = (v.stageSet (x % 16) >>= fun stages => v.bindFor (x % 16) stages >>= fun e =>
      if x / 2 ^ 8 % 2 ^ 8 = 0 ∧ !decide (2 ^ 63 ≤ x) then .error (v.trap cILLOPND)
      else v.rinjInto l (x / 2 ^ 8 % 2 ^ 8) (decide (2 ^ 63 ≤ x)) z e.1 e.2) := by
  obtain ⟨hlow, hzero, hcnt⟩ := hx
  exact if_neg (by rw [Nat.div_eq_of_lt hlow]; omega)

theorem View.rinjWith_unsound {x : Nat} (hx : ¬(x % 2 ^ 63 < 2 ^ 16 ∧ x / 16 % 16 = 0 ∧ x / 2 ^ 8 % 2 ^ 8 ≤ 64)) (l : Loc) (z : Nat) :
    v.rinjWith l x z = .error (v.trap cILLOPND) := by
  refine if_pos ?_
  by_contra hno
  simp only [not_or, ne_eq, Classical.not_not, Nat.not_lt, Nat.div_eq_zero_iff] at hno
  exact hx ⟨by omega, hno.2.1, hno.2.2⟩

section
variable {x z id : Nat} {stages : List (Nat × Nat)} {bd : Binding} (h : Issues s v) (hd : v.Dst kSxZ false d ld) (ha : v.Val kSx a x) (hb : v.Val kSx b z)
  (hx : x % 2 ^ 63 < 2 ^ 16 ∧ x / 16 % 16 = 0 ∧ x / 2 ^ 8 % 2 ^ 8 ≤ 64)
include h hd ha hb hx

theorem exec_rinj_noSet (hs : ∀ l, v.stageSet (x % 16) ≠ .ok l) : exec (.rinj d a b wa wb) s = v.trapped cILLOPND 0 v.f.mask := by
  have m := means_rinj (s := s) (wa := wa) (wb := wb) hd ha hb
  rw [View.rinjWith_sound hx, View.stageSet_none hs] at m
  exact Means.traps m h (by decide)

variable (hs : v.stageSet (x % 16) = .ok stages) (hbd : v.bindFor (x % 16) stages = .ok (id, bd))
include hs hbd

/-- 17 R399: RINJ of no payload that does not close the set either. -/
theorem exec_rinj_nothing (hc : x / 2 ^ 8 % 2 ^ 8 = 0) (hlt : x < 2 ^ 63) : exec (.rinj d a b wa wb) s = v.trapped cILLOPND 0 v.f.mask := by
  have m := means_rinj (s := s) (wa := wa) (wb := wb) hd ha hb
  rw [View.rinjWith_sound hx, hs, Stop.ok_bind, hbd, Stop.ok_bind, if_pos (by simp; omega)] at m
  exact Means.traps m h (by decide)

omit h in
theorem means_rinj_into (hc : 1 ≤ x / 2 ^ 8 % 2 ^ 8 ∨ 2 ^ 63 ≤ x) : Means s v (.rinj d a b wa wb)
    (v.rinjInto ld (x / 2 ^ 8 % 2 ^ 8) (decide (2 ^ 63 ≤ x)) z id bd) := by
  have m := means_rinj (s := s) (wa := wa) (wb := wb) hd ha hb
  rw [View.rinjWith_sound hx, hs, Stop.ok_bind, hbd, Stop.ok_bind, if_neg (by simp; omega)] at m
  exact m

end

section
variable {i : Instr} {cnt z id : Nat} {close : Bool} {bd : Binding} (h : Issues s v) (m : Means s v i (v.rinjInto ld cnt close z id bd))
include h m

theorem Means.rinj_closed (hc : bd.closed = true) : exec i s = v.trapped cILLOP 0 v.f.mask := by
  rw [View.rinjInto, if_pos hc] at m
  exact Means.traps m h (by decide)

variable (hc : bd.closed = false)
include hc

theorem Means.rinj_staged (hh : v.y.held.isSome = true) : exec i s = v.trapped cSTAGEFX 0 v.f.mask := by
  rw [View.rinjInto, if_neg (by simp [hc])] at m
  exact m.staged h hh

variable (hh : v.y.held = none)
include hh

theorem Means.rinj_busy (hf : ¬v.Free) : exec i s = v.waiting false := by
  rw [View.rinjInto, if_neg (by simp [hc])] at m
  exact (m.unstaged hh).unreleased h (fun hfree => hf hfree.1)

variable (hf : v.Free)
include hf

omit h in
/-- 17 R399: RINJ that nothing stops goes on to its slots. -/
theorem Means.rinj_slots : Means s v i (if bd.slots < cnt then .error (v.trap cHEAPFULL)
    else if (v.s.freeSlotsOf id bd cnt).length < cnt then .error (if bd.keep then v.trap cHEAPFULL else v.hold)
    else v.destReady ld >>= fun _ => v.rinjSlots ld cnt close z id bd) := by
  rw [View.rinjInto, if_neg (by simp [hc])] at m
  exact (m.unstaged hh).released hf (fun hno => nomatch hno)

theorem Means.rinj_pool (hp : bd.slots < cnt) : exec i s = v.trapped cHEAPFULL 0 v.f.mask := by
  have m' := Means.rinj_slots m hc hh hf
  rw [if_pos hp] at m'
  exact m'.traps h (by decide)

variable (hp : cnt ≤ bd.slots)
include hp

theorem Means.rinj_full (hfew : (v.s.freeSlotsOf id bd cnt).length < cnt) :
    (bd.keep = true → exec i s = v.trapped cHEAPFULL 0 v.f.mask) ∧ (bd.keep = false → exec i s = v.waiting false) := by
  have m' := Means.rinj_slots m hc hh hf
  rw [if_neg (Nat.not_lt.mpr hp), if_pos hfew] at m'
  refine ⟨fun hk => ?_, fun hk => ?_⟩
  · rw [if_pos hk] at m'
    exact m'.traps h (by decide)
  · rw [if_neg (by simp [hk])] at m'
    exact m'.holds h

/-- 17 R399: RINJ copies its payloads and makes records of them. -/
theorem Means.rinj_done (hd : v.Dst kSxZ false d ld) (hroom : cnt ≤ (v.s.freeSlotsOf id bd cnt).length) {bytes : List Byte} {u : State}
    (hr : v.readBytes (cnt + 2) z (64 * bd.psize * cnt) = .ok bytes)
    (hu : (v.put (v.y.setScalar ld (BitVec.ofNat 64 bd.seq))).fillSlots bd (v.s.freeSlotsOf id bd cnt) bytes = .ok u) :
    ∃ (t : State) (b' : Binding), exec i s = .next (v.finish (.ok (t.flush v.c))) ∧
      t.warp v.r.g v.r.w = some (v.y.setScalar ld (BitVec.ofNat 64 bd.seq)) ∧ tget t.binds id = some b' ∧ b'.seq = bd.seq + cnt ∧
      b'.recs.length = bd.recs.length + cnt ∧ b'.closed = close ∧ t.mem = u.mem := by
  have m' := Means.rinj_slots m hc hh hf
  rw [if_neg (Nat.not_lt.mpr hp), if_neg (Nat.not_lt.mpr hroom), hd.ready, Stop.ok_bind, View.rinjSlots, hr] at m'
  simp only [hu] at m'
  obtain ⟨hnodup, hfree, hle⟩ := v.s.freeSlotsOf_spec id bd cnt
  have hcount : (v.s.freeSlotsOf id bd cnt).length = cnt := by omega
  obtain ⟨b', hb', hseq, hlen, hclosed, hg, hm⟩ := State.inject_spec (s := { u with binds := tput u.binds id bd, uid := u.uid + 1 }) (bd := bd) hnodup
    hfree ((tget_tput ..).trans (if_pos rfl))
  rw [hcount] at hseq hlen
  refine ⟨_, { b' with closed := b'.closed || close }, m'.ok h, ?_, ?_, hseq, hlen, ?_, hm⟩
  · have hgroups := State.fillSlots_groups hu
    refine (State.warp_congr (hg.trans hgroups) _ _).trans ?_
    rw [View.warp_put, h.warp, Option.map_some]
  · simp only [tget_tmod_self, hb', Option.map_some]
  · rw [hclosed, hc, Bool.false_or]

end

/-! ## RTAKE (17 R397, R400) -/

/-- 17 R397: the scalar that a destination names. -/
def Loc.scalar : Loc → Option (Fin 32)
  | .sca i => some i
  | _ => none

/-- RTAKE with its set and its selector, once it may take a record (17 R400). -/
def View.rtakeFrom (v : View) (l : Loc) (sel : Option Nat) (id : Nat) (bd : Binding) : Except Stop State :=
  if bd.dry then
    if mXtrap v.y.mode then .error (v.trap cQDRY)
    else .ok ((v.put { v.y.setScalar l 0 with flags := setEos v.y.flags }).dropTaker v.r v.pc)
  else
    let older := bd.takers.takeWhile (fun t => !t.is v.r v.pc)
    match v.s.offer bd sel with
    | some e =>
      if older.any (fun t => v.s.servable bd t.stage e) then
        .error (.wait (v.base.addTaker id { g := v.r.g, w := v.r.w, slot := v.r.slot, pc := v.pc, stage := sel, dst := l.scalar } v.r) true)
      else .ok ((v.s.dropTaker v.r v.pc).assign id v.r.g v.r.w l.scalar e)
    | none =>
      if !bd.takers.any (·.is v.r v.pc) && decide (4096 ≤ v.s.waitingAt bd.home) then .error v.hold
      else .error (.wait (v.base.addTaker id { g := v.r.g, w := v.r.w, slot := v.r.slot, pc := v.pc, stage := sel, dst := l.scalar } v.r) true)

/-- RTAKE with the stages of its set and its operands (17 R400). -/
def View.rtakeWith (v : View) (l : Loc) (j x : Nat) (stages : List (Nat × Nat)) : Except Stop State :=
  match v.s.findBind v.x.launch j with
  | none => .error (v.trap cILLOPND j)
  | some (id, bd) =>
    if stages.length ≤ x ∧ x ≠ 2 ^ 64 - 1 then .error (v.trap cIDXBOUND x)
    else if v.y.held.isSome then .error (v.trap cILLOP)
    else v.destReady l >>= fun _ => v.rtakeFrom l (if x < stages.length then some x else none) id bd

/-- What follows the operands of RTAKE. -/
def View.rtakeAt (v : View) (l : Loc) (j x : Nat) : Except Stop State := v.stageSet j >>= fun stages => v.rtakeWith l j x stages

/-- RTAKE as a chain of its operands (17 R400). -/
def View.rtake (v : View) (d a b : Opnd) (wa wb : Bool) : Except Stop State :=
  v.resolveDst kSxZ false d >>= fun l => v.rd kSx false a wa >>= fun ra => v.rd kSxC false b wb >>= fun rb =>
    v.sources [ra, rb] >>= fun v => v.rtakeAt l (v.val ra) (v.val rb)

theorem exec_rtake (s : State) : exec (.rtake d a b wa wb) s = issue s (·.rtake d a b wa wb) := by
  refine congrArg (issue s) (funext fun v => ?_)
  rfl

theorem View.rtake_operands {x z : Nat} (hd : v.Dst kSxZ false d ld) (ha : v.Val kSx a x) (hb : v.Val kSxC b z) :
    v.rtake d a b wa wb = v.rtakeAt ld x z := by
  obtain ⟨la, ha, rfl⟩ := ha
  obtain ⟨lb, hb, rfl⟩ := hb
  simp only [View.rtake, hd.names, ha.rd, hb.rd, View.sources_two ha.full ha.plain hb.full hb.plain, Stop.ok_bind]
  rfl

section
variable {x z : Nat} (h : Issues s v) (hd : v.Dst kSxZ false d ld) (ha : v.Val kSx a x) (hb : v.Val kSxC b z)
include hd ha hb

theorem means_rtake : Means s v (.rtake d a b wa wb) (v.rtakeAt ld x z) := ⟨_, exec_rtake s, View.rtake_operands hd ha hb⟩

/-- 04 R92: the word of an RTAKE whose operands are ready is one. -/
theorem View.rtake_wellWorded : WellWorded (v.blank.rtake d a b wa wb) := by
  obtain ⟨la, ha, -⟩ := ha
  obtain ⟨lb, hb, -⟩ := hb
  obtain ⟨l, hl⟩ := View.blank_resolveDst hd.names
  obtain ⟨ra, hra⟩ := View.blank_rd ha.names wa
  obtain ⟨rb, hrb⟩ := View.blank_rd hb.names wb
  rw [View.rtake, hl, Stop.ok_bind, hra, Stop.ok_bind, hrb, Stop.ok_bind]
  exact v.blank_sources_kSx hra _ _

include h

theorem exec_rtake_noSet (hs : ∀ l, v.stageSet x ≠ .ok l) : exec (.rtake d a b wa wb) s = v.trapped cILLOPND 0 v.f.mask := by
  have m := means_rtake (s := s) (wa := wa) (wb := wb) hd ha hb
  rw [View.rtakeAt, View.stageSet_none hs] at m
  exact Means.traps m h (by decide)

variable {stages : List (Nat × Nat)} (hs : v.stageSet x = .ok stages)
include hs

/-- 17 R400: a set that is not bound. -/
theorem exec_rtake_unbound (hf : v.s.findBind v.x.launch x = none) : exec (.rtake d a b wa wb) s = v.trapped cILLOPND x v.f.mask := by
  have m := means_rtake (s := s) (wa := wa) (wb := wb) hd ha hb
  rw [View.rtakeAt, hs, Stop.ok_bind, View.rtakeWith, hf] at m
  exact Means.traps m h (by decide)

variable {id : Nat} {bd : Binding} (hf : v.s.findBind v.x.launch x = some (id, bd))
include hf

/-- 17 R400: a selector that names no stage. -/
theorem exec_rtake_bound (hz : stages.length ≤ z) (hany : z ≠ 2 ^ 64 - 1) : exec (.rtake d a b wa wb) s = v.trapped cIDXBOUND z v.f.mask := by
  refine exec_outOfBounds h (exec_rtake s) ?_ (View.rtake_wellWorded hd ha hb)
  rw [View.rtake_operands hd ha hb, View.rtakeAt, hs, Stop.ok_bind, View.rtakeWith, hf]
  exact if_pos ⟨hz, hany⟩

variable (hz : z < stages.length ∨ z = 2 ^ 64 - 1)
include hz

theorem exec_rtake_held (hh : v.y.held.isSome = true) : exec (.rtake d a b wa wb) s = v.trapped cILLOP 0 v.f.mask := by
  have hin : ¬(stages.length ≤ z ∧ z ≠ 2 ^ 64 - 1) := fun hno => hz.elim (fun hlt => absurd hno.1 (Nat.not_le.mpr hlt)) hno.2
  have m := means_rtake (s := s) (wa := wa) (wb := wb) hd ha hb
  simp only [View.rtakeAt, hs, Stop.ok_bind, View.rtakeWith, hf, if_neg hin, if_pos hh] at m
  exact Means.traps m h (by decide)

omit h in
theorem means_rtake_from (hh : v.y.held = none) : Means s v (.rtake d a b wa wb) (v.rtakeFrom ld (if z < stages.length then some z else none) id bd) := by
  have hin : ¬(stages.length ≤ z ∧ z ≠ 2 ^ 64 - 1) := fun hno => hz.elim (fun hlt => absurd hno.1 (Nat.not_le.mpr hlt)) hno.2
  have m := means_rtake (s := s) (wa := wa) (wb := wb) hd ha hb
  simp only [View.rtakeAt, hs, Stop.ok_bind, View.rtakeWith, hf, if_neg hin, hh, Option.isSome_none, Bool.false_eq_true, if_false, hd.ready] at m
  exact m

end

section
variable {i : Instr} {sel : Option Nat} {id : Nat} {bd : Binding} (h : Issues s v) (m : Means s v i (v.rtakeFrom ld sel id bd))
include h m

/-- 17 R400: at a dry set, RTAKE traps or returns 0 with EOS. -/
theorem Means.rtake_dry (hdry : bd.dry = true) : (mXtrap v.y.mode = true → exec i s = v.trapped cQDRY 0 v.f.mask) ∧
    (mXtrap v.y.mode = false → Leaves s v i { (v.y.setScalar ld 0) with flags := v.y.flags ||| 0x10#8 } v.s) := by
  rw [View.rtakeFrom, if_pos hdry] at m
  refine ⟨fun hx => ?_, fun hx => ?_⟩
  · rw [if_pos hx] at m
    exact m.traps h (by decide)
  · rw [if_neg (by simp [hx])] at m
    refine m.leaves h ?_ rfl
    exact (View.warp_put ..).trans (by rw [h.warp, Option.map_some, setEos])

variable (hdry : bd.dry = false)
include hdry

/-- 17 R397: the record of lowest SEQ that no older request takes goes to the warp. -/
theorem Means.rtake_offered (hd : v.Dst kSxZ false d ld) {slot : Nat} {r : Rec} (hb : tget v.s.binds id = some bd) (ho : v.s.offer bd sel = some (slot, r))
    (hfirst : ∀ k ∈ bd.takers, k.is v.r v.pc = true ∨ v.s.servable bd k.stage (slot, r) = false) :
    ∃ (t : State) (b' : Binding) (r' : Rec), exec i s = .next (v.finish (.ok (t.flush (cfin bd.ctx)))) ∧ tget t.binds id = some b' ∧
      tget b'.recs slot = some r' ∧ r'.st = .instage ∧ r'.by_ = some (v.r.g, v.r.w) ∧ r'.seq = r.seq ∧ r'.effects = r.effects ∧
        r'.done = r.done ∧
      t.warp v.r.g v.r.w = some { (v.y.setScalar ld (BitVec.ofNat 64 (bd.handle slot r))) with held := some { bind := id, slot := slot } } ∧
      t.mem = v.s.mem := by
  have holder : (bd.takers.takeWhile (fun t => !t.is v.r v.pc)).any (fun t => v.s.servable bd t.stage (slot, r)) = false := by
    refine List.any_eq_false.mpr fun k hk => ?_
    have hother : k.is v.r v.pc ≠ true := by simpa using List.mem_takeWhile_imp hk
    simpa using (hfirst k (List.takeWhile_subset _ hk)).resolve_left hother
  rw [View.rtakeFrom, if_neg (by simp [hdry])] at m
  simp only [ho, holder, Bool.false_eq_true, if_false] at m
  obtain ⟨t, b', ht, hw, hb', hrec, hm⟩ := State.assign_spec (State.tget_dropTaker hb v.r v.pc) (s := v.s.dropTaker v.r v.pc) h.warp ld.scalar slot r
  refine ⟨t, b', _, ?_, hb', hrec, rfl, rfl, rfl, rfl, rfl, hw.trans ?_, hm⟩
  · rw [m.ok h, ht]
  · rcases hd.scalar_or_zero with ⟨i, rfl⟩ | rfl <;> rfl

/-- 17 R397: with no record for it, and the Draught's requests all in use, RTAKE waits at issue. -/
theorem Means.rtake_crowded (ho : v.s.offer bd sel = none) (hnew : ∀ k ∈ bd.takers, k.is v.r v.pc = false) (hfull : 4096 ≤ v.s.waitingAt bd.home) :
    exec i s = v.waiting false := by
  have hany : bd.takers.any (·.is v.r v.pc) = false := List.any_eq_false.mpr fun k hk => by simp [hnew k hk]
  rw [View.rtakeFrom, if_neg (by simp [hdry])] at m
  simp only [ho, hany, hfull, Bool.not_false, decide_true, Bool.and_self, if_true] at m
  exact m.holds h

/-- 17 R397: with no record for it, or with an older request for the one there is, RTAKE waits among the requests. -/
theorem Means.rtake_waits (hw : (v.s.offer bd sel = none ∧ (v.s.waitingAt bd.home < 4096 ∨ ∃ k ∈ bd.takers, k.is v.r v.pc = true)) ∨
      (∃ q, v.s.offer bd sel = some q ∧ ∃ k ∈ bd.takers.takeWhile (fun k => !k.is v.r v.pc), v.s.servable bd k.stage q = true)) :
    ∃ (t : State), exec i s = .next ((t.setStatus v.r (.blocked true)).parkCheck v.r.g v.r.w) ∧ t.mem = s.mem ∧ t.groups = s.groups := by
  rw [View.rtakeFrom, if_neg (by simp [hdry])] at m
  rcases hw with ⟨ho, hroom⟩ | ⟨q, ho, k, hk, hserves⟩
  · have hgo : ¬((!bd.takers.any (·.is v.r v.pc) && decide (4096 ≤ v.s.waitingAt bd.home)) = true) := by
      rw [Bool.and_eq_true, decide_eq_true_eq, Bool.not_eq_true']
      rintro ⟨hnew, hfull⟩
      refine hroom.elim (fun hlt => absurd hfull (Nat.not_le.mpr hlt)) fun ⟨k, hk, hmine⟩ => ?_
      exact List.any_eq_false.mp hnew k hk hmine
    simp only [ho, if_neg hgo] at m
    refine ⟨_, m.waits h, ?_, ?_⟩ <;> rw [h.base_eq] <;> rfl
  · have holder : (bd.takers.takeWhile (fun t => !t.is v.r v.pc)).any (fun t => v.s.servable bd t.stage q) = true :=
      List.any_eq_true.mpr ⟨k, hk, hserves⟩
    simp only [ho, holder, if_true] at m
    refine ⟨_, m.waits h, ?_, ?_⟩ <;> rw [h.base_eq] <;> rfl

end

/-! ## The record of a warp in stage (17 R401, R402) -/

section
variable {id slot : Nat} {bd : Binding} {r : Rec}

theorem InStage.holding (q : InStage s v id slot bd r) : v.holding = .stage id slot bd r := by
  simp only [View.holding, q.held, q.binding, q.record, q.idle, q.stage, q.holder, Option.any_none, Bool.false_eq_true, if_false, and_self, if_true]

theorem View.holding_none (hh : v.y.held = none) : v.holding = .none := by simp only [View.holding, hh]

/-- RPASS of a record (17 R401). -/
def View.passes (v : View) (id slot : Nat) (b : Binding) (r : Rec) : Except Stop State :=
  let r1 : Rec := { r with done := r.done ||| BitVec.ofNat 8 (2 ^ r.cur.getD 0), by_ := none }
  let b1 := b.count r false v.s.now
  if (b1.left r1).isEmpty then
    let r2 : Rec := { r1 with st := .committing, pass := true, waiter := some (v.r.g, v.r.w, v.r.slot) }
    let s1 := ((v.base.putBind id b1).putRec id slot r2).modWarp v.r.g v.r.w (fun y =>
      y.setSlot v.r.slot ((y.slot v.r.slot).map (fun f => { f with arrived := some (.answer slot) })))
    .error (.wait (s1.flush v.c) false)
  else
    let s1 := v.put { v.y with held := none, flags := passFlags v.y.flags false }
    .ok (((s1.putBind id (b1.route { r1 with st := .queued }).1).putRec id slot (b1.route { r1 with st := .queued }).2).flush v.c)

/-- RDROP of a record (17 R401). -/
def View.drops (v : View) (id slot : Nat) (b : Binding) (r : Rec) : Except Stop State :=
  .ok ((((v.put { v.y with held := none, flags := passFlags v.y.flags true }).putBind id (b.count r true v.s.now)).endRec id slot
    { r with st := .dropped, cause := 0, effects := [], by_ := none }).recFlush v.c id slot)

theorem means_rpass (q : InStage s v id slot bd r) : Means s v .rpass (v.releases false >>= fun _ => v.passes id slot bd r) := by
  refine ⟨_, rfl, ?_⟩
  have hgoing := q.going
  cases harr : v.f.arrived with
  | none => simp only [q.holding]; rfl
  | some x =>
    cases x with
    | answer k => exact absurd harr (hgoing k)
    | _ => simp only [q.holding]; rfl

theorem means_rdrop (q : InStage s v id slot bd r) : Means s v .rdrop (v.releases false >>= fun _ => v.drops id slot bd r) := by
  refine ⟨_, rfl, ?_⟩
  simp only [q.holding]
  rfl

theorem InStage.waits (q : InStage s v id slot bd r) (hf : ¬v.Free) : exec .rpass s = v.waiting false ∧ exec .rdrop s = v.waiting false :=
  ⟨(means_rpass q).unreleased q.issues (fun hfree => hf hfree.1), (means_rdrop q).unreleased q.issues (fun hfree => hf hfree.1)⟩

/-- 17 R401: a record has passed every stage. -/
theorem Binding.left_isEmpty (b : Binding) (r : Rec) : (b.left r).isEmpty = (List.range b.stages.length).all (fun j => r.done.getLsbD j) := by
  rw [Bool.eq_iff_iff, List.isEmpty_iff, Binding.left, List.filter_eq_nil_iff, List.all_eq_true]
  simp only [Bool.not_eq_true, Bool.not_eq_false']

/-- 17 R401: RPASS before the last stage has its record QUEUED for the next. -/
theorem InStage.passes_on (q : InStage s v id slot bd r) (hf : v.Free)
    (hended : (List.range bd.stages.length).all (fun j => (r.done ||| BitVec.ofNat 8 (2 ^ r.cur.getD 0)).getLsbD j) = false) :
    ∃ (t : State) (b' : Binding) (r' : Rec), exec .rpass s = .next (v.finish (.ok (t.flush v.c))) ∧
      t.warp v.r.g v.r.w = some { v.y with held := none, flags := setZNCV v.y.flags false false false false } ∧ tget t.binds id = some b' ∧
      tget b'.recs slot = some r' ∧ r'.st = .queued ∧ r'.done = r.done ||| BitVec.ofNat 8 (2 ^ r.cur.getD 0) ∧ r'.by_ = none ∧
      r'.effects = r.effects ∧ t.mem = v.s.mem := by
  have m := (means_rpass q).released hf (fun hno => nomatch hno)
  have hleft : ((bd.count r false v.s.now).left { r with done := r.done ||| BitVec.ofNat 8 (2 ^ r.cur.getD 0), by_ := none }).isEmpty = false :=
    (Binding.left_isEmpty ..).trans hended
  simp only [View.passes, hleft, Bool.false_eq_true, if_false] at m
  obtain ⟨hst, hdone, hby, heff⟩ := Binding.route_keeps (bd.count r false v.s.now)
    { r with done := r.done ||| BitVec.ofNat 8 (2 ^ r.cur.getD 0), by_ := none, st := .queued }
  generalize (bd.count r false v.s.now).route
    { r with done := r.done ||| BitVec.ofNat 8 (2 ^ r.cur.getD 0), by_ := none, st := .queued } = x at m hst hdone hby heff
  obtain ⟨b', hb', hrec, hm, hg⟩ := State.stored_putRec
    (s := (v.put { v.y with held := none, flags := passFlags v.y.flags false }).putBind id x.1) (id := id) ((tget_tput ..).trans (if_pos rfl)) slot x.2
  refine ⟨_, b', x.2, m.ok q.issues, ?_, hb', hrec, hst, hdone, hby, heff, hm⟩
  refine (State.warp_congr hg _ _).trans ?_
  exact (View.warp_put ..).trans (by rw [q.issues.warp]; rfl)

/-- 17 R401: RPASS of the last stage has its record COMMITTING, and waits for the commit. -/
theorem InStage.passes_last (q : InStage s v id slot bd r) (hf : v.Free)
    (hended : (List.range bd.stages.length).all (fun j => (r.done ||| BitVec.ofNat 8 (2 ^ r.cur.getD 0)).getLsbD j) = true) :
    ∃ (t : State) (b' : Binding) (r' : Rec), exec .rpass s = .next (((t.flush v.c).setStatus v.r (.blocked false)).parkCheck v.r.g v.r.w) ∧
      tget t.binds id = some b' ∧ tget b'.recs slot = some r' ∧ r'.st = .committing ∧
      r'.done = r.done ||| BitVec.ofNat 8 (2 ^ r.cur.getD 0) ∧ r'.effects = r.effects ∧ r'.waiter = some (v.r.g, v.r.w, v.r.slot) ∧
      t.mem = s.mem := by
  have m := (means_rpass q).released hf (fun hno => nomatch hno)
  have hleft : ((bd.count r false v.s.now).left { r with done := r.done ||| BitVec.ofNat 8 (2 ^ r.cur.getD 0), by_ := none }).isEmpty = true :=
    (Binding.left_isEmpty ..).trans hended
  simp only [View.passes, hleft, if_true] at m
  obtain ⟨b', hb', hrec, hm, -⟩ := State.stored_putRec (s := v.base.putBind id (bd.count r false v.s.now)) (id := id)
    ((tget_tput ..).trans (if_pos rfl)) slot
    { r with done := r.done ||| BitVec.ofNat 8 (2 ^ r.cur.getD 0), by_ := none, st := .committing, pass := true,
             waiter := some (v.r.g, v.r.w, v.r.slot) }
  exact ⟨_, b', _, m.waits q.issues, hb', hrec, rfl, rfl, rfl, rfl, hm.trans (show v.base.mem = s.mem from congrArg State.mem q.issues.base_eq)⟩

/-- 17 R401: RDROP ends its record DROPPED. -/
theorem InStage.dropped (q : InStage s v id slot bd r) (hf : v.Free) : ∃ (t : State) (b' : Binding) (r' : Rec),
    exec .rdrop s = .next (v.finish (.ok (t.recFlush v.c id slot))) ∧
      t.warp v.r.g v.r.w = some { v.y with held := none, flags := setZNCV v.y.flags true false false false } ∧ tget t.binds id = some b' ∧
      b'.nDropped = bd.nDropped + 1 ∧ b'.nDone = bd.nDone ∧ tget b'.recs slot = some r' ∧ r'.st = .dropped ∧ r'.cause = 0 ∧ r'.effects = [] ∧
      t.mem = v.s.mem := by
  have m := (means_rdrop q).released hf (fun hno => nomatch hno)
  have hbind : tget ((v.put { v.y with held := none, flags := passFlags v.y.flags true }).putBind id (bd.count r true v.s.now)).binds id =
      some (bd.count r true v.s.now) := (tget_tput ..).trans (if_pos rfl)
  obtain ⟨x, c, hend, hb⟩ := State.endRec_spec hbind slot { r with st := .dropped, cause := 0, effects := [], by_ := none }
  rw [View.drops, hend] at m
  refine ⟨_, _, { r with st := .dropped, cause := 0, effects := [], by_ := none }, m.ok q.issues, ?_, hb, rfl, rfl,
    (tget_tput ..).trans (if_pos rfl), rfl, rfl, rfl, rfl⟩
  exact (View.warp_put ..).trans (by rw [q.issues.warp]; rfl)

end

section
variable {id slot : Nat} {bd : Binding} {r : Rec}

theorem exec_record_none (h : Issues s v) (hh : v.y.held = none) (hgoing : ∀ k, v.f.arrived ≠ some (.answer k)) :
    exec .rpass s = v.trapped cILLOP 0 v.f.mask ∧ exec .rdrop s = v.trapped cILLOP 0 v.f.mask := by
  have hpass : Means s v .rpass (.error (v.trap cILLOP)) := by
    refine ⟨_, rfl, ?_⟩
    cases harr : v.f.arrived with
    | none => simp only [View.holding_none hh]
    | some x =>
      cases x with
      | answer k => exact absurd harr (hgoing k)
      | _ => simp only [View.holding_none hh]
  have hdrop : Means s v .rdrop (.error (v.trap cILLOP)) := ⟨_, rfl, by simp only [View.holding_none hh]⟩
  exact ⟨hpass.traps h (by decide), hdrop.traps h (by decide)⟩

/-! ## REFF (17 R402) -/

/-- REFF with its operands: the size as a power of two, the address and the data (17 R402). -/
def View.reffWith (v : View) (n p data : Nat) : Except Stop State :=
  match v.holding with
  | .none => .error (v.trap cILLOP)
  | .commits => .error v.hold
  | .gone => .ok (v.put v.y)
  | .stage id slot _ r =>
    if 2 ^ 60 ≤ p then .error (v.trap cPGPROT p)
    else if p % 2 ^ n ≠ 0 then .error (v.trap cALIGN p)
    else if 8 ≤ r.effects.length then .error (v.trap cSTAGEFX)
    else .ok (((v.put v.y).putRec id slot { r with effects := r.effects ++
      [{ addr := BitVec.ofNat 64 p, data := BitVec.ofNat 128 data, size := 2 ^ n, stage := r.cur.getD 0 }] }).flush v.c)

theorem toNat_reffSize {n : Nat} (hn : n < 128) : (BitVec.ofNat 7 n).toNat = n := by rw [BitVec.toNat_ofNat, Nat.mod_eq_of_lt (by omega)]

variable {o : Opnd} {p x n : Nat}

theorem means_reff (ha : v.Val kSx a p) (ho : v.Val kSx o x) (hn : n < 4) : Means s v (.reff (BitVec.ofNat 7 n) a o wa wb) (v.reffWith n p x) := by
  obtain ⟨la, ha, rfl⟩ := ha
  obtain ⟨lo, ho, rfl⟩ := ho
  refine ⟨_, rfl, ?_⟩
  simp only [ha.rd, toNat_reffSize (show n < 128 by omega), show ¬4 < n by omega, View.effData, ho.rd, show n ≠ 4 by omega, ne_eq, not_false_eq_true,
    if_true, if_false, View.sources_two ha.full ha.plain ho.full ho.plain, Stop.ok_bind]
  rfl

/-- 17 R402: REFF of 16 bytes takes the next scalar register too. -/
theorem means_reff_pair {i : Fin 32} {z : Nat} (ha : v.Val kSx a p) (hx : v.Val kSx (.s i) x) (hi : i.val < 31)
    (hz : v.Val kSx (.s (Fin.ofNat 32 (i.val + 1))) z) : Means s v (.reff 4 a (.s i) wa wb) (v.reffWith 4 p (x + 2 ^ 64 * z)) := by
  obtain ⟨la, ha, rfl⟩ := ha
  obtain ⟨lx, hx, rfl⟩ := hx
  obtain ⟨lz, hz, rfl⟩ := hz
  obtain rfl : Loc.sca (Fin.ofNat 32 (i.val + 1)) = lz := Except.ok.inj hz.names
  refine ⟨_, rfl, ?_⟩
  have hfull := View.sources_full v [{ loc := la, wait := wa, code := a.toCode.toNat }, { loc := lx, wait := wb, code := (Opnd.s i).toCode.toNat },
    { loc := .sca (Fin.ofNat 32 (i.val + 1)), wait := wb, code := 81 + i.val }]
    (List.forall_mem_cons.mpr ⟨⟨ha.full, ha.plain⟩, List.forall_mem_cons.mpr ⟨⟨hx.full, hx.plain⟩,
      List.forall_mem_singleton.mpr ⟨hz.full, hz.plain⟩⟩⟩)
  simp only [ha.rd, show (4 : BitVec 7).toNat = 4 from rfl, Nat.lt_irrefl, View.effData, hx.rd, ne_eq, not_true_eq_false, hi, if_true, if_false, hfull,
    Stop.ok_bind]
  rfl

theorem exec_reff_size (h : Issues s v) (ha : v.Val kSx a p) (hn : 4 < n) (hlt : n < 128) :
    exec (.reff (BitVec.ofNat 7 n) a o wa wb) s = v.trapped cILLOPND 0 v.f.mask := by
  obtain ⟨la, ha, -⟩ := ha
  refine Means.traps (code := cILLOPND) ⟨_, rfl, ?_⟩ h (by decide)
  simp only [ha.rd, toNat_reffSize hlt, hn, if_true, Stop.ok_bind]

theorem View.reffWith_none (hh : v.y.held = none) : v.reffWith n p x = .error (v.trap cILLOP) := by
  simp only [View.reffWith, View.holding_none hh]

/-- 17 R402: REFF by a warp in stage. -/
theorem InStage.reffWith (q : InStage s v id slot bd r) : v.reffWith n p x =
    if 2 ^ 60 ≤ p then .error (v.trap cPGPROT p)
    else if p % 2 ^ n ≠ 0 then .error (v.trap cALIGN p)
    else if 8 ≤ r.effects.length then .error (v.trap cSTAGEFX)
    else .ok (((v.put v.y).putRec id slot { r with effects := r.effects ++
      [{ addr := BitVec.ofNat 64 p, data := BitVec.ofNat 128 x, size := 2 ^ n, stage := r.cur.getD 0 }] }).flush v.c) := by
  simp only [View.reffWith, q.holding]

section
variable {i : Instr} (q : InStage s v id slot bd r) (m : Means s v i (v.reffWith n p x))
include q m

theorem InStage.reff_high (hp : 2 ^ 60 ≤ p) : exec i s = v.trapped cPGPROT p v.f.mask := by
  rw [q.reffWith, if_pos hp] at m
  exact m.traps q.issues (by decide)

variable (hp : p < 2 ^ 60)
include hp

theorem InStage.reff_misaligned (hal : p % 2 ^ n ≠ 0) : exec i s = v.trapped cALIGN p v.f.mask := by
  rw [q.reffWith, if_neg (Nat.not_le.mpr hp), if_pos hal] at m
  exact m.traps q.issues (by decide)

variable (hal : p % 2 ^ n = 0)
include hal

theorem InStage.reff_full (hlen : 8 ≤ r.effects.length) : exec i s = v.trapped cSTAGEFX 0 v.f.mask := by
  rw [q.reffWith, if_neg (Nat.not_le.mpr hp), if_neg (Classical.not_not.mpr hal), if_pos hlen] at m
  exact m.traps q.issues (by decide)

/-- 17 R402: REFF appends its effect to the record. -/
theorem InStage.reff_done (hlen : r.effects.length < 8) : ∃ (t : State) (b' : Binding), exec i s = .next (v.finish (.ok (t.flush v.c))) ∧
    tget t.binds id = some b' ∧ tget b'.recs slot = some { r with effects := r.effects ++
      [{ addr := BitVec.ofNat 64 p, data := BitVec.ofNat 128 x, size := 2 ^ n, stage := r.cur.getD 0 }] } ∧
    t.warp v.r.g v.r.w = some v.y ∧ t.mem = v.s.mem := by
  rw [q.reffWith, if_neg (Nat.not_le.mpr hp), if_neg (Classical.not_not.mpr hal), if_neg (Nat.not_le.mpr hlen)] at m
  obtain ⟨b', hb', hrec, hm, hg⟩ := State.stored_putRec (s := v.put v.y) (id := id) q.binding slot { r with effects := r.effects ++
      [{ addr := BitVec.ofNat 64 p, data := BitVec.ofNat 128 x, size := 2 ^ n, stage := r.cur.getD 0 }] }
  refine ⟨_, b', m.ok q.issues, hb', hrec, (State.warp_congr hg _ _).trans ?_, hm⟩
  rw [View.warp_put, q.issues.warp, Option.map_some]

end

end

/-! ## RSTAT (17 R403) -/

section

/-- What follows the operands of RSTAT. -/
def View.rstatAt (v : View) (l : Loc) (j k : Nat) : Except Stop State := v.stageSet j >>= fun _ =>
  if 11 < k then .error (v.trap cIDXBOUND k)
  else v.destReady l >>= fun _ =>
    let x := match v.s.findBind v.x.launch j with
      | some (_, bd) => bd.snapshot k
      | none => 0
    .ok (v.put (v.y.setScalar l (BitVec.ofNat 64 x)))

/-- RSTAT as a chain of its operands (17 R403). -/
def View.rstat (v : View) (d a b : Opnd) (wa wb : Bool) : Except Stop State :=
  v.resolveDst kSxZ false d >>= fun l => v.rd kSx false a wa >>= fun ra => v.rd kSxZ1 false b wb >>= fun rb =>
    v.sources [ra, rb] >>= fun v => v.rstatAt l (v.val ra) (v.val rb)

theorem exec_rstat (s : State) : exec (.rstat d a b wa wb) s = issue s (·.rstat d a b wa wb) := by
  refine congrArg (issue s) (funext fun v => ?_)
  rfl

variable {j k : Nat} (h : Issues s v) (hd : v.Dst kSxZ false d ld) (ha : v.Val kSx a j) (hb : v.Val kSxZ1 b k)
include hd ha hb

theorem View.rstat_operands : v.rstat d a b wa wb = v.rstatAt ld j k := by
  obtain ⟨la, ha, rfl⟩ := ha
  obtain ⟨lb, hb, rfl⟩ := hb
  simp only [View.rstat, hd.names, ha.rd, hb.rd, View.sources_two ha.full ha.plain hb.full hb.plain, Stop.ok_bind]
  rfl

/-- 04 R92: the word of an RSTAT whose operands are ready is one. -/
theorem View.rstat_wellWorded : WellWorded (v.blank.rstat d a b wa wb) := by
  obtain ⟨la, ha, -⟩ := ha
  obtain ⟨lb, hb, -⟩ := hb
  obtain ⟨l, hl⟩ := View.blank_resolveDst hd.names
  obtain ⟨ra, hra⟩ := View.blank_rd ha.names wa
  obtain ⟨rb, hrb⟩ := View.blank_rd hb.names wb
  rw [View.rstat, hl, Stop.ok_bind, hra, Stop.ok_bind, hrb, Stop.ok_bind]
  exact v.blank_sources_kSx hra _ _

include h

theorem exec_rstat_noSet (hs : ∀ l, v.stageSet j ≠ .ok l) : exec (.rstat d a b wa wb) s = v.trapped cILLOPND 0 v.f.mask := by
  refine Means.traps (code := cILLOPND) ⟨_, exec_rstat s, ?_⟩ h (by decide)
  rw [View.rstat_operands hd ha hb, View.rstatAt, View.stageSet_none hs]
  rfl

variable {stages : List (Nat × Nat)} (hs : v.stageSet j = .ok stages)
include hs

theorem exec_rstat_bound (hk : 11 < k) : exec (.rstat d a b wa wb) s = v.trapped cIDXBOUND k v.f.mask := by
  refine exec_outOfBounds h (exec_rstat s) ?_ (View.rstat_wellWorded hd ha hb)
  rw [View.rstat_operands hd ha hb, View.rstatAt, hs, Stop.ok_bind]
  exact if_pos hk

/-- 17 R403: RSTAT returns its word of the snapshot of the set, 0 for a set that is not bound. -/
theorem exec_rstat_word (hk : k ≤ 11) : exec (.rstat d a b wa wb) s = .next (v.done (v.put (v.y.setScalar ld (BitVec.ofNat 64
    (match v.s.findBind v.x.launch j with
    | some (_, bd) => bd.snapshot k
    | none => 0))))) := by
  refine Means.puts ⟨_, exec_rstat s, ?_⟩ h (by simp) (by simp)
  rw [View.rstat_operands hd ha hb, View.rstatAt, hs, Stop.ok_bind, if_neg (Nat.not_lt.mpr hk), hd.ready, Stop.ok_bind]

end

/-! ### The words of a snapshot -/

theorem Binding.snapshot_past {bd : Binding} {k : Nat} (hk : k < 8) (hn : bd.stages.length ≤ k) : bd.snapshot k = 0 := by
  rw [Binding.snapshot, if_pos hk, if_neg (Nat.not_lt.mpr hn)]

theorem Binding.snapshot_eight (bd : Binding) : bits (BitVec.ofNat 64 (bd.snapshot 8)) 63 48 = bd.l.toNat ∧
    bits (BitVec.ofNat 64 (bd.snapshot 8)) 47 32 = bd.window % 2 ^ 16 ∧ bits (BitVec.ofNat 64 (bd.snapshot 8)) 31 0 = bd.seq % 2 ^ 32 := by
  have hl := bd.l.isLt
  simp only [Binding.snapshot, bits, BitVec.toNat_ofNat, Nat.shiftRight_eq_div_pow]
  refine ⟨?_, ?_, ?_⟩
  all_goals
    simp
    omega

theorem Binding.snapshot_nine (bd : Binding) : bits (BitVec.ofNat 64 (bd.snapshot 9)) 63 32 = bd.nDone % 2 ^ 32 ∧
    bits (BitVec.ofNat 64 (bd.snapshot 9)) 31 0 = bd.nDropped % 2 ^ 32 := by
  simp only [Binding.snapshot, bits, BitVec.toNat_ofNat, Nat.shiftRight_eq_div_pow]
  refine ⟨?_, ?_⟩
  · simp
    omega
  · simp

/-- RINJ stops or makes its records (17 R399). -/
theorem rinjResults (s : State) (v : View) (d a b : Opnd) (ld : Loc) (x z : Nat) (wa wb : Bool) (h : Issues s v) (hd : v.Dst kSxZ false d ld)
    (ha : v.Val kSx a x) (hb : v.Val kSx b z) (stages : List (Nat × Nat)) (id : Nat) (bd : Binding)
    (hx : x % 2 ^ 63 < 2 ^ 16 ∧ x / 16 % 16 = 0 ∧ x / 2 ^ 8 % 2 ^ 8 ≤ 64) (hs : v.stageSet (x % 16) = .ok stages)
    (hbd : v.bindFor (x % 16) stages = .ok (id, bd)) (hc : 1 ≤ x / 2 ^ 8 % 2 ^ 8 ∨ 2 ^ 63 ≤ x) :
    let cnt := x / 2 ^ 8 % 2 ^ 8
    (bd.closed = true → exec (.rinj d a b wa wb) s = v.trapped 0x01 0 v.f.mask) ∧
    (bd.closed = false → v.y.held.isSome = true → exec (.rinj d a b wa wb) s = v.trapped 0x15 0 v.f.mask) ∧
    (bd.closed = false → v.y.held = none → ¬v.Free → exec (.rinj d a b wa wb) s = v.waiting false) ∧
    (bd.closed = false → v.y.held = none → v.Free → bd.slots < cnt → exec (.rinj d a b wa wb) s = v.trapped 0x0D 0 v.f.mask) ∧
    (bd.closed = false → v.y.held = none → v.Free → cnt ≤ bd.slots → (v.s.freeSlotsOf id bd cnt).length < cnt →
      (bd.keep = true → exec (.rinj d a b wa wb) s = v.trapped 0x0D 0 v.f.mask) ∧
        (bd.keep = false → exec (.rinj d a b wa wb) s = v.waiting false)) := by
  have m := means_rinj_into (s := s) (wa := wa) (wb := wb) hd ha hb hx hs hbd hc
  exact ⟨m.rinj_closed h, m.rinj_staged h, m.rinj_busy h, m.rinj_pool h, m.rinj_full h⟩

/-- Settles O39: each record instruction by its operands, its set and the record that its warp holds. -/
theorem recordInstructionResults : Obligations.RecordInstructionResults := by
  refine ⟨fun s v d a b ld x z wa wb h hd ha => ⟨fun hb => ⟨fun hx => ?_, fun hx hs => exec_rinj_noSet h hd ha hb hx hs,
      fun stages id bd hx hs hbd => ⟨fun hc hlt => exec_rinj_nothing h hd ha hb hx hs hbd hc hlt,
        rinjResults s v d a b ld x z wa wb h hd ha hb stages id bd hx hs hbd⟩⟩,
    fun stages id bd bytes u hb hlow hzero hcnt hc hs hbd hcl hh hf hp hroom hr hu => ?_, fun stages id bd hb hs hf _ =>
      ⟨fun hz hany => exec_rtake_bound h hd ha hb hs hf hz hany, fun hz hh => exec_rtake_held h hd ha hb hs hf hz hh⟩,
    fun stages id bd hb hs hf hbind hz hh => ?_, fun hb hs => exec_rtake_noSet h hd ha hb hs,
    fun stages hb hs hf => exec_rtake_unbound h hd ha hb hs hf⟩,
    fun s v id slot bd r q hf => q.waits hf, fun s v n p x a o wa wb h ha ho => ⟨fun hn hlt => exec_reff_size h ha hn hlt, fun hn hh => ?_,
      fun id slot bd r hn q => ⟨fun hp => q.reff_high (means_reff ha ho hn) hp, fun hp hal => q.reff_misaligned (means_reff ha ho hn) hp hal⟩⟩,
    fun s v id slot bd r q hf => ⟨q.passes_on hf, q.passes_last hf, q.dropped hf⟩,
    fun s v id slot n p x bd r a o wa wb q hn ha ho hp hal => ⟨q.reff_done (means_reff ha ho hn) hp hal, fun i z hi hlt hz h16 hlen => ?_,
      q.reff_full (means_reff ha ho hn) hp hal⟩,
    fun s v h hh hgoing => exec_record_none h hh hgoing,
    fun s v d a b ld j k wa wb stages h hd ha hb => ⟨fun hs => exec_rstat_noSet h hd ha hb hs, fun hs => ⟨fun hk => exec_rstat_bound h hd ha hb hs hk,
      fun hk hf => ?_, fun id bd hk hf => ?_⟩⟩⟩
  · have m := means_rinj (s := s) (wa := wa) (wb := wb) hd ha hb
    rw [View.rinjWith_unsound hx] at m
    exact Means.traps m h (by decide)
  · exact (means_rinj_into hd ha hb ⟨hlow, hzero, hcnt⟩ hs hbd hc).rinj_done h hcl hh hf hp hd hroom hr hu
  · have m := means_rtake_from (s := s) (wa := wa) (wb := wb) hd ha hb hs hf hz hh
    exact ⟨fun slot r hdry ho hfirst => m.rtake_offered h hdry hd hbind ho hfirst, m.rtake_dry h, m.rtake_crowded h, m.rtake_waits h⟩
  · have m := means_reff (s := s) (wa := wa) (wb := wb) ha ho hn
    rw [View.reffWith_none hh] at m
    exact Means.traps m h (by decide)
  · subst hi
    exact q.reff_done (n := 4) (means_reff_pair ha ho hlt hz) hp h16 hlen
  · have hword := exec_rstat_word (wa := wa) (wb := wb) h hd ha hb hs hk
    rw [hf] at hword
    exact hword
  · have hword := exec_rstat_word (wa := wa) (wb := wb) h hd ha hb hs hk
    rw [hf] at hword
    refine ⟨_, hword, fun hlt hpast => ?_, fun h8 => ?_, fun h9 => ?_, fun h10 => ?_, fun h11 => ?_⟩
    · exact congrArg (BitVec.ofNat 64) (Binding.snapshot_past hlt hpast)
    · subst h8
      exact bd.snapshot_eight
    · subst h9
      exact bd.snapshot_nine
    · subst h10
      rfl
    · subst h11
      rfl

end Sys2Proof.Machine
end

section
/-! O49: the states of the links (18 R415 to R420). Packets that take another route change no link's state or width, and no entry of the persistent
tables. -/

namespace Sys2Proof.Machine

variable (s : State) (k : Fin 18)

/-! ## The links of a state -/

theorem linkFin_val : linkFin k.val = k := Fin.ext (Nat.mod_eq_of_lt k.isLt)

theorem State.links_modLink_self (f : Link → Link) : (s.modLink k f).links[k] = f s.links[k] := by
  simp [State.modLink]

theorem State.links_modLink_ne {j : Fin 18} (h : j ≠ k) (f : Link → Link) : (s.modLink k f).links[j] = s.links[j] :=
  Vector.getElem_set_ne k.isLt j.isLt (fun e => h (Fin.ext e.symm))

@[simp] theorem State.links_manage (bit : Nat) : (s.manage bit).links = s.links := by
  obtain ⟨_, h, -⟩ := s.manage_spec bit
  rw [h]

@[simp] theorem State.persist_manage (bit : Nat) : (s.manage bit).persist = s.persist := by
  obtain ⟨_, h, -⟩ := s.manage_spec bit
  rw [h]

/-- 20 R439: an event of the links shows in MGMTCAUSE. -/
theorem State.mgmt_manage_links : (s.manage 2).life.mgmt.getLsbD 2 = true := by
  obtain ⟨_, h, -⟩ := s.manage_spec 2
  rw [h]
  simp

/-- 18 R420: a link that changes its state. -/
theorem State.setLink_spec (f : Link → Link) :
    (s.setLink k f).links[k] = f s.links[k] ∧ (s.setLink k f).persist = s.persist ∧ (s.setLink k f).life.mgmt.getLsbD 2 = true := by
  refine ⟨?_, State.persist_manage .., State.mgmt_manage_links _⟩
  rw [State.setLink, State.links_manage, State.links_modLink_self]

/-! ## What another route leaves as it is (18 R417, R418) -/

section

@[simp] theorem State.copyAnswered_aside (id : Nat) : (s.copyAnswered id).aside = s.aside := by
  unfold State.copyAnswered
  split
  · exact State.endCopy_aside ..
  · rfl

/-- 14 R341, 18 R426: a request that is answered is listed no more. -/
theorem State.answered_aside {tag : Nat} {r : Remote} (h : tget s.remotes tag = some r) (failed : Bool) :
    (s.answered tag failed).aside = ({ s with remotes := tdel s.remotes tag } : State).aside := by
  simp only [State.answered, h]
  repeat' split
  all_goals simp

@[simp] theorem State.settleLane_aside (r : Remote) (st : LaneState) : (s.settleLane r st).aside = s.aside := by
  simp [State.settleLane]

@[simp] theorem State.flush_aside (c : Fin 64) : (s.flush c).aside = s.aside := by
  have h := State.payAll_aside s (4 * s.ctxs[c].owed.length + 16) c
  unfold State.flush
  split
  next t e => rw [e] at h; exact h
  next t k e =>
    rw [e] at h
    rw [State.paid_aside, State.faultContext_aside]
    exact h

/-- 18 R426: a request that fails is listed no more. -/
theorem State.remoteFail_aside {tag : Nat} {r : Remote} (h : tget s.remotes tag = some r) (timeout : Bool) :
    (s.remoteFail tag timeout).aside = ({ s with remotes := tdel s.remotes tag } : State).aside := by
  rw [← s.answered_aside h true]
  simp only [State.remoteFail, h]
  repeat' split
  all_goals simp

theorem State.remoteFail_none {tag : Nat} (h : tget s.remotes tag = none) (timeout : Bool) : s.remoteFail tag timeout = s := by
  simp only [State.remoteFail, h]

end

/-- What routes read of a link and of the persistent tables: its state and width, and the RETIRED links. -/
def State.standing : LinkState × Nat × List Nat := (s.links[k].st, s.links[k].width, s.persist.links)

variable {s} in
theorem State.standing_of_aside {t : State} (h : t.aside = s.aside) : t.standing k = s.standing k := by
  obtain ⟨-, hl, hp, -⟩ := State.aside_eq_iff.1 h
  rw [State.standing, State.standing, hl, hp]

theorem State.standing_remoteFail (tag : Nat) (timeout : Bool) : (s.remoteFail tag timeout).standing k = s.standing k := by
  cases h : tget s.remotes tag with
  | none => rw [State.remoteFail_none s h]
  | some r => exact State.standing_of_aside (s := { s with remotes := tdel s.remotes tag }) k (s.remoteFail_aside h timeout)

theorem State.standing_modDir (d : Nat) (f : LinkDir → LinkDir) : (s.modDir d f).standing k = s.standing k := by
  unfold State.standing State.modDir
  by_cases h : k = dirLink d
  · subst h
    rw [State.links_modLink_self]
    split <;> rfl
  · rw [State.links_modLink_ne s _ h]
    rfl

theorem State.standing_enqueue (d : Nat) (p : Packet) : (s.enqueue d p).standing k = s.standing k := s.standing_modDir k d _

theorem State.standing_depart (die d : Nat) (p : Packet) : (s.depart die d p).standing k = s.standing k := by
  refine (State.standing_enqueue ..).trans ?_
  have h : (s.stamp die p).1.standing k = s.standing k := by
    unfold State.stamp
    split <;> rfl
  exact h

theorem State.standing_lostRoute : s.lostRoute.standing k = s.standing k := by
  unfold State.standing State.lostRoute
  rw [State.links_manage, State.persist_manage]
  rfl

variable {s} in
theorem State.standing_turnBack {die : Nat} {p : Packet} {any force : Bool} {t : State} (h : s.turnBack die p any force = some t) :
    t.standing k = s.standing k := by
  simp only [State.turnBack] at h
  repeat' split at h
  all_goals cases h
  all_goals try rfl
  · exact State.standing_remoteFail ..
  · exact State.standing_depart ..

theorem State.standing_rerouteDir (dir : Nat) (l : List Packet) : (s.rerouteDir dir l).standing k = s.standing k := by
  unfold State.rerouteDir
  split
  · refine foldl_keeps (State.standing · k) (fun t p => ?_) l s
    split
    · exact State.standing_enqueue ..
    · cases h : t.lostRoute.turnBack _ p false true with
      | none => rfl
      | some u => exact (State.standing_turnBack k h).trans (State.standing_lostRoute ..)
  · rfl

/-! ## Failure (18 R417, R420) -/

/-- 18 R420: a link that fails at bring-up is FAILED, and RETIRED the second time. -/
theorem State.failAtBoot_spec :
    ((s.failAtBoot k).links[k]).width = 0 ∧ (s.links[k].failedBefore = false → ((s.failAtBoot k).links[k]).st = .failed) ∧
      (s.links[k].failedBefore = true → ((s.failAtBoot k).links[k]).st = .retired ∧ k.val ∈ (s.failAtBoot k).persist.links) := by
  unfold State.failAtBoot
  cases hb : s.links[k].failedBefore
  · obtain ⟨hl, -⟩ := s.setLink_spec k (fun x => { x with st := .failed, width := 0 })
    simp [hl]
  · obtain ⟨hl, -⟩ := s.setLink_spec k (fun x => { x with st := .retired, width := 0 })
    simp [hl]

/-- 18 R417: outside bring-up a link that fails is FAILED, without a width. -/
theorem State.failLink_spec (h : s.life.stat ≠ .bringup) : ((s.failLink k).links[k]).st = .failed ∧ ((s.failLink k).links[k]).width = 0 := by
  have hs : (s.failLink k).standing k = (.failed, 0, s.persist.links) := by
    unfold State.failLink
    rw [if_neg h, State.standing_rerouteDir, State.standing_rerouteDir]
    unfold State.standing
    obtain ⟨hl, hp, -⟩ := s.setLink_spec k _
    rw [hl, hp]
  simp only [State.standing, Prod.mk.injEq] at hs
  exact ⟨hs.1, hs.2.1⟩

variable {s} {k}

theorem failsLink_of_next {i : Instr} (h : exec i s = .next (s.failLink k)) : FailsLink s k i := by
  refine ⟨_, h, ?_⟩
  by_cases hb : s.life.stat = .bringup
  · rw [State.failLink, if_pos hb]
    obtain ⟨hw, hf, hr⟩ := s.failAtBoot_spec k
    exact ⟨hw, fun h => hf (h.resolve_left (fun n => n hb)), fun _ => hr⟩
  · obtain ⟨hst, hw⟩ := s.failLink_spec k hb
    exact ⟨hw, fun _ => hst, fun h => absurd h hb⟩

/-! ## Retraining and quiescing (18 R415, R416, R420) -/

theorem State.retrain_active (h : s.links[k].st = .up ∨ s.links[k].st = .degraded) :
    s.retrain k = s.setLink k (fun x => { x with st := .training }) := if_pos h

theorem State.retrain_quiescing (h : s.links[k].st = .quiescing) : s.retrain k = s.modLink k (fun x => { x with quiesce := true }) := by
  simp only [State.retrain, h]
  rfl

/-- 18 R415: a link that is neither UP nor DEGRADED nor QUIESCING does not retrain. -/
theorem State.retrain_inactive (h : s.links[k].st ≠ .up) (hd : s.links[k].st ≠ .degraded) (hq : s.links[k].st ≠ .quiescing) : s.retrain k = s := by
  simp only [State.retrain, h, hd, hq, or_self, if_false]

/-- 18 R415: the link without the lane's group. -/
def Link.without (l : Link) (lane : Fin 16) : Link := { l with outlanes := l.outlanes ||| laneGroup lane }

theorem exec_laneLoss (h : s.links[k].st = .up ∨ s.links[k].st = .degraded ∨ s.links[k].st = .quiescing ∨ s.links[k].st = .training)
    (lane : Fin 16) :
    exec (.laneLoss k.val lane) s = .next ((s.modLink k (·.without lane)).retrain k) := by
  show execLaneLoss _ _ _ = _
  simp only [execLaneLoss, linkFin_val]
  exact next_of_eq (if_pos h)

theorem exec_replayStorm (h : s.links[k].storm s.now = true) : exec (.replayStorm k.val) s = .next (s.retrain k) := by
  show execReplayStorm _ _ = _
  simp only [execReplayStorm, linkFin_val]
  exact next_of_eq (if_pos h)

theorem exec_linkQuiesce (h : s.links[k].st = .up ∨ s.links[k].st = .degraded) :
    exec (.linkQuiesce k.val) s = .next (s.setLink k (fun x => { x with st := .quiescing })) := by
  show execLinkQuiesce _ _ = _
  simp only [execLinkQuiesce, linkFin_val]
  exact next_of_eq (if_pos h)

/-- 18 R415, R420: what a link that carries flits at its full or a lesser width meets. -/
theorem exec_activeLink (h : s.links[k].st = .up ∨ s.links[k].st = .degraded) (lane : Fin 16) :
    (∃ t, exec (.laneLoss k.val lane) s = .next t ∧ t.links[k] = { s.links[k].without lane with st := .training } ∧ t.life.mgmt.getLsbD 2 = true) ∧
      (s.links[k].storm s.now = true →
        ∃ t, exec (.replayStorm k.val) s = .next t ∧ t.links[k] = { s.links[k] with st := .training } ∧ t.life.mgmt.getLsbD 2 = true) ∧
      ∃ t, exec (.linkQuiesce k.val) s = .next t ∧ t.links[k] = { s.links[k] with st := .quiescing } ∧ t.life.mgmt.getLsbD 2 = true := by
  refine ⟨?_, fun hs => ?_, ?_⟩
  · have hk : (s.modLink k (·.without lane)).links[k] = s.links[k].without lane := s.links_modLink_self k _
    obtain ⟨hl, -, hm⟩ := (s.modLink k (·.without lane)).setLink_spec k (fun x => { x with st := .training })
    refine ⟨_, exec_laneLoss (h.imp_right Or.inl) lane, ?_⟩
    rw [State.retrain_active (by rw [hk]; exact h)]
    exact ⟨hl.trans (by rw [hk]), hm⟩
  · obtain ⟨hl, -, hm⟩ := s.setLink_spec k (fun x => { x with st := .training })
    refine ⟨_, exec_replayStorm hs, ?_⟩
    rw [State.retrain_active h]
    exact ⟨hl, hm⟩
  · obtain ⟨hl, -, hm⟩ := s.setLink_spec k (fun x => { x with st := .quiescing })
    exact ⟨_, exec_linkQuiesce h, hl, hm⟩

/-- 18 R415, R420: a QUIESCING link keeps its state as it retrains. -/
theorem exec_quiescingLink (h : s.links[k].st = .quiescing) (lane : Fin 16) :
    (∃ t, exec (.laneLoss k.val lane) s = .next t ∧ t.links[k] = { s.links[k].without lane with quiesce := true }) ∧
      (s.links[k].storm s.now = true → ∃ t, exec (.replayStorm k.val) s = .next t ∧ t.links[k] = { s.links[k] with quiesce := true }) := by
  refine ⟨⟨_, exec_laneLoss (.inr (.inr (.inl h))) lane, ?_⟩, fun hs => ⟨_, exec_replayStorm hs, ?_⟩⟩
  · have hk : (s.modLink k (·.without lane)).links[k] = s.links[k].without lane := s.links_modLink_self k _
    rw [State.retrain_quiescing (by rw [hk]; exact h), State.links_modLink_self, hk]
  · rw [State.retrain_quiescing h, State.links_modLink_self]

theorem exec_laneLoss_training (h : s.links[k].st = .training) (lane : Fin 16) :
    ∃ t, exec (.laneLoss k.val lane) s = .next t ∧ t.links[k] = s.links[k].without lane := by
  have hk : (s.modLink k (·.without lane)).links[k] = s.links[k].without lane := s.links_modLink_self k _
  have hst : (s.modLink k (·.without lane)).links[k].st = .training := by rw [hk]; exact h
  refine ⟨_, exec_laneLoss (.inr (.inr (.inr h))) lane, ?_⟩
  rw [State.retrain_inactive (by rw [hst]; decide) (by rw [hst]; decide) (by rw [hst]; decide), hk]

/-- 18 R421: a link that is DOWN, FAILED or RETIRED is in none of the other states. -/
theorem LinkState.ne_of_dead {x : LinkState} (h : x = .down ∨ x = .failed ∨ x = .retired) :
    x ≠ .up ∧ x ≠ .degraded ∧ x ≠ .quiescing ∧ x ≠ .training := by
  rcases h with rfl | rfl | rfl <;> decide

/-- 18 R421: nothing of this befalls a link that is DOWN, FAILED or RETIRED. -/
theorem exec_deadLink (h : s.links[k].st = .down ∨ s.links[k].st = .failed ∨ s.links[k].st = .retired) (lane : Fin 16) :
    exec (.laneLoss k.val lane) s = .next s ∧ exec (.replayStorm k.val) s = .next s ∧
      exec (.retrainComplete k.val) s = .next s ∧ exec (.retrainTimeout k.val) s = .next s := by
  obtain ⟨hu, hd, hq, ht⟩ := LinkState.ne_of_dead h
  have hr : s.links[k].retraining = false := by
    rw [Link.retraining, decide_eq_false hq, decide_eq_false ht]
    rfl
  refine ⟨?_, ?_, ?_, ?_⟩
  · show execLaneLoss _ _ _ = _
    simp only [execLaneLoss, linkFin_val, hu, hd, hq, ht, or_self, if_false]
  · show execReplayStorm _ _ = _
    simp only [execReplayStorm, linkFin_val, State.retrain_inactive hu hd hq, ite_self]
  · show execRetrainComplete _ _ = _
    simp only [execRetrainComplete, linkFin_val, hr]
    rfl
  · show execRetrainTimeout _ _ = _
    simp only [execRetrainTimeout, linkFin_val, hr]
    rfl

/-- 18 R416: a second retrain that ends at four lanes within 100 µs of the first. -/
def State.fourAgain (s : State) (k : Fin 18) : Prop := s.goodWidth k = 4 ∧ ∃ t, s.links[k].last4 = some t ∧ s.now - t < 100000

theorem exec_retrainComplete (h : s.links[k].retraining = true) :
    (s.goodWidth k = 0 ∨ s.fourAgain k → exec (.retrainComplete k.val) s = .next (s.failLink k)) ∧
      (s.goodWidth k ≠ 0 → ¬s.fourAgain k → exec (.retrainComplete k.val) s = .next (s.setLink k (fun x =>
        { x with st := if x.st = .quiescing then .quiescing else if s.goodWidth k = 16 then .up else .degraded, width := s.goodWidth k, quiesce := false,
                 retrains := if s.life.stat = .bringup then x.retrains else min 65535 (x.retrains + 1), replayAt := [],
                 last4 := if s.goodWidth k = 4 then some s.now else x.last4, out := x.out.resent, inn := x.inn.resent }))) := by
  have ha : (decide (s.goodWidth k = 4) && (match s.links[k].last4 with
        | some t => decide (s.now - t < 100000)
        | none => false)) = true ↔ s.fourAgain k := by
    unfold State.fourAgain
    cases s.links[k].last4 <;> simp
  have he : exec (.retrainComplete k.val) s = execRetrainComplete k.val s := rfl
  simp only [execRetrainComplete, linkFin_val, h] at he
  refine ⟨fun hf => he.trans (next_of_eq (if_pos (hf.imp_right ha.2))), fun h0 hn => he.trans (next_of_eq ?_)⟩
  exact (if_neg Bool.false_ne_true).trans (if_neg (not_or.2 ⟨h0, fun hx => hn (ha.1 hx)⟩))

theorem exec_retrainTimeout (h : s.links[k].retraining = true) : exec (.retrainTimeout k.val) s = .next (s.failLink k) := by
  show execRetrainTimeout _ _ = _
  simp only [execRetrainTimeout, linkFin_val]
  exact next_of_eq (if_pos h)

/-- 18 R415, R416: a retrain that ends well. -/
theorem exec_retrainComplete_trained (h : s.links[k].retraining = true) (h0 : s.goodWidth k ≠ 0) (hn : ¬s.fourAgain k) :
    ∃ t, exec (.retrainComplete k.val) s = .next t ∧ (t.links[k]).width = s.goodWidth k ∧ (t.links[k]).quiesce = false ∧
      (t.links[k]).st = (if s.links[k].st = .quiescing then .quiescing else if s.goodWidth k = 16 then .up else .degraded) ∧
      (t.links[k]).out.wire = s.links[k].out.retry ∧ (t.links[k]).inn.wire = s.links[k].inn.retry ∧
      (t.links[k]).out.partials = s.links[k].out.partials ∧ (s.goodWidth k = 4 → (t.links[k]).last4 = some s.now) := by
  refine ⟨_, (exec_retrainComplete h).2 h0 hn, ?_⟩
  obtain ⟨hl, -⟩ := s.setLink_spec k _
  rw [hl]
  exact ⟨rfl, rfl, rfl, rfl, rfl, rfl, fun h4 => if_pos h4⟩

/-- 18 R420: a link that is empty is RETIRED, and so it stands in the persistent tables and in the event log. -/
def State.quiesced (s : State) (k : Fin 18) : State :=
  let t := s.setLink k (fun x => { x with st := .retired, width := 0, out := .idle, inn := .idle })
  (({ t with persist := { t.persist with links := t.persist.links ++ [k.val] } } : State).eventLog 5 k.val 4).manage 0

theorem State.standing_quiesced (s : State) (k : Fin 18) : (s.quiesced k).standing k = (.retired, 0, s.persist.links ++ [k.val]) := by
  obtain ⟨hl, hp, -⟩ := s.setLink_spec k (fun x => { x with st := .retired, width := 0, out := .idle, inn := .idle })
  rw [State.quiesced, State.standing, State.links_manage, State.persist_manage]
  refine Prod.ext (congrArg Link.st hl) (Prod.ext (congrArg Link.width hl) ?_)
  exact congrArg (fun p : Persist => p.links ++ [k.val]) hp

theorem exec_quiesceComplete (h : s.links[k].st = .quiescing) (hq : s.links[k].quiesce = false) (ho : s.links[k].out.empty = true)
    (hi : s.links[k].inn.empty = true) :
    exec (.quiesceComplete k.val) s =
      .next (((s.quiesced k).rerouteDir (2 * k.val) s.links[k].out.held).rerouteDir (2 * k.val + 1) s.links[k].inn.held) := by
  have he : exec (.quiesceComplete k.val) s = execQuiesceComplete k.val s := rfl
  simp only [execQuiesceComplete, linkFin_val, h, hq, ho, hi] at he
  exact he

/-- 18 R420: a link that the controller quiesces is RETIRED once it is empty. -/
theorem exec_quiesceComplete_retired (h : s.links[k].st = .quiescing) (hq : s.links[k].quiesce = false) (ho : s.links[k].out.empty = true)
    (hi : s.links[k].inn.empty = true) :
    ∃ t, exec (.quiesceComplete k.val) s = .next t ∧ (t.links[k]).st = .retired ∧ (t.links[k]).width = 0 ∧ k.val ∈ t.persist.links := by
  refine ⟨_, exec_quiesceComplete h hq ho hi, ?_⟩
  have hs := ((State.standing_rerouteDir _ k (2 * k.val + 1) s.links[k].inn.held).trans
    (State.standing_rerouteDir _ k (2 * k.val) s.links[k].out.held)).trans (s.standing_quiesced k)
  simp only [State.standing, Prod.mk.injEq] at hs
  obtain ⟨hst, hw, hp⟩ := hs
  exact ⟨hst, hw, by rw [hp]; simp⟩

/-- Settles O49: the states of the links, each by the lemma for the state that the event meets. -/
theorem linkStateEvents : Obligations.LinkStateEvents := by
  intro s k
  refine ⟨fun h lane => exec_activeLink h lane, fun h lane => exec_quiescingLink h lane, fun h lane => exec_laneLoss_training h lane,
    fun h lane => exec_deadLink h lane, fun hs => ?_, fun hu hd => ?_, fun h => ?_, fun h hq ho hi => exec_quiesceComplete_retired h hq ho hi⟩
  · show execReplayStorm _ _ = _
    simp only [execReplayStorm, linkFin_val, hs]
    rfl
  · show execLinkQuiesce _ _ = _
    simp only [execLinkQuiesce, linkFin_val]
    exact next_of_eq (if_neg (not_or.2 ⟨hu, hd⟩))
  · have hr : s.links[k].retraining = true := by
      rw [Link.retraining, Bool.or_eq_true, Bool.and_eq_true, decide_eq_true_iff, decide_eq_true_iff]
      exact h
    exact ⟨fun h0 hn => exec_retrainComplete_trained hr h0 hn, fun hf => failsLink_of_next ((exec_retrainComplete hr).1 hf),
      failsLink_of_next (exec_retrainTimeout hr)⟩

end Sys2Proof.Machine
end

section
/-! O48: flits and packets on the links (18 R406 to R418, R423). A direction is changed by itself; what is counted of a lane, and a retrain, change no
direction. -/

namespace Sys2Proof.Machine

/-! ## Directions -/

section

theorem dirLink_backDir (d : Nat) : dirLink (backDir d) = dirLink d := by
  have h : backDir d / 2 = d / 2 := by
    unfold backDir
    split <;> omega
  rw [dirLink, h, dirLink]

theorem backDir_parity (d : Nat) : backDir d % 2 ≠ d % 2 := by
  unfold backDir
  split <;> omega

variable (s : State)

theorem State.dir_modDir_self (d : Nat) (f : LinkDir → LinkDir) : (s.modDir d f).dir d = f (s.dir d) := by
  unfold State.dir State.modDir
  rw [State.links_modLink_self]
  split <;> rfl

/-- A change of a direction leaves the other one of its link. -/
theorem State.dir_modDir_ne {d e : Nat} (h : e % 2 ≠ d % 2) (f : LinkDir → LinkDir) : (s.modDir d f).dir e = s.dir e := by
  unfold State.dir State.modDir
  by_cases hl : dirLink e = dirLink d
  · simp only [hl, State.links_modLink_self]
    rcases Nat.mod_two_eq_zero_or_one d with hd | hd
    · have he : e % 2 = 1 := by omega
      simp only [hd, he]
      rfl
    · have he : e % 2 = 0 := by omega
      simp only [hd, he]
      rfl
  · rw [State.links_modLink_ne s _ hl]

theorem State.dir_modDir_back (d : Nat) (f : LinkDir → LinkDir) : (s.modDir (backDir d) f).dir d = s.dir d :=
  s.dir_modDir_ne (backDir_parity d).symm f

theorem State.back_modDir (d : Nat) (f : LinkDir → LinkDir) : (s.modDir d f).dir (backDir d) = s.dir (backDir d) :=
  s.dir_modDir_ne (backDir_parity d) f

/-- A change of what is not of its directions leaves them. -/
theorem State.dir_modLink {f : Link → Link} (h : ∀ l, (f l).out = l.out ∧ (f l).inn = l.inn) (k : Fin 18) (d : Nat) :
    (s.modLink k f).dir d = s.dir d := by
  unfold State.dir
  by_cases hl : dirLink d = k
  · subst hl
    rw [State.links_modLink_self, (h _).1, (h _).2]
  · rw [State.links_modLink_ne s _ hl]

variable {s} in
theorem State.dir_congr {t : State} (h : t.links = s.links) (d : Nat) : t.dir d = s.dir d := by rw [State.dir, h, State.dir]

theorem State.dir_retrain (k : Fin 18) (d : Nat) : (s.retrain k).dir d = s.dir d := by
  simp only [State.retrain]
  split
  · exact (State.dir_congr (State.links_manage ..) d).trans (s.dir_modLink (f := fun x => { x with st := .training }) (fun _ => ⟨rfl, rfl⟩) k d)
  · split
    · exact s.dir_modLink (f := fun x => { x with quiesce := true }) (fun _ => ⟨rfl, rfl⟩) k d
    · rfl

end

section
variable (s : State)

theorem State.replays_modDir (dir : Nat) (f : LinkDir → LinkDir) :
    ((s.modDir dir f).links[dirLink dir]).replays = (s.links[dirLink dir]).replays := by
  unfold State.modDir
  rw [State.links_modLink_self]
  split <;> rfl

theorem State.replays_retrain (k : Fin 18) : ((s.retrain k).links[k]).replays = (s.links[k]).replays := by
  simp only [State.retrain]
  split
  · rw [(s.setLink_spec k _).1]
  · split
    · rw [State.links_modLink_self]
    · rfl

end

/-! ## Events of lanes (18 R419, 19 R436) -/

section
variable (s : State)

/-- 18 R415: a lane that enters the persistent tables changes neither memory, nor a direction, nor a count. -/
theorem State.enterUnit_lane (i : Fin 18) (l : Fin 16) (reason : Nat) :
    let t := s.enterUnit (.lane i l) reason
    t.mem = s.mem ∧ t.life.health = s.life.health ∧ ∀ d, t.dir d = s.dir d := by
  let u : State := ({ s with persist := s.persist.enter (.lane i l) } : State).eventLog 4 (16 * i.val + l.val) reason
  have hu : s.enterUnit (.lane i l) reason = ((u.manage 0).modLink i (·.without l)).retrain i := rfl
  obtain ⟨q, hm, -⟩ := u.manage_spec 0
  have hk (t : State) : (t.retrain i).mem = t.mem ∧ (t.retrain i).life.health = t.life.health := by
    simp only [State.retrain]
    split
    · obtain ⟨q, hm, -⟩ := (t.modLink i (fun x => { x with st := .training })).manage_spec 2
      rw [State.setLink, hm]
      exact ⟨rfl, rfl⟩
    · split <;> exact ⟨rfl, rfl⟩
  refine ⟨?_, ?_, fun d => ?_⟩
  · rw [hu, (hk _).1, hm]
    rfl
  · rw [hu, (hk _).2, hm]
    rfl
  · rw [hu, State.dir_retrain, State.dir_modLink _ (f := (·.without l)) (fun _ => ⟨rfl, rfl⟩)]
    exact State.dir_congr (State.links_manage ..) d

/-- 18 R419: an event of a lane is counted, and changes neither memory nor a direction. -/
theorem State.corrected_lane (i : Fin 18) (l : Fin 16) :
    let t := s.corrected (.lane i l)
    t.mem = s.mem ∧ (∀ d, t.dir d = s.dir d) ∧
      tgetD t.life.health (unitKey (.lane i l)) 0 = tgetD s.life.health (unitKey (.lane i l)) 0 + 1 := by
  let n := tgetD s.life.health (unitKey (.lane i l)) 0 + 1
  let u : State := { s with life := { s.life with health := tput s.life.health (unitKey (.lane i l)) n } }
  have hn : tgetD u.life.health (unitKey (.lane i l)) 0 = n := (tgetD_tput ..).trans (if_pos rfl)
  by_cases h : n = threshold (.lane i l)
  · have hc : s.corrected (.lane i l) = u.enterUnit (.lane i l) 1 := if_pos h
    obtain ⟨hm, hh, hd⟩ := u.enterUnit_lane i l 1
    rw [hc]
    exact ⟨hm, hd, by rw [hh]; exact hn⟩
  · rw [State.corrected_below h]
    exact ⟨rfl, fun _ => rfl, hn⟩

end

/-! ## Flits (18 R406) -/

section
variable {cls : Nat} (h : cls < 4) (first last : Bool) (fseq ack : Nat) (data : List Byte)
include h

theorem toNat_ctl_mkFlit : (mkFlit cls first last fseq ack data).ctl.toNat =
    cls * 2 ^ 30 + b2n first * 2 ^ 29 + b2n last * 2 ^ 28 + fseq % 16384 * 2 ^ 14 + ack % 16384 := by
  have hb (b : Bool) : b2n b ≤ 1 := by cases b <;> decide
  have h1 := hb first
  have h2 := hb last
  refine (BitVec.toNat_ofNat ..).trans (Nat.mod_eq_of_lt ?_)
  omega

/-- 18 R406: the check of a flit that is sent is right. -/
theorem good_mkFlit : (mkFlit cls first last fseq ack data).good = true := by
  rw [Flit.good, toNat_ctl_mkFlit h, beq_iff_eq]
  rfl

theorem cls_mkFlit : (mkFlit cls first last fseq ack data).cls = cls := by
  have hb (b : Bool) : b2n b ≤ 1 := by cases b <;> decide
  have h1 := hb first
  have h2 := hb last
  rw [Flit.cls, bits, toNat_ctl_mkFlit h, Nat.shiftRight_eq_div_pow]
  omega

end

theorem LinkClass.code_lt (k : LinkClass) : k.code < 4 := by cases k <;> decide

/-! ## What a slot does to its direction (18 R409 to R412) -/

section
variable (d : LinkDir) (k : LinkClass)

@[simp] theorem LinkDir.wire_setProgress (l : List Flit) : (d.setProgress k l).wire = d.wire := by cases k <;> rfl
@[simp] theorem LinkDir.retry_setProgress (l : List Flit) : (d.setProgress k l).retry = d.retry := by cases k <;> rfl
@[simp] theorem LinkDir.fseq_setProgress (l : List Flit) : (d.setProgress k l).fseq = d.fseq := by cases k <;> rfl
@[simp] theorem LinkDir.inProgress_setProgress (l : List Flit) : (d.setProgress k l).inProgress k = l := by cases k <;> rfl

/-- 18 R410: a packet that is begun changes neither the wire nor the retry buffer nor the next number. -/
theorem LinkDir.begin_spec : (d.begin_ k).wire = d.wire ∧ (d.begin_ k).retry = d.retry ∧ (d.begin_ k).fseq = d.fseq := by
  unfold LinkDir.begin_
  repeat' split
  all_goals simp

/-- 18 R406: the flit that a slot sends. -/
theorem LinkDir.send_spec {f : Flit} {r : List Flit} (h : (d.begin_ k).inProgress k = f :: r) (ack : Nat) :
    let g := mkFlit k.code f.first f.last d.fseq.toNat ack f.data
    (d.send k ack).wire = d.wire ++ [g] ∧ (d.send k ack).retry = d.retry ++ [g] ∧ (d.send k ack).fseq = d.fseq + 1 ∧
      (d.send k ack).inProgress k = r := by
  obtain ⟨hw, hr, hf⟩ := d.begin_spec k
  simp only [LinkDir.send, h, LinkDir.wire_setProgress, LinkDir.retry_setProgress, LinkDir.fseq_setProgress, hw, hr, hf, true_and]
  exact ((d.begin_ k).inProgress_setProgress k r).symm ▸ by cases k <;> rfl

/-- 18 R406: a slot without a flit to send sends an idle one, or none. -/
theorem LinkDir.idleFlit_spec (other : LinkDir) : (d.idleFlit other).retry = d.retry ∧ (d.idleFlit other).fseq = d.fseq ∧
    ((d.idleFlit other).wire = d.wire ∨ ∃ g, (d.idleFlit other).wire = d.wire ++ [g] ∧ g.cls = 3 ∧ g.good = true) := by
  simp only [LinkDir.idleFlit]
  split
  · exact ⟨rfl, rfl, .inr ⟨_, rfl, cls_mkFlit (by decide) .., good_mkFlit (by decide) ..⟩⟩
  · exact ⟨rfl, rfl, .inl rfl⟩

end

/-! ## The slots and the receivers of a link that carries flits (18 R412, R414) -/

/-- 18 R406: the last flit that the receiver of the other direction has had intact. -/
theorem LinkDir.ackSeq_eq (d : LinkDir) : d.ackSeq = if d.got then d.expect - 1 else 0 := rfl

/-- 18 R414: the flits that a sender keeps when an ACKSEQ has come. -/
def LinkDir.keeps (d : LinkDir) (ack : BitVec 14) : List Flit := if d.got then d.retry.filter (fun g => !ackCovers ack g.fseq) else d.retry

theorem LinkDir.retry_acked (d : LinkDir) (ack : BitVec 14) : (d.acked ack).retry = d.keeps ack := by
  unfold LinkDir.acked LinkDir.keeps
  cases d.got <;> rfl

/-- 18 R407, R411: the packet that a flit joins is no part of the wire or of the numbers. -/
theorem LinkDir.join_spec (d : LinkDir) (f : Flit) :
    (d.join f).wire = d.wire ∧ (d.join f).expect = d.expect ∧ (d.join f).wantReplay = d.wantReplay := by
  simp only [LinkDir.join]
  repeat' split
  all_goals exact ⟨rfl, rfl, rfl⟩

section
variable {s : State} {dir : Nat}

/-- 18 R415, 13 R312: nothing moves on a link that carries no flits, or in the pause of a step switch. -/
theorem exec_stalledLink (h : (s.links[dirLink dir]).carries = false ∨ s.stalled dir = true) :
    exec (.flitSlot dir) s = .next s ∧ (∀ noise, exec (.flitReceive dir noise) s = .next s) ∧ exec (.replayRequest dir) s = .next s := by
  have hc : (!s.links[dirLink dir].carries) = true ∨ s.stalled dir = true := h.imp_left (fun e => by rw [e]; rfl)
  refine ⟨next_of_eq (if_pos hc), fun noise => ?_, next_of_eq (if_neg ?_)⟩
  · show execFlitReceive dir noise s = _
    simp only [execFlitReceive]
    split
    · rfl
    · exact next_of_eq (if_pos hc)
  · rintro ⟨-, hcar, hst, -⟩
    rcases h with h | h
    · exact absurd (hcar.symm.trans h) (by decide)
    · rw [h] at hst
      exact absurd hst (by decide)

section
variable (hc : (s.links[dirLink dir]).carries = true) (hs : s.stalled dir = false)
include hc hs

theorem not_stalledLink : ¬((!s.links[dirLink dir].carries) = true ∨ s.stalled dir = true) := by
  rw [hs]
  rintro (h | h)
  · exact absurd ((congrArg Bool.not hc).symm.trans h) (by decide)
  · exact absurd h (by decide)

theorem exec_flitSlot : exec (.flitSlot dir) s = .next (s.modDir dir (fun _ =>
    (match (s.dir dir).pick (bufferSize dir) with
      | some k => (s.dir dir).send k (s.dir (backDir dir)).ackSeq.toNat
      | none => (s.dir dir).idleFlit (s.dir (backDir dir))).tally (s.dir dir) (bufferSize dir) ((s.dir dir).pick (bufferSize dir)))) :=
  next_of_eq (if_neg (not_stalledLink hc hs))

/-- 18 R412: a slot in which no class sends. -/
theorem exec_flitSlot_idle (hp : (s.dir dir).pick (bufferSize dir) = none) :
    ∃ t, exec (.flitSlot dir) s = .next t ∧ t.mem = s.mem ∧ (t.dir dir).retry = (s.dir dir).retry ∧ (t.dir dir).fseq = (s.dir dir).fseq ∧
      ((t.dir dir).wire = (s.dir dir).wire ∨ ∃ g, (t.dir dir).wire = (s.dir dir).wire ++ [g] ∧ g.cls = 3 ∧ g.good = true) := by
  refine ⟨_, exec_flitSlot hc hs, rfl, ?_⟩
  rw [State.dir_modDir_self, hp]
  exact (s.dir dir).idleFlit_spec (s.dir (backDir dir))

/-- 18 R406, R412: a slot in which a class sends. -/
theorem exec_flitSlot_send {k : LinkClass} {f : Flit} {r : List Flit} (hp : (s.dir dir).pick (bufferSize dir) = some k)
    (hk : ((s.dir dir).begin_ k).inProgress k = f :: r) :
    let g := mkFlit k.code f.first f.last (s.dir dir).fseq.toNat (s.dir (backDir dir)).ackSeq.toNat f.data
    ∃ t, exec (.flitSlot dir) s = .next t ∧ t.mem = s.mem ∧ (t.dir dir).wire = (s.dir dir).wire ++ [g] ∧
      (t.dir dir).retry = (s.dir dir).retry ++ [g] ∧ (t.dir dir).fseq = (s.dir dir).fseq + 1 ∧ (t.dir dir).inProgress k = r ∧ g.good = true := by
  obtain ⟨hw, hr, hf, hi⟩ := (s.dir dir).send_spec k hk (s.dir (backDir dir)).ackSeq.toNat
  refine ⟨_, exec_flitSlot hc hs, rfl, ?_⟩
  rw [State.dir_modDir_self, hp]
  have hi' (d : LinkDir) (c : Option LinkClass) (d0 : LinkDir) (n : Nat) : (d.tally d0 n c).inProgress k = d.inProgress k := by cases k <;> rfl
  exact ⟨hw, hr, hf, (hi' ..).trans hi, good_mkFlit k.code_lt ..⟩

section
variable (noise : BitVec 512) {f0 : Flit} {r : List Flit} (hw : (s.dir dir).wire = f0 :: r)
include hw

/-- 18 R414: what the receiver of a direction does with the flit that it takes from the wire. -/
theorem exec_flitReceive :
    let f := if noise = 0 then f0 else f0.hit noise
    exec (.flitReceive dir noise) s = .next (
      if !f.good then (s.modDir dir (fun x => { x with wire := r, wantReplay := true })).laneEvent dir
      else if f.cls = 3 then
        (if (s.dir dir).wantReplay then s.modDir dir (fun x => { x with wire := r })
        else (s.modDir dir (fun x => { x with wire := r })).modDir (backDir dir) (·.acked f.ack))
      else if f.fseq = (s.dir dir).expect then
        let t := (s.modDir dir (fun x => ({ x with wire := r, expect := x.expect + 1, got := true, wantReplay := false } : LinkDir).join f)).modDir
          (backDir dir) (·.acked f.ack)
        if (s.dir dir).drops f then t.laneEvent dir else t
      else s.modDir dir (fun x => { x with wire := r })) := by
  intro f
  have he : exec (.flitReceive dir noise) s = execFlitReceive dir noise s := rfl
  simp only [execFlitReceive, hw] at he
  exact he.trans (next_of_eq (if_neg (not_stalledLink hc hs)))

/-- 18 R414: the flit that the receiver expects is taken, and acknowledges what it covers. -/
theorem exec_flitReceive_expected (f : Flit) (hf : (if noise = 0 then f0 else f0.hit noise) = f) (hg : f.good = true) (hi : f.cls ≠ 3)
    (he : f.fseq = (s.dir dir).expect) :
    ∃ t, exec (.flitReceive dir noise) s = .next t ∧ t.mem = s.mem ∧ (t.dir dir).wire = r ∧ (t.dir dir).expect = (s.dir dir).expect + 1 ∧
      (t.dir dir).wantReplay = false ∧ (t.dir (backDir dir)).retry = (s.dir (backDir dir)).keeps f.ack := by
  let t := (s.modDir dir (fun x => ({ x with wire := r, expect := x.expect + 1, got := true, wantReplay := false } : LinkDir).join f)).modDir
    (backDir dir) (·.acked f.ack)
  have hx : exec (.flitReceive dir noise) s = .next (if (s.dir dir).drops f then t.laneEvent dir else t) := by
    rw [exec_flitReceive hc hs noise hw, hf, hg, Bool.not_true, if_neg Bool.false_ne_true, if_neg hi, if_pos he]
  obtain ⟨hmem, hdir, -⟩ := t.corrected_lane (dirLink dir) (Fin.ofNat 16 (Config.freeByte t.tick dir).toNat)
  have hkeep (e : Nat) : (if (s.dir dir).drops f then t.laneEvent dir else t).dir e = t.dir e := by
    split
    · exact hdir e
    · rfl
  have hd : t.dir dir = ({ s.dir dir with wire := r, expect := (s.dir dir).expect + 1, got := true, wantReplay := false } : LinkDir).join f := by
    rw [State.dir_modDir_back, State.dir_modDir_self]
  have hb : t.dir (backDir dir) = (s.dir (backDir dir)).acked f.ack := by rw [State.dir_modDir_self, State.back_modDir]
  obtain ⟨hjw, hje, hjr⟩ := ({ s.dir dir with wire := r, expect := (s.dir dir).expect + 1, got := true, wantReplay := false } : LinkDir).join_spec f
  refine ⟨_, hx, ?_, ?_⟩
  · split
    · exact hmem
    · rfl
  · rw [hkeep, hkeep, hd, hb, LinkDir.retry_acked, hjw, hje, hjr]
    exact ⟨rfl, rfl, rfl, rfl⟩

/-- 18 R414: an idle flit acknowledges what it covers. -/
theorem exec_flitReceive_idle (f : Flit) (hf : (if noise = 0 then f0 else f0.hit noise) = f) (hg : f.good = true) (hi : f.cls = 3)
    (hr : (s.dir dir).wantReplay = false) :
    ∃ t, exec (.flitReceive dir noise) s = .next t ∧ t.dir dir = { s.dir dir with wire := r } ∧
      (t.dir (backDir dir)).retry = (s.dir (backDir dir)).keeps f.ack := by
  have hx : exec (.flitReceive dir noise) s = .next ((s.modDir dir (fun x => { x with wire := r })).modDir (backDir dir) (·.acked f.ack)) := by
    rw [exec_flitReceive hc hs noise hw, hf, hg, Bool.not_true, if_neg Bool.false_ne_true, if_pos hi, hr, if_neg Bool.false_ne_true]
  refine ⟨_, hx, ?_, ?_⟩
  · rw [State.dir_modDir_back, State.dir_modDir_self]
  · rw [State.dir_modDir_self, State.back_modDir, LinkDir.retry_acked]

/-- 18 R414: a flit out of order, and an idle one before the replay, leave the wire. -/
theorem exec_flitReceive_discards (f : Flit) (hf : (if noise = 0 then f0 else f0.hit noise) = f) (hg : f.good = true)
    (h : (f.cls ≠ 3 ∧ f.fseq ≠ (s.dir dir).expect) ∨ (f.cls = 3 ∧ (s.dir dir).wantReplay = true)) :
    exec (.flitReceive dir noise) s = .next (s.modDir dir (fun x => { x with wire := r })) := by
  rw [exec_flitReceive hc hs noise hw, hf, hg, Bool.not_true, if_neg Bool.false_ne_true]
  rcases h with ⟨hi, he⟩ | ⟨hi, hr⟩
  · rw [if_neg hi, if_neg he]
  · rw [if_pos hi, if_pos hr]

/-- 18 R414, R419: a flit whose check fails is an event of a lane, and is asked for again. -/
theorem exec_flitReceive_bad (f : Flit) (hf : (if noise = 0 then f0 else f0.hit noise) = f) (hg : f.good = false) :
    ∃ (t : State) (lane : Fin 16), exec (.flitReceive dir noise) s = .next t ∧ t.mem = s.mem ∧
      t.dir dir = { s.dir dir with wire := r, wantReplay := true } ∧
      tgetD t.life.health (unitKey (.lane (dirLink dir) lane)) 0 = tgetD s.life.health (unitKey (.lane (dirLink dir) lane)) 0 + 1 := by
  let t := s.modDir dir (fun x => { x with wire := r, wantReplay := true })
  have hx : exec (.flitReceive dir noise) s = .next (t.laneEvent dir) := by
    rw [exec_flitReceive hc hs noise hw, hf, hg, Bool.not_false, if_pos rfl]
  obtain ⟨hmem, hdir, hn⟩ := t.corrected_lane (dirLink dir) (Fin.ofNat 16 (Config.freeByte t.tick dir).toNat)
  exact ⟨_, _, hx, hmem, (hdir dir).trans (s.dir_modDir_self dir _), hn⟩

end

/-- 18 R414, R415: the sender resends every flit from the one that failed on; the link counts what this module's sender meets. -/
theorem exec_replayRequest (hr : (s.dir dir).wantReplay = true) (hf : ∀ f ∈ (s.dir dir).wire, f.fseq = (s.dir dir).expect → f.cls = 3)
    (hn : (s.dir dir).replayFrom (s.dir dir).expect ≠ []) :
    ∃ t, exec (.replayRequest dir) s = .next t ∧
      t.dir dir = { s.dir dir with wire := (s.dir dir).wire ++ (s.dir dir).replayFrom (s.dir dir).expect } ∧
      (t.links[dirLink dir]).replays = (s.links[dirLink dir]).replays + if (dirFrom dir).isSome then 1 else 0 := by
  let u := s.modDir dir (fun x => { x with wire := x.wire ++ x.replayFrom x.expect })
  have hu : u.dir dir = { s.dir dir with wire := (s.dir dir).wire ++ (s.dir dir).replayFrom (s.dir dir).expect } := s.dir_modDir_self ..
  have hk : (u.links[dirLink dir]).replays = (s.links[dirLink dir]).replays := s.replays_modDir ..
  let t := u.modLink (dirLink dir) (fun l => l.replay s.now (dirFrom dir).isSome)
  have hany : (!(s.dir dir).wire.any (fun f => decide (f.fseq = (s.dir dir).expect) && decide (f.cls ≠ 3))) = true := by
    simpa using hf
  have hne : (!((s.dir dir).replayFrom (s.dir dir).expect).isEmpty) = true := by simpa using hn
  have hx : exec (.replayRequest dir) s = .next (if t.links[dirLink dir].storm s.now then t.retrain (dirLink dir) else t) :=
    next_of_eq (if_pos ⟨hr, hc, by rw [hs]; rfl, hany, hne⟩)
  have ht : t.links[dirLink dir] = u.links[dirLink dir].replay s.now (dirFrom dir).isSome := u.links_modLink_self ..
  have hd : t.dir dir = u.dir dir := u.dir_modLink (f := fun l => l.replay s.now (dirFrom dir).isSome) (fun _ => ⟨rfl, rfl⟩) _ _
  have hrep : (t.links[dirLink dir]).replays = (s.links[dirLink dir]).replays + if (dirFrom dir).isSome then 1 else 0 := by
    rw [ht, Link.replay, hk]
    cases (dirFrom dir).isSome
    · exact (BitVec.add_zero _).symm
    · rfl
  refine ⟨_, hx, ?_⟩
  split
  · exact ⟨(State.dir_retrain ..).trans (hd.trans hu), (State.replays_retrain ..).trans hrep⟩
  · exact ⟨hd.trans hu, hrep⟩

end

end

/-! ## The delivery of packets (18 R411, R417, R418, R423) -/

section
variable {s : State} {dir : Nat} {p : Packet}

/-- 18 R411: the state without the oldest complete packet of a direction. -/
def State.pulled (s : State) (dir : Nat) (p : Packet) (r : List Packet) : State :=
  s.modDir dir (fun x => { x with arrived := r, buffered := tput x.buffered p.cls.code (tgetD x.buffered p.cls.code 0 - p.count) })

/-- 18 R411: a delivery ends as an attempt says: in the state that it gives, after the time of a crossing of a die-to-die link, or not at all while there
is no room. -/
def DeliversAs (s : State) (dir : Nat) (o : Option State) : Prop :=
  (∀ z, o = some z → exec (.packetDeliver dir) s = .next (if dir < 12 then z.lapse linkTime else z)) ∧
    (o = none → exec (.packetDeliver dir) s = .next s)

/-- An attempt that needs room is made when there is room. -/
theorem DeliversAs.room {b : Bool} {z : State} (h : DeliversAs s dir (if b then some z else none)) :
    (b = true → exec (.packetDeliver dir) s = .next (if dir < 12 then z.lapse linkTime else z)) ∧
      (b = false → exec (.packetDeliver dir) s = .next s) :=
  ⟨fun e => h.1 z (if_pos e), fun e => h.2 (if_neg (by simp [e]))⟩

section
variable {r : List Packet} (h : (s.dir dir).arrived = p :: r)
include h

theorem exec_packetDeliver_outside (hd : dirTo dir = none) : exec (.packetDeliver dir) s = .next (s.pulled dir p r) := by
  show execPacketDeliver dir s = _
  simp only [execPacketDeliver, h, hd]
  rfl

theorem deliversAs_delivered {die : Nat} (hd : dirTo dir = some die) : DeliversAs s dir ((s.pulled dir p r).delivered dir die p) := by
  have he : exec (.packetDeliver dir) s = .next ((((s.pulled dir p r).delivered dir die p).map
      (fun t => if dir / 2 < 6 then t.lapse linkTime else t)).getD s) := by
    show execPacketDeliver dir s = _
    simp only [execPacketDeliver, h, hd]
    rfl
  have hlt : dir / 2 < 6 ↔ dir < 12 := by omega
  simp only [hlt] at he
  exact ⟨fun z hz => by rw [he, hz]; rfl, fun hz => by rw [he, hz]; rfl⟩

end

variable {u : State} {die : Nat}

/-- 18 R411: a packet that the die has not had is its own, and enters it. -/
theorem State.delivered_here (ht : p.to = (u.node, die))
    (hs : ¬32768 ≤ (p.pseq - BitVec.ofNat 16 (tgetD u.pexpect (tripleKey die p.from_.1 p.from_.2 p.cls.code) 0)).toNat) :
    u.delivered dir die p =
      ({ u with pexpect := tput u.pexpect (tripleKey die p.from_.1 p.from_.2 p.cls.code) ((p.pseq.toNat + 1) % 65536) } : State).enterDie die p := by
  have ha : u.accepts die p =
      some { u with pexpect := tput u.pexpect (tripleKey die p.from_.1 p.from_.2 p.cls.code) ((p.pseq.toNat + 1) % 65536) } := if_neg hs
  rw [State.delivered, if_pos (congrArg Prod.fst ht), if_pos (congrArg Prod.snd ht), ha]

/-- 18 R417: a packet that the die has had is a duplicate. -/
theorem State.delivered_again (ht : p.to = (u.node, die))
    (hs : 32768 ≤ (p.pseq - BitVec.ofNat 16 (tgetD u.pexpect (tripleKey die p.from_.1 p.from_.2 p.cls.code) 0)).toNat) :
    u.delivered dir die p = some (u.modLink (dirLink dir) (fun l => { l with dups := min 65535 (l.dups + 1) })) := by
  have ha : u.accepts die p = none := if_pos hs
  rw [State.delivered, if_pos (congrArg Prod.fst ht), if_pos (congrArg Prod.snd ht), ha]

/-- 18 R411: a packet for another die of this node, and one for another node inside this one, go on. -/
theorem State.delivered_away (h : (p.to.1 = u.node ∧ p.to.2 ≠ die) ∨ (p.to.1 ≠ u.node ∧ dir < 12)) :
    u.delivered dir die p = u.forward die p := by
  rcases h with ⟨hn, hd⟩ | ⟨hn, hd⟩
  · rw [State.delivered, if_pos hn, if_neg hd]
  · rw [State.delivered, if_neg hn, if_pos (by omega)]

/-- 18 R423: a packet that passes through this node takes an external hop, eight at most. -/
theorem State.delivered_through (hn : p.to.1 ≠ u.node) (hd : 12 ≤ dir) :
    u.delivered dir die p = if p.hops = 8 then u.turnBack die p true false else u.forward die { p with hops := p.hops + 1 } := by
  rw [State.delivered, if_neg hn, if_neg (by omega)]

theorem State.enterDie_station {x : Station} (h : u.endStation p = some x) :
    u.enterDie die p = if u.stationRoom (stationKey die x.quad 1 4) p then some (u.toStation (stationKey die x.quad 1 4) p) else none := by
  simp only [State.enterDie, h]

theorem State.enterDie_none (h : u.endStation p = none) : u.enterDie die p = u.arrive p := by
  simp only [State.enterDie, h]

theorem State.forward_go {d : Nat} (h : u.hopOf die p = .go d) : u.forward die p = if u.dirRoom d p then some (u.depart die d p) else none := by
  simp only [State.forward, h]

theorem State.forward_none (h : u.hopOf die p = .none) : u.forward die p = u.lostRoute.turnBack die p false false := by
  simp only [State.forward, h]

/-- 18 R409, R418: a packet that goes on leaves in the direction of its hop, or is turned back where it has no route. -/
theorem DeliversAs.moves (h : DeliversAs s dir (u.forward die p)) :
    (∀ d, u.hopOf die p = .go d →
      (u.dirRoom d p = true → exec (.packetDeliver dir) s = .next (if dir < 12 then (u.depart die d p).lapse linkTime else u.depart die d p)) ∧
        (u.dirRoom d p = false → exec (.packetDeliver dir) s = .next s)) ∧
      (u.hopOf die p = .none → DeliversAs s dir (u.lostRoute.turnBack die p false false)) :=
  ⟨fun _ hd => (State.forward_go hd ▸ h).room, fun hn => State.forward_none hn ▸ h⟩

end

/-- Settles O48: the flits by the lemmas for slots, receivers and replays, and packets by what the die that they reach does with them. -/
theorem linkFlitEvents : Obligations.LinkFlitEvents := by
  intro s dir hdir
  refine ⟨exec_stalledLink, fun hc hs => ⟨exec_flitSlot_idle hc hs, fun k f r hp hk => exec_flitSlot_send hc hs hp hk,
    fun noise f0 r hw => ⟨?_, ?_, ?_, ?_, ?_⟩, exec_replayRequest hc hs⟩, fun p r h => ⟨exec_packetDeliver_outside h, fun die hd => ?_⟩⟩
  · exact exec_flitReceive_expected hc hs noise hw _ rfl
  · exact fun hg hi he => exec_flitReceive_discards hc hs noise hw _ rfl hg (.inl ⟨hi, he⟩)
  · exact exec_flitReceive_idle hc hs noise hw _ rfl
  · exact fun hg hi hr => exec_flitReceive_discards hc hs noise hw _ rfl hg (.inr ⟨hi, hr⟩)
  · exact exec_flitReceive_bad hc hs noise hw _ rfl
  · have hdel : DeliversAs s dir ((s.pulled dir p r).delivered dir die p) := deliversAs_delivered h hd
    refine ⟨fun ht hn => ?_, fun ht hn => ?_, fun ha => ?_, fun hn h12 h8 => ?_, fun hn h12 h8 => ?_⟩
    · rw [State.delivered_here (u := s.pulled dir p r) ht hn] at hdel
      exact ⟨fun x hx => (State.enterDie_station hx ▸ hdel).room, fun hx => State.enterDie_none hx ▸ hdel⟩
    · rw [State.delivered_again (u := s.pulled dir p r) ht hn] at hdel
      exact hdel.1 _ rfl
    · rw [State.delivered_away (u := s.pulled dir p r) ha] at hdel
      exact hdel.moves
    · rw [State.delivered_through (u := s.pulled dir p r) hn h12, if_neg h8] at hdel
      exact hdel.moves
    · rw [State.delivered_through (u := s.pulled dir p r) hn h12, if_pos h8] at hdel
      exact hdel

end Sys2Proof.Machine
end

section
/-! O50: remote requests that fail, and the accesses of other nodes (18 R424 to R426). -/

namespace Sys2Proof.Machine

/-! ## A remote request that fails (18 R426) -/

section
variable {s : State} {tag : Nat} {r : Remote}

/-- The state once the request is listed no more. -/
def State.unlisted (s : State) (tag : Nat) : State := { s with remotes := tdel s.remotes tag }

theorem State.tget_remoteFail (h : tget s.remotes tag = some r) (timeout : Bool) : tget (s.remoteFail tag timeout).remotes tag = none := by
  obtain ⟨-, -, -, hr⟩ := State.aside_eq_iff.1 (s.remoteFail_aside h timeout)
  rw [hr]
  exact (tget_tdel ..).trans (if_pos rfl)

/-- 18 R426: the request of a copy that has not been told to stop is no more. -/
theorem State.answered_copy (h : tget s.remotes tag = some r) {id : Nat} {c : Copy} (hr : r.copy = some id) (hc : tget s.copies id = some c)
    (hs : c.stop = none) (failed : Bool) : s.answered tag failed = s.unlisted tag := by
  simp only [State.answered, h, hr, State.copyAnswered, hc, Option.bind_some, hs]
  rfl

/-- 18 R426: the request of a lane that does not write is no more. -/
theorem State.answered_load (h : tget s.remotes tag = some r) {m : MemOp} (hr : r.copy = none) (hst : r.store = false)
    (hm : tget s.memops r.op = some m) (hw : m.kind.writes = false) (failed : Bool) : s.answered tag failed = s.unlisted tag := by
  simp only [State.answered, h, hr, hst, hm, hw, Bool.and_false, Bool.or_self, Bool.false_eq_true, if_false]
  rfl

/-- 18 R426: a store that fails counts in EREM, and in REM no more. -/
theorem State.answered_store (h : tget s.remotes tag = some r) (hr : r.copy = none) (hst : r.store = true) :
    s.answered tag true = (s.unlisted tag).modWarp r.g r.w (fun y => { y with remN := y.remN - 1, erem := y.erem + 1 }) := by
  simp only [State.answered, h, hr, hst, Bool.true_or, Bool.and_self, if_true]
  rfl

/-- A request whose instruction has ended settles nothing: at most a trap that is due is taken. -/
theorem State.settleLane_none (hm : tget s.memops r.op = none) (st : LaneState) :
    s.settleLane r st = ({ s with memops := tmod s.memops r.op (fun m => m.setLane r.lane st) } : State).takeDue r.g r.w := by
  have hnone : tget (tmod s.memops r.op (fun m => m.setLane r.lane st)) r.op = none := by rw [tget_tmod_self, hm]; rfl
  simp only [State.settleLane, State.memSettle, hnone]

/-! ### The lane of a load -/

section
variable {m : MemOp} {lane : Nat} {o : Orphan} (hlane : ∃ l ∈ m.lanes, l.lane = lane)
  (hdone : ∀ l ∈ m.lanes, l.lane ≠ lane → ∃ x, l.st = .done x)

/-- The lane that is set stands so, and the others are done. -/
theorem MemOp.setLane_states {l : LaneAcc} (hdone : ∀ l ∈ m.lanes, l.lane ≠ lane → ∃ x, l.st = .done x) (st : LaneState)
    (hl : l ∈ (m.setLane lane st).lanes) : l.st = st ∨ ∃ x, l.st = .done x := by
  obtain ⟨k, hk, rfl⟩ := List.mem_map.1 hl
  by_cases h : k.lane = lane
  · rw [if_pos h]
    exact .inl rfl
  · rw [if_neg h]
    exact .inr (hdone k hk h)

include hdone

theorem MemOp.ended_setLane : (m.setLane lane (.orphaned o)).lanes.any (fun l => l.st.open_) = false := by
  rw [List.any_eq_false]
  intro l hl
  rcases MemOp.setLane_states hdone _ hl with h | ⟨x, h⟩ <;> rw [h] <;> exact Bool.false_ne_true

theorem MemOp.failures_setLane : (m.setLane lane (.orphaned o)).failures = [] := by
  refine (congrArg List.flatten (List.filterMap_eq_nil_iff.2 (fun l hl => ?_))).trans rfl
  rcases MemOp.setLane_states hdone _ hl with h | ⟨x, h⟩ <;> rw [h]

include hlane

theorem MemOp.orphaned_setLane : (m.setLane lane (.orphaned o)).orphaned = some o := by
  let f := fun l : LaneAcc => match l.st with
    | .orphaned o => some o
    | _ => none
  have hall : ∀ x ∈ (m.setLane lane (.orphaned o)).lanes.filterMap f, x = o := by
    intro x hx
    obtain ⟨l, hl, hf⟩ := List.mem_filterMap.1 hx
    rcases MemOp.setLane_states hdone _ hl with h | ⟨v, h⟩
    · simp only [f, h, Option.some.injEq] at hf
      exact hf.symm
    · simp only [f, h, reduceCtorEq] at hf
  have hmem : o ∈ (m.setLane lane (.orphaned o)).lanes.filterMap f := by
    obtain ⟨l, hl, he⟩ := hlane
    exact List.mem_filterMap.2 ⟨_, List.mem_map.2 ⟨l, hl, rfl⟩, by simp only [f, he, if_true]⟩
  show ((m.setLane lane (.orphaned o)).lanes.filterMap f).head? = some o
  cases hc : (m.setLane lane (.orphaned o)).lanes.filterMap f with
  | nil => rw [hc] at hmem; cases hmem
  | cons x xs => rw [List.head?_cons, hall x (by rw [hc]; exact List.mem_cons_self)]

end

/-- 03 R65, 18 R426: the instruction whose last lane is ORPHANED ends, and its destination is. -/
theorem State.settleLane_orphaned {m : MemOp} {y : Warp} {o : Orphan} (hm : tget s.memops r.op = some m) (hg : m.g = r.g) (hw : m.w = r.w)
    (hf : m.failed = false) (hl : m.landed = false) (hlane : ∃ l ∈ m.lanes, l.lane = r.lane)
    (hdone : ∀ l ∈ m.lanes, l.lane ≠ r.lane → ∃ x, l.st = .done x) (hy : s.warp r.g r.w = some y) (hs : y.sched ≠ .exited)
    (hcalm : y.intrap = true ∨ y.due = []) :
    tget (s.settleLane r (.orphaned o)).memops r.op = none ∧ (s.settleLane r (.orphaned o)).warp r.g r.w = some (y.orphanDst m.dst o) := by
  let u : State := { s with memops := tmod s.memops r.op (fun m => m.setLane r.lane (.orphaned o)) }
  have hu : tget u.memops r.op = some (m.setLane r.lane (.orphaned o)) := by rw [tget_tmod_self, hm]; rfl
  have huy : u.warp (m.setLane r.lane (.orphaned o)).g (m.setLane r.lane (.orphaned o)).w = some y := by
    show u.warp m.g m.w = some y
    rw [hg, hw]
    exact hy
  have hsettle : u.memSettle r.op = ({ u with memops := tdel u.memops r.op } : State).modWarp r.g r.w (fun y => y.orphanDst m.dst o) := by
    have hff : (m.setLane r.lane (.orphaned o)).failed = false := hf
    have hll : (m.setLane r.lane (.orphaned o)).landed = false := hl
    simp only [State.memSettle, hu, hff, hll, MemOp.ended_setLane hdone, Bool.or_self, Bool.false_eq_true, if_false, huy, ne_eq, hs, not_false_iff,
      decide_true, Bool.not_true, MemOp.failures_setLane hdone, MemOp.orphaned_setLane hlane hdone]
    rw [← hg, ← hw]
    rfl
  have hwarp : (u.memSettle r.op).warp r.g r.w = some (y.orphanDst m.dst o) := by
    rw [hsettle, State.warp_modWarp]
    exact congrArg (Option.map _) hy
  have hkeep : (y.orphanDst m.dst o).intrap = y.intrap ∧ (y.orphanDst m.dst o).due = y.due := by
    unfold Warp.orphanDst
    split <;> exact ⟨rfl, rfl⟩
  have hend : s.settleLane r (.orphaned o) = u.memSettle r.op := by
    refine State.takeDue_calm _ _ _ (fun z hz => ?_)
    obtain rfl := Option.some.inj (hwarp.symm.trans hz)
    rw [hkeep.1, hkeep.2]
    exact hcalm
  rw [hend]
  refine ⟨?_, hwarp⟩
  rw [hsettle]
  exact (tget_tdel ..).trans (if_pos rfl)

/-- 18 R426: what the initiator of a request that fails sees. -/
theorem failsRemote_of_next {i : Instr} {timeout : Bool} (hi : ∀ r, tget s.remotes tag = some r → exec i s = .next (s.remoteFail tag timeout)) :
    FailsRemote s tag timeout i := by
  intro r h
  refine ⟨fun hc hst hin hm => ?_, fun hc hst hin m y hm hg hw hwr hf hl hlane hdone hy hs hcalm => ?_, fun id c hc hcopy hlive hstop => ?_⟩
  · refine ⟨_, hi r h, State.tget_remoteFail h timeout, fun y hy hcalm => ?_⟩
    let u := (s.unlisted tag).modWarp r.g r.w (fun y => { y with remN := y.remN - 1, erem := y.erem + 1 })
    have hu : u.warp r.g r.w = some { y with remN := y.remN - 1, erem := y.erem + 1 } := by
      rw [State.warp_modWarp]
      exact congrArg (Option.map _) hy
    have he : s.remoteFail tag timeout = u.settleLane r (.done 0) := by
      simp only [State.remoteFail, h, hc, hin, hst, State.answered_store h hc hst]
      rfl
    have hmu : tget u.memops r.op = none := hm
    rw [he, State.settleLane_none hmu, State.takeDue_calm]
    · exact hu
    · intro z hz
      obtain rfl := Option.some.inj (hu.symm.trans hz)
      exact hcalm
  · have he : s.remoteFail tag timeout = (s.unlisted tag).settleLane r (.orphaned (if timeout then .rtimeout else .rfault)) := by
      simp only [State.remoteFail, h, hc, State.answered_load h hc hst hm hwr]
      cases hin' : r.inside with
      | none => simp only [hst, Bool.false_eq_true, if_false]
      | some n => simp only [hin n hin', Bool.false_eq_true, if_false]
    have hend := State.settleLane_orphaned (s := s.unlisted tag) (r := r) (o := if timeout then .rtimeout else .rfault) hm hg hw hf hl hlane hdone hy hs
      hcalm
    exact ⟨_, hi r h, State.tget_remoteFail h timeout, he ▸ hend.1, he ▸ hend.2⟩
  · have he : s.remoteFail tag timeout =
        ((s.unlisted tag).endCopy id .failed (if timeout then cRTIMEOUT else cRFAULT) c.dst.addr).flush (cfin c.ctx) := by
      simp only [State.remoteFail, h, hc, State.answered_copy h hc hcopy hstop]
      rw [show (s.unlisted tag).copies = s.copies from rfl, hcopy]
    have hcopy' : tget (s.unlisted tag).copies id = some c := hcopy
    have hsent : (s.unlisted tag).copySends id = true ↔ ∃ e ∈ tdel s.remotes tag, e.2.copy = some id := by
      simp only [State.copySends, List.any_eq_true, decide_eq_true_iff]
      rfl
    cases hsends : (s.unlisted tag).copySends id with
    | true =>
      refine ⟨_, c.stopping .failed (if timeout then cRTIMEOUT else cRFAULT) c.dst.addr, (hi r h).trans (congrArg _ he), ?_, fun hno => ?_,
        fun _ => ?_⟩
      · rw [State.endCopy_sending hcopy' hlive hsends]
        exact (tget_tput ..).trans (if_pos rfl)
      · obtain ⟨e, hmem, hcp⟩ := hsent.1 hsends
        exact absurd hcp (hno e hmem)
      · exact ⟨_, by rw [Copy.stopping, hstop]; rfl⟩
    | false =>
      refine ⟨_, c.ended .failed (if timeout then cRTIMEOUT else cRFAULT), (hi r h).trans (congrArg _ he), State.tget_endCopy hcopy' hlive hsends ..,
        fun _ => ⟨rfl, rfl⟩, fun hx => ?_⟩
      exact absurd (hsent.2 hx) (by rw [hsends]; exact Bool.false_ne_true)

end

/-! ## The accesses of other nodes (18 R424, R425) -/

/-- 18 R425: an access of another node ends as the attempt to answer it says, and while that has no room, in a state that is given. -/
def AccessEnds (s : State) (r : InboundReq) (o : Option State) (w : State) : Prop :=
  (∀ t, o = some t → exec (.inboundAccess r) s = .next t) ∧ (o = none → exec (.inboundAccess r) s = .next w)

theorem accessEnds_of_getD {s : State} {r : InboundReq} {o : Option State} {w : State} (h : exec (.inboundAccess r) s = .next (o.getD w)) :
    AccessEnds s r o w :=
  ⟨fun t e => by rw [h, e]; rfl, fun e => by rw [h, e]; rfl⟩

/-- 18 R425: the state with an admitted access recorded. -/
def State.recorded (s : State) (r : InboundReq) (c : Nat) : State :=
  { s with inbound := s.inbound ++ [(s.uid, { req := r, ctx := c, at_ := s.now })], uid := s.uid + 1 }

/-- 18 R425: the state in which an admitted access is performed: it is recorded no more. -/
def State.performing (s : State) (r : InboundReq) (c : Nat) : State :=
  { s with inbound := tdel (s.inbound ++ [(s.uid, { req := r, ctx := c, at_ := s.now })]) s.uid, uid := s.uid + 1 }

section
variable {s : State} {r : InboundReq}

theorem exec_inboundAccess (s : State) (r : InboundReq) : exec (.inboundAccess r) s = .next ((s.inboundArrives r).getD s) := rfl

theorem State.inboundArrives_closed (h : s.life.stat ≠ .ready) : s.inboundArrives r = some s := by
  have hclosed : (!s.open_) = true := congrArg Bool.not (decide_eq_false h)
  rw [State.inboundArrives, if_pos hclosed]

theorem exec_inboundAccess_closed (h : s.life.stat ≠ .ready) : exec (.inboundAccess r) s = .next s := by
  rw [exec_inboundAccess, State.inboundArrives_closed h, Option.getD_some]

variable (h : s.life.stat = .ready)
include h

/-- 18 R424: an access that no window admits. -/
theorem accessEnds_refused (ha : s.admitted r = none) :
    AccessEnds s r (({ s with life := { s.life with refusals := s.life.refusals + 1 } } : State).answerError r cRFAULT) s := by
  have hopen : ¬(!s.open_) = true := by
    rw [State.open_, decide_eq_true h]
    exact Bool.false_ne_true
  refine accessEnds_of_getD ?_
  rw [exec_inboundAccess, State.inboundArrives, if_neg hopen, ha]

variable {c : Nat} (ha : s.admitted r = some c)
include ha

theorem exec_inboundAccess_admitted : exec (.inboundAccess r) s = .next ((s.recorded r c).serve s.uid { req := r, ctx := c, at_ := s.now }) := by
  rw [exec_inboundAccess, State.inboundArrives, State.open_, decide_eq_true h, ha]
  rfl

/-- 18 R425: an access for a context that does not run is refused; the record of a context that reserves memory takes it. -/
theorem accessEnds_stopped (hr : (s.ctxs[cfin c]).st.runs = false) :
    AccessEnds s r ((if (s.ctxs[cfin c]).st.reserves then (s.performing r c).inboundFault (cfin c) r cRFAULT (s.reqAddr (cfin c) r)
      else s.performing r c).answerError r cRFAULT) (s.recorded r c) := by
  have hr' : (!((s.recorded r c).ctxs[cfin c]).st.runs) = true := congrArg Bool.not hr
  refine accessEnds_of_getD ((exec_inboundAccess_admitted h ha).trans (next_of_eq ?_))
  exact if_pos hr'

variable (hr : (s.ctxs[cfin c]).st.runs = true)
include hr

omit h ha in
/-- 18 R425: what becomes of an access for a context that runs. -/
theorem State.serve_running :
    (s.recorded r c).serve s.uid { req := r, ctx := c, at_ := s.now } = match (s.performing r c).perform (cfin c) r with
      | .ok (t, b) => (t.answer_ r (answerType (reqType r)) b).getD (s.recorded r c)
      | .error (.park ctx page) => (s.recorded r c).addFault ctx page ((s.recorded r c).answerStation r).die none
      | .error (.fail k a) => (((s.performing r c).inboundFault (cfin c) r k a).answerError r cRFAULT).getD (s.recorded r c)
      | .error .absent => s.recorded r c
      | .error (.noRoute a) => (((s.performing r c).inboundFault (cfin c) r cRFAULT a).answerError r cRFAULT).getD (s.recorded r c)
      | .error (.tables ctx) => (((s.performing r c).faultFrom r.node.toNat (cfin ctx) cUNCORR 2 0 (s.reqAddr (cfin c) r) 0 0).answerError r
          cRFAULT).getD (s.recorded r c) := by
  have hr' : ¬(!((s.recorded r c).ctxs[cfin c]).st.runs) = true := by
    rw [show ((s.recorded r c).ctxs[cfin c]).st.runs = true from hr]
    exact Bool.false_ne_true
  exact if_neg hr'

/-- 18 R425: an access that fails is recorded for the context, and answered with an error. -/
theorem accessEnds_fails {k a : Nat} (hp : (s.performing r c).perform (cfin c) r = .error (.fail k a)) :
    AccessEnds s r (((s.performing r c).inboundFault (cfin c) r k a).answerError r cRFAULT) (s.recorded r c) := by
  refine accessEnds_of_getD ((exec_inboundAccess_admitted h ha).trans (next_of_eq ?_))
  rw [State.serve_running hr, hp]

/-- 18 R425: an access that is performed is answered. -/
theorem accessEnds_performed {t : State} {b : List Byte} (hp : (s.performing r c).perform (cfin c) r = .ok (t, b)) :
    AccessEnds s r (t.answer_ r (answerType (reqType r)) b) (s.recorded r c) := by
  refine accessEnds_of_getD ((exec_inboundAccess_admitted h ha).trans (next_of_eq ?_))
  rw [State.serve_running hr, hp]

end

/-! ### What performing an access does (18 R424, R425) -/

section
variable {s : State} {r : InboundReq} {c : Fin 64}

theorem State.perform_unreachable (hx : r.kind ≠ .cpyx) (hf : r.kind ≠ .flag) (h : s.reachable r.addr (reqSize r) = false) :
    s.perform c r = .error (.fail cPGPROT r.addr) := by
  have hn : (!s.reachable r.addr (reqSize r)) = true := congrArg Bool.not h
  unfold State.perform
  split
  case h_8 => exact absurd ‹_› hx
  case h_9 => exact absurd ‹_› hf
  all_goals exact if_pos hn

theorem State.perform_poisoned (hx : r.kind ≠ .cpyx) (hf : r.kind ≠ .flag) (h : s.reachable r.addr (reqSize r) = true) (hw : r.kind ≠ .write)
    (hp : s.poisoned r.addr (reqSize r) = true) : s.perform c r = .error (.fail cUNCORR r.addr) := by
  have hn : ¬(!s.reachable r.addr (reqSize r)) = true := by rw [h]; exact Bool.false_ne_true
  unfold State.perform
  split
  case h_8 => exact absurd ‹_› hx
  case h_9 => exact absurd ‹_› hf
  case h_3 => exact absurd ‹_› hw
  all_goals exact (if_neg hn).trans (if_pos hp)

/-- 18 R424: an access at a local address that can be reached, and whose data are correctable, is performed. -/
theorem State.perform_act (h : s.reachable r.addr (reqSize r) = true) (hp : s.poisoned r.addr (reqSize r) = false) {act : State × List Byte}
    (he : s.perform c r = if !s.reachable r.addr (reqSize r) then .error (.fail cPGPROT r.addr)
      else if true && s.poisoned r.addr (reqSize r) then .error (.fail cUNCORR r.addr) else .ok act) : s.perform c r = .ok act := by
  rw [he, h, hp]
  rfl

/-- 18 R424: a write overwrites uncorrectable data. -/
theorem State.perform_write (h : s.reachable r.addr (reqSize r) = true) (hk : r.kind = .write) :
    s.perform c r = .ok (s.engPutBytes (s.node * 2 ^ 48 + r.addr % 2 ^ 48) r.data, []) := by
  have hn : ¬(!s.reachable r.addr (reqSize r)) = true := by rw [h]; exact Bool.false_ne_true
  simp only [State.perform, hk]
  exact if_neg hn

/-- 12 R289: CPYX data at one piece of memory. -/
theorem State.perform_cpyx (hk : r.kind = .cpyx) {p : Nat}
    (hp : s.pieces c.val false true r.addr (r.data.length + 1) 0 r.data.length = .ok [(p, r.data.length)]) :
    s.perform c r = .ok (s.engPutBytes p r.data, []) := by
  simp only [State.perform, hk, hp, bind, Except.bind, List.foldl_cons, List.foldl_nil, List.take_length]

theorem State.perform_cpyx_fails (hk : r.kind = .cpyx) {k a : Nat}
    (hp : s.pieces c.val false true r.addr (r.data.length + 1) 0 r.data.length = .error (.fail k a)) : s.perform c r = .error (.fail k a) := by
  simp only [State.perform, hk, hp, bind, Except.bind]

section
variable (hk : r.kind = .flag)
include hk

theorem State.reqAddr_flag : s.reqAddr c r = (s.ctxs[c]).cb + 8 * r.addr := if_pos hk

theorem State.perform_flag_fails {k a : Nat} (hp : s.pieces c.val false true ((s.ctxs[c]).cb + 8 * r.addr) 9 0 8 = .error (.fail k a)) :
    s.perform c r = .error (.fail k a) := by
  simp only [State.perform, hk, State.reqAddr_flag hk, hp, bind, Except.bind]

/-- 12 R291: the flag of a CPYX adds 1 to its counter. -/
theorem State.perform_flag {p k : Nat} (hp : s.pieces c.val false true ((s.ctxs[c]).cb + 8 * r.addr) 9 0 8 = .ok [(p, k)]) :
    s.perform c r = if s.engBad p 8 then .error (.fail cUNCORR ((s.ctxs[c]).cb + 8 * r.addr))
      else .ok ((s.engPutBytes p (leBytes 8 (s.engRd p 8 + 1))).recheckSignals, leBytes 8 (s.engRd p 8)) := by
  simp only [State.perform, hk, State.reqAddr_flag hk, hp, bind, Except.bind]

end

end

section
variable (s : State) (r : InboundReq) (c : Nat)

theorem State.node_performing : (s.performing r c).node = s.node := rfl

/-- 18 R425: the record of an access is no part of memory. -/
theorem State.engRd_performing (pa n : Nat) : (s.performing r c).engRd pa n = s.engRd pa n := by
  induction n generalizing pa with
  | zero => rfl
  | succ n ih =>
    rw [State.engRd, State.engRd, ih]
    rfl

end

/-! ### Accesses at local addresses -/

section
variable {s : State} {r : InboundReq} {c : Nat} (h : s.life.stat = .ready) (ha : s.admitted r = some c) (hr : (s.ctxs[cfin c]).st.runs = true)
  (hre : (s.performing r c).reachable r.addr (reqSize r) = true) (hpo : (s.performing r c).poisoned r.addr (reqSize r) = false)
include h ha hr hre hpo

/-- 18 R424: a read that is performed. -/
theorem accessEnds_read (hk : r.kind = .read ∨ r.kind = .probe) :
    AccessEnds s r (((s.performing r c).l2Access (s.node * 2 ^ 48 + r.addr % 2 ^ 48) (reqSize r) false).answer_ r (answerType (reqType r))
      (leBytes (reqSize r) (s.engRd (s.node * 2 ^ 48 + r.addr % 2 ^ 48) (reqSize r)))) (s.recorded r c) := by
  refine accessEnds_performed h ha hr (State.perform_act hre hpo ?_)
  rcases hk with hk | hk <;> simp only [State.perform, hk, State.node_performing, State.engRd_performing]

/-- 18 R424: a store of a part of a byte changes that part. -/
theorem accessEnds_part {bit : Fin 8} {mode : BitVec 23} (hk : r.kind = .part bit mode) :
    AccessEnds s r (((s.performing r c).engPutBytes (s.node * 2 ^ 48 + r.addr % 2 ^ 48) (leBytes (reqSize r)
      (elemPut (mEtype mode) bit.val (s.engRd (s.node * 2 ^ 48 + r.addr % 2 ^ 48) (reqSize r)) (leNat r.data)))).answer_ r
        (answerType (reqType r)) []) (s.recorded r c) := by
  refine accessEnds_performed h ha hr (State.perform_act hre hpo ?_)
  simp only [State.perform, hk, State.node_performing, State.engRd_performing]

/-- 06 R128, 18 R424: a signal that is added to lets the QWAITs that wait be judged again. -/
theorem accessEnds_signal (hk : r.kind = .signal) :
    AccessEnds s r (((s.performing r c).engPutBytes (s.node * 2 ^ 48 + r.addr % 2 ^ 48) (leBytes (reqSize r)
      (signalAdd (s.engRd (s.node * 2 ^ 48 + r.addr % 2 ^ 48) (reqSize r)) (leNat r.data)))).recheckSignals.answer_ r (answerType (reqType r))
        (leBytes (reqSize r) (s.engRd (s.node * 2 ^ 48 + r.addr % 2 ^ 48) (reqSize r)))) (s.recorded r c) := by
  refine accessEnds_performed h ha hr (State.perform_act hre hpo ?_)
  simp only [State.perform, hk, State.node_performing, State.engRd_performing]

/-- 18 R424: an atomic access that is performed answers with the old value. -/
theorem accessEnds_puts (x : Nat)
    (hk : (s.performing r c).perform (cfin c) r = if !(s.performing r c).reachable r.addr (reqSize r) then .error (.fail cPGPROT r.addr)
      else if true && (s.performing r c).poisoned r.addr (reqSize r) then .error (.fail cUNCORR r.addr)
      else .ok ((s.performing r c).engPutBytes (s.node * 2 ^ 48 + r.addr % 2 ^ 48) (leBytes (reqSize r) x),
        leBytes (reqSize r) (s.engRd (s.node * 2 ^ 48 + r.addr % 2 ^ 48) (reqSize r)))) :
    AccessEnds s r (((s.performing r c).engPutBytes (s.node * 2 ^ 48 + r.addr % 2 ^ 48) (leBytes (reqSize r) x)).answer_ r (answerType (reqType r))
      (leBytes (reqSize r) (s.engRd (s.node * 2 ^ 48 + r.addr % 2 ^ 48) (reqSize r)))) (s.recorded r c) :=
  accessEnds_performed h ha hr (State.perform_act hre hpo hk)

end

/-- 12 R291: the flag of a CPYX answers with the old value of its counter. -/
theorem accessEnds_flag {s : State} {r : InboundReq} {c p k : Nat} (h : s.life.stat = .ready) (ha : s.admitted r = some c)
    (hr : (s.ctxs[cfin c]).st.runs = true) (hk : r.kind = .flag)
    (hp : (s.performing r c).pieces (cfin c).val false true ((s.ctxs[cfin c]).cb + 8 * r.addr) 9 0 8 = .ok [(p, k)])
    (hb : (s.performing r c).engBad p 8 = false) :
    AccessEnds s r (((s.performing r c).engPutBytes p (leBytes 8 (s.engRd p 8 + 1))).recheckSignals.answer_ r (answerType (reqType r))
      (leBytes 8 (s.engRd p 8))) (s.recorded r c) := by
  have hf := State.perform_flag (s := s.performing r c) hk hp
  rw [hb, if_neg Bool.false_ne_true, State.engRd_performing] at hf
  exact accessEnds_performed h ha hr hf

/-! ### The end of the wait (18 R425) -/

section
variable {s : State} {id : Nat} {x : Inbound} (hx : tget s.inbound id = some x)
include hx

theorem exec_inboundTimeout : exec (.inboundTimeout id) s = .next (if 80000 ≤ s.now - x.at_ then
    ((({ s with inbound := tdel s.inbound id } : State).inboundFault (cfin x.ctx) x.req cRTIMEOUT (s.reqAddr (cfin x.ctx) x.req)).answerError x.req
      cRTIMEOUT).getD s else s) := by
  show execInboundTimeout id s = _
  simp only [execInboundTimeout, hx]

end

theorem exec_remoteTimeout {s : State} {tag : Nat} {r : Remote} (hr : tget s.remotes tag = some r) :
    exec (.remoteTimeout tag) s = .next (if 200000 ≤ s.now - r.at_ then s.remoteFail tag true else s) := by
  show execRemoteTimeout tag s = _
  simp only [execRemoteTimeout, hr]

/-- 05 R101: a context that runs reserves memory. -/
theorem CtxState.runs_of_reserves {st : CtxState} (h : st.reserves = false) : st.runs = false := by
  cases st with
  | free => rfl
  | building => rfl
  | _ => exact absurd h (by decide)

/-- Settles O50: remote requests by `failsRemote_of_next`, and inbound accesses by what performing them does. -/
theorem remoteAndInboundEvents : Obligations.RemoteAndInboundEvents := by
  refine ⟨fun s tag timeout => failsRemote_of_next (fun r hr => ?_), fun s tag h => failsRemote_of_next (fun r hr => ?_), fun s tag r hr ht => ?_,
    fun s r h => exec_inboundAccess_closed h, fun s r h => ⟨fun ha => accessEnds_refused h ha, fun c ha => ⟨fun hres => ?_, fun hres hrun => ?_,
      fun hrun hx hf => ⟨fun hu => ?_, fun hu hw hp => ?_⟩, fun hrun => ⟨fun k a hk hp => ?_, fun k a hk hp => ?_, fun p k hk hp hb => ?_⟩⟩,
      fun c ha hr => ⟨fun hu hk => ?_, fun hre hpo => ⟨fun hk => ?_, fun hk => ?_, fun bit mode hk => ?_, fun hk => ?_, fun op mode hk => ?_⟩,
        fun p hk hp => ?_, fun p k hk hp hb => ?_⟩⟩, fun s id x hx => ⟨fun ht => ?_, fun ht => ?_⟩⟩
  · exact next_of_eq (if_pos (by rw [hr]; rfl))
  · rw [exec_remoteTimeout hr, if_pos (h r hr)]
  · rw [exec_remoteTimeout hr, if_neg (by omega)]
  · have hends := accessEnds_stopped h ha (by rw [CtxState.runs_of_reserves hres])
    rw [hres] at hends
    exact hends
  · have hends := accessEnds_stopped h ha hrun
    rw [hres] at hends
    exact hends
  · exact accessEnds_fails h ha hrun (State.perform_unreachable hx hf hu)
  · exact accessEnds_fails h ha hrun (State.perform_poisoned hx hf hu hw hp)
  · exact accessEnds_fails h ha hrun (State.perform_cpyx_fails hk hp)
  · exact accessEnds_fails h ha hrun (State.perform_flag_fails hk hp)
  · exact accessEnds_fails h ha hrun ((State.perform_flag hk hp).trans (if_pos hb))
  · exact accessEnds_performed h ha hr (State.perform_write hu hk)
  · exact accessEnds_read h ha hr hre hpo hk
  · exact accessEnds_puts h ha hr hre hpo _ (by simp only [State.perform, hk, State.node_performing, State.engRd_performing])
  · exact accessEnds_part h ha hr hre hpo hk
  · exact accessEnds_signal h ha hr hre hpo hk
  · exact accessEnds_puts h ha hr hre hpo _ (by simp only [State.perform, hk, State.node_performing, State.engRd_performing])
  · exact accessEnds_performed h ha hr (State.perform_cpyx hk hp)
  · exact accessEnds_flag h ha hr hk hp hb
  · have he := (exec_inboundTimeout hx).trans (next_of_eq (if_pos ht))
    exact ⟨fun t hz => he.trans (next_of_eq (by rw [State.inboundFault, hz]; rfl)),
      fun hz => he.trans (next_of_eq (by rw [State.inboundFault, hz]; rfl))⟩
  · exact (exec_inboundTimeout hx).trans (next_of_eq (if_neg (by omega)))

end Sys2Proof.Machine
end

section
/-! O58, the canonical form of memories: the group windows, and the shared operations of the model that store into memories. -/
namespace Sys2Proof.Machine

/-- The windows of a group have their canonical form. -/
def Group.Canonical (x : Group) : Prop :=
  Memory.wf x.spad = true ∧ Memory.wf x.numa = true ∧ Memory.wf x.bank0 = true ∧ Memory.wf x.bank1 = true

/-- The windows of every group have their canonical form. -/
def GroupsCanonical (l : Tab Group) : Prop := ∀ e ∈ l, e.2.Canonical

/-! ## A group -/

@[simp] theorem Group.canonical_mk {launch phase num ctx sched win st warps spad numa bank0 bank1 live1 gswaps cswaps absent tiles tops fifos core lastQuad
    resSince imaged imgAt image prio aopens waitSince badWords} :
    (Group.mk launch phase num ctx sched win st warps spad numa bank0 bank1 live1 gswaps cswaps absent tiles tops fifos core lastQuad
      resSince imaged imgAt image prio aopens waitSince badWords).Canonical ↔
      Memory.wf spad = true ∧ Memory.wf numa = true ∧ Memory.wf bank0 = true ∧ Memory.wf bank1 = true := Iff.rfl

section
variable {x : Group} (h : x.Canonical)
include h
@[simp] theorem Group.wf_spad : Memory.wf x.spad = true := h.1
@[simp] theorem Group.wf_numa : Memory.wf x.numa = true := h.2.1
@[simp] theorem Group.wf_bank0 : Memory.wf x.bank0 = true := h.2.2.1
@[simp] theorem Group.wf_bank1 : Memory.wf x.bank1 = true := h.2.2.2
end

/-! ## A state -/

@[simp] theorem State.memoriesWf_mk {life persist mem bad bar0 ctxs queues qptr launches groups cores memops numops popWaits hods copies engines exchs
    clusters reds remotes migs pins pools mstat mcmd binds l2 l2fills through channels ath links psend pexpect stations inbound ready lostPage cur agenda
    tick uid} :
    (State.mk life persist mem bad bar0 ctxs queues qptr launches groups cores memops numops popWaits hods copies engines exchs
      clusters reds remotes migs pins pools mstat mcmd binds l2 l2fills through channels ath links psend pexpect stations inbound ready lostPage cur agenda
      tick uid).memoriesWf ↔ Memory.wf mem = true ∧ Memory.wf bar0 = true ∧ GroupsCanonical groups := Iff.rfl

section
variable {s : State} (h : s.memoriesWf)
include h
@[simp] theorem State.wf_mem : Memory.wf s.mem = true := h.1
@[simp] theorem State.wf_bar0 : Memory.wf s.bar0 = true := h.2.1
@[simp] theorem State.groupsCanonical : GroupsCanonical s.groups := h.2.2
end

/-- Only the windows of a group matter. -/
theorem Group.Canonical.same {x y : Group} (h : x.Canonical) (hs : y.spad = x.spad) (hn : y.numa = x.numa) (h0 : y.bank0 = x.bank0)
    (h1 : y.bank1 = x.bank1) : y.Canonical := by
  rwa [Group.Canonical, hs, hn, h0, h1]

/-- Only the module's memory, BAR 0 and the groups of a state matter. -/
theorem State.memoriesWf.same {s t : State} (h : s.memoriesWf) (hm : t.mem = s.mem) (hb : t.bar0 = s.bar0) (hg : t.groups = s.groups) :
    t.memoriesWf := by
  rwa [State.memoriesWf, hm, hb, hg]

@[simp] theorem GroupsCanonical.tmod {l : Tab Group} (h : GroupsCanonical l) {g : Nat} {f : Group → Group}
    (hf : ∀ x : Group, x.Canonical → (f x).Canonical) : GroupsCanonical (tmod l g f) := by
  intro e he
  obtain ⟨e', he', rfl⟩ := List.mem_map.mp he
  split
  · exact hf _ (h e' he')
  · exact h e' he'

@[simp] theorem GroupsCanonical.map {l : Tab Group} (h : GroupsCanonical l) {f : Nat × Group → Nat × Group}
    (hf : ∀ e : Nat × Group, e.2.Canonical → (f e).2.Canonical) : GroupsCanonical (l.map f) := by
  intro e he
  obtain ⟨e', he', rfl⟩ := List.mem_map.mp he
  exact hf _ (h e' he')

theorem Group.Canonical.foldl {β : Type} {f : Group → β → Group} {l : List β} {x : Group} (h : x.Canonical)
    (hf : ∀ x b, x.Canonical → (f x b).Canonical) : (l.foldl f x).Canonical :=
  List.foldlRecOn (motive := Group.Canonical) l f h (fun y hy b _ => hf y b hy)

theorem State.memoriesWf.foldl {β : Type} {f : State → β → State} {l : List β} {s : State} (h : s.memoriesWf)
    (hf : ∀ t b, t.memoriesWf → (f t b).memoriesWf) : (l.foldl f s).memoriesWf :=
  List.foldlRecOn (motive := State.memoriesWf) l f h (fun t ht b _ => hf t b ht)

@[simp] theorem State.memoriesWf.modGroup {s : State} (h : s.memoriesWf) {g : Nat} {f : Group → Group}
    (hf : ∀ x : Group, x.Canonical → (f x).Canonical) : (s.modGroup g f).memoriesWf :=
  ⟨h.1, h.2.1, GroupsCanonical.tmod h.2.2 hf⟩

section
variable {s : State} (h : s.memoriesWf)
include h

@[simp] theorem State.memoriesWf.setTag {p t : Nat} : (s.setTag p t).memoriesWf := by
  simp only [State.setTag]
  split
  · exact ⟨Memory.wf_put _ _ h.1, h.2⟩
  · exact h

@[simp] theorem State.memoriesWf.wr {p n v : Nat} : (s.wr p n v).memoriesWf :=
  ⟨Memory.wf_wr _ _ _ h.1, h.2⟩

@[simp] theorem State.memoriesWf.setBar {off n v : Nat} : (s.setBar off n v).memoriesWf :=
  ⟨h.1, Memory.wf_wr _ _ _ h.2.1, h.2.2⟩

@[simp] theorem State.memoriesWf.lapse {ns : Nat} : (s.lapse ns).memoriesWf := by
  unfold State.lapse
  split <;> exact h

end

/-! ## Translations and the slices (15 R355, 16 R372 to R374) -/


section
variable {s : State} (h : s.memoriesWf)
include h

@[simp] theorem State.memoriesWf.shootdown {ctx page n : Nat} : (s.shootdown ctx page n).memoriesWf :=
  ⟨h.1, h.2.1, GroupsCanonical.map h.2.2 (fun e he => by dsimp only; split <;> exact he)⟩

@[simp] theorem State.memoriesWf.addFault {ctx page die : Nat} {host : Option Nat} : (s.addFault ctx page die host).memoriesWf := by
  unfold State.addFault
  split <;> exact h

@[simp] theorem State.memoriesWf.frameReturn {f : Nat} : (s.frameReturn f).memoriesWf := by
  simp only [State.frameReturn]
  repeat' split
  all_goals exact h

@[simp] theorem State.memoriesWf.useRow {p : Nat} : (s.useRow p).memoriesWf := h

@[simp] theorem State.memoriesWf.l2Touch {p n : Nat} {write : Bool} : (s.l2Touch p n write).memoriesWf := by
  simp only [State.l2Touch]
  repeat' split
  all_goals exact h

@[simp] theorem State.memoriesWf.l2Access {pa n : Nat} {write : Bool} : (s.l2Access pa n write).memoriesWf := by
  unfold State.l2Access
  split
  · exact h.foldl (fun t i ht => ht.l2Touch)
  · exact h

@[simp] theorem State.memoriesWf.tlbFill {core ctx va entry : Nat} : (s.tlbFill core ctx va entry).memoriesWf := by
  unfold State.tlbFill
  split
  · exact h
  · exact State.memoriesWf.foldl h (fun t a ht => ht.l2Touch)

@[simp] theorem State.memoriesWf.modCtx {c : Fin 64} {f : Ctx → Ctx} : (s.modCtx c f).memoriesWf := h

@[simp] theorem State.memoriesWf.owe {c : Fin 64} {o : Owed} : (s.owe c o).memoriesWf := h

@[simp] theorem State.memoriesWf.log {c : Fin 64} {cause source node unit addr ref mask : Nat} :
    (s.log c cause source node unit addr ref mask).memoriesWf := h

end

/-! ## Records (17 R386 to R389) -/


section
variable {s : State} (h : s.memoriesWf)
include h

@[simp] theorem State.memoriesWf.putRec {id slot : Nat} {r : Rec} : (s.putRec id slot r).memoriesWf := by
  simp only [State.putRec]
  repeat' split
  all_goals exact h

@[simp] theorem State.memoriesWf.endRec {id slot : Nat} {r : Rec} : (s.endRec id slot r).memoriesWf := by
  simp [State.endRec, h]

@[simp] theorem State.memoriesWf.dropRec {id slot cause addr : Nat} {logged : Bool} : (s.dropRec id slot cause addr logged).memoriesWf := by
  simp only [State.dropRec]
  repeat' split
  all_goals simp [h]

@[simp] theorem State.memoriesWf.failRec {c : Fin 64} {id slot cause addr : Nat} : (s.failRec c id slot cause addr).memoriesWf := by
  simp only [State.failRec]
  repeat' split
  all_goals exact h

@[simp] theorem State.memoriesWf.freeRec {id slot : Nat} : (s.freeRec id slot).memoriesWf := by
  simp only [State.freeRec]
  repeat' split
  all_goals exact h

@[simp] theorem State.memoriesWf.returnRec {k : Held} {cause : Nat} {abort : Bool} : (s.returnRec k cause abort).memoriesWf := by
  unfold State.returnRec
  split
  · exact h
  · split
    · exact h
    · split
      · exact h
      · split
        · exact h.putRec
        · split
          · exact h.putRec
          · exact h.dropRec

@[simp] theorem State.memoriesWf.endBind {id : Nat} : (s.endBind id).memoriesWf := by
  have hdrop : ∀ (t : State) (e : Nat × Rec), t.memoriesWf → (if e.2.over then t else t.dropRec id e.1 0x80 0 false).memoriesWf := by
    intro t e ht
    split
    · exact ht
    · exact ht.dropRec
  unfold State.endBind
  split
  · exact h
  · next b _ =>
    have hend := (h.foldl hdrop (l := b.recs)).foldl (l := b.recs) (f := fun t e => t.freeRec id e.1) (fun t e ht => ht.freeRec)
    exact hend

@[simp] theorem State.memoriesWf.endBinds {launch : Nat} : (s.endBinds launch).memoriesWf := by
  refine h.foldl (fun t e ht => ?_)
  split
  · exact ht.endBind
  · exact ht

@[simp] theorem State.memoriesWf.modWarp {g w : Nat} {f : Warp → Warp} : (s.modWarp g w f).memoriesWf :=
  h.modGroup (fun _ hx => hx)

@[simp] theorem State.memoriesWf.irq {v : Nat} : (s.irq v).memoriesWf := by
  unfold State.irq
  split <;> exact h

@[simp] theorem State.memoriesWf.manage {bit : Nat} : (s.manage bit).memoriesWf := by
  simp [State.manage, h]

@[simp] theorem State.memoriesWf.notify {c : Fin 64} : (s.notify c).memoriesWf := by
  simp only [State.notify]
  split
  · exact h.modCtx.wr.irq
  · exact h.modCtx.irq

@[simp] theorem State.memoriesWf.setCtx {c : Fin 64} {st : CtxState} : (s.setCtx c st).memoriesWf := by
  simp [State.setCtx, h]

@[simp] theorem State.memoriesWf.engPut {pa : Nat} {b : Byte} : (s.engPut pa b).memoriesWf := by
  unfold State.engPut
  split
  · exact ⟨Memory.wf_put _ _ h.1, h.2⟩
  · exact h

end

@[simp] theorem State.memoriesWf.engStore {s : State} (h : s.memoriesWf) {pa : Nat} {b : List Byte} : (s.engStore pa b).memoriesWf := by
  induction b generalizing s pa with
  | nil => exact h
  | cons b l ih => exact ih h.engPut


section
variable {s : State} (h : s.memoriesWf)
include h

@[simp] theorem State.memoriesWf.engPutBytes {pa : Nat} {b : List Byte} : (s.engPutBytes pa b).memoriesWf :=
  h.engStore.l2Access

@[simp] theorem State.memoriesWf.recheckSignals : s.recheckSignals.memoriesWf := h

end

theorem State.memoriesWf.putPieces {s t : State} (h : s.memoriesWf) {c : Fin 64} {l : List (Nat × List Byte)} (hp : s.putPieces c l = .ok t) :
    t.memoriesWf := by
  induction l generalizing t with
  | nil => cases hp; exact h
  | cons e l ih =>
    obtain ⟨va, b⟩ := e
    simp only [State.putPieces] at hp
    split at hp
    · split at hp
      · cases hp
      · split at hp
        · next u hu =>
          cases hp
          exact (ih hu).engPutBytes
        · next hno => exact absurd hp (hno t)
    all_goals cases hp

theorem State.memoriesWf.putVa {s t : State} (h : s.memoriesWf) {c : Fin 64} {va : Nat} {b : List Byte} (hp : s.putVa c va b = .ok t) :
    t.memoriesWf := h.putPieces hp


section
variable {s : State} (h : s.memoriesWf)
include h

@[simp] theorem State.memoriesWf.loseLog {c : Fin 64} : (s.loseLog c).memoriesWf := h

end

/-! ## Barrier objects and banks of a group (12 R285, 13 R299, R303 to R305) -/

section
variable {x : Group} (h : x.Canonical)
include h

@[simp] theorem Group.Canonical.setBar {off : Nat} {b : Bar} : (x.setBar off b).Canonical :=
  ⟨Memory.wf_wr _ _ _ h.1, h.2⟩

@[simp] theorem Group.Canonical.barAdd {off n : Nat} : (x.barAdd off n).Canonical := by
  simp only [Group.barAdd]
  split
  · exact h
  · exact h.setBar

@[simp] theorem Group.Canonical.barLand {off n : Nat} : (x.barLand off n).Canonical := h.barAdd

@[simp] theorem Group.Canonical.barBreak {off ident : Nat} : (x.barBreak off ident).Canonical := by
  simp only [Group.barBreak]
  split
  · exact h
  · exact h.setBar

@[simp] theorem Group.Canonical.present {line : Nat} : (x.present line).Canonical := h

@[simp] theorem Group.Canonical.csyncSwap {k : Nat} : (x.csyncSwap k).Canonical := by
  unfold Group.csyncSwap
  split <;> exact h

@[simp] theorem Group.Canonical.csyncUpTo {m : Nat} : (x.csyncUpTo m).Canonical := h.foldl (fun _ _ hy => hy.csyncSwap)

@[simp] theorem Group.Canonical.gsyncSettle : x.gsyncSettle.Canonical := by
  unfold Group.gsyncSettle
  split
  · exact h
  · split <;> exact h

end

/-! ## The end of a copy (12 R284, R292) -/

theorem Group.Canonical.leave {x : Group} (h : x.Canonical) {c : Copy} {ok : Bool} : (c.leave ok x).Canonical := by
  have hl : (c.lines.foldl Group.present x).Canonical := h.foldl (fun _ _ hy => hy.present)
  have hb : (match c.bar with
      | none => c.lines.foldl Group.present x
      | some b => if ok then (c.lines.foldl Group.present x).barLand b c.barLeft
        else (c.lines.foldl Group.present x).barBreak b c.ident.toNat).Canonical := by
    split
    · exact hl
    · split
      · exact hl.barLand
      · exact hl.barBreak
  simp only [Copy.leave]
  split
  · exact hb.same rfl rfl rfl rfl
  · exact hb


section
variable {s : State} (h : s.memoriesWf)
include h

@[simp] theorem State.memoriesWf.endCopy {id : Nat} {st : CopyState} {cause addr : Nat} : (s.endCopy id st cause addr).memoriesWf := by
  cases hc : tget s.copies id with
  | none => rw [State.endCopy, hc]; exact h
  | some c =>
    by_cases hl : c.st = .running ∨ c.st = .parked
    · cases hs : s.copySends id with
      | true => rw [State.endCopy_sending hc hl hs]; exact h
      | false =>
        have hend : (s.copyEnded id c st cause).memoriesWf := (h.modGroup (fun x hx => hx.leave)).modWarp.same rfl rfl rfl
        rw [State.endCopy_ends hc hl hs]
        split
        · exact hend.log
        · exact hend
    · rw [State.endCopy, hc]
      simp [hl, h]

@[simp] theorem State.memoriesWf.copyAnswered {id : Nat} : (s.copyAnswered id).memoriesWf := by
  unfold State.copyAnswered
  split <;> simp [h]

@[simp] theorem State.memoriesWf.cancelCopies {p : Copy → Bool} : (s.cancelCopies p).memoriesWf := by
  refine h.foldl (fun t e ht => ?_)
  split
  · exact ht.endCopy
  · exact ht

@[simp] theorem State.memoriesWf.modCore {c : Nat} {f : Core → Core} : (s.modCore c f).memoriesWf := h

@[simp] theorem State.memoriesWf.acquire {core scope : Nat} : (s.acquire core scope).memoriesWf := by
  unfold State.acquire
  split <;> exact h

@[simp] theorem State.memoriesWf.homeWrite {core pa : Nat} {b : List Byte} : (s.homeWrite core pa b).memoriesWf := by
  simp only [State.homeWrite]
  repeat' split
  all_goals simp [h]

@[simp] theorem State.memoriesWf.l1DropAll {cores : Nat → Bool} {pa n : Nat} : (s.l1DropAll cores pa n).memoriesWf := h

end

/-! ## The ends of warps, groups, launches and contexts (05 R101, 07 R141, R142, 08 R163, R164) -/


section
variable {s : State} (h : s.memoriesWf)
include h

@[simp] theorem State.memoriesWf.clusterStep {launch phase q : Nat} : (s.clusterStep launch phase q).memoriesWf := by
  simp only [State.clusterStep]
  split
  · exact h
  · split
    · refine ⟨h.1, h.2.1, GroupsCanonical.map h.2.2 (fun e he => ?_)⟩
      dsimp only
      split
      · exact he.foldl (fun _ _ hx => hx.csyncSwap)
      · exact he
    · exact h

@[simp] theorem State.memoriesWf.joinSettle {g : Nat} : (s.joinSettle g).memoriesWf := by
  unfold State.joinSettle
  split
  · exact h
  · split
    · exact h.modGroup (fun _ hx => hx.csyncUpTo)
    · exact h

@[simp] theorem State.memoriesWf.settleSync {g : Nat} : (s.settleSync g).memoriesWf := by
  have hg : (s.modGroup g Group.gsyncSettle).memoriesWf := h.modGroup (fun _ hx => hx.gsyncSettle)
  simp only [State.settleSync]
  split
  · exact hg
  · split
    · exact hg.joinSettle
    · exact hg.joinSettle.clusterStep

@[simp] theorem State.memoriesWf.discard {g w : Nat} : (s.discard g w).memoriesWf := h

@[simp] theorem State.memoriesWf.trimEngine : s.trimEngine.memoriesWf := h

@[simp] theorem State.memoriesWf.endWarp {g w cause : Nat} {abort : Bool} : (s.endWarp g w cause abort).memoriesWf := by
  simp only [State.endWarp]
  split
  · split
    · exact h
    · next x y _ _ _ =>
      have hrec : (match y.held with
          | some k => s.returnRec k cause abort
          | none => s).memoriesWf := by
        split
        · exact h.returnRec
        · exact h
      have howe := hrec.foldl (l := y.attach) (f := fun t q => t.owe (cfin x.ctx) (.detach q.toNat g w)) (fun _ _ ht => ht.owe)
      refine State.memoriesWf.settleSync (State.memoriesWf.trimEngine (State.memoriesWf.modGroup howe.modCtx.discard.modWarp (fun z hz => ?_)))
      exact hz.same rfl rfl rfl rfl
  · exact h

@[simp] theorem State.memoriesWf.freeImage {g : Nat} : (s.freeImage g).memoriesWf := by
  unfold State.freeImage
  split
  · exact h
  · split
    · refine State.memoriesWf.modCtx (State.memoriesWf.modGroup h (fun _ hx => ?_))
      exact hx.same rfl rfl rfl rfl
    · exact h

@[simp] theorem State.memoriesWf.drainCheck {l : Nat} : (s.drainCheck l).memoriesWf := by
  simp only [State.drainCheck]
  repeat' split
  all_goals exact h

@[simp] theorem State.memoriesWf.exitGroup {g : Nat} : (s.exitGroup g).memoriesWf := by
  simp only [State.exitGroup]
  split
  · exact h
  · split
    · apply State.memoriesWf.drainCheck
      split
      · refine State.memoriesWf.clusterStep (State.memoriesWf.trimEngine (State.memoriesWf.modGroup h.freeImage (fun x hx => ?_)))
        split <;> exact hx.same rfl rfl rfl rfl
      · refine State.memoriesWf.trimEngine (State.memoriesWf.modGroup h.freeImage (fun x hx => ?_))
        split <;> exact hx.same rfl rfl rfl rfl
    · exact h

@[simp] theorem State.memoriesWf.killGroup {g cause : Nat} {abort : Bool} : (s.killGroup g cause abort).memoriesWf := by
  simp only [State.killGroup]
  split
  · exact h
  · split
    · exact h
    · next x _ _ =>
      have hend := State.memoriesWf.foldl (h.cancelCopies (p := fun c => decide (c.g = g) && c.touchesGroup)) (l := List.range x.warps.length)
        (f := fun t w => t.endWarp g w cause abort) (fun _ _ ht => ht.endWarp)
      have hgone := hend.freeImage (g := g) |>.modGroup (g := g) (f := fun y => { (y.dropTiles) with st := .killed, lastQuad := none })
        (fun _ hx => hx.same rfl rfl rfl rfl) |>.trimEngine
      apply State.memoriesWf.drainCheck
      split
      · exact hgone.clusterStep
      · exact hgone

@[simp] theorem State.memoriesWf.idleCheck {c : Fin 64} : (s.idleCheck c).memoriesWf := by
  unfold State.idleCheck
  split <;> simp [h]

@[simp] theorem State.memoriesWf.complete {k : Kernel} {v : Nat} : (s.complete k v).memoriesWf := by
  simp only [State.complete]
  repeat' split
  all_goals exact h

@[simp] theorem State.memoriesWf.endLaunch {l : Nat} {st : LaunchState} {signal : Bool} : (s.endLaunch l st signal).memoriesWf := by
  have hb : (s.endBinds l).memoriesWf := h.endBinds
  simp only [State.endLaunch]
  split
  · exact h
  · split
    · apply State.memoriesWf.complete
      exact hb
    · exact hb

@[simp] theorem State.memoriesWf.abortLaunch {l : Nat} {signal : Bool} : (s.abortLaunch l signal).memoriesWf := by
  have hkill : (s.groups.foldl (fun t e => if e.2.launch = l then t.killGroup e.1 0 true else t) s).memoriesWf := h.foldl (fun t e ht => by
    split
    · exact ht.killGroup
    · exact ht)
  simp only [State.abortLaunch]
  split
  · exact h
  · split
    · split
      · exact hkill.cancelCopies.endBinds
      · exact hkill.cancelCopies.endLaunch
    · exact h

@[simp] theorem State.memoriesWf.discardLoaded {c : Fin 64} : (s.discardLoaded c).memoriesWf := h

end

/-! ## Writes that are due (05 R104) -/

theorem State.memoriesWf.pay {s : State} (h : s.memoriesWf) {c : Fin 64} {o : Owed} : (s.pay c o).state.memoriesWf := by
  cases o with
  | log b =>
    simp only [State.pay]
    split
    · exact h.loseLog
    · split
      · next hp => exact (h.putVa hp).modCtx.notify
      · exact h.loseLog.notify
      · exact h.addFault
      · exact h.loseLog.notify
  | signal a v =>
    simp only [State.pay]
    split
    · split
      · exact h.log
      · exact h.engPutBytes.recheckSignals
    · exact h.log
    · exact h.addFault
    · exact h.log
  | detach q g w =>
    simp only [State.pay]
    split
    · split
      · exact h
      · exact h.engPutBytes
    · exact h.addFault
    · exact h
    · exact h
  | slot a b id slot =>
    simp only [State.pay]
    split
    · next hp => exact h.putVa hp
    · exact h.failRec
    · exact h.addFault
    · exact h

theorem State.memoriesWf.payAll {s : State} (h : s.memoriesWf) {n : Nat} {c : Fin 64} : (State.payAll n s c).1.memoriesWf := by
  induction n generalizing s with
  | zero => exact h
  | succ n ih =>
    rw [State.payAll]
    split
    · exact h
    · next o r _ =>
      have hpay := State.memoriesWf.pay (h.modCtx (c := c) (f := fun y => { y with owed := r })) (c := c) (o := o)
      split
      · next t ht => rw [ht] at hpay; exact ih hpay
      · next t ht => rw [ht] at hpay; exact hpay
      · next t k ht => rw [ht] at hpay; exact hpay


section
variable {s : State} (h : s.memoriesWf)
include h

@[simp] theorem State.memoriesWf.paid {c : Fin 64} : (s.paid c).memoriesWf :=
  h.payAll

@[simp] theorem State.memoriesWf.faultFrom {node : Nat} {c : Fin 64} {cause source unit addr ref mask : Nat} :
    (s.faultFrom node c cause source unit addr ref mask).memoriesWf := by
  unfold State.faultFrom
  split
  · have habort : (((s.modCtx c (fun y => { y with suspending := false })).setCtx c .faulted).launches.foldl
        (fun t e => if cfin e.2.k.ctx = c then t.abortLaunch e.1 true else t)
        ((s.modCtx c (fun y => { y with suspending := false })).setCtx c .faulted)).memoriesWf := h.modCtx.setCtx.foldl (fun t e ht => by
      split
      · exact ht.abortLaunch
      · exact ht)
    apply State.memoriesWf.paid
    apply State.memoriesWf.log
    exact habort.cancelCopies
  · exact h

@[simp] theorem State.memoriesWf.faultContext {c : Fin 64} {cause source unit addr ref mask : Nat} :
    (s.faultContext c cause source unit addr ref mask).memoriesWf := by
  simp [State.faultContext, h]

@[simp] theorem State.memoriesWf.flush {c : Fin 64} : (s.flush c).memoriesWf := by
  have hpay := h.payAll (n := 4 * s.ctxs[c].owed.length + 16) (c := c)
  unfold State.flush
  split
  · next t ht => rw [ht] at hpay; exact hpay
  · next t k ht => rw [ht] at hpay; exact hpay.faultContext.paid

@[simp] theorem State.memoriesWf.suspendCheck {c : Fin 64} : (s.suspendCheck c).memoriesWf := by
  unfold State.suspendCheck
  split <;> simp [h]

@[simp] theorem State.memoriesWf.setSched {g w : Nat} {x : Sched} : (s.setSched g w x).memoriesWf :=
  State.memoriesWf.modWarp h

@[simp] theorem State.memoriesWf.parkCheck {g w : Nat} : (s.parkCheck g w).memoriesWf := by
  simp only [State.parkCheck]
  repeat' split
  all_goals simp [h]

@[simp] theorem State.memoriesWf.release {g w : Nat} {d : Dest} : (s.release g w d).memoriesWf := by
  simp only [State.release]
  repeat' split
  all_goals simp [h]

@[simp] theorem State.memoriesWf.dropFailed {g w : Nat} {pc : DWord} {lanes : Word} : (s.dropFailed g w pc lanes).memoriesWf :=
  State.memoriesWf.foldl h (fun _ _ ht => ht.release)

end

theorem State.memoriesWf.spillUntil {s t : State} (h : s.memoriesWf) {core need : Nat} {l : List Movable} (hs : s.spillUntil core need l = some t) :
    t.memoriesWf := by
  induction l generalizing s with
  | nil =>
    simp only [State.spillUntil, Option.ite_none_right_eq_some, Option.some.injEq] at hs
    obtain ⟨-, rfl⟩ := hs
    exact h
  | cons e l ih =>
    simp only [State.spillUntil] at hs
    split at hs
    · cases hs; exact h
    · split at hs
      · exact ih h.modWarp hs
      · cases hs

theorem State.memoriesWf.makeRoom {s t : State} (h : s.memoriesWf) {core g w need : Nat} (hs : s.makeRoom core g w need = some t) : t.memoriesWf :=
  h.spillUntil hs


section
variable {s : State} (h : s.memoriesWf)
include h

@[simp] theorem State.memoriesWf.takeDue {g w : Nat} : (s.takeDue g w).memoriesWf := by
  simp only [State.takeDue]
  split
  · split
    · exact h
    · split
      · exact h
      · split
        · exact h.setSched
        · split
          · exact h.addFault
          · exact h.faultContext
          · exact h.faultContext
          · split
            · exact h.faultContext
            · split
              · exact h.faultContext
              · split
                · exact h.faultContext
                · split
                  · exact h
                  · next hs => exact (h.makeRoom hs).modWarp
  · exact h

@[simp] theorem State.memoriesWf.handlerFault {g w code addr : Nat} {pc : DWord} {mask : Word} : (s.handlerFault g w code addr pc mask).memoriesWf := by
  simp [State.handlerFault, h]

@[simp] theorem State.memoriesWf.raise {g w : Nat} {d : Due} : (s.raise g w d).memoriesWf := by
  simp [State.raise, h]

@[simp] theorem State.memoriesWf.beforeReplay {r : Ref} {f : Frag} : (s.beforeReplay r f).memoriesWf := by
  unfold State.beforeReplay
  split <;> simp [h]

@[simp] theorem State.memoriesWf.laneFail {g w : Nat} {pl0 : Bool} {pc : DWord} {lanes : Word} {causes : List LaneCause} :
    (s.laneFail g w pl0 pc lanes causes).memoriesWf := by
  unfold State.laneFail
  split <;> simp [h]

@[simp] theorem State.memoriesWf.setStatus {r : Ref} {st : FragStatus} : (s.setStatus r st).memoriesWf := by
  simp [State.setStatus, h]

@[simp] theorem State.memoriesWf.tretResume {g w : Nat} {skip retry : Bool} : (s.tretResume g w skip retry).memoriesWf := by
  simp only [State.tretResume]
  split
  · exact h
  · next z _ =>
    split
    · exact h
    · next k _ =>
      have hdrop : (if skip then
          if k.kind = .lane then s.dropFailed g w z.trap.fpc z.trap.fmask
          else match k.frag.replays with
            | [] => s
            | p :: _ => s.dropFailed g w p.pc p.lanes
        else s).memoriesWf := by
        split
        · split
          · exact h.dropFailed
          · split
            · exact h
            · exact h.dropFailed
        · exact h
      split
      · exact hdrop.modWarp.takeDue
      · split
        · exact hdrop.modWarp.takeDue.setSched
        · exact hdrop.modWarp.takeDue

end

end Sys2Proof.Machine
end

section
/-! O58, the ways between dies, and the accesses of lanes: each leaves every memory canonical. -/

namespace Sys2Proof.Machine

/-! ## Packets leave (18 R409, R417) -/

section
variable {s : State} (h : s.memoriesWf)
include h

@[simp] theorem State.memoriesWf.addPopWait {p : PopWait} : (s.addPopWait p).memoriesWf := by
  unfold State.addPopWait
  split <;> exact h

@[simp] theorem State.memoriesWf.delPopWait {p : PopWait} : (s.delPopWait p).memoriesWf := h

@[simp] theorem State.memoriesWf.modLink {k : Fin 18} {f : Link → Link} : (s.modLink k f).memoriesWf := h

@[simp] theorem State.memoriesWf.modDir {d : Nat} {f : LinkDir → LinkDir} : (s.modDir d f).memoriesWf := h

@[simp] theorem State.memoriesWf.eventLog {kind index reason : Nat} : (s.eventLog kind index reason).memoriesWf := h

@[simp] theorem State.memoriesWf.lostRoute : s.lostRoute.memoriesWf :=
  State.memoriesWf.manage (s := ({ s with persist := { s.persist with lost := s.persist.lost + 1 } } : State).eventLog 5 0 3) h

@[simp] theorem State.memoriesWf.toStation {key : Nat} {p : Packet} : (s.toStation key p).memoriesWf := h

@[simp] theorem State.memoriesWf.offStation {key : Nat} {k : LinkClass} : (s.offStation key k).memoriesWf := h

@[simp] theorem State.memoriesWf.sendFrom {x : Station} {p : Packet} : (s.sendFrom x p).memoriesWf := h

@[simp] theorem State.memoriesWf.enqueue {d : Nat} {p : Packet} : (s.enqueue d p).memoriesWf := h

@[simp] theorem State.memoriesWf.depart {die dir : Nat} {p : Packet} : (s.depart die dir p).memoriesWf := by
  have hs : (s.stamp die p).1.memoriesWf := by
    unfold State.stamp
    split <;> exact h
  exact hs

end

/-! ## Lanes (14 R319 to R323, R331) -/

section
variable {x : Group} (h : x.Canonical)
include h

@[simp] theorem Group.Canonical.winWr {w : Nat} {sp : Space} {a n v : Nat} : (x.winWr w sp a n v).Canonical := by
  cases sp with
  | spad => exact ⟨Memory.wf_wr _ _ _ h.1, h.2⟩
  | xlive =>
    simp only [Group.winWr, Group.window, Group.live]
    split
    · exact ⟨h.1, h.2.1, h.2.2.1, Memory.wf_wr _ _ _ h.2.2.2⟩
    · exact ⟨h.1, h.2.1, Memory.wf_wr _ _ _ h.2.2.1, h.2.2.2⟩
  | numa => exact ⟨h.1, Memory.wf_wr _ _ _ h.2.1, h.2.2⟩
  | mem b => exact h

@[simp] theorem Group.Canonical.winHeal {w : Nat} {sp : Space} {a n : Nat} : (x.winHeal w sp a n).Canonical := h.same rfl rfl rfl rfl

end

section
variable {s : State} (h : s.memoriesWf)
include h

@[simp] theorem State.memoriesWf.readVia {core : Option Nat} {narrow : Bool} {count : Option Nat} {pa n : Nat} :
    (s.readVia core narrow count pa n).1.memoriesWf := by
  simp only [State.readVia]
  split
  · split
    · exact h
    · exact h.l2Access.modCore
  · exact h.l2Access

@[simp] theorem State.memoriesWf.writeVia {core : Option Nat} {pa n v : Nat} {sub : Bool} : (s.writeVia core pa n v sub).memoriesWf := by
  simp only [State.writeVia]
  split
  · split
    · exact h.engPutBytes
    · exact h.engPutBytes.modCore
  · exact h.engPutBytes

@[simp] theorem State.memoriesWf.did {st : LaneState} : (s.did st).s.memoriesWf := h

@[simp] theorem State.memoriesWf.noRoute {m : MemOp} : (s.noRoute m).s.memoriesWf := by
  unfold State.noRoute
  split
  · exact h.lostRoute.modWarp
  · exact h.lostRoute

@[simp] theorem State.memoriesWf.sendRemote {core : Option Nat} {id : Nat} {m : MemOp} {l : LaneAcc} {pa n : Nat} :
    (s.sendRemote core id m l pa n).s.memoriesWf := by
  simp only [State.sendRemote]
  split
  · exact h.noRoute
  · split
    · exact h
    · split
      · exact State.memoriesWf.modWarp h
      · exact h

@[simp] theorem State.memoriesWf.doTag {m : MemOp} {l : LaneAcc} {pa : Nat} {te : Bool} : (s.doTag m l pa te).s.memoriesWf := by
  have hat {t : State} (ht : t.memoriesWf) : (match s.tagPlace (localPart pa) with
      | some (a, _) => t.l2Touch a 1 (decide (m.kind = MemKind.tagst))
      | none => t).memoriesWf := by
    split
    · exact ht.l2Touch
    · exact ht
  simp only [State.doTag]
  split
  · exact h
  · split
    · split
      · exact hat h.setTag
      · exact h
    · split
      · exact hat h
      · exact h

@[simp] theorem State.memoriesWf.doLocal {core : Option Nat} {m : MemOp} {l : LaneAcc} {pa n : Nat} :
    (s.doLocal core m l pa n).s.memoriesWf := by
  simp only [State.doLocal]
  split
  case h_4 => exact h.readVia.writeVia
  case h_5 => exact h.readVia
  all_goals simp [h]

@[simp] theorem State.memoriesWf.atHome {core : Option Nat} {c : Fin 64} {tag : Nat} {m : MemOp} {l : LaneAcc} {pa n : Nat} {te : Bool} :
    (s.atHome core c tag m l pa n te).s.memoriesWf := by
  unfold State.atHome
  split
  · exact h
  · split
    · exact h
    · split
      · exact h.doTag
      · split
        · exact h
        · exact h.doLocal

@[simp] theorem State.memoriesWf.sendInside {core id : Nat} {m : MemOp} {l : LaneAcc} {pa n : Nat} {te : Bool} :
    (s.sendInside core id m l pa n te).s.memoriesWf := by
  simp only [State.sendInside]
  split
  · exact h.noRoute
  · split <;> exact h

@[simp] theorem State.memoriesWf.doMem {core : Option Nat} {c : Fin 64} {b : BaseReg} {id : Nat} {m : MemOp} {l : LaneAcc} :
    (s.doMem core c b id m l).s.memoriesWf := by
  simp only [State.doMem]
  split
  · exact h
  · exact h.addFault
  · exact h
  · next pa te leaf _ =>
    have hfill : (match core, leaf with
        | some k, some e => s.tlbFill k c l.addr e
        | _, _ => s).memoriesWf := by
      split
      · exact h.tlbFill
      · exact h
    split
    · split
      · exact hfill.doTag
      · exact hfill.sendRemote
    · split
      · exact hfill.sendInside
      · exact hfill.atHome

@[simp] theorem State.memoriesWf.doWin {x : Group} {m : MemOp} {l : LaneAcc} : (s.doWin x m l).s.memoriesWf := by
  simp only [State.doWin]
  split
  · exact h
  · split
    · exact h
    · split
      · exact h.modGroup (fun y hy => hy.winWr.winHeal)
      · exact h.modGroup (fun y hy => hy.winWr.winHeal)
      · exact h

@[simp] theorem State.memoriesWf.doLane {core : Option Nat} {id : Nat} {m : MemOp} {l : LaneAcc} : (s.doLane core id m l).s.memoriesWf := by
  unfold State.doLane
  split
  · exact h
  · split
    · exact h.doMem
    · exact h.doWin

@[simp] theorem State.memoriesWf.answered {tag : Nat} {failed : Bool} : (s.answered tag failed).memoriesWf := by
  simp only [State.answered]
  repeat' split
  all_goals simp [h]

omit h in
theorem State.memoriesWf.doLanes {s : State} (h : s.memoriesWf) {core : Option Nat} {id : Nat} {m : MemOp} {ls : List LaneAcc} {lines : List Nat} :
    (State.doLanes core id m ls s lines).1.memoriesWf := by
  induction ls generalizing s lines with
  | nil => exact h
  | cons l r ih =>
    simp only [State.doLanes]
    split
    · split
      · exact h
      · exact ih h.doLane
    · split
      · exact ih h.answered
      · exact ih h
    · exact ih h

/-! ## The end of an instruction (14 R319, R321) -/

@[simp] theorem State.memoriesWf.memSettle {id : Nat} : (s.memSettle id).memoriesWf := by
  simp only [State.memSettle]
  split
  · exact h
  · next m _ =>
    split
    · exact h
    · have hdone : (if m.dst = Dest.none then ({ s with memops := tdel s.memops id } : State)
          else { s with memops := tput s.memops id { m with landed := true } }).memoriesWf := by
        split <;> exact h
      cases s.warp m.g m.w with
      | none => exact h
      | some y =>
        dsimp only
        split
        · exact h
        · split
          · exact State.memoriesWf.modWarp h
          · split
            · split
              · exact hdone.acquire
              · exact hdone
            · exact hdone
          · apply State.memoriesWf.laneFail
            split
            · exact State.memoriesWf.modWarp h
            · split
              · exact h
              · exact State.memoriesWf.modWarp h

@[simp] theorem State.memoriesWf.countLines {core : Option Nat} {lines : List Nat} : (s.countLines core lines).memoriesWf := by
  unfold State.countLines
  split
  · exact h
  · split
    · exact h
    · exact h.modCore

@[simp] theorem State.memoriesWf.channelsWait {l : List ChannelReq} : (s.channelsWait l).memoriesWf := h

@[simp] theorem State.memoriesWf.serveBatches {l : List ChannelReq} : (s.serveBatches l).memoriesWf := by
  refine h.foldl (fun t ch ht => ?_)
  have hwait : (if (t.channel ch).waiting.isSome then
      { t with channels := tput t.channels ch { t.channel ch with waiting := none } } else t : State).memoriesWf := by
    split <;> exact ht
  exact hwait.foldl (fun u q hu => hu.foldl (fun v i hv => hv.l2Touch))

@[simp] theorem State.memoriesWf.settleLane {r : Remote} {st : LaneState} : (s.settleLane r st).memoriesWf := by
  apply State.memoriesWf.takeDue
  apply State.memoriesWf.memSettle
  exact h

@[simp] theorem State.memoriesWf.acknowledged {tag : Nat} : (s.acknowledged tag).memoriesWf := by
  unfold State.acknowledged
  split
  · exact h
  · split
    · exact h.answered.settleLane
    · split
      · exact h.answered
      · exact h

end

end Sys2Proof.Machine
end

section
/-! O58, groups and contexts: what places, saves, restores and ends them leaves every memory canonical. -/

namespace Sys2Proof.Machine

/-- What a step comes to keeps every memory canonical. -/
def EndsCanonical (o : Host.Outcome State Fault Refusal) : Prop := ∀ t, o = .next t → t.memoriesWf

theorem endsCanonical_next {t : State} (h : t.memoriesWf) : EndsCanonical (.next t) := fun _ e => by cases e; exact h

/-- A state with the memories of another one. -/
theorem State.memoriesWf.parts {t : State} (h : t.memoriesWf) :
    Memory.wf t.mem = true ∧ Memory.wf t.bar0 = true ∧ GroupsCanonical t.groups := h

theorem State.memoriesWf.ite {c : Prop} [Decidable c] {s t : State} (hs : s.memoriesWf) (ht : t.memoriesWf) : (if c then s else t).memoriesWf := by
  split
  · exact hs
  · exact ht

theorem GroupsCanonical.filter {l : Tab Group} (h : GroupsCanonical l) {p : Nat × Group → Bool} : GroupsCanonical (l.filter p) :=
  fun e he => h e (List.mem_filter.mp he).1

section
variable {s : State} (h : s.memoriesWf)
include h

/-! ## Performing and write-back (03 R62, 14 R319) -/

theorem endsCanonical_memoryAccessComplete {id : Nat} : EndsCanonical (execMemoryAccessComplete id s) := by
  unfold execMemoryAccessComplete
  split
  · exact endsCanonical_next h.acknowledged
  · next m _ =>
    split
    · exact endsCanonical_next h
    · next core _ =>
      split
      · exact endsCanonical_next h
      · dsimp only
        split
        · exact endsCanonical_next h.channelsWait
        · have hl := h.serveBatches (l := s.channelReqs core (cfin (s.ctxOf m.g)) id m) |>.doLanes (core := core) (id := id) (m := m) (ls := m.lanes)
            (lines := [])
          split
          · exact endsCanonical_next h.faultContext
          · refine endsCanonical_next (State.memoriesWf.takeDue (State.memoriesWf.memSettle ?_))
            exact hl.countLines.same rfl rfl rfl

@[simp] theorem State.memoriesWf.unpark {ctx page : Nat} : (s.unpark ctx page).memoriesWf := h

@[simp] theorem State.memoriesWf.rejudge {ctx page n : Nat} : (s.rejudge ctx page n).memoriesWf :=
  State.memoriesWf.foldl (s := { s with migs := _ }) h (fun _ _ ht => ht.unpark)

@[simp] theorem State.memoriesWf.landFull {id : Nat} {m : MemOp} : (s.landFull id m).memoriesWf := by
  simp only [State.landFull]
  exact State.memoriesWf.release (State.memoriesWf_mk.2 (State.memoriesWf.parts h.modWarp))

@[simp] theorem State.memoriesWf.landRead {g w : Nat} {r : LaneRead} : (s.landRead g w r).memoriesWf := h.modWarp

theorem endsCanonical_producerWriteback {id : Nat} : EndsCanonical (execProducerWriteback id s) := by
  refine endsCanonical_next ?_
  split
  · split
    · exact h.landFull
    · exact h
  · split
    · exact h.landRead
    · exact h

/-! ## Placement, saving and restoring (08 R143 to R153, R163) -/

@[simp] theorem State.memoriesWf.ctxRunning {c : Fin 64} : (s.ctxRunning c).memoriesWf := by
  unfold State.ctxRunning
  split
  · exact h.setCtx
  · exact h

@[simp] theorem State.memoriesWf.reserve {g : Nat} {x : Group} : (s.reserve g x).memoriesWf := by
  unfold State.reserve
  split
  · exact h
  · refine State.memoriesWf.modCtx (State.memoriesWf.modGroup h (fun y hy => ?_))
    exact hy.same rfl rfl rfl rfl

@[simp] theorem State.memoriesWf.placeNew {g : Nat} {x : Group} {core : Nat} : (s.placeNew g x core).memoriesWf := by
  simp only [State.placeNew]
  split
  · next s1 _ hroom =>
    refine State.memoriesWf.acquire (State.memoriesWf.exitGroup (State.memoriesWf.settleSync (State.memoriesWf.ctxRunning ?_)))
    refine State.memoriesWf_mk.2 (State.memoriesWf.parts (State.memoriesWf.modGroup (h.makeRoom hroom).reserve (fun y hy => ?_)))
    exact hy.same rfl rfl rfl rfl
  · exact h

@[simp] theorem State.memoriesWf.placeSaved {g : Nat} {x : Group} {core : Nat} : (s.placeSaved g x core).memoriesWf := by
  simp only [State.placeSaved]
  split
  · next s1 hroom =>
    have hplaced := ((h.makeRoom hroom).modGroup (g := g)
      (f := fun y => { y with
        st := .restoring, core := some core, warps := y.warps.zipIdx.map (fun (w, i) => { w with slotNo := (s.freeSlots core).getD i 0 }) })
      (fun y hy => hy.same rfl rfl rfl rfl)).ctxRunning (c := cfin x.ctx) |>.settleSync (g := g)
    apply State.memoriesWf.acquire
    split
    · exact hplaced.clusterStep
    · exact hplaced
  · exact h

@[simp] theorem State.memoriesWf.placeFresh {g : Nat} {x : Group} {core : Nat} : (s.placeFresh g x core).memoriesWf := by
  simp only [State.placeFresh]
  split
  · exact h.addFault
  · exact h.faultContext
  · exact h.placeNew

theorem endsCanonical_groupPlacement : EndsCanonical (execGroupPlacement s) := by
  refine endsCanonical_next ?_
  split
  · exact h
  · split
    · exact h
    · split
      · exact h.placeSaved
      · exact h.placeFresh

@[simp] theorem State.memoriesWf.preempt {g : Nat} : (s.preempt g).memoriesWf :=
  h.modGroup (fun y hy => by
    split
    · exact hy.same rfl rfl rfl rfl
    · exact hy)

theorem endsCanonical_preemptionStart : EndsCanonical (execPreemptionStart s) := by
  refine endsCanonical_next ?_
  split
  · exact h
  · split
    · exact h
    · split
      · exact h.preempt
      · exact h

@[simp] theorem State.memoriesWf.suspendCtx {c : Fin 64} : (s.suspendCtx c).memoriesWf := by
  simp only [State.suspendCtx]
  split
  · exact h.discardLoaded.setCtx
  · refine State.memoriesWf.suspendCheck (State.memoriesWf.foldl h.discardLoaded.modCtx (fun t e ht => ?_))
    split
    · exact ht.preempt
    · exact ht

omit h in
/-- 08 R152: bytes of an image that are stored. -/
theorem State.memoriesWf.putImage {s t : State} (h : s.memoriesWf) {c : Fin 64} {l : List (Nat × Nat)} {b : List Byte} (hp : s.putImage c l b = .ok t) :
    t.memoriesWf := by
  induction l generalizing s b with
  | nil => cases hp; exact h
  | cons e r ih =>
    obtain ⟨a, n⟩ := e
    simp only [State.putImage] at hp
    split at hp
    · cases hp; exact h
    · split at hp
      · next hput => exact ih (h.putVa hput) hp
      · exact h.putVa hp

@[simp] theorem State.memoriesWf.imageStop {c : Fin 64} {x : Stored} (hx : ∀ t, x = .ok t → t.memoriesWf) : (s.imageStop c x).memoriesWf := by
  cases x with
  | ok t => exact hx t rfl
  | park p => exact h.addFault
  | fail k va => exact h.faultContext
  | tables va => exact h.faultContext

@[simp] theorem State.memoriesWf.saveGroup {g : Nat} {x : Group} {image : List Byte} : (s.saveGroup g x image).memoriesWf := by
  simp only [State.saveGroup]
  refine State.memoriesWf.suspendCheck (State.memoriesWf_mk.2 (State.memoriesWf.parts (State.memoriesWf.modGroup h.modCtx (fun y hy => ?_))))
  exact hy.same rfl rfl rfl rfl

theorem endsCanonical_groupSaved {g : Nat} : EndsCanonical (execGroupSaved g s) := by
  refine endsCanonical_next ?_
  split
  · exact h
  · split
    · exact h
    · dsimp only
      split
      · next hp => exact (h.putImage hp).saveGroup.flush
      · next hno => exact h.imageStop (fun t ht => absurd ht (hno t))

@[simp] theorem State.memoriesWf.restoreGroup {g : Nat} {x : Group} : (s.restoreGroup g x).memoriesWf := by
  have hback := h.modGroup (g := g)
    (f := fun y => { y with st := .resident, resSince := s.now, warps := y.warps.map (s.restoreWarp (cfin x.ctx)) })
    (fun y hy => hy.same rfl rfl rfl rfl)
  simp only [State.restoreGroup]
  have hcore : (match x.core with
      | some k =>
        if ((s.modGroup g (fun y => { y with st := .resident, resSince := s.now, warps := y.warps.map (s.restoreWarp (cfin x.ctx)) })).coreAt
            k).l1.isEmpty ∧ ((x.tops.filter TileOp.queued).map (fun (o : TileOp) => EngineEntry.tile g o.id)).isEmpty then
          s.modGroup g (fun y => { y with st := .resident, resSince := s.now, warps := y.warps.map (s.restoreWarp (cfin x.ctx)) })
        else (s.modGroup g (fun y => { y with st := .resident, resSince := s.now, warps := y.warps.map (s.restoreWarp (cfin x.ctx)) })).modCore k
          (fun q => { q with l1 := [], engine := q.engine ++ (x.tops.filter TileOp.queued).map (fun (o : TileOp) => EngineEntry.tile g o.id) })
      | none => s.modGroup g (fun y => { y with st := .resident, resSince := s.now, warps := y.warps.map (s.restoreWarp (cfin x.ctx)) })).memoriesWf := by
    split
    · split
      · exact hback
      · exact hback.modCore
    · exact hback
  exact State.memoriesWf.exitGroup (State.memoriesWf.settleSync (State.memoriesWf.ite hcore.preempt hcore))

omit h in
/-- A map that fails does so for one of its elements. -/
theorem exists_of_mapM_error {α β ε : Type} {f : α → Except ε β} {l : List α} {e : ε} (hm : l.mapM f = .error e) :
    ∃ a ∈ l, f a = .error e := by
  induction l with
  | nil => simp [pure, Except.pure] at hm
  | cons a r ih =>
    rw [List.mapM_cons] at hm
    cases ha : f a with
    | error d =>
      rw [ha] at hm
      cases hm
      exact ⟨a, List.mem_cons_self, ha⟩
    | ok b =>
      cases hr : r.mapM f with
      | error d =>
        simp only [ha, hr, bind, Except.bind] at hm
        cases hm
        obtain ⟨c, hc, hf⟩ := ih hr
        exact ⟨c, List.mem_cons_of_mem a hc, hf⟩
      | ok q =>
        simp only [ha, hr, bind, Except.bind, pure, Except.pure, reduceCtorEq] at hm

omit h in
/-- 15 R359: what reading an image meets is a fault, and no state. -/
theorem State.getImage_error {c : Fin 64} {l : List (Nat × Nat)} {n : Nat} {e : Stored} (he : s.getImage c l n = .error e) : ∀ t, e ≠ .ok t := by
  induction l generalizing n with
  | nil => simp [State.getImage] at he
  | cons p r ih =>
    obtain ⟨a, k⟩ := p
    simp only [State.getImage] at he
    split at he
    · simp at he
    · split at he
      · cases hr : s.getImage c r (n - k) with
        | error d =>
          rw [hr] at he
          cases he
          exact ih hr
        | ok q => rw [hr] at he; simp [Except.map] at he
      · next d hd =>
        cases he
        obtain ⟨x, -, hx⟩ := exists_of_mapM_error hd
        rintro t rfl
        split at hx
        · split at hx <;> cases hx
        all_goals cases hx

theorem endsCanonical_groupRestored {g : Nat} {ok : Bool} : EndsCanonical (execGroupRestored g ok s) := by
  refine endsCanonical_next ?_
  split
  · exact h
  · split
    · exact h
    · dsimp only
      split
      · split
        · exact h.restoreGroup
        · exact h.faultContext
      · next e he => exact h.imageStop (fun t ht => absurd ht (State.getImage_error he t))

theorem endsCanonical_warpActivate {core : Nat} : EndsCanonical (execWarpActivate core s) := by
  refine endsCanonical_next ?_
  dsimp only
  split
  · split
    · exact h.setSched
    · exact h
  · exact h

theorem endsCanonical_spillComplete {g w win : Nat} : EndsCanonical (execSpillComplete g w win s) := by
  refine endsCanonical_next ?_
  split
  · split
    · split
      · exact h.modWarp
      · split
        · split
          · next hroom => exact (h.makeRoom hroom).modWarp
          · exact h
        · exact h
    · exact h
  · exact h

/-! ## Contexts (05 R98 to R103, 20 R438) -/

@[simp] theorem State.memoriesWf.setErr {c : Fin 64} {e : Nat} : (s.setErr c e).memoriesWf := h.modCtx

@[simp] theorem State.memoriesWf.notifyFault {c : Fin 64} : (s.notifyFault c).memoriesWf := h.ite h.faultContext

@[simp] theorem State.memoriesWf.commitCtx {c : Fin 64} : (s.commitCtx c).memoriesWf :=
  h.setErr.ite (h.setErr.ite h.modCtx.setCtx.notifyFault)

@[simp] theorem State.memoriesWf.unbindAll {c : Fin 64} : (s.unbindAll c).memoriesWf := State.memoriesWf_mk.2 h.parts

@[simp] theorem State.memoriesWf.destroyCtx {c : Fin 64} : (s.destroyCtx c).memoriesWf := by
  refine State.memoriesWf.unbindAll (State.memoriesWf.cancelCopies (State.memoriesWf.foldl h.modCtx.setCtx (fun t e ht => ?_)))
  exact ht.abortLaunch.ite ht

@[simp] theorem State.memoriesWf.freeCtx {c : Fin 64} : (s.freeCtx c).memoriesWf :=
  State.memoriesWf.modCtx (State.memoriesWf_mk.2 ⟨h.1, h.2.1, GroupsCanonical.filter h.2.2⟩)

@[simp] theorem State.memoriesWf.ctxCmd {c : Fin 64} {cmd : Nat} {act : State → State} (ha : ∀ t, t.memoriesWf → (act t).memoriesWf) :
    (s.ctxCmd c cmd act).memoriesWf := h.ite ((ha _ h.setErr).ite h.setErr)

theorem endsCanonical_create {c : Fin 64} : EndsCanonical (execCreate c s) :=
  endsCanonical_next (h.ctxCmd (fun _ ht => State.memoriesWf.modCtx (State.memoriesWf_mk.2 ⟨ht.1, Memory.wf_clear _ _ ht.2.1, ht.2.2⟩)))

theorem endsCanonical_commit {c : Fin 64} : EndsCanonical (execCommit c s) := endsCanonical_next (h.ctxCmd (fun _ ht => ht.commitCtx))

theorem endsCanonical_suspend {c : Fin 64} : EndsCanonical (execSuspend c s) := endsCanonical_next (h.ctxCmd (fun _ ht => ht.suspendCtx))

theorem endsCanonical_resume {c : Fin 64} : EndsCanonical (execResume c s) := endsCanonical_next (h.ctxCmd (fun _ ht => ht.setCtx))

theorem endsCanonical_destroy {c : Fin 64} : EndsCanonical (execDestroy c s) :=
  endsCanonical_next (h.ctxCmd (fun _ ht => ht.freeCtx.ite ht.destroyCtx))

theorem endsCanonical_release {c : Fin 64} : EndsCanonical (execRelease c s) := endsCanonical_next (h.ctxCmd (fun _ ht => ht.freeCtx))

theorem endsCanonical_ctxcmdBadcmd {c : Fin 64} {cmd : BitVec 3} : EndsCanonical (execCtxcmdBadcmd c cmd s) := endsCanonical_next (h.setErr.ite h)

@[simp] theorem State.memoriesWf.dropMigs {p : Migration → Bool} : (s.dropMigs p).memoriesWf := State.memoriesWf.ite h h

theorem endsCanonical_contextDead {c : Fin 64} : EndsCanonical (execContextDead c s) := by
  refine endsCanonical_next (State.memoriesWf.ite (State.memoriesWf.setCtx (State.memoriesWf.modCtx (State.memoriesWf.dropMigs ?_))) h)
  exact State.memoriesWf_mk.2 h.parts

theorem endsCanonical_savepoolWrite {v : BitVec 64} : EndsCanonical (execSavepoolWrite v s) := endsCanonical_next (State.memoriesWf.ite h h)

@[simp] theorem State.memoriesWf.clampPinwin : s.clampPinwin.memoriesWf := h.setBar.ite h

omit h in
theorem Memory.wf_putPlain {ok : Nat → Bool} {m : Memory} {a : Nat} {b : List Byte} (hm : Memory.wf m = true) :
    Memory.wf (putPlain ok m a b) = true := by
  induction b generalizing m a with
  | nil => exact hm
  | cons x r ih =>
    refine ih ?_
    split
    · exact Memory.wf_put _ _ hm
    · exact hm

theorem endsCanonical_registerWrite {off size val : Nat} : EndsCanonical (execRegisterWrite off size val s) := by
  refine endsCanonical_next (State.memoriesWf.ite (State.memoriesWf.ite (State.memoriesWf.ite h.setBar h.setErr) h) (State.memoriesWf.ite
    (State.memoriesWf.ite (State.memoriesWf_mk.2 h.parts) h) (State.memoriesWf.clampPinwin ?_)))
  exact State.memoriesWf_mk.2 ⟨h.1, Memory.wf_putPlain h.2.1, h.2.2⟩

end

end Sys2Proof.Machine
end

section
/-! O58, the issue of an instruction word: its checks and its sources, and the control and register instructions, leave every memory canonical. -/

namespace Sys2Proof.Machine

/-! ## How an instruction ends (03 R63, 19 R427) -/

/-- The state in which an instruction stops, where it has one, has canonical memories. -/
def Stop.Canonical : Stop → Prop
  | .wait s _ => s.memoriesWf
  | .late s _ _ => s.memoriesWf
  | _ => True

/-- What a part of an instruction answers is as a predicate says, and where it stops, memories are canonical. -/
def Keeps {α : Type} (P : α → Prop) : Except Stop α → Prop
  | .ok a => P a
  | .error e => e.Canonical

/-- A part of an instruction that answers no state. -/
def Checks {α : Type} (r : Except Stop α) : Prop := Keeps (fun _ => True) r

/-- The memories that an instruction sees are canonical. -/
structure View.Canonical (v : View) : Prop where
  /-- as before the issue -/
  base : v.base.memoriesWf
  /-- with the fragment moved past the instruction -/
  state : v.s.memoriesWf
  /-- its group's windows -/
  group : v.x.Canonical

/-- What an instruction answers from canonical memories has canonical memories. -/
def KeepsMemories (k : View → Except Stop State) : Prop := ∀ v, v.Canonical → Keeps State.memoriesWf (k v)

section
variable {α β : Type} {P : α → Prop} {Q : β → Prop}

theorem Keeps.bind {r : Except Stop α} {k : α → Except Stop β} (hr : Keeps P r) (hk : ∀ a, P a → Keeps Q (k a)) : Keeps Q (r >>= k) := by
  cases r with
  | ok a => exact hk a hr
  | error e => exact hr

/-- A part that answers no state comes before another one. -/
theorem Checks.then {r : Except Stop α} {k : α → Except Stop β} (hr : Checks r) (hk : ∀ a, Keeps Q (k a)) : Keeps Q (r >>= k) :=
  Keeps.bind hr (fun a _ => hk a)

theorem Keeps.ite {c : Prop} [Decidable c] {r q : Except Stop α} (hr : Keeps P r) (hq : Keeps P q) : Keeps P (if c then r else q) := by
  split
  · exact hr
  · exact hq

theorem Keeps.ok {a : α} (h : P a) : Keeps P (.ok a) := h

theorem Checks.ok {a : α} : Checks (.ok a) := trivial

theorem Keeps.trap {v : View} {code faddr : Nat} : Keeps P (.error (v.trap code faddr)) := trivial

theorem Keeps.tables : Keeps P (.error Stop.tables) := trivial

theorem Keeps.weaken {R : α → Prop} {r : Except Stop α} (h : Keeps P r) (hi : ∀ a, P a → R a) : Keeps R r := by
  cases r with
  | ok a => exact hi a h
  | error e => exact h

/-- Checks that follow each other. -/
theorem Checks.mapM {f : β → Except Stop α} (hf : ∀ b, Checks (f b)) (l : List β) : Checks (l.mapM f) := by
  induction l with
  | nil => exact Checks.ok
  | cons b r ih =>
    rw [List.mapM_cons]
    exact (hf b).then (fun _ => ih.then (fun _ => Checks.ok))

end

section
variable {v : View} (h : v.Canonical)
include h

@[simp] theorem View.Canonical.put {y : Warp} : (v.put y).memoriesWf := h.state.modWarp

theorem View.Canonical.hold {α : Type} {P : α → Prop} : Keeps P (.error v.hold) := h.base

theorem View.Canonical.park {α : Type} {P : α → Prop} : Keeps P (.error v.park) := h.base

theorem View.Canonical.parkPage {α : Type} {P : α → Prop} {va : Nat} : Keeps P (.error (v.parkPage va)) := h.base.addFault

/-- A view of another state and warp. -/
theorem View.Canonical.withState {s : State} {y : Warp} (hs : s.memoriesWf) : View.Canonical { v with s := s, y := y } := ⟨h.base, hs, h.group⟩

end

/-! ## The issue (08 R160) -/

theorem mem_of_tget {α : Type} {l : Tab α} {k : Nat} {x : α} (h : tget l k = some x) : (k, x) ∈ l := by
  induction l with
  | nil => cases h
  | cons e r ih =>
    obtain ⟨j, y⟩ := e
    rw [tget] at h
    split at h
    · next hj =>
      cases h
      rw [hj]
      exact List.mem_cons_self
    · exact List.mem_cons_of_mem _ (ih h)

/-- What an instruction sees of canonical memories. -/
theorem State.memoriesWf.viewOf {s : State} (h : s.memoriesWf) {r : Ref} {v : View} (hv : s.viewOf r = some v) : v.Canonical := by
  unfold State.viewOf at hv
  split at hv
  · cases hv
  · next x hx =>
    split at hv
    · cases hv
    · split at hv
      · cases hv
      · cases hv
        refine ⟨h, h.beforeReplay.modWarp, ?_⟩
        exact h.2.2 _ (mem_of_tget hx)

theorem View.Canonical.unspill {v : View} (h : v.Canonical) : Keeps View.Canonical v.unspill := by
  unfold View.unspill
  split
  · split
    · exact h.hold
    · next hroom => exact ⟨h.base, (h.state.makeRoom hroom).modWarp, h.group⟩
  · exact h

theorem View.Canonical.trapIn {v : View} {s : State} (hs : s.memoriesWf) {code : Nat} {kind : TrapKind} {faddr : Nat} {mask : Word} :
    (v.trapIn s code kind faddr mask).memoriesWf := hs.handlerFault.ite hs.setStatus.raise

theorem View.Canonical.finish {v : View} (h : v.Canonical) {a : Except Stop State} (ha : Keeps State.memoriesWf a) : (v.finish a).memoriesWf := by
  cases a with
  | ok s => exact (State.memoriesWf.modWarp ha).takeDue
  | error e =>
    cases e with
    | wait s p => exact (State.memoriesWf.setStatus ha).parkCheck
    | trap code kind faddr mask => exact View.Canonical.trapIn h.base
    | late s code faddr => exact View.Canonical.trapIn ha
    | tables => exact h.base.faultContext

theorem View.Canonical.ordered {v : View} (h : v.Canonical) {k : View → Except Stop State} (hk : KeepsMemories k) :
    Keeps State.memoriesWf (v.ordered k) := by
  have hv := hk v h
  have hb := hk v.blank ⟨h.base, h.state, h.group⟩
  unfold View.ordered
  split
  · split
    · split
      · next t ht =>
        rw [ht] at hb
        split
        · exact hb
        · trivial
      · trivial
    · trivial
  · exact hv

theorem endsCanonical_issue {s : State} (h : s.memoriesWf) {k : View → Except Stop State} (hk : KeepsMemories k) : EndsCanonical (issue s k) := by
  unfold issue
  split
  · exact fun t ht => nomatch ht
  · next v hv =>
    obtain ⟨r, -, hr⟩ := Option.bind_eq_some_iff.mp hv
    have hc := h.viewOf hr
    exact endsCanonical_next (hc.finish (hc.unspill.bind (fun w hw => hw.ordered hk)))

/-! ## Operands, sources and destinations (03 R53 to R67) -/

section
variable {v : View} (h : v.Canonical)

theorem View.checks_resolve {k : Kinds} {wide : Bool} {o : Opnd} : Checks (v.resolve k wide o) := by
  unfold View.resolve
  dsimp only
  repeat' split
  all_goals trivial

theorem View.checks_resolveDst {k : Kinds} {wide : Bool} {o : Opnd} : Checks (v.resolveDst k wide o) := by
  refine View.checks_resolve.then (fun l => ?_)
  split
  · exact Keeps.trap.ite trivial
  · trivial

theorem View.checks_rd {k : Kinds} {wide : Bool} {o : Opnd} {w : Bool} : Checks (v.rd k wide o w) := View.checks_resolve.then (fun _ => trivial)

theorem View.checks_idx8 {x : BitVec 7} : Checks (v.idx8 x) := Keeps.ite trivial trivial

theorem View.checks_idx4 {x : BitVec 7} : Checks (v.idx4 x) := Keeps.ite trivial trivial

theorem View.checks_plainType : Checks v.plainType := Keeps.ite trivial trivial

theorem View.checks_typeIf {ok : Nat → Bool} : Checks (v.typeIf ok) := Keeps.ite trivial trivial

include h

theorem View.Canonical.destReady {l : Loc} : Checks (v.destReady l) := h.hold.ite trivial

end

/-- 06 R123: a pop of a word queue writes its HEAD. -/
theorem State.memoriesWf.popQueue {s t : State} (hs : s.memoriesWf) {core : Nat} {c : Fin 64} {user : Bool} {hdr : Nat} {w : DWord}
    (hp : s.popQueue core c user hdr = .got t w) : t.memoriesWf := by
  simp only [State.popQueue] at hp
  repeat' split at hp
  all_goals cases hp
  exact hs.tlbFill.tlbFill.l2Access.homeWrite.acquire

/-- How the sources looked at so far stand, over canonical memories. -/
structure Ready.Canonical (r : Ready) : Prop where
  /-- the view with the words popped so far -/
  view : r.v.Canonical
  /-- the trap met first -/
  stop : ∀ t, r.trap = some t → t.Canonical
  /-- the state in which the fragment waits -/
  waits : r.waits.memoriesWf

/-- 03 R63: of several traps the first is kept. -/
theorem Ready.Canonical.orTrap {r : Ready} (h : r.Canonical) {t : Stop} (ht : t.Canonical) (q : Stop) (hq : (r.trap <|> some t) = some q) :
    q.Canonical := by
  cases hr : r.trap with
  | none =>
    rw [hr] at hq
    cases hq
    exact ht
  | some p =>
    rw [hr] at hq
    cases hq
    exact h.stop _ hr

/-- 03 R67: a read of a queue-mapped register. -/
theorem Ready.Canonical.popReg {r : Ready} (h : r.Canonical) {i : Fin 32} {hdr : DWord} {wait : Bool} {code : Nat} :
    (r.popReg i hdr wait code).Canonical := by
  have hput {s : State} {y : Warp} (hs : s.memoriesWf) : View.Canonical { r.v with
      s := (s.delPopWait { ctx := r.v.c, hdr := hdr, g := r.v.r.g, w := r.v.r.w, mask := r.v.f.mask, pc := r.v.pc }).modWarp r.v.r.g r.v.r.w (fun _ => y),
      y := y } := h.view.withState hs.delPopWait.modWarp
  simp only [Ready.popReg]
  split
  · next hp =>
    split
    · exact ⟨hput (h.view.state.popQueue hp), h.stop, h.waits⟩
    · split
      · exact ⟨h.view, h.orTrap (t := r.v.trap cEMPTY code) trivial, h.waits⟩
      · exact ⟨h.view, h.stop, h.waits.addPopWait⟩
  · split
    · exact ⟨h.view, h.orTrap (t := r.v.trap cQDRY) trivial, h.waits⟩
    · exact ⟨hput h.view.state, h.stop, h.waits⟩
  · split
    · exact ⟨h.view, h.orTrap (t := r.v.trap cEMPTY code) trivial, h.waits⟩
    · exact ⟨h.view, h.stop, h.waits.addPopWait⟩
  · exact ⟨h.view, h.stop, h.waits.addFault⟩
  · next k a _ => exact ⟨h.view, h.orTrap (t := r.v.trap k a) trivial, h.waits⟩
  · exact ⟨h.view, h.orTrap (t := .tables) trivial, h.waits⟩

/-- 03 R63: one source. -/
theorem Ready.Canonical.look {r : Ready} (h : r.Canonical) {d : Rd} : (r.look d).Canonical := by
  have hplain : ((r.v.y.fills d.loc).foldl (fun r f => match f with
      | .full => r
      | .orphaned o => { r with trap := r.trap <|> some (r.v.trap o.code d.code) }
      | .empty => if r.v.f.strict d.wait d.code then { r with trap := r.trap <|> some (r.v.trap cEMPTY d.code) }
        else { r with block := true }) r).Canonical := by
    refine List.foldlRecOn (motive := Ready.Canonical) _ _ h (fun q hq f _ => ?_)
    split
    · exact hq
    · exact ⟨hq.view, hq.orTrap (t := .trap _ .issue _ _) trivial, hq.waits⟩
    · split
      · exact ⟨hq.view, hq.orTrap (t := q.v.trap cEMPTY d.code) trivial, hq.waits⟩
      · exact ⟨hq.view, hq.stop, hq.waits⟩
  unfold Ready.look
  dsimp only
  split
  · split
    · split
      · split
        · exact ⟨h.view, h.orTrap (t := r.v.trap cEMPTY d.code) trivial, h.waits⟩
        · exact h
      · exact h.popReg
    · exact hplain
  · exact hplain

theorem View.Canonical.sources {v : View} (h : v.Canonical) {l : List Rd} : Keeps View.Canonical (v.sources l) := by
  have hr : (l.foldl Ready.look { v := v, trap := .none, block := false, waits := v.base, seen := [] }).Canonical :=
    List.foldlRecOn (motive := Ready.Canonical) l _ ⟨h, fun _ e => (nomatch e), h.base⟩ (fun r hr d _ => hr.look)
  unfold View.sources
  dsimp only
  split
  · next t ht => exact hr.stop t ht
  · exact Keeps.ite (hr.waits : Keeps View.Canonical (.error (.wait _ true))) hr.view

/-! ## Words of pools and headers (03 R68, 08 R179) -/

section
variable {v : View} (h : v.Canonical)
include h

theorem View.Canonical.poolWord {k : Kernel} {wi : Nat} : Checks (v.poolWord k wi) := by
  unfold View.poolWord
  split
  · trivial
  · trivial
  · split
    · trivial
    · trivial
    · exact h.parkPage
    · trivial

theorem View.Canonical.poolWords {k : Kernel} {wi n : Nat} : Checks (v.poolWords k wi n) := by
  unfold View.poolWords
  split
  · exact Keeps.ite (Checks.mapM (fun _ => h.poolWord) _) trivial
  · trivial

theorem View.Canonical.headerWord {target : DWord} : Checks (v.headerWord target) := by
  have hgo {f : Fetch Nat} {va : Nat} : Checks (match f with
      | .got w => .ok w
      | .bad c => .error (v.trap c va)
      | .park _ => .error (v.parkPage va)
      | .tables => .error .tables) := by
    split
    · trivial
    · trivial
    · exact h.parkPage
    · trivial
  unfold View.headerWord
  dsimp only
  split
  · split
    · exact Keeps.ite hgo trivial
    · trivial
  · exact hgo

end

end Sys2Proof.Machine
end

section
/-! O58: the control and register instructions, the branches and the lane exchanges leave every memory canonical. -/

namespace Sys2Proof.Machine

section
variable {v : View} (h : v.Canonical)
include h

@[simp] theorem View.Canonical.jump {pc : DWord} : (v.jump pc).memoriesWf := h.put

@[simp] theorem View.Canonical.putLanes {l : Loc} {mask : Word} {t : Nat} {x : Vector Nat 32} : (v.putLanes l mask t x).memoriesWf := by
  unfold View.putLanes
  split
  · exact h.put
  · exact h.put

/-! ## Control (08 R166 to R176) -/

theorem View.Canonical.setmode {imm : BitVec 23} : Keeps State.memoriesWf (match modeCause imm with
    | some c => .error (v.trap c)
    | none => .ok (v.put { v.y with mode := imm })) := by
  split
  · trivial
  · exact h.put

theorem View.Canonical.rcvArm {tok : BitVec 22} : Keeps State.memoriesWf (v.rcvArm tok) := by
  unfold View.rcvArm
  split
  · trivial
  · exact h.put

theorem View.Canonical.rcvJoin {tok : BitVec 22} : Keeps State.memoriesWf (v.rcvJoin tok) := by
  unfold View.rcvJoin
  split
  · exact h.state
  · exact Keeps.ite h.put h.state

omit h in
theorem View.checks_litAt {off : BitVec 16} : Checks (v.litAt off) := by
  unfold View.litAt
  split
  · trivial
  · split
    · trivial
    · trivial

end

section
variable {s : State} (h : s.memoriesWf)
include h

theorem endsCanonical_ret : EndsCanonical (execRet s) := by
  refine endsCanonical_issue h (fun v hv => ?_)
  dsimp only
  generalize (match v.f.join with
    | some j => decide (v.y.joins[j].win = v.f.win)
    | none => false) = armed
  split
  · trivial
  · exact Keeps.ite trivial hv.put

theorem endsCanonical_rcv {arm : Bool} {tok : BitVec 22} : EndsCanonical (execRcv arm tok s) :=
  endsCanonical_issue h (fun _ hv => hv.rcvArm.ite hv.rcvJoin)

theorem endsCanonical_waitc {rem copy : Bool} {n : BitVec 8} : EndsCanonical (execWaitc rem copy n s) :=
  endsCanonical_issue h (fun _ hv => hv.park.ite (Keeps.ok hv.put.acquire))

theorem endsCanonical_yield : EndsCanonical (execYield s) :=
  endsCanonical_issue h (fun _ hv => Keeps.ite (Keeps.ok hv.state.setSched) hv.state)

theorem endsCanonical_exit : EndsCanonical (execExit s) := by
  refine endsCanonical_issue h (fun v hv => hv.hold.ite ?_)
  dsimp only
  generalize v.y.exitLanes v.r.slot = y
  exact Keeps.ite (Keeps.ok hv.put.endWarp.exitGroup) hv.put

theorem endsCanonical_elect {k : BitVec 3} : EndsCanonical (execElect k s) :=
  endsCanonical_issue h (fun _ hv => Keeps.ok hv.put)

theorem endsCanonical_ldl {d : Opnd} {off : BitVec 16} : EndsCanonical (execLdl d off s) :=
  endsCanonical_issue h (fun _ hv => View.checks_resolveDst.then (fun _ => View.checks_litAt.then (fun _ =>
    hv.poolWords.then (fun _ => hv.destReady.then (fun _ => Keeps.ok hv.put)))))

theorem endsCanonical_ldl2 {d : Opnd} {off : BitVec 16} : EndsCanonical (execLdl2 d off s) :=
  endsCanonical_issue h (fun _ hv => View.checks_resolveDst.then (fun _ => View.checks_litAt.then (fun _ =>
    Keeps.trap.ite (hv.poolWords.then (fun _ => hv.destReady.then (fun _ => Keeps.ok hv.put))))))

theorem endsCanonical_ldln {d : Opnd} {off : BitVec 16} : EndsCanonical (execLdln d off s) := by
  refine endsCanonical_issue h (fun v hv => View.checks_resolveDst.then (fun l => View.checks_litAt.then (fun _ =>
    hv.poolWords.then (fun _ => Keeps.trap.ite (hv.poolWords.then (fun _ => hv.destReady.then (fun _ => ?_)))))))
  cases l with
  | vec names => exact hv.put
  | _ => trivial

theorem endsCanonical_jmps {k : BitVec 5} : EndsCanonical (execJmps k s) :=
  endsCanonical_issue h (fun _ hv => hv.sources.bind (fun _ hw => Keeps.trap.ite (Keeps.ok hw.jump)))

end

/-! ## Scalars (09 R184 to R189) -/

section
variable {v : View} (h : v.Canonical) {d a b : Opnd} {wa wb : Bool}
include h

theorem View.Canonical.scalar2 {f : Warp → DWord → DWord → DWord × Byte} : Keeps State.memoriesWf (v.scalar2 d a b wa wb f) :=
  View.checks_resolveDst.then (fun _ => View.checks_rd.then (fun _ => View.checks_rd.then (fun _ => View.checks_plainType.then (fun _ =>
    h.sources.bind (fun _ hw => hw.destReady.then (fun _ => Keeps.ok hw.put))))))

theorem View.Canonical.scalar1 {f : DWord → DWord} : Keeps State.memoriesWf (v.scalar1 d a wa f) :=
  View.checks_resolveDst.then (fun _ => View.checks_rd.then (fun _ => View.checks_plainType.then (fun _ =>
    h.sources.bind (fun _ hw => hw.destReady.then (fun _ => Keeps.ok hw.put)))))

theorem View.Canonical.scalarOp {f : Nat → Nat → Nat} : Keeps State.memoriesWf (v.scalarOp d a b wa wb f) := h.scalar2

theorem View.Canonical.scalarCmp {r : Rel} : Keeps State.memoriesWf (v.scalarCmp r d a b wa wb) := by
  unfold View.scalarCmp
  exact h.scalar2

theorem View.Canonical.maskOp {f : Word → Word → Word} : Keeps State.memoriesWf (v.maskOp d a b wa wb f) := h.scalar2

end

section
variable {s : State} (h : s.memoriesWf) {d a b : Opnd} {wa wb : Bool}
include h

theorem endsCanonical_saluMad : EndsCanonical (execSaluMad d a b wa wb s) :=
  endsCanonical_issue h (fun _ hv => View.checks_resolveDst.then (fun _ => View.checks_rd.then (fun _ => View.checks_rd.then (fun _ =>
    View.checks_plainType.then (fun _ => hv.sources.bind (fun _ hw => Keeps.ok hw.put))))))

theorem endsCanonical_saluCvt {ty : BitVec 7} : EndsCanonical (execSaluCvt d a ty wa s) :=
  endsCanonical_issue h (fun _ hv => View.checks_resolveDst.then (fun _ => View.checks_rd.then (fun _ => Keeps.trap.ite
    (hv.sources.bind (fun _ hw => hw.destReady.then (fun _ => Keeps.ok hw.put))))))

theorem endsCanonical_rdlane : EndsCanonical (execRdlane d a b wa wb s) := by
  refine endsCanonical_issue h (fun v hv => View.checks_resolveDst.then (fun l => View.checks_rd.then (fun ra => View.checks_rd.then (fun rb =>
    View.checks_plainType.then (fun _ => hv.sources.bind (fun w hw => Keeps.trap.ite (hw.destReady.then (fun _ => Keeps.ite ?_ hw.put))))))))
  cases l with
  | sca k => exact hw.put
  | msk k => exact hw.park
  | _ => exact hw.put

theorem endsCanonical_idxset {xk : BitVec 7} : EndsCanonical (execIdxset xk a wa s) :=
  endsCanonical_issue h (fun _ hv => View.checks_idx4.then (fun _ => View.checks_rd.then (fun _ => View.checks_plainType.then (fun _ =>
    hv.sources.bind (fun _ hw => Keeps.ok hw.put)))))

end

/-! ## Lanes (09 R190 to R197) -/

section
variable {v : View} (h : v.Canonical) {d a b : Opnd} {wa wb : Bool}
include h

theorem View.Canonical.lane2 {ok : Nat → Bool} {f : Md → Nat → Nat → Nat} : Keeps State.memoriesWf (v.lane2 d a b wa wb ok f) :=
  View.checks_resolveDst.then (fun _ => View.checks_rd.then (fun _ => View.checks_rd.then (fun _ => View.checks_typeIf.then (fun _ =>
    h.sources.bind (fun _ hw => hw.destReady.then (fun _ => Keeps.ok hw.putLanes))))))

theorem View.Canonical.lane1 {ok : Nat → Bool} {f : Md → Nat → Nat} : Keeps State.memoriesWf (v.lane1 d a wa ok f) :=
  View.checks_resolveDst.then (fun _ => View.checks_rd.then (fun _ => View.checks_typeIf.then (fun _ =>
    h.sources.bind (fun _ hw => hw.destReady.then (fun _ => Keeps.ok hw.putLanes)))))

theorem View.Canonical.laneCmp {r : Rel} : Keeps State.memoriesWf (v.laneCmp r d a b wa wb) := by
  refine View.checks_resolveDst.then (fun l => View.checks_rd.then (fun _ => View.checks_rd.then (fun _ => View.checks_plainType.then (fun _ =>
    h.sources.bind (fun w hw => ?_)))))
  cases l with
  | msk k => exact hw.put
  | _ => exact hw.put

end

section
variable {s : State} (h : s.memoriesWf) {d a b c : Opnd} {wa wb : Bool}
include h

theorem endsCanonical_valuFma : EndsCanonical (execValuFma d a b wa wb s) :=
  endsCanonical_issue h (fun _ hv => View.checks_resolveDst.then (fun _ => View.checks_rd.then (fun _ => View.checks_rd.then (fun _ =>
    View.checks_plainType.then (fun _ => hv.sources.bind (fun _ hw => Keeps.ok hw.putLanes))))))

theorem endsCanonical_valuSel : EndsCanonical (execValuSel d a b wa wb s) :=
  endsCanonical_issue h (fun _ hv => View.checks_resolveDst.then (fun _ => View.checks_rd.then (fun _ => View.checks_rd.then (fun _ =>
    View.checks_plainType.then (fun _ => hv.sources.bind (fun _ hw => hw.destReady.then (fun _ => Keeps.ok hw.putLanes)))))))

theorem endsCanonical_valuCvt {ty : BitVec 7} : EndsCanonical (execValuCvt d a ty wa s) :=
  endsCanonical_issue h (fun _ hv => View.checks_resolveDst.then (fun _ => View.checks_rd.then (fun _ => Keeps.trap.ite
    (hv.sources.bind (fun _ hw => hw.destReady.then (fun _ => Keeps.ok hw.putLanes))))))

theorem endsCanonical_vclass : EndsCanonical (execVclass d a wa s) :=
  endsCanonical_issue h (fun _ hv => View.checks_resolveDst.then (fun _ => View.checks_rd.then (fun _ => View.checks_typeIf.then (fun _ =>
    hv.sources.bind (fun _ hw => hw.destReady.then (fun _ => Keeps.ok hw.putLanes))))))

theorem endsCanonical_div : EndsCanonical (execDiv d a b wa wb s) :=
  endsCanonical_issue h (fun _ hv => View.checks_resolveDst.then (fun _ => View.checks_rd.then (fun _ => View.checks_rd.then (fun _ =>
    View.checks_plainType.then (fun _ => hv.sources.bind (fun _ hw => hw.destReady.then (fun _ =>
      Keeps.ite (Keeps.ok hw.putLanes) (Keeps.ite (Keeps.ok hw.putLanes) (Keeps.ok hw.putLanes.laneFail)))))))))

/-! ## Bits, lane exchanges and votes (09 R198 to R215) -/

end

section
variable {v : View} (h : v.Canonical) {d a b : Opnd} {wa wb : Bool}

theorem View.checks_perm {i : Nat} : Checks (v.perm i) := by
  unfold View.perm
  split
  · trivial
  · trivial

include h

theorem View.Canonical.bit2 {f : Nat → Nat → Nat} : Keeps State.memoriesWf (v.bit2 d a b wa wb f) :=
  View.checks_resolveDst.then (fun _ => View.checks_rd.then (fun _ => View.checks_rd.then (fun _ => View.checks_plainType.then (fun _ =>
    h.sources.bind (fun _ hw => hw.destReady.then (fun _ => Keeps.ok hw.putLanes))))))

theorem View.Canonical.exchange {l c : Loc} {src : Fin 32 → Option (Fin 32)} : Keeps State.memoriesWf (v.exchange l c src) :=
  Keeps.ite trivial (Keeps.ok (View.Canonical.putLanes (h.withState h.state)))

theorem View.Canonical.shuffle {src : Nat → Nat → Int} : Keeps State.memoriesWf (v.shuffle d a b wa wb src) :=
  View.checks_resolveDst.then (fun _ => View.checks_rd.then (fun _ => View.checks_rd.then (fun _ => View.checks_plainType.then (fun _ =>
    h.sources.bind (fun _ hw => hw.destReady.then (fun _ => hw.exchange))))))

theorem View.Canonical.quad {src : Nat → Nat → Nat} : Keeps State.memoriesWf (v.quad d a b wa wb src) :=
  View.checks_resolveDst.then (fun _ => View.checks_rd.then (fun _ => View.checks_rd.then (fun _ => View.checks_plainType.then (fun _ =>
    h.sources.bind (fun _ hw => hw.destReady.then (fun _ => hw.exchange))))))

theorem View.Canonical.vote {f : Word → Word → Word × Word} : Keeps State.memoriesWf (v.vote d a wa f) :=
  View.checks_resolveDst.then (fun _ => View.checks_rd.then (fun _ => View.checks_plainType.then (fun _ =>
    h.sources.bind (fun _ hw => hw.destReady.then (fun _ => Keeps.ok hw.put)))))

end

section
variable {s : State} (h : s.memoriesWf) {d a b c : Opnd} {wa wb : Bool}
include h

theorem endsCanonical_bmm8 : EndsCanonical (execBmm8 d a b wa wb s) :=
  endsCanonical_issue h (fun _ hv => View.checks_resolveDst.then (fun _ => View.checks_rd.then (fun _ => View.checks_rd.then (fun _ =>
    View.checks_plainType.then (fun _ => hv.sources.bind (fun _ hw => hw.destReady.then (fun _ => Keeps.ok hw.putLanes)))))))

theorem endsCanonical_bperm : EndsCanonical (execBperm d a b wa wb s) :=
  endsCanonical_issue h (fun _ hv => View.checks_resolveDst.then (fun _ => View.checks_rd.then (fun _ => View.checks_rd.then (fun _ =>
    View.checks_plainType.then (fun _ => hv.sources.bind (fun _ hw => View.checks_perm.then (fun _ =>
      hw.destReady.then (fun _ => Keeps.ok hw.putLanes))))))))

theorem endsCanonical_brev : EndsCanonical (execBrev d a wa s) :=
  endsCanonical_issue h (fun _ hv => View.checks_resolveDst.then (fun _ => View.checks_rd.then (fun _ =>
    View.checks_plainType.then (fun _ => hv.sources.bind (fun _ hw => hw.destReady.then (fun _ => Keeps.ok hw.putLanes))))))

theorem endsCanonical_matchv : EndsCanonical (execMatchv d a wa s) :=
  endsCanonical_issue h (fun _ hv => View.checks_resolveDst.then (fun _ => View.checks_rd.then (fun _ =>
    View.checks_plainType.then (fun _ => hv.sources.bind (fun _ hw => hw.destReady.then (fun _ => Keeps.ok hw.putLanes))))))

theorem endsCanonical_wred {op : BitVec 7} : EndsCanonical (execWred d a op wa s) := by
  refine endsCanonical_issue h (fun _ hv => View.checks_resolveDst.then (fun l => View.checks_rd.then (fun _ => ?_)))
  split
  · trivial
  · refine View.checks_plainType.then (fun _ => hv.sources.bind (fun _ hw => hw.destReady.then (fun _ => ?_)))
    cases l with
    | vec names => exact hw.putLanes
    | _ => exact hw.put

theorem endsCanonical_wscan {op : BitVec 7} : EndsCanonical (execWscan d a op wa s) := by
  refine endsCanonical_issue h (fun _ hv => View.checks_resolveDst.then (fun l => View.checks_rd.then (fun _ => ?_)))
  split
  · trivial
  · exact View.checks_plainType.then (fun _ => hv.sources.bind (fun _ hw => hw.destReady.then (fun _ => Keeps.ok hw.putLanes)))

theorem endsCanonical_wrlane : EndsCanonical (execWrlane d a b wa wb s) :=
  endsCanonical_issue h (fun _ hv => View.checks_resolveDst.then (fun _ => View.checks_rd.then (fun _ => View.checks_rd.then (fun _ =>
    View.checks_plainType.then (fun _ => hv.sources.bind (fun _ hw => Keeps.trap.ite (hw.destReady.then (fun _ => Keeps.ok hw.putLanes))))))))

theorem endsCanonical_ptload : EndsCanonical (execPtload d b wb s) :=
  endsCanonical_issue h (fun _ hv => View.checks_resolveDst.then (fun _ => View.checks_rd.then (fun _ => View.checks_plainType.then (fun _ =>
    hv.sources.bind (fun _ hw => View.checks_perm.then (fun _ => hw.destReady.then (fun _ => Keeps.ok hw.putLanes)))))))

theorem endsCanonical_movx : EndsCanonical (execMovx d a wa s) :=
  endsCanonical_issue h (fun _ hv => View.checks_resolveDst.then (fun _ => View.checks_rd.then (fun _ => View.checks_plainType.then (fun _ =>
    hv.sources.bind (fun _ hw => hw.destReady.then (fun _ => Keeps.ok hw.putLanes))))))

theorem endsCanonical_expr : EndsCanonical (execExpr d a b c s) := by
  refine endsCanonical_issue h (fun _ hv => View.checks_resolveDst.then (fun l => View.checks_rd.then (fun _ => View.checks_rd.then (fun _ =>
    View.checks_rd.then (fun _ => View.checks_plainType.then (fun _ => ?_))))))
  dsimp only
  split
  · trivial
  · exact hv.sources.bind (fun _ hw => hw.destReady.then (fun _ => Keeps.ok hw.putLanes))

end

/-! ## Branches (08 R177 to R179) -/

section
variable {v : View} (h : v.Canonical)
include h

theorem View.Canonical.branchIf {c : Bool} {off : BitVec 24} : Keeps State.memoriesWf (v.branchIf c off) := h.jump.ite h.state

theorem View.Canonical.split {taken rest : Word} {target : DWord} : Keeps State.memoriesWf (v.split taken rest target) :=
  Keeps.ite (Keeps.ite trivial h.put) h.put

end

section
variable {s : State} (h : s.memoriesWf)
include h

theorem endsCanonical_call {off : BitVec 24} : EndsCanonical (execCall off s) := by
  refine endsCanonical_issue h (fun _ hv => hv.headerWord.then (fun _ => Keeps.trap.ite (Keeps.trap.ite ?_)))
  split
  · exact hv.park
  · next hroom => exact Keeps.ok (hv.state.makeRoom hroom).modWarp

theorem endsCanonical_brv {k : BitVec 3} {off : BitVec 24} : EndsCanonical (execBrv k off s) :=
  endsCanonical_issue h (fun _ hv => Keeps.ite hv.state (Keeps.ite hv.jump hv.split))

end

end Sys2Proof.Machine
end

section
/-! O58: the memory, system, page and queue instructions leave every memory canonical. -/

namespace Sys2Proof.Machine

/-! ## Memory (14 R314 to R331) -/

section
variable {v : View} (h : v.Canonical) {k : BitVec 3} {d a : Opnd} {wd wa : Bool} {scope : BitVec 3} {order : BitVec 2}

theorem View.checks_memOf : Checks (v.memOf k) := trivial

theorem View.checks_winOf : Checks (v.winOf k) := by
  unfold View.winOf
  split
  all_goals trivial

theorem View.checks_casNew {wide : Bool} : Checks (v.casNew wide d) := by
  have hbad : Checks (Except.error (v.trap cILLOPND) : Except Stop Loc) := trivial
  have hat {w : Window} {i : Nat} : Checks (if wide ∧ i % 4 ≠ 0 then (Except.error (v.trap cILLOPND) : Except Stop Loc)
      else match w.name wide (if wide then i + 2 else i + 1) with
        | some l => .ok (.vec l)
        | none => .error (v.trap cILLOPND)) := by
    refine Keeps.ite hbad ?_
    split
    · trivial
    · trivial
  cases d with
  | v i => exact hat
  | vx j => exact hat
  | s i => exact Keeps.ite trivial hbad
  | _ => trivial

theorem View.checks_orderOk {l : List Nat} {n : Nat} : Checks (v.orderOk l n scope order) := Keeps.ite trivial trivial

theorem View.checks_offOk : Checks (v.offOk d a) := Keeps.ite trivial trivial

include h

/-- R345: an accepted access goes in flight and touches no memory yet. -/
theorem View.Canonical.launchMem {q : MemReq} : Keeps State.memoriesWf (v.launchMem q) :=
  Keeps.trap.ite (Keeps.ite trivial (Keeps.ite trivial (Keeps.ite trivial (h.hold.ite (h.park.ite (h.hold.ite h.put))))))

theorem View.Canonical.load {kind : MemKind} {space : Except Stop Space} (hsp : Checks space) {l : List Nat} :
    Keeps State.memoriesWf (v.load kind space l scope order d a wa) := by
  have hgo {r : Loc} {ra : Rd} {sp : Space} {sc : Nat} {acq : Bool} : Keeps State.memoriesWf (do
      let v ← v.sources [ra]
      v.destReady r
      v.launchMem { kind := kind, space := sp, scope := sc, acq := acq, rel := false, scalar := scalarAccess d a, t := v.et,
                    off := ra.loc, data := .zero, new := .zero, dst := r }) :=
    h.sources.bind (fun _ hw => hw.destReady.then (fun _ => hw.launchMem))
  refine View.checks_resolveDst.then (fun _ => View.checks_rd.then (fun _ => View.checks_offOk.then (fun _ => hsp.then (fun _ => ?_))))
  cases kind with
  | ldc n => exact Keeps.ite trivial (Checks.ok.then (fun _ => hgo))
  | _ => exact View.checks_orderOk.then (fun _ => hgo)

theorem View.Canonical.store {space : Except Stop Space} (hsp : Checks space) : Keeps State.memoriesWf (v.store space scope order d a wd wa) :=
  View.checks_rd.then (fun _ => View.checks_rd.then (fun _ => View.checks_offOk.then (fun _ => hsp.then (fun _ => View.checks_orderOk.then (fun _ =>
    h.sources.bind (fun _ hw => hw.launchMem))))))

theorem View.Canonical.atomic {op : AtOp} {spad : Bool} {space : Except Stop Space} (hsp : Checks space) :
    Keeps State.memoriesWf (v.atomic op spad space scope order d a wd wa) := by
  refine View.checks_resolveDst.then (fun l => ?_)
  have hgo (new : Loc) : Keeps State.memoriesWf (do
      let ra ← v.rd kOff false a wa
      v.offOk d a
      let sp ← space
      v.orderOk [0, 1, 2, 3] 0 scope order
      v.typeIf (atTypes op spad)
      let rd : Rd := { loc := l, wait := wd, code := d.toCode.toNat }
      let rn : Rd := { loc := new, wait := wd, code := d.toCode.toNat + 1 }
      let v ← v.sources [rd, rn, ra]
      v.destReady l
      v.launchMem { kind := .atomic op, space := sp, scope := scope.toNat, acq := order.getLsbD 0, rel := order.getLsbD 1,
                    scalar := scalarAccess d a, t := v.et, off := ra.loc, data := l, new := new, dst := l }) :=
    View.checks_rd.then (fun _ => View.checks_offOk.then (fun _ => hsp.then (fun _ => View.checks_orderOk.then (fun _ =>
      View.checks_typeIf.then (fun _ => h.sources.bind (fun _ hw => hw.destReady.then (fun _ => hw.launchMem)))))))
  exact Keeps.ite (View.checks_casNew.then hgo) (hgo _)

end

theorem State.memoriesWf.prefetch {s : State} (h : s.memoriesWf) {core : Nat} {c : Fin 64} {b : BaseReg} {user narrow : Bool} {a : Nat} :
    (s.prefetch core c b user narrow a).memoriesWf := by
  unfold State.prefetch
  split
  · exact (h.l2Access.modCore.ite h.l2Access).ite h
  · exact h

section
variable {s : State} (h : s.memoriesWf) {scope : BitVec 3} {order : BitVec 2} {d a b : Opnd} {base : BitVec 3} {wd wa wb : Bool}
include h

theorem endsCanonical_fence : EndsCanonical (execFence scope order s) :=
  endsCanonical_issue h (fun _ hv => View.checks_orderOk.then (fun _ => View.checks_plainType.then (fun _ =>
    hv.hold.ite (hv.state.acquire.ite hv.state))))

theorem endsCanonical_acqr : EndsCanonical (execAcqr scope order d a base wd wa s) :=
  endsCanonical_issue h (fun _ hv => View.checks_resolveDst.then (fun _ => View.checks_rd.then (fun _ => Keeps.ite trivial
    (Checks.ok.then (fun _ => View.checks_memOf.then (fun _ => View.checks_orderOk.then (fun _ => View.checks_typeIf.then (fun _ =>
      hv.sources.bind (fun _ hw => hw.destReady.then (fun _ => hw.launchMem))))))))))

theorem endsCanonical_spk : EndsCanonical (execSpk scope order d a base wd wa s) :=
  endsCanonical_issue h (fun _ hv => View.checks_rd.then (fun _ => View.checks_rd.then (fun _ => Keeps.ite trivial
    (Checks.ok.then (fun _ => View.checks_memOf.then (fun _ => View.checks_orderOk.then (fun _ => View.checks_plainType.then (fun _ =>
      hv.sources.bind (fun _ hw => hw.launchMem)))))))))

theorem endsCanonical_pref : EndsCanonical (execPref scope order a base wa s) :=
  endsCanonical_issue h (fun _ hv => View.checks_rd.then (fun _ => View.checks_orderOk.then (fun _ => View.checks_plainType.then (fun _ =>
    hv.sources.bind (fun _ hw => Keeps.ok (hw.state.foldl (fun _ _ ht => ht.prefetch)))))))

/-! ## System registers and the return from a trap (05 R108 to R111, 19 R432) -/

theorem endsCanonical_rdsys {k : BitVec 7} : EndsCanonical (execRdsys d k s) := by
  refine endsCanonical_issue h (fun _ hv => View.checks_resolveDst.then (fun _ => ?_))
  split
  · trivial
  · exact Keeps.trap.ite (hv.destReady.then (fun _ => Keeps.ok hv.put))

theorem endsCanonical_wrsys {k : BitVec 7} : EndsCanonical (execWrsys k a wa s) := by
  refine endsCanonical_issue h (fun _ hv => View.checks_rd.then (fun _ => Keeps.trap.ite (Keeps.trap.ite (hv.sources.bind (fun _ hw => ?_)))))
  dsimp only
  split
  · exact hw.put
  · split
    · trivial
    · exact hw.put
  · exact hw.put
  · exact hw.hold.ite hw.state.modCtx

theorem endsCanonical_halt : EndsCanonical (execHalt s) := by
  refine endsCanonical_issue h (fun _ hv => ?_)
  split
  · trivial
  · exact hv.state.suspendCtx.ite hv.state
  · exact hv.state.modCore

end

theorem View.keeps_tret {v : View} {go : Kept → State} (h : ∀ k, (go k).memoriesWf) : Keeps State.memoriesWf (v.tret go) := by
  refine Keeps.trap.ite (Keeps.trap.ite ?_)
  split
  · trivial
  · exact Keeps.ite (h _) trivial

section
variable {s : State} (h : s.memoriesWf) {d a b : Opnd} {wa wb : Bool} {bk : BitVec 7}
include h

theorem endsCanonical_tretFix : EndsCanonical (execTretFix s) :=
  endsCanonical_issue h (fun _ hv => View.keeps_tret (fun _ => hv.state.tretResume))

theorem endsCanonical_tretSkip : EndsCanonical (execTretSkip s) :=
  endsCanonical_issue h (fun _ hv => View.keeps_tret (fun _ => hv.state.tretResume))

theorem endsCanonical_tretRetry : EndsCanonical (execTretRetry s) :=
  endsCanonical_issue h (fun _ hv => View.keeps_tret (fun _ => hv.state.tretResume))

theorem endsCanonical_tretKillw : EndsCanonical (execTretKillw s) :=
  endsCanonical_issue h (fun _ hv => View.keeps_tret (fun _ => hv.state.endWarp.exitGroup))

theorem endsCanonical_tretKillg : EndsCanonical (execTretKillg s) := by
  refine endsCanonical_issue h (fun v hv => View.keeps_tret (fun _ => State.memoriesWf.flush (State.memoriesWf.killGroup ?_)))
  have hlog : v.killLog.memoriesWf := hv.state.log
  exact State.memoriesWf_mk.2 hlog.parts

theorem endsCanonical_tretKillc : EndsCanonical (execTretKillc s) :=
  endsCanonical_issue h (fun _ hv => View.keeps_tret (fun _ => hv.state.faultContext))

theorem endsCanonical_retryResume {g w : Nat} : EndsCanonical (execRetryResume g w s) := by
  refine endsCanonical_next ?_
  split
  · exact h.ite (h.modWarp.setSched.ite h.modWarp)
  · exact h

/-! ## Pages (15 R366 to R370) -/

theorem endsCanonical_bset : EndsCanonical (execBset bk a b wa wb s) := by
  refine endsCanonical_issue h (fun _ hv => View.checks_idx8.then (fun _ => View.checks_rd.then (fun _ => View.checks_rd.then (fun _ =>
    hv.sources.bind (fun _ hw => Keeps.trap.ite (Keeps.trap.ite ?_))))))
  dsimp only
  split
  · exact hw.parkPage
  · trivial
  · trivial
  · exact hw.put.tlbFill

theorem endsCanonical_binv : EndsCanonical (execBinv bk s) :=
  endsCanonical_issue h (fun _ hv => View.checks_idx8.then (fun _ => Keeps.ok hv.put))

theorem endsCanonical_tagld : EndsCanonical (execTagld d bk b wb s) :=
  endsCanonical_issue h (fun _ hv => View.checks_resolveDst.then (fun _ => View.checks_idx8.then (fun _ => View.checks_rd.then (fun _ =>
    View.checks_offOk.then (fun _ => hv.sources.bind (fun _ hw => hw.destReady.then (fun _ => hw.launchMem)))))))

theorem endsCanonical_tagst : EndsCanonical (execTagst bk a b wa wb s) :=
  endsCanonical_issue h (fun _ hv => View.checks_idx8.then (fun _ => View.checks_rd.then (fun _ => View.checks_rd.then (fun _ =>
    hv.sources.bind (fun _ hw => hw.launchMem)))))

theorem endsCanonical_tlbinv : EndsCanonical (execTlbinv a b wa wb s) :=
  endsCanonical_issue h (fun _ hv => View.checks_rd.then (fun _ => View.checks_rd.then (fun _ => Keeps.trap.ite
    (hv.sources.bind (fun _ hw => hw.hold.ite (Keeps.ok hw.state.shootdown.rejudge))))))

theorem endsCanonical_pgqry : EndsCanonical (execPgqry d a wa s) := by
  refine endsCanonical_issue h (fun _ hv => View.checks_resolveDst.then (fun _ => View.checks_rd.then (fun _ =>
    hv.sources.bind (fun _ hw => hw.destReady.then (fun _ => ?_)))))
  split
  · trivial
  · exact hw.put

theorem endsCanonical_reservedEncoding {w : BitVec 32} : EndsCanonical (execReservedEncoding w s) := by
  unfold execReservedEncoding
  split
  · exact endsCanonical_next h
  · exact endsCanonical_issue h (fun _ _ => trivial)
  · exact endsCanonical_issue h (fun _ _ => trivial)

end

/-! ## Queues (06 R121 to R130) -/

section
variable {v : View} (h : v.Canonical)

theorem View.checks_alignedTo {p n : Nat} : Checks (v.alignedTo p n) := Keeps.ite trivial trivial

theorem View.checks_noStage {p : Nat} : Checks (v.noStage p) := Keeps.ite trivial trivial

theorem View.checks_mapReg {d : Opnd} : Checks (v.mapReg d) := by
  cases d with
  | s i => exact Keeps.ite trivial trivial
  | _ => trivial

include h

theorem View.Canonical.releases {sys : Bool} : Checks (v.releases sys) := h.hold.ite trivial

theorem View.Canonical.accessFail {code addr : Nat} {write : Bool} : Keeps State.memoriesWf (v.accessFail code addr write) := h.state.laneFail

theorem View.Canonical.at_ {p n : Nat} {write : Bool} {k : View → Nat → Except Stop State}
    (hk : ∀ w pa, w.Canonical → Keeps State.memoriesWf (k w pa)) : Keeps State.memoriesWf (v.at_ p n write k) := by
  unfold View.at_
  split
  · exact h.accessFail.ite (hk _ _ (h.withState h.state.tlbFill))
  · exact h.parkPage
  · exact h.accessFail
  · trivial

/-- 06 R127: a signal add that leaves for another node. -/
theorem View.Canonical.sendSignal {pa x : Nat} : Keeps State.memoriesWf (v.sendSignal pa x) := by
  unfold View.sendSignal
  dsimp only
  split
  · exact h.state.lostRoute.modWarp
  · split
    · exact h.hold
    · refine Keeps.ok (State.memoriesWf.modWarp ?_)
      exact State.memoriesWf.sendFrom (State.memoriesWf_mk.2 h.state)

end

section
variable {s : State} (h : s.memoriesWf) {d a b : Opnd} {wa wb : Bool}
include h

theorem endsCanonical_qpush : EndsCanonical (execQpush d a b wa wb s) := by
  refine endsCanonical_issue h (fun _ hv => View.checks_resolveDst.then (fun _ => View.checks_rd.then (fun _ => View.checks_rd.then (fun _ =>
    hv.sources.bind (fun _ hw => Keeps.trap.ite (View.checks_alignedTo.then (fun _ => View.checks_noStage.then (fun _ => hw.destReady.then (fun _ =>
      hw.hold.ite (hw.at_ (fun u _ hu => Keeps.ite hu.state.modWarp (Keeps.ite hu.state.modWarp ?_))))))))))))
  dsimp only
  split
  · exact State.memoriesWf.modWarp (State.memoriesWf_mk.2 (State.memoriesWf.homeWrite hu.state).parts)
  · exact hu.parkPage
  · exact hu.accessFail
  · trivial

theorem endsCanonical_qmap : EndsCanonical (execQmap d a wa s) :=
  endsCanonical_issue h (fun _ hv => View.checks_mapReg.then (fun _ => View.checks_rd.then (fun _ => hv.sources.bind (fun _ hw =>
    View.checks_alignedTo.then (fun _ => hw.destReady.then (fun _ => Keeps.ok hw.put))))))

theorem endsCanonical_qunmap : EndsCanonical (execQunmap d s) :=
  endsCanonical_issue h (fun _ hv => View.checks_mapReg.then (fun _ => Keeps.ok hv.put))

theorem endsCanonical_qsig : EndsCanonical (execQsig a b wa wb s) :=
  endsCanonical_issue h (fun _ hv => View.checks_rd.then (fun _ => View.checks_rd.then (fun _ => hv.sources.bind (fun _ hw =>
    View.checks_alignedTo.then (fun _ => View.checks_noStage.then (fun _ => hw.releases.then (fun _ =>
      hw.at_ (fun _ _ hu => Keeps.ite (Keeps.ok hu.state.homeWrite.recheckSignals) hu.sendSignal))))))))

theorem endsCanonical_qwait : EndsCanonical (execQwait a b wa wb s) :=
  endsCanonical_issue h (fun _ hv => View.checks_rd.then (fun _ => View.checks_rd.then (fun _ => hv.sources.bind (fun _ hw =>
    View.checks_alignedTo.then (fun _ => hw.at_ (fun _ _ hu => hu.park.ite (Keeps.ok hu.put.acquire)))))))

theorem endsCanonical_qattach : EndsCanonical (execQattach a wa s) :=
  endsCanonical_issue h (fun _ hv => View.checks_rd.then (fun _ => hv.sources.bind (fun _ hw =>
    View.checks_alignedTo.then (fun _ => Keeps.trap.ite (hw.at_ (fun _ _ hu => Keeps.ok hu.state.homeWrite.modWarp))))))

theorem endsCanonical_qdetach : EndsCanonical (execQdetach a wa s) :=
  endsCanonical_issue h (fun _ hv => View.checks_rd.then (fun _ => hv.sources.bind (fun _ hw =>
    View.checks_alignedTo.then (fun _ => hw.releases.then (fun _ =>
      Keeps.ite (hw.at_ (fun _ _ hu => Keeps.ok hu.state.homeWrite.modWarp)) (Keeps.ok hw.put))))))

theorem endsCanonical_qwr : EndsCanonical (execQwr a b wa wb s) := by
  refine endsCanonical_issue h (fun _ hv => View.checks_rd.then (fun _ => View.checks_rd.then (fun _ => hv.sources.bind (fun _ hw =>
    View.checks_alignedTo.then (fun _ => View.checks_noStage.then (fun _ => hw.releases.then (fun _ => hw.at_ (fun u pa hu => ?_))))))))
  generalize u.s.qHdr pa = q
  exact hu.park.ite (hu.at_ (fun _ _ ht => Keeps.ok ht.state.homeWrite.homeWrite))

theorem endsCanonical_qwaitRecheck {g w : Nat} {slot : Bool} : EndsCanonical (execQwaitRecheck g w slot s) := by
  refine endsCanonical_next ?_
  repeat' split
  all_goals simp [h]

end

end Sys2Proof.Machine
end

section
/-! O58: the record instructions and the Draught's events leave every memory canonical. -/

namespace Sys2Proof.Machine

/-! ## Bindings and the payloads of records (17 R383 to R399) -/

section
variable {s : State} (h : s.memoriesWf)
include h

@[simp] theorem State.memoriesWf.putBind {id : Nat} {b : Binding} : (s.putBind id b).memoriesWf := h

@[simp] theorem State.memoriesWf.dropTaker {r : Ref} {pc : DWord} : (s.dropTaker r pc).memoriesWf := h

@[simp] theorem State.memoriesWf.addTaker {id : Nat} {t : Taker} {r : Ref} : (s.addTaker id t r).memoriesWf := h

end

theorem State.memoriesWf.fillSlots {b : Binding} {l : List Nat} {bytes : List Byte} {s t : State} (h : s.memoriesWf)
    (hf : s.fillSlots b l bytes = .ok t) : t.memoriesWf := by
  induction l generalizing s bytes with
  | nil =>
    cases hf
    exact h
  | cons slot r ih =>
    rw [State.fillSlots] at hf
    split at hf
    · next u hu => exact ih (h.putVa hu) hf
    · next hno => exact absurd hf (hno t)

theorem State.memoriesWf.inject {id : Nat} {l : List Nat} {s : State} (h : s.memoriesWf) : (s.inject id l).memoriesWf := by
  induction l generalizing s with
  | nil => exact h
  | cons slot r ih =>
    rw [State.inject]
    split
    · exact h
    · next b _ =>
      generalize b.route (Rec.new b.seq) = q
      exact ih (State.memoriesWf.putRec (State.memoriesWf_mk.2 h))

section
variable {v : View} (h : v.Canonical)

theorem View.checks_stageSet {j : Nat} : Checks (v.stageSet j) := by
  unfold View.stageSet
  split
  · trivial
  · trivial

include h

theorem View.Canonical.bindFor {j : Nat} {stages : List (Nat × Nat)} : Checks (v.bindFor j stages) := by
  unfold View.bindFor
  split
  · trivial
  · refine Keeps.trap.ite ?_
    dsimp only
    split
    · exact Keeps.ite trivial (Keeps.ite trivial trivial)
    · exact h.parkPage
    · trivial
    · trivial

/-- Where bytes cannot be read, the instruction ends with canonical memories. -/
theorem View.Canonical.readBytes {fuel p n : Nat} {r : Except Stop State} (hr : v.readBytes fuel p n = .error r) : Keeps State.memoriesWf r := by
  induction fuel generalizing p n with
  | zero => cases hr
  | succ fuel ih =>
    rw [View.readBytes] at hr
    split at hr
    · cases hr
    · dsimp only at hr
      split at hr
      · split at hr
        · cases hr
          exact h.accessFail
        · cases hrec : v.readBytes fuel (p + min n (2 ^ 14 - p % 2 ^ 14)) (n - min n (2 ^ 14 - p % 2 ^ 14)) with
          | ok l =>
            rw [hrec] at hr
            cases hr
          | error e =>
            rw [hrec] at hr
            cases hr
            exact ih hrec
      · cases hr
        exact h.parkPage
      · cases hr
        exact h.accessFail
      · cases hr
        trivial

/-- RINJ's payloads are copied and become records. -/
theorem View.Canonical.injects {y : Warp} {id : Nat} {bd : Binding} {slots : List Nat} {bytes : List Byte} {close : Bool} :
    Keeps State.memoriesWf (match (v.put y).fillSlots bd slots bytes with
      | .park p => .error (v.parkPage (p * 2 ^ 14))
      | .fail c va => v.accessFail c va true
      | .tables _ => .error .tables
      | .ok s2 =>
        let s3 : State := { s2 with binds := tput s2.binds id bd, uid := s2.uid + 1 }
        let s4 := s3.inject id slots
        let s5 : State := { s4 with binds := tmod s4.binds id (fun q => { q with closed := q.closed || close }) }
        .ok (s5.flush v.c)) := by
  split
  · exact h.parkPage
  · exact h.accessFail
  · trivial
  · next s2 hs2 =>
    have h4 : (State.inject { s2 with binds := tput s2.binds id bd, uid := s2.uid + 1 } id slots).memoriesWf :=
      State.memoriesWf.inject (State.memoriesWf_mk.2 (State.memoriesWf.fillSlots h.put hs2).parts)
    exact State.memoriesWf.flush (State.memoriesWf_mk.2 h4.parts)

end

section
variable {s : State} (h : s.memoriesWf) {d a b : Opnd} {wa wb : Bool}
include h

theorem endsCanonical_rinj : EndsCanonical (execRinj d a b wa wb s) := by
  refine endsCanonical_issue h (fun _ hv => View.checks_resolveDst.then (fun _ => View.checks_rd.then (fun _ => View.checks_rd.then (fun _ =>
    hv.sources.bind (fun w hw => Keeps.trap.ite (View.checks_stageSet.then (fun _ => hw.bindFor.then (fun e => Keeps.trap.ite (Keeps.trap.ite
      (View.checks_noStage.then (fun _ => hw.releases.then (fun _ => Keeps.trap.ite (Keeps.ite ?_ (hw.destReady.then (fun _ => ?_)))))))))))))))
  · generalize e.2.keep = keep
    cases keep with
    | true => trivial
    | false => exact hw.hold
  · split
    · next r hr => exact hw.readBytes hr
    · exact hw.injects

/-! ## RTAKE and the assignment of records (17 R397, R400) -/

@[simp] theorem State.memoriesWf.answer {r : Ref} {p : Frag → Bool} : (s.answer r p).memoriesWf := by
  simp only [State.answer]
  repeat' split
  all_goals simp [h]

@[simp] theorem State.memoriesWf.assign {id g w : Nat} {dst : Option (Fin 32)} {e : Nat × Rec} : (s.assign id g w dst e).memoriesWf := by
  unfold State.assign
  split
  · exact h
  · refine State.memoriesWf.flush ?_
    split
    · exact State.memoriesWf.acquire (State.memoriesWf.modWarp h.putRec.owe)
    · exact State.memoriesWf.modWarp h.putRec.owe

theorem endsCanonical_rtake : EndsCanonical (execRtake d a b wa wb s) := by
  refine endsCanonical_issue h (fun _ hv => View.checks_resolveDst.then (fun _ => View.checks_rd.then (fun _ => View.checks_rd.then (fun _ =>
    hv.sources.bind (fun w hw => View.checks_stageSet.then (fun stages => ?_))))))
  split
  · trivial
  · next id bd _ =>
    refine Keeps.trap.ite (Keeps.trap.ite (hw.destReady.then (fun _ => Keeps.ite (Keeps.trap.ite (Keeps.ok hw.put.dropTaker)) ?_)))
    dsimp only
    split
    · exact Keeps.ite (hw.base.addTaker : Keeps State.memoriesWf (.error (.wait _ true))) (Keeps.ok hw.state.dropTaker.assign)
    · exact hw.hold.ite (hw.base.addTaker : Keeps State.memoriesWf (.error (.wait _ true)))

theorem endsCanonical_recordAssignment {id : Nat} : EndsCanonical (execRecordAssignment id s) := by
  refine endsCanonical_next ?_
  split
  · exact h
  · refine h.ite ?_
    split
    · exact h
    · dsimp only
      split
      · exact h.dropTaker.ite h.dropTaker.answer.assign
      · exact h.dropTaker

/-! ## RPASS, RDROP, REFF and RSTAT (17 R401 to R403) -/

@[simp] theorem State.memoriesWf.commitDone {w : Option (Nat × Nat × Bool)} {a : Arrival} {dropped : Bool} :
    (s.commitDone w a dropped).memoriesWf := by
  unfold State.commitDone
  split
  · exact h
  · split
    · exact h
    · exact h.ite h.modWarp.answer

@[simp] theorem State.memoriesWf.recSettle {id slot : Nat} : (s.recSettle id slot).memoriesWf := by
  unfold State.recSettle
  split
  · exact h
  · split
    · exact h
    · next b _ r _ =>
      have h2 : (s.commitDone r.waiter (.answer slot) (decide (r.st = .dropped))).memoriesWf := h.commitDone
      exact h.ite ((State.memoriesWf_mk.2 h2.parts).ite (State.memoriesWf.freeRec (State.memoriesWf_mk.2 h2.parts)))

@[simp] theorem State.memoriesWf.recFlush {c : Fin 64} {id slot : Nat} : (s.recFlush c id slot).memoriesWf := h.flush.recSettle.flush

@[simp] theorem State.memoriesWf.recsSettle : s.recsSettle.memoriesWf :=
  h.foldl (fun _ _ ht => ht.foldl (fun _ _ hu => hu.recSettle.ite hu))

end

theorem View.Canonical.endGone {v : View} (h : v.Canonical) : Keeps State.memoriesWf v.endGone := h.put

section
variable {v : View} (h : v.Canonical)

theorem View.checks_effData {n : Nat} {b : Opnd} {wb : Bool} : Checks (v.effData n b wb) := by
  refine View.checks_rd.then (fun _ => Keeps.ite trivial ?_)
  split
  · exact Keeps.ite trivial trivial
  · trivial

end

section
variable {s : State} (h : s.memoriesWf) {d a b : Opnd} {wa wb : Bool}
include h

theorem endsCanonical_rpass : EndsCanonical (execRpass s) := by
  refine endsCanonical_issue h (fun v hv => ?_)
  split
  · exact Keeps.ite hv.put hv.hold
  · split
    · trivial
    · exact hv.hold
    · exact hv.endGone
    · refine hv.releases.then (fun _ => Keeps.ite ?_ ?_)
      · exact State.memoriesWf.flush (State.memoriesWf.modWarp (State.memoriesWf.putRec hv.base.putBind))
      · exact State.memoriesWf.flush (State.memoriesWf.putRec hv.put.putBind)

theorem endsCanonical_rdrop : EndsCanonical (execRdrop s) := by
  refine endsCanonical_issue h (fun v hv => ?_)
  split
  · trivial
  · exact hv.hold
  · exact hv.endGone
  · exact hv.releases.then (fun _ => Keeps.ok hv.put.putBind.endRec.recFlush)

theorem endsCanonical_reff {sz : BitVec 7} : EndsCanonical (execReff sz a b wa wb s) := by
  refine endsCanonical_issue h (fun v hv => View.checks_rd.then (fun _ => Keeps.trap.ite (View.checks_effData.then (fun _ =>
    hv.sources.bind (fun w hw => ?_)))))
  dsimp only
  split
  · trivial
  · exact hw.hold
  · exact hw.put
  · exact Keeps.trap.ite (Keeps.trap.ite (Keeps.trap.ite (Keeps.ok hw.put.putRec.flush)))

theorem endsCanonical_rstat : EndsCanonical (execRstat d a b wa wb s) :=
  endsCanonical_issue h (fun _ hv => View.checks_resolveDst.then (fun _ => View.checks_rd.then (fun _ => View.checks_rd.then (fun _ =>
    hv.sources.bind (fun _ hw => View.checks_stageSet.then (fun _ => Keeps.trap.ite (hw.destReady.then (fun _ => Keeps.ok hw.put))))))))

end

/-! ## Windows and commits (17 R392 to R395) -/

theorem State.memoriesWf.routeWaiting {id n : Nat} {s : State} (h : s.memoriesWf) : (s.routeWaiting id n).memoriesWf := by
  induction n generalizing s with
  | zero => exact h
  | succ n ih =>
    rw [State.routeWaiting]
    split
    · exact h
    · split
      · exact h
      · exact ih (State.memoriesWf.putRec h.putBind)

/-- A wait for the effects of a record leaves the memories as they are. -/
theorem State.memoriesWf.effectsTo {s : State} (h : s.memoriesWf) {c : Fin 64} {die : Nat} {l : List Effect} {t : State}
    (ht : s.effectsTo c die l = .wait t) : t.memoriesWf := by
  induction l with
  | nil => cases ht
  | cons e r ih =>
    rw [State.effectsTo] at ht
    split at ht
    · cases ht
    · cases ht
    · cases ht
      exact h.addFault
    · split at ht
      · split at ht
        · cases ht
          exact h
        · cases ht
      · exact ih ht

section
variable {s : State} (h : s.memoriesWf)
include h

theorem endsCanonical_windowClose {id : Nat} : EndsCanonical (execWindowClose id s) := by
  refine endsCanonical_next ?_
  split
  · exact h
  · exact (State.memoriesWf.flush (State.memoriesWf.routeWaiting h.putBind)).ite h

theorem endsCanonical_recordCommit {id slot : Nat} : EndsCanonical (execRecordCommit id slot s) := by
  refine endsCanonical_next ?_
  split
  · exact h
  · split
    · exact h
    · refine h.ite ?_
      split
      · next ht => exact h.effectsTo ht
      · exact h.dropRec.recFlush
      · exact h.faultContext
      · exact State.memoriesWf.recFlush (State.memoriesWf.endRec (h.foldl (fun _ _ ht => ht.engPutBytes)))

end

end Sys2Proof.Machine
end

section
/-! O58: barriers, exchange stores, reductions and the clocks leave every memory canonical. -/

namespace Sys2Proof.Machine

/-! ## Barrier objects (13 R301, R302) -/

section
variable {v : View} (h : v.Canonical)

theorem View.checks_barAt {r : Rd} : Checks (v.barAt r) := Keeps.ite trivial (Keeps.ite trivial trivial)

include h

theorem View.Canonical.putGroup {y : Warp} {f : Group → Group} (hf : ∀ x : Group, x.Canonical → (f x).Canonical) : (v.putGroup y f).memoriesWf :=
  State.memoriesWf.modGroup h.put hf

theorem View.Canonical.stay {α : Type} {P : α → Prop} {a : Arrival} : Keeps P (.error (v.stay a)) :=
  (h.base.modWarp : Keeps P (.error (.wait _ true)))

theorem View.Canonical.bwait {ra rb : Rd} : Keeps State.memoriesWf (v.bwait ra rb) :=
  h.sources.bind (fun _ hw => View.checks_barAt.then (fun _ => Keeps.trap.ite (hw.stay.ite (Keeps.ok hw.put))))

/-! ## GSYNC and CSYNC (13 R304 to R306) -/

theorem View.Canonical.meet {stood : Option Nat} {next : Nat} {arrive : Warp → Warp} {mark : Nat → Arrival} {done : Group → Nat → Bool}
    {scope : Nat} :
    Keeps State.memoriesWf (v.meet stood next arrive mark done scope) := by
  unfold View.meet
  dsimp only
  split
  · exact Keeps.ite (Keeps.ok h.state.modWarp.acquire) h.park
  · refine h.park.ite (h.hold.ite (Keeps.ite ?_ ?_))
    · exact State.memoriesWf.acquire (State.memoriesWf.modWarp (State.memoriesWf.settleSync h.put))
    · exact State.memoriesWf.settleSync h.base.modWarp

/-! ## Exchange stores (13 R307, R308) -/

omit h in
theorem View.checks_exchOk {x : Nat} {far : Bool} : Checks (v.exchOk x far) := Keeps.ite trivial (Keeps.ite trivial (Keeps.ite trivial trivial))

theorem View.Canonical.sendExch {data : Loc} {x : Nat} {tgts : List Nat} : (v.sendExch data x tgts).memoriesWf := by
  have hs : (v.put { v.y with remN := v.y.remN + 1 }).memoriesWf := h.put
  exact State.memoriesWf_mk.2 hs.parts

omit h in
theorem View.checks_credOk {c : Nat} : Checks (v.credOk c) :=
  Keeps.ite trivial (Keeps.ite trivial (Keeps.ite trivial (Keeps.ite trivial trivial)))

end

section
variable {s : State} (h : s.memoriesWf) {d a b : Opnd} {wa wb : Bool}
include h

theorem endsCanonical_binit : EndsCanonical (execBinit a b wa wb s) :=
  endsCanonical_issue h (fun _ hv => View.checks_rd.then (fun _ => View.checks_rd.then (fun _ => hv.sources.bind (fun _ hw =>
    View.checks_barAt.then (fun _ => Keeps.trap.ite (Keeps.ok (hw.putGroup (fun _ hx => hx.setBar))))))))

theorem endsCanonical_bexp : EndsCanonical (execBexp a b wa wb s) :=
  endsCanonical_issue h (fun _ hv => View.checks_rd.then (fun _ => View.checks_rd.then (fun _ => hv.sources.bind (fun _ hw =>
    View.checks_barAt.then (fun _ => Keeps.ok (hw.putGroup (fun _ hx => hx.barAdd)))))))

theorem endsCanonical_barr : EndsCanonical (execBarr d a wa s) := by
  refine endsCanonical_issue h (fun _ hv => View.checks_resolveDst.then (fun _ => View.checks_rd.then (fun _ => hv.sources.bind (fun w hw =>
    View.checks_barAt.then (fun o => ?_)))))
  generalize w.grp.bar o = q
  exact Keeps.trap.ite (Keeps.trap.ite (hw.destReady.then (fun _ => hw.hold.ite (Keeps.ok (hw.putGroup (fun _ hx => hx.setBar))))))

theorem endsCanonical_bwait : EndsCanonical (execBwait a b wa wb s) := by
  refine endsCanonical_issue h (fun v hv => View.checks_rd.then (fun ra => View.checks_rd.then (fun rb => ?_)))
  split
  · exact hv.park
  · have hs : Keeps View.Canonical (v.sources [ra, rb]) := hv.sources
    split
    · next u hu =>
      rw [hu] at hs
      exact View.Canonical.put hs
    · exact hv.put
  · exact (hv.base.modWarp : Keeps State.memoriesWf (.error (.late _ _ _)))
  · exact hv.bwait

theorem endsCanonical_btest : EndsCanonical (execBtest d a b wa wb s) :=
  endsCanonical_issue h (fun _ hv => View.checks_resolveDst.then (fun _ => View.checks_rd.then (fun _ => View.checks_rd.then (fun _ =>
    hv.sources.bind (fun _ hw => View.checks_barAt.then (fun _ => hw.destReady.then (fun _ => Keeps.ok hw.put)))))))

theorem endsCanonical_gsync : EndsCanonical (execGsync s) := endsCanonical_issue h (fun _ hv => hv.meet)

theorem endsCanonical_csync : EndsCanonical (execCsync s) := endsCanonical_issue h (fun _ hv => hv.meet)

theorem endsCanonical_xst : EndsCanonical (execXst a b wa wb s) := by
  refine endsCanonical_issue h (fun v hv => View.checks_rd.then (fun ra => View.checks_rd.then (fun rb => ?_)))
  cases b with
  | s i =>
    refine Keeps.trap.ite (hv.sources.bind (fun w hw => Keeps.trap.ite (View.checks_exchOk.then (fun _ => View.checks_noStage.then (fun _ => ?_)))))
    split
    · trivial
    · split
      · exact hw.hold
      · exact Keeps.trap.ite (Keeps.ok hw.put)
      · exact Keeps.trap.ite (Keeps.ok hw.put)
      · exact hw.sendExch
  | _ => trivial

theorem endsCanonical_mcst : EndsCanonical (execMcst a b wa wb s) :=
  endsCanonical_issue h (fun _ hv => View.checks_rd.then (fun _ => View.checks_rd.then (fun _ => hv.sources.bind (fun _ hw =>
    View.checks_exchOk.then (fun _ => View.checks_noStage.then (fun _ => Keeps.ok hw.sendExch))))))

end

/-- R303, R307: an exchange store lands in a shadow bank. -/
theorem Group.Canonical.exchLand {x : Group} (h : x.Canonical) {e : ExchStore} : (x.exchLand e).Canonical := by
  have hbank {m : Memory} (hm : Memory.wf m = true) : Memory.wf ((List.finRange 32).foldl (fun (m : Memory) (i : Fin 32) =>
      if e.mask.getLsbD i.val then Memory.wr m (e.off + 4 * i.val) 4 (e.lanes[i]).toNat else m) m) = true :=
    List.foldlRecOn (motive := fun m => Memory.wf m = true) _ _ hm (fun m hm i _ => by
      split
      · exact Memory.wf_wr _ _ _ hm
      · exact hm)
  have hlive : Memory.wf (if x.live1 then x.bank0 else x.bank1) = true := by
    split
    · exact h.2.2.1
    · exact h.2.2.2
  replace hbank := hbank hlive
  unfold Group.exchLand
  dsimp only
  generalize (List.finRange 32).foldl _ _ = m at hbank ⊢
  have hx : (if x.live1 then { x with bank0 := m } else { x with bank1 := m } : Group).Canonical := by
    split
    · exact ⟨h.1, h.2.1, hbank, h.2.2.2⟩
    · exact ⟨h.1, h.2.1, h.2.2.1, hbank⟩
  split
  · exact hx.barLand
  · exact hx

/-- Whether it goes on or stops there, memories are canonical. -/
def EitherCanonical : Except State State → Prop
  | .ok t => t.memoriesWf
  | .error t => t.memoriesWf

section
variable {s : State} (h : s.memoriesWf) {d a b : Opnd} {wa wb : Bool}
include h

/-- 15 R359: an exchange store into an image has it written anew. -/
theorem State.memoriesWf.exchImage {g : Option Nat} : EitherCanonical (s.exchImage g) := by
  unfold State.exchImage
  split
  · exact h
  · split
    · exact h
    · dsimp only
      split
      · next ht => exact State.memoriesWf.modGroup (h.putImage ht) (fun _ hx => hx.same rfl rfl rfl rfl)
      · next hno => exact h.imageStop (fun t ht => absurd ht (hno t))

theorem endsCanonical_exchangeStoreLand {id : Nat} : EndsCanonical (execExchangeStoreLand id s) := by
  refine endsCanonical_next ?_
  split
  · exact h
  · next e _ =>
    dsimp only
    have hi : EitherCanonical (s.exchImage e.tgts.head?) := h.exchImage
    split
    · next t ht =>
      rw [ht] at hi
      exact hi
    · next s0 hs0 =>
      rw [hs0] at hi
      refine State.memoriesWf_mk.2 (State.memoriesWf.parts (State.memoriesWf.modWarp ?_))
      split
      · exact State.memoriesWf.ite hi (State.memoriesWf.modGroup hi (fun _ hx => hx.exchLand))
      · exact hi

/-! ## Reductions (13 R309) and time (13 R310, R311) -/

theorem endsCanonical_cred : EndsCanonical (execCred d a b wa wb s) := by
  refine endsCanonical_issue h (fun v hv => ?_)
  split
  · exact hv.park
  · refine View.checks_resolveDst.then (fun _ => View.checks_rd.then (fun _ => View.checks_rd.then (fun rb => hv.sources.bind (fun w hw => ?_))))
    generalize w.val rb = c
    refine View.checks_credOk.then (fun _ => View.checks_noStage.then (fun _ => hw.destReady.then (fun _ => Keeps.ite (Keeps.ok hw.put) ?_)))
    refine Keeps.trap.ite (hw.park.ite (hw.releases.then (fun _ => ?_)))
    exact State.memoriesWf_mk.2 (State.memoriesWf.parts (State.memoriesWf.modWarp hw.put))

@[simp] theorem State.memoriesWf.redAnswer {id : Nat} {x : DWord} {w : Nat × Nat × Bool × Option (Fin 32)} : (s.redAnswer id x w).memoriesWf := by
  obtain ⟨g, i, slot, dst⟩ := w
  unfold State.redAnswer
  dsimp only
  have h1 : (match dst with
      | some k => s.modWarp g i (fun y => y.setS k x)
      | none => s).memoriesWf := by
    cases dst with
    | none => exact h
    | some k => exact h.modWarp
  refine State.memoriesWf.answer ?_
  split
  · exact h1.acquire
  · exact h1

theorem endsCanonical_reductionResult {id : Nat} : EndsCanonical (execReductionResult id s) := by
  refine endsCanonical_next ?_
  split
  · exact h
  · exact h.ite (State.memoriesWf_mk.2 (State.memoriesWf.parts (h.foldl (fun _ _ ht => ht.redAnswer))))

theorem endsCanonical_rdtim : EndsCanonical (execRdtim d s) :=
  endsCanonical_issue h (fun _ hv => View.checks_resolveDst.then (fun _ => hv.destReady.then (fun _ => Keeps.ok hv.put)))

theorem endsCanonical_rdcyc : EndsCanonical (execRdcyc d s) :=
  endsCanonical_issue h (fun _ hv => View.checks_resolveDst.then (fun _ => hv.destReady.then (fun _ => Keeps.ok hv.put)))

end

end Sys2Proof.Machine
end

section
/-! O58: the copy engines and the copy instructions leave every memory canonical. -/

namespace Sys2Proof.Machine

/-! ## What an engine's access answers (12 R285) -/

/-- What an engine's access answers, where it is served, is as a predicate says. -/
def Served {α : Type} (P : α → Prop) : Except Stall α → Prop
  | .ok a => P a
  | .error _ => True

section
variable {α β : Type} {P : α → Prop} {Q : β → Prop}

theorem Served.any {r : Except Stall α} : Served (fun _ => True) r := by cases r <;> trivial

theorem Served.bind {r : Except Stall α} {k : α → Except Stall β} (hr : Served P r) (hk : ∀ a, P a → Served Q (k a)) : Served Q (r >>= k) := by
  cases r with
  | ok a => exact hk a hr
  | error e => trivial

/-- An access that answers no state comes before another one. -/
theorem Served.after {r : Except Stall α} {k : α → Except Stall β} (hk : ∀ a, Served Q (k a)) : Served Q (r >>= k) :=
  Served.bind (P := fun _ => True) Served.any (fun a _ => hk a)

theorem Served.ite {c : Prop} [Decidable c] {r q : Except Stall α} (hr : Served P r) (hq : Served P q) : Served P (if c then r else q) := by
  split
  · exact hr
  · exact hq

theorem Served.of_eq {r : Except Stall α} (h : Served P r) {a : α} (hr : r = .ok a) : P a := by
  rw [hr] at h
  exact h

end

/-! ## Acceptance (12 R280 to R286) -/

section
variable {s : State} (h : s.memoriesWf)
include h

@[simp] theorem State.memoriesWf.dropRange {core : Nat} {r : Range} : (s.dropRange core r).memoriesWf := by
  refine h.ite (h.foldl (fun t i ht => ?_))
  dsimp only
  split
  · exact ht.modCore
  · exact ht

@[simp] theorem State.memoriesWf.putCopy {id : Nat} {c : Copy} : (s.putCopy id c).memoriesWf := h

@[simp] theorem State.memoriesWf.parkCopy {id : Nat} {c : Copy} {ctx page : Nat} : (s.parkCopy id c ctx page).memoriesWf := h.putCopy.addFault

/-! ## Landing (12 R285, R286) -/

theorem State.memoriesWf.copySend {c : Copy} {node addr : Nat} {p : Packet} : Served State.memoriesWf (s.copySend c node addr p) := by
  refine Served.ite trivial (Served.ite trivial ?_)
  exact State.memoriesWf.sendFrom (State.memoriesWf_mk.2 h)

theorem State.memoriesWf.sendBytes {id : Nat} {c : Copy} {node addr op : Nat} {b : List Byte} :
    Served State.memoriesWf (s.sendBytes id c node addr op b) :=
  h.copySend.bind (fun _ ht => State.memoriesWf_mk.2 ht.parts)

omit h in
theorem State.memoriesWf.landPieces {id : Nat} {c : Copy} {l : List (Nat × Nat)} {b : List Byte} {s : State} (h : s.memoriesWf) :
    Served State.memoriesWf (s.landPieces id c l b) := by
  induction l generalizing s b with
  | nil => exact h
  | cons e r ih =>
    obtain ⟨pa, k⟩ := e
    rw [State.landPieces]
    exact Served.ite (ih h.engPutBytes) (h.sendBytes.bind (fun _ ht => ih ht))

theorem State.memoriesWf.endWr {id : Nat} {c : Copy} {off n v : Nat} {half : Bool} : Served State.memoriesWf (s.endWr id c off n v half) := by
  have hgo : Served State.memoriesWf (
      if c.dst.spad then .ok (s.modGroup c.g (fun g =>
        { (g.winHeal 0 .spad (c.dst.addr + off) n) with
          spad := Memory.wr g.spad (c.dst.addr + off) n (if half then Memory.rd g.spad (c.dst.addr + off) 1 / 16 * 16 + v % 16 else v) }))
      else if c.away s then s.sendCell id c off n v
      else if s.refuses c then .error (.fail cRFAULT (c.dst.addr % 2 ^ 56 + off))
      else do
        let ps ← s.pieces c.tctx c.user true c.dst.addr (n + 1) off n
        let _ ← s.copyReach c (c.dst.addr % 2 ^ 56 + off) ps
        if half && ps.any (fun (pa, k) => s.engBad pa k) then .error (.fail cUNCORR (c.dst.addr % 2 ^ 56 + off))
        else
          let bytes := leBytes n (if half then (match ps with
            | (pa, _) :: _ => s.engRd pa 1 / 16 * 16 + v % 16
            | [] => v) else v)
          s.landPieces id c ps bytes) := by
    refine Served.ite ?_ (Served.ite h.sendBytes (Served.ite trivial (Served.after (fun _ => Served.after (fun _ => Served.ite trivial h.landPieces)))))
    refine State.memoriesWf.modGroup h (fun x hx => ?_)
    have hw : (x.winHeal 0 .spad (c.dst.addr + off) n).Canonical := hx.winHeal
    exact ⟨Memory.wf_wr _ _ _ hx.1, hw.2⟩
  unfold State.endWr
  dsimp only
  split
  · exact State.memoriesWf.modGroup h (fun _ hx => hx.same rfl rfl rfl rfl)
  · exact hgo

@[simp] theorem State.memoriesWf.landed {id : Nat} {c : Copy} {n : Nat} : (s.landed id c n).memoriesWf := by
  unfold State.landed
  dsimp only
  refine State.memoriesWf.putCopy (h.ite (State.memoriesWf.modGroup h (fun x hx => ?_)))
  have hp {l : List Nat} : (l.foldl Group.present { x with absent := x.absent }).Canonical := Group.Canonical.foldl hx (fun _ _ hy => hy.present)
  split
  · split
    · exact hp
    · exact hp.barLand
  · exact hp

theorem State.memoriesWf.landCell {id : Nat} {c : Copy} : Served State.memoriesWf (s.landCell id c) :=
  Served.after (fun _ => Served.bind (State.memoriesWf.endWr (h.foldl (fun _ _ ht => ht.l2Access))) (fun _ ht => ht.landed))

omit h in
@[simp] theorem State.memoriesWf.landCells {id n : Nat} {s : State} (h : s.memoriesWf) : (s.landCells id n).memoriesWf := by
  induction n generalizing s with
  | zero => exact h
  | succ n ih =>
    rw [State.landCells]
    split
    · exact h
    · split
      · split
        · next ht => exact ih (h.landCell.of_eq ht)
        · exact h.parkCopy
        · exact h
        · exact h
        · exact h
        · exact h.faultContext
      · exact h

/-! ## The end (12 R284, R291, R292) -/

theorem State.memoriesWf.sendFlag {c : Copy} : Served State.memoriesWf (s.sendFlag c) := by
  refine Served.ite (Served.ite trivial (Served.after (fun _ => Served.after (fun _ => ?_)))) (Served.ite h.copySend h)
  split
  · exact Served.ite trivial (State.memoriesWf.recheckSignals h.engPutBytes)
  · exact h

@[simp] theorem State.memoriesWf.loseCells {c : Copy} : (s.loseCells c).memoriesWf := by
  refine State.memoriesWf.ite (State.memoriesWf.modGroup h (fun x hx => ⟨?_, hx.2⟩)) h
  refine List.foldlRecOn (motive := fun m => Memory.wf m = true) _ _ hx.1 (fun m hm e _ => ?_)
  exact List.foldlRecOn (motive := fun m => Memory.wf m = true) _ _ hm (fun m hm _ _ => Memory.wf_put _ _ hm)

theorem endsCanonical_copyLand {id n : Nat} : EndsCanonical (execCopyLand id n s) := endsCanonical_next h.landCells

theorem endsCanonical_copyDone {id : Nat} : EndsCanonical (execCopyDone id s) := by
  refine endsCanonical_next ?_
  split
  · exact h
  · split
    · split
      · next ht => exact State.memoriesWf.endCopy (h.sendFlag.of_eq ht)
      · exact h.parkCopy
      · exact h
      · exact h
      · exact h
      · exact h.faultContext
    · exact h

theorem endsCanonical_copyFail {id : Nat} : EndsCanonical (execCopyFail id s) := by
  refine endsCanonical_next ?_
  split
  · exact h
  · dsimp only
    split
    · exact h.loseCells.endCopy.flush
    · exact h.lostRoute.loseCells.endCopy.flush
    · exact h

end

/-! ## The copy instructions (12 R277 to R297) -/

section
variable {v : View} (h : v.Canonical)

theorem View.checks_endFits {e : End_} {n : Nat} : Checks (v.endFits e n) := Keeps.ite trivial trivial

theorem View.checks_copyBar {c : DWord} : Checks (v.copyBar c) := Keeps.ite (Keeps.ite trivial trivial) trivial

theorem View.checks_fifoFor {k : Fin 4} : Checks (v.fifoFor k) := by
  unfold View.fifoFor
  split
  · trivial
  · exact Keeps.ite trivial trivial

include h

/-- R280, R281: the acceptance of a copy. -/
theorem View.Canonical.accept {j : Job} {sys : Bool} : Keeps (fun e : State × Nat × DWord => e.1.memoriesWf) (v.accept j sys) := by
  refine h.releases.then (fun _ => ?_)
  dsimp only
  generalize (if j.toSpad = true then linesAt _ _ else []) = lines
  split
  · exact h.hold
  · refine h.hold.ite (h.hold.ite (h.hold.ite (h.hold.ite ?_)))
    refine State.memoriesWf_mk.2 (State.memoriesWf.parts (State.memoriesWf.foldl (State.memoriesWf.modGroup h.put (fun x hx => ?_))
      (fun _ _ ht => ht.dropRange)))
    split
    · refine Group.Canonical.barAdd ?_
      exact hx.same rfl rfl rfl rfl
    · exact hx.same rfl rfl rfl rfl

theorem View.Canonical.copyParams {d a : Opnd} {wa : Bool} {geom ctl : Nat} : Keeps (fun p : Params => p.v.Canonical) (v.copyParams d a wa geom ctl) := by
  refine View.checks_resolveDst.then (fun _ => ?_)
  split
  · exact Keeps.trap.ite (h.sources.bind (fun _ hw => Keeps.trap.ite hw))
  · trivial

end

section
variable {p : Params} (h : p.v.Canonical)
include h

theorem Params.accept_keeps {j : Job} {m n : Nat} {sys stage : Bool} : Keeps (fun e : State × Nat => e.1.memoriesWf) (p.accept j m n sys stage) := by
  refine View.checks_endFits.then (fun _ => Checks.then (Keeps.ite View.checks_endFits Checks.ok) (fun _ => Keeps.trap.ite ?_))
  exact Checks.then (Keeps.ite View.checks_noStage Checks.ok) (fun _ => h.destReady.then (fun _ => h.accept.bind (fun _ he => he.modWarp)))

theorem Params.run_keeps {kind : CopyKind} {lay : Layout} {n : Nat} {x : BitVec 16} :
    Keeps (fun e : State × Nat => e.1.memoriesWf) (p.run kind lay n x) := View.checks_copyBar.then (fun _ => Params.accept_keeps h)

end

section
variable {s : State} (h : s.memoriesWf) {d a : Opnd} {wa : Bool}
include h

theorem endsCanonical_cpy : EndsCanonical (execCpy d a wa s) :=
  endsCanonical_issue h (fun _ hv => hv.copyParams.bind (fun _ hp => (Params.run_keeps hp).bind (fun _ he => Keeps.ok (he.endCopy.ite he))))

theorem endsCanonical_cpyt : EndsCanonical (execCpyt d a wa s) :=
  endsCanonical_issue h (fun _ hv => hv.copyParams.bind (fun _ hp => Keeps.trap.ite (Keeps.trap.ite (Keeps.trap.ite
    ((Params.run_keeps hp).bind (fun _ he => he))))))

theorem endsCanonical_cpyq : EndsCanonical (execCpyq d a wa s) :=
  endsCanonical_issue h (fun _ hv => hv.copyParams.bind (fun _ hp => Keeps.trap.ite (Keeps.trap.ite (Keeps.trap.ite
    ((Params.run_keeps hp).bind (fun _ he => he))))))

theorem endsCanonical_cpyf {f : BitVec 7} : EndsCanonical (execCpyf d a f wa s) := by
  refine endsCanonical_issue h (fun _ hv => View.checks_idx4.then (fun _ => hv.copyParams.bind (fun p hp => Keeps.trap.ite
    (View.checks_fifoFor.then (fun q => View.checks_copyBar.then (fun _ => View.checks_endFits.then (fun _ => hp.hold.ite
      ((Params.accept_keeps hp).bind (fun _ he => ?_)))))))))
  exact State.memoriesWf.modGroup he (fun _ hx => hx.same rfl rfl rfl rfl)

theorem endsCanonical_cpyx : EndsCanonical (execCpyx d a wa s) :=
  endsCanonical_issue h (fun _ hv => hv.copyParams.bind (fun _ hp => Keeps.trap.ite ((Params.accept_keeps hp).bind (fun _ he => he))))

theorem endsCanonical_cstat : EndsCanonical (execCstat d a wa s) :=
  endsCanonical_issue h (fun _ hv => View.checks_resolveDst.then (fun _ => View.checks_rd.then (fun _ =>
    hv.sources.bind (fun _ hw => hw.destReady.then (fun _ => Keeps.ok hw.put)))))

theorem endsCanonical_ccan : EndsCanonical (execCcan a wa s) := by
  refine endsCanonical_issue h (fun v hv => ?_)
  split
  · exact hv.hold.ite (Keeps.ok hv.put)
  · refine View.checks_rd.then (fun _ => hv.sources.bind (fun w hw => ?_))
    split
    · exact hw.put
    · exact Keeps.ite (hw.base.endCopy.modWarp : Keeps State.memoriesWf (.error (.wait _ false))) (Keeps.ok hw.state.endCopy.modWarp)

end

end Sys2Proof.Machine
end

section
/-! O58: queues, launches and their phases, and migrations leave every memory canonical. -/

namespace Sys2Proof.Machine

/-! ## Queues and launches (06 R112 to R120, 07 R131 to R142) -/

theorem GroupsCanonical.append {l m : Tab Group} (hl : GroupsCanonical l) (hm : GroupsCanonical m) : GroupsCanonical (l ++ m) := by
  intro e he
  rcases List.mem_append.mp he with h | h
  · exact hl e h
  · exact hm e h

section
variable {s : State} (h : s.memoriesWf)
include h

@[simp] theorem State.memoriesWf.onQueue {q : Fin 256} {f : Queue → Queue} : (s.onQueue q f).memoriesWf :=
  State.memoriesWf.ite (State.memoriesWf_mk.2 h) h

theorem endsCanonical_kernelLoad {q : Fin 256} : EndsCanonical (execKernelLoad q s) := by
  refine endsCanonical_next (h.ite ?_)
  split
  · exact h
  · exact h.addFault
  · exact h.faultContext
  · exact h
  · exact h
  · split
    · exact h
    · exact h
    · exact h.addFault
    · exact h.faultContext

@[simp] theorem State.memoriesWf.addGroups {l ctx phase prio count : Nat} {x : Schedule} : (s.addGroups l ctx phase prio count x).memoriesWf := by
  refine State.memoriesWf_mk.2 ⟨h.1, h.2.1, GroupsCanonical.append h.2.2 (fun e he => ?_)⟩
  obtain ⟨i, -, rfl⟩ := List.mem_map.mp he
  exact ⟨rfl, rfl, rfl, rfl⟩

@[simp] theorem State.memoriesWf.launchHead {i : Fin 256} {k : Kernel} : (s.launchHead i k).memoriesWf := by
  unfold State.launchHead
  dsimp only
  split
  · exact h
  · exact State.memoriesWf.addGroups (State.memoriesWf_mk.2 h)

@[simp] theorem State.memoriesWf.readHead {q : Queue} : (s.readHead q).memoriesWf := by
  unfold State.readHead
  split
  · exact h.addFault
  · exact h.faultContext
  · exact h

@[simp] theorem State.memoriesWf.readHeads {p : Queue → Bool} : (s.readHeads p).memoriesWf := h.foldl (fun _ _ ht => ht.readHead.ite ht)

theorem endsCanonical_launchAdmission : EndsCanonical (execLaunchAdmission s) := by
  refine endsCanonical_next ?_
  dsimp only
  generalize hs : s.readHeads _ = s0
  have h0 : s0.memoriesWf := hs ▸ h.readHeads
  have h1 : ({ s0 with queues := s0.queues.map s0.rejudgeHead } : State).memoriesWf := h0.same rfl rfl rfl
  refine State.memoriesWf.ite ?_ h1
  split
  · exact h1.launchHead
  · exact h1

theorem endsCanonical_signalRecheck : EndsCanonical (execSignalRecheck s) := endsCanonical_next h.readHeads.recheckSignals

theorem endsCanonical_priorityAgeing {head : Bool} {id : Nat} : EndsCanonical (execPriorityAgeing head id s) := by
  refine endsCanonical_next (State.memoriesWf.ite (State.memoriesWf.ite ?_ h) (h.modGroup (fun x hx => ?_)))
  · dsimp only
    split
    · exact State.memoriesWf.ite h h
    · exact h
  · dsimp only
    split
    · exact hx.same rfl rfl rfl rfl
    · exact hx

@[simp] theorem State.memoriesWf.fire {d i : Nat} : (s.fire d i).memoriesWf := ⟨h.1, Memory.wf_put _ _ h.2.1, h.2.2⟩

@[simp] theorem State.memoriesWf.drainCount {c : Fin 64} : (s.drainCount c).memoriesWf := h.modCtx.foldl (fun _ _ ht => ht.fire)

theorem endsCanonical_phaseDrained {l : Nat} : EndsCanonical (execPhaseDrained l s) := by
  refine endsCanonical_next ?_
  split
  · exact h
  · next x _ =>
    have h1 : (if (s.ctxs[cfin x.k.ctx]).st.runs then s.drainCount (cfin x.k.ctx) else s).memoriesWf := h.drainCount.ite h
    exact h.ite (h1.endLaunch.idleCheck.flush.ite ((State.memoriesWf_mk.2 h1.parts).ite h1.endLaunch.idleCheck.flush))

@[simp] theorem State.memoriesWf.badCount {l : Nat} {x : Launch} {addr : Nat} : (s.badCount l x addr).memoriesWf := h.log.endLaunch.idleCheck.flush

theorem endsCanonical_phaseSelection {l : Nat} : EndsCanonical (execPhaseSelection l s) := by
  refine endsCanonical_next ?_
  split
  · exact h
  · refine h.ite ?_
    dsimp only
    split
    · exact h.addFault
    · exact h.faultContext
    · exact h.ite h.badCount
    · split
      · exact h.ite h.badCount
      · exact State.memoriesWf.addGroups (State.memoriesWf_mk.2 h)

end

/-! ## Migrations (15 R358 to R363) -/

section
variable {s : State} (h : s.memoriesWf)
include h

@[simp] theorem State.memoriesWf.setLeaf {addr e : Nat} : (s.setLeaf addr e).memoriesWf := h.wr.l2Touch

@[simp] theorem State.memoriesWf.splitRun {c : Fin 64} {page run : Nat} : (s.splitRun c page run).memoriesWf := by
  refine h.ite (h.foldl (fun t i ht => ?_))
  split
  · exact ht.setLeaf
  · exact ht

theorem State.memoriesWf.popFrame {die dest : Nat} {t : State} {o : Option Nat} (hp : s.popFrame die dest = (t, o)) : t.memoriesWf := by
  simp only [State.popFrame] at hp
  split at hp
  · cases hp
    exact h
  · cases hp
    exact h

@[simp] theorem State.memoriesWf.endMig {id code : Nat} : (s.endMig id code).memoriesWf := State.memoriesWf.ite h h

@[simp] theorem State.memoriesWf.dropFault {id : Nat} {m : Migration} : (s.dropFault id m).memoriesWf := h.endMig.unpark

@[simp] theorem State.memoriesWf.lockPage {id : Nat} {m : Migration} {addr e frame dest : Nat} : (s.lockPage id m addr e frame dest).memoriesWf :=
  State.memoriesWf_mk.2 (State.memoriesWf.parts (State.memoriesWf.shootdown h.setLeaf.splitRun))

@[simp] theorem State.memoriesWf.pinPage {id : Nat} {m : Migration} {addr e : Nat} : (s.pinPage id m addr e).memoriesWf := h.setLeaf.shootdown.endMig

@[simp] theorem State.memoriesWf.hostLock {id : Nat} {m : Migration} {target addr e : Nat} : (s.hostLock id m target addr e).memoriesWf := by
  have hpop (die : Nat) : (match s.popFrame die target with
      | (_, none) => s.endMig id 4
      | (t, some f) => t.lockPage id m addr e f (if target = 1 then stFast else stCap)).memoriesWf := by
    split
    · exact h.endMig
    · next ht => exact (h.popFrame ht).lockPage
  exact h.endMig.ite (h.ite (h.pinPage.ite (h.endMig.ite (h.endMig.ite (State.memoriesWf.ite (h.endMig.ite h.lockPage) (hpop _))))))

theorem endsCanonical_migrationLock {id : Nat} : EndsCanonical (execMigrationLock id s) := by
  refine endsCanonical_next ?_
  split
  · exact h
  · refine h.ite (State.memoriesWf.ite (h.ite h) (h.ite ?_))
    split
    · exact h.hostLock
    · refine State.memoriesWf.ite h ?_
      split
      · exact h.dropFault
      · split
        · exact h.dropFault
        · next t f ht => exact (h.popFrame ht).lockPage
    · exact h.endMig
    · exact h.dropFault
    · exact h.faultContext.endMig

@[simp] theorem State.memoriesWf.moveTags {src : Option Nat} {dst : Nat} : (s.moveTags src dst).memoriesWf := h.foldl (fun _ _ ht => ht.setTag)

@[simp] theorem State.memoriesWf.touchPage {p : Nat} {write : Bool} : (s.touchPage p write).memoriesWf := by
  have hl : ((List.range 128).foldl (fun (t : State) i => t.l2Touch (p + 128 * i) 128 write) s).memoriesWf := h.foldl (fun _ _ ht => ht.l2Touch)
  unfold State.touchPage
  dsimp only
  split
  · exact hl.foldl (fun _ _ ht => ht.l2Touch)
  · exact hl

/-- 15 R358 step 4: the page's bytes move, or the frame is cleared. -/
@[simp] theorem State.memoriesWf.movePage {m : Migration} : (s.movePage m).memoriesWf := by
  have hmem : Memory.wf (if (leafOf m.oldLeaf).state = stAbsent then Memory.clear s.mem (frameLocal m.frame) (2 ^ 14)
      else Memory.move s.mem (frameLocal (leafOf m.oldLeaf).frame) (frameLocal m.frame) (2 ^ 14)) = true := by
    split
    · exact Memory.wf_clear _ _ h.1
    · exact Memory.wf_move _ _ _ h.1
  have hs : (State.moveTags { s with
      mem := if (leafOf m.oldLeaf).state = stAbsent then Memory.clear s.mem (frameLocal m.frame) (2 ^ 14)
        else Memory.move s.mem (frameLocal (leafOf m.oldLeaf).frame) (frameLocal m.frame) (2 ^ 14),
      bad := s.bad.filter (fun x => !(decide (frameLocal m.frame / 128 ≤ x) && decide (x < frameLocal m.frame / 128 + 128))) }
      (if (leafOf m.oldLeaf).state = stAbsent ∨ (leafOf m.oldLeaf).state = stHost then none else some (frameLocal (leafOf m.oldLeaf).frame))
      (frameLocal m.frame)).memoriesWf := State.memoriesWf.moveTags (State.memoriesWf_mk.2 ⟨hmem, h.2⟩)
  exact (State.memoriesWf.touchPage (hs.ite hs.touchPage)).l1DropAll

@[simp] theorem State.memoriesWf.failWaiters {ctx page : Nat} : (s.failWaiters ctx page).memoriesWf := by
  refine State.memoriesWf.foldl (h.foldl (fun t e ht => ?_)) (fun t e ht => ht.loseCells.endCopy)
  exact State.memoriesWf.takeDue (State.memoriesWf.memSettle (State.memoriesWf_mk.2 ht))

@[simp] theorem State.memoriesWf.abortMove {id : Nat} {m : Migration} : (s.abortMove id m).memoriesWf := by
  refine State.memoriesWf_mk.2 (State.memoriesWf.parts (State.memoriesWf.endMig (State.memoriesWf.failWaiters (State.memoriesWf.frameReturn ?_))))
  split
  · exact h.setLeaf.ite h
  · exact h

theorem endsCanonical_migrationMove {id : Nat} : EndsCanonical (execMigrationMove id s) := by
  refine endsCanonical_next ?_
  split
  · exact h
  · exact h.ite (h.abortMove.flush.ite (State.memoriesWf_mk.2 h.movePage.parts))

@[simp] theorem State.memoriesWf.pinEntry {die ctx page : Nat} : (s.pinEntry die ctx page).memoriesWf := h

@[simp] theorem State.memoriesWf.publish {id : Nat} {m : Migration} {addr : Nat} : (s.publish id m addr).memoriesWf :=
  (State.memoriesWf.pinEntry (h.setLeaf.ite h.setLeaf.frameReturn)).unpark.endMig

@[simp] theorem State.memoriesWf.unpublish {id : Nat} {m : Migration} : (s.unpublish id m).memoriesWf :=
  State.memoriesWf.ite (State.memoriesWf_mk.2 h.frameReturn.unpark.parts) (State.memoriesWf_mk.2 h.frameReturn.unpark.parts)

theorem endsCanonical_migrationPublish {id : Nat} : EndsCanonical (execMigrationPublish id s) := by
  refine endsCanonical_next ?_
  split
  · exact h
  · refine h.ite ?_
    split
    · exact h.publish.ite h.unpublish
    · exact h.unpublish

theorem endsCanonical_migratingLeafRecheck {id : Nat} : EndsCanonical (execMigratingLeafRecheck id s) := by
  refine endsCanonical_next ?_
  split
  · exact h
  · refine h.ite ?_
    split
    · exact h.ite h.dropFault
    · exact h.dropFault

theorem State.memoriesWf.pageCmd {act : State → State} (ha : (act s).memoriesWf) : (s.pageCmd act).memoriesWf :=
  h.ite (State.memoriesWf.ite h ha)

@[simp] theorem State.memoriesWf.startMig {target : Nat} : (s.startMig target).memoriesWf := h

theorem endsCanonical_migrate : EndsCanonical (execMigrate s) := endsCanonical_next (h.pageCmd (h.startMig.ite h))

theorem endsCanonical_pin : EndsCanonical (execPin s) := endsCanonical_next (h.pageCmd h.startMig)

theorem endsCanonical_unpin : EndsCanonical (execUnpin s) := by
  refine endsCanonical_next (h.pageCmd ?_)
  split
  · split
    · exact State.memoriesWf_mk.2 (State.memoriesWf.parts (State.memoriesWf.shootdown h.setLeaf))
    · exact h
  · exact h
  · exact h

theorem endsCanonical_mcmdTlbinv : EndsCanonical (execMcmdTlbinv s) :=
  endsCanonical_next (h.pageCmd (State.memoriesWf_mk.2 (State.memoriesWf.parts (State.memoriesWf.rejudge h.shootdown))))

theorem endsCanonical_frameinWrite {p : Fin 8} {pn : BitVec 64} : EndsCanonical (execFrameinWrite p pn s) :=
  endsCanonical_next (State.memoriesWf.ite h h)

end

end Sys2Proof.Machine
end

section
/-! O58: the links, the stations and inbound accesses leave every memory canonical. -/

namespace Sys2Proof.Machine

/-- A move that is made, where it has room, leaves memories canonical. -/
def Moves (o : Option State) : Prop := ∀ t, o = some t → t.memoriesWf

section
variable {o p : Option State}

theorem Moves.some {t : State} (h : t.memoriesWf) : Moves (some t) := by
  rintro _ ⟨⟩
  exact h

theorem Moves.none : Moves none := fun _ h => nomatch h

theorem Moves.ite {c : Prop} [Decidable c] (ho : Moves o) (hp : Moves p) : Moves (if c then o else p) := by
  split
  · exact ho
  · exact hp

theorem Moves.getD (ho : Moves o) {s : State} (h : s.memoriesWf) : (o.getD s).memoriesWf := by
  cases o with
  | none => exact h
  | some t => exact ho t rfl

theorem Moves.map (ho : Moves o) {f : State → State} (hf : ∀ t, t.memoriesWf → (f t).memoriesWf) : Moves (o.map f) := by
  cases o with
  | none => exact Moves.none
  | some t => exact Moves.some (hf t (ho t rfl))

end

/-! ## Answers (14 R341, 18 R418, R426) -/

section
variable {s : State} (h : s.memoriesWf)
include h

@[simp] theorem State.memoriesWf.remoteFail {tag : Nat} {timeout : Bool} : (s.remoteFail tag timeout).memoriesWf := by
  unfold State.remoteFail
  dsimp only
  split
  · exact h
  · split
    · split
      · exact h.answered.endCopy.flush
      · exact h.answered
    · split
      · exact h.answered.settleLane
      · exact h.answered.modWarp.settleLane.ite h.answered.settleLane

@[simp] theorem State.memoriesWf.countLane {r : Remote} {m : MemOp} : (s.countLane r m).memoriesWf := State.memoriesWf.ite h.countLines h

@[simp] theorem State.memoriesWf.answerArrives {tag : Nat} {b : List Byte} : (s.answerArrives tag b).memoriesWf := by
  unfold State.answerArrives
  split
  · exact h
  · dsimp only
    split
    · exact h.answered
    · exact h.answered.countLane.settleLane
    · exact h.answered.settleLane

@[simp] theorem State.memoriesWf.errorArrives {tag code : Nat} : (s.errorArrives tag code).memoriesWf := by
  refine h.remoteFail.ite ?_
  split
  · exact h.answered.settleLane.ite h.remoteFail
  · exact h

theorem endsCanonical_errorResponse {tag : Nat} {timeout : Bool} : EndsCanonical (execErrorResponse tag timeout s) :=
  endsCanonical_next (h.remoteFail.ite h)

theorem endsCanonical_remoteTimeout {tag : Nat} : EndsCanonical (execRemoteTimeout tag s) := by
  refine endsCanonical_next ?_
  split
  · exact h.remoteFail.ite h
  · exact h

theorem State.memoriesWf.respond {x : Station} {p : Packet} : Moves (s.respond x p) :=
  Moves.ite (Moves.some h.lostRoute) (Moves.ite (Moves.some h.sendFrom) Moves.none)

theorem State.memoriesWf.turnBack {die : Nat} {p : Packet} {any force : Bool} : Moves (s.turnBack die p any force) := by
  refine Moves.ite (Moves.some h) (Moves.ite (Moves.some h.remoteFail) ?_)
  dsimp only
  split
  · exact Moves.ite (Moves.some h.depart) Moves.none
  · exact Moves.some h

/-! ## Inbound accesses (18 R424, R425) -/

@[simp] theorem State.memoriesWf.inboundFault {c : Fin 64} {r : InboundReq} {cause addr : Nat} : (s.inboundFault c r cause addr).memoriesWf := h.log.flush

/-- 18 R425: the bytes of an inbound access go where it says, or it meets something. -/
theorem State.memoriesWf.perform {c : Fin 64} {r : InboundReq} : Served (fun e : State × List Byte => e.1.memoriesWf) (s.perform c r) := by
  have hat {b : Bool} {n : Nat} {act : State × List Byte} (ha : act.1.memoriesWf) : Served (fun e : State × List Byte => e.1.memoriesWf)
      (if !s.reachable r.addr n then Except.error (Stall.fail cPGPROT r.addr)
        else if b && s.poisoned r.addr n then .error (.fail cUNCORR r.addr)
        else .ok act) := Served.ite trivial (Served.ite trivial ha)
  unfold State.perform
  dsimp only
  split
  · exact hat h.l2Access
  · exact hat h.l2Access
  · exact hat h.engPutBytes
  · exact hat h.engPutBytes
  · exact hat h.engPutBytes
  · exact hat h.engPutBytes
  · exact hat h.engPutBytes.recheckSignals
  · refine Served.after (fun ps => ?_)
    exact List.foldlRecOn (motive := fun e : State × List Byte => e.1.memoriesWf) ps _ h (fun e he _ _ => State.memoriesWf.engPutBytes he)
  · refine Served.after (fun ps => ?_)
    split
    · exact Served.ite trivial (State.memoriesWf.recheckSignals h.engPutBytes)
    · exact h

theorem State.memoriesWf.answer_ {r : InboundReq} {type : Nat} {b : List Byte} : Moves (s.answer_ r type b) := h.respond

theorem State.memoriesWf.answerError {r : InboundReq} {cause : Nat} : Moves (s.answerError r cause) := h.answer_

@[simp] theorem State.memoriesWf.serve {id : Nat} {x : Inbound} : (s.serve id x).memoriesWf := by
  have hgone : ({ s with inbound := tdel s.inbound id } : State).memoriesWf := h
  have hrefuse {t : State} (ht : t.memoriesWf) : ((t.answerError x.req cRFAULT).getD s).memoriesWf := ht.answerError.getD h
  unfold State.serve
  dsimp only
  refine State.memoriesWf.ite (hrefuse (hgone.inboundFault.ite hgone)) ?_
  split
  · next t b ht =>
    have htw : t.memoriesWf := (State.memoriesWf.perform hgone).of_eq ht
    exact htw.answer_.getD h
  · exact h.addFault
  · exact hrefuse hgone.inboundFault
  · exact h
  · exact hrefuse hgone.inboundFault
  · exact hrefuse hgone.faultFrom

@[simp] theorem State.memoriesWf.serveAll : s.serveAll.memoriesWf := h.foldl (fun _ _ ht => ht.serve)

theorem State.memoriesWf.inboundArrives {r : InboundReq} : Moves (s.inboundArrives r) := by
  refine Moves.ite (Moves.some h) ?_
  split
  · exact State.memoriesWf.answerError (State.memoriesWf_mk.2 h)
  · exact Moves.some (State.memoriesWf.serve (State.memoriesWf_mk.2 h))

theorem endsCanonical_inboundAccess {r : InboundReq} : EndsCanonical (execInboundAccess r s) := endsCanonical_next (h.inboundArrives.getD h)

theorem endsCanonical_inboundTimeout {id : Nat} : EndsCanonical (execInboundTimeout id s) := by
  refine endsCanonical_next ?_
  split
  · exact h
  · have hgone : ({ s with inbound := tdel s.inbound id } : State).memoriesWf := h
    exact State.memoriesWf.ite (hgone.inboundFault.answerError.getD h) h

/-! ## Packets arrive (18 R411, R417, R418, R423; 01 R15, R16) -/

theorem State.memoriesWf.performInside {p : Packet} : Moves (s.performInside p) := by
  unfold State.performInside
  split
  · exact Moves.some h
  · split
    · exact State.memoriesWf.respond h.atHome
    · exact Moves.some h

theorem State.memoriesWf.arrive {p : Packet} : Moves (s.arrive p) :=
  Moves.ite (Moves.ite h.performInside h.inboundArrives) (Moves.ite (Moves.some h.errorArrives) (Moves.some h.answerArrives))

theorem State.memoriesWf.accepts {die : Nat} {p : Packet} : Moves (s.accepts die p) := Moves.ite Moves.none (Moves.some h)

theorem State.memoriesWf.enterDie {die : Nat} {p : Packet} : Moves (s.enterDie die p) := by
  unfold State.enterDie
  split
  · exact h.arrive
  · exact Moves.ite (Moves.some h.toStation) Moves.none

theorem State.memoriesWf.forward {die : Nat} {p : Packet} : Moves (s.forward die p) := by
  unfold State.forward
  split
  · exact Moves.ite (Moves.some h.depart) Moves.none
  · exact h.lostRoute.turnBack
  · exact h.enterDie

theorem State.memoriesWf.delivered {dir die : Nat} {p : Packet} : Moves (s.delivered dir die p) := by
  refine Moves.ite (Moves.ite ?_ h.forward) (Moves.ite h.forward (Moves.ite h.turnBack h.forward))
  split
  · next t ht => exact State.memoriesWf.enterDie (h.accepts t ht)
  · exact Moves.some h.modLink

theorem endsCanonical_packetDeliver {dir : Nat} : EndsCanonical (execPacketDeliver dir s) := by
  refine endsCanonical_next ?_
  split
  · exact h
  · dsimp only
    split
    · exact h.modDir
    · exact (Moves.map h.modDir.delivered (fun t ht => ht.lapse.ite ht)).getD h

theorem State.memoriesWf.leaves_ {die quad dir num : Nat} {p : Packet} : Moves (s.leaves_ die quad dir num p) := by
  have henter {k : Nat} : Moves (if s.stationRoom k p then some (s.toStation k p) else none) := Moves.ite (Moves.some h.toStation) Moves.none
  unfold State.leaves_
  dsimp only
  split
  · exact h.forward
  · exact henter
  · split
    · exact Moves.ite h.arrive henter
    · exact h.arrive
  · exact h.arrive

@[simp] theorem State.memoriesWf.stationMove {key cls : Nat} : (s.stationMove key cls).memoriesWf := by
  unfold State.stationMove
  split
  · exact h
  · exact h.offStation.leaves_.getD h

@[simp] theorem State.memoriesWf.spoil {key cls : Nat} : (s.spoil key cls).memoriesWf := by
  unfold State.spoil
  split
  · exact h
  · exact h.offStation.turnBack.getD h

/-! ## Slots, retraining and failure (18 R409 to R420) -/

theorem endsCanonical_flitSlot {dir : Nat} : EndsCanonical (execFlitSlot dir s) := endsCanonical_next (h.ite h.modDir)

@[simp] theorem State.memoriesWf.setLink {k : Fin 18} {f : Link → Link} : (s.setLink k f).memoriesWf := h.modLink.manage

@[simp] theorem State.memoriesWf.retrain {k : Fin 18} : (s.retrain k).memoriesWf := h.setLink.ite (h.modLink.ite h)

@[simp] theorem State.memoriesWf.rerouteDir {dir : Nat} {l : List Packet} : (s.rerouteDir dir l).memoriesWf := by
  unfold State.rerouteDir
  split
  · refine h.foldl (fun t p ht => ?_)
    split
    · exact ht.enqueue
    · exact ht.lostRoute.turnBack.getD ht
  · exact h

@[simp] theorem State.memoriesWf.failAtBoot {k : Fin 18} : (s.failAtBoot k).memoriesWf :=
  State.memoriesWf.ite (State.memoriesWf_mk.2 (State.memoriesWf.parts h.setLink)) h.setLink

@[simp] theorem State.memoriesWf.failLink {k : Fin 18} : (s.failLink k).memoriesWf := h.failAtBoot.ite h.setLink.rerouteDir.rerouteDir

theorem endsCanonical_laneLoss {link : Nat} {lane : Fin 16} : EndsCanonical (execLaneLoss link lane s) :=
  endsCanonical_next (h.modLink.retrain.ite h)

theorem endsCanonical_replayStorm {link : Nat} : EndsCanonical (execReplayStorm link s) := endsCanonical_next (h.retrain.ite h)

theorem endsCanonical_retrainComplete {link : Nat} : EndsCanonical (execRetrainComplete link s) :=
  endsCanonical_next (h.ite (h.failLink.ite h.setLink))

theorem endsCanonical_retrainTimeout {link : Nat} : EndsCanonical (execRetrainTimeout link s) := endsCanonical_next (h.failLink.ite h)

theorem endsCanonical_linkQuiesce {link : Nat} : EndsCanonical (execLinkQuiesce link s) := endsCanonical_next (h.setLink.ite h)

theorem endsCanonical_quiesceComplete {link : Nat} : EndsCanonical (execQuiesceComplete link s) := by
  refine endsCanonical_next (State.memoriesWf.ite ?_ h)
  refine State.memoriesWf.rerouteDir (State.memoriesWf.rerouteDir (State.memoriesWf.manage (State.memoriesWf.eventLog ?_)))
  exact State.memoriesWf_mk.2 (State.memoriesWf.parts h.setLink)

end

end Sys2Proof.Machine
end

section
/-! O58: health, the receivers, the Damper, power and control leave every memory canonical. -/

namespace Sys2Proof.Machine

section
variable {s : State} (h : s.memoriesWf)
include h

/-! ## Health and receivers (18 R411 to R415, 19 R434 to R436) -/

@[simp] theorem State.memoriesWf.retirePages {c : Fin 64} : (s.retirePages c).memoriesWf := h.foldl (fun _ _ ht => ht.setLeaf.shootdown.ite ht)

@[simp] theorem State.memoriesWf.retireAll : s.retireAll.memoriesWf := h.foldl (fun _ _ ht => ht.retirePages.ite ht)

@[simp] theorem State.memoriesWf.enterUnit {u : HealthUnit} {reason : Nat} : (s.enterUnit u reason).memoriesWf := by
  have h0 : ({ s with persist := s.persist.enter u } : State).memoriesWf := h
  have h1 := (h0.eventLog (kind := (unitCode u).1) (index := (unitCode u).2) (reason := reason)).manage (bit := 0)
  cases u with
  | core d q c => exact h1
  | slice d n => exact State.memoriesWf_mk.2 h1.parts
  | channel st ch => exact h1.retireAll
  | capctl d k => exact h1.retireAll
  | lane i l => exact h1.modLink.retrain

theorem endsCanonical_healthThreshold {u : HealthUnit} : EndsCanonical (execHealthThreshold u s) := endsCanonical_next (h.enterUnit.ite h)

@[simp] theorem State.memoriesWf.corrected {u : HealthUnit} : (s.corrected u).memoriesWf := by
  refine State.memoriesWf.ite (State.memoriesWf.enterUnit ?_) ?_
  · exact State.memoriesWf_mk.2 h
  · exact State.memoriesWf_mk.2 h

@[simp] theorem State.memoriesWf.uncorrected {u : HealthUnit} : (s.uncorrected u).memoriesWf := by
  refine State.memoriesWf.ite (State.memoriesWf.enterUnit ?_) ?_
  · exact State.memoriesWf_mk.2 h
  · exact State.memoriesWf_mk.2 h

theorem endsCanonical_healthWindowEnd {k : HealthKind} : EndsCanonical (execHealthWindowEnd k s) := endsCanonical_next h

theorem endsCanonical_patrolRead {addr : Nat} {corrected : Bool} : EndsCanonical (execPatrolRead addr corrected s) := by
  refine endsCanonical_next (h.ite ?_)
  split
  · exact h
  · exact h.uncorrected.ite (h.corrected.ite h)

@[simp] theorem State.memoriesWf.laneEvent {dir : Nat} : (s.laneEvent dir).memoriesWf := h.corrected

theorem endsCanonical_flitReceive {dir : Nat} {noise : BitVec 512} : EndsCanonical (execFlitReceive dir noise s) := by
  refine endsCanonical_next ?_
  dsimp only
  split
  · exact h
  · exact h.ite (h.modDir.laneEvent.ite (State.memoriesWf.ite (h.modDir.ite h.modDir.modDir)
      (State.memoriesWf.ite (h.modDir.modDir.laneEvent.ite h.modDir.modDir) h.modDir)))

theorem endsCanonical_replayRequest {dir : Nat} : EndsCanonical (execReplayRequest dir s) :=
  endsCanonical_next (State.memoriesWf.ite (h.modDir.modLink.retrain.ite h.modDir.modLink) h)

/-! ## The Damper (16 R379 to R382) and errors of data -/

theorem endsCanonical_rowAlert {ch row : Nat} {sat corrupt : Bool} : EndsCanonical (execRowAlert ch row sat corrupt s) := endsCanonical_next (h.ite h)

theorem endsCanonical_damperEpisode {ch : Nat} : EndsCanonical (execDamperEpisode ch s) :=
  endsCanonical_next (h.ite (State.memoriesWf.foldl (State.memoriesWf_mk.2 h) (fun _ _ ht => ht.corrected)))

@[simp] theorem State.memoriesWf.coreError {g : Nat} : (s.coreError g).memoriesWf := by
  unfold State.coreError
  split
  · exact h.uncorrected
  · exact h

@[simp] theorem State.memoriesWf.decay {line : Nat} : (s.decay line).memoriesWf := by
  refine h.ite ?_
  dsimp only
  split
  · exact State.memoriesWf.uncorrected (State.memoriesWf_mk.2 h)
  · exact h

@[simp] theorem State.memoriesWf.decaySpad {g window word : Nat} : (s.decaySpad g window word).memoriesWf := by
  unfold State.decaySpad
  split
  · refine State.memoriesWf.ite (State.memoriesWf.coreError (h.modGroup (fun x hx => ?_))) h
    exact hx.same rfl rfl rfl rfl
  · exact h

@[simp] theorem State.memoriesWf.decayTile {g k : Nat} : (s.decayTile g k).memoriesWf := by
  unfold State.decayTile
  split
  · refine h.ite (State.memoriesWf.coreError (h.modGroup (fun x hx => ?_)))
    split
    · exact hx.same rfl rfl rfl rfl
    · exact hx.same rfl rfl rfl rfl
  · exact h

@[simp] theorem State.memoriesWf.parity {core line : Nat} : (s.parity core line).memoriesWf := h.modCore.corrected.ite h

@[simp] theorem State.memoriesWf.frado {g w : Nat} {enter : Bool} : (s.frado g w enter).memoriesWf := by
  unfold State.frado
  split
  · exact h.ite h.modWarp
  · exact h

@[simp] theorem State.memoriesWf.spoilTable {second : Bool} : (s.spoilTable second).memoriesWf := h

/-! ## Power and reset (20 R439 to R450) -/

@[simp] theorem State.memoriesWf.modLife {f : Life → Life} : (s.modLife f).memoriesWf := h

theorem endsCanonical_powerGood : EndsCanonical (execPowerGood s) := endsCanonical_next (h.modLife.ite h)

@[simp] theorem State.memoriesWf.setLinks {v : Vector Link 18} : (s.setLinks v).memoriesWf :=
  State.memoriesWf.ite (State.memoriesWf_mk.2 h) (State.memoriesWf.manage (State.memoriesWf_mk.2 h))

theorem endsCanonical_romCheckComplete : EndsCanonical (execRomCheckComplete s) :=
  endsCanonical_next (h.ite (h.modLife.setLinks.ite h.modLife))

theorem endsCanonical_bringupComplete : EndsCanonical (execBringupComplete s) := by
  refine endsCanonical_next (h.ite (State.memoriesWf.modLife ?_))
  exact State.memoriesWf_mk.2 (State.memoriesWf.parts (State.memoriesWf.setLinks h.modLife))

/-- 20 R440: without power the memory of the module lists nothing, and the host's stays. -/
@[simp] theorem State.memoriesWf.unpowered : s.unpowered.memoriesWf :=
  ⟨Memory.wf_filter _ h.1, rfl, fun _ he => nomatch he⟩

theorem endsCanonical_powerLoss : EndsCanonical (execPowerLoss s) := endsCanonical_next (h.ite h.unpowered)

theorem endsCanonical_thermalTrip {die : Fin 4} : EndsCanonical (execThermalTrip die s) := endsCanonical_next (h.eventLog.unpowered.ite h)

@[simp] theorem State.memoriesWf.undoMig {m : Migration} : (s.undoMig m).memoriesWf := by
  refine h.ite (State.memoriesWf.frameReturn ?_)
  split
  · exact h.setLeaf.ite h
  · exact h

theorem endsCanonical_functionLevelReset : EndsCanonical (execFunctionLevelReset s) := by
  refine endsCanonical_next (h.ite ?_)
  have h2 : ((s.migs.foldl (fun t e => t.undoMig e.2) s).dropMigs (fun _ => true)).memoriesWf :=
    State.memoriesWf.dropMigs (h.foldl (fun _ _ ht => ht.undoMig))
  exact ⟨h2.1, h2.2.1, fun _ he => nomatch he⟩

theorem endsCanonical_stepChange {die : Fin 4} {up : Bool} : EndsCanonical (execStepChange die up s) :=
  endsCanonical_next (h.modLife.manage.ite h)

theorem endsCanonical_clockPauseEnd {die : Fin 4} : EndsCanonical (execClockPauseEnd die s) := endsCanonical_next h.modLife

theorem endsCanonical_stepcapWrite {v : BitVec 2} : EndsCanonical (execStepcapWrite v s) := endsCanonical_next (h.modLife.ite h)

theorem endsCanonical_mgmtcauseClear {v : BitVec 32} : EndsCanonical (execMgmtcauseClear v s) := endsCanonical_next (h.modLife.ite h)

theorem endsCanonical_thermalWarning {die : Fin 4} : EndsCanonical (execThermalWarning die s) := endsCanonical_next (h.ite h.manage)

theorem endsCanonical_coreRestart {core : Nat} : EndsCanonical (execCoreRestart core s) := endsCanonical_next (h.modCore.ite h)

@[simp] theorem State.memoriesWf.attCmd {n : Nat} : (s.attCmd n).memoriesWf := h.ite (h.modLife.ite h.modLife)

/-- 20 R442: an attestation writes ATTBUF. -/
theorem endsCanonical_attestationComplete : EndsCanonical (execAttestationComplete s) := by
  have hput (b : List Byte) : ({ s with mem := Memory.putBytes s.mem s.attbuf b } : State).memoriesWf := ⟨Memory.wf_putBytes _ _ h.1, h.2⟩
  refine endsCanonical_next (h.ite (State.memoriesWf.modLife ?_))
  split
  · exact hput _
  · exact hput _
  · exact h
  · exact h

theorem endsCanonical_firmwareImageLoad {k : Fin 4} {img : FirmwareImage} : EndsCanonical (execFirmwareImageLoad k img s) := endsCanonical_next (h.ite h)

theorem endsCanonical_hostMemoryAccess {addr : Nat} {data : List (BitVec 8)} : EndsCanonical (execHostMemoryAccess addr data s) := by
  have hput : ({ s with mem := Memory.putBytes s.mem addr data } : State).memoriesWf := ⟨Memory.wf_putBytes _ _ h.1, h.2⟩
  refine endsCanonical_next ?_
  split
  · exact h
  · exact hput
  · exact h.ite (h.l2Access.ite hput.l2Access)

end

end Sys2Proof.Machine
end

section
/-! O58: the issue of number instructions, the stream engines and the Hod leave every memory canonical. -/

namespace Sys2Proof.Machine

section
variable {s : State} (h : s.memoriesWf)
include h

/-! ## Numbers in memory and in windows (10 R218, R227) -/

theorem State.memoriesWf.heapWr {ctx : Nat} {user : Bool} {p : Nat} {b : List Byte} : Served State.memoriesWf (s.heapWr ctx user p b) := by
  refine Served.after (fun ps => ?_)
  exact List.foldlRecOn (motive := fun e : State × List Byte => e.1.memoriesWf) ps _ h (fun e he _ _ => State.memoriesWf.engPutBytes he)

/-- R218: a number goes to registers, to its slot of the number area, or to heap. -/
theorem State.memoriesWf.putNum {g w : Nat} {k : Fin 8} {user : Bool} {v : Int} : Served State.memoriesWf (s.putNum g w k user v) := by
  unfold State.putNum
  split
  · refine Served.ite h.modWarp ?_
    split
    · exact h.modWarp
    · refine Served.ite ?_ (h.heapWr.bind (fun _ ht => ht.modWarp))
      refine State.memoriesWf.modWarp (h.modGroup (fun x hx => ?_))
      exact ⟨hx.1, Memory.wf_wr _ _ _ hx.2.1, hx.2.2⟩
  · exact h

@[simp] theorem State.memoriesWf.pushEngine {core : Nat} {e : EngineEntry} : (s.pushEngine core e).memoriesWf := h.modCore

end

/-! ## The issue of a NUM instruction (10 R219, R222 to R225) -/

section
variable {v : View} (h : v.Canonical)
include h

theorem View.Canonical.entryBack : Keeps View.Canonical v.entryBack := by
  unfold View.entryBack
  split
  · split
    · split
      · exact h.hold
      · next hroom => exact h.withState (h.state.makeRoom hroom).modWarp
    · exact h
  · exact h

theorem View.Canonical.numDest {k : Fin 8} : Checks (v.numDest k) := h.hold.ite (h.hold.ite trivial)

theorem View.Canonical.numReady {d : Option (Fin 8)} {ks : List (Fin 8)} : Keeps View.Canonical (v.numReady d ks) := by
  refine Checks.then ?_ (fun _ => h.entryBack.ite h)
  split
  · exact h.numDest
  · trivial

theorem View.Canonical.setOwn {k : Fin 8} {b : Option (Nat × Nat)} : (v.setOwn k b).Canonical := h.withState h.state

theorem View.Canonical.hod {len : Nat} : Keeps (fun e : View × (Nat × Nat) => e.1.Canonical) (v.hod len) := by
  unfold View.hod
  dsimp only
  split
  · exact State.memoriesWf_mk.2 h.base
  · split
    · refine State.memoriesWf_mk.2 (State.memoriesWf.parts (State.memoriesWf.modCtx ?_))
      exact State.memoriesWf_mk.2 h.base
    · split
      · exact h.hold
      · exact State.memoriesWf_mk.2 h.base
      · exact ⟨h.base, State.memoriesWf_mk.2 h.state, h.group⟩

theorem View.Canonical.engineFree {bellows band : Bool} : Checks (v.engineFree bellows band) := h.hold.ite (h.hold.ite (h.hold.ite trivial))

theorem View.Canonical.startStream {q : NumReq} {old : Option (Nat × Nat)} : Keeps State.memoriesWf (v.startStream q old) := by
  refine h.engineFree.then (fun _ => ?_)
  have hs : (v.put (v.y.numEmpty q.dst)).memoriesWf := h.put
  exact Keeps.ok (State.memoriesWf.ite (State.memoriesWf.pushEngine (State.memoriesWf_mk.2 hs.parts)) (State.memoriesWf_mk.2 hs.parts))

theorem View.Canonical.writeNow {q : NumReq} : Keeps State.memoriesWf (v.writeNow q) := by
  unfold View.writeNow
  dsimp only
  split
  · split
    · next ht => exact Served.of_eq (State.memoriesWf.putNum h.put) ht
    · exact h.hold
  · exact h.put
  · exact h.put

theorem View.Canonical.startNum {q : NumReq} : Keeps State.memoriesWf (v.startNum q) := by
  have hgo {w : View} (hw : w.Canonical) {old : Option (Nat × Nat)} :
      Keeps State.memoriesWf (if w.registerPath q then w.writeNow q else w.startStream q old) := hw.writeNow.ite hw.startStream
  refine Keeps.trap.ite ?_
  dsimp only
  split
  · exact Keeps.ite (h.hod.bind (fun e he => hgo (View.Canonical.setOwn he))) (hgo h)
  · exact hgo h

end

/-! ## Stream engines (10 R227) -/

section
variable {s : State} (h : s.memoriesWf)
include h

theorem State.memoriesWf.numResult {o : NumOp} {x : Int} : Served State.memoriesWf (s.numResult o x) := by
  unfold State.numResult
  split
  · exact h.putNum
  · exact h.modWarp
  · exact h.modWarp
  · exact h

theorem State.memoriesWf.numRun {o : NumOp} : Served State.memoriesWf (s.numRun o) := Served.after (fun _ => h.numResult)

@[simp] theorem State.memoriesWf.loseHeap {ctx : Nat} {user : Bool} {p n : Nat} : (s.loseHeap ctx user p n).memoriesWf := by
  unfold State.loseHeap
  split
  · next ht => exact h.heapWr.of_eq ht
  · exact h

@[simp] theorem State.memoriesWf.numLose {o : NumOp} : (s.numLose o).memoriesWf := by
  unfold State.numLose
  split
  · split
    · refine State.memoriesWf.ite ?_ (State.memoriesWf.ite (State.memoriesWf.loseHeap h.modWarp) h.modWarp)
      refine State.memoriesWf.modGroup h.modWarp (fun x hx => ⟨hx.1, ?_, hx.2.2⟩)
      exact List.foldlRecOn (motive := fun m => Memory.wf m = true) _ _ hx.2.1 (fun m hm _ _ => Memory.wf_put _ _ hm)
    · exact h
  · exact h.modWarp
  · exact h.modWarp
  · exact h

@[simp] theorem State.memoriesWf.numEnd {id : Nat} {o : NumOp} : (s.numEnd id o).memoriesWf := by
  have h1 : ({ s with numops := tdel s.numops id } : State).memoriesWf := h
  have h2 := h1.trimEngine.ite (c := o.band) h1
  unfold State.numEnd
  dsimp only
  split
  · exact State.memoriesWf.modCtx h2
  · exact h2

theorem endsCanonical_streamOperationComplete {id : Nat} : EndsCanonical (execStreamOperationComplete id s) := by
  refine endsCanonical_next ?_
  split
  · exact h
  · split
    · exact h
    · refine h.ite ?_
      split
      · next ht => exact State.memoriesWf.numEnd (h.numRun.of_eq ht)
      · exact h.addFault
      · exact h.numLose.numEnd
      · exact h.lostRoute.numLose.numEnd
      · exact h
      · exact h.faultContext

/-! ## The Hod (10 R228, R229) -/

@[simp] theorem State.memoriesWf.markUnits {c : Fin 64} {u n code : Nat} : (s.markUnits c u n code).memoriesWf := by
  refine h.foldl (fun t i ht => ?_)
  split
  · exact ht.engPutBytes
  · exact ht

@[simp] theorem State.memoriesWf.markBlock {c : Fin 64} {b : Nat × Nat} {code : Nat} : (s.markBlock c b code).memoriesWf := h.markUnits

@[simp] theorem State.memoriesWf.hodFrees {c : Fin 64} : (s.hodFrees c).memoriesWf := State.memoriesWf.modCtx (h.foldl (fun _ _ ht => ht.markBlock))

@[simp] theorem State.memoriesWf.hodAnswer {id : Nat} {r : HodReq} {c : Fin 64} : (s.hodAnswer id r c).memoriesWf := by
  unfold State.hodAnswer
  dsimp only
  split
  · exact State.memoriesWf_mk.2 (State.memoriesWf.parts (State.memoriesWf.modCtx h.markBlock))
  · exact h

theorem endsCanonical_hodAllocation {id : Nat} : EndsCanonical (execHodAllocation id s) := by
  refine endsCanonical_next ?_
  split
  · exact h
  · refine h.ite (State.memoriesWf.ite h ?_)
    split
    · exact h.hodFrees.hodAnswer
    · exact h.addFault
    · exact h.faultContext
    · exact h.faultContext

end

end Sys2Proof.Machine
end

section
/-! O58: the number instructions leave every memory canonical. -/

namespace Sys2Proof.Machine

section
variable {v : View} (h : v.Canonical) {nd na nb : BitVec 7} {a b : Opnd} {wa wb : Bool}

theorem View.checks_homeOf : Checks (v.homeOf a) := by
  refine View.checks_resolve.then (fun l => ?_)
  split
  · refine Keeps.ite trivial ?_
    split
    · trivial
    · trivial
    · trivial
  · trivial

theorem View.checks_imageFree {p n : Nat} {write : Bool} : Checks (v.imageFree p n write) := by
  unfold View.imageFree
  split
  · trivial
  · trivial

include h

theorem View.Canonical.numSrc {d : Fin 8} {ks : List (Fin 8 × Bool)} {rs : List Rd} : Keeps View.Canonical (v.numSrc d ks rs) :=
  View.checks_plainType.then (fun _ => h.sources.bind (fun _ hw => hw.numReady))

theorem View.Canonical.numInto {fn : NumFn} {d : Fin 8} {ks : List (Fin 8)} {lmax : Nat} {fast bellows band : Bool} :
    Keeps State.memoriesWf (v.numInto fn d ks lmax fast bellows band) := h.startNum

theorem View.Canonical.num1 {fn : NumFn} : Keeps State.memoriesWf (v.num1 fn nd na wa) :=
  View.checks_idx8.then (fun _ => View.checks_idx8.then (fun _ => h.numSrc.bind (fun _ hw => hw.numInto)))

theorem View.Canonical.num2 : Keeps (fun e : View × Fin 8 × Fin 8 × Fin 8 => e.1.Canonical) (v.num2 nd na nb wa wb) :=
  View.checks_idx8.then (fun _ => View.checks_idx8.then (fun _ => View.checks_idx8.then (fun _ => h.numSrc.bind (fun _ hw => hw))))

theorem View.Canonical.numShift {kb : Kinds} : Keeps (fun e : View × Fin 8 × Fin 8 × Nat => e.1.Canonical) (v.numShift nd na kb b wa wb) :=
  View.checks_idx8.then (fun _ => View.checks_idx8.then (fun _ => View.checks_rd.then (fun _ => h.numSrc.bind (fun _ hw => hw))))

theorem View.Canonical.isZero {k : Fin 8} : Checks (v.isZero k) := by
  refine Keeps.ite trivial ?_
  split
  · trivial
  · exact h.base.addFault
  · trivial
  · trivial
  · exact h.base
  · trivial

theorem View.Canonical.nonZero {k : Fin 8} : Checks (v.nonZero k) := h.isZero.then (fun _ => Keeps.ite trivial trivial)

@[simp] theorem View.Canonical.rebind {k : Fin 8} {home : Option (Fin 80)} {own : Option (Nat × Nat)} {desc : BitVec 128} :
    (v.rebind k home own desc).memoriesWf := State.memoriesWf.modCtx h.put

theorem View.Canonical.inOrder {write : Bool} : Checks (v.inOrder write) := h.hold.ite trivial

theorem View.Canonical.modulus {j : Nat} : Checks (v.modulus j) := by
  unfold View.modulus
  dsimp only
  split
  · exact h.parkPage
  · trivial
  · trivial
  · split
    · trivial
    · trivial

theorem View.Canonical.selected : Checks v.selected := Keeps.ite trivial (Keeps.ite trivial h.modulus)

theorem View.Canonical.transformSel : Checks v.transformSel := Keeps.ite trivial h.selected

theorem View.Canonical.transform {fn : Nat → Nat → Bool → Nat → NumFn} : Keeps State.memoriesWf (v.transform fn nd na b wa wb) :=
  h.numShift.bind (fun _ he => (View.Canonical.transformSel he).then (fun _ => Keeps.trap.ite (View.Canonical.numInto he)))

theorem View.Canonical.product {fn : NumFn} {d : Fin 8} {ks : List (Fin 8)} {len lmax : Nat} :
    Keeps State.memoriesWf (v.product fn d ks len lmax) := h.numInto

/-- A number register is bound anew and holds zero. -/
theorem View.Canonical.zeroed {k : Fin 8} {home : Option (Fin 80)} {own : Option (Nat × Nat)} {desc : BitVec 128} {g w : Nat} {user : Bool} :
    Keeps State.memoriesWf (match (v.rebind k home own desc).putNum g w k user 0 with
      | .ok t => .ok t
      | .error _ => .error v.hold) := by
  split
  · next ht => exact (State.memoriesWf.putNum h.rebind).of_eq ht
  · exact h.hold

end

theorem State.memoriesWf.someBytes {s : State} (h : s.memoriesWf) {core : Nat} {c : Fin 64} {user : Bool} {p : Nat} {b : List Byte} :
    (s.someBytes core c user p b).memoriesWf := by
  refine h.foldl (fun t e ht => State.memoriesWf.ite ?_ ht)
  split
  · exact ht.homeWrite
  · exact ht

/-- A store of some bytes piece by piece through a core. -/
theorem State.memoriesWf.homeWrites {s : State} (h : s.memoriesWf) {core : Nat} {l : List (Nat × Nat)} {b : List Byte} :
    (l.foldl (fun (e : State × List Byte) (p : Nat × Nat) => (e.1.homeWrite core p.1 (e.2.take p.2), e.2.drop p.2)) (s, b)).1.memoriesWf :=
  List.foldlRecOn (motive := fun e : State × List Byte => e.1.memoriesWf) l _ h (fun _ he _ _ => State.memoriesWf.homeWrite he)

section
variable {s : State} (h : s.memoriesWf) {nd na nb : BitVec 7} {d a b : Opnd} {wa wb : Bool}
include h

theorem endsCanonical_nset : EndsCanonical (execNset nd a b wa wb s) := by
  refine endsCanonical_issue h (fun _ hv => View.checks_idx8.then (fun _ => View.checks_homeOf.then (fun _ => View.checks_rd.then (fun rb =>
    hv.numSrc.bind (fun w hw => ?_)))))
  generalize w.val rb = x
  exact Keeps.trap.ite (Keeps.ok hw.rebind)

theorem endsCanonical_nget : EndsCanonical (execNget d na b wa wb s) := by
  refine endsCanonical_issue h (fun _ hv => View.checks_resolveDst.then (fun l => View.checks_idx8.then (fun _ => View.checks_rd.then (fun _ =>
    View.checks_plainType.then (fun _ => hv.sources.bind (fun _ hw => hw.destReady.then (fun _ => hw.numReady.bind (fun u hu => ?_))))))))
  dsimp only
  generalize (match l with
    | .vec _ => true
    | _ => false) = vec
  split
  · trivial
  · exact hu.put
  · exact hu.startNum

theorem endsCanonical_nld : EndsCanonical (execNld nd a wa s) := by
  refine endsCanonical_issue h (fun _ hv => View.checks_idx8.then (fun _ => View.checks_rd.then (fun _ => hv.numSrc.bind (fun w hw =>
    View.checks_alignedTo.then (fun _ => hw.inOrder.then (fun _ => ?_))))))
  split
  · exact hw.parkPage
  · trivial
  · trivial
  · next pa _ _ =>
    generalize w.s.engRd pa 16 = x
    exact Keeps.trap.ite (View.checks_imageFree.then (fun _ => hw.startNum))

/-- 10 R239: NST stores its image at once, or waits, or fails after some of its bytes. -/
theorem endsCanonical_nst : EndsCanonical (execNst nd a wa s) := by
  refine endsCanonical_issue h (fun _ hv => View.checks_idx8.then (fun _ => View.checks_rd.then (fun _ => View.checks_plainType.then (fun _ =>
    hv.sources.bind (fun w hw => ?_)))))
  split
  · exact hw.hold
  · trivial
  · refine hw.sources.bind (fun _ hu => hu.numReady.bind (fun u hu => View.checks_alignedTo.then (fun _ => View.checks_noStage.then (fun _ =>
      hu.inOrder.then (fun _ => View.checks_imageFree.then (fun _ => hu.engineFree.then (fun _ => ?_)))))))
    split
    · exact hu.base.addFault
    · trivial
    · trivial
    · trivial
    · exact hu.base
    · dsimp only
      split
      · exact hu.base.addFault
      · exact hu.base.someBytes
      · exact hu.base
      · trivial
      · exact hu.base
      · exact hu.state.homeWrites

theorem endsCanonical_nalloc : EndsCanonical (execNalloc nd a b wa wb s) :=
  endsCanonical_issue h (fun _ hv => View.checks_idx8.then (fun _ => View.checks_homeOf.then (fun _ => View.checks_rd.then (fun _ =>
    hv.numSrc.bind (fun _ hw => Keeps.trap.ite (Keeps.ite (hw.hod.bind (fun _ he => View.Canonical.startStream (View.Canonical.withState he he.state)))
      hw.zeroed))))))

theorem endsCanonical_nfree : EndsCanonical (execNfree nd s) :=
  endsCanonical_issue h (fun _ hv => View.checks_idx8.then (fun _ => hv.numSrc.bind (fun _ hw => hw.zeroed)))

theorem endsCanonical_nadd : EndsCanonical (execNadd nd na nb wa wb s) :=
  endsCanonical_issue h (fun _ hv => hv.num2.bind (fun _ he => View.Canonical.numInto he))

theorem endsCanonical_nsub : EndsCanonical (execNsub nd na nb wa wb s) :=
  endsCanonical_issue h (fun _ hv => hv.num2.bind (fun _ he => View.Canonical.numInto he))

theorem endsCanonical_ncmp : EndsCanonical (execNcmp d na nb wa wb s) := by
  refine endsCanonical_issue h (fun _ hv => View.checks_resolveDst.then (fun _ => View.checks_idx8.then (fun _ => View.checks_idx8.then (fun _ =>
    View.checks_plainType.then (fun _ => hv.sources.bind (fun _ hw => hw.destReady.then (fun _ => hw.numReady.bind (fun u hu =>
      Checks.then (Keeps.ite Checks.ok hu.engineFree) (fun _ => ?_)))))))))
  split
  · exact hu.base.addFault
  · exact hu.hold
  · exact hu.put
  · trivial
  · exact hu.base
  · exact hu.put

theorem endsCanonical_nshl : EndsCanonical (execNshl nd na b wa wb s) :=
  endsCanonical_issue h (fun _ hv => hv.numShift.bind (fun _ he => View.Canonical.numInto he))

theorem endsCanonical_nshr : EndsCanonical (execNshr nd na b wa wb s) :=
  endsCanonical_issue h (fun _ hv => hv.numShift.bind (fun _ he => View.Canonical.numInto he))

theorem endsCanonical_nmul : EndsCanonical (execNmul nd na nb wa wb s) :=
  endsCanonical_issue h (fun _ hv => hv.num2.bind (fun _ he => View.Canonical.product he))

theorem endsCanonical_nsqr : EndsCanonical (execNsqr nd na wa s) :=
  endsCanonical_issue h (fun _ hv => View.checks_idx8.then (fun _ => View.checks_idx8.then (fun _ => hv.numSrc.bind (fun _ hw => hw.product))))

theorem endsCanonical_ndiv : EndsCanonical (execNdiv nd na nb wa wb s) :=
  endsCanonical_issue h (fun _ hv => hv.num2.bind (fun _ he => (View.Canonical.nonZero he).then (fun _ => View.Canonical.numInto he)))

theorem endsCanonical_nrem : EndsCanonical (execNrem nd na nb wa wb s) :=
  endsCanonical_issue h (fun _ hv => hv.num2.bind (fun _ he => (View.Canonical.nonZero he).then (fun _ => View.Canonical.numInto he)))

theorem endsCanonical_nmmul : EndsCanonical (execNmmul nd na nb wa wb s) :=
  endsCanonical_issue h (fun _ hv => View.checks_idx8.then (fun _ => View.checks_idx8.then (fun _ => View.checks_idx8.then (fun _ =>
    hv.numSrc.bind (fun _ hw => hw.nonZero.then (fun _ => hw.numInto))))))

theorem endsCanonical_npmul : EndsCanonical (execNpmul nd na nb wa wb s) :=
  endsCanonical_issue h (fun _ hv => hv.num2.bind (fun _ he => (View.Canonical.transformSel he).then (fun _ => View.Canonical.numInto he)))

theorem endsCanonical_ncrt : EndsCanonical (execNcrt nd na b wa wb s) := by
  refine endsCanonical_issue h (fun _ hv => View.checks_idx8.then (fun _ => View.checks_idx8.then (fun _ => View.checks_rd.then (fun _ =>
    View.checks_plainType.then (fun _ => hv.sources.bind (fun w hw => ?_))))))
  split
  · exact hw.hold
  · trivial
  · exact hw.numReady.bind (fun _ hu => hu.modulus.then (fun _ => hu.numInto))

theorem endsCanonical_nred : EndsCanonical (execNred d na wa s) :=
  endsCanonical_issue h (fun _ hv => View.checks_resolveDst.then (fun _ => View.checks_idx8.then (fun _ => View.checks_plainType.then (fun _ =>
    hv.sources.bind (fun _ hw => hw.destReady.then (fun _ => hw.numReady.bind (fun _ hu => hu.selected.then (fun _ => hu.startNum))))))))

end

end Sys2Proof.Machine
end

section
/-! O58: the tile instructions and the turns of their operations leave every memory canonical. -/

namespace Sys2Proof.Machine

/-! ## Groups (11 R249 to R265) -/

section
variable {x : Group} (h : x.Canonical)
include h

@[simp] theorem Group.Canonical.modTile {k : Fin 8} {f : Tile → Tile} : (x.modTile k f).Canonical := h

@[simp] theorem Group.Canonical.claim {f : Fin 4} {id : Nat} : (x.claim f id).Canonical := h

@[simp] theorem Group.Canonical.consume {f id : Nat} {bad : Bool} : (x.consume f id bad).Canonical := h

@[simp] theorem Group.Canonical.multiply {k : Fin 8} {limb : Bool} {fa sa fb sb : Nat} : (x.multiply k limb fa sa fb sb).Canonical := by
  unfold Group.multiply
  dsimp only
  split
  · split
    · exact h.modTile.consume.consume
    · exact h.modTile.consume.consume
  · exact h.modTile.consume.consume

end

/-! ## The issue (11 R249 to R272) -/

section
variable {v : View} (h : v.Canonical)

theorem View.checks_openTile {t : BitVec 7} : Checks (v.openTile t) := View.checks_idx8.then (fun _ => Keeps.ite trivial trivial)

theorem View.checks_committed {f : Fin 4} : Checks (v.committed f) := by
  unfold View.committed
  split
  · trivial
  · trivial

theorem View.checks_selOf {k : Fin 8} {r : Rd} : Checks (v.selOf k r) := by
  unfold View.selOf
  split
  · trivial
  · trivial

theorem View.checks_noErr {k : Fin 8} : Checks (v.noErr k) := Keeps.ite trivial trivial

theorem View.checks_blockTypes {t : BitVec 7} : Checks (v.blockTypes t) := Keeps.ite trivial trivial

include h

theorem View.Canonical.tileRoom {k : Fin 8} {queued : Bool} : Checks (v.tileRoom k queued) := h.hold.ite trivial

@[simp] theorem View.Canonical.pushTile {y : Warp} {k : Fin 8} {kind : TileOpKind} : (v.pushTile y k kind).memoriesWf := by
  have hs : ((v.put y).modGroup v.r.g (fun x => { x with tops := x.tops ++ [{ id := v.s.uid, tile := k, kind := kind }] })).memoriesWf :=
    State.memoriesWf.modGroup h.put (fun _ hx => hx.same rfl rfl rfl rfl)
  exact State.memoriesWf.ite (State.memoriesWf.pushEngine (State.memoriesWf_mk.2 hs.parts)) (State.memoriesWf_mk.2 hs.parts)

theorem View.Canonical.multiply {limb : Bool} {t fa fb : BitVec 7} : Keeps State.memoriesWf (v.multiply limb t fa fb) :=
  View.checks_openTile.then (fun _ => View.checks_idx4.then (fun _ => View.checks_idx4.then (fun _ => Keeps.trap.ite
    (View.checks_committed.then (fun _ => View.checks_committed.then (fun _ => h.tileRoom.then (fun _ =>
      Keeps.ok (State.memoriesWf.modGroup h.pushTile (fun _ hx => hx.claim.claim)))))))))

end

section
variable {s : State} (h : s.memoriesWf) {t : BitVec 7} {d a b : Opnd} {wa wb : Bool}
include h

theorem endsCanonical_aopen : EndsCanonical (execAopen t a wa s) := by
  refine endsCanonical_issue h (fun _ hv => View.checks_idx8.then (fun k => View.checks_rd.then (fun _ => hv.sources.bind (fun w hw => ?_))))
  split
  · trivial
  · refine Keeps.trap.ite (hw.hold.ite (Keeps.ite ?_ ?_))
    · exact State.memoriesWf.modGroup hw.base (fun _ hx => hx.same rfl rfl rfl rfl)
    · exact hw.putGroup (fun _ hx => hx.same rfl rfl rfl rfl)

theorem endsCanonical_aclose : EndsCanonical (execAclose t s) :=
  endsCanonical_issue h (fun _ hv => View.checks_openTile.then (fun _ => Keeps.ok (hv.putGroup (fun _ hx => hx.modTile))))

theorem endsCanonical_azero : EndsCanonical (execAzero t s) :=
  endsCanonical_issue h (fun _ hv => View.checks_openTile.then (fun _ => hv.tileRoom.then (fun _ => Keeps.ok hv.pushTile)))

theorem endsCanonical_ard : EndsCanonical (execArd d t b wb s) :=
  endsCanonical_issue h (fun _ hv => View.checks_resolveDst.then (fun _ => View.checks_openTile.then (fun _ => View.checks_rd.then (fun _ =>
    hv.sources.bind (fun _ hw => View.checks_selOf.then (fun _ => View.checks_noErr.then (fun _ => hw.destReady.then (fun _ =>
      hw.tileRoom.then (fun _ => Keeps.ok hw.pushTile)))))))))

theorem endsCanonical_awr : EndsCanonical (execAwr t a b wa wb s) :=
  endsCanonical_issue h (fun _ hv => View.checks_openTile.then (fun _ => View.checks_rd.then (fun _ => View.checks_rd.then (fun _ =>
    hv.sources.bind (fun _ hw => View.checks_selOf.then (fun _ => hw.tileRoom.then (fun _ => Keeps.ok hw.pushTile)))))))

/-- 11 R267: CRES takes a block of the heap where its number needs one. -/
theorem endsCanonical_cres {nd : BitVec 7} : EndsCanonical (execCres nd t b wb s) := by
  refine endsCanonical_issue h (fun _ hv => View.checks_idx8.then (fun d => View.checks_openTile.then (fun k => View.checks_rd.then (fun _ =>
    hv.sources.bind (fun _ hw => Keeps.trap.ite (hw.numReady.bind (fun u hu => Checks.then (Keeps.ite trivial trivial) (fun _ =>
      View.checks_noErr.then (fun _ => ?_)))))))))
  have hgo {w : View} (hw : w.Canonical) {kind : TileOpKind} : Keeps State.memoriesWf (do
      w.engineFree false false
      w.tileRoom k false
      .ok (w.pushTile (w.y.numEmpty (.n d)) k kind)) :=
    hw.engineFree.then (fun _ => hw.tileRoom.then (fun _ => Keeps.ok hw.pushTile))
  have hown : Keeps (fun e : View × Option (Nat × Nat) => e.1.Canonical) (do
      let (v1, blk) ← u.hod 130
      .ok (v1.setOwn d (some blk), u.y.n[d].own)) := hu.hod.bind (fun _ he => View.Canonical.setOwn he)
  exact Keeps.ite (hown.bind (fun _ he => hgo he)) (hgo hu)

theorem endsCanonical_adrain : EndsCanonical (execAdrain t a wa s) := by
  refine endsCanonical_issue h (fun _ hv => View.checks_openTile.then (fun _ => ?_))
  cases a with
  | s i =>
    refine Keeps.trap.ite (hv.sources.bind (fun w hw => Keeps.trap.ite (Keeps.trap.ite (Keeps.trap.ite (View.checks_endFits.then (fun _ => ?_))))))
    split
    · trivial
    · exact View.checks_noErr.then (fun _ => Checks.then (Keeps.ite trivial View.checks_noStage) (fun _ => hw.tileRoom.then (fun _ =>
        hw.accept.bind (fun e he => Keeps.ok (View.Canonical.pushTile (v := { w with s := e.1 }) ⟨hw.base, he, hw.group⟩)))))
  | _ => trivial

theorem endsCanonical_astat : EndsCanonical (execAstat d t b s) := by
  refine endsCanonical_issue h (fun v hv => ?_)
  split
  · exact hv.hold
  · refine View.checks_resolveDst.then (fun _ => View.checks_idx8.then (fun _ => View.checks_rd.then (fun _ => hv.destReady.then (fun _ =>
      Keeps.ite hv.put (hv.hold.ite (hv.tileRoom.then (fun _ => ?_)))))))
    exact State.memoriesWf.modWarp hv.pushTile

theorem endsCanonical_fqry {f : BitVec 7} : EndsCanonical (execFqry d f s) :=
  endsCanonical_issue h (fun _ hv => View.checks_resolveDst.then (fun _ => View.checks_idx4.then (fun _ => hv.destReady.then (fun _ => Keeps.ok hv.put))))

theorem endsCanonical_fdisc {f : BitVec 7} : EndsCanonical (execFdisc f s) := by
  refine endsCanonical_issue h (fun _ hv => View.checks_idx4.then (fun _ => ?_))
  split
  · exact hv.put
  · exact Keeps.trap.ite (hv.hold.ite (Keeps.ok (hv.putGroup (fun _ hx => hx.same rfl rfl rfl rfl))))

theorem endsCanonical_qblk {ty : BitVec 7} : EndsCanonical (execQblk d a ty wa s) := by
  refine endsCanonical_issue h (fun _ hv => View.checks_resolveDst.then (fun l => View.checks_rd.then (fun _ => View.checks_blockTypes.then (fun _ =>
    hv.sources.bind (fun _ hw => hw.destReady.then (fun _ => ?_))))))
  dsimp only
  split
  · exact hw.put
  · exact hw.put

theorem endsCanonical_dqblk {ty : BitVec 7} : EndsCanonical (execDqblk d a ty wa s) := by
  refine endsCanonical_issue h (fun _ hv => View.checks_resolveDst.then (fun l => View.checks_rd.then (fun _ => View.checks_blockTypes.then (fun _ =>
    hv.sources.bind (fun _ hw => hw.destReady.then (fun _ => ?_))))))
  dsimp only
  split
  · exact hw.put
  · exact hw.put

/-! ## The turn of an operation (11 R254 to R257, R274) -/

@[simp] theorem State.memoriesWf.cresTurn {g : Nat} {q : Tile} {w : Nat} {k : Fin 8} {row : Nat} {user : Bool} {old : Option (Nat × Nat)} :
    (s.cresTurn g q w k row user old).memoriesWf := by
  unfold State.cresTurn
  split
  · exact h
  · exact h.ite (State.memoriesWf.ite h.modWarp.modCtx h)

@[simp] theorem State.memoriesWf.drainTurn {q : Tile} {id : Nat} : (s.drainTurn q id).memoriesWf := by
  unfold State.drainTurn
  split
  · exact h
  · exact h.ite (h.endCopy.flush.ite h.putCopy)

@[simp] theorem State.memoriesWf.astatTurn {g id w : Nat} {slot : Bool} {dst : Option (Fin 32)} {x : DWord} :
    (s.astatTurn g id w slot dst x).memoriesWf := by
  unfold State.astatTurn
  split
  · exact h
  · refine State.memoriesWf.ite (State.memoriesWf.answer ?_) h
    split
    · exact h.modWarp
    · exact h

@[simp] theorem State.memoriesWf.retire {g : Nat} {o : TileOp} : (s.retire g o).memoriesWf := by
  refine State.memoriesWf.trimEngine (h.modGroup (fun x hx => ?_))
  have hy : ({ x with tops := x.tops.filter (fun q => q.id != o.id) } : Group).Canonical := hx
  dsimp only
  split
  · split
    · exact hx
    · exact hx
  · split
    · exact hx
    · exact hx

@[simp] theorem State.memoriesWf.tileTurn {g : Nat} {x : Group} {o : TileOp} : (s.tileTurn g x o).memoriesWf := by
  unfold State.tileTurn
  dsimp only
  split
  · exact h.modGroup (fun _ hx => hx.modTile)
  · exact h.modGroup (fun _ hx => hx.multiply)
  · exact h.modGroup (fun _ hx => hx.multiply)
  · exact h.modWarp
  · exact h.modGroup (fun _ hx => hx.modTile)
  · exact h.cresTurn
  · exact h.astatTurn
  · exact h.drainTurn

theorem endsCanonical_tileOperationRetire {g id : Nat} : EndsCanonical (execTileOperationRetire g id s) := by
  refine endsCanonical_next ?_
  split
  · exact h
  · split
    · exact h.tileTurn.retire.ite h
    · exact h

theorem endsCanonical_rowBlockPreemption {g : Nat} : EndsCanonical (execRowBlockPreemption g s) := by
  refine endsCanonical_next ?_
  split
  · exact h
  · split
    · exact h
    · refine State.memoriesWf.ite ?_ h
      split
      · exact h.preempt
      · exact h

end

end Sys2Proof.Machine
end

section
/-! O58: every instruction, event and host command, every agent's move and what follows from it leave every memory canonical. -/

namespace Sys2Proof.Machine

/-! ## The dispatch -/

/-- What an instruction word, an event or a host command does leaves canonical memories canonical. -/
theorem endsCanonical_exec {s : State} (h : s.memoriesWf) {i : Instr} : EndsCanonical (exec i s) := by
  cases i with
  | nop => exact endsCanonical_issue h (fun _ hv => Keeps.ok hv.state)
  | setmode => exact endsCanonical_issue h (fun _ hv => hv.setmode)
  | ret => exact endsCanonical_ret h
  | rcv => exact endsCanonical_rcv h
  | waitc => exact endsCanonical_waitc h
  | yield => exact endsCanonical_yield h
  | exit => exact endsCanonical_exit h
  | elect => exact endsCanonical_elect h
  | ldl => exact endsCanonical_ldl h
  | ldl2 => exact endsCanonical_ldl2 h
  | ldln => exact endsCanonical_ldln h
  | trap | bkpt =>
    exact endsCanonical_issue h (fun _ _ => trivial)
  | jmps => exact endsCanonical_jmps h
  | saluMov | saluAbs | saluNeg | saluClz | saluPopc =>
    exact endsCanonical_issue h (fun _ hv => hv.scalar1)
  | saluAdd | saluSub | saluMul | saluMulh | saluMin | saluMax | saluAnd | saluOr | saluXor | saluShl | saluShr | saluSar =>
    exact endsCanonical_issue h (fun _ hv => hv.scalarOp)
  | saluMad => exact endsCanonical_saluMad h
  | saluCmpeq | saluCmplt | saluCmple | saluCmpne =>
    exact endsCanonical_issue h (fun _ hv => hv.scalarCmp)
  | saluSel | addc | subb | rot =>
    exact endsCanonical_issue h (fun _ hv => hv.scalar2)
  | saluCvt => exact endsCanonical_saluCvt h
  | rdlane => exact endsCanonical_rdlane h
  | mand | mor | mxor =>
    exact endsCanonical_issue h (fun _ hv => hv.maskOp)
  | idxset => exact endsCanonical_idxset h
  | valuMov | valuAbs | valuNeg | rcp | rsq | sqrt | exp2 | log2 | valuClz | valuPopc =>
    exact endsCanonical_issue h (fun _ hv => hv.lane1)
  | valuAdd | valuSub | valuMul | valuMulh | valuMin | valuMax | valuAnd | valuOr | valuXor | valuShl | valuShr | valuSar =>
    exact endsCanonical_issue h (fun _ hv => hv.lane2)
  | valuFma => exact endsCanonical_valuFma h
  | valuCmpeq | valuCmplt | valuCmple | valuCmpne =>
    exact endsCanonical_issue h (fun _ hv => hv.laneCmp)
  | valuSel => exact endsCanonical_valuSel h
  | valuCvt => exact endsCanonical_valuCvt h
  | vclass => exact endsCanonical_vclass h
  | div => exact endsCanonical_div h
  | bmm8 => exact endsCanonical_bmm8 h
  | bdep | bext =>
    exact endsCanonical_issue h (fun _ hv => hv.bit2)
  | bperm => exact endsCanonical_bperm h
  | brev => exact endsCanonical_brev h
  | shfl | shflx | shflup | shfldn =>
    exact endsCanonical_issue h (fun _ hv => hv.shuffle)
  | vall | vany | vbal =>
    exact endsCanonical_issue h (fun _ hv => hv.vote)
  | qxch | qbcst =>
    exact endsCanonical_issue h (fun _ hv => hv.quad)
  | matchv => exact endsCanonical_matchv h
  | wred => exact endsCanonical_wred h
  | wscan => exact endsCanonical_wscan h
  | wrlane => exact endsCanonical_wrlane h
  | ptload => exact endsCanonical_ptload h
  | movx => exact endsCanonical_movx h
  | expr => exact endsCanonical_expr h
  | nset => exact endsCanonical_nset h
  | nget => exact endsCanonical_nget h
  | nmov | nneg | nnorm =>
    exact endsCanonical_issue h (fun _ hv => hv.num1)
  | nadd => exact endsCanonical_nadd h
  | nsub => exact endsCanonical_nsub h
  | ncmp => exact endsCanonical_ncmp h
  | nshl => exact endsCanonical_nshl h
  | nshr => exact endsCanonical_nshr h
  | nmul => exact endsCanonical_nmul h
  | nsqr => exact endsCanonical_nsqr h
  | ndiv => exact endsCanonical_ndiv h
  | nrem => exact endsCanonical_nrem h
  | nmmul => exact endsCanonical_nmmul h
  | nld => exact endsCanonical_nld h
  | nst => exact endsCanonical_nst h
  | nalloc => exact endsCanonical_nalloc h
  | nfree => exact endsCanonical_nfree h
  | nttf | ntti =>
    exact endsCanonical_issue h (fun _ hv => hv.transform)
  | npmul => exact endsCanonical_npmul h
  | ncrt => exact endsCanonical_ncrt h
  | nred => exact endsCanonical_nred h
  | aopen => exact endsCanonical_aopen h
  | aclose => exact endsCanonical_aclose h
  | azero => exact endsCanonical_azero h
  | mma | lmma =>
    exact endsCanonical_issue h (fun _ hv => hv.multiply)
  | ard => exact endsCanonical_ard h
  | awr => exact endsCanonical_awr h
  | cres => exact endsCanonical_cres h
  | adrain => exact endsCanonical_adrain h
  | astat => exact endsCanonical_astat h
  | fqry => exact endsCanonical_fqry h
  | fdisc => exact endsCanonical_fdisc h
  | qblk => exact endsCanonical_qblk h
  | dqblk => exact endsCanonical_dqblk h
  | cpy => exact endsCanonical_cpy h
  | cpyt => exact endsCanonical_cpyt h
  | cpyf => exact endsCanonical_cpyf h
  | cpyq => exact endsCanonical_cpyq h
  | cpyx => exact endsCanonical_cpyx h
  | cstat => exact endsCanonical_cstat h
  | ccan => exact endsCanonical_ccan h
  | binit => exact endsCanonical_binit h
  | bexp => exact endsCanonical_bexp h
  | barr => exact endsCanonical_barr h
  | bwait => exact endsCanonical_bwait h
  | btest => exact endsCanonical_btest h
  | gsync => exact endsCanonical_gsync h
  | csync => exact endsCanonical_csync h
  | xst => exact endsCanonical_xst h
  | mcst => exact endsCanonical_mcst h
  | cred => exact endsCanonical_cred h
  | rdtim => exact endsCanonical_rdtim h
  | rdcyc => exact endsCanonical_rdcyc h
  | ld | ldc =>
    exact endsCanonical_issue h (fun _ hv => hv.load View.checks_memOf)
  | st => exact endsCanonical_issue h (fun _ hv => hv.store View.checks_memOf)
  | atadd | atmin | atmax | atand | ator | atxor | atswp | atcas =>
    exact endsCanonical_issue h (fun _ hv => hv.atomic View.checks_memOf)
  | fence => exact endsCanonical_fence h
  | acqr scope order d a base wd wa => exact endsCanonical_acqr h (wd := wd)
  | spk => exact endsCanonical_spk h
  | pref => exact endsCanonical_pref h
  | lds => exact endsCanonical_issue h (fun _ hv => hv.load View.checks_winOf)
  | sts => exact endsCanonical_issue h (fun _ hv => hv.store View.checks_winOf)
  | atsadd | atsmin | atsmax | atscas =>
    exact endsCanonical_issue h (fun _ hv => hv.atomic View.checks_winOf)
  | qpush => exact endsCanonical_qpush h
  | qmap => exact endsCanonical_qmap h
  | qunmap => exact endsCanonical_qunmap h
  | qsig => exact endsCanonical_qsig h
  | qwait => exact endsCanonical_qwait h
  | qattach => exact endsCanonical_qattach h
  | qdetach => exact endsCanonical_qdetach h
  | qwr => exact endsCanonical_qwr h
  | rinj => exact endsCanonical_rinj h
  | rtake => exact endsCanonical_rtake h
  | rpass => exact endsCanonical_rpass h
  | rdrop => exact endsCanonical_rdrop h
  | reff => exact endsCanonical_reff h
  | rstat => exact endsCanonical_rstat h
  | rdsys => exact endsCanonical_rdsys h
  | wrsys => exact endsCanonical_wrsys h
  | tretFix => exact endsCanonical_tretFix h
  | tretSkip => exact endsCanonical_tretSkip h
  | tretRetry => exact endsCanonical_tretRetry h
  | tretKillw => exact endsCanonical_tretKillw h
  | tretKillg => exact endsCanonical_tretKillg h
  | tretKillc => exact endsCanonical_tretKillc h
  | bset => exact endsCanonical_bset h
  | binv => exact endsCanonical_binv h
  | tagld => exact endsCanonical_tagld h
  | tagst => exact endsCanonical_tagst h
  | tlbinv => exact endsCanonical_tlbinv h
  | pgqry => exact endsCanonical_pgqry h
  | halt => exact endsCanonical_halt h
  | bra | brz | brnz | brneg | brcy | breos =>
    exact endsCanonical_issue h (fun _ hv => hv.branchIf)
  | call => exact endsCanonical_call h
  | brv => exact endsCanonical_brv h
  | create => exact endsCanonical_create h
  | commit => exact endsCanonical_commit h
  | suspend => exact endsCanonical_suspend h
  | resume => exact endsCanonical_resume h
  | destroy => exact endsCanonical_destroy h
  | release => exact endsCanonical_release h
  | ctxcmdBadcmd => exact endsCanonical_ctxcmdBadcmd h
  | contextDead => exact endsCanonical_contextDead h
  | registerWrite => exact endsCanonical_registerWrite h
  | savepoolWrite => exact endsCanonical_savepoolWrite h
  | doorbell | bind | unbind | pause | unpause | reset | qctlBadcmd =>
    exact endsCanonical_next h.onQueue
  | kernelLoad => exact endsCanonical_kernelLoad h
  | launchAdmission => exact endsCanonical_launchAdmission h
  | signalRecheck => exact endsCanonical_signalRecheck h
  | priorityAgeing => exact endsCanonical_priorityAgeing h
  | phaseDrained => exact endsCanonical_phaseDrained h
  | phaseSelection => exact endsCanonical_phaseSelection h
  | groupPlacement => exact endsCanonical_groupPlacement h
  | groupRestored => exact endsCanonical_groupRestored h
  | preemptionStart => exact endsCanonical_preemptionStart h
  | rowBlockPreemption => exact endsCanonical_rowBlockPreemption h
  | groupSaved => exact endsCanonical_groupSaved h
  | warpActivate => exact endsCanonical_warpActivate h
  | producerWriteback => exact endsCanonical_producerWriteback h
  | memoryAccessComplete => exact endsCanonical_memoryAccessComplete h
  | retryResume => exact endsCanonical_retryResume h
  | migrationLock => exact endsCanonical_migrationLock h
  | migrationMove => exact endsCanonical_migrationMove h
  | migrationPublish => exact endsCanonical_migrationPublish h
  | migratingLeafRecheck => exact endsCanonical_migratingLeafRecheck h
  | migrate => exact endsCanonical_migrate h
  | pin => exact endsCanonical_pin h
  | unpin => exact endsCanonical_unpin h
  | mcmdTlbinv => exact endsCanonical_mcmdTlbinv h
  | frameinWrite => exact endsCanonical_frameinWrite h
  | copyLand => exact endsCanonical_copyLand h
  | copyDone => exact endsCanonical_copyDone h
  | copyFail => exact endsCanonical_copyFail h
  | exchangeStoreLand => exact endsCanonical_exchangeStoreLand h
  | reductionResult => exact endsCanonical_reductionResult h
  | streamOperationComplete => exact endsCanonical_streamOperationComplete h
  | hodAllocation => exact endsCanonical_hodAllocation h
  | tileOperationRetire => exact endsCanonical_tileOperationRetire h
  | recordAssignment => exact endsCanonical_recordAssignment h
  | windowClose => exact endsCanonical_windowClose h
  | recordCommit => exact endsCanonical_recordCommit h
  | rowAlert => exact endsCanonical_rowAlert h
  | damperEpisode => exact endsCanonical_damperEpisode h
  | flitReceive => exact endsCanonical_flitReceive h
  | replayRequest => exact endsCanonical_replayRequest h
  | packetDeliver => exact endsCanonical_packetDeliver h
  | laneLoss => exact endsCanonical_laneLoss h
  | replayStorm => exact endsCanonical_replayStorm h
  | retrainComplete => exact endsCanonical_retrainComplete h
  | retrainTimeout => exact endsCanonical_retrainTimeout h
  | linkQuiesce => exact endsCanonical_linkQuiesce h
  | quiesceComplete => exact endsCanonical_quiesceComplete h
  | inboundAccess => exact endsCanonical_inboundAccess h
  | inboundTimeout => exact endsCanonical_inboundTimeout h
  | errorResponse => exact endsCanonical_errorResponse h
  | remoteTimeout => exact endsCanonical_remoteTimeout h
  | hostMemoryAccess => exact endsCanonical_hostMemoryAccess h
  | qwaitRecheck => exact endsCanonical_qwaitRecheck h
  | powerGood => exact endsCanonical_powerGood h
  | romCheckComplete => exact endsCanonical_romCheckComplete h
  | bringupComplete => exact endsCanonical_bringupComplete h
  | powerLoss => exact endsCanonical_powerLoss h
  | thermalTrip => exact endsCanonical_thermalTrip h
  | functionLevelReset => exact endsCanonical_functionLevelReset h
  | stepChange => exact endsCanonical_stepChange h
  | clockPauseEnd => exact endsCanonical_clockPauseEnd h
  | stepcapWrite => exact endsCanonical_stepcapWrite h
  | mgmtcauseClear => exact endsCanonical_mgmtcauseClear h
  | report | certs | nodeset =>
    exact endsCanonical_next h.attCmd
  | attestationComplete => exact endsCanonical_attestationComplete h
  | healthThreshold => exact endsCanonical_healthThreshold h
  | healthWindowEnd => exact endsCanonical_healthWindowEnd h
  | patrolRead => exact endsCanonical_patrolRead h
  | reservedEncoding => exact endsCanonical_reservedEncoding h
  | flitSlot => exact endsCanonical_flitSlot h
  | spillComplete => exact endsCanonical_spillComplete h
  | thermalWarning die => exact endsCanonical_thermalWarning h (die := die)
  | coreRestart => exact endsCanonical_coreRestart h
  | firmwareImageLoad => exact endsCanonical_firmwareImageLoad h

end Sys2Proof.Machine
end

section
/-! O58: every agent's move, and what follows from it at once, leave every memory canonical. -/

namespace Sys2Proof.Machine

section

variable {s : State} (h : s.memoriesWf)

include h

/-! ## Issue -/

@[simp] theorem State.memoriesWf.wins {r : Ref} : (s.wins r).memoriesWf := State.memoriesWf_mk.2 (h.modCore).parts

/-- A fetch that finds no word ends with a trap, or waits. -/
theorem State.memoriesWf.finish_fetch {r : Ref} {v : View} {f : Fetched} (hf : s.fetchFor r = some (v, f)) {e : Stop}
    (he : v.Canonical → Keeps State.memoriesWf (.error e)) : EndsCanonical (.next (v.finish (.error e))) :=
  have hv := h.viewOf (State.viewOf_of_fetchFor hf)
  endsCanonical_next (hv.finish (he hv))

theorem endsCanonical_issueAt {r : Ref} : EndsCanonical (s.issueAt r) := by
  unfold State.issueAt
  split
  · exact endsCanonical_next h
  · exact endsCanonical_exec (s := { s with cur := some r }) (State.memoriesWf_mk.2 h.parts)
  · next hf => exact h.finish_fetch hf (fun _ => trivial)
  · next hf => exact h.finish_fetch hf (fun hv => hv.parkPage)
  · next hf => exact h.finish_fetch hf (fun _ => trivial)

theorem endsCanonical_upset {r : Ref} {code : BitVec 7} : EndsCanonical (s.upset r code) := by
  unfold State.upset
  split
  · next hf => exact h.finish_fetch hf (fun _ => trivial)
  · exact endsCanonical_issueAt h

/-! ## What follows from a move at once -/

theorem State.memoriesWf.wakeOne {r : Ref} : (s.wakeOne r).memoriesWf := by
  have hready := h.setStatus (r := r) (st := .ready)
  unfold State.wakeOne
  split
  · exact h
  · split
    · exact h
    · have hwoken : (match (s.setStatus r .ready).warp r.g r.w with
          | some y => if y.sched = Sched.parked ∧ y.running.all (fun f => f.retry.isEmpty) then (s.setStatus r .ready).setSched r.g r.w .pending
            else s.setStatus r .ready
          | none => s.setStatus r .ready).memoriesWf := by
        split
        · exact hready.setSched.ite hready
        · exact hready
      dsimp only
      split
      · next t ht => exact State.memoriesWf.ite (State.memoriesWf_mk.2 (endsCanonical_issueAt h t ht).parts) hwoken
      · exact h

theorem State.memoriesWf.wake : s.wake.memoriesWf := h.foldl (fun _ _ ht => ht.wakeOne)

theorem State.memoriesWf.flushAll : s.flushAll.memoriesWf := h.foldl (fun _ _ ht => ht.ite ht.flush)

theorem State.memoriesWf.takeAll : s.takeAll.memoriesWf := h.foldl (fun _ _ ht => ht.foldl (fun _ _ hu => hu.takeDue))

theorem State.memoriesWf.readLanes : s.readLanes.memoriesWf :=
  h.foldl (fun _ _ ht => ht.foldl (fun _ _ hu => hu.foldl (fun _ _ hw => hw.landRead)))

theorem State.memoriesWf.failOne {r : Ref} : (s.failOne r).memoriesWf := by
  unfold State.failOne
  split
  · exact h
  · split
    · exact h
    · split
      · next t u ht hu => exact State.memoriesWf.ite (State.memoriesWf_mk.2 (endsCanonical_issueAt h t ht).parts) h
      · exact h

theorem State.memoriesWf.failEvent {i : Instr} : (s.failEvent i).memoriesWf := by
  unfold State.failEvent
  split
  · next t u ht hu => exact State.memoriesWf.ite (endsCanonical_exec h t ht) h
  · exact h

theorem State.memoriesWf.failLost : s.failLost.memoriesWf := by
  have hfrags : (s.fragments.foldl State.failOne s).memoriesWf := h.foldl (fun _ _ ht => ht.failOne)
  have hevents : (s.candidates.foldl State.failEvent (s.fragments.foldl State.failOne s)).memoriesWf := hfrags.foldl (fun _ _ ht => ht.failEvent)
  unfold State.failLost
  split
  · exact h
  · exact State.memoriesWf_mk.2 hevents.parts

theorem State.memoriesWf.stampReady : s.stampReady.memoriesWf := State.memoriesWf_mk.2 h.parts

theorem State.memoriesWf.settle : s.settle.memoriesWf :=
  have hidle : ({ s with cur := none } : State).memoriesWf := State.memoriesWf_mk.2 h.parts
  hidle.readLanes.flushAll.recsSettle.failLost.takeAll.serveAll.wake.stampReady

theorem State.memoriesWf.pass : s.pass.memoriesWf := State.memoriesWf_mk.2 (h.lapse).parts

/-! ## The agents (log entry 1) -/

theorem State.memoriesWf.turn : s.turn.2.memoriesWf := by
  unfold State.turn
  split
  · exact State.memoriesWf_mk.2 h.parts
  · exact h

omit h in
theorem EndsCanonical.ite {c : Prop} [Decidable c] {a b : Host.Outcome State Fault Refusal} (ha : EndsCanonical a) (hb : EndsCanonical b) :
    EndsCanonical (if c then a else b) := by
  split
  · exact ha
  · exact hb

theorem endsCanonical_take {a : Turn} : EndsCanonical (s.take a) := by
  cases a with
  | issue r => exact (endsCanonical_issueAt h.wins).ite (endsCanonical_next h)
  | event i => exact (endsCanonical_next h).ite (endsCanonical_exec h)
  | upset r code => exact (endsCanonical_upset h.wins).ite (endsCanonical_next h)
  | decay line => exact endsCanonical_next h.decay
  | decaySpad g window word => exact endsCanonical_next h.decaySpad
  | decayTile g k => exact endsCanonical_next h.decayTile
  | parity core line => exact endsCanonical_next h.parity
  | correct u => exact endsCanonical_next (h.corrected.ite h)
  | station key cls => exact endsCanonical_next (h.ite h.stationMove)
  | spoil key cls => exact endsCanonical_next h.spoil
  | episode ch => exact endsCanonical_damperEpisode h
  | frado g w enter => exact endsCanonical_next h.frado
  | tableCopy second => exact endsCanonical_next h.spoilTable

omit h in
/-- What follows from a move at once keeps canonical what the move left canonical. -/
theorem EndsCanonical.settled {o : Host.Outcome State Fault Refusal} (ho : EndsCanonical o) : EndsCanonical (settled o) := by
  unfold Machine.settled
  split
  · next u => exact endsCanonical_next (ho u rfl).settle
  · exact ho

theorem endsCanonical_step : EndsCanonical (step s) := by
  have hturn : s.pass.turn.2.memoriesWf := h.pass.turn
  rcases ht : s.pass.turn with ⟨_ | a, t⟩ <;> rw [ht] at hturn
  · rw [step_of_no_turn ht]
    exact endsCanonical_next hturn.settle
  · rw [step_of_turn ht]
    exact (endsCanonical_take hturn).settled

end

/-- Settles O58: whatever stores into a memory does so byte by byte (`Memory.wf_put`), by words, by a clear or by a move of bytes, each of which
keeps the canonical form, and every instruction, event and move of an agent is made of those. -/
theorem stepKeepsMemoriesCanonical : Obligations.StepKeepsMemoriesCanonical := fun _ t h ht => endsCanonical_step h t ht

end Sys2Proof.Machine
end
